-- ==== Sys2Proof/Word.lean ====
section
/-! DEFINITION. The register word of BAR0 (02 R32: registers are 32 bits wide) and the byte. -/
namespace Sys2Proof

/-- A BAR0 register (R32). -/
abbrev Word := BitVec 32

/-- A byte of a packet, a table, a tile or a record, as a number below 256 (R2). -/
abbrev Byte := Nat

end Sys2Proof
end

