-- ==== Sys2Proof/Machine/Bits.lean ====
section
/-! DEFINITION. Numbers and bytes: little-endian fields (R2), fixed-point and signed readings (R3),
saturating counts, rounding divisions, and the CRCs of R114, R167 and R193. -/
namespace Sys2Proof.Machine

/-- The little-endian number of a list of bytes (R2). -/
def leNat : List Byte → Nat
  | [] => 0
  | b :: rest => b + 256 * leNat rest

/-- `n` little-endian bytes of `v` (R2). -/
def leBytes : Nat → Nat → List Byte
  | 0, _ => []
  | n + 1, v => (v % 256) :: leBytes n (v / 256)

/-- The two's complement residue of an integer in `n` bits (R3). -/
def toBits (n : Nat) (i : Int) : Nat := (i.emod ((2 : Int) ^ n)).toNat

/-- The signed reading of the low `n` bits of a number (R3). -/
def toSigned (n : Nat) (v : Nat) : Int :=
  let w := v % 2 ^ n
  if 2 * w < 2 ^ n then (w : Int) else (w : Int) - (2 : Int) ^ n

/-- `n` little-endian bytes of a signed number. -/
def leInt (n : Nat) (i : Int) : List Byte := leBytes n (toBits (8 * n) i)

/-- Bits [hi:lo] of a number. -/
def bits (v hi lo : Nat) : Nat := (v / 2 ^ lo) % 2 ^ (hi + 1 - lo)

/-- Bit `i` of a number. -/
def bit (v i : Nat) : Bool := (v / 2 ^ i) % 2 = 1

/-- A Bool as a bit. -/
def b2n (b : Bool) : Nat := if b then 1 else 0

/-- A bit mask of the indices below `n` that satisfy `p`. -/
def maskOf (n : Nat) (p : Nat → Bool) : Nat :=
  (List.range n).foldl (fun acc i => acc + b2n (p i) * 2 ^ i) 0

/-- A saturating count of `n` bits (R36, R208, R247 and the other counters said to saturate). -/
def satAdd (n v k : Nat) : Nat := min (2 ^ n - 1) (v + k)

/-- A wrapping count of `n` bits. -/
def wrapAdd (n v k : Nat) : Nat := (v + k) % 2 ^ n

/-- Clamp to a range. -/
def clampI (lo hi x : Int) : Int := max lo (min hi x)

/-- Saturate to a signed field of `n` bits. -/
def satSigned (n : Nat) (x : Int) : Int := clampI (-((2 : Int) ^ (n - 1))) ((2 : Int) ^ (n - 1) - 1) x

/-- Division rounded up. -/
def ceilDiv (a b : Nat) : Nat := (a + b - 1) / b

/-- *ceil16* of 04 (R83): rounded up to a multiple of 16. -/
def ceil16 (h : Nat) : Nat := ceilDiv h 16 * 16

/-- A quotient rounded to nearest, halves up. -/
def roundHalfUp (a : Int) (b : Nat) : Int := (2 * a + b).fdiv (2 * b)

/-- A quotient rounded to nearest, halves away from zero (R297, R299, R315). -/
def roundAway (a : Int) (b : Nat) : Int :=
  if a < 0 then -((2 * (-a) + b).fdiv (2 * b)) else (2 * a + b).fdiv (2 * b)

/-- The order of R7: the later of two time values, by signed 64-bit difference. -/
def laterThan (t1 t2 : Int) : Bool := decide (0 < toSigned 64 (toBits 64 (t1 - t2)))

/-- One bit of the reflected CRC-32C (R114). -/
def crc32cBit (c : Nat) : Nat := if c % 2 = 1 then (c / 2) ^^^ 0x82F63B78 else c / 2

/-- One byte of the reflected CRC-32C (R114). -/
def crc32cByte (c b : Nat) : Nat :=
  let x := c ^^^ b
  crc32cBit (crc32cBit (crc32cBit (crc32cBit (crc32cBit (crc32cBit (crc32cBit (crc32cBit x)))))))

/-- CRC-32C of a list of bytes (R114). -/
def crc32c (bs : List Byte) : Nat := (bs.foldl crc32cByte 0xFFFFFFFF) ^^^ 0xFFFFFFFF

/-- One bit of the reflected CRC-32 of IEEE 802.3 (R357). -/
def crc32Bit (c : Nat) : Nat := if c % 2 = 1 then (c / 2) ^^^ 0xEDB88320 else c / 2

/-- The frame check sequence of a frame (R357). -/
def fcs (bs : List Byte) : Nat :=
  bs.foldl (fun c b =>
    crc32Bit (crc32Bit (crc32Bit (crc32Bit (crc32Bit (crc32Bit (crc32Bit (crc32Bit (c ^^^ b))))))))) 0xFFFFFFFF ^^^ 0xFFFFFFFF

/-- One bit of the CRC-8 of R167, most significant bit first. -/
def crc8Bit (c : Nat) : Nat := if 128 ≤ c then ((c * 2) % 256) ^^^ 0x07 else c * 2

/-- CRC-8 of a list of bytes (R167). -/
def crc8 (bs : List Byte) : Nat :=
  bs.foldl (fun c b =>
    crc8Bit (crc8Bit (crc8Bit (crc8Bit (crc8Bit (crc8Bit (crc8Bit (crc8Bit (c ^^^ b))))))))) 0

/-- One bit of the CRC-16 of R193, most significant bit first. -/
def crc16Bit (c : Nat) : Nat := if 32768 ≤ c then ((c * 2) % 65536) ^^^ 0x1021 else c * 2

/-- CRC-16 of a list of bytes (R193). -/
def crc16 (bs : List Byte) : Nat :=
  bs.foldl (fun c b =>
    crc16Bit (crc16Bit (crc16Bit (crc16Bit (crc16Bit (crc16Bit (crc16Bit (crc16Bit (c ^^^ (b * 256)))))))))) 0xFFFF

/-- Zero bytes. -/
def zeros (n : Nat) : List Byte := List.replicate n 0

/-- A list of bytes cut or padded with zeros to `n` bytes. -/
def pad (n : Nat) (bs : List Byte) : List Byte := (bs.take n) ++ zeros (n - bs.length)

/-- `k` packed symbols of `w` bits, least significant bit first (R106). -/
def unpackSyms (w k : Nat) (bs : List Byte) : List Nat :=
  let v := leNat bs
  (List.range k).map (fun i => (v / 2 ^ (i * w)) % 2 ^ w)

/-- Packed symbols of `w` bits as a number, least significant first (R106). -/
def packNum (w : Nat) : List Nat → Nat
  | [] => 0
  | x :: rest => x % 2 ^ w + 2 ^ w * packNum w rest

/-- Packed symbols of `w` bits as bytes, unused high bits 0 (R106). -/
def packSyms (w : Nat) (xs : List Nat) : List Byte :=
  leBytes (ceilDiv (xs.length * w) 8) (packNum w xs)

/-- Sum of a list. -/
def sumNat (xs : List Nat) : Nat := xs.foldl (· + ·) 0

/-- Largest element, 0 of none. -/
def maxNat (xs : List Nat) : Nat := xs.foldl max 0

/-- Sum of a list of integers. -/
def sumInt (xs : List Int) : Int := xs.foldl (· + ·) 0

/-- Change the element at an index of a list. -/
def modAt {α : Type} (f : α → α) : Nat → List α → List α
  | _, [] => []
  | 0, x :: rest => f x :: rest
  | n + 1, x :: rest => x :: modAt f n rest

/-- Overwrite a stretch of a list of bytes with another, from an index on. -/
def splice (at_ : Nat) (new old : List Byte) : List Byte :=
  old.take at_ ++ new ++ old.drop (at_ + new.length)

end Sys2Proof.Machine
end

