-- ==== Sys2Proof/Machine/Table.lean ====
section
/-! DEFINITION. Sparse tables: per-instance registers and per-nozzle entries (01 "On-chip SRAM"),
held as a sorted list of (index, value) pairs that lists no value equal to the reset value. -/
namespace Sys2Proof

/-- A table of values by index; an index that is not listed reads as the table's reset value. -/
structure Table (α : Type) where
  entries : List (Nat × α) := []
deriving DecidableEq, Repr

namespace Table
variable {α : Type}

/-- The listed value at `i`, or `d`. -/
def find (d : α) (i : Nat) : List (Nat × α) → α
  | [] => d
  | (j, v) :: rest => if j = i then v else find d i rest

/-- Read index `i`; `d` is what an unlisted index reads as. -/
def get (d : α) (t : Table α) (i : Nat) : α := find d i t.entries

/-- Put a pair at its place in a rising list. -/
def place (i : Nat) (v : α) : List (Nat × α) → List (Nat × α)
  | [] => [(i, v)]
  | (j, w) :: rest => if i < j then (i, v) :: (j, w) :: rest else (j, w) :: place i v rest

/-- The list without index `i`. -/
def erase (i : Nat) : List (Nat × α) → List (Nat × α)
  | [] => []
  | (j, w) :: rest => if j = i then erase i rest else (j, w) :: erase i rest

/-- Write `v` at index `i`. Writing the reset value removes the entry, so equal tables are equal data. -/
def set [DecidableEq α] (d : α) (t : Table α) (i : Nat) (v : α) : Table α :=
  ⟨if v = d then erase i t.entries else place i v (erase i t.entries)⟩

/-- Rising indices from a lower bound on. -/
def rising : Nat → List (Nat × α) → Bool
  | _, [] => true
  | n, (j, _) :: rest => decide (n ≤ j) && rising (j + 1) rest

/-- The canonical form: indices strictly rise and no entry holds the reset value. -/
def wf [DecidableEq α] (d : α) (t : Table α) : Bool :=
  rising 0 t.entries && t.entries.all (fun e => decide (e.2 ≠ d))

/-- How many listed entries satisfy `p`. -/
def count (p : α → Bool) (t : Table α) : Nat := (t.entries.filter (fun e => p e.2)).length

/-- The listed indices. -/
def keys (t : Table α) : List Nat := t.entries.map (fun e => e.1)

end Table
end Sys2Proof
end

