-- ==== Sys2Proof/Machine/BlocksHost.lean ====
section
/-! DEFINITION. The state of the host-side blocks as plain data: system and power (18), host
interface and events (02), geometry (03), page contexts (04), decoders and service compression (05).
Every field's default is its value at reset; a comment names the rule that gives the field. -/
namespace Sys2Proof.Machine

/-- A change that is committed and waits for its boundary (R25), with its commit tick. -/
structure Staged (α : Type) where
  val : α
  tick : Nat
deriving DecidableEq, Repr

/-- What host memory answers to the reads of a command (R48): the bytes, or the cause of R59's
DMA_ERROR (0 completer abort, 1 unsupported request, 2 poisoned data, 3 completion timeout) and the
address that failed. -/
inductive HostRead where
  | ok (bytes : List Byte)
  | fail (cause addr : Nat)
deriving DecidableEq, Repr

/-- Where DORMANT entry stands (R417). -/
inductive Dormant where
  | awake                     -- not entering
  | entering (since : Nat)    -- completion written, outputs still as before
  | outputsOff (since : Nat)  -- 200 ticks after the completion
  | asleep (since : Nat)      -- PWR_ON has fallen; `since` is the tick in which it fell
deriving DecidableEq, Repr

/-- A firmware update at work (R414): its command, slot and image. -/
structure FwJob where
  cmd : Nat
  slot : Nat
  image : List Byte
deriving DecidableEq, Repr

/-- System, power, clocks and reset (chapter 18; R19, R54 SYS). -/
structure Sys where
  held : Bool := true                 -- R404: the device is in reset, before reset release
  perstLow : Bool := true             -- R404, R406: PERST_N is asserted
  sysResetLow : Bool := true          -- R404, R406: SYS_RESET_N is asserted
  railsOk : Nat := 0                  -- R399 PWR_RAIL_STATUS.IN_RANGE, 10 bits
  railsLost : Nat := 0                -- R399 PWR_RAIL_STATUS.LOST, 10 bits, RW1C
  railLostAt : Option Nat := none     -- R402: tick in which a rail was last known out of range, in the reset that a lost rail caused
  pllLock : Nat := 0                  -- SYS_PLL_STATUS[3:0]: root, memory, SerDes, Ethernet
  pllLoss : Nat := 0                  -- SYS_PLL_STATUS[11:8], RW1C
  rootLostAt : Option Nat := none     -- R404: tick in which the root PLL last lost lock
  serLostAt : Option Nat := none      -- tick in which the SerDes PLL was lost
  straps : Nat := 0                   -- R405 SYS_STRAPS, 4 bits
  kind : Nat := 1                     -- R406 SYS_RESET_CAUSE.KIND
  causes : List Nat := [1]            -- R406: causes since the previous reset release
  wdog : Nat := 0                     -- R407 SYS_RESET_CAUSE.WDOG, saturating 16
  imageRun : Nat := 0                 -- R411, R412 SYS_BOOT_STATUS.IMAGE
  reason0 : Nat := 0                  -- R411 SLOT0_REASON
  reason1 : Nat := 0                  -- R411 SLOT1_REASON
  rollback : Nat := 0                 -- R410 ROLLBACK_FUSE, 6 bits
  keyRevoked : Nat := 0               -- R410 KEY_REVOKED, 4 bits
  board : List Byte := []             -- R409: flash, board block; what the list does not reach is erased and reads 0xFF
  area : List Byte := []              -- R409: flash, the machine builder's area
  slot0 : List Byte := []             -- R409: flash slot 0
  slot1 : List Byte := []             -- R409: flash slot 1
  runHeader : List Byte := []         -- R410: header of the image that runs
  fwJob : Option FwJob := none        -- R414
  memTrained : Nat := 0               -- R413 SYS_MEM_STATUS.TRAINED
  memFailed : Nat := 0                -- R413 FAILED
  boardBad : Bool := false            -- R413 BOARD_BAD
  memGib : Nat := 0                   -- R413 GIB
  ceCount : Nat := 0                  -- R19 SYS_SRAM_CE_COUNT, saturating 32
  failed : Nat := 0                   -- R19, R54: failed-block bitmap, 16 bits
  sramLate : Bool := false            -- R99 limit 3: a double-bit error in a cursor, ring or per-nozzle table
  sramBad : Bool := false             -- R386 cause 1: a double-bit error in a store named there
  dormant : Dormant := .awake         -- R417
  pwrOn : Bool := true                -- R418, R445 PWR_ON pin
  wakeEvents : Nat := 0               -- R418 PWR_WAKE_STATUS.EVENTS, saturating 16
  wakeN : Nat := 0                    -- R416 WAKE_N
  wakeThr : Nat := 0                  -- R416 THR
  wakeFalling : Bool := false         -- R416 FALLING
  scratch : Table (BitVec 32) := {}   -- R419 PWR_SCRATCH
  fwAuthAt : Option Nat := none       -- R376: tick in which FW_AUTH rose
  restarting : Bool := false          -- R407: command processor restart at work
  slotBad : Bool := false             -- R407: the slot it booted from did not pass when authenticated again
  memDone : Bool := false             -- R413: training has ended, or recovery trains none
  fallbackDue : Bool := false         -- R411: FW_FALLBACK to be written when HIF_READY rises
deriving DecidableEq, Repr

/-- A submission and completion ring pair (R36 to R40). -/
structure Ring where
  sqBase : Nat := 0
  cqBase : Nat := 0
  enable : Bool := false
  sqLog2 : Nat := 6
  cqLog2 : Nat := 6
  vector : Nat := 0
  irqEn : Bool := false
  coalCount : Nat := 1
  coalTime : Nat := 0
  stopped : Bool := false             -- R459: stopped by an error until disabled and enabled again
  error : Bool := false
  errCause : Nat := 0
  head : Nat := 0                     -- HIF_SQ_HEAD
  tail : Nat := 0                     -- R38: last tail accepted
  cqWrite : Nat := 0                  -- R38: next completion entry the device will write
  cqHead : Nat := 0                   -- R38: last completion head accepted
  phase : Bool := true                -- R39
  irqCount : Nat := 0                 -- R53: entries since the last interrupt
  irqFirst : Option Nat := none       -- R53: tick of the first counted entry
deriving DecidableEq, Repr

/-- The event ring (R36, R37, R51, R53). -/
structure EventRing where
  base : Nat := 0
  enable : Bool := false
  log2 : Nat := 6
  vector : Nat := 0
  irqEn : Bool := false
  coalCount : Nat := 1
  coalTime : Nat := 0
  write : Nat := 0
  head : Nat := 0
  phase : Bool := true
  stopped : Bool := false             -- R59, R459: stopped by an error
  lost : Nat := 0                     -- HIF_EQ_LOST, saturating 32
  irqCount : Nat := 0
  irqFirst : Option Nat := none
deriving DecidableEq, Repr

/-- Where a fetched command stands (R42 to R45, R380). -/
inductive CmdPhase where
  | fetched                                             -- not started
  | waiting (order start : Nat)                         -- waits under AT_BOUNDARY since tick `start`
  | mirroring (tag sent : Nat) (commit : Option Nat)    -- R380: CHANGE sent; pair tick T once ACKed
  | running                                             -- committed, before its completion point
  | completing (status : Nat) (results : List Byte)     -- R46: at its completion point; written when the tick ends
deriving DecidableEq, Repr

/-- A command fetched from a ring and not yet completed (R40, R41). -/
structure Cmd where
  id : Nat
  ring : Nat
  packet : List Byte
  host : HostRead := .ok []
  phase : CmdPhase := .fetched
deriving DecidableEq, Repr

/-- An MSI-X table entry as the PCIe specification defines it. -/
structure MsixEntry where
  addrLo : BitVec 32 := 0
  addrHi : BitVec 32 := 0
  data : BitVec 32 := 0
  ctl : BitVec 32 := 1
deriving DecidableEq, Repr

/-- The host interface (R36 to R49). -/
structure Hif where
  ready : Bool := false
  fwAuth : Bool := false
  fwFallback : Bool := false
  linkGen : Nat := 0
  linkWidth : Nat := 0
  linkDown : Bool := true             -- R35: the link is down
  epoch : Nat := 0
  timeB : Bool := false
  discard : Nat := 0                  -- HIF_MMIO_DISCARD, saturating 32
  rings : Table Ring := {}
  eq : EventRing := {}
  msix : Table MsixEntry := {}
  pba : List Nat := []                -- MSI-X pending bit array: vectors whose bit is set
  msixDue : List Nat := []            -- R53: vectors triggered in this tick, sent at its end
  inflight : List Cmd := []           -- R40: fetched and not completed, in fetch order
  gone : List Cmd := []               -- R35, R459: committed commands that run on and write no completion
  nextId : Nat := 1                   -- fetch order of the next command
  nextStart : Nat := 0                -- R45: start order of the next waiting command
  turn : Nat := 0                     -- R46: one past the ring served last
  turnTick : Nat := 0                 -- R46: tick of the last command start
  d3hot : Bool := false               -- R29: the function's power state: D3hot, else D0
  aspmL1 : Bool := false              -- R29: ASPM L1 is enabled
  aerCorr : Bool := false             -- R29: a correctable error has been reported
  aerNonfatal : Bool := false         -- R29: a non-fatal error has been reported
  aerFatal : Bool := false            -- R29: a fatal error has been reported
  bar0 : Nat := 0                     -- R31: base address of BAR0, 64 bits
  bar2 : Nat := 0                     -- R31: base address of BAR2, 64 bits
  coalDue : List Nat := []            -- R53: rings (4: event ring) whose coalescing timer has expired in this tick
  refused : List (Nat × Nat) := []    -- R36, R59: host memory, by address and length, whose writes fail (log entry 120)
  failedWrites : List (Nat × Nat × Nat) := [] -- R59: ring (4: event ring), index and address of writes that failed in this tick
deriving DecidableEq, Repr

/-- An event record before it is placed in the ring (R50). -/
structure Rec where
  code : Nat
  sev : Nat
  unit : Nat
  seq : Nat
  time : Nat
  timeB : Bool
  args : List Byte
deriving DecidableEq, Repr

/-- Event record state: sequence, backlog, losses and mask (R50 to R52, R59). -/
structure Evt where
  seq : Nat := 0
  backlog : List Rec := []
  heldError : Option Rec := none      -- R59: RING_ERROR of the event ring, held apart
  lost : Nat := 0                     -- lost since the previous EVENTS_LOST
  lostFirst : Nat := 0
  lostLast : Nat := 0
  threshold : List Nat := []          -- R52, by opcode range from 1 on; a missing one is 0
  suppress : List Nat := []           -- R52
  maskNext : Option (Staged (List Nat × List Nat)) := none -- R52: mask committed, for later ticks
deriving DecidableEq, Repr

/-- A head class (R61); BITS = 0 means the class is not defined. `raw` is GEO_HEADCLASS bytes 8 to 63. -/
structure HeadClass where
  bits : Nat := 0
  dies : Nat := 0
  rows : Nat := 0
  nozzles : Nat := 0
  spare : Nat := 0
  minPeriod : Nat := 0
  spareOf : Nat := 0
  rowOff : List Nat := []
  raw : List Byte := []
deriving DecidableEq, Repr

/-- The placement of a head slot (R63); CLASS = 0xFF means the slot is empty. -/
structure HeadPlace where
  cls : Nat := 0xFF
  disabled : Bool := false
  webLines : Nat := 0
  webFrac : Nat := 0
  crossPos : Nat := 0
  crossDir : Nat := 0
  raw : List Byte := []
deriving DecidableEq, Repr

/-- A set of geometry, staged or committed (R71): classes by number, heads by LANE × 8 + SLOT, runs
and exceptions as the entries were read (R70). -/
structure GeoSet where
  classes : Table HeadClass := {}
  heads : Table HeadPlace := {}
  runs : List (List Byte) := []
  excs : List (List Byte) := []
deriving DecidableEq, Repr

/-- A committed generation (R72, R74). `serial` counts commits, so it orders generations (R78). -/
structure Gener where
  serial : Nat := 0
  set : GeoSet := {}
  crc : Nat := 0
deriving DecidableEq, Repr

/-- Geometry (chapter 03). -/
structure Geo where
  staged : GeoSet := {}
  gens : List Gener := []             -- generations in use, in commit order (R76)
  active : Nat := 0                   -- serial of the active generation; 0: none
  pending : Nat := 0                  -- serial of the pending generation; 0: none
  pendingTick : Nat := 0              -- R74: tick of its commit
  lastSerial : Nat := 0
deriving DecidableEq, Repr

/-- The state of a page context (R80). -/
inductive PageState where
  | free | loading | staged | verified | queued | printing | done | aborted
deriving DecidableEq, Repr

/-- What a tile entry names (R85). -/
inductive TileKind where
  | host (addr len : Nat)
  | ref (ctx plane strip row : Nat)
  | blank
deriving DecidableEq, Repr

/-- A tile of a page: its entry (R85) and what verification found (R86, R89, R117). -/
structure Tile where
  plane : Nat
  strip : Nat
  row : Nat
  kind : TileKind
  entry : List Byte := []             -- R381: the 16 bytes of the entry
  tag : Nat := 0                      -- R59: TAG of the PAGE_ADD_TILES that named it
  bytes : Option (List Byte) := none  -- the tile in local DRAM, once pulled (R86)
  readFail : Option Nat := none       -- R89 check 2: cause of a failed pull
  decoded : Bool := false             -- decoded by verification
  reason : Nat := 0                   -- R116
  offset : Nat := 0                   -- R461 byte offset of the failure
  lcyc : Nat := 0                     -- R119
  image : List (List Nat) := []       -- R113: last HL lines of its output, newest first
  depth : Nat := 1                    -- BITS of the image
deriving DecidableEq, Repr

/-- How a page's start was fixed (R94, R96). -/
inductive StartKind where
  | follow | placed | chained
deriving DecidableEq, Repr

/-- A page context (R80 to R102). -/
structure Ctx where
  state : PageState := .free
  cause : Nat := 0
  succ : Nat := 0
  pred : Nat := 0
  gen : Nat := 0                      -- serial of the generation carried; 0 before close
  floor : Nat := 0                    -- P
  cmax : Nat := 0
  cmaxWin : Nat := 0
  pfit : Nat := 0
  lines : Nat := 0
  period : Nat := 0
  strict : Bool := false
  slowOk : Bool := false
  tiles : List Tile := []
  costs : Table Nat := {}             -- M_d by die index (R93)
  engines : Nat := 0                  -- NE at admission (R90, R99)
  start : Option Nat := none          -- S
  startKind : StartKind := .follow
  gap : Nat := 0                      -- GAP used (R94, R145)
  breaks : Nat := 0                   -- R102: held breaks taken
  inBreak : Bool := false             -- R97: a held break waits for this segment
  predDone : Bool := false            -- R96: its predecessor has reached DONE
  behind : Nat := 0                   -- R94: the page that PAGE_QUEUE placed it behind
  nominal : Nat := 0                  -- R97: start without the held break
  gapAt : Option Nat := none          -- R97: V, at whose trigger SEGMENT_GAP is written
  setTick : Nat := 0                  -- R97: tick in which V was counted
  floorsNext : List (Staged Nat) := [] -- R25, R100: floors raised, each for the first line boundary after its tick
  closeCmd : Option Nat := none       -- PAGE_CLOSE not yet complete
  abortCmds : List Nat := []          -- PAGE_ABORTs of a PRINTING page not yet complete
  abortAt : Option Nat := none        -- R98: first press line that carries level 0
  abortCause : Nat := 0
  waitsPred : Bool := false           -- R462: verification waits at check 7
deriving DecidableEq, Repr

/-- A PAGE_STATE_CHANGE of the present tick whose press line is not yet known (R101): the context, its new and old state, CAUSE and
start. -/
structure PageNote where
  ctx : Nat
  new : PageState
  old : PageState
  cause : Nat
  start : Option Nat
deriving DecidableEq, Repr

/-- Page queue (chapter 04): contexts 1 to 255 and the order of the queue. -/
structure Pgq where
  ctxs : Table Ctx := {}
  queue : List Nat := []
  notes : List PageNote := []         -- R101: changes of a tick in which a line may still be triggered
  lastBoundary : Option Nat := none   -- R26, R45: tick of the last page boundary
deriving DecidableEq, Repr

/-- Verification registers (chapter 05). -/
structure Dec where
  verified : Nat := 0                 -- DEC_VERIFY_COUNT, saturating 32
  invalid : Nat := 0                  -- DEC_INVALID_COUNT, saturating 32
  lastReason : Nat := 0
  lastCtx : Nat := 0
  lastStrip : Nat := 0
  lastPlane : Nat := 0
  lastOffset : Nat := 0
  lastRow : Nat := 0
deriving DecidableEq, Repr

/-- The state of a service stream (R121). -/
inductive StreamState where
  | closed | compress | decompress | attached
deriving DecidableEq, Repr

/-- A service stream context (R121 to R127). -/
structure Stream where
  state : StreamState := .closed
  effort : Nat := 0
  hist : List Byte := []              -- newest byte first; bytes before the stream read 0
  fresh : Bool := true                -- R122: the next block is the first since open or restore
  blocks : Nat := 0
  bytesIn : Nat := 0
  bytesOut : Nat := 0
deriving DecidableEq, Repr

/-- A block in progress or waiting on a stream (R121, R122, R125), or a save (R126). -/
structure CmpJob where
  cmd : Option Nat                    -- command to complete; none for a camera block
  stream : Nat
  decompress : Bool
  unit : Option Nat                   -- unit at work; none: waits
  input : List Byte
  outAddr : Nat
  outLocal : Bool
  outCap : Nat
  fresh : Bool
  camHeader : List Byte := []         -- R241: archive header of a camera block
deriving DecidableEq, Repr

/-- A CMP_SAVE not yet complete (R126): its command, stream, address and image. -/
structure CmpSave where
  cmd : Nat
  stream : Nat
  addr : Nat
  image : List Byte
deriving DecidableEq, Repr

/-- Service compression (R120 to R128). -/
structure Cmp where
  inService : Nat := 3                -- CMP_IN_SERVICE
  streams : Table Stream := {}
  jobs : List CmpJob := []            -- in the order in which their commands started
  saves : List CmpSave := []
deriving DecidableEq, Repr

end Sys2Proof.Machine
end

