-- ==== Sys2Proof/Machine/BlocksPrint.lean ====
section
/-! DEFINITION. The state of the print path as plain data: fetch and mallet engines (06), fire
pacing (07), the Snare head link (08), substitution (09). -/
namespace Sys2Proof.Machine

/-- A page that a beat reads, as FORM fixed it (R129, R135): its context, start, generation and LINES. -/
structure BeatPage where
  ctx : Nat
  start : Nat
  gen : Nat
  lines : Nat
deriving DecidableEq, Repr

/-- A beat: the work of one die for the 16 lines from press line `x` on (R134, R135). -/
structure Beat where
  die : Nat                           -- NZA[20:11]
  x : Nat
  cost : Nat                          -- planned cost, M_d
  gen : Nat                           -- serial of the generation active at FORM
  pages : List BeatPage               -- pages whose lines the die reads in the window
  reverse : List Bool := []           -- by line: the line lies in a reverse pass (R65)
  ladder : Bool := false              -- R149
  ladderNoz : List (List Nat) := []   -- R256: by line, nozzles of the die that fire MAX
  line : Nat := 0                     -- next line to write
  clocks : Nat := 192                 -- CORE clocks of its setup and of the lines written
  ran : Nat := 0                      -- R150: ticks its engine has run it, WAIT left out
  handed : Bool := false              -- R143: handed on by an engine that left service
  ecc : Bool := false                 -- R118: a tile that it reads met an uncorrected memory fault
deriving DecidableEq, Repr

/-- A mallet engine (R137 to R150). -/
structure Engine where
  offline : Bool := false             -- MAL_ENG_CTL.OFFLINE
  outCause : Nat := 0                 -- R150
  ctx0 : Option Beat := none          -- R138: two beat contexts
  ctx1 : Option Beat := none
  cur : Nat := 0                      -- context worked on
  beats : Nat := 0                    -- saturating 32
  clusterSteals : Nat := 0            -- saturating 16
  globalSteals : Nat := 0             -- saturating 16
  busy : Nat := 0                     -- busy CORE clocks
  overs : Nat := 0                     -- saturating 32
deriving DecidableEq, Repr

/-- A die's segment in a ring slot: READY with its levels (R144). -/
structure Segment where
  die : Nat
  levels : List Nat
deriving DecidableEq, Repr

/-- A line slot of a lane staging ring (R144). -/
structure Slot where
  line : Option Nat := none
  ready : List Segment := []
deriving DecidableEq, Repr

/-- A lane's staging ring (R144 to R148). -/
structure LaneRing where
  depth1 : Bool := false
  slots : Table Slot := {}
  lastReady : Nat := 0
  late : Nat := 0                     -- saturating 32
  underrun : Nat := 0                 -- saturating 32
deriving DecidableEq, Repr

/-- A strip cursor: one reader's decoder state (R132, R133). -/
structure Cursor where
  die : Nat
  row : Nat                           -- row table index
  plane : Nat
  strip : Nat
  ctx : Nat := 0                      -- page context it reads; 0: none
  tileRow : Nat := 0
  line : Nat := 0                     -- next line of the tile
  offset : Nat := 8                   -- byte offset of the next token
  hist : List (List Nat) := []        -- last HL decoded lines, newest first
  owed : Nat := 0                     -- drops owed by an unfinished token: none at a line boundary (R109)
  bad : Bool := false                 -- R118: the rest of the tile is level 0
deriving DecidableEq, Repr

/-- Fetch and mallet engines (chapter 06). -/
structure Mal where
  engines : Table Engine := {}
  formed : List Beat := []            -- formed, waiting for RELEASE
  queued : List Beat := []            -- released and not started: the home queues together
  rings : Table LaneRing := {}
  cursors : List (Nat × Cursor) := [] -- by cursor number
  indexMiss : Nat := 0                -- FET_INDEX_MISS, saturating 32
  formLate : Nat := 0                 -- FET_FORM_LATE, saturating 32
  blankOnly : Nat := 0                -- FET_STATUS.BLANK_ONLY
  formedTo : Nat := 0                 -- press line from which no window has been formed (R135)
  blanks : List (Nat × Nat) := []     -- R134: die and X of the blank beats, READY with level 0
  missed : List (Nat × Beat) := []    -- R404: press lines whose segment a failed DRAM access kept from being written
deriving DecidableEq, Repr

/-- The tables substitution works from (R209, R211, R222). -/
structure SubTables where
  defects : Table Nat := {}           -- by nozzle index: STATE, AUTO in bit 3
  index : Table Nat := {}             -- level-map index by nozzle index
  maps : Table (List Nat) := {}       -- by class × 16 + map
  policy : Table Nat := {}            -- FLAGS by class
deriving DecidableEq, Repr

/-- Lines since the last record of a lane and what it counted (R162, R200, R224). -/
structure RateLimit where
  last : Option Nat := none           -- press line of the last record
  count : Nat := 0                    -- counted since then
  first : Nat := 0                    -- the first one counted since then
deriving DecidableEq, Repr

/-- A SUB change that a verdict or a new generation made, as it reaches the shadow (R216, R218, R248). -/
structure SubVerdict where
  tick : Nat                          -- pair tick of its commit
  stamp : Nat                         -- L_c
  values : List (Nat × Nat)           -- nozzles changed, with STATE and AUTO after it
  verdict : Bool := true              -- R224: made by a verdict, not by a new generation
deriving DecidableEq, Repr

/-- Substitution (chapter 09). -/
structure Sub where
  cur : SubTables := {}               -- with every committed change
  plans : List (Nat × SubTables) := [] -- R217: press line from which each takes effect, oldest first
  lastStamp : Nat := 0                -- SUB_LAST_STAMP, L_c
  effectLine : Nat := 0               -- SUB_EFFECT_LINE
  lost : Nat := 0                     -- saturating 32
  clipped : Nat := 0                  -- saturating 32
  dieLost : Table Nat := {}           -- saturating 32
  laneLost : Table RateLimit := {}    -- R224 accounting
  hostAt : Table Nat := {}            -- R259: by nozzle, pair tick + 1 of the last SUB_DEFECTS entry that named it
  resetAt : Nat := 0                  -- pair tick + 1 of the last RESET_ALL
  leadStamp : Option Nat := none      -- R218: during a shadow's mirrored commit, the stamp that the lead passed with it
  verdicts : List SubVerdict := []    -- R218, R248: a lead's SUB changes by verdicts and generations since its last snapshot
  atCopy : SubTables := {}            -- R384: a shadow's tables at its own snapshot
deriving DecidableEq, Repr

/-- PACE_CONFIG's fields (R172). -/
structure PaceCfg where
  source : Nat := 0
  scanning : Bool := false
  slipEnc : Nat := 0xFF
  dirInvert : Bool := false
  passes : Nat := 0
  backTol : Nat := 2
  slipKp : Nat := 0
  pitch : Nat := 0                    -- 32.32
  rNom : Nat := 0                     -- 32.32
  slipKi : Nat := 0
  slipMax : Nat := 0
  fireLat : Nat := 0
  passLines : Nat := 0
  pressFloor : Nat := 0
  origin : Int := 0                   -- Q32.32
  corrMax : Nat := 0                  -- 16.16
deriving DecidableEq, Repr

/-- FIR_STATUS.STATE (07). -/
inductive PaceState where
  | stopped | running | hold | halted
deriving DecidableEq, Repr

/-- A stop that waits for its last trigger (R174). -/
structure StopWait where
  cmd : Nat
  whenKind : Nat
  line : Nat
  halt : Bool
deriving DecidableEq, Repr

/-- Fire pacing (chapter 07). -/
structure Fir where
  cfg : PaceCfg := {}
  cfgDone : Bool := false             -- R173: PACE_CONFIG was accepted
  ratioNext : Option (Staged PaceCfg) := none -- R172: RATIO_ONLY change, for the next line boundary
  role : Nat := 0
  state : PaceState := .stopped
  between : Bool := false             -- R165: between passes
  holding : Bool := false             -- R166: in HOLD
  q : Int := 0                        -- Q, units of 2^-32 count (R153)
  cFrac : Int := 0                    -- what the ticks' shares of C left over, numerator over 4,000
  e0 : Int := 0                       -- R153
  ehLast : Int := 0                   -- R296: the slip encoder's count after hysteresis, when its change was last taken
  ehSum : Int := 0                    -- R296: its changes taken since PACE_START
  c : Int := 0                        -- R154, units of 2^-32 count
  trim : Int := 0                     -- Q1.31 (FIR_TRIM)
  planSteps : Int := 0                -- R154: pacing steps in the planning tick at work
  hwm : Int := 0                      -- R157, σ × Q
  retreated : Bool := false
  noSlip : Bool := false
  capped : Bool := false
  qStart : Int := 0
  dist : Nat := 0
  firstLine : Nat := 0
  firstDir : Nat := 0
  passNo : Nat := 0                   -- passes begun before the present one
  passStart : Nat := 0                -- press line of line 0 of the present or next pass
  nextLine : Nat := 0
  lastLine : Option Nat := none       -- last press line triggered since reset
  startTick : Nat := 0                -- tick of the commit of PACE_START
  trigTick : Option Nat := none       -- tick of the last trigger (R158: one a tick)
  tLast : Option Int := none          -- T_LAST, taps (R161)
  per : Nat := 0                      -- FIR_PERIOD
  floor : Nat := 0                    -- FIR_FLOOR
  ceil : Nat := 0xFFFFFFFF            -- FIR_CEILING
  drops : Nat := 0
  held : Nat := 0
  retreats : Nat := 0
  gongCrc : Nat := 0
  gongMissed : Nat := 0
  haltLines : Nat := 0
  noSlipMap : Table Bool := {}        -- FIR_NOSLIP_MAP by context
  dropRec : RateLimit := {}           -- R162
  stopWait : List StopWait := []
  gen : Nat := 0                      -- R77: serial of the generation in force for the line
  haltDrive : Bool := false
  haltCause : Nat := 0                -- R177: cause of its own drive
  paced : Bool := false               -- R171, R174: triggers are raised, also in HALTED
  goodFrameAt : Option Nat := none    -- R170: tick of the last good Gong frame
  goodLine : Nat := 0
  goodSeq : Nat := 0
  gongSeq : Nat := 0                  -- SEQ of the next frame sent
  gongSentAt : Option Nat := none     -- R168: tick in which the last frame started
  stepLevel : Bool := false           -- R151: accepted level of PACE_STEP
  lastEdge : Option Nat := none       -- tick of the last accepted edge
  lastInterval : Option Nat := none   -- R151: last STEP interval, ticks
  lastDir : Int := 1                  -- sign of the last step
  holdTick : Nat := 0                 -- R166: tick of the last hold trigger
deriving DecidableEq, Repr

/-- A head's status from the hub (R201). -/
structure HeadStat where
  temp : Nat := 0                     -- Q8.8, 16 bits
  state : Nat := 0
  fault : Nat := 0
deriving DecidableEq, Repr

/-- A message to a hub that waits for its reply (R202). -/
structure HeadMsg where
  cmd : Nat
  tag : Nat
  deadline : Nat
  replyAddr : Nat
deriving DecidableEq, Repr

/-- An eye scan at work (R203). -/
structure EyeScan where
  cmd : Nat
  phStep : Nat
  vStep : Nat
  dwell : Nat
  addr : Nat
  start : Nat                         -- start time, ns
  cut : Bool := false                 -- the lane has left UP
deriving DecidableEq, Repr

/-- The state of a Snare lane (R183). -/
inductive LaneState where
  | off | train | align | ident | time | up | failed
deriving DecidableEq, Repr

/-- What a lane's transmitter sends beside AMs (R190, R193, R202): its press line, where it has one, and its bytes, 8 for each block. -/
inductive TxItem where
  | frame (line : Nat) (bytes : List Byte)
  | nofire (line : Nat) (bytes : List Byte)
  | message (bytes : List Byte)
deriving DecidableEq, Repr

/-- A Snare lane (chapter 08). -/
structure Lane where
  txPreset : Nat := 0
  txInv : Bool := false
  rxInv : Bool := false
  autoRetrain : Bool := false
  ctl : Nat := 0                      -- SNR_LANE_CTL as taken at the last entry to TRAIN
  ignoreId : Bool := false
  wantPort : Nat := 2
  state : LaneState := .off
  cause : Nat := 0
  port : Nat := 0
  hubLane : Nat := 0
  hubSetup : Nat := 0
  locked : Bool := false
  hdrRun : Nat := 0                   -- R179: valid sync headers in a row while without lock
  hdrWin : List Bool := []            -- R179: the last 64 sync headers under lock, newest first; true: valid
  amAt : Option Nat := none           -- R183: arrival of the last upstream AM in ALIGN, in UI
  missed : Nat := 0                   -- AM positions in a row without a valid AM
  delays : List Int := []             -- last 16 accepted RTT − TURN (2 × DELAY), in UI, newest first
  rejRow : Nat := 0                   -- R187: rejections in a row
  bound : Nat := 0                    -- B; 0 when not UP
  syncErr : Nat := 0
  syncUp : Nat := 0                   -- R208: sync errors since UP, saturating 32
  lockLoss : Nat := 0
  amErr : Nat := 0
  msgErr : Nat := 0
  timeRej : Nat := 0
  cmp1 : Nat := 0
  cmp2 : Nat := 0
  cmp3 : Nat := 0
  cmp4 : Nat := 0
  skip : Nat := 0
  cmpRec : RateLimit := {}            -- R200: record limit
  cmpSince : List Nat := [0, 0, 0, 0] -- R200: reports by KIND since the last record
  cmpKind : Nat := 0                  -- KIND of the first report counted
  cmpLine : Nat := 0                  -- its LINE
  amSeq : Nat := 0                    -- AM_SEQ of the next downstream AM
  departs : Table Nat := {}           -- t1 of each AM_SEQ, in UI, plus 1
  trainAt : Nat := 0                  -- tick of entry to TRAIN
  upAt : Nat := 0                     -- tick of entry to UP
  lastSent : Nat := 0                 -- R208: last press line whose frame or NOFIRE block has started
  heads : Table HeadStat := {}
  msg : Option HeadMsg := none
  msgTag : Nat := 0
  wire : Option (TxItem × Nat) := none -- R194: what is on the wire, and the tick in which it ends
  txWait : List TxItem := []          -- R194: line frames that wait, in press-line order
  msgWait : Option (List Byte) := none -- R194: a message that waits
  scan : Option EyeScan := none
deriving DecidableEq, Repr

/-- An SNR_LANE_ENABLE not yet complete: its command and lanes (R205). -/
structure EnableWait where
  cmd : Nat
  lanes : Nat
deriving DecidableEq, Repr

/-- The Snare head link (chapter 08). -/
structure Snr where
  lanes : Table Lane := {}
  waits : List EnableWait := []
deriving DecidableEq, Repr

end Sys2Proof.Machine
end

