-- ==== Sys2Proof/Machine/BlocksSense.lean ====
section
/-! DEFINITION. The state of the sensing and motion blocks as plain data: cameras (10), streak
detection (11), motion axes (12), position feedback (13). -/
namespace Sys2Proof.Machine

/-- One CCI or I²C write transfer in a master's queue (R230). -/
structure CciXfer where
  unit : Nat
  expset : Nat
  bytes : List Byte
  last : Bool
  order : Nat := 0                    -- place of its set in commit order
deriving DecidableEq, Repr

/-- A CSI-2 port and its CCI master (R226). -/
structure CamPort where
  lanes : Nat := 0                    -- 0: disabled
  speed : Nat := 0
  rate : Nat := 0
  laneMap : Nat := 0
  polarity : Nat := 0
  deskewed : Bool := false
  eccCorr : Nat := 0
  eccUncorr : Nat := 0
  crcErr : Nat := 0
  dtDiscard : Nat := 0
  cci : List CciXfer := []            -- transfers in commit order; the head is on the bus
deriving DecidableEq, Repr

/-- A sensor descriptor (R229). -/
structure SensorDesc where
  dt : Nat
  layout : Nat
  chOrder : Nat
  width : Nat
  stripH : Nat
  minLine : Nat
  delay : Nat
  bus : Nat
  addr : Nat
  abytes : Nat
  frameTo : Nat
  gap1 : Nat
  gap2 : Nat
  expReg : List (Nat × Nat)           -- register address, DBYTES
deriving DecidableEq, Repr

/-- Pipeline coefficients (R237, R238). -/
structure PipeCoef where
  black : List Nat := [0, 0, 0]
  wb : List Nat := [4096, 4096, 4096]
  ccm : List Int := [4096, 0, 0, 0, 4096, 0, 0, 0, 4096]
  offset : List Int := [0, 0, 0]
  white : List Nat := [4095, 4095, 4095]
  tab : List (List Nat) := []         -- empty: T[c][i] = min(4,095, 64 i)
deriving DecidableEq, Repr

/-- Output configuration of a camera unit (R239). -/
structure CamOut where
  enable : Nat := 0
  dx : Nat := 1
  dy : Nat := 1
  mvTap : Nat := 0
  mvBin : Nat := 1
  codeStream : Nat := 0
  codeEvery : Nat := 1
  dispAddr : Nat := 0
  dispStride : Nat := 0
  dispN : Nat := 0
  archLog2 : Nat := 0
  archAddr : Nat := 0
  recAddr : Nat := 0
  recLog2 : Nat := 0
  profN : Nat := 0
  profAddr : Nat := 0
deriving DecidableEq, Repr

/-- An exposure set between its commit and its first clean frame (R231). -/
structure ExpSet where
  id : Nat
  cmd : Option Nat                    -- its command until it completes
  values : List Nat
  commit : Nat                        -- commit tick
  order : Nat := 0                    -- R230: its place among all exposure sets, in commit order
  frameK : Option Nat := none         -- frame k, once latched
  left : Nat := 0                     -- writes not yet ended
  clean : Option Nat := none          -- first clean frame, once the writes have ended
  nacked : Bool := false
  stale : Bool := false               -- latched before the last CAM_START: it marks no frame
deriving DecidableEq, Repr

/-- A camera frame, open or closed and not yet delivered (R228, R243). -/
structure Frame where
  no : Nat
  fsTick : Nat
  fsTime : Nat                        -- time of the FS tick, domain of HIF_CTL.TIME_B
  timeB : Bool
  pipe : PipeCoef                     -- coefficients and outputs in force at its FS
  outs : CamOut
  fsLine : Nat                        -- last press line triggered in or before the FS tick
  expset : Nat
  width : Nat := 0                    -- pixels per line, lines and data type of the descriptor at its FS
  stripH : Nat := 0
  dt : Nat := 0
  coded : Bool := false               -- R239, R241: its stream was attached at its FS
  mixed : Bool := false
  trunc : Bool := false
  timeout : Bool := false
  damaged : Bool := false
  got : Nat := 0                      -- complete lines received
  served : Nat := 0                   -- lines the pipeline has served
  crcErr : Nat := 0
  rows : List (List (List Nat)) := [] -- d by line, channel, pixel (R237)
  absSum : List (List Nat) := []      -- sum of a by channel, pixel (R242)
  closeTick : Nat := 0
  closeTime : Nat := 0
  closeLine : Nat := 0                -- last press line triggered in or before the close tick
deriving DecidableEq, Repr

/-- An input line in a slot (R233): the FS tick of its frame and its raw samples by channel. -/
structure CamLine where
  frame : Nat
  chans : List (List Nat)
deriving DecidableEq, Repr

/-- A camera unit (chapter 10). -/
structure CamUnit where
  desc : Option SensorDesc := none
  pipe : PipeCoef := {}
  pipeNext : List (Staged PipeCoef) := [] -- committed, for the unit's next FS, in commit order
  outs : CamOut := {}
  outsNext : List (Staged CamOut) := []
  started : Option Nat := none        -- commit tick of CAM_START
  stopCmds : List Nat := []           -- CAM_STOPs not yet complete
  stopping : Bool := false
  stopTick : Nat := 0                 -- commit tick of CAM_STOP
  stopHeld : Bool := false            -- R246: a frame was in progress at its commit
  nextFrame : Nat := 0
  lastFrame : Nat := 0xFFFFFFFF       -- CAM_VC_FRAME
  open_ : Option Frame := none
  closed : List Frame := []           -- closed, not yet delivered, oldest first
  expNext : Nat := 1                  -- next EXPSET ID
  expCur : Nat := 0                   -- EXPSET of the last clean set
  expShown : Nat := 0                 -- CAM_VC_STATUS.EXPSET: carried by the open or last frame
  exps : List ExpSet := []            -- sets not yet clean, oldest first
  slots : List CamLine := []          -- R233: complete lines waiting, oldest first, at most 2
  dead : Bool := false                -- R235: input discarded until the next FS
  truncs : Nat := 0
  timeouts : Nat := 0
  codeSkip : Nat := 0
  archBytes : Nat := 0
  held : List Nat := []               -- R239: streams attached to the unit
  coding : List Nat := []             -- R241: coded frames whose slot is still being compressed
deriving DecidableEq, Repr

/-- Cameras and pipeline (chapter 10). -/
structure Cam where
  ports : Table CamPort := {}
  units : Table CamUnit := {}
  lastServed : Nat := 15              -- R234
  expOrder : Nat := 0                 -- R230: exposure sets committed
  serving : Option (Nat × Nat × Bool) := none -- R234: unit in service, tick of its choice, chosen when the pipeline was free
deriving DecidableEq, Repr

/-- STK_CONFIG's fields and table (R262). -/
structure StkCfg where
  autoLadder : Bool := false
  autoVerdict : Bool := false
  recover : Bool := false
  up : Nat := 0
  down : Nat := 0
  suspTh : Nat := 0
  defTh : Nat := 0
  minPred : Nat := 0
  dash : Nat := 0
  space : Nat := 0
  pass : Nat := 0
  fail : Nat := 0
  minK : Nat := 0
  predLog2 : Nat := 0
  neigh : Nat := 0
  recoverN : Nat := 0
  table : List Byte := []
deriving DecidableEq, Repr

/-- A camera unit's column map (R249). -/
structure StkMap where
  base : Nat
  cols : Nat
  col0 : Int                          -- Q24.8
  cpp : Int                           -- Q16.16
  camDist : Nat                       -- 24.8
  rowOff : List Nat
deriving DecidableEq, Repr

/-- A column's suspicion state (R254): 0 IDLE, 1 PENDING, 2 TESTING. -/
structure StkCol where
  count : Nat := 0
  state : Nat := 0
  channel : Nat := 0
  e : List Int := [0, 0, 0]
  test : Nat := 0
deriving DecidableEq, Repr

/-- A ladder step (R256, R257). -/
structure Step where
  noz : Nat                           -- device nozzle index
  plane : Nat
  unit : Nat                          -- camera unit and global column it is judged on
  column : Nat
  u : Option Nat := none              -- first web line, once placed
  gapA : Nat := 0                     -- pages that bound its gap; 0: gone
  gapB : Nat := 0
  spoiled : Bool := false             -- R258
  tries : Nat := 0                    -- placements found inconclusive
  spaceN : Nat := 0
  spaceSum : List Nat := []           -- by profile column of the unit
  dashN : Nat := 0
  dashSum : List Nat := []
  verdict : Option Nat := none
deriving DecidableEq, Repr

/-- A ladder test (R255 to R263). cause: 0 suspicion, 1 host, 2 retest, 3 calibration. -/
structure LTest where
  id : Nat
  cause : Nat
  channel : Nat
  unit : Nat
  column : Nat
  cmd : Option Nat
  deadline : Option Nat
  steps : List Step
  marks : List Nat := []              -- calibration: nozzles that fire together
  ofColumn : Bool := false            -- R254: a test of its column
  running : Bool := false             -- R256, R261: a step of it has been placed
deriving DecidableEq, Repr

/-- Streak detection (chapter 11). -/
structure Stk where
  cfg : StkCfg := {}
  enabled : Bool := false
  thr : List (Staged StkCfg) := []    -- R262: THRESH_ONLY changes since the enable, for frames that open after them
  maps : Table (Option StkMap) := {}
  mapNext : Table (Option (Staged StkMap)) := {} -- R261: fitted map, for the unit's next FS
  cols : Table StkCol := {}
  pred : Table (List Nat) := {}       -- by window × 65,536 + column: sums by channel
  predFrom : Nat := 0                 -- first web line of the first predicted window
  unitFrom : Table Nat := {}          -- first web line predicted under the unit's present map
  tests : List LTest := []            -- in test order
  nextTest : Nat := 1
  retest : List (Nat × Nat) := []     -- nozzle, recovery count, rising
  retestAt : Nat := 0                 -- R260: round-robin position
  overflow : Nat := 0
  suspects : Nat := 0
  good : Nat := 0
  weak : Nat := 0
  dead : Nat := 0
  incon : Nat := 0
deriving DecidableEq, Repr

/-- A profile segment (R277). -/
structure Seg where
  dur : Nat
  endPos : Int                        -- Q48.16
  endVel : Int                        -- Q16.16
deriving DecidableEq, Repr

/-- MOT_AXIS fields (R267). -/
structure AxisCfg where
  enable : Bool := false
  noReverse : Bool := false
  negOnly : Bool := false
  dirInvert : Bool := false
  fb : Bool := false
  fbEnc : Nat := 0
  resHyst : Nat := 0
  runCur : Nat := 0
  holdCur : Nat := 0
  rPh : Nat := 0
  holdDelay : Nat := 0
  kv : Nat := 0                       -- 16.16
  resV : List Int := [0, 0, 0, 0]
  cps : Nat := 0                      -- 16.16
  maxErr : Nat := 0
  busIn : Nat := 0
  dMax : Nat := 0
  minPulse : Nat := 0
deriving DecidableEq, Repr

/-- MOT_LIMITS fields (R268). -/
structure AxisLim where
  negHigh : Bool := false
  posHigh : Bool := false
  limNeg : Nat := 0xFF
  limPos : Nat := 0xFF
  vMax : Int := 0
  accel : Nat := 0                    -- 8.24
  decel : Nat := 0
  jerk : Nat := 0                     -- 0.32
  qStop : Nat := 0
  minPos : Int := -(2 ^ 63)           -- −2^47 µsteps in Q48.16
  maxPos : Int := 2 ^ 63
deriving DecidableEq, Repr

/-- What an axis is steered to (R271, R279, R280). -/
inductive Goal where
  | none
  | position (target : Int)
  | velocity (v : Int)
  | profile (idx reps : Nat)          -- profile, repetitions left
  | stop (quick release : Bool)
deriving DecidableEq, Repr

/-- A goal that waits for the next planning tick (R273). -/
structure NewGoal where
  goal : Goal
  kind : Nat                          -- KIND + 1, 0 for a stop, 5 for a loop's output (R320)
  cmd : Option Nat
  set : Option Int := .none           -- KIND 3: the position to take
deriving DecidableEq, Repr

/-- MOT_AXIS_STATUS.STATE (12). -/
inductive AxisState where
  | disabled | rest | moving | stopping | released | fault
deriving DecidableEq, Repr

/-- A motion axis (chapter 12). -/
structure Axis where
  cfg : AxisCfg := {}
  cfgNext : Option (Staged AxisCfg) := .none
  lim : AxisLim := {}
  limNext : Option (Staged AxisLim) := .none
  limSet : Bool := false
  state : AxisState := .disabled
  p : Int := 0                        -- Q48.16 at the last planning tick
  v : Int := 0                        -- Q16.16
  a : Int := 0                        -- Q8.24
  j : Int := 0                        -- Q0.32 jerk of the present planning tick
  planTick : Nat := 0                 -- tick of the last planning tick
  goal : Goal := .none
  goalNext : List (Staged NewGoal) := [] -- in commit order
  move : Nat := 0                     -- KIND of the present move + 1
  velHold : Bool := false             -- R279: a VELOCITY move holds at VEL = 0
  moveCmd : Option Nat := .none
  stopCmds : List Nat := []           -- MOT_STOPs waiting for rest
  overshoot : Bool := false
  behind : Bool := false              -- R275: the stop ends the move with TARGET_BEHIND
  retarget : Option Int := .none      -- R274: target to approach from rest
  limitStop : Bool := false           -- R269, R279: the stop ends the move with LIMIT_HIT
  capped : Bool := false
  profTime : Int := 0                 -- profile time within the segment, 16.16
  profSeg : Nat := 0
  profP0 : Int := 0                   -- P0 of the present repetition
  profV0 : Int := 0                   -- velocity at the start of the repetition
  kappa : Nat := 65536                -- R278: advance of profile time over the coming planning tick, 16.16
  ends : Bool := false                -- R271: the trajectory ends within the coming planning tick
  sent : Int := 0                     -- R284: floor of the position last passed to FIR
  res : Nat := 0                      -- M in force, row of R283
  resNext : Option Nat := .none       -- R283: M decided, not yet in effect
  restPts : Nat := 0                  -- planning ticks at rest
  aligned : Bool := false
  eRef : Int := 0
  ePrev : Int := 0                    -- R296: count at the last planning tick
  eSum : Int := 0                     -- E − E_ref: the sum of the changes of count
  pRef : Int := 0
  ferr : Int := 0
  overErr : Nat := 0                  -- planning ticks in a row with |ERR| > MAX_ERR
  limNegSeen : Bool := false          -- input level at the last planning tick
  limPosSeen : Bool := false
  dutyA : Int := 0                    -- Q1.15
  dutyB : Int := 0
  pulses : List (Nat × Nat × Nat) := [] -- R286: pulses of the present PWM period: output, first tick, ticks
  busLow : Bool := false              -- R285: FAULT with outputs low
  shown : Nat := 0                    -- R281: MOT_AXIS_STATUS at the last planning tick
  profiles : Table (List Seg) := {}
  sine : List Nat := []               -- empty: the default table
  sineNext : Option (Staged (List Nat)) := .none
deriving DecidableEq, Repr

/-- Motion (chapter 12). -/
structure Mot where
  period : Nat := 5000                -- MOT_PWM_CTL.PERIOD
  periodNext : Option (Staged Nat) := none
  periodReady : Option Nat := none    -- R286: a planning tick has passed since its write
  pwmAt : Option Nat := none          -- tick of the last PWM period start
  axes : Table Axis := {}
  lastPlan : Option Nat := none       -- tick of the last planning tick done
deriving DecidableEq, Repr

/-- ENC_CONFIG fields (R307) with the reset configuration of R302. -/
structure EncCfg where
  ssi : Bool := false
  wrap : Bool := false
  invert : Bool := false
  indexEn : Bool := false
  zInv : Bool := false
  autoClear : Bool := false
  filtN : Nat := 2
  hyst : Nat := 2
  iTol : Nat := 0
  ssiPort : Nat := 0
  linesRev : Nat := 0
  cntMin : Int := -(2 ^ 47 - 1)
  cntMax : Int := 2 ^ 47 - 1
  still : Nat := 2000000
  ssiBits : Nat := 0
  ssiFmt : Nat := 0
  ssiKhz : Nat := 0
  ssiMono : Nat := 0
deriving DecidableEq, Repr

/-- A spread index correction (R298). -/
structure IdxCorr where
  sign : Int
  k : Nat
  left : Nat
  edges : Nat
deriving DecidableEq, Repr

/-- A feedback channel (chapter 13). -/
structure Chan where
  cfg : EncCfg := {}
  configured : Bool := false          -- R173: ENC_CONFIG has committed
  cfgNext : Option (Staged EncCfg) := none
  lines : Nat := 0                    -- filtered (A, B), 2 × A + B
  z : Bool := false                   -- filtered Z, before Z_INV
  count : Int := 0
  eh : Int := 0
  reverse : Bool := false             -- DIR
  posValid : Bool := false
  fault : Bool := false
  sat : Bool := false
  iRef : Option Int := none
  corr : Option IdxCorr := none
  idxMism : Bool := false
  setArmed : Option Int := none
  edges : Nat := 0                    -- accepted edges or good frames
  errAt : List Nat := []              -- edge numbers of the last errors, newest first
  clean : Nat := 0                    -- accepted edges since the last error
  trans : Nat := 0                    -- saturating 16
  faults : Nat := 0
  dev : Int := 0
  indexes : Nat := 0                  -- wraps
  v : Int := 0                        -- Q16.16
  lastEdge : Option (Nat × Int) := none -- (t_e, C_e)
  refEdge : Option (Nat × Int) := none  -- (t_r, C_r)
  planCount : Int := 0                -- count at the last planning tick
  ssiLast : Option Nat := none        -- value of the last good frame
  ssiPrev : Int := 0                  -- count change of the last good frame
  ssiFrame : Option Nat := none       -- R300: first falling edge of the frame in progress
  changedAt : Option Nat := none      -- R303: tick in which the count last changed
  prev : Int := 0                     -- R303: count at the end of the tick before that one
  setAt : Option Nat := none          -- R308: tick whose edges ENC_SET absorbs
  planStatus : Nat := 0               -- R311: ENC_CH_STATUS at the last planning tick
  copyDiff : Int := 0                 -- R384: lead's count minus own, on a shadow
deriving DecidableEq, Repr

/-- A probe input (R303, R309). -/
structure Probe where
  armed : Bool := false
  chan : Nat := 0
  edge : Nat := 0
  deadline : Option Nat := none
  cmd : Nat := 0
  level : Bool := false
deriving DecidableEq, Repr

/-- What ENC_COMPARE loads (R310): channel, entries (position, direction), CYCLE, ACTIVE_LOW, WIDTH. -/
structure CmprList where
  chan : Nat := 0
  entries : List (Int × Nat) := []
  cycle : Bool := false
  activeLow : Bool := false
  width : Nat := 0
deriving DecidableEq, Repr

/-- A compare output (R304, R305, R310). -/
structure Cmpr where
  list : CmprList := {}
  listNext : Option (Staged CmprList) := none -- R305: applies from the tick after its commit
  next : Nat := 0
  loaded : Bool := false
  pulse : Option (Nat × Nat) := none  -- the pulse at work: tick at which it goes active, tick at which it ends
  low : Bool := false                 -- that pulse is active low (R310)
  merged : Nat := 0                   -- saturating 16
deriving DecidableEq, Repr

/-- A switch input (R306). -/
structure Switch where
  debounce : Nat := 0
  invert : Bool := false
  ctlNext : Option (Staged (Nat × Bool)) := none -- ENC_SW_CTL written, for the tick after
  level : Bool := false               -- filtered and debounced, before INVERT
deriving DecidableEq, Repr

/-- Position feedback (chapter 13). -/
structure Enc where
  chans : Table Chan := {}
  probes : Table Probe := {}
  cmps : Table Cmpr := {}
  switches : Table Switch := {}
  latched : List (Nat × Int) := []    -- R374: probe latches for the next INPUT record of a lead
deriving DecidableEq, Repr

end Sys2Proof.Machine
end

