-- ==== Sys2Proof/Machine/BlocksCtl.lean ====
section
/-! DEFINITION. The state of the control blocks as plain data: control loops and ADC (14), LED
(15), time (16), twin and fire safety (17), Rim, Gong, GPIO and I²C (19). -/
namespace Sys2Proof.Machine

/-- An analogue input (R314). -/
structure AdcIn where
  lin : Nat := 0
  offset : Nat := 0
  gain : Int := 65536
  lo : Nat := 0
  hi : Nat := 65535
  value : Int := 0
  code : Nat := 0
  valid : Bool := false
  seen : Bool := false                -- a code has come
deriving DecidableEq, Repr

/-- A change of ADC_CONFIG (R333). -/
inductive AdcChange where
  | schedule (adc : Nat) (slots : List Nat)
  | input (n lin offset : Nat) (gain : Int) (lo hi : Nat)
  | table (n : Nat) (points : List Int)
deriving DecidableEq, Repr

/-- A second-order section (R321). -/
structure Section where
  b0 : Int
  b1 : Int
  b2 : Int
  a1 : Int
  a2 : Int
  sh : Nat
  s1 : Int := 0
  s2 : Int := 0
deriving DecidableEq, Repr

/-- CLE_LOOP fields (R330). -/
structure LoopCfg where
  enable : Bool := false
  permit : Bool := false
  soft : Bool := false
  invert : Bool := false
  srcKind : Nat := 0
  srcIndex : Nat := 0
  srcSlot : Nat := 0
  rate : Int := 0
  phase : Nat := 0
  outKind : Nat := 0
  outIndex : Nat := 0
  outSub : Nat := 0
  outMin : Int := 0
  outMax : Int := 0
  slew : Nat := 0
  ramp : Nat := 0
  permLo : Int := 0
  permHi : Int := 0
  permHyst : Nat := 0
  permN : Nat := 0
  limN : Nat := 0
deriving DecidableEq, Repr

/-- A change that waits for a control cycle boundary (R326). -/
inductive LoopChange where
  | config (c : LoopCfg)
  | sections (l : List Section) (clear : Bool)
  | mode (auto : Bool) (m : Int)
  | setpoint (r : Int) (ramp : Bool)
deriving DecidableEq, Repr

/-- A control loop (chapter 14). -/
structure Loop where
  cfg : LoopCfg := {}
  auto : Bool := false
  m : Int := 0
  secs : List Section := []
  r : Int := 0                        -- setpoint
  rOut : Option Int := none           -- R320 OUT_KIND 4: setpoint published by another loop
  jump : Bool := false                -- CLE_SETPOINT without RAMP: r_w jumps at the next valid evaluation
  rw : Int := 0
  y : Int := 0
  u : Int := 0                        -- u of the last evaluation
  uPub : Int := 0                     -- last published u
  pubs : List (Nat × Int × Bool) := [] -- evaluations not yet published: tick, u, TEMP_OK
  clamped : Bool := false
  limitBy : Nat := 0                  -- R335: limit at the last clamped evaluation: 0 OUT_MIN, 1 OUT_MAX, 2 SLEW
  bad : Bool := false
  ran : Nat := 0                      -- mode of the last evaluation since enable: 0 none, 1 MANUAL, 2 AUTO
  evalAt : Option Nat := none         -- pair tick of the last evaluation instant
  limRow : Nat := 0                   -- R323: clamped evaluations in a row
  limDone : Bool := false             -- LOOP_LIMIT written, not re-armed
  tempOk : Bool := false
  tempPub : Bool := false             -- TEMP_OK as last published (CLE_PERMIT)
  outRow : Nat := 0                   -- R328: evaluations outside in a row
  inRow : Nat := 0
  outIdle : Bool := false
  window : List (Nat × Nat × Option Int) := [] -- R315: results since the last evaluation: tick, input, value; none: invalid
  changes : List (Staged LoopChange) := []  -- committed, not yet applied (R326)
  leadY : Option (Option Int) := none -- R327: the lead's measurement; on a lead, what the next INPUT record carries
deriving DecidableEq, Repr

/-- Control loops and converters (chapter 14). -/
structure Cle where
  sched : Table (List Nat) := {}      -- slots by converter; empty: all idle
  last : Table Nat := {}              -- R313: by converter, 1 + the input that slot 39 of the planning tick before sampled
  inputs : Table AdcIn := {}
  tables : Table (List Int) := {}
  adcNext : List (Staged AdcChange) := []
  loops : Table Loop := {}
  permit : Bool := true               -- CLE_PERMIT
deriving DecidableEq, Repr

/-- LED_CHAIN fields (R346). -/
structure ChainCfg where
  enable : Bool := false
  retCheck : Bool := false
  safeHold : Bool := false
  ndrv : Nat := 0
  mismatchN : Nat := 0
  clkDiv : Nat := 0
  refresh : Nat := 0
  latchSu : Nat := 0
  latchW : Nat := 0
deriving DecidableEq, Repr

/-- LED_MATRIX fields (R347). -/
structure MatrixCfg where
  lines : Nat := 0
  addrGpio : Nat := 0
  enGpio : Nat := 0
  enLow : Bool := false
  blank : Nat := 0
deriving DecidableEq, Repr

/-- LED_CHAIN_STATUS.STATE (15). -/
inductive ChainState where
  | disabled | running | matrix | fault
deriving DecidableEq, Repr

/-- An LED chain (chapter 15). -/
structure Chain where
  cfg : ChainCfg := {}
  cfgNext : Option (Staged ChainCfg) := none
  mtx : MatrixCfg := {}
  mtxNext : Option (Staged MatrixCfg) := none
  state : ChainState := .disabled
  levels : Table Nat := {}
  sendEnd : Nat := 0                  -- R337: tick in which what is being sent has been sent
  sending : Option (List Nat) := none -- levels of the frame or slot at work, in bit order
  prev : Option (List Nat) := none    -- levels of the frame before it
  levelsNext : List (Staged (List (Nat × Nat))) := [] -- R25, R348: levels set, for the next frame start
  scan : List (List Nat) := []        -- matrix: levels shown in the present scan, by line, in bit order
  scanNext : List (List Nat) := []    -- levels sampled at its start
  scanAt : Nat := 0                   -- tick in which the present scan began
  slot : Nat := 0                     -- next matrix slot to start
  slotAt : Option Nat := none         -- R340: start tick of the slot at work, until EN goes active
  row : Nat := 0                      -- R339: mismatched frames in a row
  mismatch : Nat := 0                 -- saturating 16
  checked : Nat := 0                  -- frames checked since enable
  frames : Nat := 0                   -- wraps, 32
deriving DecidableEq, Repr

/-- LED_ZONES KIND 0 fields (R349). -/
structure ZoneCfg where
  enable : Bool := false
  chain : Nat := 0
  gate : Bool := false
  fwd : Bool := false
  rev : Bool := false
  haltOff : Bool := false
  first : Nat := 0
  count : Nat := 0
  colLo : Nat := 0
  colHi : Nat := 0
  planes : Nat := 0
  near : Nat := 0
  far : Nat := 0
  pre : Nat := 0
  post : Nat := 0
  level : Nat := 0
  levelIdle : Nat := 0
  covMin : Nat := 1
deriving DecidableEq, Repr

/-- A UV zone (R341 to R344). -/
structure Zone where
  cfg : ZoneCfg := {}
  cfgNext : Option (Staged ZoneCfg) := none
  zl : Nat := 0
  on : Bool := false
  unknown : Bool := false
  switches : Nat := 0                 -- saturating 32
  loopLevel : Option Nat := none      -- R344: output of the loop that names the zone
  raisedAt : Option Nat := none       -- R344: tick of the latch that raised ZL to LEVEL
  cover : Table Nat := {}             -- R342: drops counted by window
  knownFrom : Nat := 0                -- press line of the first window formed after the last LED_ZONES
deriving DecidableEq, Repr

/-- A colour sensor (R345). -/
structure Colour where
  bus : Nat := 0xFF
  addr : Nat := 0
  reg : Nat := 0
  bigEndian : Bool := false
  period : Nat := 1
  next : Option (Staged (List Nat)) := none -- staged BUS, ADDR, REG, BIG_ENDIAN, PERIOD
  lead : Option (List Nat) := none    -- R327: the lead's reading, on a shadow
  busy : Bool := false
  comps : List Nat := [0, 0, 0, 0]
  nacked : Bool := false
  lastDone : Option Nat := none       -- planning tick of the last completed reading
  nacks : Nat := 0                    -- saturating 16
deriving DecidableEq, Repr

/-- LED drive and curing (chapter 15). -/
structure Led where
  chains : Table Chain := {}
  zones : Table Zone := {}
  sensors : Table Colour := {}
deriving DecidableEq, Repr

/-- The state of a time instance (R358). -/
inductive InstState where
  | free | manual | listening | uncalibrated | locked | holdover | grandmaster
deriving DecidableEq, Repr

/-- TIM_DOMAIN fields (R366). -/
structure InstCfg where
  mode : Nat := 0
  domain : Nat := 0
  flags : Nat := 0
  prio1 : Nat := 0
  prio2 : Nat := 0
  clsAcc : Nat := 0
  variance : Nat := 0
  logSync : Int := 0
  logAnn : Int := 0
  annTimeout : Nat := 0
  logDelay : Int := 0
  clockId : Nat := 0
  kp : Nat := 0
  ki : Nat := 0
  stepNs : Nat := 0
  lockNs : Nat := 0
  switchPpb : Nat := 0
deriving DecidableEq, Repr

/-- A change of an instance's function (R353, R359, R361); steps and times in 2^-16 ns. -/
inductive TimeAdjust where
  | step (v : Int)
  | slew (v : Int) (ppb : Nat)
  | rate (r : Int)
  | set (v : Int)
  | servo (step : Int)                -- a step of the servo, which leaves a slew alone
deriving DecidableEq, Repr

/-- A PTP message (R355). Times and corrections are in 2^-16 ns, `time` in whole ns; an identity is clockIdentity × 2^16 + port
number. -/
structure PtpMsg where
  kind : Nat                          -- messageType
  domain : Nat
  twoStep : Bool := false
  corr : Int := 0                     -- correctionField
  source : Nat := 0                   -- sourcePortIdentity
  seq : Nat := 0
  time : Nat := 0                     -- the message's timestamp, ns
  asker : Nat := 0                    -- requestingPortIdentity
  ann : List Nat := []                -- an Announce's priority1, class and accuracy, variance, priority2, identity, stepsRemoved
deriving DecidableEq, Repr

/-- A message of its own that a port or instance waits to see answered or completed. -/
structure PtpWait where
  inst : Nat
  seq : Nat
  source : Nat := 0
  stamp : Int                         -- its timestamp here, 2^-16 ns
  time : Nat := 0                     -- requestReceiptTimestamp, ns
  corr : Int := 0
deriving DecidableEq, Repr

/-- A one-step frame that missed its boundary and is sent again (R357). -/
structure PtpAgain where
  inst : Nat
  frame : List Byte
  due : Nat                           -- tick of the next interval
deriving DecidableEq, Repr

/-- A time instance (R352 to R361). BASE is in ns with 16 fraction bits. -/
structure Inst where
  base : Int := 0
  anchor : Nat := 0
  rate : Int := 0                     -- units of 2^-40
  cfg : InstCfg := {}
  cfgNext : Option (Staged InstCfg) := none
  adjNext : List (Staged TimeAdjust) := [] -- changes of the function, for the next planning tick
  slewLeft : Int := 0                 -- R361, 2^-16 ns
  slewPpb : Nat := 0
  state : InstState := .free
  ri : Int := 0                       -- R359, 2^-32 ppb
  theta : Int := 0                    -- 2^-16 ns
  lockRow : Nat := 0
  slavePort : Nat := 0
  portState : List Nat := [1, 1]      -- portState of IEEE 1588: 1 INITIALIZING
  masterId : Nat := 0
  lastAnn : Nat := 0
  lastSync : Nat := 0
  heardAt : List Nat := [0, 0]        -- R360: by port, tick of the last Announce, or in which it began to listen
  annAt : List Nat := [0, 0]          -- by port, tick of the last Announce sent
  annSeq : Nat := 0
  parent : List Nat := []             -- what the master announces
  syncWait : Option PtpWait := none   -- two-step Sync that waits for its Follow_Up
  gap : Option Int := none            -- R359: receive stamp less origin and corrections of the last Sync
  delays : List Int := [0, 0]         -- R356: by port, mean path or link delay, 2^-16 ns
deriving DecidableEq, Repr

/-- TIM_PORT fields (R365). -/
structure PortCfg where
  mode : Nat := 0
  flags : Nat := 0
  logPdelay : Int := 0
  mac : Nat := 0
  ipv4 : Nat := 0
  txLat : Nat := 0
  rxLat : Nat := 0
  asym : Int := 0
  ipv6 : Nat := 0
deriving DecidableEq, Repr

/-- A PTP port (R355). -/
structure TPort where
  cfg : PortCfg := {}
  cfgNext : Option (Staged PortCfg) := none
  linkUp : Bool := false
  delay : Nat := 0                    -- 16.16 ns
  reqRx : Int := 0                    -- receive stamp of the last Pdelay_Req (R356, R357), 2^-16 ns
  reqCorr : Int := 0                  -- its correctionField
  asked : Option Nat := none          -- R357: who sent it, until it is answered
  delayReq : Option PtpWait := none   -- R356: Delay_Req sent, and its transmit stamp
  pdelayReq : Option PtpWait := none  -- R356: Pdelay_Req sent, and its transmit stamp
  pdelayResp : Option PtpWait := none -- two-step Pdelay_Resp that waits for its follow-up
  again : List PtpAgain := []         -- R357: late one-step frames
  accepted : Nat := 0
  discard : Nat := 0
  sent : Nat := 0
  late : Nat := 0
deriving DecidableEq, Repr

/-- A switch of the primary (R362 to R364). -/
structure SwitchJob where
  dest : Nat
  cmd : Option Nat
  tick : Nat                          -- commit tick
deriving DecidableEq, Repr

/-- Time (chapter 16). -/
structure Tim where
  primary : Nat := 0
  insts : Table Inst := {}
  ports : Table TPort := {}
  residue : Int := 0                  -- S at the last planning tick, 2^-16 ns
  residueTick : Nat := 0
  residuePpb : Nat := 0               -- R363, R366: SWITCH_PPB of the present primary when it became primary
  past : Nat := 0                     -- R353, R354: the time value of the tick before
  planned : Option Nat := none        -- R353: planning tick whose changes are in force
  report : Option (List Byte) := none -- R363: DOMAIN_SWITCH still to be written at that planning tick
  switching : Bool := false
  switchNext : Option SwitchJob := none
  switchCmd : Option Nat := none      -- TIM_SELECT that waits for S = 0
  lostAt : Option Nat := none         -- R362: the primary was lost in this tick
deriving DecidableEq, Repr

/-- A device's twin role (R375). -/
inductive Role where
  | elect | lead | shadow | alone | out
deriving DecidableEq, Repr

/-- Block lock of a serial lane (R179): the run of valid sync headers, and the latest headers under lock, newest first. -/
structure BlockLock where
  locked : Bool := false
  run : Nat := 0
  win : List Bool := []
deriving DecidableEq, Repr

/-- A tap path (R377, R378). -/
structure TapPath where
  ok : Bool := false
  lastTap : Option Nat := none        -- tick of the last valid tap
  row : Nat := 0                      -- valid taps in a row while lost
deriving DecidableEq, Repr

/-- The state of the Chezatin link (R373). -/
inductive LinkState where
  | off | train | align | up
deriving DecidableEq, Repr

/-- A mirrored command stored at the shadow (R380). -/
structure Mirrored where
  tag : Nat
  packet : List Byte
  host : HostRead
  commit : Option Nat := none
deriving DecidableEq, Repr

/-- A pending exchange of roles (R389). cause: 3 handover, 4 take-back. -/
structure Exchange where
  h : Nat                             -- pair tick named; of an exchange at a page boundary, the earliest on its lead
  atPage : Bool := false              -- on the lead: at a page boundary
  cause : Nat
  cmd : Option Nat
deriving DecidableEq, Repr

/-- A proof test at work (R394). -/
structure Proof where
  cmd : Nat
  tests : Nat
  test : Nat := 0                     -- bit of the test at work
  passed : Nat := 0
  failed : Nat := 0
  first : Nat := 0
  count : Nat := 0                    -- rows, cycles or lines done
  startLine : Nat := 0
  tapLost : Bool := false
deriving DecidableEq, Repr

/-- What the partner's HEALTH record last said (R374). -/
structure Health where
  mismatch : Nat := 0                 -- MISMATCH and SHADOW_MISSING reports received
  missing : Nat := 0                  -- lines they named within the last 1,024 press lines
  leadMissing : Nat := 0              -- lanes with LEAD_MISSING within the last 1,024 press lines
  lanesUp : Nat := 0
  pathsLost : Nat := 0                -- R394: tap paths it reports lost: bit 0 in-band, bit 1 pin
  copyFaults : Nat := 0               -- R394: corrections, missed snapshots and digest mismatches
  bounds : List Nat := []             -- B of each lane in UP
  ctxs : List (Nat × Nat × Nat × Nat) := [] -- VERIFIED contexts: id, generation, SET_CRC, PAGE_DIGEST
  voter : Option (Nat × Bool × Bool) := none -- R394: row of R391 driven, permit and DISAGREE voted
  withdrawals : Nat := 0              -- R394: withdrawals of its own permit
deriving DecidableEq, Repr

/-- Twin and fire safety (chapter 17). -/
structure Twn where
  role : Role := .elect
  twin : Bool := false                -- TWN_CONFIG MODE 1
  inStep : Bool := false
  healthy : Bool := true
  noRevert : Bool := false
  linkEn : Bool := false
  txPreset : Nat := 0
  link : LinkState := .off
  locks : Table BlockLock := {}       -- of the four Chezatin lanes
  delays : List Int := []             -- R373: RTT − TURN of the accepted measurements, UI, newest first
  linkAt : Option Nat := none         -- R372: tick from which the link's block periods count
  linkSeq : Nat := 0                  -- R372: AM_SEQ of its next AM
  laneMap : List Nat := []            -- R372: Chezatin lane that each physical lane carries
  epoch : Nat := 0
  partnerEpoch : Option Nat := none
  offTicks : Int := 0                 -- OFFSET in force
  offTaps : Nat := 0
  offFixed : Bool := false            -- R415
  linkOffTicks : Int := 0             -- R373: OFFSET as measured over the link
  linkOffTaps : Nat := 0
  partner : Nat := 0xFF               -- role in its last tap
  partnerTap : Nat := 0               -- bits [6:0] of its last tap
  partnerPref : Bool := false
  partnerHealthy : Bool := true       -- lead's view (R387)
  absent : Bool := true
  inband : TapPath := {}
  pin : TapPath := {}
  badTaps : Nat := 0
  tapSeq : Nat := 0
  lastTap : Option Nat := none        -- pair tick of the last TAP_SEND
  armA : Bool := false
  armB : Bool := false
  armC : Bool := false
  in0 : Bool := false                 -- PERMIT_IN0 to 2, after two agreeing samples
  in1 : Bool := false
  in2 : Bool := false
  permit : Bool := false
  disagree : Bool := false
  disagreeAt : Option Nat := none     -- R386: since when DISAGREE is 1
  votedAt : Nat := 0                  -- R386: tick in which FIRE_EN was last decided anew
  voterOut : Option (Nat × Bool × Bool) := none -- R394, on a shadow: row of R391 driven, permit and DISAGREE voted
  withdrawals : Nat := 0
  fixes : Nat := 0                    -- saturating 12
  missed : Nat := 0                   -- saturating 8
  lateLines : Nat := 0                -- saturating 12
  missedRow : Nat := 0
  copyAt : Option Nat := none         -- pair tick of the snapshot awaited
  lone : Bool := false                -- R380: this lead has committed alone, and its shadow still says IN_STEP
  mirrored : List Mirrored := []      -- shadow: CHANGEs stored
  nextTag : Nat := 0
  exchange : Option Exchange := none
  cleanAt : Option Nat := none        -- R389: since when take-back conditions hold
  health : Health := {}
  mismatchAt : Option Nat := none     -- R387: tick of the last report that counts
  mismatchLines : List Nat := []      -- R387: lines reported within the last 1,024 press lines
  leadMissing : List (Nat × Nat) := [] -- R386 cause 6: lane and line of LEAD_MISSING reports of the last 1,024 press lines
  reports : Nat := 0                  -- MISMATCH and SHADOW_MISSING reports received
  heardAny : Bool := false            -- R376: a valid tap was heard within the election window
  heardFit : Bool := false            -- R376: a valid LEAD tap or one carrying PREF = 1 was heard within it
  digestsOk : Bool := false           -- R385: the last snapshot compared had every digest equal
  proof : Option Proof := none
  outAt : Option Nat := none          -- R387: tick in which OUT is entered
  faultCause : Nat := 0               -- R386: first fault declared
  faults : Nat := 0                   -- R386: causes declared, bit by cause
  digestBad : List Nat := []          -- R385: pages to finish before IN_STEP rises
  lastCycle : Option Nat := none      -- pair tick of the last control cycle boundary done
  frames : Bool := false              -- R385: a shadow's frames are sent from the next line on
  predTick : Option Nat := none       -- R382: tick in which its own FIR predicts the next trigger
  predDue : Int := 0                  -- R382: T(L) at that tick, taps
  predPer : Nat := 0                  -- R382: PER at that tick
  lateUntil : Nat := 0                -- R389: last tick in which a late LINE record reaches the new lead
  predFlags : Option Nat := none      -- R166, R169: flags of the line where a Gong frame or a hold floor predicts it
deriving DecidableEq, Repr

/-- The Rim port (R420 to R425). -/
structure Rim where
  enable : Bool := false
  writesEn : Bool := false
  every : Nat := 0
  sources : List Nat := []
  next : Option (Staged (Bool × Bool × Nat × List Nat)) := none
  window : List Nat := []             -- 256 words; empty: all zero
  status : Nat := 0                   -- R421: the word at RIM_A 0x100
  windowNext : Option (List Nat × Nat) := none -- R422: window and status of the next tick
  snapValid : Bool := false
  updates : Nat := 0
  accepted : Nat := 0
  discarded : Nat := 0
  inbox : Table (BitVec 32) := {}
  inboxNext : List (Nat × BitVec 32) := [] -- R424: words readable from the next tick on
deriving DecidableEq, Repr

/-- The Gong bus (R426 to R429). -/
structure Gng where
  dev : Nat := 0
  rxEn : Bool := false
  txInv : Bool := false
  rxInv : Bool := false
  linkDelay : Nat := 0
  rxLock : Bool := false
  kRun : Nat := 0                     -- R427: K28.5 characters since the last code violation, without lock
  faultAges : List Nat := []          -- R427: characters since each code violation under lock, newest first
  haltLevel : Bool := true            -- GNG_STATUS.HALT_LEVEL: level recognised (R428)
  seenOther : Bool := false           -- R428: the last sample of GONG_HALT_N was the first at another level than that recognised
  otherLow : Bool := false            -- R171: another device of the press drives GONG_HALT_N
  codeErr : Nat := 0
deriving DecidableEq, Repr

/-- A GPIO pin (R432, R433). -/
structure Pin where
  mode : Nat := 0
  leadOnly : Bool := false
  period : Nat := 0
  dutyCfg : Nat := 0
  dutyLoop : Option Nat := none       -- published output of the loop that names the pin
  duty : Nat := 0                     -- DUTY in force
  pwmAt : Option Nat := none          -- tick of the last PWM period start
deriving DecidableEq, Repr

/-- GPIO (R432). -/
structure Gpio where
  out : BitVec 32 := 0                -- GPIO_OUT
  driven : BitVec 32 := 0             -- value the pins show, from the tick after a write
  level : BitVec 32 := 0              -- GPIO_IN: filtered levels
  seen : Option (BitVec 32) := none   -- R432: the last sample of the pins
  pins : Table Pin := {}
deriving DecidableEq, Repr

/-- A transfer on a general I²C master (R345, R431): of the host, the word written to SYS_I2C_XFER; of a sensor, with ADDR and REG. The
reading of a sensor that has been configured anew since then is of no use. -/
inductive I2cJob where
  | host (word : BitVec 32)
  | sensor (k addr reg : Nat) (stale : Bool)
deriving DecidableEq, Repr

/-- A general I²C master (R431). -/
structure I2cM where
  speed : Nat := 0
  jobs : List I2cJob := []            -- transfers in the order in which they started; the first one runs
  data : Nat := 0
  done : Bool := false
  nack : Bool := false
  discard : Bool := false
deriving DecidableEq, Repr

end Sys2Proof.Machine
end

