-- ==== Sys2Proof/Machine/BlocksWire.lean ====
section
/-! DEFINITION. What crosses the block's boundary as plain data: everything it sends (host writes,
messages, frames, records, bus transfers), and the records of the Chezatin link (R374, R384). -/
namespace Sys2Proof.Machine

/-- The lead's inputs of an INPUT record (R374). -/
structure InputRec where
  counts : List (Nat × Int) := []          -- feedback channel, count
  switches : Nat := 0                      -- switch levels, bit by switch
  probes : List (Nat × Int) := []          -- probe latches: probe, count
  adc : List (Nat × Option Int) := []      -- loop, measurement (window mean, V, TEMP); none: invalid
  colours : List (Nat × List Nat) := []    -- colour sensor, components
deriving DecidableEq, Repr

/-- A page context in the snapshot (R384, PGQ); `gen` is the number of its generation. -/
structure PageCopy where
  state : PageState
  cause : Nat
  start : Option Nat
  floor : Nat
  succ : Nat
  pred : Nat
  gen : Nat
  inBreak : Bool
deriving DecidableEq, Repr

/-- The lead's snapshot (R384): one field for each part; `digests` holds the compared CRCs in order. -/
structure Snapshot where
  tick : Nat                               -- pair tick of the control cycle boundary
  fir : Fir := {}
  axes : Table Axis := {}
  chans : Table Chan := {}
  loops : Table Loop := {}
  zones : Table Zone := {}
  chains : Table Chain := {}
  pages : List (Nat × PageCopy) := []
  queue : List Nat := []
  tests : List LTest := []
  retest : List (Nat × Nat) := []
  epoch : Nat := 0
  armA : Bool := false
  armB : Bool := false
  armC : Bool := false
  cleanAt : Option Nat := none
  digests : List Nat := []                 -- SET_CRCs and PAGE_DIGESTs, then what stands for the CRC-32Cs (log entry 60)
  subDigest : Nat := 0                     -- CRC-32C of the defect map with the level-map index
  lone : Bool := false                     -- R380: the lead has committed alone while the shadow was in step
  voter : Option Nat := none               -- R394: row of R391 that the shadow is to drive
  verdicts : List SubVerdict := []         -- SUB changes by verdicts and generations since the snapshot before (R218, R248)
deriving DecidableEq, Repr

/-- A record of the Chezatin link (R374). -/
inductive TwinRec where
  | tap (word : Nat)
  | line (bytes : List Byte)
  | input (i : InputRec)
  | change (tag : Nat) (packet : List Byte) (host : HostRead)
  | ack (tag : Nat)
  | commit (tag tick : Nat)
  | copy (s : Snapshot)
  | health (h : Health)
  | handover (tick : Nat)
  | relinquish (cause : Nat)
deriving DecidableEq, Repr

/-- What a configuration request names (R29, R31): items of the function's capabilities, its link, its power state, the error
classes it reports, and its base address registers. -/
inductive ConfigItem where
  | classCode | maxPayload | maxReadRequest | tags | vectors | functions
  | linkSpeed | linkWidth | powerState | aspm | errors
  | bar (k : Fin 6)
deriving DecidableEq, Repr

/-- A configuration request (R29, R30). -/
inductive ConfigReq where
  | read (item : ConfigItem)
  | write (item : ConfigItem) (value : Nat)
deriving DecidableEq, Repr

/-- Everything the block sends or drives that is an event of its own, in the order in which it is
sent. Levels of pins are in the blocks' own state. -/
inductive Out where
  | host (addr : Nat) (bytes : List Byte)            -- write to host memory (R33, R49, R50)
  | msix (vector : Nat)                              -- MSI-X message (R53)
  | config (retry : Bool) (data : Nat)               -- answer to a configuration request (R29, R30)
  | frame (lane : Nat) (bytes : List Byte)           -- Snare line frame (R189 to R193)
  | nofire (lane : Nat) (bytes : List Byte)          -- Snare NOFIRE block (R193)
  | cut (lane : Nat)                                 -- the line frame on the wire stops without EOF (R194)
  | am (lane : Nat) (bytes : List Byte)              -- Snare AM and TIME block (R181, R188)
  | hubMsg (lane : Nat) (bytes : List Byte)          -- message to a hub, MSG block to CRC (R202)
  | gong (bytes : List Byte)                         -- Gong frame (R167)
  | twin (r : TwinRec)                               -- Chezatin record (R374)
  | linkAm (lane : Nat) (bytes : List Byte)          -- Chezatin AM and TURN block (R372)
  | tapPin (word : Nat)                              -- tap on TAP_OUT (R377)
  | roleLead (level : Bool)                          -- a new level of ROLE_LEAD (R375)
  | cci (port : Nat) (x : CciXfer)                   -- CCI or I²C register write (R230)
  | i2c (bus : Nat) (word : Nat)                     -- general I²C transfer (R431)
  | sensorRead (bus addr reg : Nat)                  -- colour sensor reading (R345)
  | led (chain : Nat) (levels : List Nat)            -- LED frame or slot (R337, R340)
  | pwm (axis : Nat) (pulses : List (Nat × Nat × Nat)) -- R286: output, first tick from now on, ticks
  | pulse (output : Nat) (start width : Nat) (level : Bool) -- compare pulse and its active level (R305, R310)
  | idle (output : Nat) (tick : Nat) (level : Bool)  -- level of an idle compare output from a tick on (R310)
  | ssi (port start clocks khz mono : Nat)           -- SSI frame: first falling edge, bits sampled, clock, pause (R300)
  | ptp (port : Nat) (frame : List Byte) (depart tap : Nat) -- PTP event message with its FCS, and its departure (R357)
  | ptpGeneral (port : Nat) (m : PtpMsg)              -- PTP general message (R355, R357)
  | flash (op addr n : Nat) (data : List Byte)       -- flash command: opcode, address, bytes read, bytes written (R430)
  | gpioPwm (pin duty : Nat)                         -- GPIO PWM pulse (R432)
deriving DecidableEq, Repr

end Sys2Proof.Machine
end

