-- ==== Sys2Proof/Syntax.lean ====
section
/-! DEFINITION. The commands of the block: one constructor for each row of the table of operations and
events. A row of an R54 opcode names the ring whose next command the command processor starts; a row that reads host
memory under R48 also carries what host memory answers. The other rows carry what arrives with the
event. -/
namespace Sys2Proof
open Machine

/-- A command: an operation or an event of the table. -/
inductive Instr where
  /-- CONFIG_REQUEST (R30). -/
  | configRequest (q : ConfigReq)
  /-- MMIO_WRITE_DISCARD (R32). -/
  | mmioWriteDiscard (bar2 : Bool) (offset : Nat) (enables : List (Fin 16))
  /-- REGISTER_WRITE (R32). -/
  | registerWrite (offset : Nat) (value : BitVec 32)
  /-- HIF_SQ_TAIL_DB (R38). -/
  | hifSqTailDb (r : Fin 4) (v : Fin 65536)
  /-- HIF_CQ_HEAD_DB (R38). -/
  | hifCqHeadDb (r : Fin 4) (v : Fin 65536)
  /-- HIF_EQ_HEAD_DB (R38). -/
  | hifEqHeadDb (v : Fin 65536)
  /-- RINGS_RESET (R459). -/
  | ringsReset (value : BitVec 32)
  /-- RING_PAIR_ENABLE (R37). -/
  | ringPairEnable (r : Fin 4) (value : BitVec 32)
  /-- RING_PAIR_DISABLE (R459). -/
  | ringPairDisable (r : Fin 4) (value : BitVec 32)
  /-- EVENT_RING_ENABLE (R37). -/
  | eventRingEnable (value : BitVec 32)
  /-- EVENT_RING_DISABLE (R459). -/
  | eventRingDisable (value : BitVec 32)
  /-- ENGINE_OFFLINE (R150). -/
  | engineOffline (e : Fin 64) (off : Bool)
  /-- GPIO_OUT_WRITE (R432). -/
  | gpioOutWrite (value : BitVec 32) (mask : BitVec 32)
  /-- I2C_XFER (R431). -/
  | i2cXfer (m : Fin 2) (value : BitVec 32)
  /-- I2C_TRANSFER_DONE (R431). -/
  | i2cTransferDone (m : Fin 2) (data : Fin 256) (nack : Bool)
  /-- COMMAND_FETCH (R40). -/
  | commandFetch (r : Fin 4) (d : HostRead)
  /-- AT_BOUNDARY_COMMIT (R45). -/
  | atBoundaryCommit
  /-- UNKNOWN_OPCODE (R55). -/
  | unknownOpcode (r : Fin 4)
  /-- SYS_IDENTIFY (R54). -/
  | sysIdentify (r : Fin 4)
  /-- SYS_HEALTH (R54). -/
  | sysHealth (r : Fin 4)
  /-- SYS_REG_READ (R54). -/
  | sysRegRead (r : Fin 4)
  /-- SYS_REG_WRITE (R32). -/
  | sysRegWrite (r : Fin 4)
  /-- SYS_EVENT_MASK (R52). -/
  | sysEventMask (r : Fin 4)
  /-- SYS_FW_UPDATE (R414). -/
  | sysFwUpdate (r : Fin 4) (d : HostRead)
  /-- FW_UPDATE_DONE (R414). -/
  | fwUpdateDone (readBackOk : Bool)
  /-- SYS_ENTER_DORMANT (R416). -/
  | sysEnterDormant (r : Fin 4)
  /-- GEO_HEADCLASS (R61). -/
  | geoHeadclass (r : Fin 4)
  /-- GEO_HEAD (R63). -/
  | geoHead (r : Fin 4)
  /-- GEO_RUNS (R70). -/
  | geoRuns (r : Fin 4) (d : HostRead)
  /-- GEO_EXCEPTIONS (R70). -/
  | geoExceptions (r : Fin 4) (d : HostRead)
  /-- GEO_COMMIT (R72). -/
  | geoCommit (r : Fin 4)
  /-- GENERATION_ACTIVATE (R74). -/
  | generationActivate
  /-- PAGE_OPEN (R83). -/
  | pageOpen (r : Fin 4)
  /-- PAGE_ADD_TILES (R84). -/
  | pageAddTiles (r : Fin 4) (d : HostRead)
  /-- TILE_ARRIVAL (R86). -/
  | tileArrival (ctx : Fin 256) (idx : Nat) (d : HostRead)
  /-- VERIFY_TILE_DECODE (R117). -/
  | verifyTileDecode (ctx : Fin 256) (idx : Nat)
  /-- PAGE_CLOSE (R88). -/
  | pageClose (r : Fin 4)
  /-- VERIFICATION_END (R89). -/
  | verificationEnd (ctx : Fin 256)
  /-- PAGE_QUEUE (R94). -/
  | pageQueue (r : Fin 4)
  /-- PAGE_ABORT (R98). -/
  | pageAbort (r : Fin 4)
  /-- PAGE_QUERY (R102). -/
  | pageQuery (r : Fin 4)
  /-- PAGE_CHAIN (R96). -/
  | pageChain (r : Fin 4)
  /-- SUB_DEFECTS (R220). -/
  | subDefects (r : Fin 4) (d : HostRead)
  /-- SUB_LEVELMAP (R221). -/
  | subLevelmap (r : Fin 4)
  /-- SUB_POLICY (R222). -/
  | subPolicy (r : Fin 4)
  /-- SUB_QUERY (R223). -/
  | subQuery (r : Fin 4)
  /-- PACE_CONFIG (R172). -/
  | paceConfig (r : Fin 4)
  /-- PACE_START (R173). -/
  | paceStart (r : Fin 4)
  /-- PACE_STOP (R174). -/
  | paceStop (r : Fin 4)
  /-- PACE_ROLE (R175). -/
  | paceRole (r : Fin 4)
  /-- PACE_QUERY (R176). -/
  | paceQuery (r : Fin 4)
  /-- PACE_STEP_EDGE (R151). -/
  | paceStepEdge (samples : List (Fin 4))
  /-- LINE_TRIGGER (R158). -/
  | lineTrigger
  /-- RETREAT (R157). -/
  | retreat
  /-- PASS_ARM (R165). -/
  | passArm
  /-- HOLD_TRIGGER (R166). -/
  | holdTrigger
  /-- GONG_FRAME_RX (R169). -/
  | gongFrameRx (arrival : Nat) (bytes : List Byte)
  /-- GONG_IDLE_SEND (R168). -/
  | gongIdleSend
  /-- GONG_LOST (R170). -/
  | gongLost
  /-- GONG_HALT (R171). -/
  | gongHalt (samples : List Bool)
  /-- GONG_RX_LOCK (R427). -/
  | gongRxLock (chars : List (Fin 3))
  /-- PLANNING_TICK (R270). -/
  | planningTick
  /-- MICROSTEP_RESOLUTION_CHANGE (R283). -/
  | microstepResolutionChange (x : Fin 16)
  /-- PWM_PERIOD_START (R285). -/
  | pwmPeriodStart
  /-- CONTROL_CYCLE_END (R384). -/
  | controlCycleEnd
  /-- LOOP_EVALUATION (R321). -/
  | loopEvaluation (l : Fin 48)
  /-- LOOP_PUBLISH (R318). -/
  | loopPublish (l : Fin 48)
  /-- ADC_RESULT (R313). -/
  | adcResult (adc : Fin 2) (slot : Fin 40) (code : Fin 65536)
  /-- BEAT_RELEASE (R135). -/
  | beatRelease
  /-- SEGMENT_WRITE (R144). -/
  | segmentWrite (e : Fin 64) (faults : List Nat)
  /-- ENGINE_BEAT_DONE (R140). -/
  | engineBeatDone (e : Fin 64)
  /-- ENGINE_WATCHDOG (R150). -/
  | engineWatchdog (e : Fin 64)
  /-- SRAM_ECC_ERROR (R19). -/
  | sramEccError (store : Fin 14) (word : Nat) (bitNo : Fin 72) (double : Bool) (eng : Fin 65)
  /-- SNR_LANE_ENABLE (R205). -/
  | snrLaneEnable (r : Fin 4)
  /-- SNR_LANE_DISABLE (R206). -/
  | snrLaneDisable (r : Fin 4)
  /-- SNR_EYE_SCAN (R203). -/
  | snrEyeScan (r : Fin 4)
  /-- EYE_SCAN_DONE (R204). -/
  | eyeScanDone (lane : Fin 64) (counts : List Nat)
  /-- SNR_HEAD_MSG (R202). -/
  | snrHeadMsg (r : Fin 4)
  /-- HUB_REPLY (R202). -/
  | hubReply (lane : Fin 64) (blocks : List Byte)
  /-- HEAD_MSG_TIMEOUT (R202). -/
  | headMsgTimeout (lane : Fin 64)
  /-- SNR_QUERY (R207). -/
  | snrQuery (r : Fin 4)
  /-- SNR_BLOCK_LOCK (R179). -/
  | snrBlockLock (lane : Fin 64) (headers : List Bool)
  /-- DOWNSTREAM_AM (R181). -/
  | downstreamAm (lane : Fin 64) (uis : Nat)
  /-- UPSTREAM_AM (R182). -/
  | upstreamAm (lane : Fin 64) (am : List Byte) (turn : List Byte) (uis : Nat)
  /-- AM_MISSED (R183). -/
  | amMissed (lane : Fin 64)
  /-- LANE_BRINGUP_TIMEOUT (R183). -/
  | laneBringupTimeout (lane : Fin 64)
  /-- STATUS_BLOCK (R201). -/
  | statusBlock (lane : Fin 64) (bytes : List Byte)
  /-- CMP_REPORT (R200). -/
  | cmpReport (lane : Fin 64) (bytes : List Byte)
  /-- CAM_PORT (R226). -/
  | camPort (r : Fin 4)
  /-- CAM_SENSOR_DESC (R229). -/
  | camSensorDesc (r : Fin 4)
  /-- CAM_SET_EXPOSURE (R231). -/
  | camSetExposure (r : Fin 4)
  /-- EXPOSURE_LATCH_TIMEOUT (R232). -/
  | exposureLatchTimeout (u : Fin 16)
  /-- CCI_TRANSFER_DONE (R230). -/
  | cciTransferDone (port : Fin 4) (nack : Bool)
  /-- CAM_PIPE (R238). -/
  | camPipe (r : Fin 4) (d : HostRead)
  /-- CAM_OUTPUTS (R239). -/
  | camOutputs (r : Fin 4)
  /-- CAM_START (R245). -/
  | camStart (r : Fin 4)
  /-- CAM_STOP (R246). -/
  | camStop (r : Fin 4)
  /-- FRAME_START (R228). -/
  | frameStart (u : Fin 16)
  /-- FRAME_END (R228). -/
  | frameEnd (u : Fin 16)
  /-- FRAME_TIMEOUT (R228). -/
  | frameTimeout (u : Fin 16)
  /-- LINE_ARRIVAL (R233). -/
  | lineArrival (u : Fin 16) (rows : List (List Nat)) (errs : Fin 4) (corr : Nat) (uncorr : Nat) (other : Nat)
  /-- PIPELINE_LINE (R234). -/
  | pipelineLine
  /-- FRAME_OUTPUT_DELIVERY (R244). -/
  | frameOutputDelivery (u : Fin 16)
  /-- LADDER_STEP_PLACE (R256). -/
  | ladderStepPlace
  /-- LADDER_TIMEOUT (R263). -/
  | ladderTimeout (test : Nat)
  /-- STK_CONFIG (R262). -/
  | stkConfig (r : Fin 4) (d : HostRead)
  /-- STK_MAP (R249). -/
  | stkMap (r : Fin 4)
  /-- STK_LADDER (R263). -/
  | stkLadder (r : Fin 4)
  /-- STK_QUERY (R264). -/
  | stkQuery (r : Fin 4)
  /-- MOT_AXIS (R267). -/
  | motAxis (r : Fin 4)
  /-- MOT_SINE (R282). -/
  | motSine (r : Fin 4) (d : HostRead)
  /-- MOT_PROFILE (R277). -/
  | motProfile (r : Fin 4) (d : HostRead)
  /-- MOT_MOVE (R279). -/
  | motMove (r : Fin 4)
  /-- MOT_LIMITS (R268). -/
  | motLimits (r : Fin 4)
  /-- MOT_STOP (R280). -/
  | motStop (r : Fin 4)
  /-- MOT_QUERY (R281). -/
  | motQuery (r : Fin 4)
  /-- LIMIT_SWITCH (R269). -/
  | limitSwitch (x : Fin 16) (positive : Bool)
  /-- ENC_CONFIG (R307). -/
  | encConfig (r : Fin 4)
  /-- ENC_SET (R308). -/
  | encSet (r : Fin 4)
  /-- ENC_PROBE (R309). -/
  | encProbe (r : Fin 4)
  /-- ENC_COMPARE (R310). -/
  | encCompare (r : Fin 4) (d : HostRead)
  /-- ENC_QUERY (R311). -/
  | encQuery (r : Fin 4)
  /-- ENCODER_EDGE (R291). -/
  | encoderEdge (c : Fin 8) (samples : List (Fin 4))
  /-- ENCODER_FAULT_AUTO_CLEAR (R293). -/
  | encoderFaultAutoClear (c : Fin 8)
  /-- INDEX_PULSE (R297). -/
  | indexPulse (c : Fin 8) (samples : List Bool)
  /-- SSI_FRAME_DONE (R301). -/
  | ssiFrameDone (c : Fin 8) (data : Nat) (parity : Bool) (error : Bool) (lowAtStart : Bool)
  /-- PROBE_LATCH (R303). -/
  | probeLatch (p : Fin 4) (samples : List Bool)
  /-- PROBE_TIMEOUT (R309). -/
  | probeTimeout (p : Fin 4)
  /-- COMPARE_PULSE_END (R305). -/
  | comparePulseEnd (o : Fin 8)
  /-- SWITCH_CHANGE (R306). -/
  | switchChange (w : Fin 16) (samples : List Bool)
  /-- CLE_LOOP (R330). -/
  | cleLoop (r : Fin 4)
  /-- CLE_SECTIONS (R331). -/
  | cleSections (r : Fin 4) (d : HostRead)
  /-- CLE_MODE (R332). -/
  | cleMode (r : Fin 4)
  /-- CLE_SETPOINT (R332). -/
  | cleSetpoint (r : Fin 4)
  /-- CLE_QUERY (R334). -/
  | cleQuery (r : Fin 4)
  /-- ADC_CONFIG (R333). -/
  | adcConfig (r : Fin 4) (d : HostRead)
  /-- LED_CHAIN (R346). -/
  | ledChain (r : Fin 4)
  /-- LED_MATRIX (R347). -/
  | ledMatrix (r : Fin 4)
  /-- LED_LEVELS (R348). -/
  | ledLevels (r : Fin 4) (d : HostRead)
  /-- LED_ZONES (R349). -/
  | ledZones (r : Fin 4)
  /-- LED_FRAME_DONE (R339). -/
  | ledFrameDone (ch : Fin 8) (returned : List Nat)
  /-- MATRIX_SLOT_START (R340). -/
  | matrixSlotStart (ch : Fin 8)
  /-- COLOUR_SENSOR_READ_DONE (R345). -/
  | colourSensorReadDone (k : Fin 8) (bytes : List Byte) (nack : Bool)
  /-- TIM_PORT (R365). -/
  | timPort (r : Fin 4)
  /-- TIM_DOMAIN (R366). -/
  | timDomain (r : Fin 4)
  /-- TIM_ADJUST (R361). -/
  | timAdjust (r : Fin 4)
  /-- TIM_SELECT (R364). -/
  | timSelect (r : Fin 4)
  /-- TIM_QUERY (R368). -/
  | timQuery (r : Fin 4)
  /-- PTP_SYNC_RX (R359). -/
  | ptpSyncRx (port : Fin 2) (tap : Fin 24) (frame : List Byte)
  /-- PTP_MESSAGE_RX (R355). -/
  | ptpMessageRx (port : Fin 2) (tap : Fin 24) (frame : List Byte)
  /-- PTP_TX (R357). -/
  | ptpTx (port : Fin 2) (frame : List Byte) (depart : Nat) (tap : Fin 24) (missed : Bool)
  /-- PTP_MASTER_LOST (R360). -/
  | ptpMasterLost (inst : Fin 2) (cause : Fin 3)
  /-- SWITCH_SLEW_DONE (R363). -/
  | switchSlewDone
  /-- TWN_CONFIG (R395). -/
  | twnConfig (r : Fin 4)
  /-- TWN_HANDOVER (R396). -/
  | twnHandover (r : Fin 4)
  /-- TWN_PROOF_TEST (R394). -/
  | twnProofTest (r : Fin 4)
  /-- TWN_QUERY (R397). -/
  | twnQuery (r : Fin 4)
  /-- TAP_SEND (R377). -/
  | tapSend
  /-- TAP_RECEIVED (R377). -/
  | tapReceived (pin : Bool) (word : BitVec 32)
  /-- TAP_PATH_LOST (R378). -/
  | tapPathLost (pin : Bool)
  /-- ELECTION_TIMEOUT (R376). -/
  | electionTimeout
  /-- CHEZATIN_LINK_UP (R373). -/
  | chezatinLinkUp (ams : List (List Byte × Nat)) (turns : List (Nat × Nat)) (offTicks : Int) (offTaps : Fin 24)
  /-- LINE_RECORD_RX (R382). -/
  | lineRecordRx (bytes : List Byte)
  /-- SHADOW_LINE_TIMEOUT (R382). -/
  | shadowLineTimeout
  /-- INPUT_RECORD_RX (R374). -/
  | inputRecordRx (rec : InputRec)
  /-- CHANGE_RECORD_RX (R380). -/
  | changeRecordRx (tag : Nat) (packet : List Byte) (d : HostRead)
  /-- MIRRORED_COMMIT (R380). -/
  | mirroredCommit (tag : Nat) (stamp : Option Nat)
  /-- ACK_TIMEOUT (R380). -/
  | ackTimeout (tag : Nat)
  /-- HEALTH_RECORD_RX (R374). -/
  | healthRecordRx (h : Health)
  /-- COPY_COMPLETE (R384). -/
  | copyComplete (snap : Snapshot)
  /-- SELF_DIAGNOSIS_FAULT (R386). -/
  | selfDiagnosisFault (cause : Fin 9) (readback : List Bool)
  /-- RELINQUISH_RECEIVED (R387). -/
  | relinquishReceived
  /-- RELINQUISH_OUT (R387). -/
  | relinquishOut
  /-- PARTNER_HEALTH_RESTORE (R387). -/
  | partnerHealthRestore
  /-- ROLE_EXCHANGE (R389). -/
  | roleExchange
  /-- TAKE_BACK (R389). -/
  | takeBack
  /-- PERMIT_INPUT_CHANGE (R390). -/
  | permitInputChange (k : Fin 3) (level : Bool) (since : Nat)
  /-- CMP_OPEN (R123). -/
  | cmpOpen (r : Fin 4)
  /-- CMP_COMPRESS (R124). -/
  | cmpCompress (r : Fin 4) (d : HostRead)
  /-- CMP_DECOMPRESS (R125). -/
  | cmpDecompress (r : Fin 4) (d : HostRead)
  /-- CMP_SAVE (R126). -/
  | cmpSave (r : Fin 4)
  /-- CMP_RESTORE (R126). -/
  | cmpRestore (r : Fin 4) (d : HostRead)
  /-- CMP_CLOSE (R127). -/
  | cmpClose (r : Fin 4)
  /-- CMP_BLOCK_DONE (R122). -/
  | cmpBlockDone (unit : Fin 4) (mismatch : Bool)
  /-- RIM_CONFIG (R425). -/
  | rimConfig (r : Fin 4) (d : HostRead)
  /-- RIM_WRITE (R424). -/
  | rimWrite (addr : Fin 512) (value : BitVec 32)
  /-- GNG_CONFIG (R429). -/
  | gngConfig (r : Fin 4)
  /-- GPIO_CONFIG (R433). -/
  | gpioConfig (r : Fin 4)
  /-- EVENT_BACKLOG_DRAIN (R51). -/
  | eventBacklogDrain
  /-- COALESCE_TIMEOUT (R53). -/
  | coalesceTimeout (ring : Fin 5)
  /-- HIF_RESET (R35). -/
  | hifReset (linkDown : Bool)
  /-- PERST_ASSERT (R406). -/
  | perstAssert (ns : Nat)
  /-- SYS_RESET_ASSERT (R406). -/
  | sysResetAssert (ns : Nat)
  /-- VBAT_POR (R406). -/
  | vbatPor
  /-- POWER_UP (R406). -/
  | powerUp (rails : Fin 1024)
  /-- RESET_RELEASE (R404). -/
  | resetRelease
  /-- BOOT_IMAGE_AUTHENTICATED (R411). -/
  | bootImageAuthenticated (unread : Fin 4)
  /-- DRAM_TRAINING_DONE (R413). -/
  | dramTrainingDone (trained : Fin 16)
  /-- RAIL_LOST (R402). -/
  | railLost (rail : Fin 10)
  /-- PLL_LOCK_LOSS (R404). -/
  | pllLockLoss (pll : Fin 4)
  /-- CLOCK_RESET (R404). -/
  | clockReset
  /-- WATCHDOG_RESTART (R407). -/
  | watchdogRestart
  /-- DORMANT_OUTPUTS_OFF (R417). -/
  | dormantOutputsOff
  /-- PWR_ON_FALL (R417). -/
  | pwrOnFall
  /-- WAKE_CROSSING (R418). -/
  | wakeCrossing (falling : Bool) (micros : Nat)
  /-- WAKE_PWR_ON (R418). -/
  | wakePwrOn
  /-- JTAG_TRST (R406). -/
  | jtagTrst (writes : List (Nat × List Byte))
  /-- CHEZATIN_BLOCK_LOCK (R373). -/
  | chezatinBlockLock (lane : Fin 4) (headers : List Bool)
  /-- ACK_RECORD_RX (R380). -/
  | ackRecordRx (tag : Nat)
  /-- COMMIT_RECORD_RX (R380). -/
  | commitRecordRx (tag : Nat) (tick : Nat)
  /-- HANDOVER_RECORD_RX (R389). -/
  | handoverRecordRx (tick : Nat)
  /-- HIF_READY_RETURN (R35). -/
  | hifReadyReturn
  /-- PCIE_LINK_UP (R29). -/
  | pcieLinkUp (gen : Fin 8) (width : Fin 32) (refused : List (Nat × Nat))
  /-- RESET_PINS_RELEASED (R405). -/
  | resetPinsReleased (straps : Fin 16)
  /-- PLL_LOCK (R404). -/
  | pllLock (pll : Fin 4)
  /-- GONG_HALT_RELEASE (R428). -/
  | gongHaltRelease (samples : List Bool)
  /-- CSI_DESKEW_DONE (R225). -/
  | csiDeskewDone (port : Fin 4)
  /-- ETH_LINK_UP (R360). -/
  | ethLinkUp (port : Fin 2)
  /-- CMP_SAVE_DONE (R126). -/
  | cmpSaveDone (stream : Fin 16)
  /-- GPIO_PWM_PERIOD_START (R432). -/
  | gpioPwmPeriodStart (pin : Fin 32)
deriving DecidableEq, Repr

end Sys2Proof
end

