-- ==== Sys2Proof/Config.lean ====
section
/-! DEFINITION. What an implementation fixes and the values the spec leaves open: constants without a
body, so that nothing can be proved of their value. -/
namespace Sys2Proof.Config

/-- A free value, drawn with the counter `State.free`. -/
opaque freeNat : Nat → Nat

/-- The block that a service compressor writes (R122), which the spec fixes only in what it decodes to:
by EFFORT, CONT, history (newest byte first) and input. -/
opaque compressor : Nat → Bool → List Nat → List Nat → List Nat

/-- The jerk of a planning tick within which the shortest-time trajectory (R271) changes its jerk, by arithmetic that the spec
calls fixed and does not give: by kind of goal, position, velocity, acceleration, target, speed limit and the axis's ACCEL, DECEL
and JERK. -/
opaque planJerk : List Int → Int

/-- That trajectory ends within the coming planning tick (R271), of the same operands. -/
opaque planEnds : List Int → Bool

/-- How a quotient that a format cannot hold is rounded where the spec states no rounding: true for up. -/
opaque roundUp : Int → Nat → Bool

/-- By how much the computed absorbance misses the exactly rounded one (R237), of WHITE and the sample: 0, 1 or 2 for
−1, 0 or +1, modulo 3. -/
opaque logError : Nat → Nat → Nat

/-- SHA-384 of a list of bytes (R410, R411), a function that the spec names and does not define. -/
opaque sha384 : List Nat → List Nat

/-- The ECDSA P-384 signature verifies (R410, R411) under boot key `key`: of the signed bytes and the signature. -/
opaque ecdsaOk : Nat → List Nat → List Nat → Bool

/-- The LPDDR5X channels that a board block names, one bit each (R409, R413): the spec does not give the layout of its fields. -/
opaque boardChannels : List Nat → Nat

/-- The GiB of the channels of a mask, by the densities that the board block states (R409, R413). -/
opaque boardGib : List Nat → Nat → Nat

/-- The stepping that SYS_IDENTIFY reports (R1, R54). -/
opaque stepping : Nat

/-- The unique device number (R54). -/
opaque deviceNumber : Nat

/-- The 6 bytes of firmware version that SYS_IDENTIFY reports in recovery (R54, R412), which the spec does not state. -/
opaque recoveryVersion : Nat

end Sys2Proof.Config
end

