-- ==== Sys2Proof/Machine/State.lean ====
section
/-! DEFINITION. The state of the block, the reasons for a stop, and the state right after reset. -/
namespace Sys2Proof.Machine

/-- The reasons for a fault. There is none: the spec gives every command an effect, and a command that
is not the occasion changes nothing (log entry 5). -/
inductive Fault : Type
deriving DecidableEq, Repr

/-- The reasons for a refusal. -/
inductive Refusal where
  /-- The command has no meaning yet; raised by `exec` alone. Safe: nothing is claimed of it. -/
  | notModelled (mnemonic : String)
deriving DecidableEq, Repr

/-- The state: the tick count, the commands that wait, what was sent, the free-value counter and one
field for each block. -/
structure State where
  tick : Nat := 0                     -- R351: ticks since reset release
  pending : List Instr := []          -- commands that wait, first in, first out
  out : List Out := []                -- what the block has sent, in order (log entry 3)
  free : Nat := 0                     -- free values drawn (log entry 4)
  sys : Sys := {}
  hif : Hif := {}
  evt : Evt := {}
  geo : Geo := {}
  pgq : Pgq := {}
  dec : Dec := {}
  cmp : Cmp := {}
  mal : Mal := {}
  sub : Sub := {}
  fir : Fir := {}
  snr : Snr := {}
  cam : Cam := {}
  stk : Stk := {}
  mot : Mot := {}
  enc : Enc := {}
  cle : Cle := {}
  led : Led := {}
  tim : Tim := {}
  twn : Twn := {}
  rim : Rim := {}
  gng : Gng := {}
  gpio : Gpio := {}
  i2c : Table I2cM := {}
  copyOwn : Option Snapshot := none   -- R384: a shadow's own snapshot, to be compared
  outbox : List TwinRec := []               -- R374: records of this tick, in the order in which they arose
  copySince : List (Nat × TwinRec) := [] -- R384: LINE and INPUT records received since it, by pair tick
  dram : Table Byte := {}             -- R124, R125: bytes of local DRAM by byte address (log entry 6)
deriving DecidableEq, Repr

/-- The machine right after reset: every field at its reset value, no command waiting. -/
def State.reset : State := {}

end Sys2Proof.Machine
end

