-- ==== Sys2Proof/Machine/Access.lean ====
section
/-! DEFINITION. Reading and changing one block or one unit of the state. -/
namespace Sys2Proof.Machine

/-- Change the system block (18). -/
def State.modSys (s : State) (f : Sys → Sys) : State := { s with sys := f s.sys }

/-- Change the host interface (02). -/
def State.modHif (s : State) (f : Hif → Hif) : State := { s with hif := f s.hif }

/-- Change event records (02). -/
def State.modEvt (s : State) (f : Evt → Evt) : State := { s with evt := f s.evt }

/-- Change geometry (03). -/
def State.modGeo (s : State) (f : Geo → Geo) : State := { s with geo := f s.geo }

/-- Change the page queue (04). -/
def State.modPgq (s : State) (f : Pgq → Pgq) : State := { s with pgq := f s.pgq }

/-- Change verification (05). -/
def State.modDec (s : State) (f : Dec → Dec) : State := { s with dec := f s.dec }

/-- Change service compression (05). -/
def State.modCmp (s : State) (f : Cmp → Cmp) : State := { s with cmp := f s.cmp }

/-- Change fetch and mallet engines (06). -/
def State.modMal (s : State) (f : Mal → Mal) : State := { s with mal := f s.mal }

/-- Change substitution (09). -/
def State.modSub (s : State) (f : Sub → Sub) : State := { s with sub := f s.sub }

/-- Change fire pacing (07). -/
def State.modFir (s : State) (f : Fir → Fir) : State := { s with fir := f s.fir }

/-- Change the Snare link (08). -/
def State.modSnr (s : State) (f : Snr → Snr) : State := { s with snr := f s.snr }

/-- Change the cameras (10). -/
def State.modCam (s : State) (f : Cam → Cam) : State := { s with cam := f s.cam }

/-- Change streak detection (11). -/
def State.modStk (s : State) (f : Stk → Stk) : State := { s with stk := f s.stk }

/-- Change motion (12). -/
def State.modMot (s : State) (f : Mot → Mot) : State := { s with mot := f s.mot }

/-- Change position feedback (13). -/
def State.modEnc (s : State) (f : Enc → Enc) : State := { s with enc := f s.enc }

/-- Change control loops and ADC (14). -/
def State.modCle (s : State) (f : Cle → Cle) : State := { s with cle := f s.cle }

/-- Change LED drive (15). -/
def State.modLed (s : State) (f : Led → Led) : State := { s with led := f s.led }

/-- Change time (16). -/
def State.modTim (s : State) (f : Tim → Tim) : State := { s with tim := f s.tim }

/-- Change twin and safety (17). -/
def State.modTwn (s : State) (f : Twn → Twn) : State := { s with twn := f s.twn }

/-- Change the Rim port (19). -/
def State.modRim (s : State) (f : Rim → Rim) : State := { s with rim := f s.rim }

/-- Change the Gong bus (19). -/
def State.modGng (s : State) (f : Gng → Gng) : State := { s with gng := f s.gng }

/-- Change GPIO (19). -/
def State.modGpio (s : State) (f : Gpio → Gpio) : State := { s with gpio := f s.gpio }

/-- Change the I²C masters (19). -/
def State.modI2c (s : State) (f : Table I2cM → Table I2cM) : State := { s with i2c := f s.i2c }

/-- What leaves of an item that is sent (R417, R441): nothing once the outputs are off on the way to DORMANT. -/
def State.leaves (s : State) (o : Out) : List Out :=
  match s.sys.dormant with
  | .outputsOff _ => []
  | .asleep _ => []
  | _ => [o]

/-- Send one more item (log entry 3). -/
def State.emit (s : State) (o : Out) : State := { s with out := s.out ++ s.leaves o }

/-- Draw the next free value (log entry 4). -/
def State.draw (s : State) : Nat := Config.freeNat s.free

/-- The state after a free value was drawn. -/
def State.drawn (s : State) : State := { s with free := s.free + 1 }

/-- Unit `i` of `hif.rings`. -/
def State.ring (s : State) (i : Nat) : Ring := s.hif.rings.get {} i

/-- Replace unit `i` of `hif.rings`. -/
def State.setRing (s : State) (i : Nat) (v : Ring) : State :=
  { s with hif := { s.hif with rings := s.hif.rings.set {} i v } }

/-- Change unit `i` of `hif.rings`. -/
def State.modRing (s : State) (i : Nat) (f : Ring → Ring) : State := s.setRing i (f (s.ring i))

/-- Unit `i` of `hif.msix`. -/
def State.msixEntry (s : State) (i : Nat) : MsixEntry := s.hif.msix.get {} i

/-- Replace unit `i` of `hif.msix`. -/
def State.setMsixEntry (s : State) (i : Nat) (v : MsixEntry) : State :=
  { s with hif := { s.hif with msix := s.hif.msix.set {} i v } }

/-- Change unit `i` of `hif.msix`. -/
def State.modMsixEntry (s : State) (i : Nat) (f : MsixEntry → MsixEntry) : State := s.setMsixEntry i (f (s.msixEntry i))

/-- Unit `i` of `pgq.ctxs`. -/
def State.ctx (s : State) (i : Nat) : Ctx := s.pgq.ctxs.get {} i

/-- Replace unit `i` of `pgq.ctxs`. -/
def State.setCtx (s : State) (i : Nat) (v : Ctx) : State :=
  { s with pgq := { s.pgq with ctxs := s.pgq.ctxs.set {} i v } }

/-- Change unit `i` of `pgq.ctxs`. -/
def State.modCtx (s : State) (i : Nat) (f : Ctx → Ctx) : State := s.setCtx i (f (s.ctx i))

/-- Unit `i` of `cmp.streams`. -/
def State.stream (s : State) (i : Nat) : Stream := s.cmp.streams.get {} i

/-- Replace unit `i` of `cmp.streams`. -/
def State.setStream (s : State) (i : Nat) (v : Stream) : State :=
  { s with cmp := { s.cmp with streams := s.cmp.streams.set {} i v } }

/-- Change unit `i` of `cmp.streams`. -/
def State.modStream (s : State) (i : Nat) (f : Stream → Stream) : State := s.setStream i (f (s.stream i))

/-- Unit `i` of `mal.engines`. -/
def State.engine (s : State) (i : Nat) : Engine := s.mal.engines.get {} i

/-- Replace unit `i` of `mal.engines`. -/
def State.setEngine (s : State) (i : Nat) (v : Engine) : State :=
  { s with mal := { s.mal with engines := s.mal.engines.set {} i v } }

/-- Change unit `i` of `mal.engines`. -/
def State.modEngine (s : State) (i : Nat) (f : Engine → Engine) : State := s.setEngine i (f (s.engine i))

/-- Unit `i` of `mal.rings`. -/
def State.laneRing (s : State) (i : Nat) : LaneRing := s.mal.rings.get {} i

/-- Replace unit `i` of `mal.rings`. -/
def State.setLaneRing (s : State) (i : Nat) (v : LaneRing) : State :=
  { s with mal := { s.mal with rings := s.mal.rings.set {} i v } }

/-- Change unit `i` of `mal.rings`. -/
def State.modLaneRing (s : State) (i : Nat) (f : LaneRing → LaneRing) : State := s.setLaneRing i (f (s.laneRing i))

/-- Unit `i` of `snr.lanes`. -/
def State.lane (s : State) (i : Nat) : Lane := s.snr.lanes.get {} i

/-- Replace unit `i` of `snr.lanes`. -/
def State.setLane (s : State) (i : Nat) (v : Lane) : State :=
  { s with snr := { s.snr with lanes := s.snr.lanes.set {} i v } }

/-- Change unit `i` of `snr.lanes`. -/
def State.modLane (s : State) (i : Nat) (f : Lane → Lane) : State := s.setLane i (f (s.lane i))

/-- Unit `i` of `cam.ports`. -/
def State.camPort (s : State) (i : Nat) : CamPort := s.cam.ports.get {} i

/-- Replace unit `i` of `cam.ports`. -/
def State.setCamPort (s : State) (i : Nat) (v : CamPort) : State :=
  { s with cam := { s.cam with ports := s.cam.ports.set {} i v } }

/-- Change unit `i` of `cam.ports`. -/
def State.modCamPort (s : State) (i : Nat) (f : CamPort → CamPort) : State := s.setCamPort i (f (s.camPort i))

/-- Unit `i` of `cam.units`. -/
def State.camUnit (s : State) (i : Nat) : CamUnit := s.cam.units.get {} i

/-- Replace unit `i` of `cam.units`. -/
def State.setCamUnit (s : State) (i : Nat) (v : CamUnit) : State :=
  { s with cam := { s.cam with units := s.cam.units.set {} i v } }

/-- Change unit `i` of `cam.units`. -/
def State.modCamUnit (s : State) (i : Nat) (f : CamUnit → CamUnit) : State := s.setCamUnit i (f (s.camUnit i))

/-- Unit `i` of `stk.cols`. -/
def State.stkCol (s : State) (i : Nat) : StkCol := s.stk.cols.get {} i

/-- Replace unit `i` of `stk.cols`. -/
def State.setStkCol (s : State) (i : Nat) (v : StkCol) : State :=
  { s with stk := { s.stk with cols := s.stk.cols.set {} i v } }

/-- Change unit `i` of `stk.cols`. -/
def State.modStkCol (s : State) (i : Nat) (f : StkCol → StkCol) : State := s.setStkCol i (f (s.stkCol i))

/-- Unit `i` of `mot.axes`. -/
def State.axis (s : State) (i : Nat) : Axis := s.mot.axes.get {} i

/-- Replace unit `i` of `mot.axes`. -/
def State.setAxis (s : State) (i : Nat) (v : Axis) : State :=
  { s with mot := { s.mot with axes := s.mot.axes.set {} i v } }

/-- Change unit `i` of `mot.axes`. -/
def State.modAxis (s : State) (i : Nat) (f : Axis → Axis) : State := s.setAxis i (f (s.axis i))

/-- Unit `i` of `enc.chans`. -/
def State.chan (s : State) (i : Nat) : Chan := s.enc.chans.get {} i

/-- Replace unit `i` of `enc.chans`. -/
def State.setChan (s : State) (i : Nat) (v : Chan) : State :=
  { s with enc := { s.enc with chans := s.enc.chans.set {} i v } }

/-- Change unit `i` of `enc.chans`. -/
def State.modChan (s : State) (i : Nat) (f : Chan → Chan) : State := s.setChan i (f (s.chan i))

/-- Unit `i` of `enc.probes`. -/
def State.probe (s : State) (i : Nat) : Probe := s.enc.probes.get {} i

/-- Replace unit `i` of `enc.probes`. -/
def State.setProbe (s : State) (i : Nat) (v : Probe) : State :=
  { s with enc := { s.enc with probes := s.enc.probes.set {} i v } }

/-- Change unit `i` of `enc.probes`. -/
def State.modProbe (s : State) (i : Nat) (f : Probe → Probe) : State := s.setProbe i (f (s.probe i))

/-- Unit `i` of `enc.cmps`. -/
def State.cmpr (s : State) (i : Nat) : Cmpr := s.enc.cmps.get {} i

/-- Replace unit `i` of `enc.cmps`. -/
def State.setCmpr (s : State) (i : Nat) (v : Cmpr) : State :=
  { s with enc := { s.enc with cmps := s.enc.cmps.set {} i v } }

/-- Change unit `i` of `enc.cmps`. -/
def State.modCmpr (s : State) (i : Nat) (f : Cmpr → Cmpr) : State := s.setCmpr i (f (s.cmpr i))

/-- Unit `i` of `enc.switches`. -/
def State.switchIn (s : State) (i : Nat) : Switch := s.enc.switches.get {} i

/-- Replace unit `i` of `enc.switches`. -/
def State.setSwitchIn (s : State) (i : Nat) (v : Switch) : State :=
  { s with enc := { s.enc with switches := s.enc.switches.set {} i v } }

/-- Change unit `i` of `enc.switches`. -/
def State.modSwitchIn (s : State) (i : Nat) (f : Switch → Switch) : State := s.setSwitchIn i (f (s.switchIn i))

/-- Unit `i` of `cle.inputs`. -/
def State.adcIn (s : State) (i : Nat) : AdcIn := s.cle.inputs.get {} i

/-- Replace unit `i` of `cle.inputs`. -/
def State.setAdcIn (s : State) (i : Nat) (v : AdcIn) : State :=
  { s with cle := { s.cle with inputs := s.cle.inputs.set {} i v } }

/-- Change unit `i` of `cle.inputs`. -/
def State.modAdcIn (s : State) (i : Nat) (f : AdcIn → AdcIn) : State := s.setAdcIn i (f (s.adcIn i))

/-- Unit `i` of `cle.loops`. -/
def State.loop (s : State) (i : Nat) : Loop := s.cle.loops.get {} i

/-- Replace unit `i` of `cle.loops`. -/
def State.setLoop (s : State) (i : Nat) (v : Loop) : State :=
  { s with cle := { s.cle with loops := s.cle.loops.set {} i v } }

/-- Change unit `i` of `cle.loops`. -/
def State.modLoop (s : State) (i : Nat) (f : Loop → Loop) : State := s.setLoop i (f (s.loop i))

/-- Unit `i` of `led.chains`. -/
def State.chain (s : State) (i : Nat) : Chain := s.led.chains.get {} i

/-- Replace unit `i` of `led.chains`. -/
def State.setChain (s : State) (i : Nat) (v : Chain) : State :=
  { s with led := { s.led with chains := s.led.chains.set {} i v } }

/-- Change unit `i` of `led.chains`. -/
def State.modChain (s : State) (i : Nat) (f : Chain → Chain) : State := s.setChain i (f (s.chain i))

/-- Unit `i` of `led.zones`. -/
def State.zone (s : State) (i : Nat) : Zone := s.led.zones.get {} i

/-- Replace unit `i` of `led.zones`. -/
def State.setZone (s : State) (i : Nat) (v : Zone) : State :=
  { s with led := { s.led with zones := s.led.zones.set {} i v } }

/-- Change unit `i` of `led.zones`. -/
def State.modZone (s : State) (i : Nat) (f : Zone → Zone) : State := s.setZone i (f (s.zone i))

/-- Unit `i` of `led.sensors`. -/
def State.colour (s : State) (i : Nat) : Colour := s.led.sensors.get {} i

/-- Replace unit `i` of `led.sensors`. -/
def State.setColour (s : State) (i : Nat) (v : Colour) : State :=
  { s with led := { s.led with sensors := s.led.sensors.set {} i v } }

/-- Change unit `i` of `led.sensors`. -/
def State.modColour (s : State) (i : Nat) (f : Colour → Colour) : State := s.setColour i (f (s.colour i))

/-- Unit `i` of `tim.insts`. -/
def State.inst (s : State) (i : Nat) : Inst := s.tim.insts.get {} i

/-- Replace unit `i` of `tim.insts`. -/
def State.setInst (s : State) (i : Nat) (v : Inst) : State :=
  { s with tim := { s.tim with insts := s.tim.insts.set {} i v } }

/-- Change unit `i` of `tim.insts`. -/
def State.modInst (s : State) (i : Nat) (f : Inst → Inst) : State := s.setInst i (f (s.inst i))

/-- Unit `i` of `tim.ports`. -/
def State.ptpPort (s : State) (i : Nat) : TPort := s.tim.ports.get {} i

/-- Replace unit `i` of `tim.ports`. -/
def State.setPtpPort (s : State) (i : Nat) (v : TPort) : State :=
  { s with tim := { s.tim with ports := s.tim.ports.set {} i v } }

/-- Change unit `i` of `tim.ports`. -/
def State.modPtpPort (s : State) (i : Nat) (f : TPort → TPort) : State := s.setPtpPort i (f (s.ptpPort i))

/-- Unit `i` of `gpio.pins`. -/
def State.pin (s : State) (i : Nat) : Pin := s.gpio.pins.get {} i

/-- Replace unit `i` of `gpio.pins`. -/
def State.setPin (s : State) (i : Nat) (v : Pin) : State :=
  { s with gpio := { s.gpio with pins := s.gpio.pins.set {} i v } }

/-- Change unit `i` of `gpio.pins`. -/
def State.modPin (s : State) (i : Nat) (f : Pin → Pin) : State := s.setPin i (f (s.pin i))

/-- I²C master `i`. -/
def State.i2cM (s : State) (i : Nat) : I2cM := s.i2c.get {} i

/-- Replace I²C master `i`. -/
def State.setI2cM (s : State) (i : Nat) (v : I2cM) : State := { s with i2c := s.i2c.set {} i v }

end Sys2Proof.Machine
end

