-- ==== Sys2Proof/Machine/Codes.lean ====
section
/-! DEFINITION. The status codes (R56, R57), the event codes with their default severity (R58), and the
opcodes with what the packet rules need of each (R41, R45, R54, R380). -/
namespace Sys2Proof.Machine

namespace Status
abbrev ok : Nat := 0x0000
abbrev badOpcode : Nat := 0x0001
abbrev badParam : Nat := 0x0002
abbrev busy : Nat := 0x0003
abbrev notReady : Nat := 0x0004
abbrev wrongRole : Nat := 0x0005
abbrev noResource : Nat := 0x0006
abbrev timeout : Nat := 0x0007
abbrev denied : Nat := 0x0008
abbrev authFailed : Nat := 0x0101
abbrev printActive : Nat := 0x0102
abbrev geoInconsistent : Nat := 0x0201
abbrev geoOverlap : Nat := 0x0202
abbrev overBudget : Nat := 0x0301
abbrev tileInvalid : Nat := 0x0302
abbrev pageState : Nat := 0x0303
abbrev chainInvalid : Nat := 0x0304
abbrev geoMismatch : Nat := 0x0305
abbrev mapRange : Nat := 0x0401
abbrev sourceAbsent : Nat := 0x0501
abbrev paceRunning : Nat := 0x0502
abbrev laneIdMismatch : Nat := 0x0601
abbrev laneDown : Nat := 0x0602
abbrev hubNoReply : Nat := 0x0603
abbrev cciNack : Nat := 0x0701
abbrev descMissing : Nat := 0x0702
abbrev notCalibrated : Nat := 0x0801
abbrev noPageGap : Nat := 0x0802
abbrev targetBehind : Nat := 0x0901
abbrev noReverse : Nat := 0x0902
abbrev limitHit : Nat := 0x0903
abbrev notHomed : Nat := 0x0A01
abbrev probeMissed : Nat := 0x0A02
abbrev sectionBudget : Nat := 0x0B01
abbrev chainFault : Nat := 0x0C01
abbrev domainUnlocked : Nat := 0x0D01
abbrev noPartner : Nat := 0x0E01
abbrev partnerUnhealthy : Nat := 0x0E02
abbrev verifyMismatch : Nat := 0x0F01
abbrev streamState : Nat := 0x0F02
end Status

namespace Sev
abbrev info : Nat := 0
abbrev notice : Nat := 1
abbrev warn : Nat := 2
abbrev fault : Nat := 3
abbrev critical : Nat := 4
end Sev

/-- The event codes and their default severities (R58). -/
def eventTable : List (Nat × Nat) :=
  [(0x0101, 2), (0x0102, 3), (0x0103, 3), (0x0104, 4), (0x0110, 1), (0x0111, 4), (0x0201, 0),
   (0x0301, 0), (0x0302, 2), (0x0303, 3), (0x0401, 2), (0x0402, 1), (0x0501, 2), (0x0502, 1),
   (0x0503, 0), (0x0504, 3), (0x0505, 4), (0x0601, 0), (0x0602, 3), (0x0603, 2), (0x0604, 1),
   (0x0701, 2), (0x0702, 2), (0x0703, 0), (0x0801, 1), (0x0802, 0), (0x0803, 2), (0x0901, 2),
   (0x0902, 3), (0x0A01, 1), (0x0A02, 3), (0x0A03, 1), (0x0A04, 3), (0x0B01, 2), (0x0B02, 3),
   (0x0C01, 3), (0x0D01, 1), (0x0D02, 2), (0x0E01, 4), (0x0E02, 2), (0x0E03, 4), (0x0E04, 4),
   (0x0F01, 3)]

/-- The default severity of an event code (R58); none: not an event code. -/
def eventSeverity (code : Nat) : Option Nat :=
  (eventTable.find? (fun e => e.1 == code)).map (fun e => e.2)

/-- The class of a command under R380. -/
inductive OpClass where
  | localTo | mirrored | leadOnly
deriving DecidableEq, Repr

/-- What the packet rules need of an opcode: whether PAGE names a context (R41), the bytes 8 to 63 that
are defined, as stretches (first, one past the last), whether R45 excludes AT_BOUNDARY, and its class. -/
structure OpInfo where
  code : Nat
  page : Bool := false
  defined : List (Nat × Nat) := []
  noBoundary : Bool := false
  cls : OpClass := .localTo
deriving DecidableEq, Repr

end Sys2Proof.Machine
end

