-- ==== Sys2Proof/Machine/Operands.lean ====
section
/-! DEFINITION. The operand forms: fields of a command packet (R41) and of data read from host memory. -/
namespace Sys2Proof.Machine

/-- The byte at an offset; 0 past the end. -/
def u8 (p : List Byte) (i : Nat) : Nat := p.getD i 0 % 256

/-- `n` bytes at an offset, little-endian (R2). -/
def uN (n : Nat) (p : List Byte) (i : Nat) : Nat := leNat (((p.drop i).take n).map (· % 256))

def u16 (p : List Byte) (i : Nat) : Nat := uN 2 p i
def u24 (p : List Byte) (i : Nat) : Nat := uN 3 p i
def u32 (p : List Byte) (i : Nat) : Nat := uN 4 p i
def u48 (p : List Byte) (i : Nat) : Nat := uN 6 p i
def u64 (p : List Byte) (i : Nat) : Nat := uN 8 p i

/-- A signed field of `n` bytes (R3). -/
def iN (n : Nat) (p : List Byte) (i : Nat) : Int := toSigned (8 * n) (uN n p i)

def i8 (p : List Byte) (i : Nat) : Int := iN 1 p i
def i16 (p : List Byte) (i : Nat) : Int := iN 2 p i
def i32 (p : List Byte) (i : Nat) : Int := iN 4 p i
def i64 (p : List Byte) (i : Nat) : Int := iN 8 p i

/-- The bytes of a packet from `i` up to `j` are 0. -/
def zeroRange (p : List Byte) (i j : Nat) : Bool := ((p.drop i).take (j - i)).all (· == 0)

/-- The opcode of a packet (R41). -/
def pktOpcode (p : List Byte) : Nat := u16 p 0
/-- FLAGS of a packet (R41). -/
def pktFlags (p : List Byte) : Nat := u8 p 2
def pktFence (p : List Byte) : Bool := bit (pktFlags p) 0
def pktQuiet (p : List Byte) : Bool := bit (pktFlags p) 1
def pktAtBoundary (p : List Byte) : Bool := bit (pktFlags p) 2
/-- PAGE of a packet (R41). -/
def pktPage (p : List Byte) : Nat := u8 p 3
/-- TAG of a packet (R41). -/
def pktTag (p : List Byte) : Nat := u32 p 4

/-- Every byte from 8 to 63 outside the stretches is 0 (R41, R460 step 2). -/
def zeroOutside (defined : List (Nat × Nat)) (p : List Byte) : Bool :=
  (List.range 64).all (fun i =>
    i < 8 || defined.any (fun d => d.1 ≤ i && i < d.2) || u8 p i == 0)

/-- Packet form, step 2 of R460: FLAGS bits [7:3] are 0, PAGE follows R41, undefined bytes are 0, and
AT_BOUNDARY is not set where R45 excludes it. -/
def packetForm (o : OpInfo) (p : List Byte) : Bool :=
  decide (pktFlags p < 8)
    && (if o.page then decide (0 < pktPage p) else pktPage p == 0)
    && zeroOutside o.defined p
    && !(o.noBoundary && pktAtBoundary p)

end Sys2Proof.Machine
end

