-- ==== Sys2Proof/Machine/Opcodes.lean ====
section
/-! DEFINITION. The opcode table (R54) with the packet rules of each opcode: whether PAGE names a context
(R41), the defined parameter bytes, the exclusion of AT_BOUNDARY (R45) and the class of R380. -/
namespace Sys2Proof.Machine

/-- Part 0 of the opcode table (R54). -/
def opTable0 : List OpInfo := [
  { code := 0x0101, page := false, defined := [], noBoundary := true, cls := .localTo },
  { code := 0x0102, page := false, defined := [], noBoundary := true, cls := .localTo },
  { code := 0x0103, page := false, defined := [(8, 12)], noBoundary := true, cls := .localTo },
  { code := 0x0104, page := false, defined := [(8, 20)], noBoundary := false, cls := .localTo },
  { code := 0x0105, page := false, defined := [(8, 40)], noBoundary := false, cls := .localTo },
  { code := 0x0106, page := false, defined := [(8, 22)], noBoundary := false, cls := .localTo },
  { code := 0x0107, page := false, defined := [(8, 11)], noBoundary := false, cls := .localTo },
  { code := 0x0201, page := false, defined := [(8, 15), (16, 56)], noBoundary := false, cls := .localTo },
  { code := 0x0202, page := false, defined := [(8, 18), (20, 25)], noBoundary := false, cls := .localTo },
  { code := 0x0203, page := false, defined := [(8, 25)], noBoundary := false, cls := .localTo },
  { code := 0x0204, page := false, defined := [(8, 25)], noBoundary := false, cls := .localTo },
  { code := 0x0205, page := false, defined := [(8, 9)], noBoundary := false, cls := .localTo },
  { code := 0x0301, page := true, defined := [(8, 17)], noBoundary := false, cls := .localTo },
  { code := 0x0302, page := true, defined := [(8, 19), (20, 28)], noBoundary := false, cls := .localTo },
  { code := 0x0303, page := true, defined := [], noBoundary := false, cls := .localTo },
  { code := 0x0304, page := true, defined := [(8, 9), (12, 22)], noBoundary := false, cls := .mirrored },
  { code := 0x0305, page := true, defined := [], noBoundary := false, cls := .mirrored },
  { code := 0x0306, page := true, defined := [], noBoundary := true, cls := .localTo },
  { code := 0x0307, page := true, defined := [(8, 9)], noBoundary := false, cls := .mirrored },
  { code := 0x0401, page := false, defined := [(8, 21), (24, 56)], noBoundary := false, cls := .mirrored },
  { code := 0x0402, page := false, defined := [(8, 10), (16, 32)], noBoundary := false, cls := .mirrored }]

/-- Part 1 of the opcode table (R54). -/
def opTable1 : List OpInfo := [
  { code := 0x0403, page := false, defined := [(8, 10)], noBoundary := false, cls := .mirrored },
  { code := 0x0404, page := false, defined := [(8, 9), (12, 14), (16, 32)], noBoundary := true, cls := .localTo },
  { code := 0x0501, page := false, defined := [(8, 60)], noBoundary := false, cls := .mirrored },
  { code := 0x0502, page := false, defined := [(8, 14), (16, 25)], noBoundary := false, cls := .mirrored },
  { code := 0x0503, page := false, defined := [(8, 10), (16, 22)], noBoundary := false, cls := .mirrored },
  { code := 0x0504, page := false, defined := [(8, 9)], noBoundary := false, cls := .mirrored },
  { code := 0x0505, page := false, defined := [], noBoundary := true, cls := .localTo },
  { code := 0x0601, page := false, defined := [(8, 19)], noBoundary := false, cls := .localTo },
  { code := 0x0602, page := false, defined := [(8, 16)], noBoundary := false, cls := .localTo },
  { code := 0x0603, page := false, defined := [(8, 12), (16, 28)], noBoundary := false, cls := .localTo },
  { code := 0x0604, page := false, defined := [(8, 11), (16, 64)], noBoundary := false, cls := .localTo },
  { code := 0x0605, page := false, defined := [(8, 9)], noBoundary := true, cls := .localTo },
  { code := 0x0701, page := false, defined := [(8, 11), (12, 18)], noBoundary := false, cls := .localTo },
  { code := 0x0702, page := false, defined := [(8, 30), (32, 48)], noBoundary := false, cls := .localTo },
  { code := 0x0703, page := false, defined := [(8, 9), (16, 32)], noBoundary := false, cls := .localTo },
  { code := 0x0704, page := false, defined := [(8, 9), (16, 24)], noBoundary := false, cls := .localTo },
  { code := 0x0705, page := false, defined := [(8, 30), (32, 50), (56, 64)], noBoundary := false, cls := .localTo },
  { code := 0x0706, page := false, defined := [(8, 9)], noBoundary := false, cls := .localTo },
  { code := 0x0707, page := false, defined := [(8, 9)], noBoundary := false, cls := .localTo },
  { code := 0x0801, page := false, defined := [(8, 27), (32, 40)], noBoundary := false, cls := .mirrored },
  { code := 0x0802, page := false, defined := [(8, 14), (16, 34)], noBoundary := false, cls := .mirrored }]

/-- Part 2 of the opcode table (R54). -/
def opTable2 : List OpInfo := [
  { code := 0x0803, page := false, defined := [(8, 13), (16, 52)], noBoundary := false, cls := .mirrored },
  { code := 0x0804, page := false, defined := [(16, 18)], noBoundary := true, cls := .localTo },
  { code := 0x0901, page := false, defined := [(8, 52)], noBoundary := false, cls := .mirrored },
  { code := 0x0902, page := false, defined := [(8, 9), (16, 24)], noBoundary := false, cls := .mirrored },
  { code := 0x0903, page := false, defined := [(8, 11), (16, 24)], noBoundary := false, cls := .mirrored },
  { code := 0x0904, page := false, defined := [(8, 12), (16, 28)], noBoundary := false, cls := .mirrored },
  { code := 0x0905, page := false, defined := [(8, 48)], noBoundary := false, cls := .mirrored },
  { code := 0x0906, page := false, defined := [(8, 10)], noBoundary := false, cls := .mirrored },
  { code := 0x0907, page := false, defined := [(8, 9)], noBoundary := true, cls := .localTo },
  { code := 0x0A01, page := false, defined := [(8, 46)], noBoundary := false, cls := .mirrored },
  { code := 0x0A02, page := false, defined := [(8, 10), (16, 24)], noBoundary := false, cls := .mirrored },
  { code := 0x0A03, page := false, defined := [(8, 11), (12, 16)], noBoundary := false, cls := .mirrored },
  { code := 0x0A04, page := false, defined := [(8, 11), (12, 24)], noBoundary := false, cls := .mirrored },
  { code := 0x0A05, page := false, defined := [(8, 9)], noBoundary := true, cls := .localTo },
  { code := 0x0B01, page := false, defined := [(8, 52)], noBoundary := false, cls := .mirrored },
  { code := 0x0B02, page := false, defined := [(8, 11), (16, 24)], noBoundary := false, cls := .mirrored },
  { code := 0x0B03, page := false, defined := [(8, 10), (12, 16)], noBoundary := false, cls := .mirrored },
  { code := 0x0B04, page := false, defined := [(8, 10), (12, 16)], noBoundary := false, cls := .mirrored },
  { code := 0x0B05, page := false, defined := [(8, 9)], noBoundary := true, cls := .localTo },
  { code := 0x0B10, page := false, defined := [(8, 64)], noBoundary := false, cls := .mirrored },
  { code := 0x0C01, page := false, defined := [(8, 18)], noBoundary := false, cls := .mirrored }]

/-- Part 3 of the opcode table (R54). -/
def opTable3 : List OpInfo := [
  { code := 0x0C02, page := false, defined := [(8, 13), (14, 16)], noBoundary := false, cls := .mirrored },
  { code := 0x0C03, page := false, defined := [(8, 9), (10, 14), (16, 56)], noBoundary := false, cls := .mirrored },
  { code := 0x0C04, page := false, defined := [(8, 64)], noBoundary := false, cls := .mirrored },
  { code := 0x0D01, page := false, defined := [(8, 22), (24, 52)], noBoundary := false, cls := .localTo },
  { code := 0x0D02, page := false, defined := [(8, 22), (24, 52)], noBoundary := false, cls := .localTo },
  { code := 0x0D03, page := false, defined := [(8, 10), (16, 32)], noBoundary := false, cls := .localTo },
  { code := 0x0D04, page := false, defined := [(8, 9)], noBoundary := false, cls := .localTo },
  { code := 0x0D05, page := false, defined := [(8, 9)], noBoundary := true, cls := .localTo },
  { code := 0x0E01, page := false, defined := [(8, 11)], noBoundary := false, cls := .localTo },
  { code := 0x0E02, page := false, defined := [(8, 9)], noBoundary := false, cls := .leadOnly },
  { code := 0x0E03, page := false, defined := [(8, 9)], noBoundary := false, cls := .leadOnly },
  { code := 0x0E04, page := false, defined := [], noBoundary := true, cls := .localTo },
  { code := 0x0F01, page := false, defined := [(8, 11)], noBoundary := false, cls := .localTo },
  { code := 0x0F02, page := false, defined := [(8, 10), (12, 36)], noBoundary := false, cls := .localTo },
  { code := 0x0F03, page := false, defined := [(8, 10), (12, 36)], noBoundary := false, cls := .localTo },
  { code := 0x0F04, page := false, defined := [(8, 9), (16, 24)], noBoundary := false, cls := .localTo },
  { code := 0x0F05, page := false, defined := [(8, 9), (16, 24)], noBoundary := false, cls := .localTo },
  { code := 0x0F06, page := false, defined := [(8, 9)], noBoundary := false, cls := .localTo },
  { code := 0x1001, page := false, defined := [(8, 10), (16, 24)], noBoundary := false, cls := .localTo },
  { code := 0x1002, page := false, defined := [(8, 10), (12, 16)], noBoundary := false, cls := .localTo },
  { code := 0x1003, page := false, defined := [(8, 11), (12, 18)], noBoundary := false, cls := .localTo }]

/-- The opcodes that are implemented (R54). -/
def opTable : List OpInfo := opTable0 ++ opTable1 ++ opTable2 ++ opTable3

/-- What the packet rules say of an opcode (R54, R55). -/
def opInfo (code : Nat) : Option OpInfo := opTable.find? (fun o => o.code == code)

/-- The class of a command (R380): SYS_REG_WRITE to a mirrored block is mirrored, and TWN_CONFIG with ARM
or DISARM is for the lead only. -/
def opClass (o : OpInfo) (p : List Byte) : OpClass :=
  if o.code = 0x0104 then
    (if [0x6, 0x2, 0x5, 0x9, 0xA, 0xB, 0xC, 0xD].contains (u32 p 8 / 0x100000) then .mirrored else .localTo)
  else if o.code = 0x0E01 then
    (if bit (u8 p 9) 2 || bit (u8 p 9) 3 then .leadOnly else .localTo)
  else o.cls

end Sys2Proof.Machine
end

