-- ==== Sys2Proof/Machine/Ops.lean ====
section
/-! DEFINITION. The operations every block shares: time of a stamp (R352, R354), interrupts (R53), event
records (R50 to R52, R59), completions (R49), and stopping a ring (R459). -/
namespace Sys2Proof.Machine

/-! Time. -/

/-- time_i of R352 with what a SLEW in progress has added (R361), in 2^-16 ns. -/
def Inst.time (i : Inst) (t : Nat) (tap : Nat) : Int :=
  let dt : Int := 24 * ((t : Int) - i.anchor) + tap
  let run := (dt * 5 * (2 ^ 40 + i.rate)).fdiv (24 * 2 ^ 24)
  let part : Int := (5 * 65536 * ((t : Int) - i.anchor) * i.slewPpb).fdiv 1000000000
  let slew : Int := if i.slewLeft < 0 then -(min part (-i.slewLeft)) else min part i.slewLeft
  i.base + run + slew

/-- S at a tick (R363): it falls linearly to 0 at SWITCH_PPB of elapsed time. -/
def State.residueAt (s : State) (t : Nat) : Int :=
  let fall : Int := (5 * 65536 * ((t : Int) - s.tim.residueTick) * s.tim.residuePpb).fdiv 1000000000
  if s.tim.residue < 0 then min 0 (s.tim.residue + fall) else max 0 (s.tim.residue - fall)

/-- Domain A or domain B at a stamp (R354), in 2^-16 ns. -/
def State.domainTime (s : State) (b : Bool) (t tap : Nat) : Int :=
  if b then (s.inst (1 - s.tim.primary)).time t tap
  else (s.inst s.tim.primary).time t tap + s.residueAt t

/-- The 64-bit time value of a stamp in the domain that HIF_CTL.TIME_B selects (R7, R354). -/
def State.stampNs (s : State) (t tap : Nat) : Nat :=
  toBits 64 ((s.domainTime s.hif.timeB t tap).fdiv 65536)

/-- The time value of the present tick in a domain (R7, R354): of a record whose flag names it. -/
def State.stampIn (s : State) (b : Bool) : Nat := toBits 64 ((s.domainTime b s.tick 0).fdiv 65536)

/-- The time value of the present tick (R17). -/
def State.nowNs (s : State) : Nat := s.stampNs s.tick 0

/-- The pair count (R371): a shadow adds OFFSET to its own count. -/
def State.pairTick (s : State) : Nat := ((s.tick : Int) + s.twn.offTicks).toNat

/-- The latest staged value past its boundary: a change takes effect at the first boundary strictly after
its commit tick (R25). -/
def stagedDue {α : Type} (st : Option (Staged α)) (boundary : Nat) : Option α :=
  match st with
  | some x => if x.tick < boundary then some x.val else none
  | none => none

/-- The last committed of the staged values past their boundary (R25). -/
def lastDue {α : Type} (l : List (Staged α)) (boundary : Nat) : Option α :=
  ((l.filter (fun x => decide (x.tick < boundary))).getLast?).map (fun x => x.val)

/-- The staged values that wait for a later boundary (R25). -/
def stillWaiting {α : Type} (l : List (Staged α)) (boundary : Nat) : List (Staged α) := l.filter (fun x => decide (boundary ≤ x.tick))

/-! Interrupts. -/

/-- Trigger a vector (R53): several triggers of one vector in a tick make one message. -/
def State.triggerVector (s : State) (v : Nat) : State :=
  if s.hif.msixDue.contains v then s
  else s.modHif (fun h => { h with msixDue := h.msixDue ++ [v] })

/-- Send a triggered vector, or set its pending bit while it is masked (R53). -/
def State.sendVector (s : State) (v : Nat) : State :=
  if bit (s.msixEntry v).ctl.toNat 0 then
    s.modHif (fun h => { h with pba := if h.pba.contains v then h.pba else h.pba ++ [v] })
  else s.emit (.msix v)

/-- Send what was triggered in the tick that ends. -/
def State.sendVectors (s : State) : State :=
  (s.hif.msixDue.foldl State.sendVector s).modHif (fun h => { h with msixDue := [] })

/-- Count an entry written to ring pair `r` and trigger its vector by count (R53). -/
def State.countCompletion (s : State) (r : Nat) : State :=
  let g := s.ring r
  if !g.irqEn then s
  else
    let n := g.irqCount + 1
    if g.coalCount ≠ 0 ∧ g.coalCount ≤ n then
      (s.setRing r { g with irqCount := 0, irqFirst := none }).triggerVector g.vector
    else s.setRing r { g with irqCount := n, irqFirst := some (g.irqFirst.getD s.tick) }

/-- Count a record written to the event ring and trigger its vector by count or severity (R53). -/
def State.countEvent (s : State) (sev : Nat) : State :=
  let g := s.hif.eq
  if !g.irqEn then s
  else
    let n := g.irqCount + 1
    if Sev.fault ≤ sev ∨ (g.coalCount ≠ 0 ∧ g.coalCount ≤ n) then
      (s.modHif (fun h => { h with eq := { g with irqCount := 0, irqFirst := none } })).triggerVector g.vector
    else s.modHif (fun h => { h with eq := { g with irqCount := n, irqFirst := some (g.irqFirst.getD s.tick) } })

/-- The coalescing timer of a ring has expired in the tick that ends (R53): one message for the entries counted, the tick's own
included; a count that was reached in the tick has been cleared and has triggered the vector already. -/
def State.expireCoal (s : State) (r : Nat) : State :=
  if r = 4 then
    let g := s.hif.eq
    if g.irqEn then (s.modHif (fun h => { h with eq := { g with irqCount := 0, irqFirst := none } })).triggerVector g.vector else s
  else
    let g := s.ring r
    if g.irqEn then (s.setRing r { g with irqCount := 0, irqFirst := none }).triggerVector g.vector else s

/-- The coalescing timers that expired in the tick that ends (R53). -/
def State.expireCoals (s : State) : State :=
  s.hif.coalDue.foldl State.expireCoal (s.modHif (fun h => { h with coalDue := [] }))

/-! Failed host writes (R36, R59). -/

/-- Host memory refuses a write of `n` bytes at an address. -/
def State.hostRefuses (s : State) (addr n : Nat) : Bool := s.hif.refused.any (fun r => decide (addr < r.1 + r.2) && decide (r.1 < addr + n))

/-- Note a posted ring write that fails: its ring stops when the tick ends (log entry 120). -/
def State.noteWrite (s : State) (unit index addr n : Nat) : State :=
  s.modHif (fun h => { h with failedWrites := if s.hostRefuses addr n then h.failedWrites ++ [(unit, index, addr)] else h.failedWrites })

/-! Ties (R20). -/

/-- An arrival that stands in the queue falls in the present tick (log entry 2): it wins over the expiry of its timeout (R20). -/
def State.arrives (s : State) (p : Instr → Bool) : Bool := s.pending.any p

/-! Values that the spec leaves open. -/

/-- A quotient that a format cannot hold, where the spec states no rounding: exact when it is whole, else a free
choice of its two neighbours (log entry 4). -/
def roundFree (a : Int) (b : Nat) : Int :=
  if a.emod b = 0 then a.fdiv b else a.fdiv b + (if Config.roundUp a b then 1 else 0)

/-! Sampled inputs (R290, R428). -/

/-- A filtered line (R290): it takes a new value when the last `n` samples, newest first, agree on it. -/
def filterLine (n : Nat) (old : Bool) (samples : List Bool) : Bool :=
  match samples with
  | [] => old
  | v :: _ => if decide (n ≤ samples.length) && (samples.take n).all (· == v) then v else old

/-- A filtered line after each of its samples, newest first; `old` is what it was before them. -/
def filterHistory (n : Nat) (old : Bool) : List Bool → List Bool
  | [] => []
  | v :: rest =>
    let before := filterHistory n old rest
    filterLine n (before.headD old) (v :: rest) :: before

/-- A filtered and debounced line (R306): it takes a level that the filter has held for `hold` ticks since it took it. -/
def debounceLine (n hold : Nat) (old : Bool) (samples : List Bool) : Bool := filterLine (hold + 1) old (filterHistory n old samples)

/-! Event records. -/

/-- Free entries of the event ring (R51). -/
def EventRing.freeEntries (g : EventRing) : Nat :=
  if g.enable && !g.stopped then (g.head + 2 ^ g.log2 - 1 + 2 ^ g.log2 - g.write) % 2 ^ g.log2 else 0

/-- The 32 bytes of an event record with its PHASE (R39, R50). -/
def Rec.encode (r : Rec) (phase : Bool) : List Byte :=
  leBytes 2 r.code ++ [r.sev + 16 * b2n r.timeB + 128 * b2n phase, r.unit % 256]
    ++ leBytes 4 r.seq ++ leBytes 8 r.time ++ pad 16 r.args

/-- Write a record at the write index of the event ring (R39, R50). -/
def State.writeRecord (s : State) (r : Rec) : State :=
  let g := s.hif.eq
  let w := (g.write + 1) % 2 ^ g.log2
  let s := (s.emit (.host (g.base + 32 * g.write) (r.encode g.phase))).noteWrite 4 g.write (g.base + 32 * g.write) 32
  let s := s.modHif (fun h => { h with eq := { g with write := w, phase := if w = 0 then !g.phase else g.phase } })
  s.countEvent r.sev

/-- A record is lost (R51): it keeps its sequence number and HIF_EQ_LOST counts it. -/
def State.loseRecord (s : State) (seq : Nat) : State :=
  (s.modHif (fun h => { h with eq := { h.eq with lost := satAdd 32 h.eq.lost 1 } })).modEvt
    (fun e => { e with lost := satAdd 32 e.lost 1, lostFirst := if e.lost = 0 then seq else e.lostFirst, lostLast := seq })

/-- Write the backlog while 2 entries are free (R51); the fuel is the backlog's length. -/
def State.drainBacklog : Nat → State → State
  | 0, s => s
  | n + 1, s =>
    match s.evt.backlog with
    | [] => s
    | r :: rest =>
      if 2 ≤ s.hif.eq.freeEntries then
        State.drainBacklog n ((s.modEvt (fun e => { e with backlog := rest })).writeRecord r)
      else s

/-- Write what was held once 2 entries are free: a held RING_ERROR, the backlog in sequence order, then
EVENTS_LOST when records have been lost (R51, R59). -/
def State.drainEvents (s : State) : State :=
  let s := match s.evt.heldError with
    | some r => if 2 ≤ s.hif.eq.freeEntries then (s.modEvt (fun e => { e with heldError := none })).writeRecord r else s
    | none => s
  let s := s.drainBacklog s.evt.backlog.length
  if s.evt.backlog.isEmpty && s.evt.heldError.isNone && decide (0 < s.evt.lost)
      && decide (2 ≤ s.hif.eq.freeEntries) then
    let e := s.evt
    let r : Rec := { code := 0x0101, sev := Sev.warn, unit := 0, seq := e.seq, time := s.nowNs, timeB := s.hif.timeB,
                     args := leBytes 4 e.lost ++ leBytes 4 e.lostFirst ++ leBytes 4 e.lostLast ++ zeros 4 }
    (s.modEvt (fun e => { e with seq := wrapAdd 32 e.seq 1, lost := 0 })).writeRecord r
  else s

/-- The mask in force in a tick: a committed mask acts in ticks after its commit (R52). -/
def State.maskNow (s : State) : List Nat × List Nat :=
  (stagedDue s.evt.maskNext s.tick).getD (s.evt.threshold, s.evt.suppress)

/-- A record of this code and severity is masked (R52). -/
def State.masked (s : State) (code sev : Nat) : Bool :=
  let m := s.maskNow
  code ≠ 0x0101 && decide (sev < Sev.fault)
    && (decide (sev < min 3 (m.1.getD (code / 256 - 1) 0)) || m.2.contains code)

/-- Place a record that takes a sequence number: written, held in the backlog, or lost (R51). -/
def State.placeRecord (s : State) (r : Rec) : State :=
  if 2 ≤ s.hif.eq.freeEntries ∧ s.evt.backlog = [] ∧ s.evt.heldError = none then s.writeRecord r
  else if r.sev < Sev.fault then s.loseRecord r.seq
  else if s.evt.backlog.length < 64 then s.modEvt (fun e => { e with backlog := e.backlog ++ [r] })
  else s.loseRecord r.seq

/-- The record of an event of the present tick. -/
def State.newRecord (s : State) (code sev unit : Nat) (args : List Byte) : Rec :=
  { code := code, sev := sev, unit := unit, seq := s.evt.seq, time := s.nowNs, timeB := s.hif.timeB, args := args }

/-- Raise an event at a stated severity (R50 to R52): what was held is written first, and takes the lower numbers.
After the DORMANT completion events are discarded (R417). -/
def State.raiseAt (s : State) (code sev unit : Nat) (args : List Byte) : State :=
  if s.sys.dormant ≠ .awake then s
  else if s.masked code sev then s
  else
    let s := s.drainEvents
    (s.modEvt (fun e => { e with seq := wrapAdd 32 e.seq 1 })).placeRecord (s.newRecord code sev unit args)

/-- Raise an event at its default severity (R58). -/
def State.raise (s : State) (code unit : Nat) (args : List Byte) : State :=
  s.raiseAt code ((eventSeverity code).getD 0) unit args

/-- An event of this code, raised now, is written to the event ring: it is neither masked, held nor lost (R51, R52). -/
def State.writesEvent (s : State) (code : Nat) : Bool :=
  let d := s.drainEvents
  s.sys.dormant == .awake && !s.masked code ((eventSeverity code).getD 0) && decide (2 ≤ d.hif.eq.freeEntries)
    && d.evt.backlog.isEmpty && d.evt.heldError.isNone

/-- No record has been written in the 1,024 press lines before `line` (R162, R200, R224). -/
def RateLimit.due (r : RateLimit) (line : Nat) : Bool :=
  match r.last with
  | some l => decide (l + 1024 < line)
  | none => true

/-! Rings and completions. -/

/-- Commands of ring `r` in flight. -/
def State.inflightOf (s : State) (r : Nat) : Nat := (s.hif.inflight.filter (fun c => c.ring == r)).length

/-- A ring pair is enabled and not stopped by an error (HIF_RING_STATUS.ACTIVE, R459). -/
def Ring.active (g : Ring) : Bool := g.enable && !g.stopped

/-- Completion entries of ring `r` that are free and not reserved (R38, R40). -/
def State.cqFree (s : State) (r : Nat) : Nat :=
  let g := s.ring r
  (g.cqHead + 2 ^ g.cqLog2 - 1 + 2 ^ g.cqLog2 - g.cqWrite) % 2 ^ g.cqLog2 - s.inflightOf r

/-- HIF_RING_STATUS.CQ_STALL (R40): commands wait and no completion entry can be reserved. -/
def State.cqStall (s : State) (r : Nat) : Bool :=
  (s.ring r).active && (s.ring r).head ≠ (s.ring r).tail && s.cqFree r == 0

/-- What stopping a ring pair does to its commands (R459): none completes, and their reserved entries
are released. Its indices start from 0 at the next enable. -/
def State.stopRing (s : State) (r : Nat) : State :=
  s.modHif (fun h => { h with inflight := h.inflight.filter (fun c => c.ring != r),
                              gone := h.gone ++ h.inflight.filter (fun c => c.ring == r && (c.phase == .running)) })

/-- Raise RING_ERROR (R59): for the event ring it is held apart from the backlog. -/
def State.ringError (s : State) (unit cause value index addr : Nat) : State :=
  s.raise 0x0102 unit ([cause, 0] ++ leBytes 2 value ++ leBytes 4 index ++ leBytes 8 addr)

/-- A ring pair sets ERROR and stops (R38, R459, R59). -/
def State.failRing (s : State) (r cause value index addr : Nat) : State :=
  let s := s.stopRing r
  let s := s.modRing r (fun g => { g with stopped := true, error := true, errCause := cause })
  s.ringError r cause value index addr

/-- The event ring stops under R59: RING_ERROR is held apart and written first after the host has
disabled and enabled the ring again. A later one takes the place of one still held (log entry 121). -/
def State.failEventRing (s : State) (cause value index addr : Nat) : State :=
  let s := s.modHif (fun h => { h with eq := { h.eq with stopped := true } })
  if s.sys.dormant ≠ .awake then s
  else
    let r := s.newRecord 0x0102 Sev.fault 4 ([cause, 0] ++ leBytes 2 value ++ leBytes 4 index ++ leBytes 8 addr)
    s.modEvt (fun e => { e with seq := wrapAdd 32 e.seq 1, heldError := some r })

/-- A ring whose write failed in the tick that ends stops with ERR_CAUSE 2 (R36, R59), at its first failed write. -/
def State.failWrite (s : State) (x : Nat × Nat × Nat) : State :=
  if x.1 = 4 then (if s.hif.eq.enable && !s.hif.eq.stopped then s.failEventRing 2 0 x.2.1 x.2.2 else s)
  else if (s.ring x.1).active then s.failRing x.1 2 0 x.2.1 x.2.2 else s

/-- The failed writes of the tick that ends. -/
def State.failWrites (s : State) : State :=
  s.hif.failedWrites.foldl State.failWrite (s.modHif (fun h => { h with failedWrites := [] }))

/-- The 32 bytes of a completion (R49). -/
def completionBytes (tag status ring : Nat) (phase timeB : Bool) (ns : Nat) (results : List Byte) : List Byte :=
  leBytes 4 tag ++ leBytes 2 status ++ [ring, b2n phase + 2 * b2n timeB] ++ leBytes 8 ns ++ pad 16 results

/-- Write a completion at the write index of ring pair `r` (R39, R49). -/
def State.writeCompletion (s : State) (r tag status : Nat) (results : List Byte) : State :=
  let g := s.ring r
  let w := (g.cqWrite + 1) % 2 ^ g.cqLog2
  let s := s.emit (.host (g.cqBase + 32 * g.cqWrite)
    (completionBytes tag status r g.phase s.hif.timeB s.nowNs results))
  let s := s.noteWrite r g.cqWrite (g.cqBase + 32 * g.cqWrite) 32
  let s := s.setRing r { g with cqWrite := w, phase := if w = 0 then !g.phase else g.phase }
  s.countCompletion r

/-- The command in flight with an identity. -/
def State.findCmd (s : State) (id : Nat) : Option Cmd := s.hif.inflight.find? (fun c => c.id == id)

/-- The command has reached its completion point, and its completion is still to be written. -/
def Cmd.completing (c : Cmd) : Bool :=
  match c.phase with
  | .completing _ _ => true
  | _ => false

/-- What reaching a completion point does to the command with an identity. -/
def Cmd.completed (id status : Nat) (results : List Byte) (c : Cmd) : Cmd :=
  if c.id == id && !c.completing then { c with phase := .completing status results } else c

/-- A command reaches its completion point (R41 to R44, R49): its completion is written when the tick ends, after every event
record of the tick (R46, R47). A command that its ring's stop or a host-interface reset has discarded writes no completion
(R35, R459). -/
def State.complete (s : State) (id status : Nat) (results : List Byte) : State :=
  s.modHif (fun h => { h with inflight := h.inflight.map (Cmd.completed id status results),
                              gone := h.gone.filter (fun c => c.id != id) })

/-- Complete a command that may already be gone. -/
def State.completeOpt (s : State) (id : Option Nat) (status : Nat) (results : List Byte) : State :=
  match id with
  | none => s
  | some i => s.complete i status results

/-- Insert into a list that a relation orders. -/
def insertOrdered {α : Type} (le : α → α → Bool) (x : α) : List α → List α
  | [] => [x]
  | y :: rest => if le x y then x :: y :: rest else y :: insertOrdered le x rest

/-- One command completes before another in the same tick (R46): by ring, then by start order. -/
def Cmd.before (a b : Cmd) : Bool := decide (a.ring < b.ring ∨ (a.ring = b.ring ∧ a.id ≤ b.id))

/-- Write the completion of a command that has reached its completion point, and release its slot (R40, R49). -/
def State.writeDue (s : State) (c : Cmd) : State :=
  match c.phase with
  | .completing status results =>
    let s := s.modHif (fun h => { h with inflight := h.inflight.filter (fun d => d.id != c.id) })
    if pktQuiet c.packet ∧ status = Status.ok then s
    else s.writeCompletion c.ring (pktTag c.packet) status results
  | _ => s

/-- A CMP_CLOSE and the command of a block of its stream (R127). -/
def Cmd.closes (c d : Cmd) : Bool :=
  pktOpcode c.packet == 0x0F06 && (pktOpcode d.packet == 0x0F02 || pktOpcode d.packet == 0x0F03) && u8 c.packet 8 == u8 d.packet 8

/-- Put a command directly behind the last of a list that satisfies `p`; at the front when none does. -/
def behindLast (p : Cmd → Bool) (c : Cmd) : List Cmd → List Cmd
  | [] => [c]
  | d :: rest => if rest.any p then d :: behindLast p c rest else if p d then d :: c :: rest else c :: d :: rest

/-- In the order of a tick's completions, a CMP_CLOSE comes behind the blocks of its stream (R127). -/
def closesBehind : List Cmd → List Cmd
  | [] => []
  | c :: rest => if rest.any c.closes then behindLast c.closes c (closesBehind rest) else c :: closesBehind rest

/-- The completions of a tick in the order in which they are written (R46, R127). -/
def completionOrder (l : List Cmd) : List Cmd := closesBehind (l.foldr (insertOrdered Cmd.before) [])

/-- Write the completions of a tick (R46). -/
def State.writeCompletions (s : State) : State := (completionOrder (s.hif.inflight.filter Cmd.completing)).foldl State.writeDue s

/-- Commands reach their completion points; each with its status and results. -/
def State.completeAll (s : State) (l : List (Nat × Nat × List Byte)) : State :=
  l.foldl (fun s x => s.complete x.1 x.2.1 x.2.2) s

/-- Set the phase of a command in flight that has not reached its completion point. -/
def State.setPhase (s : State) (id : Nat) (p : CmdPhase) : State :=
  s.modHif (fun h => { h with inflight := h.inflight.map (fun c => if c.id == id && !c.completing then { c with phase := p } else c) })

/-- A block counts as failed (R19, SYS_HEALTH). -/
def State.blockFailed (s : State) (n : Nat) : State :=
  s.modSys (fun y => { y with failed := if bit y.failed n then y.failed else y.failed + 2 ^ n })

/-- A page context is in QUEUED or PRINTING. -/
def Ctx.live (c : Ctx) : Bool := c.state == .queued || c.state == .printing

/-- Some page context is in QUEUED or PRINTING (R45). -/
def State.anyLive (s : State) : Bool := s.pgq.ctxs.entries.any (fun e => e.2.live)

/-- Some page context is in PRINTING. -/
def State.anyPrinting (s : State) : Bool := s.pgq.ctxs.entries.any (fun e => e.2.state == .printing)

/-- A host read that poisoned data or a completion timeout failed is reported as a non-fatal error (R29, log entry 123). -/
def State.reportRead (s : State) (cause : Nat) : State :=
  if cause = 2 ∨ cause = 3 then s.modHif (fun h => { h with aerNonfatal := true }) else s

/-- Raise DMA_ERROR for a command (R48, R59). -/
def State.dmaError (s : State) (c : Cmd) (cause addr : Nat) : State :=
  (s.reportRead cause).raise 0x0103 c.ring (leBytes 2 (pktOpcode c.packet) ++ [cause, 0] ++ leBytes 4 (pktTag c.packet) ++ leBytes 8 addr)

/-- Write a running command's results to host memory; while the link is down the write is lost (R59, cause 4). -/
def State.writeResults (s : State) (id : Option Nat) (addr : Nat) (bytes : List Byte) : State :=
  if !s.hif.linkDown then s.emit (.host addr bytes)
  else
    match (s.hif.inflight ++ s.hif.gone).find? (fun c => some c.id == id) with
    | some c => s.dmaError c 4 addr
    | none => s

/-- The last press line triggered as the 6 bytes of an event argument. -/
def State.lineBytes (s : State) : List Byte := leBytes 6 (s.fir.lastLine.getD 0)

end Sys2Proof.Machine
end

