-- ==== Sys2Proof/Machine/Commands.lean ====
section
/-! DEFINITION. How the command processor starts, checks, defers and commits a command (R41 to R48, R380,
R412, R460). An effect is a command's chapter: its checks from step 4 of R460 on and what it does. -/
namespace Sys2Proof.Machine

/-- What an effect answers: it completes now, or it has committed and completes later (R54). -/
inductive Reply where
  | done (status : Nat) (results : List Byte)
  | running
deriving DecidableEq, Repr

/-- What a command does at its commit. -/
abbrev Effect := Cmd → State → State × Reply

/-- The command completes with a status and no results. -/
def finish (s : State) (status : Nat) : State × Reply := (s, .done status [])

/-- A parameter or obligation is broken (R6). -/
def refuse (s : State) : State × Reply := finish s Status.badParam

/-- The command completes with OK. -/
def good (s : State) : State × Reply := finish s Status.ok

/-- The command completes with OK and results (R49). -/
def answer (s : State) (results : List Byte) : State × Reply := (s, .done Status.ok results)

/-- Use what host memory answered; a failed read gives DMA_ERROR and BAD_PARAM (R48). -/
def withHost (c : Cmd) (s : State) (k : List Byte → State × Reply) : State × Reply :=
  match c.host with
  | .ok bytes => k bytes
  | .fail cause addr => (s.dmaError c cause addr, .done Status.badParam [])

/-- Start a command after the earlier ones given, oldest first (R42, R43): every earlier one has
committed or waits under AT_BOUNDARY, and with FENCE there is none. -/
def startableFrom : Bool → List Cmd → Option Cmd
  | _, [] => none
  | earlier, c :: rest =>
    match c.phase with
    | .fetched => if pktFence c.packet && earlier then none else some c
    | .mirroring _ _ _ => none
    | .waiting _ _ => startableFrom true rest
    | .running => startableFrom true rest
    | .completing _ _ => startableFrom earlier rest

/-- The command that ring `r` can start (R42, R43). A long-running command that a stop of the ring has left without a completion goes
on to its completion point (R459), and a FENCE waits for it. -/
def State.startable (s : State) (r : Nat) : Option Cmd :=
  startableFrom (s.hif.gone.any (fun c => c.ring == r)) (s.hif.inflight.filter (fun c => c.ring == r))

/-- The ring whose turn it is (R46): the first that can start a command, round and round from the ring after the one served last.
Within one tick the rings are served in rising order, so that its commits stand in the order of their rings (log entry 122). -/
def State.turnRing (s : State) : Option Nat :=
  (((List.range 4).map (fun k => (s.hif.turn + k) % 4)).find? (fun r => (s.startable r).isSome)).filter
    (fun r => decide (s.hif.turnTick ≠ s.tick ∨ s.hif.turn ≤ r))

/-- The turn passes to the ring after `r` (R46). -/
def State.served (s : State) (r : Nat) : State := s.modHif (fun h => { h with turn := r + 1, turnTick := s.tick })

/-- The device acts as lead (R375): roles LEAD and ALONE. -/
def Role.acting : Role → Bool
  | .lead => true
  | .alone => true
  | _ => false

/-- The value of a role (R375). -/
def Role.num : Role → Nat
  | .elect => 0
  | .lead => 1
  | .shadow => 2
  | .alone => 3
  | .out => 4

/-- Step 3 of R460: the class is allowed in the present role (R380). -/
def roleAllows (r : Role) (k : OpClass) : Bool :=
  match k with
  | .localTo => true
  | .mirrored => r.acting
  | .leadOnly => r.acting

/-- The lead has a partner in SHADOW that is heard (R378, R380). -/
def State.paired (s : State) : Bool := s.twn.role == .lead && s.twn.partner == 2 && !s.twn.absent

/-- The device is out of reset and its outputs are not yet off on the way to DORMANT (R417). -/
def State.running (s : State) : Bool :=
  !s.sys.held && (match s.sys.dormant with
    | .awake => true
    | .entering _ => true
    | _ => false)

/-- The memory PLL is out of lock and local DRAM was trained (R404): every DRAM access fails. -/
def State.memLost (s : State) : Bool := !bit s.sys.pllLock 1 && s.sys.memTrained != 0

/-- Send a record over the Chezatin link, which carries records while it is UP (R373, R374): it leaves at the end of the tick. -/
def State.sendTwin (s : State) (r : TwinRec) : State :=
  if s.twn.link = .up then { s with outbox := s.outbox ++ [r] } else s

/-- Taps and LINE records go ahead of the others (R374). -/
def TwinRec.ahead (r : TwinRec) : Bool :=
  match r with
  | .tap _ | .line _ => true
  | _ => false

/-- The records of a tick leave (R374). -/
def State.sendRecords (s : State) : State :=
  let b := s.outbox
  if b = [] then s
  else (b.filter TwinRec.ahead ++ b.filter (fun r => !r.ahead)).foldl (fun s r => s.emit (.twin r)) { s with outbox := [] }

/-- A feedback channel as the mirrored blocks see it: a shadow applies the lead's counts (R374, R384). -/
def State.seenChan (s : State) (n : Nat) : Chan :=
  let c := s.chan n
  if s.twn.role = .shadow then { c with count := c.count + c.copyDiff, eh := c.eh + c.copyDiff } else c

/-- Commands that wait under AT_BOUNDARY (R45). -/
def State.waitingCount (s : State) : Nat :=
  (s.hif.inflight.filter (fun c => match c.phase with | .waiting _ _ => true | _ => false)).length

/-- Apply an effect's answer to its command: it completes, or it runs on to its completion point. -/
def settle (id : Nat) (x : State × Reply) : State :=
  match x.2 with
  | .done st res => x.1.complete id st res
  | .running => x.1.setPhase id .running

/-- The answer is an error, so no state changes and the command completes at once (R6, R460). -/
def Reply.failed : Reply → Bool
  | .done st _ => st ≠ Status.ok
  | .running => false

/-- Keep what host memory answered with the command. -/
def State.keepHost (s : State) (id : Nat) (d : HostRead) : State :=
  s.modHif (fun h => { h with inflight := h.inflight.map (fun c => if c.id == id then { c with host := d } else c) })

/-- Commit a command, or hand it to the mirror of R380 first. -/
def commitOrMirror (c : Cmd) (k : OpClass) (eff : Effect) (s : State) : State :=
  if k = .mirrored ∧ s.paired = true then
    let tag := s.twn.nextTag
    let s := s.sendTwin (.change tag c.packet c.host)
    let s := s.modTwn (fun t => { t with nextTag := tag + 1 })
    s.setPhase c.id (.mirroring tag s.tick none)
  else settle c.id (eff c s)

/-- Wait for the page boundary (R45). -/
def deferCommand (c : Cmd) (s : State) : State :=
  let o := s.hif.nextStart
  (s.modHif (fun h => { h with nextStart := o + 1 })).setPhase c.id (.waiting o s.tick)

/-- The answer is BAD_PARAM. -/
def Reply.badParam : Reply → Bool
  | .done st _ => st == Status.badParam
  | .running => false

/-- A command breaks a rule of step 4 (R460): its effect answers BAD_PARAM before host memory, which here fails every read, is
asked; a failed read raises DMA_ERROR. -/
def Effect.breaksStep4 (eff : Effect) (c : Cmd) (s : State) : Bool :=
  let x := eff { c with host := .fail 0 0 } s
  x.2.badParam && x.1.evt.seq == s.evt.seq

/-- The answer is the DENIED of PACE_START, which is tested in the tick of its commit, after the release of the device's own
GONG_HALT_N drive (R171, R173). -/
def Reply.atCommit (c : Cmd) : Reply → Bool
  | .done st _ => pktOpcode c.packet == 0x0502 && st == Status.denied
  | .running => false

/-- The results that a command refused before its own checks carries (R49, R72): GEO_COMMIT fills them under every status but BAD_PARAM,
with GEN 0; other commands leave them 0. -/
def refusedResults (o : OpInfo) (r : Reply) : List Byte :=
  match r with
  | .done _ res => if o.code = 0x0205 ∧ res ≠ [] then zeros 2 ++ res.drop 2 else []
  | .running => []

/-- The command processor runs a command from its start (R460, R45, R380). The checks of steps 4 to 7 are made at the start and
again at a deferred commit. In recovery all but four opcodes answer NOT_READY at step 5 (R412). -/
def runCommand (c : Cmd) (o : OpInfo) (eff : Effect) (s : State) : State :=
  if !packetForm o c.packet then s.complete c.id Status.badParam []
  else if !roleAllows s.twn.role (opClass o c.packet) then s.complete c.id Status.wrongRole []
  else if s.sys.imageRun = 2 && !([0x0101, 0x0102, 0x0103, 0x0106].contains o.code) then
    if eff.breaksStep4 c s then s.complete c.id Status.badParam []
    else s.complete c.id Status.notReady (refusedResults o (eff c s).2)
  else
    let x := eff c s
    let waits := pktAtBoundary c.packet && s.anyLive
    let mirrors := opClass o c.packet == .mirrored && s.paired
    if x.2.failed && !(x.2.atCommit c && (waits || mirrors)) then settle c.id x
    else if waits then
      if 64 ≤ s.waitingCount then s.complete c.id Status.noResource (refusedResults o x.2) else deferCommand c s
    else commitOrMirror c (opClass o c.packet) eff s

/-- The command processor starts the next command of ring `r`, which has this opcode, and host memory
answers `d` to its reads. When ring `r` is not the one whose turn it is, or its next command has
another opcode, nothing happens (log entry 5). -/
def startCommand (code : Nat) (r : Nat) (d : HostRead) (eff : Effect) (s : State) : State :=
  if s.turnRing ≠ some r then s
  else
    match s.startable r, opInfo code with
    | some c, some o =>
      if pktOpcode c.packet ≠ code then s
      else
        let c := { c with host := d }
        runCommand c o eff ((s.keepHost c.id d).served r)
    | _, _ => s

end Sys2Proof.Machine
end

