-- ==== Sys2Proof/Machine/GeoMap.lean ====
section
/-! DEFINITION. What a set of geometry says: heads, classes, rows and offsets (R60 to R64), the mapping
of columns to nozzles (R66 to R69), readers (R132), SET_CRC (R72) and ring depths (R14, R144). -/
namespace Sys2Proof.Machine

/-! Places. A nozzle index is NZA[20:0]; a die index is NZA[20:11]; a head index is LANE × 8 + SLOT. -/

def headOfNoz (n : Nat) : Nat := n / 4096
def dieOfNoz (n : Nat) : Nat := n / 2048
def headOfDie (d : Nat) : Nat := d / 2
def laneOfDie (d : Nat) : Nat := d / 16

def GeoSet.headAt (g : GeoSet) (h : Nat) : HeadPlace := g.heads.get {} h
def GeoSet.classAt (g : GeoSet) (k : Nat) : HeadClass := g.classes.get {} k

/-- The slot holds a head. -/
def HeadPlace.occupied (p : HeadPlace) : Bool := p.cls ≠ 0xFF

/-- The class of a head; none when the slot is empty or its class is not defined. -/
def GeoSet.classOf (g : GeoSet) (h : Nat) : Option HeadClass :=
  let p := g.headAt h
  if p.occupied && (g.classAt p.cls).bits ≠ 0 then some (g.classAt p.cls) else none

/-- The heads that are present, in lane and slot order. -/
def GeoSet.headList (g : GeoSet) : List Nat := g.heads.keys

/-- Dies of the occupied heads, as die indices. -/
def GeoSet.dieList (g : GeoSet) : List Nat :=
  g.headList.flatMap (fun h => match g.classOf h with
    | some k => (List.range k.dies).map (fun d => 2 * h + d)
    | none => [])

/-- A class numbers the highest drop level 2^BITS − 1 (R212). -/
def HeadClass.max (k : HeadClass) : Nat := 2 ^ k.bits - 1

/-- Row table index of nozzle `noz` of die `die` (R60). -/
def HeadClass.rowOf (k : HeadClass) (die noz : Nat) : Nat := die * k.rows + noz % k.rows

/-- Row `i` of the table is a spare row (R61). -/
def HeadClass.spareRow (k : HeadClass) (i : Nat) : Bool := bit k.spare i

/-- The row that spare row `i` backs. -/
def HeadClass.backs (k : HeadClass) (i : Nat) : Nat := Machine.bits k.spareOf (4 * i + 3) (4 * i)

/-- D of R64 in units of 2^-16 line. -/
def rowOffset (p : HeadPlace) (k : HeadClass) (i : Nat) : Nat :=
  p.webLines * 65536 + p.webFrac + k.rowOff.getD i 0

/-- W, the whole lines of D (R64). -/
def rowWhole (p : HeadPlace) (k : HeadClass) (i : Nat) : Nat := rowOffset p k i / 65536

/-- F, the fraction of D (R64). -/
def rowFrac (p : HeadPlace) (k : HeadClass) (i : Nat) : Nat := rowOffset p k i % 65536

/-- W_max of a generation (R90): over the die rows of its heads. -/
def GeoSet.wMax (g : GeoSet) : Nat :=
  maxNat (g.headList.flatMap (fun h => match g.classOf h with
    | some k => (List.range (k.dies * k.rows)).map (fun i => rowWhole (g.headAt h) k i)
    | none => []))

/-- The redundant-row nozzle of nozzle `noz` of a die (R62). -/
def HeadClass.spareNoz (k : HeadClass) (die noz : Nat) : Option Nat :=
  let i := k.rowOf die noz
  match (List.range (k.dies * k.rows)).find? (fun b => k.spareRow b && k.backs b == i) with
  | none => none
  | some b =>
    let m := noz + b % k.rows - i % k.rows
    if noz + b % k.rows < i % k.rows then none else if m < k.nozzles then some m else none

/-! Run descriptors and exception entries (R67, R68), as stored. -/

def runNoz (r : List Byte) : Nat := bits (u32 r 0) 20 0
def runFalls (r : List Byte) : Bool := bit (u32 r 0) 24
def runCol (r : List Byte) : Nat := bits (u32 r 4) 19 0
def runCount (r : List Byte) : Nat := u16 r 8
def runPlane (r : List Byte) : Nat := u8 r 10
def runStep (r : List Byte) : Int := i8 r 11
def excNoz (e : List Byte) : Nat := bits (u32 e 0) 20 0
def excAction (e : List Byte) : Nat := bits (u32 e 0) 23 21
def excCol (e : List Byte) : Nat := bits (u32 e 4) 19 0
def excPlane (e : List Byte) : Nat := bits (u32 e 4) 25 20

/-- Nozzle `k` of a run in a class of `rows` rows, as an integer (R67). -/
def runNozAt (r : List Byte) (rows k : Nat) : Int :=
  if runFalls r then (runNoz r : Int) - (k * rows : Nat) else (runNoz r : Int) + (k * rows : Nat)

/-- Column of nozzle `k` of a run (R67). -/
def runColAt (r : List Byte) (k : Nat) : Int := (runCol r : Int) + (k : Int) * runStep r

/-- The place in a run of a nozzle of the run's die that the run names. -/
def runPlace (r : List Byte) (rows n : Nat) : Option Nat :=
  let d : Int := if runFalls r then (runNoz r : Int) - n else (n : Int) - runNoz r
  if d < 0 ∨ rows = 0 ∨ dieOfNoz n ≠ dieOfNoz (runNoz r) then none
  else if d.toNat % rows = 0 ∧ d.toNat / rows < runCount r then some (d.toNat / rows) else none

/-- What decides a nozzle's sample (R69): the kind and index of the item, plane and column; none: the
nozzle prints nothing. -/
structure MapItem where
  kind : Nat
  index : Nat
  plane : Nat
  col : Nat
deriving DecidableEq, Repr

/-- The first run that names a nozzle. -/
def findRun (rows n : Nat) : Nat → List (List Byte) → Option MapItem
  | _, [] => none
  | i, r :: rest =>
    match runPlace r rows n with
    | some k => some { kind := 3, index := i, plane := runPlane r, col := (runColAt r k).toNat }
    | none => findRun rows n (i + 1) rest

/-- The exception entry of a nozzle and its index. -/
def findExc (n : Nat) : Nat → List (List Byte) → Option (Nat × List Byte)
  | _, [] => none
  | i, e :: rest => if excNoz e = n then some (i, e) else findExc n (i + 1) rest

/-- The sample a nozzle prints (R69). -/
def GeoSet.mapOf (g : GeoSet) (n : Nat) : Option MapItem :=
  let h := headOfNoz n
  match g.classOf h with
  | none => none
  | some k =>
    if (g.headAt h).disabled || !decide (n % 2048 < k.nozzles) || !decide (n / 2048 % 2 < k.dies) then none
    else match findExc n 0 g.excs with
      | some (i, e) => if excAction e = 0 then some { kind := 4, index := i, plane := excPlane e, col := excCol e } else none
      | none => findRun k.rows n 0 g.runs

/-- A nozzle that prints, with what decides its sample. -/
def GeoSet.printersOfDie (g : GeoSet) (d : Nat) : List (Nat × MapItem) :=
  match g.classOf (headOfDie d) with
  | none => []
  | some k => (List.range k.nozzles).filterMap (fun j => (g.mapOf (2048 * d + j)).map (fun m => (2048 * d + j, m)))

/-- Every nozzle that prints. -/
def GeoSet.printers (g : GeoSet) : List (Nat × MapItem) := g.dieList.flatMap g.printersOfDie

/-- A reader (R132): die index, row table index, plane, strip. -/
structure Reader where
  die : Nat
  row : Nat
  plane : Nat
  strip : Nat
deriving DecidableEq, Repr

/-- The list without repeats, keeping first places. -/
def dedup {α : Type} [DecidableEq α] : List α → List α
  | [] => []
  | x :: rest => x :: (dedup rest).filter (· ≠ x)

/-- The readers of a die, by row table index and then strip (R132, R137), and then plane (log entry 142). -/
def GeoSet.readersOfDie (g : GeoSet) (d : Nat) : List Reader :=
  match g.classOf (headOfDie d) with
  | none => []
  | some k =>
    let all := dedup ((g.printersOfDie d).map (fun x =>
      ({ die := d, row := k.rowOf (d % 2) (x.1 % 2048), plane := x.2.plane, strip := x.2.col / 2048 } : Reader)))
    all.mergeSort (fun a b => decide (a.row * 2 ^ 16 + a.strip * 64 + a.plane ≤ b.row * 2 ^ 16 + b.strip * 64 + b.plane))

/-- The readers of a generation (R132). -/
def GeoSet.readers (g : GeoSet) : List Reader := g.dieList.flatMap g.readersOfDie

/-- Exceptions on a die (R90). -/
def GeoSet.excsOfDie (g : GeoSet) (d : Nat) : Nat := (g.excs.filter (fun e => excNoz e / 2048 == d)).length

/-- Nozzles × BITS of a lane (R73 check 7). -/
def GeoSet.laneBits (g : GeoSet) (lane : Nat) : Nat :=
  sumNat ((List.range 8).map (fun i => match g.classOf (8 * lane + i) with
    | some k => k.dies * k.nozzles * k.bits
    | none => 0))

/-- The lane's ring holds one beat period (R14, R144). -/
def GeoSet.depth1 (g : GeoSet) (lane : Nat) : Bool := decide (65536 < g.laneBits lane)

/-- BITS of the classes whose nozzles print a plane; none when no nozzle prints it (R116). -/
def GeoSet.planeBits (g : GeoSet) (plane : Nat) : Option Nat :=
  match g.printers.find? (fun x => x.2.plane == plane) with
  | some x => (g.classOf (headOfNoz x.1)).map (fun k => k.bits)
  | none => none

/-- The bytes that SET_CRC covers (R72). -/
def GeoSet.crcBytes (g : GeoSet) : List Byte :=
  (List.range 16).flatMap (fun k => pad 56 (g.classAt k).raw)
    ++ (List.range 512).flatMap (fun h => pad 56 (g.headAt h).raw) ++ g.runs.flatten ++ g.excs.flatten

/-- SET_CRC (R72). -/
def GeoSet.crc (g : GeoSet) : Nat := crc32c g.crcBytes

/-! Generations. -/

/-- The number of a generation by its place in commit order (R72): 1 to 65,535, then 1 again. -/
def genNumber (serial : Nat) : Nat := if serial = 0 then 0 else (serial - 1) % 65535 + 1

/-- A generation in use. -/
def State.genOf (s : State) (serial : Nat) : Option Gener := s.geo.gens.find? (fun g => g.serial == serial)

/-- The set of a generation; the empty set when it is not held. -/
def State.setOf (s : State) (serial : Nat) : GeoSet :=
  match s.genOf serial with
  | some g => g.set
  | none => {}

/-- The set of the active generation. -/
def State.activeSet (s : State) : GeoSet := s.setOf s.geo.active

end Sys2Proof.Machine
end

