-- ==== Sys2Proof/Machine/SubPlan.lean ====
section
/-! DEFINITION. The tables substitution works from and how a change of them is made, stamped and kept
within headroom (R209 to R211, R216, R217). -/
namespace Sys2Proof.Machine

/-! Entries of the defect map (R209, R210). -/

def nozState (t : SubTables) (n : Nat) : Nat := t.defects.get 0 n % 8
def nozAuto (t : SubTables) (n : Nat) : Bool := decide (8 ≤ t.defects.get 0 n)
def nozIndex (t : SubTables) (n : Nat) : Nat := t.index.get 0 n

def stGood : Nat := 0
def stDead : Nat := 1
def stSpent : Nat := 2
def stBlocked : Nat := 3
def stNoTake : Nat := 4

/-- Write a nozzle's STATE and AUTO. -/
def SubTables.setState (t : SubTables) (n st : Nat) (auto : Bool) : SubTables :=
  { t with defects := t.defects.set 0 n (st + 8 * b2n auto) }

/-- The identity map (R211). -/
def identityMap : List Nat := List.range 16

/-- Level map `m` of class `k` (R211). -/
def SubTables.mapAt (t : SubTables) (k m : Nat) : List Nat :=
  let x := t.maps.get [] (16 * k + m)
  if x.isEmpty then identityMap else x

/-- The nozzles of die `d` in a state, rising. -/
def SubTables.inState (t : SubTables) (d st : Nat) : List Nat :=
  (t.defects.entries.filter (fun e => e.1 / 2048 == d && e.2 % 8 == st)).map (fun e => e.1)

/-- HEADROOM of a die (R216); none when its head slot is empty in the active generation. -/
def GeoSet.headroom (g : GeoSet) (d : Nat) : Option Nat := (g.classOf (headOfDie d)).map (fun k => 64 / k.dies)

/-- A change of the tables at work: the tables, the nozzles it has made SPENT, in order, and those it
has moved from SPENT to DEAD. -/
structure SubChange where
  tables : SubTables
  spent : List Nat := []
  promoted : List Nat := []
deriving DecidableEq, Repr

/-- The die already holds HEADROOM nozzles in DEAD. -/
def SubTables.full (t : SubTables) (hr : Option Nat) (d : Nat) : Bool :=
  match hr with
  | some h => decide (h ≤ (t.inState d stDead).length)
  | none => false

/-- When a DEAD nozzle leaves DEAD, the lowest-numbered SPENT nozzle of its die becomes DEAD (R216). -/
def SubChange.promote (c : SubChange) (d : Nat) : SubChange :=
  match (c.tables.inState d stSpent).head? with
  | none => c
  | some m => { c with tables := c.tables.setState m stDead (nozAuto c.tables m), promoted := c.promoted ++ [m] }

/-- Write STATE of a nozzle under R216: DEAD on a full die makes it SPENT; DEAD on a DEAD or SPENT nozzle
leaves it as it is (R220). -/
def SubChange.write (g : GeoSet) (c : SubChange) (n st : Nat) (auto : Bool) : SubChange :=
  let old := nozState c.tables n
  let d := dieOfNoz n
  if st = stDead then
    if old = stDead ∨ old = stSpent then c
    else if c.tables.full (g.headroom d) d then
      { c with tables := c.tables.setState n stSpent auto, spent := c.spent ++ [n] }
    else { c with tables := c.tables.setState n stDead auto }
  else
    let c := { c with tables := c.tables.setState n st auto }
    if old = stDead then c.promote d else c

/-- Write the level-map index of a nozzle. -/
def SubChange.writeIndex (c : SubChange) (n m : Nat) : SubChange :=
  { c with tables := { c.tables with index := c.tables.index.set 0 n m } }

/-- Make the highest-numbered DEAD nozzles of a die beyond HEADROOM SPENT, or the lowest-numbered SPENT
nozzles DEAD until it is full (R216, a new generation). -/
def SubChange.rebalance (g : GeoSet) (c : SubChange) (d : Nat) : SubChange :=
  match g.headroom d with
  | none => c
  | some h =>
    let dead := c.tables.inState d stDead
    let spent := c.tables.inState d stSpent
    let extra := dead.drop h
    let up := spent.take (h - dead.length)
    let c := extra.foldl (fun c n => { c with tables := c.tables.setState n stSpent (nozAuto c.tables n), spent := c.spent ++ [n] }) c
    up.foldl (fun c n => { c with tables := c.tables.setState n stDead (nozAuto c.tables n), promoted := c.promoted ++ [n] }) c

/-- L_c: the last press line triggered at the commit, 0 when there is none (R217). -/
def State.pressLine (s : State) : Nat := s.fir.lastLine.getD 0

/-- B1: the smallest multiple of 16 above L_c (R217). -/
def stampLine (lc : Nat) : Nat := (lc / 16 + 1) * 16

/-- The plans with a change whose effect starts at a press line; plans superseded before `lc` go. -/
def addPlan (plans : List (Nat × SubTables)) (lc line : Nat) (t : SubTables) : List (Nat × SubTables) :=
  let kept := plans.filter (fun p => p.1 < line)
  let old := (kept.filter (fun p => p.1 ≤ lc)).getLast?
  old.toList ++ kept.filter (fun p => lc < p.1) ++ [(line, t)]

/-- The tables from which the beat of press line X is prepared (R217). -/
def Sub.planAt (u : Sub) (x : Nat) : SubTables :=
  match (u.plans.filter (fun p => p.1 ≤ x)).getLast? with
  | some p => p.2
  | none => {}

/-- The 25-bit nozzle address of a nozzle of this device (R8, R12). -/
def State.nza (s : State) (n : Nat) : Nat := s.gng.dev * 2 ^ 21 + n

/-- HEADROOM_EXCEEDED for one die, by a change stamped L_c (R216, R217, R224). -/
def State.headroomEvent (s : State) (c : SubChange) (lc : Nat) (verdict : Bool) (d : Nat) : State :=
  let mine := c.spent.filter (fun n => dieOfNoz n == d)
  s.raise 0x0401 (laneOfDie d) (leBytes 4 (s.nza (mine.headD 0)) ++ leBytes 2 mine.length
    ++ leBytes 2 (c.tables.inState d stSpent).length ++ leBytes 6 lc ++ [b2n verdict, 0])

/-- The stamp of a SUB change that commits now (R217); a shadow takes the stamp that the lead passed with it (R218). -/
def State.stamp (s : State) : Nat := s.sub.leadStamp.getD s.pressLine

/-- Commit a SUB change (R217): stamp it, plan its effect, and report the dies whose nozzles became
SPENT (R216). -/
def State.commitSub (s : State) (c : SubChange) (verdict : Bool) : State :=
  let lc := s.stamp
  let line := stampLine lc + 80
  let s := s.modSub (fun u => { u with cur := c.tables, plans := addPlan u.plans lc line c.tables, lastStamp := lc, effectLine := line })
  (dedup (c.spent.map dieOfNoz)).foldl (fun s d => s.headroomEvent c lc verdict d) s

/-! Changes that no command makes, which reach the shadow with the copied state (R218, R248). -/

/-- Commit a SUB change of the nozzles `noz` that no command has made, and keep it for the lead's next snapshot. -/
def State.commitPassed (s : State) (c : SubChange) (noz : List Nat) (verdict : Bool) : State :=
  let v : SubVerdict := { tick := s.pairTick, stamp := s.stamp, values := noz.map (fun k => (k, c.tables.defects.get 0 k)), verdict := verdict }
  (s.commitSub c verdict).modSub (fun u => { u with verdicts := u.verdicts ++ [v] })

/-- A lead commits the SUB change of a verdict on nozzle `n` and keeps it for its next snapshot. -/
def State.commitVerdict (s : State) (c : SubChange) (n : Nat) : State := s.commitPassed c (dedup (n :: c.spent ++ c.promoted)) true

/-- Write the values of a verdict's change. -/
def SubTables.take (values : List (Nat × Nat)) (t : SubTables) : SubTables :=
  { t with defects := values.foldl (fun d x => d.set 0 x.1 x.2) t.defects }

/-- The plans with a change that starts at press line `line` and was committed before those that start later. -/
def passPlan (plans : List (Nat × SubTables)) (line : Nat) (f : SubTables → SubTables) : List (Nat × SubTables) :=
  plans.filter (fun p => p.1 < line) ++ [(line, f (((plans.filter (fun p => p.1 ≤ line)).getLast?).map (fun p => p.2) |>.getD {}))]
    ++ (plans.filter (fun p => line < p.1)).map (fun p => (p.1, f p.2))

/-- The values of a verdict's change that stand: the host has not named the nozzle, nor reset all, since the verdict (R259). -/
def Sub.standing (u : Sub) (v : SubVerdict) : List (Nat × Nat) := v.values.filter (fun x => u.hostAt.get 0 x.1 ≤ v.tick ∧ u.resetAt ≤ v.tick)

/-- A shadow applies a change that the lead passed to it at the press line that its stamp gives (R217, R218). -/
def State.takeVerdict (s : State) (v : SubVerdict) : State :=
  let values := s.sub.standing v
  if values = [] then s
  else
    let line := stampLine v.stamp + 80
    let cur := s.sub.cur.take values
    let spent := (values.filter (fun x => x.2 % 8 = stSpent && nozState s.sub.cur x.1 ≠ stSpent)).map (fun x => x.1)
    let s := s.modSub (fun u => { u with cur := cur, plans := passPlan u.plans line (SubTables.take values),
                                         lastStamp := v.stamp, effectLine := line })
    (dedup (spent.map dieOfNoz)).foldl (fun s d => s.headroomEvent { tables := cur, spent := spent } v.stamp v.verdict d) s

/-- A new generation becomes active: headroom is applied again (R216). A generation that changes no
nozzle makes no SUB change. A shadow that hears its lead takes the lead's change with the lead's stamp (R218, log entry 127). -/
def State.subGeneration (s : State) : State :=
  let c := (dedup (s.sub.cur.defects.keys.map dieOfNoz)).foldl (SubChange.rebalance s.activeSet) { tables := s.sub.cur }
  if (c.spent.isEmpty && c.promoted.isEmpty) || (s.twn.role == .shadow && s.twn.link == .up) then s
  else s.commitPassed c (dedup (c.spent ++ c.promoted)) false

end Sys2Proof.Machine
end

