-- ==== Sys2Proof/Machine/Ladder.lean ====
section
/-! DEFINITION. Ladder steps as the print path meets them (R149, R256, R258): which nozzles fire them, the press lines they
take, what spoils them, and the prediction ring in local DRAM (R252). -/
namespace Sys2Proof.Machine

/-- W_r of a row of a die. -/
def GeoSet.wOf (g : GeoSet) (die row : Nat) : Nat :=
  match g.classOf (headOfDie die) with
  | some k => rowWhole (g.headAt (headOfDie die)) k row
  | none => 0

/-- Row `r` of a die prints the raster line L − W_r − 1 in a reverse pass (R65). -/
def GeoSet.rowLags (g : GeoSet) (die row : Nat) : Bool :=
  match g.classOf (headOfDie die) with
  | some k => rowFrac (g.headAt (headOfDie die)) k row != 0
  | none => false

/-- W_r of a nozzle's row. -/
def GeoSet.wOfNoz (g : GeoSet) (noz : Nat) : Nat :=
  match g.classOf (headOfNoz noz) with
  | some k => g.wOf (dieOfNoz noz) (k.rowOf (dieOfNoz noz % 2) (noz % 2048))
  | none => 0

/-- The nozzles of a step: its own, or the marks of a calibration. -/
def LTest.nozzles (t : LTest) (p : Step) : List Nat := if t.cause = 3 then t.marks else [p.noz]

/-- The web lines of a step (R256). -/
def StkCfg.stepLines (c : StkCfg) : Nat := c.space + c.dash

/-- Press line L fires a web line of a step for a nozzle. -/
def State.stepUses (s : State) (p : Step) (line noz : Nat) : Bool :=
  match p.u with
  | none => false
  | some u =>
    let w := s.activeSet.wOfNoz noz
    decide (u + w ≤ line) && decide (line < u + w + s.stk.cfg.stepLines)

/-- Press line L fires a dash line of a step for a nozzle. -/
def State.stepFires (s : State) (p : Step) (line noz : Nat) : Bool :=
  s.stepUses p line noz && (match p.u with
    | some u => decide (u + s.activeSet.wOfNoz noz + s.stk.cfg.space ≤ line)
    | none => false)

/-- Change every step of every test. -/
def State.mapSteps (s : State) (f : LTest → Step → Step) : State :=
  if s.stk.tests.isEmpty then s
  else s.modStk (fun k => { k with tests := k.tests.map (fun t => { t with steps := t.steps.map (f t) }) })

/-- Mark the steps whose press line L does not fire as placed: `hit` picks the nozzles concerned. -/
def State.spoilSteps (s : State) (line : Nat) (hit : Nat → Bool) : State :=
  s.mapSteps (fun t p =>
    if p.verdict.isNone && (t.nozzles p).any (fun n => hit n && s.stepUses p line n) then { p with spoiled := true } else p)

/-- A new generation becomes active before a step's last line (R258). -/
def State.spoilGeneration (s : State) : State :=
  let now := s.fir.lastLine.getD 0
  s.mapSteps (fun t p =>
    match p.u with
    | none => p
    | some u =>
      if p.verdict.isNone && (t.nozzles p).any (fun n => decide (now < u + s.activeSet.wOfNoz n + s.stk.cfg.stepLines)) then
        { p with spoiled := true }
      else p)

/-- A page reads web lines of a step (R258). -/
def State.spoilPages (s : State) (start span : Nat) : State :=
  s.mapSteps (fun _ p =>
    match p.u with
    | none => p
    | some u => if p.verdict.isNone && decide (start < u + s.stk.cfg.stepLines) && decide (u < start + span) then { p with spoiled := true } else p)

/-- The unit that judges a step was stopped (R258). -/
def State.spoilUnit (s : State) (unit : Nat) : State :=
  s.mapSteps (fun _ p => if p.unit = unit ∧ p.u.isSome ∧ p.verdict.isNone then { p with spoiled := true } else p)

/-- Some beat of the step's dash has been formed (R256, R258). -/
def State.stepFormed (s : State) (t : LTest) (p : Step) : Bool :=
  match p.u with
  | none => false
  | some u => (t.nozzles p).any (fun n => decide (u + s.activeSet.wOfNoz n + s.stk.cfg.space < s.mal.formedTo))

/-- A page that bounds a gap is aborted: steps not yet formed are withdrawn (R258). -/
def State.withdrawSteps (s : State) (page : Nat) : State :=
  s.mapSteps (fun t p =>
    if (p.gapA = page ∨ p.gapB = page) ∧ p.u.isSome ∧ p.verdict.isNone ∧ s.stepFormed t p = false then
      { p with u := none, gapA := 0, gapB := 0, spoiled := false, spaceN := 0, spaceSum := [], dashN := 0, dashSum := [] }
    else p)

/-- A page leaves the queue: its context no longer bounds a gap. -/
def State.closeGaps (s : State) (page : Nat) : State :=
  s.mapSteps (fun _ p => { p with gapA := if p.gapA = page then 0 else p.gapA, gapB := if p.gapB = page then 0 else p.gapB })

/-- The nozzles of a die that fire ladder steps on each line of a window (R149, R256). -/
def State.ladderNozzles (s : State) (x die : Nat) : List (List Nat) :=
  if s.stk.tests.isEmpty then []
  else (List.range 16).map (fun i => s.stk.tests.flatMap (fun t => t.steps.flatMap (fun p =>
    if p.verdict.isSome then []
    else ((t.nozzles p).filter (fun n => dieOfNoz n == die && s.stepFires p (x + i) n)).map (fun n => n % 2048))))

/-- The global profile columns in use: those of the loaded maps. -/
def Stk.columnsInUse (k : Stk) : Nat :=
  sumNat (k.maps.entries.map (fun e => (e.2.map (fun m => m.cols)).getD 0))

/-- The bytes of the prediction ring (R252). -/
def Stk.ringBytes (k : Stk) (predLog2 : Nat) : Nat := 2 ^ predLog2 * 6 * k.columnsInUse

/-- Local DRAM that the prediction ring holds. -/
def State.stkDram (s : State) : Nat := if s.stk.enabled then s.stk.ringBytes s.stk.cfg.predLog2 else 0

end Sys2Proof.Machine
end

