-- ==== Sys2Proof/Machine/Geometry.lean ====
section
/-! DEFINITION. Bar geometry (chapter 03): staging, the checks of R73, generations and their cursors. -/
namespace Sys2Proof.Machine

/-! Staging (R61, R63, R70). -/

/-- GEO_HEADCLASS's class (R61); `raw` is bytes 8 to 63. -/
def parseClass (p : List Byte) : HeadClass :=
  if u8 p 9 = 0 then {}
  else { bits := u8 p 9, dies := u8 p 10, rows := u8 p 11, nozzles := u16 p 12, spare := u8 p 14, minPeriod := u32 p 16,
         spareOf := u32 p 20, rowOff := (List.range 8).map (fun i => u32 p (24 + 4 * i)), raw := (pad 64 p).drop 8 }

/-- The effect of GEO_HEADCLASS (R61). -/
def effGeoHeadclass : Effect := fun c s =>
  let p := c.packet
  if 15 < u8 p 8 then refuse s
  else good (s.modGeo (fun g => { g with staged := { g.staged with classes := g.staged.classes.set {} (u8 p 8) (parseClass p) } }))

/-- GEO_HEADCLASS (R61, R71). -/
def execGeoHeadclass (r : Fin 4) (s : State) : Host.Outcome State Fault Refusal :=
  .next (startCommand 0x0201 r.val (.ok []) effGeoHeadclass s)

/-- GEO_HEAD's placement (R63). -/
def parseHead (p : List Byte) : HeadPlace :=
  if u8 p 10 = 0xFF then {}
  else { cls := u8 p 10, disabled := bit (u8 p 11) 0, webLines := u32 p 12, webFrac := u16 p 16, crossPos := u32 p 20,
         crossDir := u8 p 24, raw := (pad 64 p).drop 8 }

/-- The effect of GEO_HEAD (R63). -/
def effGeoHead : Effect := fun c s =>
  let p := c.packet
  if 63 < u8 p 8 ∨ 7 < u8 p 9 ∨ (16 ≤ u8 p 10 ∧ u8 p 10 ≤ 254) ∨ 1 < u8 p 11 ∨ 2 ^ 24 ≤ u32 p 12 ∨ 1 < u8 p 24 then refuse s
  else good (s.modGeo (fun g =>
    { g with staged := { g.staged with heads := g.staged.heads.set {} (8 * u8 p 8 + u8 p 9) (parseHead p) } }))

/-- GEO_HEAD (R63, R71). -/
def execGeoHead (r : Fin 4) (s : State) : Host.Outcome State Fault Refusal :=
  .next (startCommand 0x0202 r.val (.ok []) effGeoHead s)

/-- Entries of `w` bytes. -/
def entriesOf (w : Nat) : Nat → List Byte → List (List Byte)
  | 0, _ => []
  | n + 1, bs => pad w (bs.take w) :: entriesOf w n (bs.drop w)

/-- Put entries into a staged table from an index on (R70). -/
def putEntries (old : List (List Byte)) (first : Nat) (new : List (List Byte)) (truncate : Bool) : List (List Byte) :=
  old.take first ++ new ++ (if truncate then [] else old.drop (first + new.length))

/-- The parameters shared by GEO_RUNS and GEO_EXCEPTIONS break a rule of R70 that the packet alone shows. -/
def tableParamsBad (p : List Byte) : Bool :=
  u64 p 8 % 8 ≠ 0 || decide (65535 < u32 p 16) || u32 p 20 == 0 || decide (65536 < u32 p 16 + u32 p 20) || decide (1 < u8 p 24)

/-- The effect of GEO_RUNS (R70). -/
def effGeoRuns : Effect := fun c s =>
  let p := c.packet
  if tableParamsBad p || decide (s.geo.staged.runs.length < u32 p 16) then refuse s
  else withHost c s (fun bytes => good (s.modGeo (fun g =>
    { g with staged := { g.staged with runs := putEntries g.staged.runs (u32 p 16) (entriesOf 16 (u32 p 20) bytes) (bit (u8 p 24) 0) } })))

/-- GEO_RUNS (R70, R71). -/
def execGeoRuns (r : Fin 4) (d : HostRead) (s : State) : Host.Outcome State Fault Refusal :=
  .next (startCommand 0x0203 r.val d effGeoRuns s)

/-- The effect of GEO_EXCEPTIONS (R70). -/
def effGeoExceptions : Effect := fun c s =>
  let p := c.packet
  if tableParamsBad p || decide (s.geo.staged.excs.length < u32 p 16) then refuse s
  else withHost c s (fun bytes => good (s.modGeo (fun g =>
    { g with staged := { g.staged with excs := putEntries g.staged.excs (u32 p 16) (entriesOf 8 (u32 p 20) bytes) (bit (u8 p 24) 0) } })))

/-- GEO_EXCEPTIONS (R70, R71). -/
def execGeoExceptions (r : Fin 4) (d : HostRead) (s : State) : Host.Outcome State Fault Refusal :=
  .next (startCommand 0x0204 r.val d effGeoExceptions s)

/-! The checks of R73. Each answers the kind and index of the item that fails. -/

/-- Check 1. Of several items at fault the lowest is named (log entry 151). -/
def GeoSet.check1 (g : GeoSet) : Option (Nat × Nat) :=
  (g.headList.find? (fun h => match g.classOf h with
    | none => true
    | some k => (List.range (k.dies * k.rows)).any (fun i => decide (16777215 < rowWhole (g.headAt h) k i)))).map (fun h => (2, h))

/-- A class keeps R61 and R62. -/
def HeadClass.ok (k : HeadClass) : Bool :=
  let n := k.dies * k.rows
  let primary (b : Nat) : Bool :=
    k.backs b / k.rows == b / k.rows && decide (k.backs b < n) && !k.spareRow (k.backs b)
  (k.bits == 1 || k.bits == 2 || k.bits == 4) && (k.dies == 1 || k.dies == 2)
    && decide (1 ≤ k.rows) && decide (k.rows * k.dies ≤ 8)
    && decide (1 ≤ k.nozzles) && decide (k.nozzles ≤ 2048) && k.nozzles % k.rows == 0 && decide (32000 ≤ k.minPeriod)
    && (List.range 8).all (fun i => decide (i < n) || (!k.spareRow i && k.rowOff.getD i 0 == 0))
    && (List.range 8).all (fun i => k.spareRow i || k.backs i == 0)
    && (List.range n).all (fun b => !k.spareRow b || primary b)
    && (List.range n).all (fun b => (List.range n).all (fun a =>
        a == b || !(k.spareRow a && k.spareRow b && k.backs a == k.backs b)))

/-- Check 2. Of several items at fault the lowest is named (log entry 151). -/
def GeoSet.check2 (g : GeoSet) : Option (Nat × Nat) :=
  ((List.range 16).find? (fun i => (g.classAt i).bits ≠ 0 && !(g.classAt i).ok)).map (fun i => (1, i))

/-- A nozzle lies in an occupied slot, below NOZZLES, and in no spare row. -/
def GeoSet.nozOk (g : GeoSet) (n : Nat) : Bool :=
  match g.classOf (headOfNoz n) with
  | none => false
  | some k => decide (n / 2048 % 2 < k.dies) && decide (n % 2048 < k.nozzles) && !k.spareRow (k.rowOf (n / 2048 % 2) (n % 2048))

/-- A run keeps R67: its field rules, its nozzles in one die row, its columns in one strip. -/
def GeoSet.runOk (g : GeoSet) (r : List Byte) : Bool :=
  let rows := match g.classOf (headOfNoz (runNoz r)) with
    | some k => k.rows
    | none => 1
  let last := runCount r - 1
  bits (u32 r 0) 23 21 == 0 && bits (u32 r 0) 31 25 == 0 && bits (u32 r 4) 31 20 == 0 && u32 r 12 == 0
    && decide (1 ≤ runCount r) && decide (runCount r ≤ 2048) && decide (runPlane r ≤ 63) && runStep r ≠ 0
    && g.nozOk (runNoz r) && decide (0 ≤ runNozAt r rows last) && g.nozOk (runNozAt r rows last).toNat
    && dieOfNoz (runNozAt r rows last).toNat == dieOfNoz (runNoz r)
    && decide (0 ≤ runColAt r last) && (runColAt r last).toNat / 2048 == runCol r / 2048

/-- An exception entry keeps R68. -/
def GeoSet.excOk (g : GeoSet) (e : List Byte) : Bool :=
  bits (u32 e 0) 31 24 == 0 && bits (u32 e 4) 31 26 == 0
    && (excAction e == 0 || (excAction e == 1 && excCol e == 0 && excPlane e == 0)) && g.nozOk (excNoz e)

/-- The index of the first entry that satisfies `bad`. -/
def firstIndex (bad : List Byte → Bool) : Nat → List (List Byte) → Option Nat
  | _, [] => none
  | i, e :: rest => if bad e then some i else firstIndex bad (i + 1) rest

/-- Check 3. -/
def GeoSet.check3 (g : GeoSet) : Option (Nat × Nat) :=
  match firstIndex (fun r => !g.runOk r) 0 g.runs with
  | some i => some (3, i)
  | none => (firstIndex (fun e => !g.excOk e) 0 g.excs).map (fun i => (4, i))

/-- Index of the first entry not above the one before it. -/
def notRising : Nat → List (List Byte) → Option Nat
  | i, a :: b :: rest => if excNoz a < excNoz b then notRising (i + 1) (b :: rest) else some (i + 1)
  | _, _ => none

/-- Check 4. -/
def GeoSet.check4 (g : GeoSet) : Option (Nat × Nat) := (notRising 0 g.excs).map (fun i => (4, i))

/-- The nozzles a run names. -/
def GeoSet.runNozzles (g : GeoSet) (r : List Byte) : List Int :=
  let rows := match g.classOf (headOfNoz (runNoz r)) with
    | some k => k.rows
    | none => 1
  (List.range (runCount r)).map (runNozAt r rows)

/-- Index of the first run that names a nozzle named before. -/
def GeoSet.repeatedRun (g : GeoSet) : List Int → Nat → List (List Byte) → Option Nat
  | _, _, [] => none
  | seen, i, r :: rest =>
    if (g.runNozzles r).any (fun n => seen.contains n) then some i
    else g.repeatedRun (g.runNozzles r ++ seen) (i + 1) rest

/-- Check 5. -/
def GeoSet.check5 (g : GeoSet) : Option (Nat × Nat) := (g.repeatedRun [] 0 g.runs).map (fun i => (3, i))

/-- BITS of a printing nozzle's class. -/
def GeoSet.bitsOf (g : GeoSet) (n : Nat) : Nat :=
  match g.classOf (headOfNoz n) with
  | some k => k.bits
  | none => 0

/-- The first printing nozzle in conflict with one before it. -/
def firstConflict (p : Nat × MapItem → Nat × MapItem → Bool) :
    List (Nat × MapItem) → List (Nat × MapItem) → Option MapItem
  | _, [] => none
  | seen, x :: rest => if seen.any (p x) then some x.2 else firstConflict p (x :: seen) rest

/-- Check 6. -/
def GeoSet.check6 (g : GeoSet) : Option (Nat × Nat) :=
  (firstConflict (fun x y => x.2.plane == y.2.plane && g.bitsOf x.1 ≠ g.bitsOf y.1) [] g.printers).map (fun m => (m.kind, m.index))

/-- The head at which the sum of a lane first exceeds 131,072 (R72). -/
def GeoSet.laneOver (g : GeoSet) (lane : Nat) : Nat → Nat → Option Nat
  | 0, _ => none
  | n + 1, sum =>
    let i := 8 - (n + 1)
    let add := match g.classOf (8 * lane + i) with
      | some k => k.dies * k.nozzles * k.bits
      | none => 0
    if 131072 < sum + add then some (8 * lane + i) else g.laneOver lane n (sum + add)

/-- The lowest slot of a lane whose class is faster than 75 kHz. -/
def GeoSet.laneFast (g : GeoSet) (lane : Nat) : Option Nat :=
  (((List.range 8).map (fun i => 8 * lane + i)).find? (fun h => match g.classOf h with
    | some k => decide (k.minPeriod < 64000)
    | none => false))

/-- Check 7 on one lane (R14). -/
def GeoSet.lane7 (g : GeoSet) (lane : Nat) : Option Nat :=
  match g.laneOver lane 8 0 with
  | some h => some h
  | none => if g.depth1 lane then g.laneFast lane else none

/-- Check 7. Of several items at fault the lowest is named (log entry 151). -/
def GeoSet.check7 (g : GeoSet) : Option (Nat × Nat) := ((List.range 64).findSome? g.lane7).map (fun h => (2, h))

/-- Check 8. -/
def GeoSet.check8 (g : GeoSet) : Option (Nat × Nat) :=
  (firstConflict (fun x y => x.2.plane == y.2.plane && x.2.col == y.2.col) [] g.printers).map (fun m => (m.kind, m.index))

/-- A generation is still in use: active, pending, or carried by a page QUEUED or PRINTING (R76). -/
def State.genInUse (s : State) (serial : Nat) : Bool :=
  serial == s.geo.active || serial == s.geo.pending
    || s.pgq.ctxs.entries.any (fun e => e.2.live && e.2.gen == serial)

/-- The generations whose entries are not free (R76). -/
def State.gensInUse (s : State) : List Gener := s.geo.gens.filter (fun g => s.genInUse g.serial)

/-- The readers of the generations in use (R132). -/
def State.readersInUse (s : State) : List Reader := dedup (s.gensInUse.flatMap (fun g => g.set.readers))

/-- Check 9: cursors. -/
def State.check9 (s : State) (g : GeoSet) : Bool := decide (4096 < (dedup (g.readers ++ s.readersInUse)).length)

/-- Run and exception entries in use (R76, MAL_GEO_RUNS_USED, MAL_GEO_EXC_USED). -/
def State.runsUsed (s : State) : Nat := sumNat (s.gensInUse.map (fun g => g.set.runs.length))
def State.excsUsed (s : State) : Nat := sumNat (s.gensInUse.map (fun g => g.set.excs.length))

/-- Check 10: table space. The tables hold the active generation and at most one other (R76); a pending one is left to
check 11. -/
def State.check10 (s : State) (g : GeoSet) : Bool :=
  decide (2 ≤ (s.gensInUse.filter (fun x => x.serial ≠ s.geo.pending)).length) || decide (65536 < s.runsUsed + g.runs.length)
    || decide (65536 < s.excsUsed + g.excs.length)

/-- The outcome of the checks: number, status, kind and index of the first that fails (R73). -/
def State.geoCheck (s : State) (g : GeoSet) : Option (Nat × Nat × Nat × Nat) :=
  let mk (n st : Nat) (x : Option (Nat × Nat)) : Option (Nat × Nat × Nat × Nat) := x.map (fun y => (n, st, y.1, y.2))
  let inc := Status.geoInconsistent
  (mk 1 inc g.check1).or <| (mk 2 inc g.check2).or <| (mk 3 inc g.check3).or <| (mk 4 inc g.check4).or <|
  (mk 5 inc g.check5).or <| (mk 6 inc g.check6).or <| (mk 7 inc g.check7).or <| (mk 8 Status.geoOverlap g.check8).or <|
  (if s.check9 g then some (9, Status.noResource, 0, 0) else none).or <|
  (if s.check10 g then some (10, Status.noResource, 0, 0) else none).or <|
  (if s.geo.pending ≠ 0 then some (11, Status.busy, 0, 0) else none)

/-! Generations (R74, R76, R132). -/

/-- Free the generations no longer in use, and the cursors that only they name (R76, R132). What a generation fixes for the
lines it is in force for (R77) is kept until they have passed. -/
def State.freeGens (s : State) : State :=
  if s.geo.gens.all (fun g => s.genInUse g.serial) then s
  else
    let s := s.modGeo (fun g => { g with gens := g.gens.filter (fun x => s.genInUse x.serial || x.serial == s.fir.gen) })
    let rs := s.readersInUse
    s.modMal (fun m => { m with cursors := m.cursors.filter (fun c =>
      rs.contains { die := c.2.die, row := c.2.row, plane := c.2.plane, strip := c.2.strip }) })

/-- Put a cursor for a reader at the lowest free number (R132). -/
def addCursor (cs : List (Nat × Cursor)) (r : Reader) : List (Nat × Cursor) :=
  if cs.any (fun c => c.2.die == r.die && c.2.row == r.row && c.2.plane == r.plane && c.2.strip == r.strip) then cs
  else
    let used := cs.map (fun c => c.1)
    let n := ((List.range (cs.length + 1)).find? (fun i => !used.contains i)).getD 0
    cs ++ [(n, { die := r.die, row := r.row, plane := r.plane, strip := r.strip })]

/-- The staging rings take the layout of a generation (R144, R145). -/
def State.layoutRings (s : State) (g : GeoSet) : State :=
  (List.range 64).foldl (fun s l =>
    if (s.laneRing l).depth1 = g.depth1 l then s
    else s.setLaneRing l { s.laneRing l with depth1 := g.depth1 l, slots := {} }) s

/-- A generation becomes active (R74): GEO_APPLIED, headroom (R216), and what is no longer in use is
freed. -/
def State.activate (s : State) (serial : Nat) : State :=
  let prev := s.geo.active
  let s := s.spoilGeneration.modGeo (fun g => { g with active := serial, pending := 0 })
  let crc := match s.genOf serial with
    | some g => g.crc
    | none => 0
  let s := s.raise 0x0201 0 (leBytes 2 (genNumber serial) ++ leBytes 2 (genNumber prev) ++ leBytes 4 crc)
  s.subGeneration.freeGens

/-- The pending generation becomes active with no page in the queue; the rings take its layout at once (R74, R145). -/
def State.activatePending (s : State) : State :=
  let set := s.setOf s.geo.pending
  ((s.activate s.geo.pending).layoutRings set).modFir (fun f => { f with gen := s.geo.pending })

/-- In a tick after its commit the pending generation becomes active when no page is QUEUED or PRINTING (R74, third instant). -/
def State.activateIdle (s : State) : State :=
  if s.geo.pending ≠ 0 ∧ s.geo.pendingTick < s.tick ∧ s.anyLive = false then s.activatePending else s

/-- Commit the staged set as a new generation (R72): its cursors are allocated, and it becomes active at once when no page is QUEUED or
PRINTING (R74, first instant). -/
def State.commitGeo (s : State) (crc : Nat) : State :=
  let n := s.geo.lastSerial + 1
  let set := s.geo.staged
  let s := s.modGeo (fun g => { g with gens := g.gens ++ [{ serial := n, set := set, crc := crc }], pending := n, pendingTick := s.tick, lastSerial := n })
  let s := s.modMal (fun m => { m with cursors := set.readers.foldl addCursor m.cursors })
  if s.anyLive then s else s.activatePending

/-- The results of GEO_COMMIT (R72). -/
def geoResults (gen check kind index crc : Nat) : List Byte :=
  leBytes 2 gen ++ [check, kind] ++ leBytes 4 index ++ leBytes 4 crc ++ zeros 4

/-- The effect of GEO_COMMIT (R72, R73). -/
def effGeoCommit : Effect := fun c s =>
  let p := c.packet
  if 1 < u8 p 8 then refuse s
  else
    let crc := s.geo.staged.crc
    match s.geoCheck s.geo.staged with
    | some (n, st, kind, index) => (s, .done st (geoResults 0 n kind index crc))
    | none =>
      if bit (u8 p 8) 0 then answer s (geoResults 0 0 0 0 crc)
      else answer (s.commitGeo crc) (geoResults (genNumber (s.geo.lastSerial + 1)) 0 0 0 crc)

/-- GEO_COMMIT (R72 to R74). -/
def execGeoCommit (r : Fin 4) (s : State) : Host.Outcome State Fault Refusal :=
  .next (startCommand 0x0205 r.val (.ok []) effGeoCommit s)

/-- GENERATION_ACTIVATE (R74, third instant). -/
def execGenerationActivate (s : State) : Host.Outcome State Fault Refusal := .next s.activateIdle

end Sys2Proof.Machine
end

