-- ==== Sys2Proof/Machine/Rsf.lean ====
section
/-! DEFINITION. The Raster Stream Format (R103 to R119, R461): the tile decoder, line by line, and the
decoder of service blocks (R120). Histories are kept newest drop first; a drop before the first reads 0. -/
namespace Sys2Proof.Machine

/-! Reason codes (R116). -/
namespace Reason
abbrev valid : Nat := 0x0000
abbrev header : Nat := 0x0001
abbrev depth : Nat := 0x0002
abbrev overrun : Nat := 0x0003
abbrev truncated : Nat := 0x0004
abbrev reservedToken : Nat := 0x0005
abbrev distance : Nat := 0x0006
abbrev crc : Nat := 0x0007
abbrev trailing : Nat := 0x0008
abbrev notFresh : Nat := 0x0010
abbrev ingest : Nat := 0xFFFF
end Reason

/-! The header (R104). -/

def tileDepth (t : List Byte) : Nat := bits (u8 t 1) 5 4
/-- BITS of a tile. -/
def tileBits (t : List Byte) : Nat := 2 ^ tileDepth t
def tileCont (t : List Byte) : Bool := bit (u8 t 1) 6
def tileWidth (t : List Byte) : Nat := u16 t 2 % 2048 + 1
def tileLines (t : List Byte) : Nat := u8 t 4 % 16 + 1

/-- HL = 8 / BITS (R110). -/
def histLines (b : Nat) : Nat := 8 / b
/-- WIN = 16,384 / BITS (R111). -/
def winDrops (b : Nat) : Nat := 16384 / b

/-- The first header byte of a tile that fails (R116, R461). -/
def headerFault (t : List Byte) : Option Nat :=
  if u8 t 0 ≠ 0x5A then some 0
  else if u8 t 1 % 16 ≠ 1 ∨ tileDepth t = 3 ∨ bit (u8 t 1) 7 = true then some 1
  else if 2048 ≤ u16 t 2 then some 3
  else if 16 ≤ u8 t 4 then some 4
  else [5, 6, 7].find? (fun i => u8 t i ≠ 0)

/-- The stored CRC agrees (R103, R114). -/
def crcGood (t : List Byte) : Bool := crc32c (t.take (t.length - 4)) == u32 t (t.length - 4)

/-! Tokens (R107, R108). -/

/-- Extra length bytes of a length field. -/
def extraLen (f : Nat) : Nat := if f = 30 then 1 else if f = 31 then 2 else 0

/-- The drop count *n* (R107). -/
def tokCount (t : List Byte) (off : Nat) : Nat :=
  let f := u8 t off % 32
  if f = 30 then u8 t (off + 1) + 31 else if f = 31 then u16 t (off + 1) + 287 else f + 1

/-- Operand bytes of a token of a kind (R108). -/
def operandLen (b kind n : Nat) : Nat :=
  if kind = 0 then ceilDiv (n * b) 8 else if kind = 2 then 1 else if kind = 4 then 2 else 0

/-- `n` copies from distance `d`, newest first onto the history (R110). -/
def copyDrops (d : Nat) : Nat → List Nat → List Nat
  | 0, w => w
  | n + 1, w => copyDrops d n (w.getD (d - 1) 0 :: w)

/-- Put drops in coded order onto the history. -/
def pushDrops (xs w : List Nat) : List Nat := xs.reverse ++ w

/-- The output of a token on the history: `o` is the offset of its operand. -/
def tokenOut (b kind n o : Nat) (t : List Byte) (w : List Nat) : List Nat :=
  if kind = 0 then pushDrops (unpackSyms b n ((t.drop o).take (ceilDiv (n * b) 8))) w
  else if kind = 1 then List.replicate n 0 ++ w
  else if kind = 2 then List.replicate n (u8 t o % 2 ^ b) ++ w
  else if kind = 3 then copyDrops 2048 n w
  else copyDrops (u16 t o + 1) n w

/-- The cost of a token in CORE clocks (R119). -/
def tokenCost (kind n o : Nat) (t : List Byte) : Nat :=
  if kind = 4 then ceilDiv n (min 16 (u16 t o + 1)) else ceilDiv n 16

/-- A decoded stretch: the history after it, the offset of the next token and the clocks of its tokens;
or the reason and offset of a failure. -/
inductive Decoded where
  | ok (hist : List Nat) (off cost : Nat)
  | bad (reason off : Nat)
deriving DecidableEq, Repr

/-- The fault of the token at an offset, steps 1 and 3 to 6 of R461; `limit` is LEN − 4, `win` is WIN,
and `up` says whether UP is allowed (R120). -/
def tokenFault (b win limit : Nat) (up : Bool) (t : List Byte) (off : Nat) : Option Nat :=
  let k := u8 t off / 32
  let x := extraLen (u8 t off % 32)
  let o := off + 1 + x
  if limit ≤ off then some Reason.truncated
  else if k = 5 ∨ k = 6 ∨ (k = 7 ∧ u8 t off ≠ 0xFF) ∨ (k = 3 ∧ up = false) then some Reason.reservedToken
  else if k = 7 then some Reason.truncated
  else if limit < o then some Reason.truncated
  else if limit < o + operandLen b k (tokCount t off) then some Reason.truncated
  else if k = 2 ∧ 2 ^ b ≤ u8 t o then some Reason.reservedToken
  else if k = 4 ∧ win < u16 t o + 1 then some Reason.distance
  else none

/-- Decode tokens until `left` more drops are written; a token must not write more (R109, R461 step 7).
The fuel bounds the number of tokens, each of which writes at least one drop. -/
def decodeTokens (b win limit : Nat) (up : Bool) (t : List Byte) : Nat → Nat → Nat → Nat → List Nat → Decoded
  | 0, _, off, cost, w => .ok w off cost
  | fuel + 1, left, off, cost, w =>
    if left = 0 then .ok w off cost
    else match tokenFault b win limit up t off with
      | some r => .bad r off
      | none =>
        let k := u8 t off / 32
        let n := tokCount t off
        let o := off + 1 + extraLen (u8 t off % 32)
        if left < n then .bad Reason.overrun off
        else decodeTokens b win limit up t fuel (left - n) (o + operandLen b k n) (cost + tokenCost k n o t)
              (tokenOut b k n o t w)

/-- Decode one coded line: the history then ends with 2,048 drops of it, fill included (R104). -/
def decodeLine (t : List Byte) (off : Nat) (w : List Nat) : Decoded :=
  match decodeTokens (tileBits t) (winDrops (tileBits t)) (t.length - 4) true t (tileWidth t + 1) (tileWidth t) off 0 w with
  | .bad r o => .bad r o
  | .ok w o c => .ok (List.replicate (2048 - tileWidth t) 0 ++ w) o (4 + c + ceilDiv (2048 - tileWidth t) 64)

/-- The byte after the completing token (R115, R461 step 2). -/
def endFault (t : List Byte) (off : Nat) : Option Nat :=
  if t.length - 4 ≤ off then some Reason.truncated
  else if u8 t off ≠ 0xFF then some Reason.overrun
  else if off ≠ t.length - 5 then some Reason.trailing
  else none

/-- The lines of a strip newest first as one history. -/
def flatHist (lines : List (List Nat)) : List Nat := lines.flatMap List.reverse

/-- The newest line of a history. -/
def newestLine (w : List Nat) : List Nat := (w.take 2048).reverse

/-- The result of decoding a tile: reason and offset (R116, R461), LCYC (R119), and its 16 lines, oldest
first; an invalid tile has no lines. -/
structure TileResult where
  reason : Nat
  offset : Nat
  lcyc : Nat
  lines : List (List Nat)
deriving DecidableEq, Repr

/-- Decode the coded lines of a tile. -/
def decodeLines (t : List Byte) : Nat → Nat → Nat → List (List Nat) → List Nat → TileResult
  | 0, off, lcyc, acc, _ =>
    match endFault t off with
    | some r => { reason := r, offset := off, lcyc := 0, lines := [] }
    | none =>
      let fill := 16 - tileLines t
      { reason := 0, offset := 0, lcyc := if fill = 0 then lcyc else max lcyc 36,
        lines := acc.reverse ++ List.replicate fill (List.replicate 2048 0) }
  | n + 1, off, lcyc, acc, w =>
    match decodeLine t off w with
    | .bad r o => { reason := r, offset := o, lcyc := 0, lines := [] }
    | .ok w o c => decodeLines t n o (max lcyc c) (newestLine w :: acc) w

/-- A failed tile. -/
def tileFail (reason off : Nat) : TileResult := { reason := reason, offset := off, lcyc := 0, lines := [] }

/-- Verification's decode of a tile with the history lines above it, newest first (R112, R117). The test
of DEPTH against the plane is made when verification ends. -/
def decodeTile (t : List Byte) (above : List (List Nat)) : TileResult :=
  if t.length < 14 then tileFail Reason.header 0
  else if !crcGood t then tileFail Reason.crc (t.length - 4)
  else match headerFault t with
    | some o => tileFail Reason.header o
    | none => decodeLines t (tileLines t) 8 0 [] (if tileCont t then flatHist above else [])

/-- The history image of a tile's output (R113): its last HL lines, newest first. -/
def TileResult.image (r : TileResult) (b : Nat) : List (List Nat) := (r.lines.reverse).take (histLines b)

/-- The history image read at another depth (R113): the same 2,048 bytes. -/
def repackImage (old new : Nat) (lines : List (List Nat)) : List (List Nat) :=
  if old = new ∨ lines = [] then lines
  else
    let bytes := (lines.reverse).flatMap (packSyms old)
    (((List.range (histLines new)).map (fun i => unpackSyms new 2048 ((bytes.drop (256 * new * i)).take (256 * new))))).reverse

/-! Service blocks (R120). -/

/-- The first header byte of a service block that fails. -/
def blockHeaderFault (t : List Byte) : Option Nat :=
  if u8 t 0 ≠ 0x5A then some 0
  else if u8 t 1 % 16 ≠ 1 ∨ tileDepth t ≠ 3 ∨ bit (u8 t 1) 7 = true then some 1
  else [4, 5, 6, 7].find? (fun i => u8 t i ≠ 0)

/-- OUT_LEN of a service block. -/
def blockOutLen (t : List Byte) : Nat := u16 t 2 + 1

/-- WIN of a service stream. -/
def serviceWin : Nat := 31744

/-- Decode a service block on a stream's history, newest byte first: the output in order, or the reason
and offset. -/
def decodeBlock (t : List Byte) (hist : List Nat) : Except (Nat × Nat) (List Nat) :=
  if t.length < 14 then .error (Reason.header, 0)
  else if !crcGood t then .error (Reason.crc, t.length - 4)
  else match blockHeaderFault t with
    | some o => .error (Reason.header, o)
    | none =>
      let w := if tileCont t then hist else []
      match decodeTokens 8 serviceWin (t.length - 4) false t (blockOutLen t + 1) (blockOutLen t) 8 0 w with
      | .bad r o => .error (r, o)
      | .ok w o _ =>
        match endFault t o with
        | some r => .error (r, o)
        | none => .ok ((w.take (blockOutLen t)).reverse)

end Sys2Proof.Machine
end

