-- ==== Sys2Proof/Machine/Pages.lean ====
section
/-! DEFINITION. Page contexts, verification, the admission budget, placement and chains (chapter 04; R381
for the twin's page check). -/
namespace Sys2Proof.Machine

/-- The value of a state (R80). -/
def PageState.num : PageState → Nat
  | .free => 0
  | .loading => 1
  | .staged => 2
  | .verified => 3
  | .queued => 4
  | .printing => 5
  | .done => 6
  | .aborted => 7

/-- A page that is LOADING to PRINTING (R83). -/
def PageState.held : PageState → Bool
  | .loading | .staged | .verified | .queued | .printing => true
  | _ => false

/-- Tile rows of a page (R83). -/
def Ctx.rowCount (c : Ctx) : Nat := ceilDiv c.lines 16

/-- Lines a page takes on the web: ceil16(LINES). -/
def Ctx.span (c : Ctx) : Nat := ceil16 c.lines

/-! State changes (R81, R101). -/

/-- The page line of an event (R101). -/
def pageLine (start : Option Nat) (line : Nat) : Nat :=
  match start with
  | some s0 => if s0 ≤ line then line - s0 else 0
  | none => 0

/-- Write PAGE_STATE_CHANGE (R101). -/
def State.writeNote (s : State) (n : PageNote) : State :=
  s.raise 0x0301 n.ctx ([n.new.num, n.old.num, n.cause, 0] ++ leBytes 4 (pageLine n.start s.pressLine) ++ s.lineBytes ++ [0, 0])

/-- A row that can trigger a press line in its tick (R26, R166, R169, R382). -/
def triggersLine (i : Instr) : Bool :=
  match i with
  | .lineTrigger | .holdTrigger | .gongFrameRx _ _ | .lineRecordRx _ | .shadowLineTimeout => true
  | _ => false

/-- PAGE_STATE_CHANGE of a context (R101): it names the last press line triggered in its tick, so it waits for the rows of the tick
that may trigger one. -/
def State.pageEvent (s : State) (id : Nat) (old : PageState) : State :=
  let c := s.ctx id
  let n : PageNote := { ctx := id, new := c.state, old := old, cause := c.cause, start := c.start }
  if s.arrives triggersLine then s.modPgq (fun g => { g with notes := g.notes ++ [n] }) else s.writeNote n

/-- Write the PAGE_STATE_CHANGEs that waited for the line of their tick (R101). -/
def State.writeNotes (s : State) : State :=
  if s.arrives triggersLine then s else s.pgq.notes.foldl State.writeNote (s.modPgq (fun g => { g with notes := [] }))

/-- Move a context to a state with a CAUSE. -/
def State.changePage (s : State) (id : Nat) (st : PageState) (cause : Nat) : State :=
  let old := (s.ctx id).state
  let s := if st = .aborted then s.withdrawSteps id else s
  let s := if st = .aborted ∨ st = .done then s.closeGaps id else s
  (s.modCtx id (fun c => { c with state := st, cause := cause })).pageEvent id old

/-! Tiles. -/

/-- The tile of a page at a place. -/
def Ctx.tileAt (c : Ctx) (plane strip row : Nat) : Option Tile :=
  c.tiles.find? (fun t => t.plane == plane && t.strip == strip && t.row == row)

/-- The tile whose bytes decide what an entry prints: itself, or the source of a REF (R87). -/
def State.sourceTile (s : State) (id : Nat) (t : Tile) : Option Tile :=
  match t.kind with
  | .host _ _ => some t
  | .blank => none
  | .ref k plane strip row => (s.ctx (if k = 0 then id else k)).tileAt plane strip row

/-- LCYC of a place in a page (R119). -/
def State.lcycAt (s : State) (id plane strip row : Nat) : Nat :=
  match (s.ctx id).tileAt plane strip row with
  | none => 0
  | some t => match s.sourceTile id t with
    | some x => x.lcyc
    | none => 0

/-- The history image that a tile row leaves to the one below it (R112, R113), with its BITS. -/
def State.imageAt (s : State) (id plane strip row : Nat) : Nat × List (List Nat) :=
  match (s.ctx id).tileAt plane strip row with
  | none => (1, [])
  | some t => match s.sourceTile id t with
    | some x => (x.depth, x.image)
    | none => (1, [])

/-- A HOST entry. -/
def Tile.isHost (t : Tile) : Bool :=
  match t.kind with
  | .host _ _ => true
  | _ => false

/-- LEN of a HOST entry. -/
def Tile.len (t : Tile) : Nat :=
  match t.kind with
  | .host _ n => n
  | _ => 0

/-- The tile names a context. -/
def Tile.refersTo (id : Nat) (t : Tile) : Bool :=
  match t.kind with
  | .ref k _ _ _ => k == id
  | _ => false

/-- A live page refers to the tiles of context `id` (R83, R87). -/
def State.referenced (s : State) (id : Nat) : Bool :=
  s.pgq.ctxs.entries.any (fun e => e.1 ≠ id && e.2.state.held && e.2.tiles.any (Tile.refersTo id))

/-- The tile has been pulled and decoded, or its pull has failed. -/
def Tile.settled (t : Tile) : Bool := !t.isHost || t.readFail.isSome || t.decoded

/-- Bytes of local DRAM that pages hold (R83, R86, R98). -/
def State.pageDram (s : State) : Nat :=
  sumNat (s.pgq.ctxs.entries.map (fun e =>
    if e.2.state = .aborted ∧ s.referenced e.1 = false then 0 else sumNat (e.2.tiles.map Tile.len)))

/-- HOST tiles still to be pulled (R102). -/
def Ctx.toPull (c : Ctx) : Nat := (c.tiles.filter (fun t => t.isHost && t.bytes.isNone && t.readFail.isNone)).length

/-! Opening and loading. -/

/-- The effect of PAGE_OPEN (R82, R83, R155). -/
def effPageOpen : Effect := fun c s =>
  let p := c.packet
  let id := pktPage p
  if u32 p 8 = 0 ∨ 4261412864 < u32 p 8 ∨ 3 < u8 p 16 then refuse s
  else if (s.ctx id).state.held then finish s Status.pageState
  else if s.referenced id then finish s Status.busy
  else
    let old := (s.ctx id).state
    let s := s.modPgq (fun g => { g with ctxs := ⟨g.ctxs.entries.map (fun e =>
      (e.1, if e.2.behind = id then { e.2 with behind := 0 } else e.2))⟩ })
    let s := s.setCtx id { state := .loading, lines := u32 p 8, period := u32 p 12, strict := bit (u8 p 16) 0, slowOk := bit (u8 p 16) 1 }
    good ((s.pageEvent id old).modFir (fun f => { f with noSlipMap := f.noSlipMap.set false id false }))

/-- PAGE_OPEN (R82, R83). -/
def execPageOpen (r : Fin 4) (s : State) : Host.Outcome State Fault Refusal :=
  .next (startCommand 0x0301 r.val (.ok []) effPageOpen s)

/-- KIND of a tile entry as R85 lays it out; none when the entry breaks R85. -/
def parseKind (e : List Byte) : Option TileKind :=
  if u8 e 13 ≠ 0 ∨ u8 e 14 ≠ 0 ∨ u8 e 15 ≠ 0 then none
  else if u8 e 12 = 0 then (if u32 e 8 = 0 ∨ 32768 < u32 e 8 then none else some (.host (u64 e 0) (u32 e 8)))
  else if u8 e 12 = 1 then
    if 32768 ≤ u16 e 4 ∨ u8 e 7 ≠ 0 ∨ u32 e 8 ≠ 0 then none
    else some (.ref (u8 e 6) (u16 e 4 / 512) (u16 e 4 % 512) (u32 e 0))
  else if u8 e 12 = 2 then (if zeroRange e 0 12 then some .blank else none)
  else none

/-- The source of a REF entry is one that R87 allows. -/
def State.refOk (s : State) (id : Nat) (k : TileKind) : Bool :=
  match k with
  | .ref c plane strip row =>
    let src := s.ctx (if c = 0 then id else c)
    let held := c == 0 || (c ≠ id && (src.state == .verified || src.state == .queued || src.state == .printing || src.state == .done))
    held && (match src.tileAt plane strip row with
      | some t => t.isHost
      | none => false)
  | _ => true

/-- The tiles that the entries of PAGE_ADD_TILES name; none when an entry breaks R85 or R87. -/
def State.parseTiles (s : State) (id plane strip tag : Nat) : Nat → List (List Byte) → Option (List Tile)
  | _, [] => some []
  | row, e :: rest =>
    match parseKind e with
    | none => none
    | some k =>
      if s.refOk id k then
        (s.parseTiles id plane strip tag (row + 1) rest).map (fun ts =>
          { plane := plane, strip := strip, row := row, kind := k, entry := e, tag := tag } :: ts)
      else none

/-- The effect of PAGE_ADD_TILES (R84 to R87). -/
def effPageAddTiles : Effect := fun c s =>
  let p := c.packet
  let id := pktPage p
  let plane := u8 p 16
  let strip := u16 p 17
  let first := u32 p 20
  let n := u32 p 24
  let x := s.ctx id
  if u64 p 8 % 16 ≠ 0 ∨ 63 < plane ∨ 511 < strip ∨ n = 0 ∨ 65536 < n then refuse s
  else if x.state ≠ .loading then finish s Status.pageState
  else if x.rowCount < first + n
      ∨ x.tiles.any (fun t => t.plane == plane && t.strip == strip && decide (first ≤ t.row) && decide (t.row < first + n)) = true then refuse s
  else withHost c s (fun bytes =>
    match s.parseTiles id plane strip (pktTag p) first (entriesOf 16 n bytes) with
    | none => refuse s
    | some ts =>
      if s.sys.memGib * 2 ^ 30 < s.pageDram + s.stkDram + sumNat (ts.map Tile.len) then finish s Status.noResource
      else good (s.modCtx id (fun y => { y with tiles := y.tiles ++ ts })))

/-- PAGE_ADD_TILES (R84 to R87). -/
def execPageAddTiles (r : Fin 4) (d : HostRead) (s : State) : Host.Outcome State Fault Refusal :=
  .next (startCommand 0x0302 r.val d effPageAddTiles s)

/-- Every HOST tile before tile `idx` of a context has been pulled, or its pull has failed (R86: in table order). -/
def Ctx.pulledTo (c : Ctx) (idx : Nat) : Bool :=
  (c.tiles.take idx).all (fun t => !t.isHost || t.bytes.isSome || t.readFail.isSome)

/-- TILE_ARRIVAL (R86; R89 check 2): tile `idx` of a context, the next to pull, arrives, or its read fails. -/
def execTileArrival (ctx : Fin 256) (idx : Nat) (d : HostRead) (s : State) : Host.Outcome State Fault Refusal :=
  let c := s.ctx ctx.val
  match c.tiles[idx]? with
  | none => .next s
  | some t =>
    if !(c.state == .loading || c.state == .staged) || !t.isHost || t.bytes.isSome || t.readFail.isSome || !c.pulledTo idx then .next s
    else match d with
      | .ok bytes => .next (s.setCtx ctx.val { c with tiles := modAt (fun t => { t with bytes := some (pad t.len bytes) }) idx c.tiles })
      | .fail cause addr =>
        let s := s.setCtx ctx.val { c with tiles := modAt (fun t => { t with readFail := some cause }) idx c.tiles }
        .next ((s.reportRead cause).raise 0x0103 ctx.val (leBytes 2 0x0302 ++ [cause, 0] ++ leBytes 4 t.tag ++ leBytes 8 addr))

/-- The source of a REF has CONT = 1 (check 4 of R89). -/
def State.notFresh (s : State) (id : Nat) (t : Tile) : Bool :=
  match t.kind with
  | .ref _ _ _ _ => (match s.sourceTile id t with
    | some x => tileCont (x.bytes.getD [])
    | none => false)
  | _ => false

/-- The output of a tile is known: of a REF, that of its source (R87, R112). A REF whose source is not fresh ends its page (check 4),
and nothing waits for it (log entry 148). -/
def State.outputKnown (s : State) (id : Nat) (t : Tile) : Bool :=
  match s.sourceTile id t with
  | some x => x.settled || s.notFresh id t
  | none => true

/-- The output of the tile row above is known (R112, R113). A tile row that is not supplied counts as BLANK once no more
tiles can be added. -/
def State.aboveReady (s : State) (id : Nat) (t : Tile) : Bool :=
  let c := s.ctx id
  t.row == 0 || (match c.tileAt t.plane t.strip (t.row - 1) with
    | some u => s.outputKnown id u
    | none => c.state != .loading)

/-- A REF further up in its strip names this tile as its source. -/
def Ctx.neededAbove (c : Ctx) (t : Tile) : Bool :=
  c.tiles.any (fun u => u.kind == .ref 0 t.plane t.strip t.row && u.plane == t.plane && u.strip == t.strip && decide (u.row < t.row))

/-- Verification decodes a strip in tile-row order (R113): the HOST tiles above have been decoded. The source of a REF further up in
its strip goes ahead, since a tile with CONT = 1 below that REF needs its output (log entry 148). -/
def Ctx.stripOrder (c : Ctx) (t : Tile) : Bool :=
  c.neededAbove t || c.tiles.all (fun u => !(u.plane == t.plane && u.strip == t.strip && decide (u.row < t.row)) || u.settled)

/-- VERIFY_TILE_DECODE (R112, R117, R119): verification decodes tile `idx` of a context. -/
def execVerifyTileDecode (ctx : Fin 256) (idx : Nat) (s : State) : Host.Outcome State Fault Refusal :=
  let c := s.ctx ctx.val
  match c.tiles[idx]? with
  | none => .next s
  | some t =>
    match t.bytes with
    | none => .next s
    | some b =>
      if !(c.state == .loading || c.state == .staged) || t.decoded || !c.stripOrder t || (tileCont b && !s.aboveReady ctx.val t) then .next s
      else
        let up := if t.row = 0 then (1, []) else s.imageAt ctx.val t.plane t.strip (t.row - 1)
        let r := decodeTile b (repackImage up.1 (tileBits b) up.2)
        let s := s.setCtx ctx.val { c with tiles := modAt (fun t =>
          { t with decoded := true, reason := r.reason, offset := r.offset, lcyc := r.lcyc, image := r.image (tileBits b), depth := tileBits b }) idx c.tiles }
        .next (s.modDec (fun d => { d with verified := satAdd 32 d.verified 1 }))

/-- The effect of PAGE_CLOSE (R75, R88). -/
def effPageClose : Effect := fun c s =>
  let id := pktPage c.packet
  if (s.ctx id).state ≠ .loading then finish s Status.pageState
  else
    let s := s.modCtx id (fun x => { x with gen := s.geo.lastSerial, closeCmd := some c.id })
    (s.changePage id .staged 0, .running)

/-- PAGE_CLOSE (R75, R88). -/
def execPageClose (r : Fin 4) (s : State) : Host.Outcome State Fault Refusal :=
  .next (startCommand 0x0303 r.val (.ok []) effPageClose s)

/-! The budget (R90, R91). -/

/-- Engines in service (NE, R150). -/
def State.engines (s : State) : Nat := ((List.range 64).filter (fun e => (s.engine e).outCause == 0)).length

/-- The offsets under R65 that a row may have in the passes FIR is configured for: W_r, and W_r + 1 in a reverse
pass. -/
def State.rowOffsets (s : State) (g : GeoSet) (r : Reader) : List Nat :=
  let w := g.wOf r.die r.row
  if !s.fir.cfg.scanning || s.fir.cfg.passes == 1 || !g.rowLags r.die r.row then [w]
  else if s.fir.cfg.passes = 2 then [w + 1]
  else [w, w + 1]

/-- The line cost of a reader at page line L (R90): the larger one where the direction of its pass is not settled yet
(log entry 28). -/
def State.readCost (s : State) (id : Nat) (g : GeoSet) (r : Reader) (line : Nat) : Nat :=
  maxNat ((s.rowOffsets g r).map (fun w =>
    if line < w ∨ (s.ctx id).lines ≤ line - w then 0 else s.lcycAt id r.plane r.strip ((line - w) / 16)))

/-- DEC(d, w) (R90). -/
def State.decCost (s : State) (id : Nat) (g : GeoSet) (d w : Nat) : Nat :=
  sumNat ((g.readersOfDie d).map (fun r => sumNat ((List.range 16).map (fun i => s.readCost id g r (16 * w + i)))))

/-- REMAP + EXC + SUBRES of a die (R90). -/
def GeoSet.remapCost (g : GeoSet) (d : Nat) : Nat :=
  match g.classOf (headOfDie d) with
  | none => 0
  | some k => 2 * k.nozzles + 32 * g.excsOfDie d + 4096 / k.dies

/-- c(d, w) (R90). -/
def State.beatCost (s : State) (id : Nat) (g : GeoSet) (d w : Nat) : Nat :=
  192 + max (g.remapCost d) (s.decCost id g d w)

/-- Windows of the fire span. -/
def windowCount (c : Ctx) (g : GeoSet) : Nat := (c.span + g.wMax) / 16 + 1

/-- The dies with a beat in every window: those of occupied head slots. -/
def State.windowCost (s : State) (id : Nat) (g : GeoSet) (w : Nat) : Nat :=
  sumNat (g.dieList.map (fun d => s.beatCost id g d w))

/-- The lowest window of the largest cost among the first `n`, and that cost. -/
def worstWindow (f : Nat → Nat) : Nat → Nat × Nat
  | 0 => (0, 0)
  | n + 1 =>
    let x := worstWindow f n
    if x.2 < f n then (n, f n) else x

/-- M_d of every die (R90). -/
def State.dieCosts (s : State) (id : Nat) (g : GeoSet) : Table Nat :=
  g.dieList.foldl (fun t d => t.set 0 d (worstWindow (s.beatCost id g d) (windowCount (s.ctx id) g)).2) {}

/-- MIN_PERIOD over the occupied slots. -/
def GeoSet.minPeriod (g : GeoSet) : Nat :=
  maxNat (g.headList.map (fun h => match g.classOf h with
    | some k => k.minPeriod
    | none => 0))

/-- BUDGET(P) (R91). -/
def budget (ne p : Nat) : Nat := ne * 15 * p / 4

/-- The budget test at P (R91). -/
def budgetOk (ne p cmax : Nat) (costs : Table Nat) : Bool :=
  decide (4 * cmax ≤ ne * 15 * p) && costs.entries.all (fun e => decide (e.2 ≤ 4 * p))

/-- P_FIT (R91); with no engine in service no period passes, and the field reads all ones. -/
def fitPeriod (ne cmax : Nat) (costs : Table Nat) : Nat :=
  if ne = 0 then 2 ^ 32 - 1
  else max (ceilDiv (4 * cmax) (15 * ne)) (ceilDiv (maxNat (costs.entries.map (fun e => e.2))) 4)

/-! The junction test (R95). -/

/-- Some window holds lines at which rows of the die read both pages. -/
def junctionShared (g1 g2 : GeoSet) (gap d : Nat) : Bool :=
  match g1.classOf (headOfDie d), g2.classOf (headOfDie d) with
  | some k1, some k2 =>
    decide (d % 2 < k1.dies) && decide (d % 2 < k2.dies)
      && (List.range k1.rows).any (fun a => (List.range k2.rows).any (fun b =>
          decide (gap + g2.wOf d (d % 2 * k2.rows + b) < ceil16 (g1.wOf d (d % 2 * k1.rows + a)))))
  | _, _ => false

/-- J_d (R95). -/
def junctionCost (c1 c2 : Ctx) (g1 g2 : GeoSet) (gap d : Nat) : Nat :=
  let m1 := c1.costs.get 0 d
  let m2 := c2.costs.get 0 d
  if junctionShared g1 g2 gap d then m1 + m2 - 192 else max m1 m2

/-- The junction test of an earlier and a later page (R95); NE is that of the instant of the test (log entry 150). -/
def State.junctionOk (s : State) (c1 c2 : Ctx) (gap : Nat) : Bool :=
  let g1 := s.setOf c1.gen
  let g2 := s.setOf c2.gen
  if g1.wMax + 1 ≤ gap then true
  else
    let ds := dedup (g1.dieList ++ g2.dieList)
    decide (4 * sumNat (ds.map (junctionCost c1 c2 g1 g2 gap)) ≤ s.engines * 15 * max c1.floor c2.floor)

/-! Starts (R94, R96, R145). -/

/-- Some lane's ring has another depth under the later generation (R145). -/
def depthChanges (g1 g2 : GeoSet) : Bool := (List.range 64).any (fun l => g1.depth1 l ≠ g2.depth1 l)

/-- The first line at which a page may start after one that starts at `prev` when a lane's DEPTH changes (R145); 0: any. -/
def State.depthBound (s : State) (prev : Nat) (c1 c2 : Ctx) : Nat :=
  let g1 := s.setOf c1.gen
  if depthChanges g1 (s.setOf c2.gen) then ceil16 (prev + c1.span + g1.wMax + 17) else 0

/-- The start of a page placed after one that starts at `prev`, with a gap (R94, R96), and no earlier
than R145 asks. -/
def State.startAfter (s : State) (prev : Nat) (c1 c2 : Ctx) (gap : Nat) : Nat :=
  max (prev + c1.span + gap) (s.depthBound prev c1 c2)

/-- The start of a page, or the one its chain gives it while it is not yet queued. The fuel bounds the
chain. -/
def State.nominalStart (s : State) : Nat → Nat → Option Nat
  | 0, _ => none
  | fuel + 1, id =>
    let c := s.ctx id
    match c.start with
    | some x => some x
    | none =>
      if c.pred = 0 then none
      else if c.predDone then some c.nominal
      else (s.nominalStart fuel c.pred).map (fun x => s.startAfter x (s.ctx c.pred) c 0)

/-- The last segment of the job of a page. -/
def State.lastSegment (s : State) : Nat → Nat → Nat
  | 0, id => id
  | fuel + 1, id => if (s.ctx id).succ = 0 then id else s.lastSegment fuel (s.ctx id).succ

/-- The page after which PAGE_QUEUE places the next one (R94); none when the queue is empty. -/
def State.queueTail (s : State) : Option Nat :=
  match s.pgq.queue.getLast? with
  | some id => some (s.lastSegment 256 id)
  | none => ((s.pgq.ctxs.entries.find? (fun e =>
      e.2.predDone && (e.2.state == .loading || e.2.state == .staged || e.2.state == .verified))).map (fun e => s.lastSegment 256 e.1))

/-! Ending a page. -/

/-- Take a page out of the queue and out of its predecessor. -/
def State.unlinkPage (s : State) (id : Nat) : State :=
  let p := (s.ctx id).pred
  let s := s.modPgq (fun g => { g with queue := g.queue.filter (· ≠ id) })
  if p ≠ 0 ∧ (s.ctx p).succ = id then s.modCtx p (fun c => { c with succ := 0 }) else s

/-- End one segment (R81, R98): a PRINTING one prints what is prepared, another one ends now. -/
def State.endSegment (s : State) (id cause : Nat) : State :=
  let c := s.ctx id
  match c.state with
  | .printing =>
    if c.abortAt.isSome then s
    else
      let s := s.setCtx id { c with abortAt := some s.mal.formedTo, abortCause := cause }
      if c.pred ≠ 0 ∧ (s.ctx c.pred).succ = id then s.modCtx c.pred (fun x => { x with succ := 0 }) else s
  | .loading | .staged | .verified | .queued =>
    let s := (s.setCtx id { c with closeCmd := none, waitsPred := false, inBreak := false, gapAt := none }).unlinkPage id
    let s := s.changePage id .aborted cause
    (s.completeOpt c.closeCmd Status.pageState []).freeGens
  | _ => s

/-- End a segment and every later segment of its job, which carries CAUSE 5 (R81). -/
def State.endJob (s : State) : Nat → Nat → Nat → State
  | 0, _, _ => s
  | fuel + 1, id, cause =>
    let next := (s.ctx id).succ
    let s := (s.endSegment id cause).modCtx id (fun c => { c with succ := 0 })
    if next = 0 then s else s.endJob fuel next 5

/-! Chains (R96, R97, R462). -/

/-- Insert a page into the queue behind another, or at its front. -/
def insertBehind (id after : Nat) (q : List Nat) : List Nat :=
  if q.contains after then q.flatMap (fun x => if x = after then [x, id] else [x]) else id :: q

/-- The pages behind a page in the queue. -/
def behindOf (id : Nat) : List Nat → List Nat
  | [] => []
  | x :: rest => if x = id then rest else behindOf id rest

/-- Move the queued pages behind a page (R97). -/
def State.shiftBehind (s : State) (id n : Nat) : State :=
  (behindOf id s.pgq.queue).foldl (fun s b => s.modCtx b (fun y =>
    if y.state = .queued then { y with start := y.start.map (fun x => x + n) } else y)) s

/-- Write SEGMENT_GAP for a successor whose start is fixed (R97, R101); scanning mode writes none. -/
def State.writeGap (s : State) (id : Nat) : State :=
  let c := s.ctx id
  let at_ := c.start.getD 0
  let s := s.setCtx id { c with gapAt := none }
  if s.fir.cfg.scanning then s
  else s.raise 0x0302 id ([id, c.pred, 0, 0] ++ leBytes 4 (at_ - c.nominal) ++ leBytes 6 at_ ++ [0, 0])

/-- The chained successor is not VERIFIED although its page boundary has passed: the windows are formed to `bound` (R97). The job takes
a held break. -/
def State.beginBreak (s : State) (id bound : Nat) : State :=
  let c := s.ctx id
  match s.nominalStart 256 id with
  | some x =>
    if c.pred ≠ 0 ∧ c.inBreak = false ∧ (c.state = .loading ∨ c.state = .staged)
        ∧ (c.predDone = true ∨ (s.ctx c.pred).live = true) ∧ x < bound then
      s.setCtx id { c with inBreak := true, breaks := c.breaks + 1, nominal := x }
    else s
  | none => s

/-- A chained segment enters QUEUED (R96, R97): a late segment takes S′ = V + 64, and the pages behind the job move by
the same amount. SEGMENT_GAP is written once S′ is fixed: at the trigger of V, and at once for a start that only a
change of DEPTH moves (R145). -/
def State.enterQueue (s : State) (id : Nat) : State :=
  let c := s.ctx id
  let plain := ((s.nominalStart 256 c.pred).map (fun x => x + (s.ctx c.pred).span)).getD c.nominal
  let nominal := if c.predDone then c.nominal else (s.nominalStart 256 id).getD c.nominal
  let late := c.inBreak || (s.fir.lastLine.isSome && decide (nominal ≤ s.pressLine + 64))
  let bound := if c.predDone then 0 else ((s.nominalStart 256 c.pred).map (fun x => s.depthBound x (s.ctx c.pred) c)).getD 0
  let v := (s.pressLine / 16 + 1) * 16
  let start := if late then max (v + 64) bound else nominal
  let moved := !late && decide (plain < nominal)
  let s := s.setCtx id { c with start := some start, startKind := .chained, nominal := min plain nominal,
                                breaks := if (late && !c.inBreak) || moved then c.breaks + 1 else c.breaks,
                                inBreak := late || moved, gapAt := if late then some v else none, setTick := s.tick }
  let s := s.modPgq (fun g => { g with queue := insertBehind id c.pred g.queue })
  let s := (s.shiftBehind id (start - nominal)).changePage id .queued 0
  if moved then s.writeGap id else s

/-- Queue a chained segment, and then its successors, once R96 allows it. -/
def State.advanceChain (s : State) : Nat → Nat → State
  | 0, _ => s
  | fuel + 1, id =>
    let c := s.ctx id
    let p := (s.ctx c.pred).state
    if c.state = .verified ∧ c.pred ≠ 0 ∧ (c.predDone = true ∨ p = .queued ∨ p = .printing) then
      let s := s.enterQueue id
      if c.succ = 0 then s else s.advanceChain fuel c.succ
    else s

/-- The junction test of a chained pair (R462): a predecessor whose fire span is over shares no window. -/
def State.chainOk (s : State) (id : Nat) : Bool :=
  let c := s.ctx id
  c.predDone || (let p := s.ctx c.pred
                 let gap := if depthChanges (s.setOf p.gen) (s.setOf c.gen) then (s.setOf p.gen).wMax + 1 else 0
                 s.junctionOk p c gap)

/-- The results of PAGE_CLOSE for OK and OVER_BUDGET (R93). -/
def Ctx.closeResults (c : Ctx) : List Byte :=
  leBytes 4 c.floor ++ leBytes 4 c.cmaxWin ++ leBytes 4 c.cmax ++ leBytes 4 c.pfit

/-- Verification fails (R89): the page ends, its PAGE_CLOSE completes, and the later segments end. -/
def State.failVerify (s : State) (id status cause : Nat) (results : List Byte) : State :=
  let c := s.ctx id
  let s := (s.setCtx id { c with closeCmd := none, waitsPred := false, inBreak := false }).unlinkPage id
  let s := s.changePage id .aborted cause
  let s := s.completeOpt c.closeCmd status results
  let s := s.modCtx id (fun c => { c with succ := 0 })
  (if c.succ = 0 then s else s.endJob 256 c.succ 5).freeGens

/-- A page becomes VERIFIED (R88, R89, R96, R462); the fuel bounds the chain behind it. -/
def State.becomeVerified (s : State) : Nat → Nat → State
  | 0, _ => s
  | fuel + 1, id =>
    let c := s.ctx id
    let s := s.setCtx id { c with closeCmd := none, waitsPred := false }
    let s := s.changePage id .verified 0
    let s := s.completeOpt c.closeCmd Status.ok c.closeResults
    let n := s.ctx c.succ
    let s :=
      if c.succ = 0 then s
      else if n.waitsPred then
        (if s.chainOk c.succ then s.becomeVerified fuel c.succ else s.failVerify c.succ Status.overBudget 6 n.closeResults)
      else if n.state = .verified ∧ s.chainOk c.succ = false then s.endJob 256 c.succ 6
      else s
    s.advanceChain 256 id

/-! Verification (R89). -/

/-- A tile before another in order of plane, strip and tile row. -/
def Tile.before (a b : Tile) : Bool :=
  decide (a.plane < b.plane ∨ (a.plane = b.plane ∧ (a.strip < b.strip ∨ (a.strip = b.strip ∧ a.row ≤ b.row))))

/-- The tile that comes first. -/
def firstTile : List Tile → Option Tile
  | [] => none
  | t :: rest => match firstTile rest with
    | none => some t
    | some u => if Tile.before t u then some t else some u

/-- Reason and offset of a tile under check 3 (R116, R117, R461), 0 when it is valid. -/
def State.tileFault (s : State) (id : Nat) (g : GeoSet) (t : Tile) : Nat × Nat :=
  match s.sourceTile id t with
  | none => (0, 0)
  | some x =>
    if x.reason = Reason.crc ∨ x.reason = Reason.header then (x.reason, x.offset)
    else match g.planeBits t.plane with
      | some b => if b = x.depth then (x.reason, x.offset) else (Reason.depth, 1)
      | none => (x.reason, x.offset)

/-- The first place that STRICT finds empty (check 5), as a tile. -/
def Ctx.missing (c : Ctx) (g : GeoSet) : Option Tile :=
  let places := dedup (g.readers.map (fun r => (r.plane, r.strip)))
  firstTile (places.filterMap (fun x =>
    ((List.range c.rowCount).find? (fun row => (c.tileAt x.1 x.2 row).isNone)).map (fun row =>
      { plane := x.1, strip := x.2, row := row, kind := .blank })))

/-- A check that failed because of a tile: the tile, its reason and offset, and the CAUSE. -/
structure TileFailure where
  tile : Tile
  reason : Nat
  offset : Nat
  cause : Nat

/-- Checks 2 to 5 (R89). -/
def State.tileCheck (s : State) (id : Nat) (g : GeoSet) : Option TileFailure :=
  let c := s.ctx id
  match firstTile (c.tiles.filter (fun t => t.readFail.isSome)) with
  | some t => some { tile := t, reason := Reason.ingest, offset := 0, cause := 7 }
  | none =>
    match firstTile (c.tiles.filter (fun t => (s.tileFault id g t).1 ≠ 0)) with
    | some t => some { tile := t, reason := (s.tileFault id g t).1, offset := (s.tileFault id g t).2, cause := 1 }
    | none =>
      match firstTile (c.tiles.filter (s.notFresh id)) with
      | some t => some { tile := t, reason := Reason.notFresh, offset := 1, cause := 1 }
      | none =>
        if c.strict then (c.missing g).map (fun t => { tile := t, reason := Reason.ingest, offset := 0, cause := 1 }) else none

/-- Check 1 fails (R89, R78): no generation, one no longer held, or one older than a page's in the queue. -/
def State.genStale (s : State) (serial : Nat) : Bool :=
  (s.genOf serial).isNone || s.pgq.ctxs.entries.any (fun e => e.2.live && decide (serial < e.2.gen))

/-- Report a tile failure (R93, R117, R461). -/
def State.failTile (s : State) (id : Nat) (f : TileFailure) : State :=
  let s := s.modDec (fun d => { d with lastReason := f.reason, lastCtx := id, lastStrip := f.tile.strip, lastPlane := f.tile.plane,
                                       lastOffset := min f.offset 65535, lastRow := f.tile.row })
  s.failVerify id Status.tileInvalid f.cause
    (leBytes 4 f.tile.row ++ leBytes 4 (f.tile.strip + 512 * f.tile.plane) ++ leBytes 4 f.reason ++ zeros 4)

/-- Tiles of a page that fail under R117. -/
def State.invalidCount (s : State) (id : Nat) (g : GeoSet) : Nat :=
  ((s.ctx id).tiles.filter (fun t => t.isHost && t.decoded && (s.tileFault id g t).1 ≠ 0)).length

/-- Check 6 (R90, R91): the cost record, P and P_FIT of a page. -/
def State.judgeBudget (s : State) (id : Nat) (g : GeoSet) : Ctx × Bool :=
  let c := s.ctx id
  let ne := s.engines
  let costs := s.dieCosts id g
  let worst := worstWindow (s.windowCost id g) (windowCount c g)
  let p := max c.period g.minPeriod
  let fit := fitPeriod ne worst.2 costs
  let ok := budgetOk ne p worst.2 costs
  let p' := if !ok && c.slowOk && ne ≠ 0 then fit else p
  ({ c with floor := p', cmax := worst.2, cmaxWin := worst.1, pfit := fit, costs := costs, engines := ne }, ok || (c.slowOk && ne ≠ 0))

/-- VERIFICATION_END (R89): the checks run in order, and the invalid tiles join DEC_INVALID_COUNT (R117, log entry 147). -/
def execVerificationEnd (ctx : Fin 256) (s : State) : Host.Outcome State Fault Refusal :=
  let id := ctx.val
  let c := s.ctx id
  if c.state ≠ .staged ∨ c.waitsPred = true ∨ c.tiles.all Tile.settled = false then .next s
  else
    let g := s.setOf c.gen
    let s := s.modDec (fun d => { d with invalid := satAdd 32 d.invalid (s.invalidCount id g) })
    if s.genStale c.gen then .next (s.failVerify id Status.geoMismatch 3 [])
    else match s.tileCheck id g with
      | some f => .next (s.failTile id f)
      | none =>
        let a := s.judgeBudget id g
        let s := s.setCtx id a.1
        if !a.2 then .next (s.failVerify id Status.overBudget 2 a.1.closeResults)
        else if c.pred = 0 then .next (s.becomeVerified 256 id)
        else
          let p := (s.ctx c.pred).state
          if c.predDone = false ∧ (p = .loading ∨ p = .staged) then .next (s.modCtx id (fun x => { x with waitsPred := true }))
          else if s.chainOk id then .next (s.becomeVerified 256 id)
          else .next (s.failVerify id Status.overBudget 6 a.1.closeResults)

/-! The twin's page check (R381). -/

/-- A tile entry as PAGE_DIGEST takes it: a HOST entry's address gives way to the stored CRC. -/
def Tile.digestBytes (t : Tile) : List Byte :=
  match t.kind, t.bytes with
  | .host _ n, some b => (b.drop (n - 4)).take 4 ++ zeros 4 ++ (pad 16 t.entry).drop 8
  | _, _ => pad 16 t.entry

/-- PAGE_DIGEST (R381). -/
def Ctx.digest (c : Ctx) : Nat :=
  let ts := c.tiles.mergeSort Tile.before
  crc32c (ts.flatMap Tile.digestBytes ++ leBytes 4 c.lines ++ leBytes 4 c.period ++ [b2n c.strict + 2 * b2n c.slowOk]
    ++ leBytes 2 (genNumber c.gen))

/-- SET_CRC of the generation a page carries. -/
def State.crcOf (s : State) (serial : Nat) : Nat :=
  match s.genOf serial with
  | some g => g.crc
  | none => 0

/-- The partner is SHADOW and IN_STEP but does not hold the page as R381 asks. -/
def State.partnerLacks (s : State) (id : Nat) : Bool :=
  let c := s.ctx id
  s.paired && bit s.twn.partnerTap 6
    && !s.twn.health.ctxs.contains (id, genNumber c.gen, s.crcOf c.gen, c.digest)

/-! Queueing (R94, R95). -/

/-- Place a page in the queue (R94). -/
def State.queuePage (s : State) (id start : Nat) (kind : StartKind) (behind gap : Nat) : State :=
  let s := s.modCtx id (fun c => { c with start := some start, startKind := kind, behind := behind, gap := gap })
  let s := s.modPgq (fun g => { g with queue := g.queue ++ [id] })
  let s := s.changePage id .queued 0
  let n := (s.ctx id).succ
  if n = 0 then s else s.advanceChain 256 n

/-- PAGE_QUEUE with FOLLOW (R94, R95, R145). -/
def State.queueFollow (s : State) (id gap : Nat) : State × Reply :=
  if s.anyLive = false ∧ s.queueTail = none then
    if s.partnerLacks id then finish s Status.partnerUnhealthy
    else good (s.queuePage id (ceil16 (s.pressLine + 64 + gap)) .follow 0 gap)
  else
    let tail := s.queueTail.getD 0
    let t := s.ctx tail
    if t.state = .loading ∨ t.state = .staged then finish s Status.busy
    else
      let prev := (s.nominalStart 256 tail).getD 0
      let start := s.startAfter prev t (s.ctx id) gap
      if s.junctionOk t (s.ctx id) (start - (prev + t.span)) = false then finish s Status.overBudget
      else if s.partnerLacks id then finish s Status.partnerUnhealthy
      else good (s.queuePage id start .follow tail (start - (prev + t.span)))

/-- The effect of PAGE_QUEUE (R78, R94, R381). -/
def effPageQueue : Effect := fun c s =>
  let p := c.packet
  let id := pktPage p
  let at_ := u8 p 8 == 1
  let x := s.ctx id
  if 1 < u8 p 8 ∨ u32 p 12 % 16 ≠ 0 ∨ u48 p 16 % 16 ≠ 0 ∨ (at_ = true ∧ u32 p 12 ≠ 0) ∨ (at_ = false ∧ u48 p 16 ≠ 0) then refuse s
  else if x.state ≠ .verified ∨ x.pred ≠ 0 then finish s Status.pageState
  else if x.gen < s.geo.active ∨ s.genStale x.gen = true then finish s Status.geoMismatch
  else if at_ then
    if s.anyLive = true ∨ u48 p 16 < s.pressLine + 64 then refuse s
    else if s.partnerLacks id then finish s Status.partnerUnhealthy
    else
      let s := if depthChanges s.activeSet (s.setOf x.gen) then s.layoutRings (s.setOf x.gen) else s
      good (s.queuePage id (u48 p 16) .placed 0 0)
  else s.queueFollow id (u32 p 12)

/-- PAGE_QUEUE (R94, R95). -/
def execPageQueue (r : Fin 4) (s : State) : Host.Outcome State Fault Refusal :=
  .next (startCommand 0x0304 r.val (.ok []) effPageQueue s)

/-- The effect of PAGE_CHAIN (R96, R462). -/
def effPageChain : Effect := fun c s =>
  let p := c.packet
  let id := pktPage p
  let pre := u8 p 8
  let a := s.ctx pre
  let b := s.ctx id
  if pre = 0 then refuse s
  else if s.lastSegment 256 id = pre ∨ a.state.held = false ∨ a.succ ≠ 0
      ∨ s.pgq.ctxs.entries.any (fun e => e.2.live && e.2.behind == pre) = true
      ∨ (b.state ≠ .loading ∧ b.state ≠ .staged ∧ b.state ≠ .verified) ∨ b.pred ≠ 0 then finish s Status.chainInvalid
  else
    let t := (s.modCtx pre (fun x => { x with succ := id })).modCtx id (fun x => { x with pred := pre, predDone := false })
    let ready := a.state == .verified || a.state == .queued || a.state == .printing
    if b.state = .verified ∧ ready = true ∧ t.chainOk id = false then finish s Status.overBudget
    else if s.partnerLacks id then finish s Status.partnerUnhealthy
    else good ((t.advanceChain 256 id).beginBreak id t.mal.formedTo)

/-- PAGE_CHAIN (R96, R462). -/
def execPageChain (r : Fin 4) (s : State) : Host.Outcome State Fault Refusal :=
  .next (startCommand 0x0307 r.val (.ok []) effPageChain s)

/-- The effect of PAGE_ABORT (R98). -/
def effPageAbort : Effect := fun c s =>
  let id := pktPage c.packet
  match (s.ctx id).state with
  | .free => finish s Status.pageState
  | .done => good s
  | .aborted => good s
  | .printing => ((s.endJob 256 id 4).modCtx id (fun x => { x with abortCmds := x.abortCmds ++ [c.id] }), .running)
  | _ => good (s.endJob 256 id 4)

/-- PAGE_ABORT (R98). -/
def execPageAbort (r : Fin 4) (s : State) : Host.Outcome State Fault Refusal :=
  .next (startCommand 0x0305 r.val (.ok []) effPageAbort s)

/-- The results of PAGE_QUERY (R102). -/
def Ctx.queryResults (c : Ctx) : List Byte :=
  [c.state.num, c.cause] ++ leBytes 2 (genNumber c.gen) ++ leBytes 4 c.floor ++ leBytes 4 c.cmax ++ [c.succ, min c.breaks 255]
    ++ leBytes 2 (min c.toPull 65535)

/-- The effect of PAGE_QUERY (R102). -/
def effPageQuery : Effect := fun c s => answer s (s.ctx (pktPage c.packet)).queryResults

/-- PAGE_QUERY (R102). -/
def execPageQuery (r : Fin 4) (s : State) : Host.Outcome State Fault Refusal :=
  .next (startCommand 0x0306 r.val (.ok []) effPageQuery s)

/-! R100. -/

/-- The floor of a page once every floor raised for it is in force (R100). -/
def Ctx.floorToBe (c : Ctx) : Nat := maxNat (c.floor :: c.floorsNext.map (fun x => x.val))

/-- NE has fallen: pages whose floor must rise take it at the next line boundary. -/
def State.engineLost (s : State) : State :=
  let ne := s.engines
  (s.pgq.ctxs.keys).foldl (fun s id =>
    let c := s.ctx id
    let fit := fitPeriod ne c.cmax c.costs
    if c.live ∧ c.floorToBe < fit then
      let s := s.setCtx id { c with floorsNext := c.floorsNext ++ [{ val := fit, tick := s.tick }] }
      (s.modCtx id (fun x => { x with cause := 8 })).pageEvent id c.state
    else s) s

end Sys2Proof.Machine
end

