-- ==== Sys2Proof/Machine/Sine.lean ====
section
/-! DEFINITION. The default sine table of R282: T[i] = round(65,535 × sin((i + 0.5) × π / 512)). -/
namespace Sys2Proof.Machine

/-- Entries 0 to 63 (R282). -/
def sineQuarter0 : List Nat :=
  [201, 603, 1005, 1407, 1809, 2211, 2613, 3015, 3416, 3818, 4219, 4621, 5022, 5422, 5823, 6223,
   6624, 7024, 7423, 7823, 8222, 8620, 9019, 9417, 9815, 10212, 10609, 11006, 11402, 11798, 12193, 12588,
   12982, 13376, 13770, 14163, 14555, 14947, 15338, 15729, 16119, 16508, 16897, 17285, 17673, 18060, 18446, 18831,
   19216, 19600, 19984, 20366, 20748, 21129, 21509, 21889, 22267, 22645, 23022, 23398, 23773, 24147, 24521, 24893]

/-- Entries 64 to 127 (R282). -/
def sineQuarter1 : List Nat :=
  [25265, 25635, 26005, 26374, 26741, 27108, 27473, 27838, 28201, 28564, 28925, 29286, 29645, 30003, 30360, 30716,
   31070, 31424, 31776, 32127, 32477, 32826, 33173, 33519, 33864, 34208, 34550, 34891, 35231, 35569, 35906, 36242,
   36576, 36909, 37241, 37571, 37900, 38227, 38553, 38877, 39200, 39522, 39842, 40161, 40478, 40793, 41107, 41419,
   41730, 42039, 42347, 42653, 42958, 43261, 43562, 43861, 44159, 44456, 44750, 45043, 45334, 45624, 45912, 46198]

/-- Entries 128 to 191 (R282). -/
def sineQuarter2 : List Nat :=
  [46482, 46765, 47046, 47325, 47602, 47877, 48151, 48423, 48693, 48961, 49228, 49492, 49755, 50016, 50274, 50531,
   50787, 51040, 51291, 51540, 51788, 52033, 52277, 52518, 52758, 52995, 53231, 53464, 53696, 53925, 54153, 54378,
   54602, 54823, 55042, 55260, 55475, 55688, 55899, 56108, 56314, 56519, 56721, 56922, 57120, 57316, 57510, 57702,
   57891, 58079, 58264, 58447, 58628, 58806, 58983, 59157, 59329, 59498, 59666, 59831, 59994, 60155, 60313, 60469]

/-- Entries 192 to 255 (R282). -/
def sineQuarter3 : List Nat :=
  [60623, 60775, 60924, 61071, 61216, 61358, 61498, 61636, 61772, 61905, 62035, 62164, 62290, 62414, 62535, 62654,
   62771, 62886, 62998, 63107, 63214, 63319, 63422, 63522, 63620, 63715, 63808, 63898, 63986, 64072, 64155, 64236,
   64315, 64391, 64464, 64535, 64604, 64671, 64734, 64796, 64855, 64911, 64966, 65017, 65066, 65113, 65158, 65199,
   65239, 65276, 65310, 65342, 65372, 65399, 65424, 65446, 65466, 65483, 65498, 65510, 65520, 65527, 65532, 65535]

/-- The default sine table (R282). -/
def sineDefault : List Nat := sineQuarter0 ++ sineQuarter1 ++ sineQuarter2 ++ sineQuarter3

end Sys2Proof.Machine
end

