-- ==== Sys2Proof/Machine/Motion.lean ====
section
/-! DEFINITION. Motion axes (chapter 12): the trajectory of an axis, the planner, the planning-tick work of MOT,
microsteps and PWM, and the MOT commands. -/
namespace Sys2Proof.Machine

/-- The sign of an integer: 1, 0 or −1. -/
def sgn (x : Int) : Int := if 0 < x then 1 else if x < 0 then -1 else 0

/-- Whole square root by bits, from bit `n` down. -/
def sqrtBits (x : Nat) : Nat → Nat → Nat
  | 0, r => r
  | n + 1, r => let q := r + 2 ^ n; sqrtBits x n (if q * q ≤ x then q else r)

/-- The largest whole number whose square is at most `x`. -/
def natSqrt (x : Nat) : Nat := sqrtBits x (Nat.log2 x / 2 + 2) 0

/-- b × √d ≤ c, decided exactly. -/
def surdLe (b d c : Int) : Bool :=
  if b ≤ 0 then decide (0 ≤ c) || decide (c * c ≤ b * b * d)
  else decide (0 ≤ c) && decide (b * b * d ≤ c * c)

/-! The trajectory (R270). -/

/-- p(τ) of R270 in units of 1 / posUnit µstep. -/
def posUnit : Nat := 2 ^ 32 * 6 * 4000 ^ 3

/-- p(τ) of R270, in units of 1 / posUnit µstep. -/
def Axis.posNum (a : Axis) (tau : Int) : Int :=
  a.p * (65536 * 6 * 4000 ^ 3) + a.v * (65536 * 6 * 4000 ^ 2) * tau + a.a * (256 * 3 * 4000) * tau * tau
    + a.j * tau * tau * tau

/-- floor(p(τ)) at a tick, in µsteps (R270, R282, R284). -/
def Axis.stepsAt (a : Axis) (t : Nat) : Int := (a.posNum ((t : Int) - a.planTick)).fdiv posUnit

/-- The state at the next planning tick (R270): (p(4,000), v + a + j/2, a + j), in the formats of R266. -/
def Axis.advance (a : Axis) : Axis :=
  { a with p := roundFree (a.p * 393216 + a.v * 393216 + a.a * 768 + a.j) 393216,
           v := roundFree (a.v * 131072 + a.a * 512 + a.j) 131072,
           a := roundFree (a.a * 256 + a.j) 256 }

/-- The axis is not at rest. -/
def Axis.inMotion (a : Axis) : Bool := a.v ≠ 0 || a.a ≠ 0 || a.goal ≠ .none

/-- A goal that leads away from rest: any but none and a stop. -/
def Goal.leads : Goal → Bool
  | .none => false
  | .stop _ _ => false
  | _ => true

/-- The axis stands still, and nothing moves it: a stop that has just reached it leaves it at rest (R279, R280). -/
def Axis.atRest (a : Axis) : Bool := a.v == 0 && a.a == 0 && !a.goal.leads

/-! Stopping distance (R272). Speeds, accelerations and jerks are taken in units of 2^−32. -/

/-- STOPDIST(v, a) for v ≥ 0 in the direction of motion, under DECEL `d` and JERK `j` (R272), as (α, β, δ, n): it is
(α + β √δ) / n. -/
def stopSurd (v a d j : Int) : Int × Int × Int × Int :=
  let q := a * a - 2 * j * v
  let r2 := 2 * j * v + a * a
  if a < 0 ∧ 0 < q then (3 * a * q - a * a * a, 2 * q, q, 6 * j * j)
  else if r2 ≤ 2 * d * d then (2 * (6 * j * v * a + 2 * a * a * a), 3 * r2, 2 * r2, 12 * j * j)
  else
    let x := if -d ≤ a then a + d else -d - a
    let first := if -d ≤ a then 6 * j * v * x + 3 * a * x * x - x * x * x else 6 * j * v * x + 3 * a * x * x + x * x * x
    let w2 := if -d ≤ a then 2 * j * v + a * a - d * d else 2 * j * v - a * a + d * d
    (4 * d * first + 3 * (w2 * w2 - d * d * d * d) + 4 * d * d * d * d, 0, 0, 24 * j * j * d)

/-- The direction of motion: of the velocity, else of the acceleration. -/
def Axis.dir (a : Axis) : Int := if a.v ≠ 0 then sgn a.v else sgn a.a

/-- STOPDIST of the axis's state (R272). -/
def Axis.stopDist (a : Axis) : Int × Int × Int × Int :=
  stopSurd (a.dir * a.v * 65536) (a.dir * a.a * 256) (a.lim.decel * 256) a.lim.jerk

/-- A distance, in Q48.16, is at least STOPDIST of the axis's state (R272). -/
def Axis.stopsIn (a : Axis) (dist : Int) : Bool :=
  let s := a.stopDist
  decide (0 ≤ dist) && surdLe s.2.1 s.2.2.1 (dist * 65536 * s.2.2.2 - s.1)

/-- A target position is reachable (R272): it lies ahead in the direction of v, or v = 0, at a distance of at least STOPDIST. -/
def Axis.reaches (a : Axis) (target : Int) : Bool :=
  if a.v = 0 ∧ a.a = 0 then true
  else a.stopsIn (if a.v = 0 then ((target - a.p).natAbs : Int) else a.dir * (target - a.p))

/-- Whole µsteps by which the STOPDIST trajectory ends beyond the target (R289). -/
def Axis.beyond (a : Axis) (target : Int) : Int :=
  let s := a.stopDist
  let stop := (s.1 + natSqrt (s.2.1 * s.2.1 * s.2.2.1).toNat).fdiv (max 1 s.2.2.2)
  (stop - a.dir * (target - a.p) * 65536).fdiv 4294967296

/-! The planner (R271). -/

/-- The direction the axis may not move in, on a no-reverse axis (R267, R275); 0: none. -/
def AxisCfg.barred (c : AxisCfg) : Int := if c.noReverse then (if c.negOnly then 1 else -1) else 0

/-- The largest acceleration under R271: ACCEL while |v| rises, DECEL while it falls. In units of 2^−32. -/
def Axis.accMax (a : Axis) : Int := 256 * (if 0 ≤ a.v then a.lim.accel else a.lim.decel)

/-- The least acceleration under R271. -/
def Axis.accMin (a : Axis) : Int := -256 * (if 0 < a.v then (a.lim.decel : Int) else a.lim.accel)

/-- A jerk held to JERK and to what keeps the acceleration within its limits (R271). -/
def Axis.holdJerk (a : Axis) (j : Int) : Int :=
  clampI (max (-(a.lim.jerk : Int)) (a.accMin - a.a * 256)) (min (a.lim.jerk : Int) (a.accMax - a.a * 256)) j

/-- With this jerk over the coming planning tick the axis can still be eased at JERK so that its speed does not pass `w` on the
side `d` from which it comes. -/
def Axis.eases (a : Axis) (d w j : Int) : Bool :=
  let a1 := a.a * 256 + j
  decide (0 ≤ d * (a.lim.jerk * (2 * 65536 * (w - a.v) - 2 * 256 * a.a - j) - a1 * (a1.natAbs : Int)))

/-- With this jerk an acceleration that only DECEL allows can still be eased to ACCEL before the speed changes its sign (R271). -/
def Axis.easesToAccel (a : Axis) (d j : Int) : Bool :=
  let a1 := a.a * 256 + j
  let v2 := 2 * 65536 * a.v + 2 * 256 * a.a + j
  decide (0 ≤ d * a.v) || decide (d * a1 ≤ 256 * a.lim.accel)
    || decide (a1 * a1 - (256 * a.lim.accel) * (256 * a.lim.accel) ≤ a.lim.jerk * -(d * v2))

/-- The jerk of the first planning tick of the shortest-time trajectory to a velocity (R271): away from rest it is JERK towards
it while the speed can still be eased, and JERK against it after that, within the limits of the acceleration; a state outside
them is brought inside at JERK. In the planning tick within which it changes it is free between the two (log entry 71). -/
def Axis.towardVel (a : Axis) (w free : Int) : Int :=
  let jl : Int := a.lim.jerk
  let acc := a.a * 256
  if a.accMax < acc then -(min jl (acc - a.accMax))
  else if acc < a.accMin then min jl (a.accMin - acc)
  else
    let e := jl * (2 * 65536 * (w - a.v)) - acc * (acc.natAbs : Int)
    let d := if e = 0 then -(sgn acc) else sgn e
    let push := a.holdJerk (d * jl)
    let ok (j : Int) : Bool := a.eases d w j && a.easesToAccel d j
    if ok push then push
    else
      let f := a.holdJerk free
      if ok f then f else a.holdJerk (-d * jl)

/-- With this jerk the axis would take a velocity of the sign it may not take somewhere in the coming planning tick (R275): v at its end
has it, or the turning point of v inside it. -/
def Axis.dips (a : Axis) (j : Int) : Bool :=
  let d := -a.cfg.barred
  let v := d * 65536 * a.v
  let acc := d * 256 * a.a
  a.cfg.barred ≠ 0 && (decide (2 * v + 2 * acc + d * j < 0) || (decide (acc < 0) && decide (-acc < d * j) && decide (2 * v * (d * j) < acc * acc)))

/-- The jerk that ends the coming planning tick with v = 0. -/
def Axis.haltJerk (a : Axis) : Int := -2 * (65536 * a.v + 256 * a.a)

/-- The axis with a jerk for the coming planning tick. A no-reverse axis is never planned to a velocity of the sign it may not take
(R275): the jerk that ends the planning tick at rest replaces one that would, and where that one would too the axis rests at once
(log entry 155). -/
def Axis.withJerk (a : Axis) (j : Int) : Axis :=
  if !a.dips j then { a with j := j }
  else if !a.dips a.haltJerk then { a with j := a.haltJerk }
  else { a with v := 0, a := 0, j := 0 }

/-- The operands of the planner (R271). -/
def Axis.planOperands (a : Axis) (kind target vlim : Int) : List Int :=
  [kind, a.p, a.v, a.a, target, vlim, a.lim.accel, a.lim.decel, a.lim.jerk]

/-- The free jerk of a planning tick within which the trajectory changes its jerk (log entry 71). -/
def Axis.freeJerk (a : Axis) (kind target vlim : Int) : Int := Config.planJerk (a.planOperands kind target vlim)

/-- The axis moves in direction `d` or rests, and can stop at a target that lies there (R272). -/
def Axis.canStop (a : Axis) (d target : Int) : Bool := decide (0 ≤ d * a.v) && a.stopsIn (d * (target - a.p))

/-- The jerk towards a target position (R271): towards VLIM while the target then stays reachable, after that along the STOPDIST
trajectory. In the planning tick within which it changes it is free between the two. -/
def Axis.towardPos (a : Axis) (target vlim free : Int) : Int :=
  let d := sgn (target - a.p)
  let stop := a.towardVel 0 free
  let push := a.towardVel (d * vlim) free
  let stays (j : Int) : Bool := ({ a with j := j } : Axis).advance.canStop d target
  if d = 0 then stop
  else if stays push then push
  else
    let f := clampI (min stop push) (max stop push) free
    if stays f then f else stop

/-- The planned end lies within one planning tick's reach. -/
def Axis.nearRest (a : Axis) (target : Int) : Bool :=
  let jl : Int := a.lim.jerk
  let av := (a.v.natAbs : Int)
  let aa := (a.a.natAbs : Int)
  decide ((((target - a.p).natAbs : Nat) : Int) * 65536 ≤ av * 65536 + aa * 256 + jl)
    && decide (av * 65536 ≤ aa * 256 + jl) && decide (aa * 256 ≤ jl)

/-- Plan towards a target position (R271). The trajectory ends when it meets the target at rest. -/
def Axis.planPosition (a : Axis) (target vlim : Int) : Axis :=
  let b := a.withJerk (a.towardPos target vlim (a.freeJerk 0 target vlim))
  { b with ends := a.nearRest target && (decide ((target - a.p) * (target - b.advance.p) ≤ 0)
      || (a.cfg.barred ≠ 0 && sgn (target - a.p) == a.cfg.barred) || Config.planEnds (a.planOperands 0 target vlim)) }

/-- The jerk towards a target velocity held to VLIM (R271, R276). -/
def Axis.velJerk (a : Axis) (w vlim free : Int) : Int :=
  let aim := clampI (-vlim) vlim w
  if a.v = aim ∧ a.a = 0 then 0 else a.towardVel aim free

/-- The trajectory meets a target velocity at acceleration 0 within the coming planning tick, of which `b` is the plan (R271). -/
def Axis.meetsVel (a b : Axis) (w : Int) (free : Bool) : Bool :=
  let jl : Int := a.lim.jerk
  decide ((a.a.natAbs : Int) * 256 ≤ jl) && decide (((w - a.v).natAbs : Int) * 65536 ≤ (a.a.natAbs : Int) * 256 + jl)
    && (decide ((w - a.v) * (w - b.advance.v) ≤ 0) || free)

/-- Plan towards a target velocity, held to VLIM (R271, R276). -/
def Axis.planVelocity (a : Axis) (w vlim : Int) : Axis :=
  let aim := clampI (-vlim) vlim w
  if a.v = aim ∧ a.a = 0 then { a with j := 0, ends := false }
  else
    let b := a.withJerk (a.velJerk w vlim (a.freeJerk 1 w vlim))
    { b with ends := aim == w && a.meetsVel b w (Config.planEnds (a.planOperands 1 w vlim)) }

/-- Plan a quick stop at QSTOP without jerk limit (R269, R270, R280): the acceleration reaches QSTOP at the end of the coming planning
tick, is eased in the last but one, and the last ends at rest, so that neither QSTOP nor the sign of v is passed (log entry 155). -/
def Axis.planQuick (a : Axis) : Axis :=
  let d := sgn a.v
  let q : Int := a.lim.qStop * 256
  let u := d * (2 * 65536 * a.v + 256 * a.a) -- 2 v + a along the motion
  if u ≤ q then { (a.withJerk a.haltJerk) with ends := true }
  else { a with j := -(d * (if 2 * q ≤ u then q else u / 2)) - 256 * a.a, ends := false }

/-- Plan a stop: quick, or along the STOPDIST trajectory (R272, R280). It ends where the trajectory meets rest; a no-reverse axis rests
where its speed has come to 0 (R275). -/
def Axis.planStop (a : Axis) (quick : Bool) : Axis :=
  if quick then a.planQuick
  else
    let vlim := a.lim.vMax
    let b := a.withJerk (a.towardVel 0 (a.freeJerk 2 0 vlim))
    { b with ends := a.meetsVel b 0 (Config.planEnds (a.planOperands 2 0 vlim)) || (a.cfg.barred ≠ 0 && b.advance.v == 0) }

/-! Profiles (R277, R278). -/

/-- A segment with its start and end in absolute position: (p0, v0, p1, v1, DUR). -/
structure HermiteSeg where
  p0 : Int
  v0 : Int
  p1 : Int
  v1 : Int
  dur : Nat
deriving DecidableEq, Repr

/-- Segment `k` of a profile that started from (`base`, `vel`) (R278). -/
def hermiteSeg (segs : List Seg) (base vel : Int) (k : Nat) : Option HermiteSeg :=
  match segs[k]? with
  | none => none
  | some g =>
    let start := match k with
      | 0 => (base, vel)
      | n + 1 => match segs[n]? with
        | some q => (base + q.endPos, q.endVel)
        | none => (base, vel)
    some ⟨start.1, start.2, base + g.endPos, g.endVel, max 1 g.dur⟩

/-- The curve at profile time `n` (16.16) of the segment (R278). -/
def HermiteSeg.pos (h : HermiteSeg) (n : Nat) : Int :=
  let m : Nat := h.dur * 65536
  let x : Int := n
  let y : Int := m
  roundFree ((2 * x * x * x - 3 * x * x * y + y * y * y) * h.p0 + (x * x * x - 2 * x * x * y + x * y * y) * h.dur * h.v0
    + (-2 * x * x * x + 3 * x * x * y) * h.p1 + (x * x * x - x * x * y) * h.dur * h.v1) (m * m * m)

/-- The curve's speed at profile time `n`, as a numerator over HermiteSeg.velDen, in Q16.16 units. -/
def HermiteSeg.velNum (h : HermiteSeg) (n : Nat) : Int :=
  let x : Int := n
  let y : Int := h.dur * 65536
  6 * (x * x - x * y) * (h.p0 - h.p1)
    + h.dur * ((3 * x * x - 4 * x * y + y * y) * h.v0 + (3 * x * x - 2 * x * y) * h.v1)

/-- The denominator of HermiteSeg.velNum. -/
def HermiteSeg.velDen (h : HermiteSeg) : Nat := h.dur * 65536 * (h.dur * 65536) * h.dur

/-- Profile time at which the curve's speed is extreme, when it lies between `n` and `m`. -/
def HermiteSeg.velTurn (h : HermiteSeg) (n m : Nat) : List Nat :=
  let den := 12 * (h.p0 - h.p1) + 6 * h.dur * (h.v0 + h.v1)
  if den = 0 then []
  else
    let t := ((h.dur * 65536 : Int) * (6 * (h.p0 - h.p1) + h.dur * (4 * h.v0 + 2 * h.v1))).fdiv den
    if (n : Int) ≤ t ∧ t ≤ m then [t.toNat] else []

/-- The axis's state on a segment at profile time `n`, with profile time running at κ (R278). -/
def Axis.onCurve (a : Axis) (h : HermiteSeg) (n : Nat) (kappa : Nat) : Axis :=
  let k : Int := kappa
  let y : Int := h.dur * 65536
  let d : Int := h.dur
  let acc := 6 * (2 * (n : Int) - y) * (h.p0 - h.p1) + d * ((6 * n - 4 * y) * h.v0 + (6 * n - 2 * y) * h.v1)
  let jrk := 12 * (h.p0 - h.p1) + 6 * d * (h.v0 + h.v1)
  { a with p := h.pos n,
           v := roundFree (h.velNum n * k) (h.velDen * 65536),
           a := roundFree (acc * k * k * 256) (h.dur * 65536 * h.dur * h.dur * 4294967296),
           j := roundFree (jrk * k * k * k) (h.dur * h.dur * h.dur * 4294967296) }

/-- κ over the coming planning tick (R278), 16.16: the largest speed of the profile over it is held to VLIM. -/
def profileKappa (h : HermiteSeg) (next : Option HermiteSeg) (n : Nat) (vlim : Int) : Nat :=
  let m := h.dur * 65536
  let upTo := min (n + 65536) m
  let here := ([n, upTo] ++ h.velTurn n upTo).map (fun t => ((h.velNum t).natAbs, h.velDen))
  let after := match next with
    | some g =>
      if m < n + 65536 then
        ([0, n + 65536 - m] ++ g.velTurn 0 (n + 65536 - m)).map (fun t => ((g.velNum t).natAbs, g.velDen))
      else []
    | none => []
  (here ++ after).foldl (fun k w =>
    if vlim * w.2 < w.1 then min k (roundFree (vlim * w.2 * 65536) w.1).toNat else k) 65536

/-- A turning point of the cubic (R278), that of the root with sign `s`, lies inside the segment and passes `x`. -/
def HermiteSeg.turnBeyond (h : HermiteSeg) (s : Int) (up : Bool) (x : Int) : Bool :=
  let c0 := h.p0
  let c1 := h.dur * h.v0
  let c2 := 3 * (h.p1 - h.p0) - 2 * h.dur * h.v0 - h.dur * h.v1
  let c3 := 2 * (h.p0 - h.p1) + h.dur * (h.v0 + h.v1)
  let dl := c2 * c2 - 3 * c1 * c3
  if c3 = 0 then
    if c2 = 0 ∨ sgn c2 * (-c1) ≤ 0 ∨ 2 * sgn c2 * c2 ≤ sgn c2 * (-c1) then false
    else
      let num := sgn c2 * (4 * c0 * c2 - c1 * c1)
      let lim := sgn c2 * 4 * c2 * x
      if up then decide (lim < num) else decide (num < lim)
  else if dl ≤ 0 then false
  else
    let g := sgn c3
    -- root = (−c2 + s√dl) / (3 c3), inside (0, 1)
    let above0 := !surdLe (g * s) dl (g * c2)
    let below1 := !surdLe (-(g * s)) dl (-(g * (c2 + 3 * c3)))
    -- 27 c3² p = 27 c3² c0 − 9 c1 c2 c3 + 2 c2³ − 2 s dl √dl
    let base := 27 * c3 * c3 * (c0 - x) - 9 * c1 * c2 * c3 + 2 * c2 * c2 * c2
    let beyond := if up then !surdLe (-(2 * s * dl)) dl (-base) else !surdLe (2 * s * dl) dl base
    above0 && below1 && beyond

/-- Some point of the curve lies above (or below) `x` (R278). -/
def HermiteSeg.beyond (h : HermiteSeg) (up : Bool) (x : Int) : Bool :=
  (if up then decide (x < h.p0) || decide (x < h.p1) else decide (h.p0 < x) || decide (h.p1 < x))
    || h.turnBeyond 1 up x || h.turnBeyond (-1) up x

/-- The curve runs in direction `d` somewhere (R278). -/
def HermiteSeg.runs (h : HermiteSeg) (d : Int) : Bool :=
  let c1 := h.dur * h.v0
  let c2 := 3 * (h.p1 - h.p0) - 2 * h.dur * h.v0 - h.dur * h.v1
  let c3 := 2 * (h.p0 - h.p1) + h.dur * (h.v0 + h.v1)
  let g := sgn c3
  decide (0 < d * c1) || decide (0 < d * (c1 + 2 * c2 + 3 * c3))
    || (c3 ≠ 0 && decide (0 < g * (-c2)) && decide (g * (-c2) < 3 * g * c3)
        && decide (0 < d * g * (3 * c1 * c3 - c2 * c2)))

/-- The segments of every repetition that can be extreme: the first, the second and the last (R278). -/
def profileCurves (segs : List Seg) (base : Int) (reps : Nat) : List HermiteSeg :=
  let last := (segs.getLast?).getD ⟨1, 0, 0⟩
  let rep (r : Nat) : List HermiteSeg :=
    (List.range segs.length).filterMap (hermiteSeg segs (base + r * last.endPos) (if r = 0 then 0 else last.endVel))
  rep 0 ++ (if 0 < reps then rep 1 ++ rep reps else [])

/-! The speed ceiling (R163, R276). -/

/-- The axis that FIR paces from (R151): of source 0 or 1, once PACE_CONFIG was accepted. -/
def State.pacingAxis (s : State) : Option Nat :=
  if s.fir.cfgDone && decide (s.fir.cfg.source < 2) then some s.fir.cfg.source else none

/-- R_EFF = R_NOM × (1 + TRIM) (R153), in units of 2^−63 count. -/
def State.rEff (s : State) : Int := s.fir.cfg.rNom * (2147483648 + s.fir.trim)

/-- P_MAX of R163. -/
def State.pMax (s : State) : Nat :=
  let floors := (s.pgq.ctxs.entries.filter (fun e => e.2.live)).map (fun e => e.2.floor)
  maxNat (s.fir.cfg.pressFloor :: (if s.geo.active = 0 then 0 else s.activeSet.minPeriod) :: floors)

/-- CEIL (R163), 16.16, rounded down; all ones: none. -/
def State.ceiling (s : State) : Nat :=
  let den := (s.pMax : Int) * s.rEff
  if s.fir.cfgDone = false ∨ den ≤ 0 then 0xFFFFFFFF
  else min 0xFFFFFFFF ((96000 * s.fir.cfg.pitch * 2 ^ 47 : Int).fdiv den).toNat

/-- VLIM of an axis (R271, R276): the CEIL that was current before this planning tick (R25). -/
def State.vLim (s : State) (x : Nat) : Int :=
  if s.pacingAxis = some x then min (s.axis x).lim.vMax s.fir.ceil else (s.axis x).lim.vMax

/-! Moves and their ends. -/

/-- The results of MOT_MOVE (R279). -/
def Axis.moveResults (a : Axis) (end_ : Nat) : List Byte :=
  leInt 8 a.p ++ leInt 4 a.v ++ [end_, b2n a.overshoot, 0, 0]

/-- The present move of axis `x` completes (R279, R280); nothing when it has completed before. -/
def State.endMove (s : State) (x status end_ : Nat) : State :=
  let a := s.axis x
  let s := s.setAxis x { a with moveCmd := none, move := 0 }
  s.completeOpt a.moveCmd status (if status = Status.ok then a.moveResults end_ else [])

/-- Complete the MOT_STOPs of an axis that has come to rest, where no other axis holds them up (R280). -/
def State.endStops (s : State) (x : Nat) : State :=
  let ids := (s.axis x).stopCmds
  let s := s.modAxis x (fun a => { a with stopCmds := [] })
  s.completeAll ((ids.filter (fun id => !s.mot.axes.entries.any (fun e => e.2.stopCmds.contains id))).map
    (fun id => (id, Status.ok, leInt 8 (s.axis x).p ++ zeros 8)))

/-- The axis comes to rest under a stop goal: a goal that ends here ends its move (R269, R274, R275, R280, R288). -/
def State.restAxis (s : State) (x : Nat) (release : Bool) : State :=
  let a := s.axis x
  let st := if a.state = .fault then .fault else if a.cfg.enable = false then .disabled
    else if release ∨ a.state = .released then AxisState.released else .rest
  let s := s.setAxis x { a with v := 0, a := 0, j := 0, ends := false, goal := .none, state := st, retarget := none,
                                behind := false, limitStop := false }
  let s := s.endStops x
  match a.retarget with
  | some t => s.modAxis x (fun b => { b with goal := .position t, state := .moving })
  | none =>
    if a.limitStop then s.endMove x Status.limitHit 0
    else if a.behind then s.endMove x Status.targetBehind 0
    else if a.state = .fault then s.endMove x Status.denied 0
    else s.modAxis x (fun b => if b.moveCmd.isNone then { b with move := 0 } else b)

/-- A VELOCITY move of VEL = 0 has reached rest, which it holds until it is replaced (R279). -/
def State.holdRest (s : State) (x : Nat) : State := (s.restAxis x false).modAxis x (fun a => { a with velHold := true, move := 2 })

/-- The end of the profile's last repetition (R278, R279). -/
def State.endProfile (s : State) (x : Nat) : State :=
  let s := s.endMove x Status.ok 0
  if (s.axis x).v = 0 then s.restAxis x false
  else s.modAxis x (fun a => { a with goal := .stop false false, state := .stopping })

/-- Profile time advances over the planning tick that ends (R278): the axis's new state, and whether the last repetition
has ended. -/
def Axis.profileTick (a : Axis) (idx reps : Nat) : Axis × Bool :=
  let segs := a.profiles.get [] idx
  match hermiteSeg segs a.profP0 a.profV0 a.profSeg with
  | none => (a, true)
  | some h =>
    let n := a.profTime.toNat + a.kappa
    let m := h.dur * 65536
    let go (b : Axis) : Axis × Bool :=
      match hermiteSeg segs b.profP0 b.profV0 b.profSeg with
      | some g => ({ (b.onCurve g (n - m) 65536) with profTime := ((n - m : Nat) : Int) }, false)
      | none => (b, true)
    let last := (segs.getLast?).getD ⟨1, 0, 0⟩
    if n < m then ({ (a.onCurve h n 65536) with profTime := n }, false)
    else if a.profSeg + 1 < segs.length then go { a with profSeg := a.profSeg + 1 }
    else if 0 < reps then
      go { a with profSeg := 0, profP0 := a.profP0 + last.endPos, profV0 := last.endVel,
                  goal := .profile idx (if reps = 255 then 255 else reps - 1) }
    else
      let b := a.onCurve h m a.kappa
      ({ b with p := h.p1, v := roundFree (h.v1 * a.kappa) 65536 }, true)

/-- The segment that follows the present one, over repetitions (R278). -/
def Axis.nextSeg (a : Axis) (idx reps : Nat) : Option HermiteSeg :=
  let segs := a.profiles.get [] idx
  let last := (segs.getLast?).getD ⟨1, 0, 0⟩
  if a.profSeg + 1 < segs.length then hermiteSeg segs a.profP0 a.profV0 (a.profSeg + 1)
  else if 0 < reps then hermiteSeg segs (a.profP0 + last.endPos) last.endVel 0 else none

/-- The jerk that takes the axis to a position at the end of the coming planning tick (R270). -/
def Axis.jerkTo (a : Axis) (p : Int) : Int := (p - a.p) * 393216 - a.v * 393216 - a.a * 768

/-- The plan of a running profile for the coming planning tick (R278). Within a segment it is the curve; a planning tick in which the
profile passes into another segment, or ends, takes the position to where the profile then stands (log entry 156). -/
def Axis.planProfile (a : Axis) (idx reps : Nat) (vlim : Int) : Axis :=
  match hermiteSeg (a.profiles.get [] idx) a.profP0 a.profV0 a.profSeg with
  | none => { a with j := 0 }
  | some h =>
    let k := profileKappa h (a.nextSeg idx reps) a.profTime.toNat vlim
    let b : Axis := { (a.onCurve h a.profTime.toNat k) with kappa := k }
    if a.profTime.toNat + k ≤ h.dur * 65536 then b else { b with j := b.jerkTo (b.profileTick idx reps).1.p }

/-- One planning tick of the present plan, without change of goal (R270, R271): used for the plan's own future. -/
def Axis.nextTick (a : Axis) (vlim : Int) : Axis :=
  let rest (b : Axis) : Axis := { b with v := 0, a := 0, j := 0, ends := false, goal := .none }
  let b := match a.goal with
    | .none => a
    | .profile idx reps => let r := a.profileTick idx reps; if r.2 then { r.1 with goal := .stop false false } else r.1
    | .position t => if a.ends then rest { a with p := t } else a.advance
    | .velocity w => if a.ends then { a.advance with v := w, a := 0, ends := false } else a.advance
    | .stop _ _ => if a.ends then rest a.advance else a.advance
  let b := { b with planTick := a.planTick + 4000 }
  match b.goal with
  | .none => { b with j := 0 }
  | .profile idx reps => b.planProfile idx reps vlim
  | .position t => b.planPosition t vlim
  | .velocity w => b.planVelocity w vlim
  | .stop quick _ => if b.v = 0 ∧ b.a = 0 then rest b else b.planStop quick

/-- The axis after some more planning ticks of its plan. -/
def Axis.ahead (vlim : Int) : Nat → Axis → Axis
  | 0, a => a
  | n + 1, a => Axis.ahead vlim n (a.nextTick vlim)

/-- The planned position at a tick (R151), in units of 1 / posUnit µstep. -/
def Axis.plannedPos (a : Axis) (vlim : Int) (t : Nat) : Int :=
  let b := a.ahead vlim ((t - a.planTick) / 4000)
  b.posNum ((t : Int) - b.planTick)

/-- Profile time advances over the planning tick that ends (R278). -/
def State.advanceProfile (s : State) (x idx reps : Nat) : State :=
  let r := (s.axis x).profileTick idx reps
  let s := s.setAxis x r.1
  if r.2 then s.endProfile x else s

/-- The axis moves to the state of this planning tick, and what arrives ends (R270, R271, R279). -/
def State.advanceAxis (s : State) (x : Nat) : State :=
  let a := s.axis x
  match a.goal with
  | .none => s
  | .profile idx reps => s.advanceProfile x idx reps
  | .position t =>
    if !a.ends then s.setAxis x a.advance
    else
      let s := s.setAxis x { a with p := t, v := 0, a := 0, j := 0, ends := false, goal := .none, limitStop := false,
                                    state := .rest }
      (s.endMove x (if a.limitStop then Status.limitHit else Status.ok) 0).endStops x
  | .velocity w =>
    if !a.ends then s.setAxis x a.advance
    else
      let b := a.advance
      let s := s.setAxis x { b with v := w, a := 0, ends := false }
      let s := s.completeOpt a.moveCmd Status.ok ((s.axis x).moveResults 0)
      let s := s.modAxis x (fun c => { c with moveCmd := none })
      if w = 0 then s.holdRest x else s
  | .stop _ release =>
    if !a.ends then s.setAxis x a.advance else (s.setAxis x a.advance).restAxis x release

/-! Changes that take effect at a planning tick (R25, R273). -/

/-- A new configuration takes effect (R267). An axis that is disabled holds no VELOCITY move any longer (R279). -/
def Axis.configure (a : Axis) (c : AxisCfg) : Axis :=
  { a with cfg := c, velHold := a.velHold && c.enable, move := if a.velHold && !c.enable then 0 else a.move,
           aligned := if c.fb ∧ c.fbEnc = a.cfg.fbEnc then a.aligned else false,
           overErr := 0, busLow := a.busLow && a.state == .fault,
           state := if a.state = .fault then .fault else if !c.enable then .disabled else if a.state = .disabled then .rest else a.state,
           sine := a.sine }

/-- Configuration, limits and sine table take effect at planning tick `p` (R267, R268, R282). -/
def Axis.takeChanges (a : Axis) (p : Nat) : Axis :=
  let a := match stagedDue a.cfgNext p with
    | some c => { a.configure c with cfgNext := none }
    | none => a
  let a := match stagedDue a.limNext p with
    | some l => { a with lim := l, limNext := none }
    | none => a
  match stagedDue a.sineNext p with
  | some t => { a with sine := t, sineNext := none }
  | none => a

/-- A VELOCITY move runs (R279, R320). -/
def Axis.onVelocity (a : Axis) : Bool :=
  match a.goal with
  | .velocity _ => true
  | .none => a.velHold && a.state ≠ .fault
  | _ => false

/-- A loop's output replaces VEL of the VELOCITY move (R320). -/
def Axis.takeVel (a : Axis) (g : Goal) : Axis :=
  if a.onVelocity = false ∨ (a.velHold = true ∧ g = .velocity 0) then a
  else { a with goal := g, velHold := false, state := .moving }

/-- A goal takes effect (R273): the move before it ends with END 1, or 2 for a stop. A MOT_STOP whose axis stands still when
a later move of the same planning tick takes effect is complete (R280). The quick stop of an axis in FAULT goes on, and
its move ends with DENIED (R288); a released axis stays released until a MOT_MOVE (R280). -/
def State.takeGoal (s : State) (x : Nat) (g : NewGoal) : State :=
  match g.goal with
  | .stop quick release =>
    if (s.axis x).state = .fault ∧ (s.axis x).goal ≠ .none then s
    else
      let s := s.endMove x Status.ok 2
      s.modAxis x (fun a => { a with goal := .stop quick release, velHold := false, retarget := none, behind := false, limitStop := false,
                                     state := if a.state = .fault ∨ a.state = .released then a.state else .stopping })
  | _ =>
    if g.kind = 5 then s.modAxis x (fun a => a.takeVel g.goal)
    else if (s.axis x).state = .fault then s.completeOpt g.cmd Status.denied []
    else if g.kind = 4 ∧ (s.axis x).atRest = false then s.completeOpt g.cmd Status.busy []
    else
      let s := s.endMove x Status.ok 1
      match g.set with
      | some p =>
        let s := s.modAxis x (fun a => { a with p := p, sent := p.fdiv 65536, move := 0, overshoot := false, velHold := false,
                                                state := if a.state = .released then .rest else a.state })
        s.completeOpt g.cmd Status.ok ((s.axis x).moveResults 0)
      | none =>
        let s := if (s.axis x).atRest then s.endStops x else s
        s.modAxis x (fun a =>
          { a with goal := g.goal, velHold := false, move := g.kind, moveCmd := g.cmd, overshoot := false, behind := false, retarget := none,
                   limitStop := false, state := .moving, profTime := 0, profSeg := 0, profP0 := a.p, profV0 := 0,
                   kappa := 65536 })

/-- What a new position goal or new limits mean for the plan (R274, R275): an unreachable target is approached by way of
a stop, or ends the move on a no-reverse axis. -/
def State.checkReach (s : State) (x : Nat) : State :=
  let a := s.axis x
  match a.goal with
  | .position t =>
    let off := sgn (t - a.p)
    if a.cfg.barred ≠ 0 ∧ a.v = 0 ∧ a.a = 0 ∧ off = a.cfg.barred then
      (s.modAxis x (fun b => { b with goal := .none, state := .rest })).endMove x Status.targetBehind 0
    else if a.reaches t then s
    else if a.cfg.barred ≠ 0 then s.modAxis x (fun b => { b with goal := .stop false false, behind := true })
    else
      let s := if 0 < a.dir * (t - a.p) then
          (s.modAxis x (fun b => { b with overshoot := true })).raise 0x0901 x
            (leInt 8 t ++ leInt 4 (a.beyond t) ++ zeros 4)
        else s
      s.modAxis x (fun b => { b with goal := .stop false false, retarget := some t })
  | _ => s

/-! Limits and faults. -/

/-- DEBOUNCE and INVERT of a switch input in force (ENC_SW_CTL: from the tick after a write). -/
def State.switchCtl (s : State) (w : Nat) : Nat × Bool :=
  (stagedDue (s.switchIn w).ctlNext s.tick).getD ((s.switchIn w).debounce, (s.switchIn w).invert)

/-- The debounced level of a switch input (R306). -/
def State.switchLevel (s : State) (w : Nat) : Bool := (s.switchIn w).level != (s.switchCtl w).2

/-- A hard-limit input of an axis is active (R268, R269). -/
def State.limitActive (s : State) (x : Nat) (positive : Bool) : Bool :=
  let l := (s.axis x).lim
  let w := if positive then l.limPos else l.limNeg
  w ≠ 0xFF && s.switchLevel w == (if positive then l.posHigh else l.negHigh)

/-- AXIS_FAULT (R288, R289). -/
def State.axisFault (s : State) (x cause : Nat) (err : Int) : State :=
  let a := s.axis x
  s.raise 0x0902 x ([cause, 0, 0, 0] ++ leInt 4 (if cause = 3 then satSigned 32 err else 0) ++ leInt 8 a.p)

/-- The direction a goal moves the axis in. -/
def Axis.heading (a : Axis) : Int :=
  if a.v ≠ 0 then sgn a.v
  else match a.goal with
    | .position t => sgn (t - a.p)
    | .velocity w => sgn w
    | .profile idx reps => sgn (((a.planProfile idx reps a.lim.vMax).profileTick idx reps).1.p - a.p)
    | _ => sgn a.a

/-- An active hard limit brings the motion towards it to a quick stop (R269). Answers the cause, 0: none. -/
def State.limitCause (s : State) (x : Nat) : Nat :=
  let a := s.axis x
  let dir := a.heading
  let moving := a.goal ≠ .none && !(match a.goal with | .stop true _ => true | _ => false)
  if moving && decide (dir < 0) && (a.limNegSeen || s.limitActive x false) then 1
  else if moving && decide (0 < dir) && (a.limPosSeen || s.limitActive x true) then 2
  else 0

/-- The change of a channel's count since an earlier one, taken as a signed difference on a WRAP channel (R296). -/
def Chan.movedFrom (c : Chan) (before : Int) : Int :=
  if c.cfg.wrap then toSigned 32 (toBits 32 (c.count - before)) else c.count - before

/-- ERR of R288 over 2^40, from the sum of the encoder's changes of count. -/
def Axis.errNum (a : Axis) (moved : Int) : Int := moved * 2 ^ 40 - (a.p - a.pRef) * a.cfg.cps

/-- The following check at a planning tick (R288): alignment, ERR and the run of excesses. -/
def Axis.follow (a : Axis) (c : Chan) : Axis :=
  if !a.cfg.fb || !a.cfg.enable || c.fault then { a with aligned := false, ferr := 0, overErr := 0 }
  else if !a.aligned then
    if c.posValid then
      { a with aligned := true, eRef := c.count, ePrev := c.count, eSum := 0, pRef := a.p, ferr := 0, overErr := 0 }
    else a
  else
    let moved := a.eSum + c.movedFrom a.ePrev
    let e := a.errNum moved
    { a with eSum := moved, ePrev := c.count, ferr := e.fdiv (2 ^ 40), overErr := if a.cfg.maxErr * 2 ^ 40 < e.natAbs then a.overErr + 1 else 0 }

/-- An axis enters FAULT or stops on a hard limit (R269, R285, R288): one record with the lowest cause. The outputs of one that is in
FAULT already go low when its supply falls (R285). -/
def State.faultAxis (s : State) (x : Nat) : State :=
  let s := s.modAxis x (fun a => a.follow (s.seenChan a.cfg.fbEnc))
  let a := s.axis x
  let lc := s.limitCause x
  let healthy := a.cfg.enable && a.state ≠ .fault
  let follow := healthy && decide (2 ≤ a.overErr)
  let low := a.cfg.enable && decide ((s.adcIn a.cfg.busIn).value < 1000)
  let under := healthy && low
  let s := if low && a.state == .fault then s.modAxis x (fun b => { b with busLow := true }) else s
  let cause := if lc ≠ 0 then lc else if follow then 3 else if under then 4 else 0
  if cause = 0 then s
  else
    let s := s.axisFault x cause a.ferr
    let rest := a.goal = .none
    let s := s.modAxis x (fun b =>
      if follow || under then
        { b with state := .fault, velHold := false, move := if rest then 0 else b.move,
                 goal := if rest then .none else .stop true false, retarget := none, behind := false,
                 limitStop := decide (lc ≠ 0), busLow := b.busLow || under }
      else { b with state := .stopping, goal := .stop true false, retarget := none, behind := false, limitStop := true })
    s

/-! The plan. -/

/-- A velocity goal stops on a soft limit (R279): the goal becomes the limit when the planned step would put it out of
reach. -/
def Axis.softStop (a : Axis) (w vlim : Int) : Axis :=
  let b := a.planVelocity w vlim
  let n := b.advance
  let d := if n.v ≠ 0 then sgn n.v else sgn w
  let bound := if 0 < d then a.lim.maxPos else a.lim.minPos
  let left := d * (bound - n.p)
  if d = 0 ∨ (0 ≤ left ∧ n.reaches bound = true) then b
  else
    let c := { a with goal := .position bound, limitStop := true }
    if d * (bound - a.p) < 0 then { c with goal := .stop false false } else c

/-- Choose the coming planning tick's jerk (R270, R271, R278). -/
def State.planJerk (s : State) (x : Nat) : State :=
  let vlim := s.vLim x
  let a := s.axis x
  let a := match a.goal with
    | .velocity w => a.softStop w vlim
    | _ => a
  match a.goal with
  | .none => s.setAxis x { a with j := 0, ends := false, v := 0, a := 0 }
  | .position t =>
    if a.p = t ∧ a.v = 0 ∧ a.a = 0 then
      let s := s.setAxis x { a with j := 0, ends := false, goal := .none, state := .rest, limitStop := false }
      (s.endMove x (if a.limitStop then Status.limitHit else Status.ok) 0).endStops x
    else s.setAxis x (a.planPosition t vlim)
  | .velocity w =>
    if a.v = w ∧ a.a = 0 then
      let s := s.completeOpt a.moveCmd Status.ok (a.moveResults 0)
      let s := s.setAxis x { a with moveCmd := none }
      if w = 0 then s.holdRest x else s
    else s.setAxis x a
  | .stop quick release =>
    if a.v = 0 ∧ a.a = 0 then (s.setAxis x a).restAxis x release else s.setAxis x (a.planStop quick)
  | .profile idx reps =>
    s.setAxis x (a.planProfile idx reps vlim)

/-- The ceiling limits the plan of the pacing axis (R276): under VMAX alone, with the same free jerk, the plan would differ. -/
def State.ceilLimits (s : State) (x : Nat) : Bool :=
  let a := s.axis x
  let vlim := s.vLim x
  if vlim = a.lim.vMax then false
  else match a.goal with
    | .position t => (a.withJerk (a.towardPos t a.lim.vMax (a.freeJerk 0 t vlim))).j ≠ a.j
    | .velocity w => (a.withJerk (a.velJerk w a.lim.vMax (a.freeJerk 1 w vlim))).j ≠ a.j
    | .profile idx reps => a.kappa < (a.planProfile idx reps a.lim.vMax).kappa
    | _ => false

/-- CAPPED and SPEED_CAPPED (R163, R276). -/
def State.capAxis (s : State) (x : Nat) : State :=
  let was := (s.axis x).capped
  let now := decide (s.pacingAxis = some x) && s.ceilLimits x
  let s := s.modAxis x (fun a => { a with capped := now })
  if s.pacingAxis ≠ some x then s
  else
    let s := s.modFir (fun f => { f with capped := now })
    if now && !was then s.raise 0x0503 x (leBytes 4 s.fir.ceil ++ leBytes 4 s.pMax ++ zeros 8) else s

/-- The row of R283 for a speed, one row from the present one at most. -/
def Axis.wantRes (a : Axis) : Nat :=
  let sp := (a.v.natAbs : Int)
  if a.res < 4 ∧ a.cfg.resV.getD a.res 0 < sp then a.res + 1
  else if 0 < a.res ∧ sp * 256 < a.cfg.resV.getD (a.res - 1) 0 * (256 - a.cfg.resHyst) then a.res - 1
  else a.res

/-- Microstep resolution at a planning tick (R283): decided, or taken at rest. -/
def Axis.planRes (a : Axis) (x : Nat) : Axis :=
  if 2 ≤ x then a
  else
    let rest := a.goal = .none
    let a := match a.resNext with
      | some r => if rest then { a with res := r, resNext := none } else a
      | none => a
    let w := a.wantRes
    if w = a.res then { a with resNext := none } else { a with resNext := some w }

/-- The outputs of an axis are driven (R287). -/
def State.axisDriven (s : State) : Bool := s.twn.role.acting && s.running

/-- The value of an axis's state (12 MOT_AXIS_STATUS). -/
def AxisState.num : AxisState → Nat
  | .disabled => 0
  | .rest => 1
  | .moving => 2
  | .stopping => 3
  | .released => 4
  | .fault => 5

/-- MOT_AXIS_STATUS. -/
def State.axisStatus (s : State) (x : Nat) : Nat :=
  let a := s.axis x
  a.state.num + 8 * a.res + 64 * b2n a.capped + 128 * b2n a.overshoot + 256 * b2n (s.limitActive x false)
    + 512 * b2n (s.limitActive x true) + 1024 * b2n s.axisDriven
    + 2048 * b2n (decide (a.goal = .none) && a.cfg.enable && decide (a.cfg.holdDelay ≤ a.restPts))
    + 4096 * b2n a.aligned + 65536 * a.move

/-- The planning-tick work of one axis at planning tick `p` (R270 to R288). -/
def State.planAxis (p : Nat) (s : State) (x : Nat) : State :=
  let rested := decide ((s.axis x).goal = .none)
  let s := s.advanceAxis x
  let before := s.axis x
  let s := s.modAxis x (fun a => a.takeChanges p)
  let due := (s.axis x).goalNext.filter (fun g => g.tick < p)
  let s := s.modAxis x (fun a => { a with goalNext := a.goalNext.filter (fun g => p ≤ g.tick) })
  let s := due.foldl (fun t g => t.takeGoal x g.val) s
  let s := if due.isEmpty && (s.axis x).lim == before.lim then s else s.checkReach x
  let s := s.faultAxis x
  let s := s.planJerk x
  let s := s.capAxis x
  let s := s.modAxis x (fun a => ({ a with
    planTick := p, limNegSeen := false, limPosSeen := false,
    restPts := if rested ∧ a.goal = .none then a.restPts + 1 else 0 } : Axis).planRes x)
  s.modAxis x (fun a => { a with shown := s.axisStatus x })

/-- The axes of the device. -/
def axisList : List Nat := List.range 16

/-- The planning-tick work of MOT (R270, R286). -/
def State.planMotion (s : State) (p : Nat) : State :=
  let s := axisList.foldl (State.planAxis p) s
  s.modMot (fun m => { m with lastPlan := some p,
                              periodReady := match stagedDue m.periodNext p with | some v => some v | none => m.periodReady,
                              periodNext := match stagedDue m.periodNext p with | some _ => none | none => m.periodNext })

/-! Events. -/

/-- A hard-limit input becomes active (R269): the next planning tick plans the quick stop, also one in this tick. -/
def execLimitSwitch (x : Fin 16) (positive : Bool) (s : State) : Host.Outcome State Fault Refusal :=
  if s.limitActive x.val positive then
    .next (s.modAxis x.val (fun a => if positive then { a with limPosSeen := true } else { a with limNegSeen := true }))
  else .next s

/-- *g* of R283 for a row of its table: 256 / M. -/
def resStep (row : Nat) : Int := 4 ^ row

/-- u_q of R283 for a row of its table. -/
def quantised (row : Nat) (u : Int) : Int := resStep row * u.fdiv (resStep row) + (resStep row).fdiv 2

/-- *u* of R282 at a tick. -/
def Axis.microAt (a : Axis) (t : Nat) : Int :=
  if a.cfg.dirInvert then -(a.stepsAt t) else a.stepsAt t

/-- The output angle u_q of an axis at a tick (R282, R283); on axes 2 to 15 it is *u*. -/
def Axis.angleAt (a : Axis) (x row t : Nat) : Int :=
  if x < 2 then (if row = 0 then a.microAt t else quantised row (a.microAt t)) else a.microAt t

/-- A decided change of resolution takes effect in a tick in which the angle agrees (R283). -/
def execMicrostepResolutionChange (x : Fin 16) (s : State) : Host.Outcome State Fault Refusal :=
  let a := s.axis x.val
  match a.resNext with
  | none => .next s
  | some r =>
    if a.planTick < s.tick ∧ a.angleAt x.val r s.tick = a.angleAt x.val a.res s.tick then
      .next (s.setAxis x.val { a with res := r, resNext := none })
    else .next s

/-! PWM (R282, R285 to R287). -/

/-- The table of an axis (R282): axes 0 and 1 always use the default. -/
def Axis.table (a : Axis) (x : Nat) : List Nat := if x < 2 ∨ a.sine = [] then sineDefault else a.sine

/-- The signed phase amplitudes S_A and S_B at an angle (R282). -/
def phases (t : List Nat) (angle : Int) : Int × Int :=
  let e := (angle.emod 1024).toNat
  let i := e % 256
  let up : Int := t.getD i 0
  let dn : Int := t.getD (255 - i) 0
  match e / 256 with
  | 0 => (up, dn)
  | 1 => (dn, -up)
  | 2 => (-up, -dn)
  | _ => (-dn, up)

/-- The current in force, mA (R285). -/
def Axis.current (a : Axis) : Nat := if a.goal = .none ∧ a.cfg.holdDelay ≤ a.restPts then a.cfg.holdCur else a.cfg.runCur

/-- VA and VB (R285), in units of 1 / (65,535 × 1,000 × 2^32) mV. -/
def Axis.volts (a : Axis) (x t : Nat) : Int × Int :=
  let ph := phases (a.table x) (a.angleAt x a.res t)
  let ir : Int := (a.current * a.cfg.rPh : Nat) * 4294967296
  let bemf : Int := a.cfg.kv * a.v * 1000
  (ir * ph.1 + bemf * ph.2, ir * ph.2 - bemf * ph.1)

/-- A duty (R285) as numerator over denominator, held to ±DMAX / 256. Where VBUS is 0 the quotient is open and `free` stands for
it. -/
def dutyOf (volt vbus : Int) (dMax : Nat) (free : Nat) : Int × Nat :=
  if vbus = 0 then (clampI (-(dMax : Int)) dMax (toSigned 16 free), 256)
  else
    let num := sgn vbus * volt
    let den : Nat := 65535000 * 4294967296 * vbus.natAbs
    if (dMax * den : Nat) < num.natAbs * 256 then (sgn num * dMax, 256) else (num, den)

/-- The pulse of a duty (R286), signed by the output that carries it: round(|d| × PERIOD), none below MIN_PULSE. -/
def pulseOf (d : Int × Nat) (period minPulse : Nat) : Int :=
  let w := roundHalfUp ((d.1.natAbs * period : Nat) : Int) d.2
  if w < minPulse then 0 else if d.1 < 0 then -w else w

/-- The pulses of the two phases in a period (R286): output, first tick and ticks, centred in the period. -/
def pulsesOf (x period : Nat) (da db : Int) : List (Nat × Nat × Nat) :=
  ([(0, da), (2, db)].filter (fun q => q.2 ≠ 0)).map (fun q =>
    (4 * x + q.1 + (if q.2 < 0 then 1 else 0), (period - q.2.natAbs) / 2, q.2.natAbs))

/-- The outputs of an axis carry pulses (R267, R280, R285): it is enabled, not released, and not in a FAULT of its supply. -/
def Axis.energised (a : Axis) : Bool := a.cfg.enable && a.state ≠ .released && a.state ≠ .disabled && !(a.state == .fault && a.busLow)

/-- Compute the duties and pulses of one axis for the period that starts (R285, R286), in every role, and send them where the outputs are
driven (R287). -/
def State.driveAxis (s : State) (x : Nat) : State :=
  let a := s.axis x
  if !a.energised then s.modAxis x (fun b => { b with dutyA := 0, dutyB := 0, pulses := [] })
  else
    let v := a.volts x s.tick
    let bus := (s.adcIn a.cfg.busIn).value
    let da := dutyOf v.1 bus a.cfg.dMax s.draw
    let db := dutyOf v.2 bus a.cfg.dMax s.drawn.draw
    let s := if bus = 0 then s.drawn.drawn else s
    let q (d : Int × Nat) : Int := satSigned 16 (roundHalfUp (d.1 * 32768) d.2)
    let pulses := pulsesOf x s.mot.period (pulseOf da s.mot.period a.cfg.minPulse) (pulseOf db s.mot.period a.cfg.minPulse)
    let s := s.setAxis x { a with dutyA := q da, dutyB := q db, pulses := pulses }
    if s.axisDriven then s.emit (.pwm x pulses) else s

/-- What is left of a pulse `elapsed` ticks into its period. -/
def pulseLeft (elapsed : Nat) (q : Nat × Nat × Nat) : Option (Nat × Nat × Nat) :=
  if elapsed < q.2.1 + q.2.2 then some (q.1, q.2.1 - elapsed, q.2.2 - (elapsed - q.2.1)) else none

/-- A device that begins to drive its PWM outputs carries on the period in its own state (R287). -/
def State.takePulses (s : State) : State :=
  let elapsed := s.tick - s.mot.pwmAt.getD s.tick
  axisList.foldl (fun s x =>
    let left := (s.axis x).pulses.filterMap (pulseLeft elapsed)
    if left.isEmpty then s else s.emit (.pwm x left)) s

/-- A PWM period starts (R285, R286): not before the end of the one before it. -/
def execPwmPeriodStart (s : State) : Host.Outcome State Fault Refusal :=
  let due := match s.mot.pwmAt with | some t => decide (t + s.mot.period ≤ s.tick) | none => true
  if !due || s.sys.held then .next s
  else
    let s := s.modMot (fun m => { m with pwmAt := some s.tick, period := m.periodReady.getD m.period, periodReady := none })
    .next (axisList.foldl State.driveAxis s)

/-! Commands. -/

/-- The configuration an axis will have at the next planning tick. -/
def Axis.cfgComing (a : Axis) : AxisCfg := match a.cfgNext with | some c => c.val | none => a.cfg

/-- A waiting goal will move the axis: not a stop, nor a position to take, nor a loop's output without a VELOCITY move (R320). -/
def Axis.willMove (a : Axis) (g : NewGoal) : Bool := if g.kind = 5 then a.onVelocity else g.goal.leads

/-- The axis moves, or a committed goal that moves it waits for its planning tick (R267). -/
def Axis.moves (a : Axis) : Bool := a.inMotion || a.goalNext.any (fun g => a.willMove g.val)

/-- MOT_AXIS's parameters (R267). -/
def parseAxis (p : List Byte) : AxisCfg :=
  { enable := bit (u8 p 9) 0, noReverse := bit (u8 p 9) 1, negOnly := bit (u8 p 9) 2, dirInvert := bit (u8 p 9) 3,
    fb := bit (u8 p 9) 4, fbEnc := u8 p 10, resHyst := u8 p 11, runCur := u16 p 12, holdCur := u16 p 14, rPh := u16 p 16,
    holdDelay := u16 p 18, kv := u32 p 20, resV := [i32 p 24, i32 p 28, i32 p 32, i32 p 36], cps := u32 p 40,
    maxErr := u32 p 44, busIn := u8 p 48, dMax := u8 p 49, minPulse := u16 p 50 }

/-- The speeds of RES_V rise strictly (R267). -/
def risingInts : List Int → Bool
  | x :: y :: rest => decide (x < y) && risingInts (y :: rest)
  | _ => true

/-- The ranges of MOT_AXIS (R267). -/
def AxisCfg.ok (c : AxisCfg) (x : Nat) : Bool :=
  decide (c.fbEnc ≤ 7) && decide (c.runCur ≤ 10000) && decide (c.holdCur ≤ c.runCur) && decide (1 ≤ c.rPh)
    && decide (1 ≤ c.maxErr) && decide (c.maxErr < 2 ^ 31) && decide (c.busIn < 32) && decide (1 ≤ c.dMax)
    && (if x < 2 then risingInts c.resV else c.resHyst == 0 && c.resV == [0, 0, 0, 0])

/-- The effect of MOT_AXIS (R267). -/
def effMotAxis : Effect := fun c s =>
  let p := c.packet
  let x := u8 p 8
  let g := parseAxis p
  if 16 ≤ x ∨ 32 ≤ u8 p 9 ∨ g.ok x = false ∨ zeroRange p 52 64 = false then refuse s
  else if (s.axis x).moves then finish s Status.busy
  else good (s.modAxis x (fun a =>
    { a with cfgNext := some ⟨g, s.tick⟩, busLow := a.busLow && !g.enable,
             state := if g.enable ∧ a.state = .fault then .rest else a.state }))

/-- MOT_AXIS (R267). -/
def execMotAxis (r : Fin 4) (s : State) : Host.Outcome State Fault Refusal :=
  .next (startCommand 0x0901 r.val (.ok []) effMotAxis s)

/-- The 256 entries of a sine block (R282). -/
def sineEntries (b : List Byte) : List Nat := (List.range 256).map (fun i => u16 b (2 * i))

/-- The effect of MOT_SINE (R282). -/
def effMotSine : Effect := fun c s =>
  let p := c.packet
  let x := u8 p 8
  if (x < 2 ∨ (16 ≤ x ∧ x ≠ 0xFF)) ∨ u64 p 16 % 64 ≠ 0 ∨ zeroRange p 9 16 = false ∨ zeroRange p 24 64 = false then refuse s
  else withHost c s (fun b =>
    if crc32c (b.take 512) ≠ u32 b 512 then refuse s
    else
      let t : Staged (List Nat) := ⟨sineEntries b, s.tick⟩
      let put (s : State) (y : Nat) : State := s.modAxis y (fun a => { a with sineNext := some t })
      good (if x = 0xFF then ((List.range 14).map (· + 2)).foldl put s else put s x))

/-- MOT_SINE (R282). -/
def execMotSine (r : Fin 4) (d : HostRead) (s : State) : Host.Outcome State Fault Refusal :=
  .next (startCommand 0x0902 r.val d effMotSine s)

/-- The segments of a table (R277). -/
def parseSegs (n : Nat) (b : List Byte) : List Seg :=
  (List.range n).map (fun k => ⟨u32 b (16 * k), i64 b (16 * k + 4), i32 b (16 * k + 12)⟩)

/-- A running or waiting move uses profile `n` (R277). -/
def Axis.usesProfile (a : Axis) (n : Nat) : Bool :=
  let uses (g : Goal) : Bool := match g with | .profile i _ => i == n | _ => false
  uses a.goal || a.goalNext.any (fun g => uses g.val.goal)

/-- The effect of MOT_PROFILE (R277). -/
def effMotProfile : Effect := fun c s =>
  let p := c.packet
  let x := u8 p 8
  let n := u8 p 10
  if 16 ≤ x ∨ 8 ≤ u8 p 9 ∨ n = 0 ∨ 64 < n ∨ u64 p 16 % 16 ≠ 0 ∨ zeroRange p 11 16 = false ∨ zeroRange p 24 64 = false then
    refuse s
  else if (s.axis x).usesProfile (u8 p 9) then finish s Status.busy
  else withHost c s (fun b =>
    let segs := parseSegs n b
    if segs.any (fun g => g.dur = 0 || decide (2 ^ 24 < g.dur)) then refuse s
    else good (s.modAxis x (fun a => { a with profiles := a.profiles.set [] (u8 p 9) segs })))

/-- MOT_PROFILE (R277). -/
def execMotProfile (r : Fin 4) (d : HostRead) (s : State) : Host.Outcome State Fault Refusal :=
  .next (startCommand 0x0903 r.val d effMotProfile s)

/-- GONG_HALT_N is low (R171). -/
def State.gongLow (s : State) : Bool := s.fir.haltDrive || s.gng.otherLow

/-- The limits an axis will have at the next planning tick. -/
def Axis.limComing (a : Axis) : AxisLim := match a.limNext with | some l => l.val | none => a.lim

/-- A profile leaves the soft limits (R278). -/
def Axis.profileOut (a : Axis) (segs : List Seg) (reps : Nat) : Bool :=
  let last := (segs.getLast?).getD ⟨1, 0, 0⟩
  (reps == 255 && last.endPos ≠ 0)
    || (profileCurves segs a.p reps).any (fun h => h.beyond true a.limComing.maxPos || h.beyond false a.limComing.minPos)

/-- The goal that MOT_MOVE names (R279). -/
def parseMove (p : List Byte) : NewGoal :=
  let kind := u8 p 9
  { goal := if kind = 0 then .position (i64 p 16) else if kind = 1 then .velocity (i32 p 24)
      else if kind = 2 then .profile (u8 p 10) (u8 p 11) else .none,
    kind := kind + 1, cmd := none, set := if kind = 3 then some (i64 p 16) else none }

/-- Parameters of MOT_MOVE (R279). -/
def moveBad (p : List Byte) : Bool :=
  let kind := u8 p 9
  decide (16 ≤ u8 p 8) || decide (4 ≤ kind) || (kind == 2 && decide (8 ≤ u8 p 10)) || !zeroRange p 12 16
    || !zeroRange p 28 64 || (kind ≠ 2 && (u8 p 10 ≠ 0 || u8 p 11 ≠ 0)) || (kind ≠ 0 && kind ≠ 3 && u64 p 16 ≠ 0)
    || (kind ≠ 1 && u32 p 24 ≠ 0)

/-- The direction in which a curve starts to move; 0: it does not move. -/
def HermiteSeg.startDir (h : HermiteSeg) : Int :=
  let c1 := h.dur * h.v0
  let c2 := 3 * (h.p1 - h.p0) - 2 * h.dur * h.v0 - h.dur * h.v1
  let c3 := 2 * (h.p0 - h.p1) + h.dur * (h.v0 + h.v1)
  if c1 ≠ 0 then sgn c1 else if c2 ≠ 0 then sgn c2 else sgn c3

/-- The axis with the goals that wait for the coming planning tick taken (R268, R273), as far as position and goal go. -/
def Axis.withWaiting (a : Axis) : Axis :=
  a.goalNext.foldl (fun a g => match g.val.set with
    | some p => if a.atRest then { a with p := p } else a
    | none => if g.val.kind = 5 then a else { a with goal := g.val.goal }) a

/-- The axis as the present plan and the goals that wait give it at the planning tick where a change committed now takes effect (R268,
R269, R275, R278). -/
def State.axisComing (s : State) (x : Nat) : Axis :=
  let a := s.axis x
  (if a.goal = .none then a else a.nextTick (s.vLim x)).withWaiting

/-- The direction MOT_MOVE moves the axis in at first, from its state at the planning tick where the move takes effect. -/
def Axis.moveDir (a : Axis) (p : List Byte) : Int :=
  if u8 p 9 = 0 then sgn (i64 p 16 - a.p)
  else if u8 p 9 = 1 then sgn (i32 p 24)
  else if u8 p 9 = 2 then
    ((profileCurves (a.profiles.get [] (u8 p 10)) a.p 0).map HermiteSeg.startDir).foldl (fun d x => if d = 0 then x else d) 0
  else 0

/-- The effect of MOT_MOVE (R269, R275, R278, R279). -/
def effMotMove : Effect := fun c s =>
  let p := c.packet
  let x := u8 p 8
  if moveBad p then refuse s
  else
    let a := s.axis x
    let b := s.axisComing x
    let kind := u8 p 9
    let segs := a.profiles.get [] (u8 p 10)
    let dir := b.moveDir p
    let l := a.limComing
    if a.cfgComing.enable = false ∨ a.limSet = false then finish s Status.notReady
    else if kind = 1 ∧ l.vMax < ((i32 p 24).natAbs : Int) then refuse s
    else if kind = 2 ∧ (segs = [] ∨ a.inMotion = true) then refuse s
    else if (kind = 0 ∨ kind = 3) ∧ (i64 p 16 < l.minPos ∨ l.maxPos < i64 p 16) then finish s Status.limitHit
    else if kind = 2 ∧ b.profileOut segs (u8 p 11) = true then finish s Status.limitHit
    else if (dir < 0 ∧ s.limitActive x false = true) ∨ (0 < dir ∧ s.limitActive x true = true) then finish s Status.limitHit
    else if a.state = .fault ∨ (s.pacingAxis = some x ∧ s.gongLow = true) then finish s Status.denied
    else if a.cfgComing.barred ≠ 0 ∧ ((kind = 1 ∧ dir = a.cfgComing.barred)
        ∨ (kind = 2 ∧ (profileCurves segs b.p (min 1 (u8 p 11))).any (fun h => h.runs a.cfgComing.barred) = true)) then
      finish s Status.noReverse
    else
      let g := { parseMove p with cmd := some c.id }
      (s.modAxis x (fun a => { a with goalNext := a.goalNext ++ [⟨g, s.tick⟩] }), .running)

/-- MOT_MOVE (R279). -/
def execMotMove (r : Fin 4) (s : State) : Host.Outcome State Fault Refusal :=
  .next (startCommand 0x0904 r.val (.ok []) effMotMove s)

/-- MOT_LIMITS's parameters (R268). -/
def parseLimits (p : List Byte) : AxisLim :=
  { negHigh := bit (u8 p 9) 0, posHigh := bit (u8 p 9) 1, limNeg := u8 p 10, limPos := u8 p 11, vMax := i32 p 12,
    accel := u32 p 16, decel := u32 p 20, jerk := u32 p 24, qStop := u32 p 28, minPos := i64 p 32, maxPos := i64 p 40 }

/-- The ranges of MOT_LIMITS (R268). -/
def AxisLim.ok (l : AxisLim) : Bool :=
  (decide (l.limNeg < 16) || l.limNeg == 0xFF) && (decide (l.limPos < 16) || l.limPos == 0xFF) && decide (0 < l.vMax)
    && decide (0 < l.accel) && decide (0 < l.decel) && decide (0 < l.jerk) && decide (l.decel ≤ l.qStop)
    && decide (l.minPos < l.maxPos)

/-- The effect of MOT_LIMITS (R268, R275): both tests use the state that the present plan gives at the planning tick
where the change would take effect. -/
def effMotLimits : Effect := fun c s =>
  let p := c.packet
  let x := u8 p 8
  let l := parseLimits p
  if 16 ≤ x ∨ 4 ≤ u8 p 9 ∨ l.ok = false ∨ zeroRange p 48 64 = false then refuse s
  else
    let a := s.axis x
    let b := s.axisComing x
    let out (q : Int) : Bool := decide (q < l.minPos) || decide (l.maxPos < q)
    let stuck : Bool := match b.goal with
      | .position t => out t || !({ b with lim := l } : Axis).reaches t
      | _ => false
    if out b.p then finish s Status.limitHit
    else if a.cfg.noReverse && stuck then finish s Status.noReverse
    else good (s.modAxis x (fun a => { a with limNext := some ⟨l, s.tick⟩, limSet := true }))

/-- MOT_LIMITS (R268). -/
def execMotLimits (r : Fin 4) (s : State) : Host.Outcome State Fault Refusal :=
  .next (startCommand 0x0905 r.val (.ok []) effMotLimits s)

/-- Stop an axis at the next planning tick (R273, R280), for a command or for R171. -/
def State.stopAxis (s : State) (x mode : Nat) (cmd : Option Nat) : State :=
  s.modAxis x (fun a =>
    { a with goalNext := a.goalNext ++ [⟨{ goal := .stop (mode == 1) (mode == 2), kind := 0, cmd := none }, s.tick⟩],
             stopCmds := match cmd with | some id => a.stopCmds ++ [id] | none => a.stopCmds })

/-- The effect of MOT_STOP (R280). -/
def effMotStop : Effect := fun c s =>
  let p := c.packet
  let x := u8 p 8
  if (16 ≤ x ∧ x ≠ 0xFF) ∨ 2 < u8 p 9 ∨ zeroRange p 10 64 = false then refuse s
  else ((if x = 0xFF then axisList else [x]).foldl (fun t y => t.stopAxis y (u8 p 9) (some c.id)) s, .running)

/-- MOT_STOP (R280). -/
def execMotStop (r : Fin 4) (s : State) : Host.Outcome State Fault Refusal :=
  .next (startCommand 0x0906 r.val (.ok []) effMotStop s)

/-- The effect of MOT_QUERY (R281): what held at the last planning tick. -/
def effMotQuery : Effect := fun c s =>
  let p := c.packet
  let x := u8 p 8
  if 16 ≤ x ∨ zeroRange p 9 64 = false then refuse s
  else answer s (leInt 8 (s.axis x).p ++ leInt 4 (s.axis x).v ++ leBytes 4 (s.axis x).shown)

/-- MOT_QUERY (R281). -/
def execMotQuery (r : Fin 4) (s : State) : Host.Outcome State Fault Refusal :=
  .next (startCommand 0x0907 r.val (.ok []) effMotQuery s)

end Sys2Proof.Machine
end

