-- ==== Sys2Proof/Machine/Proof.lean ====
section
/-! DEFINITION. The proof test of twin operation (R394): its tests in bit order and how each ends. -/
namespace Sys2Proof.Machine

/-- The lowest test at or above `k` that a mask selects. -/
def nextTest (mask k : Nat) : Option Nat := (List.range 5).find? (fun i => decide (k ≤ i) && bit mask i)

/-- The proof test ends with a status (R394). -/
def State.proofEnd (s : State) (status : Nat) : State :=
  match s.twn.proof with
  | none => s
  | some p =>
    (s.modTwn (fun t => { t with proof := none })).complete p.cmd status
      (if status = Status.ok then [p.passed, p.failed, 0, 0] ++ leBytes 4 p.first ++ zeros 8 else [])

/-- Go on with the test at or above `k`, or end with OK (R394). -/
def State.proofGo (s : State) (p : Proof) (k : Nat) : State :=
  match nextTest p.tests k with
  | some t => s.modTwn (fun x => { x with proof := some { p with test := t, count := 0, tapLost := false, startLine := s.fir.lastLine.getD 0 } })
  | none => (s.modTwn (fun x => { x with proof := some p })).proofEnd Status.ok

/-- The test at work ends (R394): `at_` is the row, count or line of the first failure. -/
def State.proofResult (s : State) (passed : Bool) (at_ : Nat) : State :=
  match s.twn.proof with
  | none => s
  | some p =>
    let p := if passed then { p with passed := p.passed + 2 ^ p.test }
      else { p with failed := p.failed + 2 ^ p.test, first := if p.failed = 0 then at_ else p.first }
    s.proofGo p (p.test + 1)

/-- The test at work is test `k`. -/
def State.proving (s : State) (k : Nat) : Bool :=
  match s.twn.proof with
  | some p => p.test == k
  | none => false

/-- Count one row, cycle, period or line of test `k`; it passes when it has run `n` of them (R394). -/
def State.proofCount (s : State) (k n : Nat) : State :=
  match s.twn.proof with
  | none => s
  | some p =>
    if p.test ≠ k then s
    else
      let s := s.modTwn (fun x => { x with proof := some { p with count := p.count + 1 } })
      if p.count + 1 < n then s else s.proofResult true 0

/-- The test at work fails if it is test `k` (R394). -/
def State.proofFail (s : State) (k at_ : Nat) : State := if s.proving k then s.proofResult false at_ else s

end Sys2Proof.Machine
end

