-- ==== Sys2Proof/Machine/Levels.lean ====
section
/-! DEFINITION. The level of every nozzle of a die at a press line: raster lines (R129, R130), remap
(R69), level maps (R211, R212) and substitution (R213 to R215). -/
namespace Sys2Proof.Machine

/-! What a row reads. -/

/-- What a nozzle reads at a press line (R129): page, class, row table index, whole-line offset, and the
raster line it prints; none: it prints level 0 (R130). -/
structure NozRead where
  page : BeatPage
  cls : HeadClass
  clsNo : Nat
  row : Nat
  w : Nat
  y : Option Nat
deriving DecidableEq, Repr

/-- The row of a die that reads a page at press line L under R129, and the raster line of R65 and R130. -/
def rowRead (g : GeoSet) (p : BeatPage) (die row line : Nat) (rev : Bool) : Option NozRead :=
  let h := headOfDie die
  match g.classOf h with
  | none => none
  | some k =>
    let w := rowWhole (g.headAt h) k row
    if line < p.start + w ∨ p.start + w + ceil16 p.lines ≤ line then none
    else
      let y0 := line - p.start - w
      let back := rev && rowFrac (g.headAt h) k row ≠ 0
      let y := if back then y0 - 1 else y0
      let dark := (back && y0 == 0) || decide (p.lines ≤ y) || (g.headAt h).disabled
      some { page := p, cls := k, clsNo := (g.headAt h).cls, row := row, w := w, y := if dark then none else some y }

/-- The press line of line `i` of a beat. -/
def Beat.lineNo (b : Beat) (i : Nat) : Nat := b.x + i

/-- What nozzle `j` of a beat's die reads at line `i`. -/
def State.nozRead (s : State) (b : Beat) (i j : Nat) : Option NozRead :=
  b.pages.findSome? (fun p =>
    let g := s.setOf p.gen
    match g.classOf (headOfDie b.die) with
    | none => none
    | some k =>
      if j < k.nozzles ∧ b.die % 2 < k.dies then
        rowRead g p b.die (k.rowOf (b.die % 2) j) (b.lineNo i) (b.reverse.getD i false)
      else none)

/-! Raster lines. -/

/-- The decoded lines of a tile of a page: those of its own bytes or of its REF source (R87, R112); level
0 for BLANK and for a tile row that is not supplied. -/
def State.tileLines (s : State) (id plane strip row : Nat) : List (List Nat) :=
  match (s.ctx id).tileAt plane strip row with
  | none => []
  | some t =>
    match s.sourceTile id t with
    | none => []
    | some x =>
      let b := x.bytes.getD []
      let up := if t.row = 0 then (1, []) else s.imageAt id plane strip (t.row - 1)
      (decodeTile b (repackImage up.1 (tileBits b) up.2)).lines

/-- Raster line `y` of a strip of a page: every drop equals the drop that verification produced (R133). -/
def State.rasterLine (s : State) (id plane strip y : Nat) : List Nat :=
  (s.tileLines id plane strip (y / 16)).getD (y % 16) []

/-- A raster sample. -/
def State.rasterDrop (s : State) (id plane col y : Nat) : Nat := (s.rasterLine id plane (col / 2048) y).getD (col % 2048) 0

/-! Level maps (R211, R212). -/

/-- A level through the map of a nozzle (R212 step 2). -/
def mapLevel (t : SubTables) (k : HeadClass) (clsNo noz level : Nat) : Nat :=
  min k.max ((t.mapAt clsNo (nozIndex t noz)).getD level 0)

/-- A raster line that a reader of a die holds as its current line (R133, R137, R213): die row, plane, strip, page context,
raster line and its levels. `bad`: the reader's history was set to level 0 after a memory fault (R118). -/
structure HeldLine where
  row : Nat
  plane : Nat
  strip : Nat
  ctx : Nat
  y : Nat
  line : List Nat
  bad : Bool := false
deriving DecidableEq, Repr

/-- One reader goes before another or is the same: by row table index, then strip (R137), then plane (log entry 142). -/
def Reader.le (a b : Reader) : Bool :=
  decide (a.row < b.row ∨ (a.row = b.row ∧ (a.strip < b.strip ∨ (a.strip = b.strip ∧ a.plane ≤ b.plane))))

/-- The readers at work on line `i` of a beat, with page and raster line (R131), in the order of R137. -/
def State.activeReaders (s : State) (b : Beat) (i : Nat) : List (Reader × BeatPage × Nat) :=
  (b.pages.flatMap (fun p =>
    let g := s.setOf p.gen
    (g.readersOfDie b.die).filterMap (fun r =>
      match rowRead g p b.die r.row (b.lineNo i) (b.reverse.getD i false) with
      | some x => x.y.map (fun y => (r, p, y))
      | none => none))).foldr (insertOrdered (fun a b => a.1.le b.1)) []

/-- What the readers hold at line `i` as verification decoded it. -/
def State.verifiedLines (s : State) (b : Beat) (i : Nat) : List HeldLine :=
  (s.activeReaders b i).map (fun x =>
    { row := x.1.row, plane := x.1.plane, strip := x.1.strip, ctx := x.2.1.ctx, y := x.2.2,
      line := s.rasterLine x.2.1.ctx x.1.plane x.1.strip x.2.2 })

/-- The held line is of this strip and page. -/
def HeldLine.of (h : HeldLine) (ctx plane col : Nat) : Bool := h.ctx == ctx && h.plane == plane && h.strip == col / 2048

/-- The raster level of a column in the current line of the reader of a row (R69). -/
def rowDrop (hs : List HeldLine) (row ctx plane col y : Nat) : Nat :=
  match hs.find? (fun h => h.of ctx plane col && h.row == row && h.y == y) with
  | some h => h.line.getD (col % 2048) 0
  | none => 0

/-- The mapped level of nozzle `j` at line `i`, steps 1 and 2 of R212. -/
def State.ownLevel (s : State) (t : SubTables) (b : Beat) (hs : List HeldLine) (i j : Nat) : Nat :=
  match s.nozRead b i j with
  | none => 0
  | some r =>
    match r.y, (s.setOf r.page.gen).mapOf (2048 * b.die + j) with
    | some y, some m => mapLevel t r.cls r.clsNo (2048 * b.die + j) (rowDrop hs r.row r.page.ctx m.plane m.col y)
    | _, _ => 0

/-- The class of a beat's die: that of the generation active at FORM, or of a page it reads. -/
def State.beatClass (s : State) (b : Beat) : HeadClass :=
  match (s.setOf b.gen).classOf (headOfDie b.die) with
  | some k => k
  | none => (b.pages.findSome? (fun p => (s.setOf p.gen).classOf (headOfDie b.die))).getD {}

/-- The class of a nozzle at line `i` with its number (R129): that of the page its row reads, or of the generation active at
FORM. -/
def State.nozClass (s : State) (b : Beat) (i j : Nat) : HeadClass × Nat :=
  match s.nozRead b i j with
  | some r => (r.cls, r.clsNo)
  | none => (s.beatClass b, ((s.setOf b.gen).headAt (headOfDie b.die)).cls)

/-- Nozzles of a beat's die, under any generation that it reads. -/
def State.beatNozzles (s : State) (b : Beat) : Nat :=
  maxNat ((s.beatClass b).nozzles :: b.pages.map (fun p => match (s.setOf p.gen).classOf (headOfDie b.die) with
    | some k => k.nozzles
    | none => 0))

/-- The raster line that row `row` of a die comes to at press line L of a page, whether the page has it or not (R65, R129). -/
def rowPlace (g : GeoSet) (p : BeatPage) (die row line : Nat) (rev : Bool) : Option Int :=
  (g.classOf (headOfDie die)).map (fun k =>
    let h := g.headAt (headOfDie die)
    (line : Int) - p.start - rowWhole h k row - b2n (rev && rowFrac h k row ≠ 0))

/-- The cursor of a reader (R132). -/
def State.cursorOf (s : State) (r : Reader) : Option Cursor :=
  (s.mal.cursors.find? (fun c => c.2.die == r.die && c.2.row == r.row && c.2.plane == r.plane && c.2.strip == r.strip)).map (fun c => c.2)

/-- The history of a reader was set to level 0 after a memory fault of the page it read last (R118). -/
def State.historyLost (s : State) (r : Reader) (ctx : Nat) : Bool :=
  match s.cursorOf r with
  | some c => c.ctx == ctx && c.bad
  | none => false

/-- A reader has taken up another page that comes after `p` (R112, R133): its history is that page's. -/
def State.movedOn (s : State) (b : Beat) (i : Nat) (p : BeatPage) (r : Reader) : Bool :=
  b.pages.any (fun q => decide (p.start < q.start) && ((s.setOf q.gen).readersOfDie b.die).contains r
    && (match rowPlace (s.setOf q.gen) q b.die r.row (b.lineNo i) (b.reverse.getD i false) with
        | some y => decide (0 ≤ y)
        | none => false))

/-- What the readers hold that have read the last line of their page and have taken up no other (R110, R133, R213). -/
def State.pastLines (s : State) (b : Beat) (i : Nat) : List HeldLine :=
  b.pages.flatMap (fun p =>
    let g := s.setOf p.gen
    (g.readersOfDie b.die).filterMap (fun r =>
      match rowPlace g p b.die r.row (b.lineNo i) (b.reverse.getD i false) with
      | some y =>
        if (p.lines : Int) ≤ y ∧ s.movedOn b i p r = false then
          some { row := r.row, plane := r.plane, strip := r.strip, ctx := p.ctx, y := p.lines - 1,
                 line := if s.historyLost r p.ctx then [] else s.rasterLine p.ctx r.plane r.strip (p.lines - 1),
                 bad := s.historyLost r p.ctx }
        else none
      | none => none))

/-! Substitution. -/

/-- SUB_POLICY's flags (R222). -/
def polOff (f : Nat) : Bool := bit f 0
def polMappedOnly (f : Nat) : Bool := bit f 1
def polNoSpare (f : Nat) : Bool := bit f 2
def polSpareFirst (f : Nat) : Bool := bit f 3
def polNoAlternate (f : Nat) : Bool := bit f 4

/-- The raster level at line `y` that some reader of the die holds: in its current line, or inside its decoder window of `hl`
lines (R110, R111, R213). -/
def State.heldDrop (s : State) (hs : List HeldLine) (hl ctx plane col y : Nat) : Option Nat :=
  match hs.find? (fun h => h.of ctx plane col && h.y == y) with
  | some h => some (h.line.getD (col % 2048) 0)
  | none => (hs.find? (fun h => h.of ctx plane col && decide (y ≤ h.y) && decide (h.y - y < hl))).map (fun h =>
      if h.bad then 0 else s.rasterDrop ctx plane col y)

/-- sample(n, m): the level that candidate `m` is offered of DEAD nozzle `n` (R213); none: no reader holds
it, or `m` prints no raster line. -/
def State.sampleFor (s : State) (t : SubTables) (b : Beat) (hs : List HeldLine) (i n m : Nat) : Option Nat :=
  match s.nozRead b i m with
  | none => none
  | some r =>
    match r.y, (s.setOf r.page.gen).mapOf (2048 * b.die + n) with
    | some y, some item =>
      (s.heldDrop (hs ++ s.pastLines b i) (histLines r.cls.bits) r.page.ctx item.plane item.col y).map (mapLevel t r.cls r.clsNo (2048 * b.die + n))
    | _, _ => none

/-- Candidate `m` is available for DEAD nozzle `n` but for its sample (R213), under the generation of the page its row reads
(R129). `spare` says whether it is offered as spare(n). -/
def State.candidateOk (s : State) (t : SubTables) (b : Beat) (i flags m : Nat) (spare : Bool) : Bool :=
  match s.nozRead b i m with
  | none => false
  | some r =>
    let g := s.setOf r.page.gen
    let dev := 2048 * b.die + m
    decide (m < r.cls.nozzles) && !(g.headAt (headOfDie b.die)).disabled && nozState t dev == stGood
      && (if spare then !polNoSpare flags
          else !r.cls.spareRow (r.cls.rowOf (b.die % 2) m) && !(polMappedOnly flags && (g.mapOf dev).isNone))

/-- spare(n), which prints as nozzle `m`, is within reach of its primary `n` at line `i` (R213): the primary row's raster line less the
spare row's lies in 0 to HL − 1. -/
def State.spareReach (s : State) (b : Beat) (i n m : Nat) : Bool :=
  match s.nozRead b i m with
  | none => false
  | some r =>
    match r.y, rowPlace (s.setOf r.page.gen) r.page b.die (r.cls.rowOf (b.die % 2) n) (b.lineNo i) (b.reverse.getD i false) with
    | some y, some x => decide ((y : Int) ≤ x) && decide (x - y < histLines r.cls.bits)
    | _, _ => false

/-- The candidates of DEAD nozzle `n` at press line L, in order (R214); the Bool marks spare(n). -/
def candidateOrder (k : HeadClass) (die n line flags : Nat) : List (Nat × Bool) :=
  let below : List (Nat × Bool) := if n = 0 then [] else [(n - 1, false)]
  let above : List (Nat × Bool) := [(n + 1, false)]
  let near := if line % 2 = 0 ∨ polNoAlternate flags = true then below ++ above else above ++ below
  let spare : List (Nat × Bool) := match k.spareNoz (die % 2) n with
    | some m => [(m, true)]
    | none => []
  if polSpareFirst flags then spare ++ near else near ++ spare

/-- The levels of a die at work, by nozzle, with what LOST and CLIPPED counted and the first nozzle LOST
counted. -/
structure DieLevels where
  v : Table Nat := {}
  lost : Nat := 0
  clipped : Nat := 0
  firstLost : Option Nat := none
deriving DecidableEq, Repr

/-- Offer a DEAD nozzle's sample to its candidates (R214): the level and clipped count after the first that
takes it. -/
def State.offer (s : State) (t : SubTables) (b : Beat) (hs : List HeldLine) (flags i n : Nat) (d : DieLevels) :
    List (Nat × Bool) → Option DieLevels
  | [] => none
  | (m, spare) :: rest =>
    let top := (s.nozClass b i m).1.max
    match s.candidateOk t b i flags m spare && (!spare || s.spareReach b i n m) && decide (d.v.get 0 m < top), s.sampleFor t b hs i n m with
    | true, some x => some { d with v := d.v.set 0 m (min top (d.v.get 0 m + x)), clipped := d.clipped + (d.v.get 0 m + x - top) }
    | _, _ => s.offer t b hs flags i n d rest

/-- One DEAD nozzle (R214), under its own class. -/
def State.substitute (s : State) (t : SubTables) (b : Beat) (hs : List HeldLine) (i : Nat) (d : DieLevels) (n : Nat) : DieLevels :=
  let k := s.nozClass b i n
  let flags := t.policy.get 0 k.2
  let lose : DieLevels :=
    if 0 < s.ownLevel t b hs i n then { d with lost := d.lost + 1, firstLost := some (d.firstLost.getD (2048 * b.die + n)) } else d
  if polOff flags then lose
  else (s.offer t b hs flags i n d (candidateOrder k.1 b.die n (b.lineNo i) flags)).getD lose

/-- The levels of an ordinary beat's line (R212, R214). -/
def State.pageLevels (s : State) (t : SubTables) (b : Beat) (hs : List HeldLine) (i : Nat) : DieLevels :=
  let nozzles := s.beatNozzles b
  let own := (List.range nozzles).foldl (fun (v : Table Nat) j =>
    let st := nozState t (2048 * b.die + j)
    if st = stDead ∨ st = stSpent ∨ st = stBlocked then v else v.set 0 j (s.ownLevel t b hs i j)) {}
  let dead := ((t.inState b.die stDead).map (· % 2048)).filter (fun j => decide (j < nozzles))
  dead.foldl (s.substitute t b hs i) { v := own }

/-- The levels of a ladder beat's line (R219): MAX for the nozzles of the pattern that are not BLOCKED. -/
def ladderLevels (t : SubTables) (b : Beat) (k : HeadClass) (i : Nat) : DieLevels :=
  { v := (b.ladderNoz.getD i []).foldl (fun (v : Table Nat) j =>
      if nozState t (2048 * b.die + j) = stBlocked then v else v.set 0 j k.max) {} }

/-- The final levels of line `i` of a beat (R191, R212) from the lines its readers hold. Where a page's beat also holds lines of
a ladder pattern, the pattern fires on the rows that read no page. -/
def State.lineLevels (s : State) (b : Beat) (hs : List HeldLine) (i : Nat) : DieLevels :=
  let t := s.sub.planAt b.x
  let k := s.beatClass b
  let lv := ladderLevels t b k i
  if b.ladder then lv
  else
    let d := s.pageLevels t b hs i
    { d with v := lv.v.entries.foldl (fun v e => if (s.nozRead b i e.1).isNone then v.set 0 e.1 e.2 else v) d.v }

/-- The levels as a list by nozzle. -/
def DieLevels.list (d : DieLevels) (n : Nat) : List Nat := (List.range n).map (d.v.get 0)

/-- W of a nozzle's row at line `i` of a beat: of the page it reads, or of the active generation. -/
def State.nozOffset (s : State) (b : Beat) (i j : Nat) : Nat :=
  match s.nozRead b i j with
  | some r => r.w
  | none => (s.setOf b.gen).wOf b.die ((s.beatClass b).rowOf (b.die % 2) j)

/-- What a nozzle's drop is attributed to (R69): the item under the page it reads or the active
generation. -/
def State.nozItem (s : State) (b : Beat) (i j : Nat) : Option MapItem :=
  let g := match s.nozRead b i j with
    | some r => s.setOf r.page.gen
    | none => s.setOf b.gen
  g.mapOf (2048 * b.die + j)

end Sys2Proof.Machine
end

