-- ==== Sys2Proof/Machine/Mallet.lean ====
section
/-! DEFINITION. Fetch and the mallet engines (chapter 06): beats, home queues and stealing, segments and
the lane staging rings; what a written segment adds to the prediction of R252 and to the coverage of
R342. -/
namespace Sys2Proof.Machine

/-! Rings (R144). -/

/-- Line slots of a lane's ring. -/
def LaneRing.depth (r : LaneRing) : Nat := if r.depth1 then 16 else 32

/-- The slot of press line L is free for it (R144): the line one ring before it has given way. The line before the next
one to trigger is the last that has. -/
def State.slotFree (s : State) (lane line : Nat) : Bool :=
  decide (line + 1 < s.fir.nextLine + (s.laneRing lane).depth)

/-- The segments of press line L that are READY. -/
def LaneRing.readyAt (r : LaneRing) (line : Nat) : List Segment :=
  let x := r.slots.get {} (line % r.depth)
  if x.line = some line then x.ready else []

/-- Write a die's segment and set its READY bit (R144). -/
def LaneRing.put (r : LaneRing) (line : Nat) (g : Segment) : LaneRing :=
  let k := line % r.depth
  { r with slots := r.slots.set {} k { line := some line, ready := (r.readyAt line).filter (fun x => x.die ≠ g.die) ++ [g] } }

/-- Free the slots of lines before L (R144). -/
def LaneRing.release (r : LaneRing) (line : Nat) : LaneRing :=
  { r with slots := ⟨r.slots.entries.filter (fun e => match e.2.line with
      | some l => decide (line ≤ l)
      | none => false)⟩ }

/-! Home queues (R139, R140, R143, R149). -/

/-- The engine is in service (R150). -/
def State.inService (s : State) (e : Nat) : Bool := (s.engine e).outCause == 0

/-- The home engine of a lane (R139). -/
def State.homeOf (s : State) (lane : Nat) : Option Nat :=
  match ((List.range 8).map (fun k => lane / 8 * 8 + (lane % 8 + k) % 8)).find? s.inService with
  | some e => some e
  | none => (List.range 64).find? s.inService

/-- The order of a home queue: handed-on beats first, then X, ladder beats behind, then planned cost
falling, then die. -/
def Beat.le (a b : Beat) : Bool :=
  let key (q : Beat) : Nat × Nat × Nat := (if q.handed then 0 else 1, q.x, b2n q.ladder)
  let ka := key a
  let kb := key b
  decide (ka.1 < kb.1 ∨ (ka.1 = kb.1 ∧ (ka.2.1 < kb.2.1 ∨ (ka.2.1 = kb.2.1 ∧ (ka.2.2 < kb.2.2 ∨ (ka.2.2 = kb.2.2 ∧
    (b.cost < a.cost ∨ (a.cost = b.cost ∧ a.die ≤ b.die))))))))

/-- The home queue of engine `e`. -/
def State.homeQueue (s : State) (e : Nat) : List Beat :=
  (s.mal.queued.filter (fun b => s.homeOf (laneOfDie b.die) == some e)).mergeSort Beat.le

/-- The same beat. -/
def Beat.same (a b : Beat) : Bool := a.die == b.die && a.x == b.x && a.ladder == b.ladder

/-- The beat at work in an engine. -/
def Engine.current (e : Engine) : Option Beat := if e.cur = 0 then e.ctx0 else e.ctx1

/-- The beat in the other context. -/
def Engine.other (e : Engine) : Option Beat := if e.cur = 0 then e.ctx1 else e.ctx0

/-- The next line of a beat has a free slot, or the beat is finished. -/
def State.canGo (s : State) (b : Beat) : Bool :=
  decide (16 ≤ b.line) || s.slotFree (laneOfDie b.die) (b.x + b.line)

/-- The context an engine works on: the present one unless it waits and the other can go (R138). -/
def State.pickContext (s : State) (g : Engine) : Option (Nat × Beat) :=
  match g.current, g.other with
  | some b, o => if b.line < 16 ∧ s.canGo b = true then some (g.cur, b) else (match o with
      | some c => if c.line < 16 ∧ s.canGo c = true then some (1 - g.cur, c) else none
      | none => none)
  | none, some c => if c.line < 16 ∧ s.canGo c = true then some (1 - g.cur, c) else none
  | none, none => none

/-- The running beat of an engine: the one it works on, or the one that waits in it. -/
def State.runningBeat (s : State) (g : Engine) : Option Beat :=
  match s.pickContext g with
  | some x => some x.2
  | none => g.current.or g.other

/-- 16 times the remaining planned work of an engine (R141). -/
def State.remainingWork (s : State) (e : Nat) : Nat :=
  16 * sumNat ((s.homeQueue e).map (fun b => b.cost)) + (match s.runningBeat (s.engine e) with
    | some b => b.cost * (16 - b.line)
    | none => 0)

/-- The victim among some engines (R141) for page beats or for ladder beats: the largest remaining work, ties to the lower
number. -/
def State.victim (s : State) (es : List Nat) (ladder : Bool) : Option Nat :=
  es.foldl (fun best e =>
    if (s.homeQueue e).all (fun b => b.ladder != ladder) then best
    else match best with
      | none => some e
      | some x => if s.remainingWork x < s.remainingWork e then some e else best) none

/-- The beat a thief takes: the tail of the queue, among page beats or among ladder beats (R141, R149). -/
def stealTail (q : List Beat) (ladder : Bool) : Option Beat := (q.filter (fun b => b.ladder == ladder)).getLast?

/-- Set a context of an engine. -/
def Engine.setCtx (g : Engine) (k : Nat) (b : Option Beat) : Engine := if k = 0 then { g with ctx0 := b } else { g with ctx1 := b }

/-- The engine would take a beat (R138, R141): it is in service and what it holds waits for slots. -/
def State.wantsBeat (s : State) (e : Nat) : Bool :=
  let g := s.engine e
  let waits (b : Option Beat) : Bool := match b with
    | some x => !s.canGo x
    | none => true
  s.inService e && !g.offline && (g.ctx0.isNone || g.ctx1.isNone) && waits g.ctx0 && waits g.ctx1

/-- Put a beat into a free context and work on it. -/
def Engine.take (g : Engine) (b : Beat) : Engine :=
  if g.ctx0.isNone then { g with ctx0 := some b, cur := 0 } else { g with ctx1 := some b, cur := 1 }

/-- Engine `e` takes beat `b` out of the queues; `extra` is the setup a global steal adds. -/
def State.takeBeat (s : State) (e : Nat) (b : Beat) (extra : Nat) : State :=
  let s := s.modMal (fun m => { m with queued := m.queued.filter (fun x => !x.same b) })
  s.modEngine e (fun g => g.take { b with ran := 0, handed := false, clocks := b.clocks + extra })

/-- Engine `e` takes the head of its home queue (R140). -/
def State.takeHome (s : State) (e : Nat) : State :=
  if s.wantsBeat e then
    match s.homeQueue e with
    | b :: _ => s.takeBeat e b 0
    | [] => s
  else s

/-- Engine `e` steals from its cluster, or else from all engines, a beat of one kind (R141); none: no other engine has one. -/
def State.stealKind (s : State) (e : Nat) (ladder : Bool) : Option State :=
  match s.victim (((List.range 8).map (fun k => e / 8 * 8 + k)).filter (· ≠ e)) ladder with
  | some v => (stealTail (s.homeQueue v) ladder).map (fun b =>
      (s.takeBeat e b 0).modEngine e (fun g => { g with clusterSteals := satAdd 16 g.clusterSteals 1 }))
  | none => match s.victim ((List.range 64).filter (· ≠ e)) ladder with
    | some v => (stealTail (s.homeQueue v) ladder).map (fun b =>
        (s.takeBeat e b 64).modEngine e (fun g => { g with globalSteals := satAdd 16 g.globalSteals 1 }))
    | none => none

/-- Engine `e` steals (R141), ladder beats last (R149). -/
def State.steal (s : State) (e : Nat) : State :=
  if s.wantsBeat e && (s.homeQueue e).isEmpty then ((s.stealKind e false).or (s.stealKind e true)).getD s else s

/-- A command that frees engines or queues beats. -/
def freesEngine (i : Instr) : Bool :=
  match i with
  | .engineBeatDone _ | .segmentWrite _ _ | .beatRelease => true
  | _ => false

/-- Idle engines take work in one tick: home engines first, then thieves in number order (R142). While another command of the tick
can free a home engine, no engine steals: the last of them makes the tick's thefts. -/
def State.assignBeats (s : State) : State :=
  let s := (List.range 64).foldl State.takeHome s
  if s.arrives freesEngine then s else (List.range 64).foldl State.steal s

/-- BEAT_RELEASE (R135): every formed beat whose slots are free enters its home queue; a depth-1 lane
releases with the slot of its first line (R144). -/
def execBeatRelease (s : State) : Host.Outcome State Fault Refusal :=
  let free (b : Beat) : Bool :=
    let lane := laneOfDie b.die
    s.slotFree lane (if (s.laneRing lane).depth1 then b.x else b.x + 15)
  let go := s.mal.formed.filter free
  .next (s.modMal (fun m => { m with formed := m.formed.filter (fun b => !free b), queued := m.queued ++ go })).assignBeats

/-! Decoding by readers (R133, R137). -/

/-- Pass over the first lines of a verified tile: offset of the next token and history, newest first. -/
def skipLines (t : List Byte) : Nat → Nat → Nat → List Nat → Nat × List Nat
  | 0, _, off, w => (off, w)
  | n + 1, i, off, w =>
    if i < tileLines t then
      match decodeLine t off w with
      | .ok w o _ => skipLines t n (i + 1) o w
      | .bad _ _ => skipLines t n (i + 1) off (List.replicate 2048 0 ++ w)
    else skipLines t n (i + 1) off (List.replicate 2048 0 ++ w)

/-- A line that a reader has decoded: the offset of the next token, the history lines newest first with the line at their head,
the clocks, and whether the rest of the tile is level 0 (R118). -/
structure ReadStep where
  offset : Nat
  hist : List (List Nat)
  clocks : Nat
  bad : Bool
deriving DecidableEq, Repr

/-- The decoded line. -/
def ReadStep.line (x : ReadStep) : List Nat := x.hist.headD []

/-- A line of level 0. -/
def darkLine : List Nat := List.replicate 2048 0

/-- The bytes of the tile that decides a tile row; none for BLANK and for a row that is not supplied. -/
def State.rowBytes (s : State) (ctx plane strip row : Nat) : Option (List Byte) :=
  match (s.ctx ctx).tileAt plane strip row with
  | none => none
  | some t => (s.sourceTile ctx t).map (fun x => x.bytes.getD [])

/-- The history lines above line 0 of a tile with CONT = 1 (R112): those of the reader's cursor when it has read the tile row
above, otherwise the image that verification kept. -/
def State.linesAbove (s : State) (r : Reader) (ctx row b : Nat) : List (List Nat) :=
  if row = 0 then []
  else
    let image := s.imageAt ctx r.plane r.strip (row - 1)
    match s.cursorOf r with
    | some c => repackImage image.1 b (if c.ctx = ctx ∧ c.tileRow + 1 = row ∧ c.line = 16 then c.hist else image.2)
    | none => repackImage image.1 b image.2

/-- Where a reader goes on (R133): offset, history newest drop first, and the flag of R118, from its cursor when that stands
before this line, otherwise from the start of the tile. -/
def State.readFrom (s : State) (r : Reader) (ctx y : Nat) (t : List Byte) : Nat × List Nat × Bool :=
  let above := if tileCont t then flatHist (s.linesAbove r ctx (y / 16) (tileBits t)) else []
  let fresh := skipLines t (y % 16) 0 8 above
  match s.cursorOf r with
  | some c => if 0 < y % 16 ∧ c.ctx = ctx ∧ c.tileRow = y / 16 ∧ c.line = y % 16 then (c.offset, flatHist c.hist, c.bad)
              else (fresh.1, fresh.2, false)
  | none => (fresh.1, fresh.2, false)

/-- A reader decodes raster line `y` of its strip of a page (R112, R133, R137). `fault`: a memory fault that inline ECC did not
correct makes the rest of the tile, and the history, level 0 (R118). -/
def State.readLine (s : State) (r : Reader) (ctx y : Nat) (fault : Bool) : ReadStep :=
  match s.rowBytes ctx r.plane r.strip (y / 16) with
  | none => { offset := 8, hist := List.replicate 8 darkLine, clocks := 0, bad := false }
  | some t =>
    let x := s.readFrom r ctx y t
    let hl := histLines (tileBits t)
    let dark : ReadStep := { offset := x.1, hist := List.replicate hl darkLine, clocks := 36, bad := true }
    if fault || x.2.2 then dark
    else
      let lines (w : List Nat) : List (List Nat) := (List.range hl).map (fun i => newestLine (w.drop (2048 * i)))
      if y % 16 < Sys2Proof.Machine.tileLines t then
        match decodeLine t x.1 x.2.1 with
        | .ok w o c => { offset := o, hist := lines w, clocks := c, bad := false }
        | .bad _ _ => dark
      else { offset := x.1, hist := lines (darkLine ++ x.2.1), clocks := 36, bad := false }

/-- The readers at work on line `i` of a beat with what each decodes; `faults` are the readers, by position, that a memory fault
strikes. -/
def State.readSteps (s : State) (b : Beat) (i : Nat) (faults : List Nat) : List ((Reader × BeatPage × Nat) × ReadStep) :=
  (s.activeReaders b i).zipIdx.map (fun x => (x.1, s.readLine x.1.1 x.1.2.1.ctx x.1.2.2 (faults.contains x.2)))

/-- What a reader holds after its line. -/
def heldLine (x : (Reader × BeatPage × Nat) × ReadStep) : HeldLine :=
  { row := x.1.1.row, plane := x.1.1.plane, strip := x.1.1.strip, ctx := x.1.2.1.ctx, y := x.1.2.2, line := x.2.line, bad := x.2.bad }

/-- Commit the state of one reader to its cursor (R133). -/
def State.commitReader (s : State) (x : (Reader × BeatPage × Nat) × ReadStep) : State :=
  let r := x.1.1
  s.modMal (fun m => { m with cursors := m.cursors.map (fun c =>
    if c.2.die == r.die && c.2.row == r.row && c.2.plane == r.plane && c.2.strip == r.strip then
      (c.1, { c.2 with ctx := x.1.2.1.ctx, tileRow := x.1.2.2 / 16, line := x.1.2.2 % 16 + 1, offset := x.2.offset, hist := x.2.hist,
                       owed := 0, bad := x.2.bad })
    else c) })

/-- The pages that the rows of a beat's die read at line `i` (R129). -/
def State.pagesRead (s : State) (b : Beat) (i : Nat) : List BeatPage :=
  b.pages.filter (fun p =>
    let g := s.setOf p.gen
    match g.classOf (headOfDie b.die) with
    | some k => (List.range k.rows).any (fun r => (rowRead g p b.die (b.die % 2 * k.rows + r) (b.lineNo i) false).isSome)
    | none => false)

/-- The remap work of one line under a generation (R137): the die's nozzles and its exceptions. -/
def GeoSet.lineRemap (g : GeoSet) (die : Nat) : Nat :=
  match g.classOf (headOfDie die) with
  | some k => ceilDiv k.nozzles 8 + 2 * g.excsOfDie die
  | none => 0

/-- The CORE clocks of line `i` of a beat: the larger of its decode and its remap work (R137). The remap works under the generation
of the page read (R129), and under the one active at FORM where no page is; of two it takes the longer (log entry 140). -/
def State.lineClocks (s : State) (b : Beat) (i : Nat) (steps : List ((Reader × BeatPage × Nat) × ReadStep)) : Nat :=
  let dec := sumNat (steps.map (fun x => x.2.clocks))
  let dead := ((s.sub.planAt b.x).inState b.die stDead).length
  let remap := match (s.pagesRead b i).map (fun p => (s.setOf p.gen).lineRemap b.die) with
    | [] => (s.setOf b.gen).lineRemap b.die
    | l => maxNat l
  max dec (remap + 4 * dead)

/-! The prediction of R252. -/

/-- K[ch][INK] of a plane, 0 when PLANE_EN leaves the plane out (R252, R262). -/
def StkCfg.inkOf (c : StkCfg) (plane : Nat) : Nat := u8 c.table (96 + plane / 2) / 16 ^ (plane % 2) % 16
def StkCfg.planeOn (c : StkCfg) (plane : Nat) : Bool := bit (u64 c.table 128) plane
def StkCfg.kOf (c : StkCfg) (ch ink : Nat) : Nat := u16 c.table (32 * ch + 2 * ink)

/-- The profile column of a raster column under a map (R250). -/
def StkMap.profileCol (m : StkMap) (col : Nat) : Option Nat :=
  let k := (65536 * (col : Int) + 32768 - 256 * m.col0).fdiv m.cpp
  if 0 ≤ k ∧ k < m.cols then some k.toNat else none

/-- The global columns that a raster column is attributed to (R250), with the map. -/
def Stk.columnsOf (k : Stk) (col : Nat) : List (Nat × StkMap) :=
  k.maps.entries.filterMap (fun e => match e.2 with
    | some m => (m.profileCol col).map (fun x => (m.base + x, m))
    | none => none)

/-- Add one drop to the prediction ring: sums of K × level × 15 / MAX by channel. -/
def Stk.addDrop (k : Stk) (u plane col level top : Nat) : Stk :=
  let w := u / 16
  if !k.cfg.planeOn plane || decide (16 * w < k.predFrom) then k
  else
    let ink := k.cfg.inkOf plane
    (k.columnsOf col).foldl (fun k x =>
      let key := w * 65536 + x.1
      let old := k.pred.get [] key
      let new := (List.range 3).map (fun ch => old.getD ch 0 + k.cfg.kOf ch ink * level * (15 / top))
      let gone := if 2 ^ k.cfg.predLog2 ≤ w then k.pred.set [] ((w - 2 ^ k.cfg.predLog2) * 65536 + x.1) [] else k.pred
      { k with pred := gone.set [] key new }) k

/-- Add the drops of a written line to the prediction ring (R252), each against MAX of the class that its row prints under (R129). -/
def State.predictLine (s : State) (b : Beat) (i : Nat) (d : DieLevels) : State :=
  if !s.stk.enabled then s
  else
    d.v.entries.foldl (fun s e =>
      match s.nozItem b i e.1 with
      | some m =>
        let w := s.nozOffset b i e.1
        if w ≤ b.lineNo i then s.modStk (fun k => k.addDrop (b.lineNo i - w) m.plane m.col e.2 (max 1 (s.nozClass b i e.1).1.max)) else s
      | none => s) s

/-! Coverage (R342). -/

/-- The zone configuration after the next planning tick. -/
def Zone.cfgComing (z : Zone) : ZoneCfg := match z.cfgNext with | some g => g.val | none => z.cfg

/-- The zone counts a drop of this plane and column (R342), by its last LED_ZONES. -/
def Zone.counts (z : Zone) (plane col : Nat) : Bool :=
  let c := z.cfgComing
  c.gate && bit c.planes plane && decide (c.colLo ≤ col) && decide (col ≤ c.colHi)

/-- Count the drops of one line of a formed beat for the zones that gate. -/
def State.coverLine (s : State) (b : Beat) (d : DieLevels) (i : Nat) : State :=
  d.v.entries.foldl (fun s e =>
    match s.nozItem b i e.1 with
    | some m =>
      let w := s.nozOffset b i e.1
      if b.lineNo i < w then s
      else
        let win := (b.lineNo i - w) / 16
        s.modLed (fun l => { l with zones := ⟨l.zones.entries.map (fun z =>
          if z.2.counts m.plane m.col then
            (z.1, { z.2 with cover := z.2.cover.set 0 win (z.2.cover.get 0 win + 1) })
          else z)⟩ })
    | none => s) s

/-- Count the drops of a formed beat (R342). -/
def State.coverBeat (s : State) (b : Beat) : State :=
  if s.led.zones.entries.any (fun z => z.2.cfgComing.gate) then
    (List.range 16).foldl (fun s i => s.coverLine b (s.lineLevels b (s.verifiedLines b i) i) i) s
  else s

/-- Forget the windows that have left the coverage rings of 8,192 windows. -/
def State.trimCover (s : State) : State :=
  s.modLed (fun l => { l with zones := ⟨l.zones.entries.map (fun z =>
    (z.1, { z.2 with cover := ⟨z.2.cover.entries.filter (fun c => decide (s.mal.formedTo / 16 < c.1 + 8192))⟩ }))⟩ })

/-! Drops lost and clipped (R215, R224). -/

/-- Count the drops lost and clipped on a line, and report a lane's losses once in 1,024 press lines; the limit and the
count run from the last record written. -/
def State.countLost (s : State) (b : Beat) (line : Nat) (d : DieLevels) : State :=
  let s := s.modSub (fun u => { u with lost := satAdd 32 u.lost d.lost, clipped := satAdd 32 u.clipped d.clipped,
                                       dieLost := u.dieLost.set 0 b.die (satAdd 32 (u.dieLost.get 0 b.die) d.lost) })
  if d.lost = 0 then s
  else
    let lane := laneOfDie b.die
    let r := s.sub.laneLost.get {} lane
    let first := if r.count = 0 then d.firstLost.getD 0 else r.first
    let n := satAdd 32 r.count d.lost
    let due := r.due line
    let r' : RateLimit := if due && s.writesEvent 0x0402 then { last := some line } else { r with count := n, first := first }
    let s := s.modSub (fun u => { u with laneLost := u.laneLost.set {} lane r' })
    if due then s.raise 0x0402 lane (leBytes 4 (s.nza first) ++ leBytes 6 line ++ [0, 0] ++ leBytes 4 n) else s

/-! Engines at work. -/

/-- Write one line of a beat (R137, R144, R146); while DRAM accesses fail no segment that reads a page is written (R404). -/
def State.writeSegment (s : State) (e k : Nat) (b : Beat) (faults : List Nat) : State :=
  let i := b.line
  let line := b.x + i
  let lane := laneOfDie b.die
  let steps := s.readSteps b i faults
  let d := s.lineLevels b (steps.map heldLine) i
  let clk := s.lineClocks b i steps
  let late := match s.fir.lastLine with
    | some l => decide (line ≤ l)
    | none => false
  let n := s.beatNozzles b
  let b' := { b with line := i + 1, clocks := b.clocks + clk, ecc := b.ecc || steps.any (fun x => x.2.bad) }
  let s := if s.memLost && !steps.isEmpty then
             (if late then s else s.modMal (fun m => { m with missed := m.missed ++ [(line, { b' with ecc := true })] }))
           else
             let s := steps.foldl State.commitReader s
             if late then s.modLaneRing lane (fun r => { r with late := satAdd 32 r.late 1 })
             else (s.modLaneRing lane (fun r => r.put line { die := b.die, levels := d.list n })).predictLine b i d
  let s := s.countLost b line d
  s.modEngine e (fun g => { (g.setCtx k (some b')) with
    cur := k, busy := g.busy + clk + (if i = 0 then b.clocks else 0) })

/-- SEGMENT_WRITE (R137, R138, R144, R146): engine `e` writes the next line of its beat. `faults` are the readers, by their
position in the order of R137, whose tile bytes met a memory fault that inline ECC did not correct (R118). -/
def execSegmentWrite (e : Fin 64) (faults : List Nat) (s : State) : Host.Outcome State Fault Refusal :=
  match s.pickContext (s.engine e.val) with
  | none => .next s.assignBeats
  | some (k, b) => .next (s.writeSegment e.val k b faults).assignBeats

/-- The engines at work run their beats for one tick (R138, R150). -/
def State.runEngines (s : State) : State :=
  s.mal.engines.keys.foldl (fun s e =>
    match s.pickContext (s.engine e) with
    | some (k, b) => s.modEngine e (fun g => g.setCtx k (some { b with ran := b.ran + 1 }))
    | none => s) s

/-- An engine leaves service (R150) and NE falls (R100). -/
def State.leaveService (s : State) (e cause : Nat) : State :=
  (s.modEngine e (fun g => { g with outCause := cause })).engineLost

/-- OFFLINE takes effect once the engine holds no beat (R150). -/
def State.offlineDue (s : State) (e : Nat) : State :=
  let g := s.engine e
  if g.offline ∧ g.outCause = 0 ∧ g.ctx0 = none ∧ g.ctx1 = none then s.leaveService e 1 else s

/-- A finished beat leaves its context. -/
def State.retireBeat (s : State) (e k : Nat) (b : Beat) : State :=
  s.modEngine e (fun g => { (g.setCtx k none) with beats := satAdd 32 g.beats 1, overs := if b.cost < b.clocks then satAdd 32 g.overs 1 else g.overs })

/-- A context holds a finished beat. -/
def finishedBeat (b : Option Beat) : Option Beat := b.filter (fun x => decide (16 ≤ x.line))

/-- The context with the beat that an engine has finished: the present one before the other. -/
def Engine.finished (g : Engine) : Option (Nat × Beat) :=
  ((finishedBeat g.current).map (fun b => (g.cur, b))).or ((finishedBeat g.other).map (fun b => (1 - g.cur, b)))

/-- ENGINE_BEAT_DONE (R140, R141, R150): engine `e` finishes a beat, counts it, and takes another. -/
def execEngineBeatDone (e : Fin 64) (s : State) : Host.Outcome State Fault Refusal :=
  match (s.engine e.val).finished with
  | some (k, b) => .next ((s.retireBeat e.val k b).offlineDue e.val).assignBeats
  | none => .next s.assignBeats

/-- The beats of an engine that leaves service with beats go to the head of their home queue (R143). -/
def State.handOn (s : State) (e : Nat) : State :=
  let g := s.engine e
  let bs := (g.ctx0.toList ++ g.ctx1.toList).filter (fun b => decide (b.line < 16))
  let s := s.setEngine e { g with ctx0 := none, ctx1 := none }
  (s.modMal (fun m => { m with queued := bs.map (fun b => { b with handed := true }) ++ m.queued })).assignBeats

/-- An engine fails (R150 causes 2 and 3): it leaves service in this tick and hands its beats on. -/
def State.failEngine (s : State) (e cause : Nat) : State := ((s.leaveService e cause).handOn e).blockFailed 4

/-- The beat has run longer than the watchdog allows (R150). -/
def beatOverrun (b : Option Beat) : Bool :=
  match b with
  | some x => decide (2 * x.cost + 4096 < 6 * x.ran)
  | none => false

/-- The beat of context `k` of an engine ends in this tick (R20): its ENGINE_BEAT_DONE stands in the queue. -/
def State.beatEnds (s : State) (e : Fin 64) (k : Nat) : Bool :=
  s.arrives (· == .engineBeatDone e) && ((s.engine e.val).finished.any (fun x => x.1 == k))

/-- ENGINE_WATCHDOG (R20, R150): a beat of engine `e` has run longer than 2 × planned cost + 4,096 clocks, and does not end in this
tick. -/
def execEngineWatchdog (e : Fin 64) (s : State) : Host.Outcome State Fault Refusal :=
  let g := s.engine e.val
  let late (k : Nat) (b : Option Beat) : Bool := beatOverrun b && !s.beatEnds e k
  if s.inService e.val && (late 0 g.ctx0 || late 1 g.ctx1) then .next (s.failEngine e.val 3) else .next s

/-- A write of MAL_ENG_CTL.OFFLINE (R150). -/
def State.writeOffline (s : State) (e : Nat) (off : Bool) : State :=
  (s.modEngine e (fun g => { g with offline := off })).offlineDue e

/-- ENGINE_OFFLINE (R150): the host writes MAL_ENG_CTL.OFFLINE of engine `e`. -/
def execEngineOffline (e : Fin 64) (off : Bool) (s : State) : Host.Outcome State Fault Refusal := .next (s.writeOffline e.val off)

/-! FORM (R134, R135). -/

/-- The press lines of a die's rows under a page meet a window (R129). -/
def pageMeets (g : GeoSet) (p : BeatPage) (die x : Nat) : Bool :=
  match g.classOf (headOfDie die) with
  | none => false
  | some k => decide (die % 2 < k.dies) && (List.range k.rows).any (fun r =>
      let w := g.wOf die (die % 2 * k.rows + r)
      decide (p.start + w < x + 16) && decide (x < p.start + w + ceil16 p.lines))

/-- The pages that the window of press line X reads (R98, R129). -/
def State.windowPages (s : State) (x : Nat) : List BeatPage :=
  s.pgq.ctxs.entries.filterMap (fun e =>
    match e.2.state, e.2.start with
    | .printing, some s0 =>
      (match e.2.abortAt with
       | some a => if a ≤ x then none else some { ctx := e.1, start := s0, gen := e.2.gen, lines := e.2.lines }
       | none => some { ctx := e.1, start := s0, gen := e.2.gen, lines := e.2.lines })
    | _, _ => none)

/-- The planned cost of a beat (R95, R135). -/
def State.plannedCost (s : State) (ps : List BeatPage) (die : Nat) : Nat :=
  let ms := ps.map (fun p => (s.ctx p.ctx).costs.get 0 die)
  sumNat ms - 192 * (ms.length - 1)

/-- The hold lines that held breaks put between the present pass and a press line (R97, R166). -/
def State.holdLines (s : State) (line : Nat) : Nat :=
  sumNat (s.pgq.ctxs.entries.map (fun e =>
    match e.2.start with
    | some x => if e.2.inBreak ∧ s.fir.passStart ≤ e.2.nominal ∧ x ≤ line then x - e.2.nominal else 0
    | none => 0))

/-- The pass that holds a press line is a reverse pass (R164): each pass begins PASS_LINES lines after the one before, and later by
the hold lines between. -/
def State.lineReverse (s : State) (line : Nat) : Bool :=
  let f := s.fir
  let n := f.cfg.passLines
  if !f.cfg.scanning || n == 0 then false
  else if f.cfg.passes = 2 then true
  else if f.cfg.passes = 1 then false
  else
    let k := if line < f.passStart then f.passNo + ceilDiv (f.passStart - line) n else f.passNo + (line - s.holdLines line - f.passStart) / n
    (f.firstDir + k) % 2 = 1

/-- The beat of a die for a window; none: blank (R134). No page that ended by an abort before FORM gives the window a beat (log entry
143); a beat of ladder lines alone is planned at 192 clocks and its remap cost (R149, log entry 145). -/
def State.formBeat (s : State) (x die : Nat) : Option Beat :=
  let ps := (s.windowPages x).filter (fun p => pageMeets (s.setOf p.gen) p die x)
  let lad := s.ladderNozzles x die
  let lad := if lad.all List.isEmpty then [] else lad
  if ps.isEmpty ∧ lad = [] then none
  else some { die := die, x := x, gen := s.geo.active, pages := ps, ladder := ps.isEmpty, ladderNoz := lad,
              cost := if ps.isEmpty then 192 + s.activeSet.remapCost die else s.plannedCost ps die,
              reverse := (List.range 16).map (fun i => s.lineReverse (x + i)) }

/-- The dies for which FET forms beats: those of the active generation and of the pages in the window. -/
def State.windowDies (s : State) (x : Nat) : List Nat :=
  dedup (s.activeSet.dieList ++ (s.windowPages x).flatMap (fun p => (s.setOf p.gen).dieList))

/-- Lanes whose beats of a window are all blank (FET_STATUS.BLANK_ONLY). -/
def blankLanes (dies : List Nat) (beats : List Beat) : Nat :=
  ((dedup (dies.map laneOfDie)).filter (fun l => beats.all (fun b => laneOfDie b.die ≠ l))).length

/-- An engine out of service by the host returns at the next window (R150). -/
def State.returnEngines (s : State) : State :=
  (List.range 64).foldl (fun s e =>
    let g := s.engine e
    if g.outCause = 1 ∧ g.offline = false then s.setEngine e { g with outCause := 0 } else s) s

/-- The tile entries that the readers of a beat need (R135), with the source entry of a REF (R87). -/
def State.beatEntries (s : State) (b : Beat) : Nat :=
  let used := (List.range 16).flatMap (fun i => (s.activeReaders b i).map (fun x => (x.1, x.2.1.ctx, x.2.2 / 16)))
  sumNat ((dedup used).map (fun x =>
    match (s.ctx x.2.1).tileAt x.1.plane x.1.strip x.2.2 with
    | some t => (match t.kind with
      | .ref _ _ _ _ => 2
      | _ => 1)
    | none => 0))

/-- FET forms the beats of the window of press line X (R135). How many of the tile entries that the beats need miss the index cache
is a free value (R136, log entry 37). -/
def State.formWindow (s : State) (x : Nat) : State :=
  if x < s.mal.formedTo then s
  else
    let s := s.returnEngines
    let s := (s.windowPages x).foldl (fun s p => s.spoilPages p.start (ceil16 p.lines)) s
    let dies := s.windowDies x
    let beats := dies.filterMap (s.formBeat x)
    let miss := s.draw % (sumNat (beats.map s.beatEntries) + 1)
    let blank := (dies.filter (fun d => !beats.any (fun b => b.die == d))).map (fun d => (d, x))
    let s := s.drawn.modMal (fun m => { m with formed := m.formed ++ beats, blanks := m.blanks ++ blank, blankOnly := blankLanes dies beats, formedTo := x + 16,
                                               indexMiss := satAdd 32 m.indexMiss miss })
    (beats.foldl State.coverBeat s).trimCover

/-- The beats of the window of X that are not RESOLVED by the trigger of X − 48 (R136): a free count. -/
def State.resolveWindow (s : State) (x : Nat) : State :=
  let n := (s.mal.formed.filter (fun b => b.x == x)).length
  s.drawn.modMal (fun m => { m with formLate := satAdd 32 m.formLate (s.draw % (n + 1)) })

/-- The beat that still owes the segment of a die at a press line, or that a failed DRAM access kept from writing it. -/
def State.owedBeat (s : State) (die line : Nat) : Option Beat :=
  let bs := s.mal.formed ++ s.mal.queued ++ s.mal.engines.entries.flatMap (fun e => e.2.ctx0.toList ++ e.2.ctx1.toList)
  (bs.find? (fun b => b.die == die && decide (b.x ≤ line) && decide (line < b.x + 16) && decide (b.x + b.line ≤ line))).or
    ((s.mal.missed.find? (fun m => m.1 == line && m.2.die == die)).map (fun m => m.2))

/-- A die's segment of a press line is READY (R134, R144): written, or that of a blank beat. -/
def State.dieReady (s : State) (die line : Nat) : Bool :=
  ((s.laneRing (laneOfDie die)).readyAt line).any (fun g => g.die == die) || s.mal.blanks.contains (die, line / 16 * 16)

/-- The page of a beat whose fire span contains a press line (R90). -/
def State.inSpan (s : State) (p : BeatPage) (line : Nat) : Bool :=
  decide (p.start ≤ line) && decide (line ≤ p.start + ceil16 p.lines + (s.setOf p.gen).wMax)

/-- The page of a beat that a press line belongs to: one that some row of the die reads there (R129), or else one whose fire span
contains the line; of several the last in context order (log entry 141). -/
def State.linePage (s : State) (b : Beat) (line : Nat) : Option BeatPage :=
  ((s.pagesRead b (line - b.x)).getLast?).or ((b.pages.filter (fun p => s.inSpan p line)).getLast?)

/-- Forget what lines before L held (R144). -/
def Mal.release (m : Mal) (line : Nat) : Mal :=
  { m with blanks := m.blanks.filter (fun b => decide (line < b.2 + 16)), missed := m.missed.filter (fun x => decide (line ≤ x.1)) }

end Sys2Proof.Machine
end

