-- ==== Sys2Proof/Machine/Snare.lean ====
section
/-! DEFINITION. The Snare head link (chapter 08): line frames and NOFIRE blocks, bring-up, time transfer,
head messages and eye scans. -/
namespace Sys2Proof.Machine

/-! Sending lines (R190 to R194). -/

/-- Why a triggered line fires nothing (R193). -/
inductive NoFire where
  | dropped | hold | halted
deriving DecidableEq, Repr

/-- CAUSE of a NOFIRE block. -/
def NoFire.num : NoFire → Nat
  | .dropped => 0
  | .hold => 1
  | .halted => 2

/-- A triggered line as FIR hands it to SNR: its index, what it fires, PER, and the flags of R190. T_FIRE is
in taps of the pair count. -/
structure LineInfo where
  line : Nat
  tFire : Int := 0
  per : Nat := 0
  noFire : Option NoFire := none
  held : Bool := false
  hold : Bool := false                -- R168: a hold trigger
  drop : Bool := false                -- R168: dropped by this device or by the master
  passStart : Bool := false
  reverse : Bool := false
deriving DecidableEq, Repr

/-- The device sends its frames flagged SHADOW (R375). -/
def State.isShadow (s : State) : Bool := s.twn.role == .shadow

/-- The device sends line frames in its role (R375, R385). -/
def State.sendsFrames (s : State) : Bool :=
  s.twn.role == .lead || s.twn.role == .alone || (s.twn.role == .shadow && s.twn.frames)

/-- ROW_DLY of a row (R159, R191). -/
def rowDelay (per frac : Nat) (rev : Bool) : Nat :=
  if rev then (if frac = 0 then 0 else ((65536 - frac) * per + 32768) / 65536) else (frac * per + 32768) / 65536

/-- Bytes padded with 0 to whole blocks. -/
def padBlock (bs : List Byte) : List Byte := pad (ceilDiv bs.length 8 * 8) bs

/-- The head segment of a slot (R191). -/
def headSegment (p : HeadPlace) (k : HeadClass) (slot : Nat) (li : LineInfo) (levels : Nat → List Nat) : List Byte :=
  let header := [slot, p.cls, k.bits % 8 + 8 * (k.dies - 1) + 16 * b2n p.disabled, k.rows] ++ leBytes 2 k.nozzles ++ [0, 0]
  let delays := (List.range 8).flatMap (fun i => leBytes 4 (if i < k.dies * k.rows then rowDelay li.per (rowFrac p k i) li.reverse else 0))
  let drops := if p.disabled then [] else (List.range k.dies).flatMap (fun d => padBlock (packSyms k.bits (pad k.nozzles (levels d))))
  header ++ delays ++ drops

/-- The occupied head slots of a lane, in rising order. -/
def GeoSet.laneHeads (g : GeoSet) (lane : Nat) : List Nat := g.headList.filter (fun h => h / 8 == lane && (g.classOf h).isSome)

/-- The levels that SNR takes for a die at a line: its READY segment, or level 0 (R146). -/
def State.segmentOf (s : State) (lane die line : Nat) : List Nat :=
  match ((s.laneRing lane).readyAt line).find? (fun g => g.die == die) with
  | some g => g.levels
  | none => []

/-- The line frame of a lane (R190 to R192). -/
def State.frameBytes (s : State) (lane : Nat) (li : LineInfo) : List Byte :=
  let g := s.setOf s.fir.gen
  let heads := g.laneHeads lane
  let sof := [b2n s.isShadow + 2 * b2n li.reverse + 4 * b2n li.held + 8 * b2n li.passStart, s.twn.epoch, lane, heads.length, 0, 0, 0]
  let h1 := leBytes 6 li.line ++ leBytes 2 (genNumber s.fir.gen)
  let h2 := leBytes 6 (toBits 48 (li.tFire.fdiv 24)) ++ [(li.tFire.emod 24).toNat, 0]
  let segs := heads.flatMap (fun h => match g.classOf h with
    | some k => headSegment (g.headAt h) k (h % 8) li (fun d => s.segmentOf lane (2 * h + d) li.line)
    | none => [])
  let body := h1 ++ h2 ++ segs
  let ccrc := leBytes 4 (crc32c body)
  let fcrc := leBytes 4 (crc32c (sof ++ body ++ ccrc))
  [0x78] ++ sof ++ body ++ ccrc ++ fcrc ++ [0xB4] ++ leBytes 2 (body.length / 8 + 3) ++ zeros 5

/-- The NOFIRE block of a line (R193). -/
def State.nofireBytes (s : State) (li : LineInfo) (c : NoFire) : List Byte :=
  let b := (b2n s.isShadow + 2 * c.num) :: leBytes 4 li.line
  [0x66] ++ b ++ leBytes 2 (crc16 b)

/-- A lane carries a line's frame (R186). -/
def State.laneSends (s : State) (lane : Nat) : Bool :=
  (s.lane lane).state == .up && decide ((s.lane lane).upAt < s.tick)

/-- The bytes of an item. -/
def TxItem.bytes : TxItem → List Byte
  | .frame _ b => b
  | .nofire _ b => b
  | .message b => b

/-- Ticks that an item takes on the wire, rounded up (R178): a block is 66 UI, and a tick 4,125/32 UI. -/
def TxItem.ticks (x : TxItem) : Nat := ceilDiv (x.bytes.length / 8 * 66 * 32) 4125

/-- What leaves the pin. -/
def TxItem.out (lane : Nat) : TxItem → Out
  | .frame _ b => .frame lane b
  | .nofire _ b => .nofire lane b
  | .message b => .hubMsg lane b

/-- The lane's transmitter is free in a tick. -/
def Lane.wireFree (l : Lane) (tick : Nat) : Bool :=
  match l.wire with
  | some (_, e) => decide (e ≤ tick)
  | none => true

/-- The press line that a lane has sent last once an item has started, `old` before it (R208). -/
def TxItem.lastSent (old : Nat) : TxItem → Nat
  | .frame line _ => line
  | .nofire line _ => line
  | .message _ => old

/-- An item starts on the wire (R194). -/
def State.startTx (s : State) (lane : Nat) (x : TxItem) : State :=
  (s.modLane lane (fun l => { l with wire := some (x, s.tick + x.ticks), lastSent := x.lastSent l.lastSent })).emit (x.out lane)

/-- A line's frame or NOFIRE block starts, or waits for what is on the wire and for earlier lines (R194). -/
def State.queueTx (s : State) (lane : Nat) (x : TxItem) : State :=
  let l := s.lane lane
  if l.wireFree s.tick && l.txWait.isEmpty then s.startTx lane x
  else s.setLane lane { l with txWait := l.txWait ++ [x] }

/-- A message starts when no line frame waits, or waits (R194). -/
def State.queueMsg (s : State) (lane : Nat) (bytes : List Byte) : State :=
  let l := s.lane lane
  if l.wireFree s.tick && l.txWait.isEmpty then s.startTx lane (.message bytes)
  else s.setLane lane { l with msgWait := some bytes }

/-- A lane whose wire has become free starts what waits, line frames first (R194). -/
def State.runLane (s : State) (lane : Nat) : State :=
  let l := s.lane lane
  if !l.wireFree s.tick then s
  else match l.txWait with
    | x :: rest => (s.setLane lane { l with txWait := rest }).startTx lane x
    | [] => match l.msgWait with
      | some m => (s.setLane lane { l with msgWait := none }).startTx lane (.message m)
      | none => if l.wire.isSome then s.setLane lane { l with wire := none } else s

/-- The lanes go on sending. -/
def State.runLanes (s : State) : State := s.snr.lanes.keys.foldl State.runLane s

/-- Send a line on one lane, or count it as not sent (R186, R193, R194). -/
def State.sendLane (s : State) (li : LineInfo) (lane : Nat) : State :=
  if !s.laneSends lane then s.modLane lane (fun l => { l with skip := satAdd 32 l.skip 1 })
  else if !s.sendsFrames then s
  else
    match li.noFire with
    | some c => s.queueTx lane (.nofire li.line (s.nofireBytes li c))
    | none => if ((s.setOf s.fir.gen).laneHeads lane).isEmpty then s else s.queueTx lane (.frame li.line (s.frameBytes lane li))

/-! Underruns (R99, R148, R149). -/

/-- The limit of R99 that a late segment of a page falls under; none: it belongs to a ladder beat (R149). -/
def State.underrunLimit (s : State) (b : Beat) (p : Option BeatPage) : Nat :=
  match p with
  | none => 4
  | some p =>
    let c := s.ctx p.ctx
    if b.ecc || s.memLost then 2
    else if s.engines < c.engines then 1
    else if s.sys.sramLate then 3
    else if c.abortAt.isSome then 4 else 2

/-- What a die lacks at a press line: the beat that owes the segment, and the PRINTING page that the line belongs to; none for a
ladder beat's segment (R148, R149). -/
def State.lacking (s : State) (die line : Nat) : Option (Beat × Option BeatPage) :=
  match s.owedBeat die line with
  | none => none
  | some b =>
    match s.linePage b line with
    | some p => if (s.ctx p.ctx).state = .printing then some (b, some p) else none
    | none => if b.ladder || !(b.ladderNoz.getD (line - b.x) []).isEmpty then some (b, none) else none

/-- The occupied dies of a lane in force for a line (R134). -/
def State.laneDies (s : State) (lane : Nat) : List Nat := (s.setOf s.fir.gen).dieList.filter (fun d => laneOfDie d == lane)

/-- Write UNDERRUN for a lane whose dies are late at a line (R148), or note that all were READY. A line that a withdrawn permit, a lane
that is down or the drop rule keeps from firing has none (R99). The record names the first late die in die order (log entry 141). -/
def State.underrunLane (s : State) (li : LineInfo) (lane : Nat) : State :=
  let dies := (List.range 16).map (fun i => 16 * lane + i)
  match (dies.filterMap (fun d => s.lacking d li.line)).head? with
  | none => if (s.laneDies lane).all (fun d => s.dieReady d li.line) then s.modLaneRing lane (fun r => { r with lastReady := li.line }) else s
  | some (b, page) =>
    if !s.laneSends lane || li.noFire.isSome || !s.twn.permit then s
    else
      let id := (page.map (fun p => p.ctx)).getD 0
      let line := (page.map (fun p => li.line - p.start)).getD 0
      let s := s.modLaneRing lane (fun r => { r with underrun := satAdd 32 r.underrun 1 })
      s.raise 0x0303 lane (leBytes 6 li.line ++ [id, s.underrunLimit b page] ++ leBytes 4 line ++ zeros 4)

/-! What spoils ladder steps (R258). -/

/-- What a triggered line does to ladder steps: a line that is dropped, halted or not sent, or a ladder
segment that is late, spoils them. -/
def State.spoilLine (s : State) (li : LineInfo) : State :=
  let lateLadder (n : Nat) : Bool := match s.owedBeat (dieOfNoz n) li.line with
    | some b => !b.ladderNoz.isEmpty
    | none => false
  if li.noFire.isSome then s.spoilSteps li.line (fun _ => true)
  else s.spoilSteps li.line (fun n => !s.laneSends (n / 32768) || lateLadder n)

/-- SNR takes the segments of a triggered line and sends it on every lane. -/
def State.sendLine (s : State) (li : LineInfo) : State :=
  let s := s.spoilLine li
  let s := (List.range 64).foldl (fun s l => s.underrunLane li l) s
  (List.range 64).foldl (fun s l => s.sendLane li l) s

/-! Lanes (R183 to R188, R196). -/

/-- The value of a lane state. -/
def LaneState.num : LaneState → Nat
  | .off => 0
  | .train => 1
  | .align => 2
  | .ident => 3
  | .time => 4
  | .up => 5
  | .failed => 6

/-- The lane is in bring-up. -/
def LaneState.bringup : LaneState → Bool
  | .train | .align | .ident | .time => true
  | _ => false

/-- Sum and count of the delays held. -/
def Lane.delaySum (l : Lane) : Int := sumInt l.delays

/-- DELAY_AVG in 16.16 ticks (R187). -/
def Lane.delayAvg (l : Lane) : Nat :=
  let n := l.delays.length
  if n = 0 then 0 else (roundHalfUp (l.delaySum * 32 * 65536) (2 * n * 4125)).toNat

/-- The Snare bound B (R196). -/
def Lane.boundNow (l : Lane) : Nat :=
  let n := l.delays.length
  2191 + (if n = 0 then 0 else ceilDiv (l.delaySum * 32).toNat (2 * n * 4125)) + l.hubSetup

/-- The register SNR_LANE_CTL. -/
def Lane.ctlBits (l : Lane) : Nat := l.txPreset + 16 * b2n l.txInv + 32 * b2n l.rxInv + 64 * b2n l.autoRetrain

/-- A lane enters TRAIN: SNR_LANE_CTL is taken and bring-up starts afresh (R183). A lane that goes on sending numbers its AMs on
(R181). -/
def Lane.train (l : Lane) (tick : Nat) : Lane :=
  { l with state := .train, cause := 0, ctl := l.ctlBits, locked := false, hdrRun := 0, hdrWin := [], amAt := none, missed := 0,
           delays := [], rejRow := 0, bound := 0, trainAt := tick }

/-- A mask of lanes from the lanes it names. -/
def laneMask (p : Nat → Bool) : Nat := maskOf 64 p

/-- Complete the SNR_LANE_ENABLEs whose lanes have all ended (R205). -/
def State.settleEnables (s : State) : State :=
  let ended (w : EnableWait) : Bool := (List.range 64).all (fun l => !bit w.lanes l || !(s.lane l).state.bringup)
  let done := s.snr.waits.filter ended
  let s := s.modSnr (fun n => { n with waits := n.waits.filter (fun w => !ended w) })
  s.completeAll (done.map (fun w =>
    let named (p : Lane → Bool) : Nat := laneMask (fun l => bit w.lanes l && p (s.lane l))
    let up := named (fun l => l.state == .up)
    let failed := named (fun l => l.state == .failed)
    let id := named (fun l => l.state == .failed && l.cause == 3)
    let st := if up = w.lanes then Status.ok else if id ≠ 0 then Status.laneIdMismatch else Status.laneDown
    (w.cmd, st, leBytes 8 up ++ leBytes 8 failed)))

/-- Write LANE_DOWN (R208). -/
def State.laneDownEvent (s : State) (lane cause left : Nat) : State :=
  let l := s.lane lane
  s.raise 0x0602 lane ([cause, left] ++ leBytes 6 l.lastSent ++ leBytes 4 l.syncUp ++ zeros 4)

/-- A line frame is on the wire. -/
def Lane.inFrame (l : Lane) (tick : Nat) : Bool :=
  match l.wire with
  | some (.frame _ _, e) => decide (tick < e)
  | _ => false

/-- What ends with a lane's time in UP: a message waits no longer, a scan is cut, and a frame on the wire stops without EOF (R194,
R202, R203). -/
def State.leaveUp (s : State) (lane : Nat) : State :=
  let l := s.lane lane
  let s := if l.inFrame s.tick then s.emit (.cut lane) else s
  let s := s.setLane lane { l with
    msg := none, bound := 0, wire := none, txWait := [], msgWait := none, scan := l.scan.map (fun x => { x with cut := true }) }
  s.completeOpt (l.msg.map (fun m => m.cmd)) Status.laneDown []

/-- A lane goes to FAILED (R183). -/
def State.failLane (s : State) (lane cause : Nat) : State :=
  let left := (s.lane lane).state
  let s := s.modLane lane (fun l => { l with state := .failed, cause := cause, locked := false })
  let s := s.laneDownEvent lane cause left.num
  (if left = .up then s.leaveUp lane else s).settleEnables

/-- A lane leaves UP for a CAUSE: for TRAIN when AUTO_RETRAIN is in force, otherwise for FAILED (R183). -/
def State.loseLane (s : State) (lane cause : Nat) : State :=
  let l := s.lane lane
  if bit l.ctl 6 then
    let s := s.laneDownEvent lane cause LaneState.up.num
    ((s.leaveUp lane).modLane lane (fun l => { l.train s.tick with cause := cause })).settleEnables
  else s.failLane lane cause

/-- The effect of SNR_LANE_ENABLE (R205). -/
def effSnrLaneEnable : Effect := fun c s =>
  let p := c.packet
  let mask := u64 p 8
  if 10 < u8 p 16 ∨ 3 < u8 p 17 ∨ 2 < u8 p 18 then refuse s
  else if (List.range 64).any (fun l => bit mask l && (s.lane l).state.bringup) then finish s Status.busy
  else
    let s := (List.range 64).foldl (fun s l =>
      if bit mask l then
        s.modLane l (fun x =>
          let x := { x with txPreset := u8 p 16, autoRetrain := bit (u8 p 17) 0 }
          if x.state = .off ∨ x.state = .failed then { x.train s.tick with ignoreId := bit (u8 p 17) 1, wantPort := u8 p 18, amSeq := 0, departs := {} } else x)
      else s) s
    if (List.range 64).all (fun l => !bit mask l || (s.lane l).state == .up) then answer s (leBytes 8 mask ++ zeros 8)
    else (s.modSnr (fun n => { n with waits := n.waits ++ [{ cmd := c.id, lanes := mask }] }), .running)

/-- SNR_LANE_ENABLE (R183, R205). -/
def execSnrLaneEnable (r : Fin 4) (s : State) : Host.Outcome State Fault Refusal :=
  .next (startCommand 0x0601 r.val (.ok []) effSnrLaneEnable s)

/-- Put one lane in OFF (R206). -/
def State.disableLane (s : State) (lane : Nat) : State :=
  let left := (s.lane lane).state
  let s := s.modLane lane (fun l => { l with state := .off, cause := 0, locked := false })
  if left = .up then (s.laneDownEvent lane 0 left.num).leaveUp lane else s

/-- The effect of SNR_LANE_DISABLE (R206). -/
def effSnrLaneDisable : Effect := fun c s =>
  good (((List.range 64).foldl (fun s l => if bit (u64 c.packet 8) l then s.disableLane l else s) s).settleEnables)

/-- SNR_LANE_DISABLE (R183, R206). -/
def execSnrLaneDisable (r : Fin 4) (s : State) : Host.Outcome State Fault Refusal :=
  .next (startCommand 0x0602 r.val (.ok []) effSnrLaneDisable s)

/-- The lane's receiver works: it discards everything in OFF and FAILED (R183). -/
def Lane.listens (l : Lane) : Bool := l.state != .off && l.state != .failed

/-- Block lock is gained (R179, R183). -/
def Lane.gainLock (l : Lane) : Lane :=
  { l with locked := true, hdrRun := 0, hdrWin := [], state := if l.state = .train then .align else l.state }

/-- Block lock is lost (R179, R183). -/
def State.loseLock (s : State) (lane : Nat) : State :=
  let l := s.lane lane
  let s := s.setLane lane { l with locked := false, hdrRun := 0, hdrWin := [], amAt := none, lockLoss := satAdd 16 l.lockLoss 1 }
  if l.state = .up then s.loseLane lane 1 else s

/-- A sync error (R180, R208). -/
def Lane.syncError (l : Lane) : Lane := { l with syncErr := satAdd 16 l.syncErr 1, syncUp := satAdd 32 l.syncUp 1 }

/-- An upstream sync header arrives (R179): 64 valid ones in a row give block lock, and 16 invalid ones within 64 blocks take it.
Under lock an invalid one is a sync error. -/
def State.syncHeader (lane : Nat) (s : State) (valid : Bool) : State :=
  let l := s.lane lane
  if !l.listens then s
  else if !l.locked then
    let n := if valid then l.hdrRun + 1 else 0
    s.setLane lane (if n = 64 then l.gainLock else { l with hdrRun := n })
  else
    let win := (valid :: l.hdrWin).take 64
    let s := s.setLane lane { (if valid then l else l.syncError) with hdrWin := win }
    if 16 ≤ (win.filter (· == false)).length then s.loseLock lane else s

/-- SNR_BLOCK_LOCK (R179, R183): upstream sync headers of a lane in the order of their arrival; true: (0, 1) or (1, 0). -/
def execSnrBlockLock (lane : Fin 64) (headers : List Bool) (s : State) : Host.Outcome State Fault Refusal :=
  .next (headers.foldl (State.syncHeader lane.val) s)

/-- Byte 0 of a control block is a type of R180. -/
def blockType (b : Nat) : Bool := [0x1E, 0x4B, 0x78, 0xB4, 0x66, 0x55, 0x33, 0x5A].contains b

/-- An upstream control block of another type than awaited arrives: a reserved type counts as a sync error (R180). -/
def State.otherBlock (s : State) (lane type : Nat) : State :=
  let l := s.lane lane
  if l.listens && l.locked && !blockType type then s.setLane lane l.syncError else s

/-- ARRIVAL of a TIME block in 2^-16 ticks of the pair count (R188, R371). -/
def State.arrival (s : State) (l : Lane) (t1 : Nat) : Int :=
  let n := max 1 l.delays.length
  roundHalfUp (((2 * n * t1 : Nat) + l.delaySum) * 32 * 24 * 65536 + (24 * s.twn.offTicks + s.twn.offTaps) * (4125 * 2 * n : Nat) * 65536)
    (4125 * 2 * n * 24)

/-- DOWNSTREAM_AM (R181, R188): an AM and a TIME block leave a lane; `uis` is t1 in UI. -/
def execDownstreamAm (lane : Fin 64) (uis : Nat) (s : State) : Host.Outcome State Fault Refusal :=
  let l := s.lane lane.val
  if l.state = .off ∨ l.state = .failed then .next s
  else
    let am := [0x4B, lane.val + 64 * b2n s.isShadow + 128 * b2n s.twn.twin, s.twn.epoch, s.gng.dev, l.amSeq, 0x53, 0x4E, 0x52]
    let a := s.arrival l uis
    let time := if l.state = .time ∨ l.state = .up then leBytes 6 (toBits 48 (a.fdiv 65536)) ++ leBytes 2 (toBits 16 a) else List.replicate 8 0xFF
    let s := s.setLane lane.val { l with amSeq := wrapAdd 8 l.amSeq 1, departs := l.departs.set 0 l.amSeq (uis + 1) }
    .next (s.emit (.am lane.val (am ++ time)))

/-- Pacing runs (R173: FIR_STATUS.STATE 1 or 2). -/
def Fir.runs (f : Fir) : Bool := f.state == .running || f.state == .hold

/-- A lane reaches the end of TIME (R183, R197, R383). -/
def State.endTime (s : State) (lane : Nat) : State :=
  let l := s.lane lane
  let b := l.boundNow
  let extra := if s.paired || s.isShadow then 160 else 0
  if s.fir.runs && decide (s.fir.cfg.fireLat < b + extra) then s.failLane lane 5
  else
    let s := s.setLane lane { l with state := .up, cause := 0, bound := b, upAt := s.tick, syncUp := 0, missed := 0 }
    let s := s.raise 0x0601 lane (leBytes 4 l.delayAvg ++ leBytes 2 l.hubSetup ++ [l.hubLane, l.port] ++ leBytes 4 b ++ zeros 4)
    s.settleEnables

/-- A delay measurement differs from DELAY_AVG, the mean of those accepted, by more than 2 taps (R187). -/
def delayRejected (ds : List Int) (d : Int) : Bool :=
  let n := ds.length
  16 ≤ n && decide ((4125 * 2 * n : Int) < 384 * ((n : Int) * d - sumInt ds).natAbs)

/-- One delay measurement (R187). -/
def State.measureDelay (s : State) (lane : Nat) (turn : List Byte) (t4 : Nat) : State :=
  let l := s.lane lane
  let t1 := l.departs.get 0 (u8 turn 4) -- one more than the departure
  if t1 = 0 then s
  else
    let d : Int := (t4 : Int) + 1 - t1 - u32 turn 0
    if delayRejected l.delays d then
      let s := s.setLane lane { l with timeRej := satAdd 32 l.timeRej 1, rejRow := l.rejRow + 1 }
      if l.state = .up ∧ 64 ≤ l.rejRow + 1 then s.loseLane lane 2 else s
    else
      let l := { l with delays := (d :: l.delays).take 16, rejRow := 0 }
      let s := s.setLane lane { l with bound := if l.state = .up then l.boundNow else l.bound }
      if l.state = .time ∧ 16 ≤ l.delays.length then s.endTime lane else s

/-- The identity check (R184). -/
def Lane.identOk (l : Lane) (lane : Nat) (am : List Byte) : Bool :=
  u8 am 1 % 64 == lane && (l.ignoreId || u8 am 2 == lane) && (l.wantPort == 2 || l.wantPort == b2n (bit (u8 am 1) 6))

/-- Two arrivals in UI lie 16,384 blocks of 66 UI apart, to the nearest block (R183). -/
def amApart (t u : Nat) : Bool := decide (t < u) && (u - t + 33) / 66 == 16384

/-- What an upstream AM tells of the hub (R182, R196). -/
def Lane.hearAm (l : Lane) (am : List Byte) : Lane :=
  let l := { l with port := b2n (bit (u8 am 1) 6), hubLane := u8 am 2, hubSetup := u16 am 4 % 4096, missed := 0 }
  { l with bound := if l.state = .up then l.boundNow else l.bound }

/-- An upstream AM and its TURN block arrive on a lane (R182 to R184, R187). The AM that ends ALIGN is the one that the identity check
judges: IDENT lasts no tick (log entry 154). -/
def State.takeAm (s : State) (lane : Nat) (am turn : List Byte) (uis : Nat) : State :=
  let l := s.lane lane
  if !l.locked || !l.listens || l.state == .train then s
  else if u8 am 0 ≠ 0x4B then s.otherBlock lane (u8 am 0)
  else
    let l := l.hearAm am
    let apart := match l.amAt with
      | some t => amApart t uis
      | none => false
    if l.state = .align ∧ apart = false then s.setLane lane { l with amAt := some uis }
    else if l.state = .align ∨ l.state = .ident then
      if l.identOk lane am then (s.setLane lane { l with state := .time }).measureDelay lane turn uis
      else (s.setLane lane { l with state := .ident }).failLane lane 3
    else (s.setLane lane l).measureDelay lane turn uis

/-- UPSTREAM_AM (R182 to R184, R187): an upstream AM and its TURN block arrive; `uis` is t4 in UI. -/
def execUpstreamAm (lane : Fin 64) (am turn : List Byte) (uis : Nat) (s : State) : Host.Outcome State Fault Refusal :=
  .next (s.takeAm lane.val am turn uis)

/-- AM_MISSED (R183): an AM position passes without a valid AM. -/
def execAmMissed (lane : Fin 64) (s : State) : Host.Outcome State Fault Refusal :=
  let l := s.lane lane.val
  if l.state = .off ∨ l.state = .failed ∨ l.state = .train then .next s
  else
    let s := s.setLane lane.val { l with amErr := satAdd 16 l.amErr 1, missed := l.missed + 1, amAt := if l.state = .align then none else l.amAt }
    .next (if l.state = .up ∧ 4 ≤ l.missed + 1 then s.loseLane lane.val 2 else s)

/-- The upstream AMs of a lane that arrive in this tick bring it up (R20). -/
def State.comesUp (s : State) (lane : Nat) : Bool :=
  let t := s.pending.foldl (fun s i => match i with
    | .upstreamAm l am turn uis => if l.val = lane then s.takeAm lane am turn uis else s
    | _ => s) s
  (t.lane lane).state == .up

/-- LANE_BRINGUP_TIMEOUT (R183): a lane is short of UP 10 ms after it entered TRAIN, and does not come up in this tick (R20). -/
def execLaneBringupTimeout (lane : Fin 64) (s : State) : Host.Outcome State Fault Refusal :=
  let l := s.lane lane.val
  .next (if l.state.bringup && decide (l.trainAt + 2000000 ≤ s.tick) && !s.comesUp lane.val then s.failLane lane.val 4 else s)

/-- STATUS_BLOCK (R201): head status of a slot arrives. -/
def execStatusBlock (lane : Fin 64) (bytes : List Byte) (s : State) : Host.Outcome State Fault Refusal :=
  let l := s.lane lane.val
  let slot := u8 bytes 1
  if u8 bytes 0 ≠ 0x33 then .next (s.otherBlock lane.val (u8 bytes 0))
  else if !l.locked || !l.listens || decide (7 < slot) then .next s
  else
    let old := l.heads.get {} slot
    let new : HeadStat := { state := u8 bytes 2, temp := u16 bytes 3, fault := u16 bytes 5 }
    let s := s.setLane lane.val { l with heads := l.heads.set {} slot new }
    if old.state = new.state then .next s
    else
      let sev := if bit new.state 3 && !bit old.state 3 then Sev.fault else (eventSeverity 0x0604).getD 0
      .next (s.raiseAt 0x0604 sev lane.val ([slot, new.state, old.state, 0] ++ leBytes 2 new.temp ++ leBytes 2 new.fault ++ s.lineBytes ++ [0, 0]))

/-! Head messages (R202). -/

/-- The blocks of a message. -/
def messageBytes (tag : Nat) (payload : List Byte) : List Byte :=
  let body := padBlock payload
  [0x55, payload.length, tag] ++ zeros 5 ++ body ++ leBytes 4 (crc32c body) ++ zeros 4

/-- The effect of SNR_HEAD_MSG (R202). -/
def effSnrHeadMsg : Effect := fun c s =>
  let p := c.packet
  let lane := u8 p 8
  let n := u8 p 9
  if 63 < lane ∨ n = 0 ∨ 40 < n ∨ u8 p 10 = 0 ∨ u64 p 16 % 8 ≠ 0 then refuse s
  else if (s.lane lane).state ≠ .up then finish s Status.laneDown
  else if (s.lane lane).msg.isSome then finish s Status.busy
  else
    let tag := (s.lane lane).msgTag
    let s := s.modLane lane (fun l => { l with
      msgTag := wrapAdd 8 tag 1, msg := some { cmd := c.id, tag := tag, deadline := s.tick + 200000 * u8 p 10, replyAddr := u64 p 16 } })
    (s.queueMsg lane (messageBytes tag ((p.drop 24).take n)), .running)

/-- SNR_HEAD_MSG (R202). -/
def execSnrHeadMsg (r : Fin 4) (s : State) : Host.Outcome State Fault Refusal :=
  .next (startCommand 0x0604 r.val (.ok []) effSnrHeadMsg s)

/-- The payload of a message as it arrives, block by block from its MSG block: its layout and its CRC-32C agree (R202). -/
def messagePayload (b : List Byte) : Option (List Byte) :=
  let n := u8 b 1
  let body := (b.drop 8).take (ceilDiv n 8 * 8)
  if u8 b 0 = 0x55 ∧ 1 ≤ n ∧ n ≤ 40 ∧ zeroRange b 3 8 = true ∧ b.length = 16 + body.length ∧ u32 b (8 + body.length) = crc32c body then
    some (body.take n)
  else none

/-- The reply that a lane's message waits for: the payload of a good one with its TAG. -/
def Lane.replyOf (l : Lane) (b : List Byte) : Option (HeadMsg × List Byte) :=
  match l.msg, messagePayload b with
  | some m, some x => if u8 b 2 = m.tag then some (m, x) else none
  | _, _ => none

/-- HUB_REPLY (R202): the blocks of a reply arrive, MSG block first; one with a bad CRC or a stale TAG is discarded. -/
def execHubReply (lane : Fin 64) (blocks : List Byte) (s : State) : Host.Outcome State Fault Refusal :=
  let l := s.lane lane.val
  if l.state ≠ .up then .next s
  else if !blockType (u8 blocks 0) then .next (s.otherBlock lane.val (u8 blocks 0))
  else match l.replyOf blocks with
    | some (m, x) =>
      let s := s.setLane lane.val { l with msg := none, msgWait := none }
      let s := if m.replyAddr = 0 then s else s.writeResults (some m.cmd) m.replyAddr x
      .next (s.complete m.cmd Status.ok (x.length :: x.take 15))
    | none => .next (s.setLane lane.val { l with msgErr := satAdd 16 l.msgErr 1 })

/-- HEAD_MSG_TIMEOUT (R202): the message's timeout expires, and its reply does not arrive in this tick (R20). -/
def execHeadMsgTimeout (lane : Fin 64) (s : State) : Host.Outcome State Fault Refusal :=
  let l := s.lane lane.val
  let replied := s.arrives (fun i => match i with
    | .hubReply n b => n == lane && (l.replyOf b).isSome
    | _ => false)
  match l.msg with
  | some m =>
    if m.deadline ≤ s.tick ∧ (replied && l.state == .up) = false then
      .next ((s.setLane lane.val { l with msg := none, msgWait := none }).complete m.cmd Status.hubNoReply [])
    else .next s
  | none => .next s

/-! Eye scans (R203, R204). -/

/-- A step of phase or voltage codes. -/
def scanStepOk (n : Nat) : Bool := n == 1 || n == 2 || n == 4 || n == 8

/-- Eye scans at work. -/
def State.scansActive (s : State) : Nat := (s.snr.lanes.entries.filter (fun e => e.2.scan.isSome)).length

/-- The effect of SNR_EYE_SCAN (R203). -/
def effSnrEyeScan : Effect := fun c s =>
  let p := c.packet
  let lane := u8 p 8
  if 63 < lane ∨ scanStepOk (u8 p 9) = false ∨ scanStepOk (u8 p 10) = false ∨ u8 p 11 < 20 ∨ 36 < u8 p 11 ∨ u64 p 16 % 8 ≠ 0
      ∨ u32 p 24 < 32 + 4 * (64 / u8 p 9) * (128 / u8 p 10) then refuse s
  else if (s.lane lane).state ≠ .up then finish s Status.laneDown
  else if (s.lane lane).scan.isSome then finish s Status.busy
  else if 4 ≤ s.scansActive then finish s Status.noResource
  else
    (s.modLane lane (fun l => { l with
      scan := some { cmd := c.id, phStep := u8 p 9, vStep := u8 p 10, dwell := u8 p 11, addr := u64 p 16, start := s.nowNs } }), .running)

/-- SNR_EYE_SCAN (R203). -/
def execSnrEyeScan (r : Fin 4) (s : State) : Host.Outcome State Fault Refusal :=
  .next (startCommand 0x0603 r.val (.ok []) effSnrEyeScan s)

/-- EYE_SCAN_DONE (R203, R204): a scan ends, or is cut short by its lane leaving UP; `counts` are the error
counts of the points done. -/
def execEyeScanDone (lane : Fin 64) (counts : List Nat) (s : State) : Host.Outcome State Fault Refusal :=
  let l := s.lane lane.val
  match l.scan with
  | none => .next s
  | some x =>
    let total := 64 / x.phStep * (128 / x.vStep)
    if !x.cut && decide (counts.length < total) then .next s
    else
      let pts := (counts.take total).flatMap (fun n => leBytes 4 (min n (2 ^ 32 - 1)))
      let header := [lane.val, x.phStep, x.vStep, x.dwell, 64 / x.phStep, 128 / x.vStep, 0, 0] ++ leBytes 8 x.start ++ leBytes 8 s.nowNs
        ++ leBytes 4 (pts.length / 4) ++ leBytes 4 (crc32c pts)
      let s := (s.setLane lane.val { l with scan := none }).writeResults (some x.cmd) x.addr (header ++ pts)
      .next (s.complete x.cmd (if x.cut then Status.laneDown else Status.ok) [])

/-- The effect of SNR_QUERY (R207). -/
def effSnrQuery : Effect := fun c s =>
  if 63 < u8 c.packet 8 then refuse s
  else
    let l := s.lane (u8 c.packet 8)
    answer s ([l.state.num, l.cause, l.hubLane, l.port] ++ leBytes 4 l.delayAvg ++ leBytes 2 l.hubSetup ++ [0, 0] ++ leBytes 4 l.bound)

/-- SNR_QUERY (R207). -/
def execSnrQuery (r : Fin 4) (s : State) : Host.Outcome State Fault Refusal :=
  .next (startCommand 0x0605 r.val (.ok []) effSnrQuery s)

end Sys2Proof.Machine
end

