-- ==== Sys2Proof/Machine/Pacing.lean ====
section
/-! DEFINITION. Fire pacing (chapter 07): the pacing position, due points and triggers, the line boundary with the
beat and page boundaries keyed to it, scanning passes and HOLD, the Gong bus, and the PACE commands. -/
namespace Sys2Proof.Machine

/-! Position (R151, R153, R154). -/

/-- The slip encoder, when one is configured. -/
def State.slipChan (s : State) : Option Chan :=
  if s.fir.cfg.slipEnc ≤ 7 then some (s.seenChan s.fir.cfg.slipEnc) else none

/-- The slip encoder's ENCODER_FAULT stands (R155). -/
def State.slipFaulty (s : State) : Bool :=
  match s.slipChan with
  | some c => c.fault
  | none => false

/-- Add pacing steps to Q, each multiplied by R_EFF (R153). -/
def State.addSteps (s : State) (n : Int) : State :=
  if n = 0 then s
  else
    let dq := roundFree (n * s.rEff) 2147483648
    s.modFir (fun f => { f with planSteps := f.planSteps + n, q := if f.paced then f.q + dq else f.q })

/-- σ of the pass that holds the next press line (R156, R164). -/
def State.sigma (s : State) : Int := if s.lineReverse s.fir.nextLine then -1 else 1

/-- The high-water mark after Q has moved, and the end of a retreat (R157). -/
def State.markWater (s : State) : State :=
  if !s.fir.paced || s.fir.between || s.fir.holding || decide (s.fir.cfg.source = 3) then s
  else
    let sq := s.sigma * s.fir.q
    s.modFir (fun f => { f with hwm := max f.hwm sq, retreated := f.retreated && decide (sq < f.hwm) })

/-- What FIR does in each tick (R153, R284): the pacing axis's steps and one part in 4,000 of C. -/
def State.tickPacing (s : State) : State :=
  let s := (List.range 2).foldl (fun s x =>
    let a := s.axis x
    let now := a.stepsAt s.tick
    if now = a.sent then s
    else
      let s := s.setAxis x { a with sent := now }
      if s.pacingAxis = some x then s.addSteps (now - a.sent) else s) s
  let s := s.modFir (fun f =>
    if f.paced && f.c ≠ 0 then
      { f with q := f.q + (f.c + f.cFrac).fdiv 4000, cFrac := (f.c + f.cFrac).emod 4000 }
    else f)
  s.markWater

/-- How far the slip encoder has moved since E0 (R154): a WRAP channel's changes, each a signed difference, add up (R296). -/
def State.slipMoved (s : State) (c : Chan) : Int :=
  if c.cfg.wrap then s.fir.ehSum + toSigned 32 (toBits 32 (c.eh - s.fir.ehLast)) else c.eh - s.fir.e0

/-- *e* of R154: the slip encoder's count after hysteresis less E0, less Q. -/
def State.slipError (s : State) (c : Chan) : Int := s.slipMoved c * 4294967296 - s.fir.q

/-- The change of the slip encoder's count up to now is taken (R296). -/
def State.takeSlip (s : State) : State :=
  match s.slipChan with
  | some c => s.modFir (fun f => { f with ehSum := s.slipMoved c, ehLast := c.eh })
  | none => s

/-- The planning-tick work of FIR (R154, R155). -/
def State.planFir (s : State) : State :=
  let f := s.fir
  let s := match s.slipChan with
    | none => s.modFir (fun f => { f with c := 0, trim := 0 })
    | some ch =>
      if ch.fault then s
      else if !f.paced then s.modFir (fun f => { f with noSlip := false })
      else
        let e := s.slipError ch
        let lim : Int := f.cfg.corrMax * 65536
        let c := clampI (-lim) lim (roundFree (f.cfg.slipKp * e) 65536)
        let top : Int := f.cfg.slipMax * 32768
        let trim :=
          if 0 < f.planSteps then
            clampI (-top) top (f.trim + roundFree (f.cfg.slipKi * e * 32768) (f.planSteps * f.cfg.rNom).toNat)
          else f.trim
        s.modFir (fun f => { f with c := c, trim := trim, noSlip := false })
  s.takeSlip.modFir (fun f => { f with planSteps := 0 })

/-- ENCODER_FAULT on the slip encoder (R155): correction stops and TRIM holds. -/
def State.slipFault (s : State) (ch : Nat) : State :=
  if s.fir.cfg.slipEnc = ch then s.modFir (fun f => { f with c := 0, cFrac := 0, noSlip := true }) else s

/-! Due points and the trigger test (R156, R158, R164). -/

/-- D(L) for the next press line, in units of 2^−32 count (R156, R164). -/
def State.duePoint (s : State) (line : Nat) : Int :=
  let f := s.fir
  if f.cfg.scanning then
    let k := if f.passStart ≤ line then line - f.passStart else 0
    if s.lineReverse line then f.cfg.origin + ((f.cfg.passLines - 1 - k : Nat) : Int) * f.cfg.pitch
    else f.cfg.origin + (k : Int) * f.cfg.pitch
  else f.qStart + f.dist + ((line : Int) - f.firstLine) * f.cfg.pitch

/-- *v* of R158 in counts per tick, as a numerator over a denominator (R151). -/
def State.paceSpeed (s : State) : Int × Nat :=
  match s.fir.cfg.source with
  | 2 =>
    (match s.fir.lastInterval, s.fir.lastEdge with
     | some i, some e => (s.fir.lastDir * s.rEff, 2 ^ 63 * max 1 (max i (s.tick - e)))
     | _, _ => (0, 1))
  | 3 => (0, 1)
  | x =>
    let a := s.axis x
    let vlim := s.vLim x
    let moved := a.plannedPos vlim (s.tick + s.fir.cfg.fireLat) - a.plannedPos vlim s.tick
    (moved * s.rEff, posUnit * max 1 s.fir.cfg.fireLat * 2 ^ 63)

/-- σ × Q lies more than BACKTOL below the high-water mark (R157). -/
def State.fallsBack (s : State) : Bool :=
  decide (s.sigma * s.fir.q < s.fir.hwm - (s.fir.cfg.backTol : Int) * 4294967296)

/-- FIR tests lines from its own source: pacing, in a pass, and not following (R158, R165, R166, R169). -/
def State.testsLines (s : State) : Bool :=
  s.fir.paced && !s.fir.between && !s.fir.holding && decide (s.fir.cfg.source < 3)

/-- The next line is due within FIRE_LAT (R158): T(L) in taps and PER(L). -/
def State.dueNow (s : State) : Option (Int × Nat) :=
  let f := s.fir
  let w := s.paceSpeed
  let sv := s.sigma * w.1
  let delta := s.sigma * (s.duePoint f.nextLine - f.q)
  if s.testsLines = false ∨ f.retreated = true ∨ s.fallsBack = true ∨ sv ≤ 0 ∨ f.trigTick = some s.tick
      ∨ sv * f.cfg.fireLat * 4294967296 < delta * w.2 then none
  else
    let lead := max (24 * ((f.cfg.fireLat : Int) - 1)) ((24 * delta * w.2).fdiv (sv * 4294967296))
    let per := roundFree (24 * f.cfg.pitch * w.2) (sv * 4294967296).toNat
    some (24 * (s.pairTick : Int) + lead, min (2 ^ 32 - 1) per.toNat)

/-! The period floor and the outcome (R160, R161). -/

/-- The last press line of a page's fire span (R90). -/
def State.spanEnd (s : State) (c : Ctx) : Nat := c.start.getD 0 + c.span + (s.setOf c.gen).wMax

/-- The PRINTING pages whose fire span contains a press line, in order of their numbers. -/
def State.pagesAt (s : State) (line : Nat) : List (Nat × Ctx) :=
  s.pgq.ctxs.entries.filter (fun e => e.2.state == .printing &&
    (match e.2.start with
     | some x => decide (x ≤ line) && decide (line ≤ s.spanEnd e.2)
     | none => false))

/-- The page that prints a press line: of those whose fire span contains it, the one that started last; 0: none. -/
def State.pageAt (s : State) (line : Nat) : Nat :=
  ((s.pagesAt line).foldl (fun (b : Nat × Nat) e =>
    if b.1 = 0 ∨ b.2 < e.2.start.getD 0 then (e.1, e.2.start.getD 0) else b) (0, 0)).1

/-- The period floor in force at a line (R160). -/
def State.floorAt (s : State) (line : Nat) : Nat :=
  maxNat (s.fir.cfg.pressFloor :: (s.setOf s.fir.gen).minPeriod :: (s.pagesAt line).map (fun e => e.2.floor))

/-- How FIR decides a line (R161, R166, R171). -/
inductive LineFate where
  | fired (t : Int)
  | held (t : Int)
  | dropped (cause : Nat)
  | hold
  | halted (t : Int)
deriving DecidableEq, Repr

/-- R161 with the floor `p`, and what R169 and R171 put before it. -/
def State.lineFate (s : State) (t : Int) (per p : Nat) (masterDrop holdLine : Bool) : LineFate :=
  if s.fir.state = .halted ∨ s.gongLow = true then .halted t
  else if holdLine then .hold
  else if masterDrop then .dropped 1
  else
    match s.fir.tLast with
    | none => .fired t
    | some l =>
      if (p : Int) ≤ t - l then .fired t
      else if l + p < t + per then .held (l + p)
      else .dropped 0

/-- FIR's counters and T_LAST after a line (R161, R171). -/
def State.countFate (s : State) (f : LineFate) : State :=
  match f with
  | .fired t => s.modFir (fun x => { x with tLast := some t })
  | .held t => s.modFir (fun x => { x with tLast := some t, held := satAdd 32 x.held 1 })
  | .dropped _ => s.modFir (fun x => { x with drops := satAdd 32 x.drops 1 })
  | .hold => s
  | .halted _ => s.modFir (fun x => { x with haltLines := satAdd 32 x.haltLines 1 })

/-- LINE_DROP, once in 1,024 press lines (R162, R177); the limit and the count run from the last record written. -/
def State.reportDrop (s : State) (line cause : Nat) : State :=
  let r := s.fir.dropRec
  let n := satAdd 32 r.count 1
  let r' : RateLimit := if r.due line && s.writesEvent 0x0501 then { last := some line } else { r with count := n }
  let s := s.modFir (fun f => { f with dropRec := r' })
  if r.due line then s.raise 0x0501 0 (leBytes 6 line ++ [s.pageAt line, cause] ++ leBytes 4 n ++ leBytes 4 s.fir.floor) else s

/-- The line as FIR hands it to SNR, with the flags of its Gong frame: HOLD for a hold trigger, DROP for a line dropped here or by
the master (R168, R169). -/
def LineFate.info (f : LineFate) (line per : Nat) (masterDrop holdLine passStart reverse : Bool) : LineInfo :=
  let b : LineInfo := { line := line, per := per, hold := holdLine, drop := masterDrop, passStart := passStart, reverse := reverse }
  match f with
  | .fired t => { b with tFire := t }
  | .held t => { b with tFire := t, held := true }
  | .dropped _ => { b with noFire := some .dropped, drop := true }
  | .hold => { b with noFire := some .hold }
  | .halted t => { b with noFire := some .halted, tFire := t }

/-! The Gong bus, sending (R167, R168). -/

/-- FLAGS of a Gong LINE frame with its TYPE (R167). -/
def gongFlags (type : Nat) (li : LineInfo) : Nat :=
  type + 16 * b2n li.reverse + 32 * b2n li.passStart + 64 * b2n li.hold + 128 * b2n li.drop

/-- The 17 characters of a Gong frame (R167); K27.7 is written 0xFB. -/
def gongFrame (flags line due per seq : Nat) : List Byte :=
  let body := [flags] ++ leBytes 6 line ++ leBytes 3 due ++ leBytes 4 per ++ [seq % 256]
  [0xFB] ++ body ++ [crc8 body]

/-- The tick in which a frame asked for in this tick starts (R168): a frame takes 85 ticks. -/
def State.gongStart (s : State) (wait : Nat) : Nat :=
  match s.fir.gongSentAt with
  | some t => max (s.tick + wait) (t + 85)
  | none => s.tick + wait

/-- A master computes a Gong frame; the lead's transmitter drives it (R152, R168). -/
def State.sendGong (s : State) (wait flags line : Nat) (tFire : Option Int) (per : Nat) : State :=
  if s.fir.role ≠ 1 then s
  else
    let start := s.gongStart wait
    let due := match tFire with
      | some t => (t - 24 * ((start : Int) + s.twn.offTicks) - s.twn.offTaps).toNat % 2 ^ 24
      | none => 0
    let f := gongFrame flags line due per s.fir.gongSeq
    let s := s.modFir (fun x => { x with gongSentAt := some start, gongSeq := wrapAdd 8 x.gongSeq 1 })
    if s.twn.role.acting then s.emit (.gong f) else s

/-- The LINE record of a lead (R374, R382): press line, T_FIRE, PER and the flags of a Gong LINE frame. -/
def lineRecord (li : LineInfo) : List Byte :=
  leBytes 6 li.line ++ leInt 8 li.tFire ++ leBytes 4 li.per ++ [gongFlags 1 li]

/-- T_FIRE as a Gong frame's DUE tells it (R167): none for a dropped line, nor for a hold trigger, which has no T(L) (log entry 125). -/
def LineInfo.dueTime (li : LineInfo) : Option Int := if li.drop || li.hold then none else some li.tFire

/-- What a trigger sends beside its Snare frames (R168, R382). -/
def State.announceLine (s : State) (li : LineInfo) : State :=
  let s := if s.twn.role = .lead then s.sendTwin (.line (lineRecord li)) else s
  s.sendGong 2 (gongFlags 1 li) li.line li.dueTime li.per

/-! Stopping (R168, R172, R174). -/

/-- A RATIO_ONLY change takes effect (R172). -/
def Fir.takeRatio (f : Fir) : Fir :=
  match f.ratioNext with
  | some r => { f with cfg := r.val, ratioNext := none }
  | none => f

/-- Pacing stops (R174): no further trigger; every waiting PACE_STOP has reached its completion point. -/
def State.stopPacing (s : State) : State :=
  let waits := s.fir.stopWait
  let was := s.fir.paced
  let s := s.modFir (fun f => { f with
    paced := false, between := false, holding := false, retreated := false, stopWait := [], c := 0, cFrac := 0,
    state := if f.state = .halted then .halted else .stopped })
  let s := if was then s.sendGong 2 3 (s.fir.lastLine.getD 0) none 0 else s
  let s := s.modTwn (fun t => { t with predTick := none, predFlags := none })
  s.completeAll (waits.map (fun w => (w.cmd, Status.ok, [])))

/-- Pacing stops as PACE_STOP with WHEN 0 stops it (R169, R171, R174), also in HALTED. -/
def State.stopNow (s : State) : State :=
  (if s.fir.state = .halted then s.modFir (fun f => { f with state := .stopped }) else s).stopPacing

/-! GONG_HALT_N (R171). -/

/-- This device drives GONG_HALT_N low (R171); the cause is that of R177. The first cause stands. -/
def State.driveHalt (s : State) (cause : Nat) : State :=
  if s.fir.haltDrive then s else s.modFir (fun f => { f with haltDrive := true, haltCause := cause })

/-- The assertion of GONG_HALT_N is recognised (R171): HALTED, the record, and the pacing axis stops. -/
def State.haltAsserted (s : State) : State :=
  if s.gng.haltLevel = false ∧ s.fir.state = .halted then s
  else
    let s := s.modGng (fun g => { g with haltLevel := false, seenOther := false })
    let s := s.modFir (fun f => { f with state := .halted })
    let s := s.raise 0x0505 0 ([b2n s.fir.haltDrive, if s.fir.haltDrive then s.fir.haltCause else 3] ++ s.lineBytes ++ zeros 8)
    match s.pacingAxis with
    | some x => s.stopAxis x 0 none
    | none => s

/-- GONG_HALT_N is low and its assertion has not been recognised yet (R171, R428). -/
def State.haltPending (s : State) : Bool := s.gongLow && (s.gng.haltLevel || s.fir.state ≠ .halted)

/-- GONG_HALT_N has returned high, and HALT_LEVEL still reads 0 (R428). -/
def State.risePending (s : State) : Bool := !s.gongLow && !s.gng.haltLevel

/-- One sample of the line in a tick (R428): the second one in a row at another level than that recognised changes it. -/
def State.sampleHalt (s : State) : State :=
  if !s.haltPending && !s.risePending then (if s.gng.seenOther then s.modGng (fun g => { g with seenOther := false }) else s)
  else if !s.gng.seenOther then s.modGng (fun g => { g with seenOther := true })
  else if s.haltPending then s.haltAsserted
  else s.modGng (fun g => { g with haltLevel := true, seenOther := false })

/-- GONG_HALT (R171, R428): by the samples of the line, newest first, another device of the press asserts it, or this device's own drive
is recognised. -/
def execGongHalt (samples : List Bool) (s : State) : Host.Outcome State Fault Refusal :=
  if filterLine 2 true samples then .next s
  else
    let s := if s.haltPending then s else s.modGng (fun g => { g with otherLow := true })
    .next s.haltAsserted

/-- GONG_HALT_RELEASE (R428): by the samples of the line, newest first, no other device drives it; it returns high unless this device
drives it. -/
def execGongHaltRelease (samples : List Bool) (s : State) : Host.Outcome State Fault Refusal :=
  if filterLine 2 false samples = false then .next s
  else
    let s := s.modGng (fun g => { g with otherLow := false })
    .next (if s.fir.haltDrive then s else s.modGng (fun g => { g with haltLevel := true, seenOther := false }))

/-- A fire permit withdrawal while a page is PRINTING drives GONG_HALT_N (R171, R393). -/
def State.permitLost (s : State) : State := if s.anyPrinting then s.driveHalt 1 else s

/-! Pages at a line (R74, R81, R97, R98, R145). -/

/-- Floors that wait for a line boundary take effect (R100, R160). -/
def State.takeFloors (s : State) : State :=
  s.pgq.ctxs.keys.foldl (fun s id =>
    match lastDue (s.ctx id).floorsNext s.tick with
    | some p => s.modCtx id (fun c => { c with floor := p, floorsNext := stillWaiting c.floorsNext s.tick })
    | none => s) s

/-- The generation in force for a line (R77): that of the newest page that has begun. -/
def State.genAt (s : State) (line : Nat) : Nat :=
  let started := (s.pgq.ctxs.entries.filter (fun e => e.2.state == .printing &&
    (match e.2.start with
     | some x => decide (x ≤ line)
     | none => false))).map (fun e => e.2.gen)
  let g := maxNat (s.fir.gen :: started)
  if (s.genOf g).isSome then g else s.geo.active

/-- A page's start is not fixed yet (R97): a page or segment before it waits in a held break. The fuel bounds the
queue. -/
def State.waits (s : State) : Nat → Nat → Bool
  | 0, _ => false
  | fuel + 1, id =>
    let c := s.ctx id
    if c.state.held = false then false
    else if c.start.isNone then true
    else if c.startKind = .chained then c.pred != 0 && !c.predDone && s.waits fuel c.pred
    else c.behind != 0 && s.waits fuel c.behind

/-- Lanes take a new layout at the trigger of S − 16 (R145). -/
def State.relayoutAt (s : State) (line : Nat) : State :=
  s.pgq.ctxs.keys.foldl (fun s id =>
    let c := s.ctx id
    if c.live ∧ c.start = some (line + 16) ∧ s.waits 256 id = false then s.layoutRings (s.setOf c.gen) else s) s

/-- A page's first beat is formed (R26, R81): PRINTING, and its generation becomes active (R74). -/
def State.beginPage (s : State) (id : Nat) : State :=
  let g := (s.ctx id).gen
  let s := s.changePage id .printing 0
  let s := s.modPgq (fun q => { q with lastBoundary := some s.tick })
  if g = s.geo.pending ∧ g ≠ 0 then s.activate g else s

/-- The chained successors that are not VERIFIED at their page boundary make their jobs take held breaks (R97): those whose first
line lies below the end of the windows formed. -/
def State.beginBreaks (s : State) (bound : Nat) : State := s.pgq.ctxs.keys.foldl (fun s id => s.beginBreak id bound) s

/-- The page boundary and FORM of the window of press line X (R26, R135). A page whose first window was formed before its start was
fixed begins with the next (log entry 149). -/
def State.formAt (s : State) (x : Nat) : State :=
  if x < s.mal.formedTo then s
  else
    let s := s.pgq.queue.foldl (fun s id =>
      let c := s.ctx id
      if c.state == .queued && (match c.start with | some b => decide (b ≤ x) | none => false) && !s.waits 256 id then s.beginPage id else s) s
    (s.beginBreaks (x + 16)).formWindow x

/-- Form every window whose FORM trigger is at or before a line and that holds later lines (R134, R135): one at every
16th line of an unbroken sequence. -/
def State.formUpTo (s : State) (line : Nat) : State :=
  (List.range 5).foldl (fun s k => s.formAt ((line / 16 + k) * 16)) s

/-- SEGMENT_GAP at the trigger of V, which fixes S′ (R97). -/
def State.reportGaps (s : State) (line : Nat) : State :=
  s.pgq.ctxs.keys.foldl (fun s id => if (s.ctx id).gapAt = some line then s.writeGap id else s) s

/-- V as the trigger of a press line moves it (R97): V is the first multiple of 16 whose trigger falls strictly after the VERIFIED
tick, so neither a trigger of that tick counts nor a multiple that a start or the Gong bus has passed. -/
def Ctx.gapLine (c : Ctx) (line tick : Nat) : Option Nat :=
  c.gapAt.map (fun v => if v = line ∧ c.setTick = tick then line + 16 else max v (ceil16 line))

/-- The held breaks whose V a trigger moves: their S′, and the pages behind the job, move with it (R97). -/
def State.delayGaps (s : State) (line : Nat) : State :=
  s.pgq.ctxs.keys.foldl (fun s id =>
    let c := s.ctx id
    let v := c.gapLine line s.tick
    if v = c.gapAt then s
    else
      let x := v.getD 0 + 64
      let s := s.setCtx id { c with gapAt := v, start := c.start.map (fun b => max b x) }
      s.shiftBehind id (x - c.start.getD 0)) s

/-- The successor of a page that reaches DONE keeps the start its chain gives it (R96). -/
def State.leaveSuccessor (s : State) (id : Nat) : State :=
  let c := s.ctx id
  if c.succ = 0 then s
  else
    let n := s.nominalStart 256 c.succ
    s.modCtx c.succ (fun x => { x with
      predDone := true, nominal := if x.inBreak then x.nominal else if x.start.isSome then x.nominal else n.getD x.nominal })

/-- A page's last line has been triggered (R76, R81, R98): DONE, or ABORTED once its last prepared beat has fired, with the segments
chained to it since its abort. -/
def State.finishPage (s : State) (id : Nat) : State :=
  let c := s.ctx id
  let s := match c.abortAt with
    | some _ =>
      let s := (s.setCtx id { c with abortCmds := [], abortAt := none }).unlinkPage id
      let s := s.changePage id .aborted c.abortCause
      let s := s.completeAll (c.abortCmds.map (fun k => (k, Status.ok, [])))
      if (s.ctx id).succ = 0 then s else (s.modCtx id (fun x => { x with succ := 0 })).endJob 256 (s.ctx id).succ 5
    | none =>
      let s := s.leaveSuccessor id
      let s := s.modPgq (fun q => { q with queue := q.queue.filter (· ≠ id) })
      s.changePage id .done 0
  s.freeGens.activateIdle

/-- The press line after which a PRINTING page ends (R81, R98). -/
def State.pageEnd (s : State) (c : Ctx) : Nat :=
  match c.abortAt with
  | some a => min (a - 1) (s.spanEnd c)
  | none => s.spanEnd c

/-- End the pages whose last line is this one. -/
def State.endPages (s : State) (line : Nat) : State :=
  s.pgq.ctxs.keys.foldl (fun s id =>
    let c := s.ctx id
    if c.state = .printing ∧ s.pageEnd c ≤ line then s.finishPage id else s) s

/-- Pages whose first line this is leave their held break (R97). -/
def State.leaveBreaks (s : State) (line : Nat) : State :=
  s.pgq.ctxs.keys.foldl (fun s id =>
    let c := s.ctx id
    if c.inBreak ∧ c.start = some line then s.setCtx id { c with inBreak := false } else s) s

/-- Mark the pages that fire a line while NOSLIP = 1 (R155). -/
def State.markNoSlip (s : State) (line : Nat) (li : LineInfo) : State :=
  if s.fir.noSlip && li.noFire.isNone then
    (s.pagesAt line).foldl (fun s e => s.modFir (fun f => { f with noSlipMap := f.noSlipMap.set false e.1 true })) s
  else s

/-! Passes and HOLD (R164 to R166). -/

/-- A page waits in a held break for the pass that would begin at a press line (R166). -/
def State.breakAt (s : State) (line : Nat) : Option (Nat × Ctx) :=
  s.pgq.ctxs.entries.find? (fun e => e.2.inBreak && e.2.nominal == line &&
    (match e.2.start with
     | some x => decide (line < x)
     | none => true))

/-- After the last line of a pass (R165, R166): between passes, or HOLD in a held break. A follower takes its hold lines from the
master (R168, R169). -/
def State.endPass (s : State) (line : Nat) : State :=
  let f := s.fir
  if !f.cfg.scanning || f.cfg.passLines == 0 || f.holding || decide (line + 1 < f.passStart + f.cfg.passLines) then s
  else
    let hold := decide (f.cfg.source < 3) && (s.breakAt (line + 1)).isSome
    s.modFir (fun f => { f with between := true, holding := hold, holdTick := s.tick, passStart := line + 1, passNo := f.passNo + 1,
                                retreated := false, state := if f.state = .halted then .halted else .hold })

/-- FIR leaves HOLD (R166): the next pass begins at `line`. -/
def State.leaveHold (s : State) (line : Nat) : State :=
  s.modFir (fun f => { f with holding := false, passStart := line })

/-- After a hold trigger (R166): HOLD ends after that of S′ − 1, or at a multiple of 16 when the break is over. A follower's hold
lines are the master's (R169). -/
def State.holdStep (s : State) (line : Nat) : State :=
  let next := line + 1
  if s.fir.cfg.source = 3 then s
  else match s.breakAt s.fir.passStart with
  | some e => if e.2.start = some next then s.leaveHold next else s
  | none => if next % 16 = 0 then s.leaveHold next else s

/-! The line boundary (R26). -/

/-- A PACE_STOP that waits has seen its last trigger (R174). -/
def State.stopDue (s : State) (line : Nat) : Bool :=
  s.fir.stopWait.any (fun w => (w.whenKind == 1 && decide (w.line ≤ line)) || (w.whenKind == 2 && s.fir.between))

/-- The trigger of a press line (R26): the line is decided and sent, and everything keyed to its line boundary happens.
`t` is T(L), or the lead's T_FIRE on a shadow. -/
def State.trigger (s : State) (line : Nat) (t : Int) (per : Nat) (masterDrop holdLine passStart reverse : Bool) : State :=
  let s := s.takeFloors.delayGaps line
  let s := s.modFir (fun f => match f.ratioNext with | some r => if r.tick < s.tick then f.takeRatio else f | none => f)
  let s := s.modFir (fun f => { f with lastLine := some line, nextLine := line + 1, trigTick := some s.tick, per := per,
                                       gen := s.genAt line })
  let s := s.modTwn (fun w => { w with frames := w.inStep && !(w.absent && !w.healthy), predTick := none,
                                       predFlags := none })
  let s := s.writeNotes
  let p := s.floorAt line
  let s := s.modFir (fun f => { f with floor := p })
  let fate := s.lineFate t per p masterDrop holdLine
  let li := fate.info line per masterDrop holdLine passStart reverse
  let s := s.countFate fate
  let s := match fate with | .dropped c => s.reportDrop line c | _ => s
  let s := ((List.range 64).foldl (fun s l => s.modLaneRing l (fun r => r.release line)) s).modMal (fun m => m.release line)
  let s := s.relayoutAt line
  let s := s.sendLine li
  let s := s.announceLine li
  let s := s.markNoSlip line li
  let s := s.leaveBreaks line
  let s := s.formUpTo line
  let s := if line % 16 = 0 then s.resolveWindow (line + 48) else s
  let s := s.reportGaps line
  let s := s.endPages line
  let s := s.proofCount 4 16384
  let s := if holdLine then s.holdStep line else s.endPass line
  if s.stopDue line then s.stopPacing else s

/-- A line waits for the lead's LINE record (R382): on a shadow, and on a new lead that predicted it before the exchange (R389). -/
def State.awaitsRecord (s : State) : Bool := s.twn.role == .shadow || s.twn.predTick.isSome

/-- A shadow's own prediction of a line that a Gong frame or a hold floor gives, with its flags (R382). -/
def State.predict (s : State) (t : Int) (per flags : Nat) : State :=
  if s.twn.predTick.isSome then s
  else s.modTwn (fun w => { w with predTick := some s.tick, predDue := t, predPer := per, predFlags := some flags })

/-- The next press line is due within FIRE_LAT (R158): its trigger. A shadow keeps what its own FIR predicts and triggers by the
lead's LINE records (R382). -/
def State.testLine (s : State) : State :=
  match s.dueNow with
  | none => s
  | some (t, per) =>
    if s.awaitsRecord then
      (if s.twn.predTick.isSome then s
       else s.modTwn (fun w => { w with predTick := some s.tick, predDue := t, predPer := per }))
    else
      let line := s.fir.nextLine
      s.trigger line t per false false (s.fir.cfg.scanning && line == s.fir.passStart) (s.lineReverse line)

/-- FIR retreats (R157, R177). -/
def State.testRetreat (s : State) : State :=
  if s.testsLines && !s.fir.retreated && s.fallsBack then
    let s := s.modFir (fun f => { f with retreated := true, retreats := satAdd 32 f.retreats 1 })
    s.raise 0x0502 0 (leBytes 6 s.fir.nextLine ++ [b2n (s.lineReverse s.fir.nextLine), 0]
      ++ leInt 8 (s.fir.hwm.fdiv 4294967296))
  else s

/-- PASS_ARM (R165): the carriage is a pitch or more before the next pass's first due point. -/
def execPassArm (s : State) : Host.Outcome State Fault Refusal :=
  let f := s.fir
  let sq := s.sigma * f.q
  if f.paced && f.between && !f.holding && decide (f.cfg.source < 3) && decide ((f.cfg.pitch : Int) ≤ s.sigma * s.duePoint f.passStart - sq) then
    .next (s.modFir (fun f => { f with between := false, hwm := sq, retreated := false,
                                       state := if f.state = .halted then .halted else .running }))
  else .next s

/-- Hold triggers (R166): one per floor in force, each with the next press line index. A shadow keeps it as its own
prediction (R382). -/
def State.testHold (s : State) : State :=
  let f := s.fir
  let p := s.floorAt f.nextLine
  if f.paced && f.holding && decide (f.cfg.source < 3) && decide (p ≤ 24 * (s.tick - f.holdTick)) && f.trigTick ≠ some s.tick then
    if s.awaitsRecord then s.predict 0 p 0x40
    else (s.modFir (fun x => { x with holdTick := s.tick })).trigger f.nextLine 0 p false true false false
  else s

/-- The level that all the samples share. -/
def steady (samples : List Bool) : Option Bool :=
  match samples with
  | [] => none
  | v :: vs => if vs.all (· == v) then some v else none

/-- The level of PACE_DIR that counts for a STEP edge whose rise is the second newest sample (R151): the level of the 4 ticks before
it; none where PACE_DIR was not stable over them. -/
def paceDir (samples : List (Fin 4)) : Option Bool := steady (((samples.drop 2).take 4).map (fun x => bit x.val 1))

/-- A pacing step of source 2 in the sense `forward` that PACE_DIR gives, before DIR_INVERT (R151, R153). -/
def State.stepEdge (s : State) (forward : Bool) : State :=
  let d : Int := if (forward != s.fir.cfg.dirInvert) then 1 else -1
  let s := s.modFir (fun f =>
    { f with lastInterval := match f.lastEdge with | some e => some (s.tick - e) | none => f.lastInterval,
             lastEdge := some s.tick, lastDir := d })
  (s.addSteps d).markWater

/-- PACE_STEP_EDGE (R151, R153): the samples of PACE_STEP (bit 0) and PACE_DIR (bit 1) up to this tick, newest first. Two equal samples
move the accepted level of PACE_STEP; its rise is an edge. The direction of an edge before which PACE_DIR was not stable for 4 ticks is a
free bit (log entry 153). -/
def execPaceStepEdge (samples : List (Fin 4)) (s : State) : Host.Outcome State Fault Refusal :=
  let level := filterLine 2 s.fir.stepLevel (samples.map (fun x => bit x.val 0))
  let edge := level && !s.fir.stepLevel && s.fir.cfg.source == 2
  let s := s.modFir (fun f => { f with stepLevel := level })
  if edge then
    match paceDir samples with
    | some forward => .next (s.stepEdge forward)
    | none => .next (s.drawn.stepEdge (bit s.draw 0))
  else .next s

/-! The Gong bus, receiving (R169, R170). -/

/-- What a follower takes of a pass from the flags of a line (R168, R169). -/
def Fir.gongPass (f : Fir) (line : Nat) (first rev : Bool) : Fir :=
  if first then { f with passStart := line, firstDir := b2n rev, passNo := 0, between := false, holding := false,
                         state := if f.state = .halted then .halted else .running } else f

/-- A follower raises the trigger of a LINE frame (R169); on a shadow the frame is its own prediction, and the lead's
LINE record triggers the line (R382). -/
def State.gongLine (s : State) (arrival : Nat) (b : List Byte) : State :=
  let line := u48 b 2
  let flags := u8 b 1
  let seen := match s.fir.lastLine with | some l => decide (line ≤ l) | none => false
  if seen || !s.fir.paced || decide (s.fir.cfg.source ≠ 3) then s
  else
    let gap := match s.fir.trigTick with
      | some t => if s.fir.startTick < t then line - s.fir.nextLine else 0
      | none => 0
    let rev := bit flags 4
    let s := s.modFir (fun f => { f.gongPass line (bit flags 5) rev with
      gongMissed := satAdd 16 f.gongMissed gap, nextLine := line })
    let t : Int := (arrival : Int) + u24 b 8 - s.gng.linkDelay
    if s.awaitsRecord then s.predict t (u32 b 11) flags
    else s.trigger line t (u32 b 11) (bit flags 7) (bit flags 6) (bit flags 5) rev

/-- A Gong frame with a good CRC (R167, R169). -/
def goodGong (bytes : List Byte) : Bool := bytes.length == 17 && crc8 ((bytes.drop 1).take 15) == u8 bytes 16

/-- A good Gong frame arrives in this tick (R170). -/
def State.gongArrives (s : State) : Bool :=
  s.gng.rxEn && s.gng.rxLock && s.arrives (fun i => match i with
    | .gongFrameRx _ b => goodGong b
    | _ => false)

/-- A Gong frame arrives (R169, R170): `arrival` is the instant of its first bit at the pin, in taps. -/
def State.takeGong (s : State) (arrival : Nat) (bytes : List Byte) : State :=
  if !s.gng.rxEn || !s.gng.rxLock || bytes.length ≠ 17 then s
  else if !goodGong bytes then s.modFir (fun f => { f with gongCrc := satAdd 16 f.gongCrc 1 })
  else
    let s := s.modFir (fun f => { f with goodFrameAt := some s.tick, goodLine := u48 bytes 2, goodSeq := u8 bytes 15 })
    match u8 bytes 1 % 16 with
    | 1 => if s.fir.role = 2 then s.gongLine arrival bytes else s
    | 3 => if s.fir.role = 2 ∧ (s.fir.paced = true ∨ s.fir.state = .halted) then s.stopNow else s
    | _ => s

/-- GONG_IDLE_SEND (R168): 1,000 ticks have passed without a frame. -/
def execGongIdleSend (s : State) : Host.Outcome State Fault Refusal :=
  let due := match s.fir.gongSentAt with
    | some t => decide (t + 85 + 1000 ≤ s.tick)
    | none => decide (1000 ≤ s.tick)
  if s.fir.role = 1 ∧ due = true then .next (s.sendGong 0 2 (s.fir.lastLine.getD 0) none 0) else .next s

/-- GONG_LOST (R170): a running follower has had no good frame for 4,000 ticks, and none arrives in this one (R20). -/
def execGongLost (s : State) : Host.Outcome State Fault Refusal :=
  let late := match s.fir.goodFrameAt with
    | some t => decide (t + 4000 ≤ s.tick)
    | none => true
  if s.fir.role = 2 ∧ s.fir.paced = true ∧ late = true ∧ s.gongArrives = false then
    let s := s.raise 0x0504 0 (leBytes 6 s.fir.goodLine ++ [s.fir.goodSeq] ++ zeros 9)
    .next (s.stopPacing.driveHalt 0)
  else .next s

/-! Commands (R172 to R176). -/

/-- PACE_CONFIG's parameters (R172). -/
def parsePace (p : List Byte) : PaceCfg :=
  { source := u8 p 8, scanning := u8 p 9 == 1, slipEnc := u8 p 10, dirInvert := bit (u8 p 11) 0, passes := u8 p 12,
    backTol := if u8 p 13 = 0 then 2 else u8 p 13, slipKp := u16 p 14, pitch := u64 p 16, rNom := u64 p 24, slipKi := u16 p 32,
    slipMax := u16 p 34, fireLat := u32 p 36, passLines := u32 p 40, pressFloor := u32 p 44, origin := i64 p 48, corrMax := u32 p 56 }

/-- The ranges of PACE_CONFIG (R172). -/
def paceBad (p : List Byte) : Bool :=
  let c := parsePace p
  decide (3 < c.source) || decide (1 < u8 p 9) || !(decide (c.slipEnc ≤ 7) || c.slipEnc == 0xFF) || decide (4 ≤ u8 p 11)
    || decide (2 < c.passes) || c.pitch == 0 || c.rNom == 0 || decide (8192 < c.slipMax) || decide (c.fireLat < 100)
    || decide (20000 < c.fireLat) || !zeroRange p 60 64
    || (if c.scanning then c.passLines % 16 ≠ 0 || decide (c.passLines < 16) || decide (2 ^ 24 < c.passLines)
        else c.passes ≠ 0 || c.passLines ≠ 0 || c.origin ≠ 0)

/-- What RATIO_ONLY changes (R172). -/
def PaceCfg.withRatio (c n : PaceCfg) : PaceCfg :=
  { c with rNom := n.rNom, slipKp := n.slipKp, slipKi := n.slipKi, slipMax := n.slipMax }

/-- The effect of PACE_CONFIG (R171, R172). TRIM starts from 0 under a new configuration and stays over PACE_STOP and PACE_START (log
entry 146); a ceiling limits no axis that FIR does not pace from (R163). -/
def effPaceConfig : Effect := fun c s =>
  let p := c.packet
  let n := parsePace p
  let ratio := bit (u8 p 11) 1
  if paceBad p then refuse s
  else if s.fir.state = .halted ∨ (s.fir.runs = true ∧ ratio = false) then finish s Status.paceRunning
  else if ratio then
    let next := ((match s.fir.ratioNext with | some r => r.val | none => s.fir.cfg)).withRatio n
    good (s.modFir (fun f => { f with ratioNext := some ⟨next, s.tick⟩ }))
  else
    let s := s.modFir (fun f => { f with cfg := n, cfgDone := true, ratioNext := none, trim := 0, c := 0,
                                         capped := f.capped && n.source == f.cfg.source })
    good (s.modFir (fun f => { f with noSlip := s.slipFaulty }))

/-- PACE_CONFIG (R172). -/
def execPaceConfig (r : Fin 4) (s : State) : Host.Outcome State Fault Refusal :=
  .next (startCommand 0x0501 r.val (.ok []) effPaceConfig s)

/-- The sources a role allows (R152). -/
def roleSource (role source : Nat) : Bool := if role = 2 then source == 3 else decide (source < 3)

/-- FIRE_LAT is below the Snare bound of a lane in UP, here or at the partner (R197, R383). -/
def State.latencyShort (s : State) : Bool :=
  let lat := s.fir.cfg.fireLat
  (List.range 64).any (fun l => (s.lane l).state == .up && decide (lat < (s.lane l).bound))
    || (s.paired && s.twn.health.bounds.any (fun b => b ≠ 0 && decide (lat < b + 160)))

/-- A source that PACE_START needs is absent (R173). -/
def State.sourceAbsent (s : State) : Bool :=
  let c := s.fir.cfg
  (decide (c.source < 2) && !(s.axis c.source).cfg.enable)
    || (decide (c.slipEnc ≤ 7) && !(s.chan c.slipEnc).configured)
    || (s.fir.role == 2 && (match s.fir.goodFrameAt with
        | some t => decide (t + 4000 < s.tick)
        | none => true))

/-- Scanning without a slip encoder whose position is valid (R153, R296). -/
def State.noPosition (s : State) : Bool :=
  s.fir.cfg.scanning && (match s.slipChan with
    | some c => !c.posValid || c.cfg.wrap
    | none => true)

/-- State obligations of PACE_START without a status of their own (R152, R173, R197). -/
def State.startBad (s : State) (p : List Byte) : Bool :=
  let c := s.fir.cfg
  !roleSource s.fir.role c.source
    || (s.fir.role ≠ 2 && decide (u48 p 8 < (match s.fir.lastLine with | some l => l + 1 | none => 0)))
    || (if c.scanning then u64 p 16 ≠ 0 else decide (u64 p 16 < c.pitch) || u8 p 24 ≠ 0)
    || s.latencyShort

/-- Pacing starts (R153, R156, R157, R164). -/
def State.startPacing (s : State) (first dist dir : Nat) : State :=
  let old := s.fir.stopWait
  let eh := match s.slipChan with | some c => c.eh | none => 0
  let scan := s.fir.cfg.scanning
  let q : Int := if scan then eh * 4294967296 else 0
  let first := if s.fir.role = 2 then (match s.fir.lastLine with | some l => l + 1 | none => 0) else first
  let s := s.modFir (fun f => { f with
    state := if scan && f.role ≠ 2 then .hold else .running, paced := true, between := scan && f.role ≠ 2, holding := false,
    q := q, cFrac := 0, c := 0, e0 := if scan then 0 else eh, ehLast := eh, ehSum := 0, planSteps := 0, hwm := q, retreated := false, qStart := q, dist := dist,
    firstLine := first, firstDir := dir, passNo := 0, passStart := first, nextLine := first, startTick := s.tick, stopWait := [] })
  let s := s.completeAll (old.map (fun w => (w.cmd, Status.ok, [])))
  if s.fir.role = 2 then s
  else if first = 0 then (List.range 4).foldl (fun s k => s.formAt (k * 16)) s
  else s.formUpTo (first - 1)

/-- The effect of PACE_START (R171, R173). -/
def effPaceStart : Effect := fun c s =>
  let p := c.packet
  if u16 p 14 ≠ 0 ∨ zeroRange p 25 64 = false ∨ 1 < u8 p 24 then refuse s
  else if s.fir.runs then finish s Status.paceRunning
  else if s.fir.cfgDone = false ∨ s.geo.active = 0 ∨ s.noPosition = true then finish s Status.notReady
  else if s.sourceAbsent then finish s Status.sourceAbsent
  else if s.startBad p then refuse s
  else
    let s := s.modFir (fun f => { f with haltDrive := false })
    if s.gng.otherLow then finish s Status.denied
    else good (s.startPacing (u48 p 8) (u64 p 16) (u8 p 24))

/-- PACE_START (R173). -/
def execPaceStart (r : Fin 4) (s : State) : Host.Outcome State Fault Refusal :=
  .next (startCommand 0x0502 r.val (.ok []) effPaceStart s)

/-- The effect of PACE_STOP (R171, R174). -/
def effPaceStop : Effect := fun c s =>
  let p := c.packet
  let w := u8 p 8
  if 2 < w ∨ 1 < u8 p 9 ∨ zeroRange p 10 16 = false ∨ zeroRange p 22 64 = false then refuse s
  else if w = 2 ∧ s.fir.runs = true ∧ s.fir.cfg.scanning = false then refuse s
  else
    let s := if u8 p 9 = 1 then s.driveHalt 2 else s
    if s.fir.state = .halted then good s.stopNow
    else if !s.fir.paced then good s
    else
      let past := match s.fir.lastLine with | some l => decide (u48 p 16 ≤ l) | none => false
      let now := w == 0 || (w == 1 && past) || (w == 2 && s.fir.between)
      if now then good s.stopNow
      else (s.modFir (fun f => { f with stopWait := f.stopWait ++ [⟨c.id, w, u48 p 16, u8 p 9 == 1⟩] }), .running)

/-- PACE_STOP (R174). -/
def execPaceStop (r : Fin 4) (s : State) : Host.Outcome State Fault Refusal :=
  .next (startCommand 0x0503 r.val (.ok []) effPaceStop s)

/-- The effect of PACE_ROLE (R171, R175). -/
def effPaceRole : Effect := fun c s =>
  let p := c.packet
  if 2 < u8 p 8 ∨ zeroRange p 9 64 = false then refuse s
  else if s.fir.state ≠ .stopped then finish s Status.paceRunning
  else good (s.modFir (fun f => { f with role := u8 p 8 }))

/-- PACE_ROLE (R175). -/
def execPaceRole (r : Fin 4) (s : State) : Host.Outcome State Fault Refusal :=
  .next (startCommand 0x0504 r.val (.ok []) effPaceRole s)

/-- The value of FIR_STATUS.STATE. -/
def PaceState.num : PaceState → Nat
  | .stopped => 0
  | .running => 1
  | .hold => 2
  | .halted => 3

/-- FIR_STATUS. -/
def State.firStatus (s : State) : Nat :=
  let f := s.fir
  f.state.num + 4 * f.role + 16 * f.cfg.source + 64 * b2n f.cfg.scanning + 128 * b2n (f.paced && s.lineReverse f.nextLine)
    + 256 * b2n f.retreated + 512 * b2n f.noSlip + 1024 * b2n f.capped
    + 2048 * b2n (match f.goodFrameAt with | some t => decide (s.tick ≤ t + 4000) | none => false) + 4096 * b2n f.haltDrive

/-- The effect of PACE_QUERY (R176). -/
def effPaceQuery : Effect := fun _ s => answer s (leBytes 2 s.firStatus ++ s.lineBytes ++ leBytes 4 s.fir.floor ++ leBytes 4 s.fir.per)

/-- PACE_QUERY (R176). -/
def execPaceQuery (r : Fin 4) (s : State) : Host.Outcome State Fault Refusal :=
  .next (startCommand 0x0505 r.val (.ok []) effPaceQuery s)

end Sys2Proof.Machine
end

