-- ==== Sys2Proof/Machine/Feedback.lean ====
section
/-! DEFINITION. Position feedback (chapter 13): quadrature and SSI counting, direction hysteresis, index check, speed,
probes, compare outputs, switch inputs, and the ENC commands. -/
namespace Sys2Proof.Machine

/-! The count (R291, R294, R295). -/

/-- DIR and EH after the count has moved (R294). A change of DIR sets the reference edge of R299. -/
def Chan.follow (c : Chan) : Chan :=
  let h : Int := if c.cfg.hyst = 0 then 2 else c.cfg.hyst
  if c.reverse then
    if c.eh + h < c.count then { c with reverse := false, eh := c.count, refEdge := c.lastEdge }
    else if c.count < c.eh then { c with eh := c.count } else c
  else
    if c.count < c.eh - h then { c with reverse := true, eh := c.count, refEdge := c.lastEdge }
    else if c.eh < c.count then { c with eh := c.count } else c

/-- A signed difference of counts: a WRAP channel's is taken mod 2^32 (R296). -/
def Chan.diff (c : Chan) (x y : Int) : Int := if c.cfg.wrap then toSigned 32 (toBits 32 (x - y)) else x - y

/-- Keep the count as it stood at the end of the tick before (R303). -/
def Chan.keepPast (c : Chan) (tick : Nat) : Chan :=
  if c.changedAt = some tick then c else { c with changedAt := some tick, prev := c.count }

/-- The count at the end of the tick before the present one (R303). -/
def Chan.countBefore (c : Chan) (tick : Nat) : Int := if c.changedAt = some tick then c.prev else c.count

/-- Move the count by `n` (R295): WRAP wraps, SAT stops at its limits, sets SAT and clears POS_VALID. -/
def Chan.move (c : Chan) (n : Int) (tick : Nat) : Chan :=
  let c := c.keepPast tick
  if c.setAt = some tick then c
  else if c.cfg.wrap then { c with count := toSigned 32 (toBits 32 (c.count + n)) }
  else
    let x := c.count + n
    if x < c.cfg.cntMin ∧ n < 0 then { c with count := c.cfg.cntMin, sat := true, posValid := false }
    else if c.cfg.cntMax < x ∧ 0 < n then { c with count := c.cfg.cntMax, sat := true, posValid := false }
    else { c with count := x }

/-- What the correction of R298 adds at an accepted edge. -/
def Chan.correct (c : Chan) : Chan × Int :=
  match c.corr with
  | none => (c, 0)
  | some k =>
    let e := k.edges + 1
    if e % max 1 k.k = 0 then
      ({ c with corr := if k.left ≤ 1 then none else some { k with left := k.left - 1, edges := e } }, -k.sign)
    else ({ c with corr := some { k with edges := e } }, 0)

/-- The filtered pair of a channel (R290), from the samples of A and B, 2 × A + B, newest first. -/
def filterPair (n old : Nat) (samples : List (Fin 4)) : Nat :=
  2 * b2n (filterLine n (bit old 1) (samples.map (fun x => bit x.val 1))) + b2n (filterLine n (bit old 0) (samples.map (fun x => bit x.val 0)))

/-- The place of a filtered state in the forward sequence 00, 01, 11, 10 (R291). -/
def quadPlace : Nat → Nat
  | 0 => 0
  | 1 => 1
  | 3 => 2
  | _ => 3

/-- What a change of state means (R291): none for a transition error. -/
def quadStep (before after : Nat) : Option Int :=
  match (quadPlace after + 4 - quadPlace before) % 4 with
  | 0 => some 0
  | 1 => some 1
  | 3 => some (-1)
  | _ => none

/-- An accepted edge (R291, R298, R299). -/
def Chan.edge (c : Chan) (d : Int) (tick : Nat) : Chan :=
  let x := c.correct
  let c := x.1.move (d + x.2) tick
  ({ c with edges := c.edges + 1, clean := c.clean + 1, lastEdge := some (tick, c.count) } : Chan).follow

/-! Compare outputs (R304, R305). -/

/-- A loaded list takes over from the tick after its commit (R305). -/
def Cmpr.settle (o : Cmpr) (tick : Nat) : Cmpr :=
  match stagedDue o.listNext tick with
  | some l => { o with list := l, listNext := none, next := 0, loaded := !l.entries.isEmpty }
  | none => o

/-- The count crosses an entry in a direction that it allows (R304). -/
def crosses (e : Int × Nat) (before after : Int) : Bool :=
  (decide (before < e.1) && decide (e.1 ≤ after) && e.2 ≠ 2) || (decide (e.1 < before) && decide (after ≤ e.1) && e.2 ≠ 1)

/-- Take the entries that a move of the count crosses, one after another (R304, R305): the output and how many. The fuel
bounds them by the list's length. -/
def Cmpr.cross (before after : Int) : Nat → Cmpr → Nat → Cmpr × Nat
  | 0, o, n => (o, n)
  | fuel + 1, o, n =>
    if !o.loaded then (o, n)
    else
      match o.list.entries[o.next]? with
      | none => (o, n)
      | some e =>
        if crosses e before after then
          let last := decide (o.list.entries.length ≤ o.next + 1)
          Cmpr.cross before after fuel
            { o with next := if last then (if o.list.cycle then 0 else o.next) else o.next + 1, loaded := !last || o.list.cycle } (n + 1)
        else (o, n)

/-- What a move of a channel's count means for one compare output (R304, R305). -/
def State.compareMove (ch : Nat) (before after : Int) (s : State) (out : Nat) : State :=
  let o := (s.cmpr out).settle s.tick
  if o.list.chan ≠ ch ∨ o.loaded = false then s
  else
    let r := Cmpr.cross before after o.list.entries.length o 0
    if r.2 = 0 then s
    else
      let active := match o.pulse with | some x => decide (s.tick < x.2) | none => false
      let stop := s.tick + 2 + o.list.width
      let start := match o.pulse with | some x => if active then x.1 else s.tick + 2 | none => s.tick + 2
      let low := if active then o.low else o.list.activeLow
      let s := s.setCmpr out { r.1 with pulse := some (start, stop), low := low, merged := satAdd 16 o.merged (r.2 - 1 + b2n active) }
      s.emit (.pulse out (s.tick + 2) o.list.width (!low))

/-- What a channel's counts at the ends of the tick before and of this one mean for the compare outputs (R304). A count that
ENC_SET moves in this tick crosses nothing (R305). -/
def State.compareAll (s : State) (ch : Nat) : State :=
  let c := s.chan ch
  let before := c.countBefore s.tick
  if before = c.count ∨ c.setAt = some s.tick then s else (List.range 8).foldl (State.compareMove ch before c.count) s

/-- The compare outputs at the end of a tick (R304, R305). -/
def State.compareTick (s : State) : State := (List.range 8).foldl State.compareAll s

/-! Errors and ENCODER_FAULT (R292, R293, R301). -/

/-- Enter an error (R292): cause 0 both lines, or the SSI cause. In fault it is only counted. -/
def State.chanError (s : State) (ch cause : Nat) : State :=
  let c := s.chan ch
  let errs := (c.edges :: c.errAt).take 3
  let c := { c with trans := satAdd 16 c.trans 1, errAt := errs, clean := 0 }
  let s := s.setChan ch c
  if c.fault then s
  else
    match errs[2]? with
    | some e =>
      if c.edges - e < 1024 then
        let s := s.setChan ch { c with fault := true, faults := satAdd 16 c.faults 1 }
        let s := s.raise 0x0A02 ch ([cause, 0, 0, 0] ++ leBytes 4 (c.edges - e) ++ leInt 8 c.count)
        s.slipFault ch
      else s.raise 0x0A01 ch ([cause, (errs.filter (fun x => decide (c.edges - x < 1024))).length, 0, 0] ++ leBytes 4 c.trans ++ leInt 8 c.count)
    | none => s.raise 0x0A01 ch ([cause, (errs.filter (fun x => decide (c.edges - x < 1024))).length, 0, 0] ++ leBytes 4 c.trans ++ leInt 8 c.count)

/-- A fault clears, with the error history (R293). -/
def Chan.clearFault (c : Chan) : Chan := { c with fault := false, errAt := [], clean := 0 }

/-- ENCODER_EDGE (R290, R291, R302): the samples of the channel's A and B up to this tick, 2 × A + B, newest first. The state is
taken whatever the SOURCE; a quadrature channel out of reset counts by it. -/
def execEncoderEdge (c : Fin 8) (samples : List (Fin 4)) (s : State) : Host.Outcome State Fault Refusal :=
  let ch := s.chan c.val
  let now := filterPair ch.cfg.filtN ch.lines samples
  let s := s.setChan c.val { ch with lines := now }
  if ch.cfg.ssi || s.sys.held then .next s
  else
    match quadStep ch.lines now with
    | none => .next (s.chanError c.val 0)
    | some d =>
      if d = 0 then .next s
      else
        let d := if ch.cfg.invert then -d else d
        .next (s.modChan c.val (fun x => x.edge d s.tick))

/-- ENCODER_FAULT_AUTO_CLEAR (R293): 4,096 accepted edges without an error. -/
def execEncoderFaultAutoClear (c : Fin 8) (s : State) : Host.Outcome State Fault Refusal :=
  let ch := s.chan c.val
  if ch.fault ∧ ch.cfg.autoClear ∧ 4096 ≤ ch.clean then .next (s.setChan c.val ch.clearFault) else .next s

/-! The index check (R297, R298) and setting the count (R308). -/

/-- ENC_SET takes effect (R308): the references of the speed move with the count. -/
def Chan.setCount (c : Chan) (p : Int) (tick : Nat) : Chan :=
  let c := c.keepPast tick
  let shift (e : Option (Nat × Int)) : Option (Nat × Int) := e.map (fun x => (x.1, x.2 + (p - c.count)))
  { c with count := p, eh := p, reverse := false, posValid := true, sat := false, idxMism := false, iRef := none, corr := none,
           setArmed := none, setAt := some tick, lastEdge := shift c.lastEdge, refEdge := shift c.refEdge }

/-- An index is checked against I_REF (R297, R312). -/
def State.checkIndex (s : State) (ch : Nat) (ref : Int) : State :=
  let c := s.chan ch
  let cpr : Nat := 4 * c.cfg.linesRev
  let far := c.diff c.count ref
  let d := far - roundAway far cpr * cpr
  let c := { c with dev := clampI (-32767) 32767 d, corr := none }
  let n := d.natAbs
  if n = 0 then s.setChan ch { c with idxMism := false }
  else if n ≤ c.cfg.iTol then
    let k := cpr / n
    (s.setChan ch { c with idxMism := false, corr := some { sign := sgn d, k := k, left := n, edges := 0 } }).raise 0x0A03 ch
      (leInt 2 d ++ [0, 0] ++ leBytes 4 k ++ leInt 8 c.count)
  else
    let s' := s.setChan ch { c with idxMism := true }
    if c.idxMism then s'
    else s'.raise 0x0A04 ch (leInt 4 (satSigned 32 d) ++ [c.cfg.iTol, 0, 0, 0] ++ leInt 8 c.count)

/-- A change of the filtered Z is the channel's index (R297): after Z_INV it rises in forward motion, or falls in reverse motion. -/
def Chan.isIndex (c : Chan) (z : Bool) : Bool := c.z != z && (z != c.cfg.zInv) == !c.reverse

/-- INDEX_PULSE (R290, R297, R308): the samples of the channel's Z up to this tick, newest first. -/
def execIndexPulse (c : Fin 8) (samples : List Bool) (s : State) : Host.Outcome State Fault Refusal :=
  let ch := s.chan c.val
  let z := filterLine ch.cfg.filtN ch.z samples
  let s := s.setChan c.val { ch with z := z }
  if !ch.cfg.indexEn || !ch.isIndex z || s.sys.held then .next s
  else
    let ch := s.chan c.val
    let s := s.setChan c.val { ch with indexes := wrapAdd 16 ch.indexes 1 }
    match ch.setArmed with
    | some p => .next (s.modChan c.val (fun x => x.setCount p s.tick))
    | none =>
      if ch.cfg.linesRev = 0 then .next s
      else match ch.iRef with
        | none => .next (s.modChan c.val (fun x => { x with iRef := some x.count }))
        | some r => .next (s.checkIndex c.val r)

/-! SSI (R300, R301). -/

/-- Gray code to binary, over `n` bits from the top (R300). -/
def fromGray (g : Nat) : Nat → Nat → Nat
  | 0, acc => acc
  | n + 1, acc => fromGray g n (2 * acc + (acc % 2 + g / 2 ^ n % 2) % 2)

/-- How many bits of a number are 1, over `n` bits. -/
def popCount (v n : Nat) : Nat := sumNat ((List.range n).map (fun i => b2n (bit v i)))

/-- Why a frame fails (R301); 0: it is good. -/
def EncCfg.ssiCause (c : EncCfg) (data : Nat) (parity error low : Bool) : Nat :=
  if bit c.ssiFmt 1 ∧ (popCount data c.ssiBits + b2n parity) % 2 = 1 then 1
  else if bit c.ssiFmt 2 ∧ error = true then 2
  else if low then 3 else 0

/-- The bits a frame samples (R300). -/
def EncCfg.ssiSampled (c : EncCfg) : Nat := c.ssiBits + b2n (bit c.ssiFmt 1) + b2n (bit c.ssiFmt 2)

/-- A frame that began at `start` has sampled its last bit (R300): its n-th rising edge comes n − 1/2 clocks after the first falling
edge. -/
def EncCfg.ssiSampledBy (c : EncCfg) (start tick : Nat) : Bool :=
  decide ((2 * c.ssiSampled - 1) * 100000 ≤ (tick - start) * c.ssiKhz)

/-- A good frame (R301): the first one after the channel is configured sets the count and POS_VALID, a later one moves it. The
count belongs to the tick of the frame's first falling edge. -/
def Chan.frame (c : Chan) (v start tick : Nat) : Chan :=
  let n := c.cfg.ssiBits
  let c := { c with edges := c.edges + 1, clean := c.clean + 1 }
  let x := match c.ssiLast with
    | none =>
      let x := c.keepPast tick
      let count : Int := if c.cfg.wrap then toSigned 32 v else v
      { x with count := if c.setAt = some tick then x.count else count, posValid := true, ssiPrev := 0 }
    | some l =>
      let x := c.move (toSigned n (toBits n ((v : Int) - l))) tick
      { x with ssiPrev := c.diff x.count c.count }
  ({ x with ssiLast := some v, lastEdge := some (start, x.count) } : Chan).follow

/-- SSI_FRAME_DONE (R300, R301): the sampled data, parity and error bits, and SSI_DATA at the first falling edge, of the frame that
the channel has begun. -/
def execSsiFrameDone (c : Fin 8) (data : Nat) (parity error lowAtStart : Bool) (s : State) : Host.Outcome State Fault Refusal :=
  let ch := s.chan c.val
  let g := ch.cfg
  match ch.ssiFrame with
  | none => .next s
  | some start =>
    if g.ssiSampledBy start s.tick = false then .next s
    else
      let s := s.setChan c.val { ch with ssiFrame := none }
      let raw := data % 2 ^ g.ssiBits
      let cause := g.ssiCause raw parity error lowAtStart
      if cause ≠ 0 then .next (s.chanError c.val cause)
      else
        let v := if bit g.ssiFmt 0 then fromGray raw g.ssiBits 0 else raw
        .next (s.modChan c.val (fun x => x.frame v start s.tick))

/-! Planning-tick work (R299, R307, R311). -/

/-- ENC_CH_STATUS. -/
def Chan.status (c : Chan) : Nat :=
  b2n c.posValid + 2 * b2n c.reverse + 4 * b2n c.fault + 8 * b2n c.sat + 16 * b2n c.iRef.isSome + 32 * b2n c.corr.isSome
    + 64 * b2n c.idxMism + 128 * b2n c.setArmed.isSome + 256 * b2n c.cfg.ssi + 512 * b2n c.cfg.wrap

/-- The speed V at planning tick `p` (R299), Q16.16. -/
def Chan.speed (c : Chan) (p : Nat) : Int :=
  if c.cfg.ssi then c.ssiPrev * 65536
  else
    match c.lastEdge with
    | none => 0
    | some e =>
      let since := p - e.1
      let slow : Int := if since = 0 then c.v.natAbs else min (c.v.natAbs : Int) (roundAway (4000 * 65536) since)
      match c.refEdge with
      | some r =>
        if r.1 < e.1 then roundAway (4000 * 65536 * c.diff e.2 r.2) (e.1 - r.1)
        else if since < c.cfg.still then (if c.reverse then -slow else slow) else 0
      | none => if since < c.cfg.still then (if c.reverse then -slow else slow) else 0

/-- A configuration takes effect (R294, R297, R301, R302, R307). The next good SSI frame is the first one after it. -/
def Chan.configure (c : Chan) (g : EncCfg) : Chan :=
  let o := c.cfg
  let kind := o.ssi ≠ g.ssi ∨ o.wrap ≠ g.wrap
  let ref := kind ∨ o.linesRev ≠ g.linesRev ∨ o.invert ≠ g.invert
  { c with cfg := g, posValid := if kind then false else c.posValid, iRef := if ref then none else c.iRef,
           corr := if ref then none else c.corr, ssiLast := none, ssiFrame := none,
           count := if g.wrap then toSigned 32 (toBits 32 c.count) else c.count,
           eh := if g.wrap then toSigned 32 (toBits 32 c.eh) else c.eh, configured := true }

/-- The planning-tick work of one channel: its configuration, its speed, and the start of an SSI frame (R294, R299, R300). -/
def Chan.plan (c : Chan) (p : Nat) : Chan :=
  let c := match stagedDue c.cfgNext p with
    | some g => ({ c.configure g with cfgNext := none } : Chan).follow
    | none => c
  let c := { c with v := satSigned 32 (c.speed p), refEdge := c.lastEdge, planCount := c.count }
  { c with planStatus := c.status, ssiFrame := if c.cfg.ssi then some p else none }

/-- The planning-tick work of ENC. -/
def State.planFeedback (s : State) (p : Nat) : State :=
  (List.range 8).foldl (fun s ch =>
    let s := s.modChan ch (fun c => c.plan p)
    let g := (s.chan ch).cfg
    if g.ssi then s.emit (.ssi g.ssiPort p g.ssiSampled g.ssiKhz g.ssiMono) else s) s

/-! Probes (R303, R309). -/

/-- The filtered edge is one that the probe is armed for. -/
def Probe.wants (p : Probe) (level : Bool) : Bool := p.edge == 2 || (p.edge == 0 && level) || (p.edge == 1 && !level)

/-- PROBE_LATCH (R290, R303): the samples of probe `p` up to this tick, newest first, through the filter of two; an armed probe
latches the count as it stood at the end of the tick of the first agreeing sample. -/
def execProbeLatch (p : Fin 4) (samples : List Bool) (s : State) : Host.Outcome State Fault Refusal :=
  let q := s.probe p.val
  let level := filterLine 2 q.level samples
  if q.level = level then .next s
  else
    let s := s.setProbe p.val { q with level := level }
    if q.armed && q.wants level then
      let ch := s.chan q.chan
      let n := ch.countBefore s.tick
      let s := s.modProbe p.val (fun x => { x with armed := false, deadline := none })
      let s := if s.twn.role = .lead then s.modEnc (fun e => { e with latched := e.latched ++ [(p.val, n)] }) else s
      .next (s.complete q.cmd Status.ok (leInt 6 n ++ [b2n ch.posValid + 2 * b2n level, 0] ++ leBytes 8 s.tim.past))
    else .next s

/-- The edge a probe is armed for arrives in this tick (R20, R303). -/
def State.probeArrives (s : State) (p : Nat) : Bool :=
  let q := s.probe p
  s.arrives (fun r => match r with
    | .probeLatch n samples =>
      let level := filterLine 2 q.level samples
      n.val == p && level != q.level && q.wants level
    | _ => false)

/-- PROBE_TIMEOUT (R20, R303, R309): an edge of the same tick wins. -/
def execProbeTimeout (p : Fin 4) (s : State) : Host.Outcome State Fault Refusal :=
  let q := s.probe p.val
  let due := match q.deadline with | some t => decide (t ≤ s.tick) | none => false
  if q.armed && due && !s.probeArrives p.val then
    .next ((s.setProbe p.val { q with armed := false, deadline := none }).complete q.cmd Status.probeMissed [])
  else .next s

/-- COMPARE_PULSE_END (R305): the pulse has run WIDTH ticks from its latest start. -/
def execComparePulseEnd (o : Fin 8) (s : State) : Host.Outcome State Fault Refusal :=
  match (s.cmpr o.val).pulse with
  | some x => if x.2 ≤ s.tick then .next (s.modCmpr o.val (fun c => { c with pulse := none })) else .next s
  | none => .next s

/-- SWITCH_CHANGE (R306): the samples of input `w` up to this tick, before INVERT, newest first: through the filter of two, whose
level is taken once it has held for DEBOUNCE ticks. -/
def execSwitchChange (w : Fin 16) (samples : List Bool) (s : State) : Host.Outcome State Fault Refusal :=
  .next (s.modSwitchIn w.val (fun x => { x with level := debounceLine 2 (s.switchCtl w.val).1 x.level samples }))

/-! Commands (R307 to R311). -/

/-- ENC_CONFIG's parameters (R307). -/
def parseEnc (p : List Byte) : EncCfg :=
  { ssi := u8 p 9 == 1, wrap := u8 p 10 == 1, invert := bit (u8 p 11) 0, indexEn := bit (u8 p 11) 1, zInv := bit (u8 p 11) 2,
    autoClear := bit (u8 p 11) 3, filtN := u8 p 12, hyst := if u8 p 13 = 0 then 2 else u8 p 13, iTol := u8 p 14, ssiPort := u8 p 15,
    linesRev := u32 p 16, cntMin := i64 p 20, cntMax := i64 p 28, still := u32 p 36, ssiBits := u8 p 40, ssiFmt := u8 p 41,
    ssiKhz := u16 p 42, ssiMono := u16 p 44 }

/-- The SSI fields of ENC_CONFIG (R300, R307). -/
def EncCfg.ssiOk (g : EncCfg) : Bool :=
  if g.ssi then
    let n := g.ssiSampled
    decide (g.ssiPort ≤ 3) && decide (8 ≤ g.ssiBits) && decide (g.ssiBits ≤ 40) && decide (g.ssiFmt < 8) && decide (100 ≤ g.ssiKhz)
      && decide (g.ssiKhz ≤ 10000) && decide (4 ≤ g.ssiMono) && decide (g.ssiMono ≤ 4000)
      && decide ((n + 1) * 200000 + g.ssiMono * g.ssiKhz ≤ 4000 * g.ssiKhz)
  else g.ssiPort == 0 && g.ssiBits == 0 && g.ssiFmt == 0 && g.ssiKhz == 0 && g.ssiMono == 0

/-- The ranges of ENC_CONFIG (R307). -/
def encBad (p : List Byte) : Bool :=
  let g := parseEnc p
  decide (8 ≤ u8 p 8) || decide (2 ≤ u8 p 9) || decide (2 ≤ u8 p 10) || decide (32 ≤ u8 p 11) || decide (g.filtN < 1) || decide (14 < g.filtN)
    || g.iTol == 0 || decide (2 ^ 24 < g.linesRev) || decide (g.cntMin < -(2 ^ 47 - 1)) || decide (2 ^ 47 - 1 < g.cntMax)
    || decide (g.cntMax ≤ g.cntMin) || decide (g.still < 4000) || decide (2 ^ 31 < g.still) || !g.ssiOk || !zeroRange p 46 64

/-- The configuration a channel will have at the next planning tick. -/
def Chan.cfgComing (c : Chan) : EncCfg := match c.cfgNext with | some g => g.val | none => c.cfg

/-- Running pacing or a moving axis uses the channel (R307). -/
def State.chanInUse (s : State) (ch : Nat) : Bool :=
  (s.fir.paced && s.fir.cfg.slipEnc == ch)
    || axisList.any (fun x => let a := s.axis x; a.cfg.fb && a.cfg.fbEnc == ch && a.moves)

/-- The effect of ENC_CONFIG (R293, R307). -/
def effEncConfig : Effect := fun c s =>
  let p := c.packet
  let ch := u8 p 8
  let g := parseEnc p
  if encBad p then refuse s
  else
    let o := (s.chan ch).cfgComing
    let taken := (List.range 8).any (fun k => k ≠ ch && (s.chan k).cfgComing.ssi && (s.chan k).cfgComing.ssiPort == g.ssiPort)
    if g.ssi && taken then refuse s
    else if (o.ssi ≠ g.ssi ∨ o.wrap ≠ g.wrap ∨ o.invert ≠ g.invert) ∧ s.chanInUse ch = true then finish s Status.busy
    else good (s.modChan ch (fun x =>
      let x := { x with cfgNext := some ⟨g, s.tick⟩, configured := true }
      if bit (u8 p 11) 4 then x.clearFault else x))

/-- ENC_CONFIG (R307). -/
def execEncConfig (r : Fin 4) (s : State) : Host.Outcome State Fault Refusal :=
  .next (startCommand 0x0A01 r.val (.ok []) effEncConfig s)

/-- The effect of ENC_SET (R308). -/
def effEncSet : Effect := fun c s =>
  let p := c.packet
  let ch := u8 p 8
  let n := i64 p 16
  if 8 ≤ ch ∨ 1 < u8 p 9 ∨ zeroRange p 10 16 = false ∨ zeroRange p 24 64 = false then refuse s
  else
    let g := (s.chan ch).cfg
    if (if g.wrap then n < -(2 ^ 31) ∨ 2 ^ 31 ≤ n else n < g.cntMin ∨ g.cntMax < n) then refuse s
    else if u8 p 9 = 1 then
      if g.indexEn then good (s.modChan ch (fun x => { x with setArmed := some n })) else refuse s
    else good (s.modChan ch (fun x => x.setCount n s.tick))

/-- ENC_SET (R308). -/
def execEncSet (r : Fin 4) (s : State) : Host.Outcome State Fault Refusal :=
  .next (startCommand 0x0A02 r.val (.ok []) effEncSet s)

/-- The effect of ENC_PROBE (R309). -/
def effEncProbe : Effect := fun c s =>
  let p := c.packet
  let n := u8 p 8
  if 4 ≤ n ∨ 8 ≤ u8 p 9 ∨ 2 < u8 p 10 ∨ u8 p 11 ≠ 0 ∨ 65535 < u32 p 12 ∨ zeroRange p 16 64 = false then refuse s
  else if (s.probe n).armed then finish s Status.busy
  else (s.modProbe n (fun q => { q with
    armed := true, chan := u8 p 9, edge := u8 p 10, cmd := c.id,
    deadline := if u32 p 12 = 0 then none else some (s.tick + u32 p 12 * 200000) }), .running)

/-- ENC_PROBE (R309). -/
def execEncProbe (r : Fin 4) (s : State) : Host.Outcome State Fault Refusal :=
  .next (startCommand 0x0A03 r.val (.ok []) effEncProbe s)

/-- The entries of a compare list (R310); none when one breaks its form. -/
def parseCompare (n : Nat) (b : List Byte) : Option (List (Int × Nat)) :=
  let es := (List.range n).map (fun k => (iN 6 b (8 * k), u16 b (8 * k + 6)))
  if es.any (fun e => decide (3 ≤ e.2)) then none else some es

/-- The effect of ENC_COMPARE (R305, R310). -/
def effEncCompare : Effect := fun c s =>
  let p := c.packet
  let out := u8 p 8
  let ch := u8 p 9
  let clear := bit (u8 p 10) 2
  let n := u16 p 14
  if 8 ≤ out ∨ 8 ≤ ch ∨ 8 ≤ u8 p 10 ∨ u8 p 11 ≠ 0 ∨ u16 p 12 = 0 ∨ zeroRange p 24 64 = false
      ∨ (clear = true ∧ (n ≠ 0 ∨ u64 p 16 ≠ 0)) ∨ (clear = false ∧ (n = 0 ∨ 256 < n ∨ u64 p 16 % 8 ≠ 0)) then refuse s
  else if clear then
    good ((s.modCmpr out (fun o => { o with
      list := { activeLow := bit (u8 p 10) 1 }, listNext := none, next := 0, loaded := false, pulse := none })).emit
        (.idle out s.tick (bit (u8 p 10) 1)))
  else if (s.chan ch).posValid = false then finish s Status.notHomed
  else withHost c s (fun b =>
    match parseCompare n b with
    | none => refuse s
    | some es =>
      good ((s.modCmpr out (fun o => { (o.settle s.tick) with
        listNext := some ⟨{ chan := ch, entries := es, cycle := bit (u8 p 10) 0, activeLow := bit (u8 p 10) 1, width := u16 p 12 }, s.tick⟩ })).emit
          (.idle out (s.tick + 1) (bit (u8 p 10) 1))))

/-- ENC_COMPARE (R310). -/
def execEncCompare (r : Fin 4) (d : HostRead) (s : State) : Host.Outcome State Fault Refusal :=
  .next (startCommand 0x0A04 r.val d effEncCompare s)

/-- The effect of ENC_QUERY (R311). -/
def effEncQuery : Effect := fun c s =>
  let p := c.packet
  if 8 ≤ u8 p 8 ∨ zeroRange p 9 64 = false then refuse s
  else
    let x := s.chan (u8 p 8)
    answer s (leInt 8 x.planCount ++ leInt 4 x.v ++ leBytes 4 x.planStatus)

/-- ENC_QUERY (R311). -/
def execEncQuery (r : Fin 4) (s : State) : Host.Outcome State Fault Refusal :=
  .next (startCommand 0x0A05 r.val (.ok []) effEncQuery s)

end Sys2Proof.Machine
end

