-- ==== Sys2Proof/Machine/Permit.lean ====
section
/-! DEFINITION. The fire permit (R390 to R393): the three channels, the voter, withdrawals and FIRE_EN. -/
namespace Sys2Proof.Machine

/-- Outputs of channels A, B and C in bits [2:0] (R390): PERMIT_IN, CLE_PERMIT and ARM. -/
def State.permitChannels (s : State) : Nat :=
  b2n (s.twn.in0 && s.cle.permit && s.twn.armA) + 2 * b2n (s.twn.in1 && s.cle.permit && s.twn.armB)
    + 4 * b2n (s.twn.in2 && s.cle.permit && s.twn.armC)

/-- Permit and DISAGREE by the channels' outputs (R391). -/
def voteTable (ch : Nat) : Bool × Bool :=
  match ch with
  | 0 => (false, false)
  | 1 => (false, true)
  | 2 => (false, true)
  | 3 => (true, true)
  | 4 => (false, true)
  | 5 => (true, true)
  | 6 => (true, true)
  | _ => (true, false)

/-- What a voter makes of three channel outputs (R391): their majority, and whether one differs. -/
def voteLogic (a b c : Bool) : Bool × Bool := ((a && b) || (a && c) || (b && c), !(a == b && b == c))

/-- The shadow of a proof test drives a row of R391 onto an internal path of its channels (R394). -/
def driveRow (row : Nat) : Nat × Bool × Bool := (row, voteLogic (bit row 0) (bit row 1) (bit row 2))

/-- Byte 18 of PERMIT_CHANGE (R398): PERMIT_IN on all three inputs, CLE_PERMIT, ARM. -/
def State.permitInputs (s : State) : Nat :=
  b2n (s.twn.in0 && s.twn.in1 && s.twn.in2) + 2 * b2n s.cle.permit + 4 * b2n (s.twn.armA && s.twn.armB && s.twn.armC)

/-- The voter (R391): each change of the permit and each onset of DISAGREE writes PERMIT_CHANGE. A withdrawal
clears ARM (R392), drives GONG_HALT_N while a page is PRINTING (R393) and ends the VOTER test as failed (R394). -/
def State.vote (s : State) : State :=
  let ch := s.permitChannels
  let v := voteTable ch
  let t := s.twn
  let s := s.modTwn (fun t => { t with
    permit := v.1, disagree := v.2, disagreeAt := if v.2 then some (t.disagreeAt.getD s.tick) else none,
    votedAt := if t.permit = v.1 then t.votedAt else s.tick })
  let s := if t.permit ≠ v.1 ∨ (v.2 = true ∧ t.disagree = false) then
      s.raise 0x0E04 0 ([b2n v.1, ch, s.permitInputs, b2n v.2] ++ zeros 4 ++ s.lineBytes ++ [0, 0])
    else s
  if t.permit = true ∧ v.1 = false then
    (s.modTwn (fun t => { t with
      withdrawals := satAdd 16 t.withdrawals 1, armA := false, armB := false, armC := false, disagree := false,
      disagreeAt := none })).permitLost.proofFail 0 (match s.twn.proof with | some p => p.count | none => 0)
  else s

/-- Set ARM in all three channels (R392). -/
def State.setArm (s : State) (on : Bool) : State :=
  (s.modTwn (fun t => { t with armA := on, armB := on, armC := on })).vote

/-- The level of FIRE_EN (R393). -/
def State.fireEn (s : State) : Bool :=
  s.twn.permit && (s.twn.role == .lead || s.twn.role == .shadow || s.twn.role == .alone) && s.running

/-- FIRE_EN's readback, newest sample first, has differed from the vote for 2 ticks (R386): the vote stood in both. -/
def State.readbackDiffers (s : State) (readback : List Bool) : Bool :=
  decide (2 ≤ readback.length) && (readback.take 2).all (· != s.fireEn) && decide (s.twn.votedAt < s.tick)

/-- The channels have disagreed for 2,000 consecutive ticks (R386). -/
def State.disagreesLong (s : State) : Bool :=
  match s.twn.disagreeAt with
  | some t => decide (t + 2000 ≤ s.tick)
  | none => false

end Sys2Proof.Machine
end

