-- ==== Sys2Proof/Machine/Loops.lean ====
section
/-! DEFINITION. Control loops and the ADC (chapter 14): conversion, windows, the section cascade, modes and soft start,
publication, the loops that feed the fire permit, and the CLE and ADC commands. -/
namespace Sys2Proof.Machine

/-! The converters (R313 to R315). -/

/-- The value of a code (R314). A point of a linearisation table never loaded reads 0 (log entry 30). -/
def adcValue (i : AdcIn) (tab : List Int) (code : Nat) : Int :=
  if i.lin = 0 then (((code : Int) - i.offset) * i.gain).fdiv 65536
  else
    let q := code / 2048
    let r : Int := (code % 2048 : Nat)
    let t0 := tab.getD q 0
    t0 + ((tab.getD (q + 1) 0 - t0) * r + 1024).fdiv 2048

/-- A code is within the input's limits (R314). -/
def AdcIn.within (i : AdcIn) (code : Nat) : Bool := decide (i.lo ≤ code) && decide (code ≤ i.hi)

/-- The slots of a converter (R313); 0xFF: idle. -/
def State.slotsOf (s : State) (adc : Nat) : List Nat := s.cle.sched.get [] adc

/-- The configuration a loop will have when its waiting changes have been applied. -/
def Loop.cfgComing (l : Loop) : LoopCfg :=
  l.changes.foldl (fun c g => match g.val with | .config n => n | _ => c) l.cfg

/-- The sections a loop will have when its waiting changes have been applied. -/
def Loop.secsComing (l : Loop) : List Section :=
  l.changes.foldl (fun c g => match g.val with | .sections n _ => n | _ => c) l.secs

/-- The loop measures ADC input `n`, now or when its waiting changes have been applied. -/
def Loop.measures (l : Loop) (n : Nat) : Bool :=
  let uses (c : LoopCfg) : Bool := c.enable && c.srcKind == 0 && c.srcIndex == n
  uses l.cfg || uses l.cfgComing

/-- The loops of the device. -/
def loopList : List Nat := List.range 48

/-- The input that the result of a slot is of (R313): the schedule that stood when the slot sampled it; slot 39's result is ready
in the next planning tick. -/
def State.sampledInput (s : State) (adc slot : Nat) : Nat :=
  if slot = 39 ∧ s.mot.lastPlan = some s.tick then s.cle.last.get 256 adc - 1 else (s.slotsOf adc).getD slot 0xFF

/-- ADC_RESULT (R313, R314, R315): the result of a slot is ready at planning-tick offset 100 (slot + 1). -/
def execAdcResult (adc : Fin 2) (slot : Fin 40) (code : Fin 65536) (s : State) : Host.Outcome State Fault Refusal :=
  let n := s.sampledInput adc.val slot.val
  if 32 ≤ n ∨ s.pairTick % 4000 ≠ 100 * (slot.val + 1) % 4000 then .next s
  else
    let i := s.adcIn n
    let v := adcValue i (s.cle.tables.get [] i.lin) code.val
    let ok := i.within code.val
    let s := s.setAdcIn n { i with value := v, code := code.val, valid := ok, seen := true }
    .next (loopList.foldl (fun s k =>
      if (s.loop k).measures n then
        s.modLoop k (fun l => { l with window := l.window ++ [(s.tick, n, if ok then some v else none)] })
      else s) s)

/-- ADC_CONFIG's changes take effect at planning tick `p` (R326). -/
def State.planAdc (s : State) (p : Nat) : State :=
  let due := s.cle.adcNext.filter (fun g => decide (g.tick < p))
  let s := s.modCle (fun c => { c with last := (List.range 2).foldl (fun t a => t.set 256 a ((s.slotsOf a).getD 39 0xFF + 1)) c.last })
  let s := due.foldl (fun s g =>
    match g.val with
    | .schedule adc slots => s.modCle (fun c => { c with sched := c.sched.set [] adc slots })
    | .input n lin offset gain lo hi =>
      s.modAdcIn n (fun i =>
        let i := { i with lin := lin, offset := offset, gain := gain, lo := lo, hi := hi }
        { i with valid := i.seen && i.within i.code })
    | .table n points => s.modCle (fun c => { c with tables := c.tables.set [] n points })) s
  s.modCle (fun c => { c with adcNext := c.adcNext.filter (fun g => decide (p ≤ g.tick)) })

/-! Instants and load (R316, R317). -/

/-- The ticks between a loop's evaluation instants (R316). -/
def LoopCfg.period (c : LoopCfg) : Nat :=
  if c.rate = -2 then 1000 else if c.rate = -1 then 2000 else 4000 * 2 ^ c.rate.toNat

/-- The latest evaluation instant at or before a pair tick, within its planning tick (R316). -/
def LoopCfg.instant (c : LoopCfg) (pt : Nat) : Option Nat :=
  if c.rate < 0 then some (pt / c.period * c.period)
  else if pt / 4000 % 2 ^ c.rate.toNat = c.phase then some (pt / 4000 * 4000) else none

/-- A loop's evaluations in planning tick `k` (R316). -/
def LoopCfg.evals (c : LoopCfg) (k : Nat) : Nat :=
  if c.rate = -2 then 4 else if c.rate = -1 then 2 else b2n (k % 2 ^ c.rate.toNat == c.phase)

/-- The largest section load of any planning tick (R317), from the loops' configurations and section counts. -/
def maxLoad (ls : List (LoopCfg × Nat)) : Nat :=
  let on := ls.filter (fun x => x.1.enable)
  let span := maxNat (on.map (fun x => 2 ^ x.1.rate.toNat))
  maxNat ((List.range span).map (fun k => sumNat (on.map (fun x => x.2 * x.1.evals k))))

/-- CLE_BUDGET.MAX_LOAD (R317). -/
def State.sectionLoad (s : State) : Nat := maxLoad (s.cle.loops.entries.map (fun e => (e.2.cfg, e.2.secs.length)))

/-- The largest section load when every waiting change and this one of loop `n` has been applied (R317). -/
def State.loadWith (s : State) (n : Nat) (c : LoopCfg) (secs : Nat) : Nat :=
  maxLoad ((c, secs) :: (s.cle.loops.entries.filter (fun e => e.1 ≠ n)).map (fun e => (e.2.cfgComing, e.2.secsComing.length)))

/-! Measurement (R315, R319, R327, R344). -/

/-- The mean of a window (R315); none: empty, or it holds an invalid result. -/
def windowMean (w : List (Option Int)) : Option Int :=
  if w = [] ∨ w.contains none = true then none
  else some (roundAway (sumInt (w.map (fun v => v.getD 0))) w.length)

/-- A colour sensor's reading is valid (R345): no NACK, and a completed reading within 2 × PERIOD planning ticks. -/
def State.colourValid (s : State) (k : Nat) : Bool :=
  let c := s.colour k
  !c.nacked && (match c.lastDone with | some d => decide (s.pairTick / 4000 ≤ d + 2 * c.period) | none => false)

/-- The results of a loop's input in the window that ends at tick `t` (R315): those since the evaluation before, and at the first
evaluation after an enable those of one period (log entry 80). -/
def Loop.results (l : Loop) (t : Nat) : List (Option Int) :=
  (l.window.filter (fun w => (l.evalAt.isSome || decide (t < w.1 + l.cfg.period)) && decide (w.1 ≤ t) && w.2.1 == l.cfg.srcIndex)).map
    (fun w => w.2.2)

/-- The measurement of a loop from the device's own sources (R319) at the evaluation instant in tick `t`. -/
def State.ownMeasure (s : State) (l : Loop) (t : Nat) : Option Int :=
  let i := l.cfg.srcIndex
  match l.cfg.srcKind with
  | 0 => windowMean (l.results t)
  | 1 => if (s.chan i).fault then none else some (s.chan i).v
  | 2 =>
    let h := ((s.lane i).heads.get {} l.cfg.srcSlot)
    if (s.lane i).state ≠ .up ∨ bit h.state 0 = false then none else some (toSigned 16 h.temp)
  | 3 => if (s.loop i).cfg.enable then some (s.loop i).uPub else none
  | _ => if s.colourValid (i / 4) then some ((s.colour (i / 4)).comps.getD (i % 4) 0) else none

/-- The loop's output names a zone of the chain it names (R344): the zone. -/
def State.zoneOf (s : State) (c : LoopCfg) : Option Nat :=
  if c.outKind = 2 ∧ 0x8000 ≤ c.outSub ∧ (s.zone (c.outSub - 0x8000)).cfg.enable = true
      ∧ (s.zone (c.outSub - 0x8000)).cfg.chain = c.outIndex then some (c.outSub - 0x8000) else none

/-- A loop that drives a zone holds while the zone is not at LEVEL, and until REFRESH planning ticks after the latch that
raised it (R344): at the evaluation instant in tick `t`. -/
def State.lampReady (s : State) (c : LoopCfg) (t : Nat) : Bool :=
  match s.zoneOf c with
  | none => true
  | some z =>
    (s.zone z).on && (match (s.zone z).raisedAt with
      | some r => decide (r + 4000 * (s.chain c.outIndex).cfg.refresh ≤ t)
      | none => false)

/-! The section cascade (R321 to R323). -/

/-- Saturation of a sum inside a loop (R321). -/
def sat40 (x : Int) : Int := clampI (-(2 ^ 39 - 1)) (2 ^ 39 - 1) x

/-- [b · x] of R321: the product of a Q2.30 coefficient rounded to a unit, halves up. -/
def coefMul (b x : Int) : Int := roundHalfUp (b * x) (2 ^ 30)

/-- The section is an integrating section (R322). -/
def Section.integrates (t : Section) : Bool := t.a1 == -(2 ^ 30) && t.a2 == 0 && t.b2 == 0

/-- The loop's last section integrates (R322). -/
def integrating (secs : List Section) : Bool :=
  match secs.getLast? with
  | some t => t.integrates
  | none => false

/-- One section (R321): its new states and its output. -/
def Section.run (t : Section) (x : Int) : Section × Int :=
  let pre := sat40 (coefMul t.b0 x + t.s1)
  ({ t with s1 := sat40 (coefMul t.b1 x - coefMul t.a1 pre + t.s2), s2 := sat40 (coefMul t.b2 x - coefMul t.a2 pre) },
   sat40 (pre * 2 ^ t.sh))

/-- s1 of the tracked integrating section (R324). -/
def Section.track (t : Section) (m x : Int) : Section :=
  { t with s1 := sat40 ((m * 256).fdiv (2 ^ t.sh) - coefMul t.b0 x) }

/-- The cascade (R321); with `m` the last section is tracked before use when it integrates (R324). -/
def runSections (m : Option Int) : List Section → Int → List Section × Int
  | [], x => ([], x)
  | t :: rest, x =>
    let t := match m with
      | some v => if rest.isEmpty && t.integrates then t.track v x else t
      | none => t
    let y := t.run x
    let z := runSections m rest y.2
    (y.1 :: z.1, z.2)

/-- Anti-windup on the integrating section (R323): the old s1 is kept when the limit stands against its growth. -/
def antiWindup (old new : List Section) (uRaw u : Int) : List Section :=
  if !integrating new then new
  else
    let o := ((old.getLast?).map (fun t => t.s1)).getD 0
    let n := ((new.getLast?).map (fun t => t.s1)).getD 0
    if (u < uRaw ∧ o < n) ∨ (uRaw < u ∧ n < o) then modAt (fun t => { t with s1 := o }) (new.length - 1) new else new

/-- The output within its limits and SLEW (R321). -/
def LoopCfg.limit (c : LoopCfg) (prev uRaw : Int) : Int :=
  let u := clampI c.outMin c.outMax uRaw
  if c.slew = 0 then u else clampI (prev - c.slew) (prev + c.slew) u

/-- Which limit stands (R335): 0 OUT_MIN, 1 OUT_MAX, 2 SLEW. -/
def LoopCfg.limitBy (c : LoopCfg) (u uRaw : Int) : Nat :=
  if uRaw < c.outMin ∧ u = c.outMin then 0 else if c.outMax < uRaw ∧ u = c.outMax then 1 else 2

/-- The working setpoint of an evaluation (R324): soft start, a jump, or the approach by RAMP. -/
def Loop.nextRw (l : Loop) (y : Int) : Int :=
  if l.auto then
    if l.cfg.soft ∧ l.ran ≠ 2 then y
    else if l.jump ∨ l.cfg.ramp = 0 then l.r
    else clampI (l.rw - l.cfg.ramp) (l.rw + l.cfg.ramp) l.r
  else if l.jump then l.r else l.rw

/-- A shadow takes the loop's measurement from the lead's INPUT records (R327, R374): of converters, channels, heads and colour
sensors. -/
def LoopCfg.led (c : LoopCfg) : Bool := decide (c.srcKind ≠ 3)

/-- The value the integrating section is tracked to (R324): M in MANUAL, and at the soft start that ends MANUAL. -/
def Loop.trackTo (l : Loop) : Option Int :=
  let m := clampI l.cfg.outMin l.cfg.outMax l.m
  if l.auto then (if l.cfg.soft ∧ l.ran = 1 then some m else none) else some m

/-- An evaluation with a valid measurement (R321 to R324). -/
def Loop.evaluate (l : Loop) (y : Int) : Loop :=
  let rw := l.nextRw y
  let x := sat40 ((if l.cfg.invert then y - rw else rw - y) * 256)
  let z := runSections l.trackTo l.secs x
  let uRaw := z.2.fdiv 256
  if l.auto then
    let u := l.cfg.limit l.u uRaw
    { l with y := y, rw := rw, u := u, secs := antiWindup l.secs z.1 uRaw u, clamped := decide (u ≠ uRaw),
             limitBy := l.cfg.limitBy u uRaw, bad := false, ran := 2,
             jump := false, limRow := if u = uRaw then 0 else l.limRow + 1, limDone := l.limDone && decide (u ≠ uRaw) }
  else
    { l with y := y, rw := rw, u := clampI l.cfg.outMin l.cfg.outMax l.m, secs := z.1, clamped := false, bad := false, ran := 1,
             jump := false, limRow := 0, limDone := false }

/-- LOOP_LIMIT after LIM_N consecutive limited evaluations, once (R323, R335). -/
def State.loopLimit (s : State) (n : Nat) : State :=
  let l := s.loop n
  if l.clamped && l.cfg.limN ≠ 0 && !l.limDone && decide (l.cfg.limN ≤ l.limRow) then
    (s.setLoop n { l with limDone := true }).raise 0x0B01 n
      ([l.limitBy, b2n l.auto, 0, 0] ++ leInt 4 l.u ++ leInt 4 l.y ++ leInt 4 l.rw)
  else s

/-! The permit window (R328). -/

/-- Where a measurement lies against the permit window: none outside and below, above or invalid; the cause of R335. -/
def LoopCfg.outside (c : LoopCfg) (y : Option Int) : Option Nat :=
  match y with
  | none => some 2
  | some v => if v < c.permLo then some 0 else if c.permHi < v then some 1 else none

/-- The measurement lies inside the window by PERM_HYST (R328). -/
def LoopCfg.inside (c : LoopCfg) (y : Option Int) : Bool :=
  match y with
  | none => false
  | some v => decide (c.permLo + c.permHyst ≤ v) && decide (v ≤ c.permHi - c.permHyst)

/-- TEMP_OK at an evaluation (R328), from the device's own measurement. Each change writes TEMP_LIMIT. -/
def State.evalPermit (s : State) (n : Nat) (y : Option Int) : State :=
  let l := s.loop n
  if !l.cfg.permit then s
  else
    let out := l.cfg.outside y
    let l := { l with outRow := if out.isSome then l.outRow + 1 else 0, inRow := if l.cfg.inside y then l.inRow + 1 else 0 }
    let s := s.setLoop n l
    let report (s : State) (ok : Bool) (cause : Nat) : State :=
      (s.modLoop n (fun l => { l with tempOk := ok, outRow := 0, inRow := 0 })).raise 0x0B02 n
        ([b2n ok, cause, 0, 0] ++ leInt 4 (y.getD l.y) ++ leInt 4 l.cfg.permLo ++ leInt 4 l.cfg.permHi)
    if l.tempOk then (if l.cfg.permN ≤ l.outRow then report s false (out.getD 0) else s)
    else if l.cfg.permN ≤ l.inRow then report s true 3 else s

/-- CLE_PERMIT (R328), and the vote when it changes (R390). -/
def State.clePermit (s : State) : State :=
  let p := s.cle.loops.entries.all (fun e => !(e.2.cfg.enable && e.2.cfg.permit) || e.2.tempPub)
  if p = s.cle.permit then s else (s.modCle (fun c => { c with permit := p })).vote

/-! Changes (R324, R326, R330 to R332). -/

/-- The sections after a load (R331): states are kept by place unless CLEAR is set. -/
def loadSections (old new : List Section) (clear : Bool) : List Section :=
  (List.range new.length).zip new |>.map (fun x =>
    match old[x.1]? with
    | some o => if clear then x.2 else { x.2 with s1 := o.s1, s2 := o.s2 }
    | none => x.2)

/-- A loop takes a new configuration (R328, R330): enabling clears every state. -/
def Loop.configure (l : Loop) (c : LoopCfg) : Loop :=
  if !c.enable then { l with cfg := c, tempOk := false, tempPub := false }
  else if l.cfg.enable then
    if c.permit && !l.cfg.permit then { l with cfg := c, tempOk := true, tempPub := true, outRow := 0, inRow := 0 }
    else { l with cfg := c, tempOk := l.tempOk && c.permit, tempPub := l.tempPub && c.permit }
  else
    { l with cfg := c, secs := l.secs.map (fun t => { t with s1 := 0, s2 := 0 }), rw := 0, u := 0, ran := 0, evalAt := none, pubs := [],
             clamped := false, bad := false, limRow := 0, limDone := false, outIdle := false, tempOk := c.permit,
             tempPub := c.permit, outRow := 0, inRow := 0 }

/-- A waiting change is applied (R326). -/
def Loop.apply (l : Loop) (g : LoopChange) : Loop :=
  match g with
  | .config c => l.configure c
  | .sections n clear => { l with secs := loadSections l.secs n clear }
  | .mode auto m => { l with auto := auto, m := if auto then l.m else m }
  | .setpoint r ramp => { l with r := r, jump := !ramp }

/-- What a loop names as its target (R320). -/
def LoopCfg.target (c : LoopCfg) : Nat × Nat × Nat := (c.outKind, c.outIndex, c.outSub)

/-- A loop stops naming its target (R320, R344, R432). -/
def State.dropTarget (s : State) (c : LoopCfg) : State :=
  match c.outKind with
  | 2 =>
    match s.zoneOf c with
    | some z => s.modZone z (fun z => { z with loopLevel := none })
    | none => s
  | 3 => s.modPin c.outIndex (fun p => { p with dutyLoop := none })
  | _ => s

/-- A waiting change's control cycle boundary has come (R25, R326). -/
def State.boundaryPast (s : State) (g : Staged LoopChange) : Bool := decide (g.tick + s.pairTick % 20000 < s.tick)

/-- The changes of loop `n` that its next evaluation instant applies, in commit order (R326). -/
def State.dueChanges (s : State) (n : Nat) : List (Staged LoopChange) := (s.loop n).changes.filter s.boundaryPast

/-- The configuration that gives a loop's evaluation instants (R316): its own; of a loop that is disabled, the one that waits. -/
def State.clockOf (s : State) (n : Nat) : LoopCfg :=
  let c := (s.loop n).cfg
  if c.enable then c else (s.dueChanges n).foldl (fun c g => match g.val with | .config n => n | _ => c) c

/-- At an evaluation instant the loop's changes whose control cycle boundary has come are applied (R25, R326). -/
def State.applyLoop (s : State) (n : Nat) : State :=
  let l := s.loop n
  let due := s.dueChanges n
  if due.isEmpty then s
  else
    let l' := due.foldl (fun l g => l.apply g.val) { l with changes := l.changes.filter (fun g => !s.boundaryPast g) }
    let l' := if l'.cfg.enable then l' else { l' with window := [] }
    let s := s.setLoop n l'
    (if l'.cfg.target = l.cfg.target then s else s.dropTarget l.cfg).clePermit

/-! Publication (R318, R320). -/

/-- The velocity that a loop's output asks of an axis (R275, R320): clamped to ±VMAX, and never of the barred sign. -/
def Axis.loopVel (a : Axis) (u : Int) : Int :=
  let v := clampI (-a.lim.vMax) a.lim.vMax u
  if a.cfg.barred ≠ 0 ∧ sgn v = a.cfg.barred then 0 else v

/-- A published output reaches its target (R320). -/
def State.deliverOutput (s : State) (n : Nat) (c : LoopCfg) (u : Int) : State :=
  match c.outKind with
  | 1 =>
    if (s.axis c.outIndex).onVelocity then
      (s.modAxis c.outIndex (fun a =>
        { a with goalNext := a.goalNext ++ [⟨{ goal := .velocity (a.loopVel u), kind := 5, cmd := none }, s.tick⟩] })).modLoop n
        (fun l => { l with outIdle := false })
    else s.modLoop n (fun l => { l with outIdle := true })
  | 2 =>
    let v := (clampI 0 65535 u).toNat
    if 0x8000 ≤ c.outSub then
      match s.zoneOf c with
      | some z => s.modZone z (fun z => { z with loopLevel := some v })
      | none => s
    else s.modChain c.outIndex (fun x => { x with levels := x.levels.set 0 c.outSub v })
  | 3 => s.modPin c.outIndex (fun p => { p with dutyLoop := some (clampI 0 65535 u).toNat })
  | 4 => s.modLoop c.outIndex (fun l => { l with rOut := some u })
  | _ => s

/-- The publication of a loop's outputs 800 ticks after its evaluation instant, once (R318, R320, R328). -/
def State.publishLoop (s : State) (n : Nat) : State :=
  let x := s.loop n
  match x.pubs with
  | [] => s
  | p :: rest =>
    if s.tick < p.1 + 800 then s
    else ((s.setLoop n { x with uPub := p.2.1, pubs := rest, tempPub := p.2.2 }).deliverOutput n x.cfg p.2.1).clePermit

/-- What is published in this tick is seen in it (R318, R338): by an evaluation, and by what a planning tick samples. -/
def State.publishDue (s : State) : State := loopList.foldl State.publishLoop s

/-- What the loops of the fire permit publish in this tick (R328). -/
def State.publishPermits (s : State) : State := (loopList.filter (fun n => (s.loop n).cfg.permit)).foldl State.publishLoop s

/-! Evaluation (R318, R325, R327). -/

/-- The lead's measurement of a loop (R327): its value for the instant; of a colour sensor, else what the lead read last. -/
def State.leadMeasure (s : State) (l : Loop) : Option Int :=
  match l.leadY with
  | some y => y
  | none =>
    if l.cfg.srcKind = 4 then ((s.colour (l.cfg.srcIndex / 4)).lead).map (fun x => (x.getD (l.cfg.srcIndex % 4) 0 : Int)) else none

/-- The measurement of an evaluation whose instant lies in tick `t`, and the device's own (R319, R327, R344). -/
def State.measure (s : State) (l : Loop) (t : Nat) : Option Int × Option Int :=
  if !s.lampReady l.cfg t then (none, none)
  else
    let own := s.ownMeasure l t
    (if s.twn.role = .shadow ∧ l.cfg.led = true then s.leadMeasure l else own, own)

/-- A loop is evaluated at an instant `pt`, `late` ticks ago. -/
def State.evaluateLoop (s : State) (n pt late : Nat) : State :=
  let l := s.loop n
  let m := s.measure l (s.tick - late)
  let s := s.evalPermit n m.2
  let l := s.loop n
  let l := { l with r := l.rOut.getD l.r, rOut := none, window := l.window.filter (fun w => decide (s.tick - late < w.1)),
                    evalAt := some pt, leadY := if s.twn.role = Role.lead ∧ l.cfg.led = true then some m.2 else none }
  let l := match m.1 with
    | some y => l.evaluate y
    | none => { l with bad := true }
  let l := { l with pubs := l.pubs ++ [(s.tick - late, l.u, l.tempOk)] }
  (s.setLoop n l).loopLimit n

/-- A shadow's own snapshot holds the loops as they are after the evaluation at its tick (R326, R384). -/
def State.noteEvaluated (s : State) (n pt : Nat) : State :=
  { s with copyOwn := s.copyOwn.map (fun x => if x.tick = pt then { x with loops := x.loops.set {} n (s.loop n) } else x) }

/-- A shadow's loop still waits for the lead's value of the instant (R327), before the publication tick. -/
def State.awaitsLead (s : State) (l : Loop) (late : Nat) : Bool :=
  s.twn.role == .shadow && l.cfg.led && l.leadY.isNone && decide (late < 799)

/-- Loop `n` is evaluated when an evaluation instant of it has come and has not been evaluated (R316): its waiting changes apply
first (R326). A shadow evaluates when the lead's values for the instant have arrived (R327), before the publication tick. -/
def State.evaluateLoopDue (s : State) (n : Nat) : State :=
  match (s.clockOf n).instant s.pairTick with
  | none => s
  | some pt =>
    let late := s.pairTick - pt
    if (s.loop n).evalAt = some pt ∨ (s.twn.role ≠ .shadow ∧ late ≠ 0) ∨ 800 ≤ late then s
    else
      let t := s.publishDue.applyLoop n
      if (t.loop n).cfg.enable = false then t
      else if t.awaitsLead (t.loop n) late then s
      else (t.evaluateLoop n pt late).noteEvaluated n pt

/-- LOOP_EVALUATION (R316, R318, R321): at an evaluation instant, once. -/
def execLoopEvaluation (l : Fin 48) (s : State) : Host.Outcome State Fault Refusal :=
  .next (if s.running then s.evaluateLoopDue l.val else s)

/-- LOOP_PUBLISH (R318, R320, R328): 800 ticks after the evaluation instant. -/
def execLoopPublish (l : Fin 48) (s : State) : Host.Outcome State Fault Refusal := .next (s.publishLoop l.val)

/-! Commands (R330 to R334). -/

/-- CLE_LOOP_STATUS. -/
def Loop.status (l : Loop) : Nat :=
  b2n l.cfg.enable + 2 * b2n l.auto + 4 * b2n (integrating l.secs) + 8 * b2n l.clamped + 16 * b2n l.bad
    + 32 * b2n l.tempOk + 64 * b2n (l.rw ≠ l.r) + 128 * b2n l.outIdle + 256 * l.secs.length

/-- CLE_LOOP's parameters (R330). -/
def parseLoop (p : List Byte) : LoopCfg :=
  { enable := bit (u8 p 9) 0, permit := bit (u8 p 9) 1, soft := bit (u8 p 9) 2, invert := bit (u8 p 9) 3, srcKind := u8 p 10,
    srcIndex := u8 p 11, srcSlot := u8 p 12, rate := i8 p 13, phase := u16 p 14, outKind := u8 p 16, outIndex := u8 p 17,
    outSub := u16 p 18, outMin := i32 p 20, outMax := i32 p 24, slew := u32 p 28, ramp := u32 p 32, permLo := i32 p 36,
    permHi := i32 p 40, permHyst := u32 p 44, permN := u16 p 48, limN := u16 p 50 }

/-- The source and the target of a loop exist (R319, R320, R330, R344). -/
def LoopCfg.unitsOk (c : LoopCfg) : Bool :=
  decide (c.srcKind ≤ 4) && decide (c.outKind ≤ 4)
    && decide (c.srcIndex < [32, 8, 64, 48, 32].getD c.srcKind 0) && decide (c.outIndex < [256, 16, 8, 32, 48].getD c.outKind 0)
    && (if c.srcKind = 2 then decide (c.srcSlot < 8) else c.srcSlot == 0)
    && (if c.outKind = 2 then decide (c.outSub < 4096) || (decide (0x8000 ≤ c.outSub) && decide (c.outSub < 0x8040)) else c.outSub == 0)

/-- The ranges of CLE_LOOP (R330). -/
def LoopCfg.ok (c : LoopCfg) : Bool :=
  c.unitsOk && decide (-2 ≤ c.rate) && decide (c.rate ≤ 12)
    && (if c.rate ≤ 0 then c.phase == 0 else decide (c.phase < 2 ^ c.rate.toNat)) && decide (c.outMin ≤ c.outMax)
    && (!c.permit || (decide (c.permLo < c.permHi) && decide (2 * (c.permHyst : Int) < c.permHi - c.permLo) && decide (1 ≤ c.permN)))

/-- Another loop names the same target (R320). -/
def State.targetTaken (s : State) (n : Nat) (c : LoopCfg) : Bool :=
  c.outKind ≠ 0 && loopList.any (fun k => k ≠ n && (s.loop k).cfgComing.target == c.target)

/-- The effect of CLE_LOOP (R317, R320, R329, R330). -/
def effCleLoop : Effect := fun c s =>
  let p := c.packet
  let n := u8 p 8
  let g := parseLoop p
  if 48 ≤ n ∨ 16 ≤ u8 p 9 ∨ g.ok = false then refuse s
  else
    let l := s.loop n
    let o := l.cfgComing
    if 1024 < s.loadWith n g l.secsComing.length then finish s Status.sectionBudget
    else if s.targetTaken n g then finish s Status.busy
    else if s.anyPrinting = true ∧ o.permit = true
        ∧ ((o.enable = true ∧ g.enable = false) ∨ g.permit = false ∨ g.permLo < o.permLo ∨ o.permHi < g.permHi) then finish s Status.denied
    else if o.enable = true ∧ (o.srcKind ≠ g.srcKind ∨ o.srcIndex ≠ g.srcIndex ∨ o.outKind ≠ g.outKind ∨ o.outIndex ≠ g.outIndex
        ∨ o.rate ≠ g.rate) then finish s Status.busy
    else if g.enable = true ∧ l.secsComing = [] then finish s Status.notReady
    else good (s.modLoop n (fun l => { l with changes := l.changes ++ [⟨.config g, s.tick⟩] }))

/-- CLE_LOOP (R330). -/
def execCleLoop (r : Fin 4) (s : State) : Host.Outcome State Fault Refusal :=
  .next (startCommand 0x0B01 r.val (.ok []) effCleLoop s)

/-- One record of CLE_SECTIONS (R331). -/
def parseSection (b : List Byte) : Option Section :=
  if 16 ≤ u8 b 20 ∨ zeroRange b 21 24 = false then none
  else some { b0 := i32 b 0, b1 := i32 b 4, b2 := i32 b 8, a1 := i32 b 12, a2 := i32 b 16, sh := u8 b 20 }

/-- The records of CLE_SECTIONS (R331); none when one breaks its form. -/
def parseSections : Nat → List Byte → Option (List Section)
  | 0, _ => some []
  | n + 1, b =>
    match parseSection (b.take 24), parseSections n (b.drop 24) with
    | some t, some rest => some (t :: rest)
    | _, _ => none

/-- The effect of CLE_SECTIONS (R317, R331). -/
def effCleSections : Effect := fun c s =>
  let p := c.packet
  let n := u8 p 8
  let k := u8 p 9
  if 48 ≤ n ∨ k = 0 ∨ 8 < k ∨ 2 ≤ u8 p 10 ∨ u64 p 16 % 8 ≠ 0 then refuse s
  else if 1024 < s.loadWith n (s.loop n).cfgComing k then finish s Status.sectionBudget
  else withHost c s (fun b =>
    match parseSections k b with
    | none => refuse s
    | some ts => good (s.modLoop n (fun l => { l with changes := l.changes ++ [⟨.sections ts (u8 p 10 == 1), s.tick⟩] })))

/-- CLE_SECTIONS (R331). -/
def execCleSections (r : Fin 4) (d : HostRead) (s : State) : Host.Outcome State Fault Refusal :=
  .next (startCommand 0x0B02 r.val d effCleSections s)

/-- The effect of CLE_MODE (R332). -/
def effCleMode : Effect := fun c s =>
  let p := c.packet
  if 48 ≤ u8 p 8 ∨ 2 ≤ u8 p 9 then refuse s
  else good (s.modLoop (u8 p 8) (fun l => { l with changes := l.changes ++ [⟨.mode (u8 p 9 == 1) (i32 p 12), s.tick⟩] }))

/-- CLE_MODE (R332). -/
def execCleMode (r : Fin 4) (s : State) : Host.Outcome State Fault Refusal :=
  .next (startCommand 0x0B03 r.val (.ok []) effCleMode s)

/-- The effect of CLE_SETPOINT (R332). -/
def effCleSetpoint : Effect := fun c s =>
  let p := c.packet
  let n := u8 p 8
  if 48 ≤ n ∨ 2 ≤ u8 p 9 then refuse s
  else if loopList.any (fun k => (s.loop k).cfgComing.target == (4, n, 0)) then finish s Status.busy
  else good (s.modLoop n (fun l => { l with changes := l.changes ++ [⟨.setpoint (i32 p 12) (u8 p 9 == 1), s.tick⟩] }))

/-- CLE_SETPOINT (R332). -/
def execCleSetpoint (r : Fin 4) (s : State) : Host.Outcome State Fault Refusal :=
  .next (startCommand 0x0B04 r.val (.ok []) effCleSetpoint s)

/-- The effect of CLE_QUERY (R334). -/
def effCleQuery : Effect := fun c s =>
  let n := u8 c.packet 8
  if 48 ≤ n then refuse s
  else
    let l := s.loop n
    answer s (leInt 4 l.y ++ leInt 4 l.rw ++ leInt 4 l.u ++ leBytes 4 l.status)

/-- CLE_QUERY (R334). -/
def execCleQuery (r : Fin 4) (s : State) : Host.Outcome State Fault Refusal :=
  .next (startCommand 0x0B05 r.val (.ok []) effCleQuery s)

/-- An ADC_CONFIG change waits for the next planning tick (R326). -/
def State.stageAdc (s : State) (g : AdcChange) : State :=
  s.modCle (fun c => { c with adcNext := c.adcNext ++ [⟨g, s.tick⟩] })

/-- The effect of ADC_CONFIG (R333). -/
def effAdcConfig : Effect := fun c s =>
  let p := c.packet
  let n := u8 p 9
  match u8 p 8 with
  | 0 =>
    let slots := (List.range 40).map (fun k => u8 p (16 + k))
    if 2 ≤ n ∨ zeroRange p 10 16 = false ∨ zeroRange p 56 64 = false ∨ slots.any (fun x => decide (32 ≤ x) && x ≠ 0xFF) = true then refuse s
    else good (s.stageAdc (.schedule n slots))
  | 1 =>
    if 32 ≤ n ∨ 4 < u8 p 10 ∨ u8 p 11 ≠ 0 ∨ zeroRange p 14 16 = false ∨ zeroRange p 24 64 = false ∨ u16 p 22 < u16 p 20 then refuse s
    else good (s.stageAdc (.input n (u8 p 10) (u16 p 12) (i32 p 16) (u16 p 20) (u16 p 22)))
  | 2 =>
    if n = 0 ∨ 4 < n ∨ zeroRange p 10 16 = false ∨ zeroRange p 24 64 = false then refuse s
    else withHost c s (fun b =>
      if crc32c (b.take 132) ≠ u32 b 132 then refuse s
      else good (s.stageAdc (.table n ((List.range 33).map (fun k => i32 b (4 * k))))))
  | _ => refuse s

/-- ADC_CONFIG (R333). -/
def execAdcConfig (r : Fin 4) (d : HostRead) (s : State) : Host.Outcome State Fault Refusal :=
  .next (startCommand 0x0B10 r.val d effAdcConfig s)

end Sys2Proof.Machine
end

