-- ==== Sys2Proof/Machine/Service.lean ====
section
/-! DEFINITION. Service compression (R120 to R128): streams, blocks, save images, and the archive blocks
of the cameras (R241). -/
namespace Sys2Proof.Machine

/-! Local DRAM by byte address. -/

/-- `n` bytes of local DRAM. -/
def State.dramRead (s : State) (addr n : Nat) : List Byte := (List.range n).map (fun i => s.dram.get 0 (addr + i))

/-- Write bytes to a table of bytes from an address on. -/
def putBytes (t : Table Byte) (addr : Nat) : List Byte → Table Byte
  | [] => t
  | b :: rest => putBytes (t.set 0 addr b) (addr + 1) rest

/-- Write bytes to local DRAM. -/
def State.dramWrite (s : State) (addr : Nat) (bytes : List Byte) : State := { s with dram := putBytes s.dram addr bytes }

/-- A stretch lies in local DRAM (R413). -/
def State.dramHas (s : State) (addr n : Nat) : Bool := decide (addr + n ≤ s.sys.memGib * 2 ^ 30)

/-- Write a service unit's output to host memory or local DRAM. -/
def State.serviceWrite (s : State) (cmd : Option Nat) (local_ : Bool) (addr : Nat) (bytes : List Byte) : State :=
  if local_ then s.dramWrite addr bytes else s.writeResults cmd addr bytes

/-! The compressor (R120, R122). -/

/-- A LIT token with its length bytes (R107, R108). -/
def litToken (n : Nat) : List Byte :=
  if n ≤ 30 then [n - 1] else if n ≤ 286 then [30, n - 31] else 31 :: leBytes 2 (n - 287)

/-- The block that holds its input as one literal (R124). -/
def literalBlock (cont : Bool) (input : List Byte) : List Byte :=
  let body := [0x5A, 0x31 + 64 * b2n cont] ++ leBytes 2 (input.length - 1) ++ zeros 4 ++ litToken input.length ++ input ++ [0xFF]
  body ++ leBytes 4 (crc32c body)

/-- A block that R120, R122 and R124 allow for an input: it decodes to the input. -/
def blockAllowed (cont : Bool) (hist input b : List Byte) : Bool :=
  decide (b.length ≤ input.length + 16) && b.all (fun x => decide (x < 256)) && tileCont b == cont
    && (match decodeBlock b hist with
        | .ok out => out == input
        | .error _ => false)

/-- The compressor's output: the free block where it is an allowed one. -/
def compressBlock (effort : Nat) (cont : Bool) (hist input : List Byte) : List Byte :=
  let b := Config.compressor effort cont hist input
  if blockAllowed cont hist input b then b else literalBlock cont input

/-- A stream's history with new output (R120). -/
def growHist (cont : Bool) (hist out : List Byte) : List Byte :=
  (out.reverse ++ (if cont then hist else [])).take serviceWin

/-! Units (R121). Units 0 and 1 compress, 2 and 3 decompress. -/

/-- The unit works on no block and is in service. -/
def Cmp.unitFree (c : Cmp) (u : Nat) : Bool :=
  (decide (2 ≤ u) || bit c.inService u) && c.jobs.all (fun j => j.unit != some u)

/-- The jobs that could start on a unit of a kind: waiting, and first of their stream. -/
def readyJobs (decompress : Bool) : List Nat → List CmpJob → List CmpJob
  | _, [] => []
  | seen, j :: rest =>
    if seen.contains j.stream then readyJobs decompress seen rest
    else if j.unit = none ∧ j.decompress = decompress then j :: readyJobs decompress (j.stream :: seen) rest
    else readyJobs decompress (j.stream :: seen) rest

/-- The block that a unit takes next (R121): camera blocks come first. -/
def Cmp.nextJob (c : Cmp) (u : Nat) : Option CmpJob :=
  let js := readyJobs (decide (2 ≤ u)) [] c.jobs
  match js.find? (fun j => j.cmd == none) with
  | some j => some j
  | none => js.head?

/-- Mark the first job of a stream as at work. -/
def assignJob (u stream : Nat) : List CmpJob → List CmpJob
  | [] => []
  | j :: rest => if j.stream = stream then { j with unit := some u } :: rest else j :: assignJob u stream rest

/-- Give a unit its next block. -/
def Cmp.fill (c : Cmp) (u : Nat) : Cmp :=
  if c.unitFree u then
    match c.nextJob u with
    | some j => { c with jobs := assignJob u j.stream c.jobs }
    | none => c
  else c

/-- Free units take waiting blocks, the lower-numbered unit first (R121). -/
def Cmp.fillAll (c : Cmp) : Cmp := [0, 1, 2, 3].foldl Cmp.fill c

/-- A stream has a block in progress or waiting. -/
def Cmp.active (c : Cmp) (stream : Nat) : Bool := c.jobs.any (fun j => j.stream == stream)

/-- Add a job. -/
def State.addJob (s : State) (j : CmpJob) : State := s.modCmp (fun c => ({ c with jobs := c.jobs ++ [j] } : Cmp).fillAll)

/-! Commands. -/

/-- The effect of CMP_OPEN (R123). -/
def effCmpOpen : Effect := fun c s =>
  let p := c.packet
  if 15 < u8 p 8 ∨ 1 < u8 p 9 ∨ (if u8 p 9 = 0 then 3 else 0) < u8 p 10 then refuse s
  else match (s.stream (u8 p 8)).state with
    | .attached => finish s Status.busy
    | .closed => good (s.setStream (u8 p 8) { state := if u8 p 9 = 0 then .compress else .decompress, effort := u8 p 10 })
    | _ => finish s Status.streamState

/-- CMP_OPEN (R121, R123). -/
def execCmpOpen (r : Fin 4) (s : State) : Host.Outcome State Fault Refusal :=
  .next (startCommand 0x0F01 r.val (.ok []) effCmpOpen s)

/-- A local address range of a service command leaves local DRAM (log entry 6). -/
def serviceRangeBad (p : List Byte) (s : State) : Bool :=
  (bit (u8 p 9) 1 && !s.dramHas (u64 p 16) (u32 p 12)) || (bit (u8 p 9) 2 && !s.dramHas (u64 p 24) (u32 p 32))

/-- The job of CMP_COMPRESS or CMP_DECOMPRESS. -/
def serviceJob (c : Cmd) (decompress : Bool) (input : List Byte) : CmpJob :=
  { cmd := some c.id, stream := u8 c.packet 8, decompress := decompress, unit := none, input := input,
    outAddr := u64 c.packet 24, outLocal := bit (u8 c.packet 9) 2, outCap := u32 c.packet 32, fresh := bit (u8 c.packet 9) 0 }

/-- Read a service command's input and wait for a unit. -/
def serviceStart (c : Cmd) (decompress : Bool) (s : State) : State × Reply :=
  let n := u32 c.packet 12
  if bit (u8 c.packet 9) 1 then (s.addJob (serviceJob c decompress (s.dramRead (u64 c.packet 16) n)), .running)
  else withHost c s (fun bytes => (s.addJob (serviceJob c decompress (pad n bytes)), .running))

/-- The effect of CMP_COMPRESS (R122, R124). -/
def effCmpCompress : Effect := fun c s =>
  let p := c.packet
  if 15 < u8 p 8 ∨ 7 < u8 p 9 ∨ u32 p 12 = 0 ∨ 65536 < u32 p 12 ∨ u32 p 32 < u32 p 12 + 16 then refuse s
  else if s.cmp.inService = 0 then finish s Status.notReady
  else if (s.stream (u8 p 8)).state = .attached then finish s Status.busy
  else if (s.stream (u8 p 8)).state ≠ .compress then finish s Status.streamState
  else if serviceRangeBad p s then refuse s
  else serviceStart c false s

/-- CMP_COMPRESS (R121, R122, R124). -/
def execCmpCompress (r : Fin 4) (d : HostRead) (s : State) : Host.Outcome State Fault Refusal :=
  .next (startCommand 0x0F02 r.val d effCmpCompress s)

/-- The effect of CMP_DECOMPRESS (R125). -/
def effCmpDecompress : Effect := fun c s =>
  let p := c.packet
  if 15 < u8 p 8 ∨ 7 < u8 p 9 ∨ bit (u8 p 9) 0 = true ∨ u32 p 12 < 14 ∨ 65552 < u32 p 12 then refuse s
  else match (s.stream (u8 p 8)).state with
    | .attached => finish s Status.busy
    | .decompress => if serviceRangeBad p s then refuse s else serviceStart c true s
    | _ => finish s Status.streamState

/-- CMP_DECOMPRESS (R121, R125). -/
def execCmpDecompress (r : Fin 4) (d : HostRead) (s : State) : Host.Outcome State Fault Refusal :=
  .next (startCommand 0x0F03 r.val d effCmpDecompress s)

/-- The save image of a stream (R126). -/
def saveImage (t : Stream) : List Byte :=
  let body := zeros (serviceWin - t.hist.length) ++ t.hist.reverse ++ [if t.state = .decompress then 1 else 0, t.effort]
    ++ leBytes 2 1 ++ leBytes 8 t.bytesIn ++ leBytes 8 t.bytesOut ++ zeros 1000
  body ++ leBytes 4 (crc32c body)

/-- The effect of CMP_SAVE (R126). -/
def effCmpSave : Effect := fun c s =>
  let p := c.packet
  let t := s.stream (u8 p 8)
  if 15 < u8 p 8 ∨ u64 p 16 % 64 ≠ 0 then refuse s
  else if t.state = .attached ∨ s.cmp.active (u8 p 8) = true then finish s Status.busy
  else if t.state = .closed then finish s Status.streamState
  else (s.modCmp (fun m => { m with saves := m.saves ++ [{ cmd := c.id, stream := u8 p 8, addr := u64 p 16, image := saveImage t }] }), .running)

/-- CMP_SAVE (R126). -/
def execCmpSave (r : Fin 4) (s : State) : Host.Outcome State Fault Refusal :=
  .next (startCommand 0x0F04 r.val (.ok []) effCmpSave s)

/-- CMP_SAVE_DONE (R126): the image of a stream's save is in host memory. -/
def execCmpSaveDone (stream : Fin 16) (s : State) : Host.Outcome State Fault Refusal :=
  match s.cmp.saves.find? (fun x => x.stream == stream.val) with
  | none => .next s
  | some x =>
    let s := s.modCmp (fun m => { m with saves := m.saves.filter (fun y => y.cmd != x.cmd) })
    .next ((s.writeResults (some x.cmd) x.addr x.image).complete x.cmd Status.ok [])

/-- The stream that a save image opens; none when the image is not good (R126). -/
def loadImage (b : List Byte) : Option Stream :=
  if crc32c (b.take 32764) ≠ u32 b 32764 ∨ u16 b 31746 ≠ 1 ∨ 1 < u8 b 31744 ∨ 3 < u8 b 31745 then none
  else some { state := if u8 b 31744 = 0 then .compress else .decompress, effort := u8 b 31745,
              hist := (b.take serviceWin).reverse, bytesIn := u64 b 31748, bytesOut := u64 b 31756 }

/-- The effect of CMP_RESTORE (R126). -/
def effCmpRestore : Effect := fun c s =>
  let p := c.packet
  if 15 < u8 p 8 ∨ u64 p 16 % 64 ≠ 0 then refuse s
  else match (s.stream (u8 p 8)).state with
    | .attached => finish s Status.busy
    | .closed => withHost c s (fun b => match loadImage (pad 32768 b) with
        | some t => good (s.setStream (u8 p 8) t)
        | none => refuse s)
    | _ => finish s Status.streamState

/-- CMP_RESTORE (R126). -/
def execCmpRestore (r : Fin 4) (d : HostRead) (s : State) : Host.Outcome State Fault Refusal :=
  .next (startCommand 0x0F05 r.val d effCmpRestore s)

/-- The effect of CMP_CLOSE (R127). -/
def effCmpClose : Effect := fun c s =>
  let k := u8 c.packet 8
  if 15 < k then refuse s
  else match (s.stream k).state with
    | .attached => finish s Status.busy
    | .closed => finish s Status.streamState
    | _ => if s.cmp.active k then finish s Status.busy else good (s.setStream k {})

/-- CMP_CLOSE (R127). -/
def execCmpClose (r : Fin 4) (s : State) : Host.Outcome State Fault Refusal :=
  .next (startCommand 0x0F06 r.val (.ok []) effCmpClose s)

/-! Camera blocks (R241). -/

/-- The pieces of bytes written cyclically into a ring of `size` bytes from offset `o` on; the fuel bounds their number. -/
def ringPieces (size : Nat) : Nat → Nat → List Byte → List (Nat × List Byte)
  | 0, _, _ => []
  | n + 1, o, b => if b = [] then [] else (o, b.take (size - o)) :: ringPieces size n 0 (b.drop (size - o))

/-- Write bytes cyclically into a ring of `size` bytes from a position on. -/
def State.ringWrite (s : State) (base size pos : Nat) (bytes : List Byte) : State :=
  (ringPieces size (bytes.length / max 1 size + 2) (pos % size) bytes).foldl (fun s x => s.emit (.host (base + x.1) x.2)) s

/-- The camera unit of a camera block. -/
def CmpJob.camUnit (j : CmpJob) : Nat := u8 j.camHeader 4
/-- The frame of a camera block. -/
def CmpJob.camFrame (j : CmpJob) : Nat := u32 j.camHeader 0

/-- Write an archive block with its header at the next 32-byte boundary (R241). -/
def State.archiveWrite (s : State) (j : CmpJob) (block : List Byte) : State :=
  let u := j.camUnit
  let c := s.camUnit u
  let pos := ceilDiv c.archBytes 32 * 32
  let header := splice 16 (leBytes 8 pos) (splice 8 (leBytes 4 block.length) j.camHeader)
  let s := s.ringWrite j.outAddr j.outCap pos (header ++ block)
  s.setCamUnit u { c with archBytes := pos + 32 + block.length }

/-- A camera block leaves the units: its frame's slot frees with its last block. -/
def State.camBlockGone (s : State) (j : CmpJob) : State :=
  if s.cmp.jobs.any (fun i => i.cmd == none && i.camUnit == j.camUnit && i.camFrame == j.camFrame) then s
  else s.modCamUnit j.camUnit (fun c => { c with coding := c.coding.filter (· != j.camFrame) })

/-! The end of a block. -/

/-- A compressed block is written (R122, R124). -/
def State.compressDone (s : State) (j : CmpJob) : State :=
  let t := s.stream j.stream
  let cont := !(t.fresh || j.fresh)
  let b := compressBlock t.effort cont (if cont then t.hist else []) j.input
  let s := s.setStream j.stream { t with hist := growHist cont t.hist j.input, fresh := false, blocks := t.blocks + 1,
                                         bytesIn := t.bytesIn + j.input.length, bytesOut := t.bytesOut + b.length }
  match j.cmd with
  | none => (s.archiveWrite j b).camBlockGone j
  | some id => (s.serviceWrite j.cmd j.outLocal j.outAddr b).complete id Status.ok
      (leBytes 4 b.length ++ leBytes 4 (crc32c j.input) ++ zeros 8)

/-- The self-check of a compressor fails (R122, R128). -/
def State.compressMismatch (s : State) (u : Nat) (j : CmpJob) : State :=
  let at_ := s.draw % max 1 j.input.length
  let seq := (s.stream j.stream).blocks
  let s := s.drawn.modCmp (fun c => { c with inService := if bit c.inService u then c.inService - 2 ^ u else c.inService })
  let s := s.raise 0x0F01 u ([j.stream, 0, 0, 0] ++ leBytes 4 at_ ++ leBytes 4 seq ++ zeros 4)
  match j.cmd with
  | none => s.camBlockGone j
  | some id => s.complete id Status.verifyMismatch []

/-- The last compressor has left service: the blocks that wait for one end (log entry 7). -/
def State.noCompressor (s : State) : State :=
  if s.cmp.inService ≠ 0 then s
  else
    let gone := s.cmp.jobs.filter (fun j => !j.decompress)
    let s := s.modCmp (fun c => { c with jobs := c.jobs.filter (fun j => j.decompress) })
    gone.foldl (fun s j => match j.cmd with
      | some id => s.complete id Status.notReady []
      | none => s.camBlockGone j) s

/-- The output of a decompressor's block, or its reason and offset (R125). -/
def decompressResult (j : CmpJob) (hist : List Byte) : Except (Nat × Nat) (List Nat) :=
  if 14 ≤ j.input.length ∧ crcGood j.input = true ∧ blockHeaderFault j.input = none ∧ j.outCap < blockOutLen j.input then
    .error (Reason.overrun, 2)
  else decodeBlock j.input hist

/-- A block is decompressed (R125). -/
def State.decompressDone (s : State) (j : CmpJob) : State :=
  let t := s.stream j.stream
  let id := j.cmd.getD 0
  match decompressResult j t.hist with
  | .error (r, o) => s.complete id Status.badParam (zeros 4 ++ leBytes 2 r ++ zeros 2 ++ leBytes 4 o ++ zeros 4)
  | .ok out =>
    let s := s.setStream j.stream { t with hist := growHist (tileCont j.input) t.hist out, fresh := false, blocks := t.blocks + 1,
                                           bytesIn := t.bytesIn + j.input.length, bytesOut := t.bytesOut + out.length }
    (s.serviceWrite j.cmd j.outLocal j.outAddr out).complete id Status.ok (leBytes 4 out.length ++ zeros 12)

/-- CMP_BLOCK_DONE (R121, R122, R125): a service unit finishes its block; `mismatch` is what a
compressor's self-check found. -/
def execCmpBlockDone (unit : Fin 4) (mismatch : Bool) (s : State) : Host.Outcome State Fault Refusal :=
  match s.cmp.jobs.find? (fun j => j.unit == some unit.val) with
  | none => .next s
  | some j =>
    let s := s.modCmp (fun c => { c with jobs := c.jobs.filter (fun i => i.unit != some unit.val) })
    let s := if j.decompress then s.decompressDone j
             else if mismatch then (s.compressMismatch unit.val j).noCompressor
             else s.compressDone j
    .next (s.modCmp Cmp.fillAll)

end Sys2Proof.Machine
end

