-- ==== Sys2Proof/Machine/Camera.lean ====
section
/-! DEFINITION. Inspection cameras and the image pipeline (chapter 10): ports, frames, exposure sets, the pipeline, the
outputs of a frame, and the CAM commands. -/
namespace Sys2Proof.Machine

/-- A quotient rounded to nearest; which way a half goes the spec leaves open (log entry 4). -/
def nearest (a : Int) (b : Nat) : Int :=
  if (2 * a).emod (2 * b) = b then a.fdiv b + (if Config.roundUp a b then 1 else 0) else roundHalfUp a b

/-! Ports and units (R225, R226). -/

/-- The port of a camera unit. -/
def camPortOf (u : Nat) : Nat := u / 4

/-- The receiver of a camera unit's port is enabled (R226). -/
def State.portOn (s : State) (u : Nat) : Bool := (s.camPort (camPortOf u)).lanes ≠ 0

/-- The units in rising order. -/
def camList : List Nat := List.range 16

/-- PIX clocks that a line of a descriptor occupies (R234). -/
def SensorDesc.clocks (d : SensorDesc) : Nat := d.width / 2 + 64

/-- The descriptors of the started units. -/
def State.startedDescs (s : State) : List SensorDesc :=
  camList.filterMap (fun u => if (s.camUnit u).started.isSome then (s.camUnit u).desc else none)

/-- ROUND (R236). -/
def State.ispRound (s : State) : Nat := sumNat (s.startedDescs.map SensorDesc.clocks)

/-- A deskew sequence ends (CAM_PORT_STATUS.DESKEWED). -/
def execCsiDeskewDone (port : Fin 4) (s : State) : Host.Outcome State Fault Refusal :=
  if (s.camPort port.val).lanes = 0 then .next s
  else .next (s.modCamPort port.val (fun p => { p with deskewed := true }))

/-! CCI writes (R230). -/

/-- The I²C bytes of a register write (R230): address, register address and data, most significant byte first. -/
def cciBytes (d : SensorDesc) (reg dbytes value : Nat) : List Byte :=
  [2 * d.addr] ++ (leBytes d.abytes reg).reverse ++ (leBytes dbytes value).reverse

/-- The register writes of an exposure set (R231). -/
def cciWrites (d : SensorDesc) (u id order : Nat) (values : List Nat) : List CciXfer :=
  let used := (d.expReg.zip values).filter (fun x => x.1.2 ≠ 0)
  (List.range used.length).zip used |>.map (fun x =>
    { unit := u, expset := id, bytes := cciBytes d x.2.1.1 x.2.1.2 x.2.2, last := x.1 + 1 == used.length, order := order })

/-- A transfer waits behind those of its own set and of sets committed before it (R230). -/
def joinCci (x : CciXfer) : List CciXfer → List CciXfer
  | [] => [x]
  | y :: rest => if y.order ≤ x.order then y :: joinCci x rest else x :: y :: rest

/-- A master's transfers with one more: the one on the bus runs to its end (R230). -/
def takeCci (q : List CciXfer) (x : CciXfer) : List CciXfer :=
  match q with
  | [] => [x]
  | y :: rest => y :: joinCci x rest

/-- Queue transfers at a master (R230); the first starts at once when the master is idle. -/
def State.cciQueue (s : State) (m : Nat) (xs : List CciXfer) : State :=
  let idle := (s.camPort m).cci.isEmpty
  let s := s.modCamPort m (fun p => { p with cci := xs.foldl takeCci p.cci })
  match xs with
  | x :: _ => if idle then s.emit (.cci m x) else s
  | [] => s

/-! Exposure sets (R231, R232). -/

/-- Replace an exposure set of a unit. -/
def State.setExp (s : State) (u : Nat) (e : ExpSet) : State :=
  s.modCamUnit u (fun c => { c with exps := c.exps.map (fun x => if x.id = e.id then e else x) })

/-- Frames marked MIXED for a set whose last write ended during frame `m` (R231). -/
def mixedFrames (k m delay : Nat) : Nat := m + max delay 1 - (k + delay)

/-- The writes of a set have ended during frame `m` (R231, R232): its command completes. -/
def State.expDone (s : State) (u : Nat) (e : ExpSet) (m : Nat) : State :=
  let d := ((s.camUnit u).desc.map (fun d => d.delay)).getD 0
  let k := e.frameK.getD 0
  let clean := m + max d 1
  (s.setExp u { e with left := 0, clean := some clean, cmd := none }).completeOpt e.cmd Status.ok
    (leBytes 2 e.id ++ [0, 0] ++ leBytes 4 k ++ leBytes 4 clean ++ leBytes 4 (mixedFrames k m d))

/-- Latch the exposure set that waits, at the FS that opens frame `k` (R231). -/
def State.latchExp (s : State) (u k : Nat) : State :=
  let c := s.camUnit u
  match c.exps.find? (fun e => e.frameK.isNone && decide (e.commit < s.tick)), c.desc with
  | some e, some d =>
    let ws := cciWrites d u e.id e.order e.values
    let e := { e with frameK := some k, left := ws.length }
    let s := s.setExp u e
    if ws.isEmpty then s.expDone u e k else s.cciQueue d.bus ws
  | _, _ => s

/-- An exposure set is in force at frame `f` (R231). -/
def ExpSet.inForce (e : ExpSet) (delay f : Nat) : Bool :=
  !e.stale && (match e.frameK with | some k => decide (k + delay ≤ f) | none => false)

/-- An exposure set makes frame `f` MIXED (R231, R232). -/
def ExpSet.mixes (e : ExpSet) (delay f : Nat) : Bool :=
  e.inForce delay f && (e.nacked || (match e.clean with | some n => decide (f < n) | none => true))

/-- Frame `f` is the first clean frame of an exposure set (R231). -/
def ExpSet.cleanAt (e : ExpSet) (f : Nat) : Bool := !e.stale && !e.nacked && e.clean == some f

/-- The sets left when the one with this ID is clean: it and the earlier ones end (R232). -/
def dropUpTo (id : Nat) : List ExpSet → List ExpSet
  | [] => []
  | e :: rest => if e.id = id then rest else if e.stale then e :: dropUpTo id rest else dropUpTo id rest

/-- Exposure sets that have their first clean frame at this FS (R231, R247). -/
def State.applyExps (s : State) (u f : Nat) : State :=
  let c := s.camUnit u
  let d := (c.desc.map (fun d => d.delay)).getD 0
  (c.exps.filter (fun e => e.cleanAt f)).foldl (fun s e =>
    let k := e.frameK.getD 0
    let s := s.modCamUnit u (fun c => { c with exps := dropUpTo e.id c.exps, expCur := e.id })
    s.raise 0x0703 u (leBytes 2 e.id ++ leBytes 2 (mixedFrames k (f - max d 1) d) ++ leBytes 4 f ++ leBytes 4 k ++ zeros 4)) s

/-- EXPSET and MIXED of frame `f` (R231). -/
def CamUnit.expAt (c : CamUnit) (f : Nat) : Nat × Bool :=
  let d := (c.desc.map (fun d => d.delay)).getD 0
  let act := c.exps.filter (fun e => e.inForce d f)
  ((act.getLast?.map (fun e => e.id)).getD c.expCur, c.exps.any (fun e => e.mixes d f))

/-- An FS on a started unit arrives in this tick (R20, R245). -/
def State.fsArrives (s : State) (u : Nat) : Bool :=
  (s.camUnit u).started.isSome && s.portOn u && s.arrives (fun i => match i with
    | .frameStart v => v.val == u
    | _ => false)

/-- EXPOSURE_LATCH_TIMEOUT (R20, R232): no FS within 1 s of the commit. -/
def execExposureLatchTimeout (u : Fin 16) (s : State) : Host.Outcome State Fault Refusal :=
  match (s.camUnit u.val).exps.find? (fun e => e.frameK.isNone && e.cmd.isSome) with
  | some e =>
    if s.tick < e.commit + 200000000 ∨ s.fsArrives u.val = true then .next s
    else .next ((s.modCamUnit u.val (fun c => { c with exps := c.exps.filter (fun x => x.id ≠ e.id) })).completeOpt e.cmd
      Status.timeout [])
  | none => .next s

/-- The writes of an exposure set end by a NACK (R230, R232). -/
def State.expNack (s : State) (x : CciXfer) : State :=
  match (s.camUnit x.unit).exps.find? (fun e => e.id == x.expset) with
  | some e => (s.setExp x.unit { e with nacked := true, left := 0, cmd := none }).completeOpt e.cmd Status.cciNack []
  | none => s

/-- An FS that opens a frame of the unit arrives in this tick (R228, R245, R246). -/
def State.fsOpens (s : State) (u : Nat) : Bool :=
  let c := s.camUnit u
  s.fsArrives u && decide (c.started.getD 0 < s.tick) && (!c.stopping || c.stopTick == s.tick)

/-- One write of an exposure set has ended well (R231). The present frame is the one opened last, or the one that an FS of this
tick opens. -/
def State.expWritten (s : State) (x : CciXfer) : State :=
  match (s.camUnit x.unit).exps.find? (fun e => e.id == x.expset) with
  | some e =>
    if e.left ≤ 1 then s.expDone x.unit e ((s.camUnit x.unit).nextFrame + b2n (s.fsOpens x.unit) - 1)
    else s.setExp x.unit { e with left := e.left - 1 }
  | none => s

/-- CCI_TRANSFER_DONE (R230, R231, R232): the transfer on the bus ends. -/
def execCciTransferDone (port : Fin 4) (nack : Bool) (s : State) : Host.Outcome State Fault Refusal :=
  match (s.camPort port.val).cci with
  | [] => .next s
  | x :: rest =>
    let rest := if nack then rest.filter (fun y => !(y.unit == x.unit && y.expset == x.expset)) else rest
    let s := s.modCamPort port.val (fun p => { p with cci := rest })
    let s := match rest with
      | y :: _ => s.emit (.cci port.val y)
      | [] => s
    .next (if nack then s.expNack x else s.expWritten x)

/-! Frames (R228). -/

/-- The last press line triggered, 0 before the first. -/
def State.lineNow (s : State) : Nat := s.fir.lastLine.getD 0

/-- A frame closes (R228). -/
def State.closeFrame (s : State) (u : Nat) (f : Frame) : State :=
  let f := { f with closeTick := s.tick, closeTime := s.stampIn f.timeB, closeLine := s.lineNow }
  s.modCamUnit u (fun c => { c with open_ := none, closed := c.closed ++ [f], lastFrame := f.no % 2 ^ 32 })

/-- Arguments of FRAME_TRUNC and FRAME_TIMEOUT (R247). -/
def Frame.args (f : Frame) : List Byte :=
  leBytes 4 f.no ++ leBytes 2 f.served ++ leBytes 2 f.expset ++ leBytes 6 f.fsLine ++ [0, 0]

/-- Streams attached to a unit and no longer named return to COMPRESS (R239). -/
def State.releaseStreams (s : State) (u : Nat) (keep : List Nat) : State :=
  let gone := (s.camUnit u).held.filter (fun t => !keep.contains t)
  let s := gone.foldl (fun s t => s.modStream t (fun x => { x with state := .compress })) s
  s.modCamUnit u (fun c => { c with held := c.held.filter (fun t => keep.contains t) })

/-- The stream that an output configuration codes into. -/
def CamOut.streams (o : CamOut) : List Nat := if bit o.enable 1 then [o.codeStream] else []

/-- Pipeline coefficients and outputs that wait for an FS take effect (R238, R239). -/
def State.takeCamera (s : State) (u : Nat) : State :=
  let c := s.camUnit u
  let s := match lastDue c.pipeNext s.tick with
    | some p => s.modCamUnit u (fun c => { c with pipe := p, pipeNext := stillWaiting c.pipeNext s.tick })
    | none => s
  match lastDue c.outsNext s.tick with
  | some o =>
    let later := stillWaiting c.outsNext s.tick
    (s.modCamUnit u (fun c => { c with outs := o, outsNext := later })).releaseStreams u (o.streams ++ later.flatMap (fun x => x.val.streams))
  | none => s

/-- A fitted map replaces the seed at the unit's next FS (R261): its columns' counters are cleared, and comparison resumes
with windows predicted under it. -/
def State.takeMap (s : State) (u : Nat) : State :=
  match stagedDue (s.stk.mapNext.get none u) s.tick with
  | none => s
  | some m => s.modStk (fun k => { k with
      maps := k.maps.set none u (some m), mapNext := k.mapNext.set none u none,
      unitFrom := k.unitFrom.set 0 u (ceil16 (s.lineNow + 80)),
      cols := (List.range m.cols).foldl (fun t c =>
        t.set {} (m.base + c) { t.get ({} : StkCol) (m.base + c) with count := 0 }) k.cols })

/-- Open the next frame of a unit (R228, R231). -/
def State.openFrame (s : State) (u : Nat) : State :=
  let n := (s.camUnit u).nextFrame
  let s := (s.takeCamera u).modCamUnit u (fun c => { c with nextFrame := n + 1, dead := false, stopHeld := c.stopHeld || c.stopping })
  let s := (((s.latchExp u n).applyExps u n).takeMap u)
  let c := s.camUnit u
  let e := c.expAt n
  let f : Frame := { no := n, fsTick := s.tick, fsTime := s.nowNs, timeB := s.hif.timeB, pipe := c.pipe, outs := c.outs,
                     fsLine := s.lineNow, expset := e.1, mixed := e.2, width := (c.desc.map (fun d => d.width)).getD 0,
                     stripH := (c.desc.map (fun d => d.stripH)).getD 0, dt := (c.desc.map (fun d => d.dt)).getD 0,
                     coded := bit c.outs.enable 1 && c.held.contains c.outs.codeStream }
  s.setCamUnit u { c with open_ := some f, expShown := e.1 }

/-- FRAME_START (R228): an FS on a started unit. -/
def execFrameStart (u : Fin 16) (s : State) : Host.Outcome State Fault Refusal :=
  let c := s.camUnit u.val
  match c.started with
  | none => .next s
  | some t =>
    if s.portOn u.val = false ∨ s.tick ≤ t then .next s
    else
      match c.open_ with
      | some f =>
        let s := s.closeFrame u.val { f with damaged := true }
        .next (if c.stopping ∧ c.stopTick ≠ s.tick then s else s.openFrame u.val)
      | none => if c.stopping ∧ c.stopTick ≠ s.tick then .next s else .next (s.openFrame u.val)

/-- FRAME_END (R228): an FE on a unit with an open frame. -/
def execFrameEnd (u : Fin 16) (s : State) : Host.Outcome State Fault Refusal :=
  let c := s.camUnit u.val
  match c.open_, c.desc with
  | some f, some d => .next (s.closeFrame u.val { f with damaged := f.damaged || decide (f.got < d.stripH) })
  | _, _ => .next s

/-- FRAME_TIMEOUT (R20, R228): no FE within FRAME_TO of the FS. -/
def execFrameTimeout (u : Fin 16) (s : State) : Host.Outcome State Fault Refusal :=
  let c := s.camUnit u.val
  match c.open_, c.desc with
  | some f, some d =>
    let ends := s.arrives (fun i => match i with
      | .frameEnd v => v == u
      | _ => false)
    if s.tick < f.fsTick + d.frameTo * 200 ∨ ends = true then .next s
    else
      let s := s.modCamUnit u.val (fun c => { c with timeouts := satAdd 16 c.timeouts 1 })
      .next ((s.closeFrame u.val { f with timeout := true }).raise 0x0702 u.val f.args)
  | _, _ => .next s

/-- The unit whose turn it is (R234): round-robin after the unit served last. -/
def State.nextCamera (s : State) : Option Nat :=
  ((List.range 16).map (fun k => (s.cam.lastServed + 1 + k) % 16)).find? (fun u => !(s.camUnit u).slots.isEmpty)

/-- The pipeline turns to the unit whose turn it is (R234). -/
def State.startService (s : State) : State := s.modCam (fun m => { m with serving := s.nextCamera.map (fun v => (v, s.tick, false)) })

/-- A unit overflows (R235): its frame closes with TRUNC, with the lines already served. A line of it that the pipeline was reading
leaves the pipeline to the next unit. -/
def State.overflow (s : State) (u : Nat) (f : Frame) : State :=
  let s := s.modCamUnit u (fun c => { c with dead := true, truncs := satAdd 16 c.truncs 1, slots := c.slots.filter (fun l => l.frame ≠ f.fsTick) })
  let cut := (match s.cam.serving with
    | some x => x.1 == u
    | none => false) && (s.camUnit u).slots.isEmpty
  let s := if cut then (s.modCam (fun m => { m with lastServed := u })).startService else s
  (s.closeFrame u { f with trunc := true }).raise 0x0701 u f.args

/-- The rows of a line as channels R, G, B (R227): row `i` in arrival order carries channel CH_ORDER[i]. -/
def channelRows (chOrder : Nat) (rows : List (List Nat)) : List (List Nat) :=
  (List.range 3).map (fun c =>
    match (List.range 3).find? (fun i => bits chOrder (2 * i + 1) (2 * i) == c) with
    | some i => rows.getD i []
    | none => [])

/-- A row cut or padded to WIDTH (R228); what the padding holds the spec leaves open. -/
def fitRow (width free : Nat) (r : List Nat) : List Nat := r.take width ++ List.replicate (width - r.length) free

/-- What a port counts of the packets that arrive (R225): payload CRC errors, headers corrected and not correctable, and packets
of an unsupported kind. -/
def CamPort.count (p : CamPort) (errs corr uncorr other : Nat) : CamPort :=
  { p with crcErr := satAdd 16 p.crcErr errs, eccCorr := satAdd 16 p.eccCorr corr, eccUncorr := satAdd 16 p.eccUncorr uncorr,
           dtDiscard := satAdd 16 p.dtDiscard other }

/-- The unit in service with a line in its slots (R234). -/
def State.lineInService (s : State) : Option (Nat × Nat × Bool) :=
  s.cam.serving.bind (fun x => if (s.camUnit x.1).slots.isEmpty then none else some x)

/-- A line of unit `u` is complete (R234): a free pipeline takes it; of units that become ready in one tick the lower goes first. -/
def State.lineReady (s : State) (u : Nat) : State :=
  let take := match s.lineInService with
    | none => true
    | some (v, t, idle) => idle && t == s.tick && decide (u < v)
  if take then s.modCam (fun m => { m with serving := some (u, s.tick, true) }) else s

/-- The slot of unit `u` in service frees in this tick (R233): the pipeline's read-out of its line ends. -/
def State.slotFrees (s : State) (u : Nat) : Bool :=
  (match s.lineInService with
    | some x => x.1 == u
    | none => false) && s.arrives (fun i => i == .pipelineLine)

/-- LINE_ARRIVAL (R225, R227, R228, R233, R235): packets arrive on the unit's virtual channel: a trilinear line with its rows in
arrival order, or no row where none was complete; how many packets had a payload CRC error, how many headers were corrected,
were not correctable, and how many packets were of an unsupported kind. The port counts them in a frame and outside one. -/
def execLineArrival (u : Fin 16) (rows : List (List Nat)) (errs : Fin 4) (corr uncorr other : Nat) (s : State) :
    Host.Outcome State Fault Refusal :=
  if s.portOn u.val = false then .next s
  else
    let c := s.camUnit u.val
    let s := s.modCamPort (camPortOf u.val) (fun p => p.count errs.val corr uncorr other)
    match c.open_, c.desc with
    | some f, some d =>
      if rows = [] then
        .next (s.setCamUnit u.val { c with
          open_ := some { f with damaged := f.damaged || errs.val ≠ 0, crcErr := satAdd 16 f.crcErr errs.val } })
      else if d.stripH ≤ f.got then
        .next (s.setCamUnit u.val { c with open_ := some { f with damaged := true, crcErr := satAdd 16 f.crcErr errs.val } })
      else if 2 ≤ c.slots.length ∧ s.slotFrees u.val = false then .next (s.overflow u.val f)
      else
        let odd := errs.val ≠ 0 || rows.length ≠ 3 || rows.any (fun r => r.length ≠ d.width)
        let top := if d.dt = 0x2B then 1024 else if d.dt = 0x2C then 4096 else 256
        let chans := (channelRows d.chOrder rows).map (fun r => (fitRow d.width s.draw r).map (· % top))
        let f := { f with got := f.got + 1, crcErr := satAdd 16 f.crcErr errs.val, damaged := f.damaged || odd }
        let s := if odd then s.drawn else s
        let ready := s.lineReady u.val
        .next (ready.setCamUnit u.val { c with open_ := some f, slots := c.slots ++ [{ frame := f.fsTick, chans := chans }] })
    | _, _ => .next s

/-! The pipeline (R234, R237). -/

/-- clamp of R237. -/
def clamp12 (x : Int) : Nat := (clampI 0 4095 x).toNat

/-- *u* of R237 by data type. -/
def rawSample (dt x : Nat) : Nat := if dt = 0x2C then x else if dt = 0x2B then x * 4 else x * 16

/-- *m*[i] of R237. -/
def ccmRow (p : PipeCoef) (w : List Nat) (i : Nat) : Nat :=
  let sum := sumInt ((List.range 3).map (fun j => p.ccm.getD (3 * i + j) 0 * w.getD j 0))
  clamp12 ((sum + 2048).fdiv 4096 + p.offset.getD i 0)

/-- A point of T[c] (R238); without a load it is min(4,095, 64 i). -/
def PipeCoef.point (p : PipeCoef) (c i : Nat) : Int := if p.tab = [] then min 4095 (64 * (i : Int)) else (p.tab.getD c []).getD i 0

/-- *d*[c] of R237. -/
def displayValue (p : PipeCoef) (c m : Nat) : Nat :=
  let q := m / 64
  let t := p.point c q + ((p.point c (q + 1) - p.point c q) * (m % 64 : Nat) + 32).fdiv 64
  (min 255 ((t + 8).fdiv 16)).toNat

/-- round(1,024 × log10(white / x)) for 1 ≤ x ≤ white, by bits: 10^(2k − 1) × x^2048 ≤ white^2048 for its value k. -/
def logRound (white x : Nat) : Nat → Nat → Nat
  | 0, k => k
  | n + 1, k =>
    let k' := k + 2 ^ n
    logRound white x n (if 10 ^ (2 * k' - 1) * x ^ 2048 ≤ white ^ 2048 then k' else k)

/-- The absorbance *a* (R237), computed to within ±1 of the exactly rounded value. -/
def absorbance (white x : Nat) : Nat :=
  if white < x then 0
  else clamp12 ((logRound white (max x 1) 12 0 : Int) + (Config.logError white (max x 1) % 3 : Nat) - 1)

/-- A pixel through the pipeline (R237): *d* and *a* by channel. -/
def pipePixel (p : PipeCoef) (tap : Nat) (u : List Nat) : List Nat × List Nat :=
  let b := (List.range 3).map (fun c => u.getD c 0 - p.black.getD c 0)
  let w := (List.range 3).map (fun c => clamp12 (((b.getD c 0 * p.wb.getD c 0 + 2048) / 4096 : Nat) : Int))
  let m := (List.range 3).map (ccmRow p w)
  let x := if tap = 0 then b else if tap = 1 then w else m
  ((List.range 3).map (fun c => displayValue p c (m.getD c 0)), (List.range 3).map (fun c => absorbance (p.white.getD c 0) (x.getD c 0)))

/-- Sums by channel and pixel. -/
def addRows (x y : List (List Nat)) : List (List Nat) :=
  if x = [] then y else (x.zip y).map (fun r => (r.1.zip r.2).map (fun v => v.1 + v.2))

/-- A line enters a frame's outputs (R237, R242). -/
def Frame.serve (f : Frame) (l : CamLine) : Frame :=
  let width := (l.chans.getD 0 []).length
  let px := (List.range width).map (fun i =>
    pipePixel f.pipe f.outs.mvTap ((List.range 3).map (fun c => rawSample f.dt ((l.chans.getD c []).getD i 0))))
  let d := (List.range 3).map (fun c => px.map (fun p => p.1.getD c 0))
  let a := (List.range 3).map (fun c => px.map (fun p => p.2.getD c 0))
  { f with served := f.served + 1, rows := f.rows ++ [d], absSum := addRows f.absSum a }

/-- The unit whose line the pipeline reads (R234): the one in service, else the one whose turn it is. -/
def State.readUnit (s : State) : Option Nat :=
  match s.lineInService with
  | some x => some x.1
  | none => s.nextCamera

/-- PIPELINE_LINE (R233, R234): the pipeline has read a line out, and its slot frees; it takes the next unit's line. -/
def execPipelineLine (s : State) : Host.Outcome State Fault Refusal :=
  match s.readUnit with
  | none => .next s
  | some u =>
    let c := s.camUnit u
    match c.slots with
    | l :: rest =>
      let serve (f : Frame) : Frame := if f.fsTick = l.frame then f.serve l else f
      let s := s.setCamUnit u { c with slots := rest, open_ := c.open_.map serve, closed := c.closed.map serve }
      .next (s.modCam (fun m => { m with lastServed := u })).startService
    | [] => .next s

/-! Outputs (R240 to R244). -/

/-- The frame is unusable (R228). -/
def Frame.unusable (f : Frame) : Bool := f.mixed || f.trunc || f.timeout || f.damaged

/-- The flags of a frame record (R243). -/
def Frame.flags (f : Frame) (skip : Bool) : Nat :=
  b2n f.mixed + 2 * b2n f.trunc + 4 * b2n f.timeout + 8 * b2n f.damaged + 16 * b2n skip + 32 * b2n f.timeB

/-- *d* at a line, channel and pixel. -/
def Frame.at (f : Frame) (y c x : Nat) : Nat := ((f.rows.getD y []).getD c []).getD x 0

/-- Mean *d* of a block of pixels, rounded (R240, R241). -/
def Frame.blockMean (f : Frame) (c x y w h : Nat) : Nat :=
  let sum := sumNat ((List.range h).map (fun j => sumNat ((List.range w).map (fun i => f.at (y + j) c (x + i)))))
  (sum + w * h / 2) / (w * h)

/-- Write the display buffer (R240): a display line for every DY lines served. -/
def State.writeDisplay (s : State) (f : Frame) : State :=
  let o := f.outs
  let base := o.dispAddr + f.no % max 1 o.dispN * (o.dispStride * f.stripH / max 1 o.dy)
  (List.range (f.served / max 1 o.dy)).foldl (fun s j =>
    s.emit (.host (base + j * o.dispStride) ((List.range (f.width / max 1 o.dx)).flatMap (fun i =>
      (List.range 3).map (fun c => f.blockMean c (i * o.dx) (j * o.dy) (max 1 o.dx) (max 1 o.dy)))))) s

/-- The profile of a frame (R242): P by profile column and channel. A frame with no line served has no stated P. -/
def Frame.profile (f : Frame) (free : Nat) : List (List Nat) :=
  let bin := max 1 f.outs.mvBin
  let n := f.served * bin
  (List.range (f.width / bin)).map (fun i =>
    (List.range 3).map (fun c =>
      if n = 0 then free / 65536 ^ (3 * i + c) % 65536
      else (nearest (16 * sumNat ((List.range bin).map (fun k => (f.absSum.getD c []).getD (i * bin + k) 0)) : Nat) n).toNat % 65536))

/-- Frame mean of P over all profile columns (R243), for channel `c`. -/
def profileMean (p : List (List Nat)) (c : Nat) : Nat :=
  if p = [] then 0 else (roundFree (sumNat (p.map (fun x => x.getD c 0)) : Nat) p.length).toNat

/-- Write the profile to its host buffer (R242). -/
def State.writeProfile (s : State) (f : Frame) (p : List (List Nat)) : State :=
  s.emit (.host (f.outs.profAddr + f.no % max 1 f.outs.profN * (6 * f.width / max 1 f.outs.mvBin))
    (p.flatMap (fun x => x.flatMap (fun v => leBytes 2 v))))

/-- Y of a pixel (R241). -/
def lumaOf (r g b : Nat) : Nat := (clampI 0 255 ((13933 * (r : Int) + 46871 * g + 4732 * b + 32768).fdiv 65536)).toNat
/-- Cb of a block (R241). -/
def cbOf (r g b : Nat) : Nat := (clampI 0 255 ((-7510 * (r : Int) - 25258 * g + 32768 * b + 32768).fdiv 65536 + 128)).toNat
/-- Cr of a block (R241). -/
def crOf (r g b : Nat) : Nat := (clampI 0 255 ((32768 * (r : Int) - 29767 * g - 3001 * b + 32768).fdiv 65536 + 128)).toNat

/-- The three I420 planes of a frame (R241), of the lines served, in whole pairs. -/
def Frame.planes (f : Frame) : List (List Byte) :=
  let h := f.served / 2
  let w := f.width / 2
  let chroma (k : Nat → Nat → Nat → Nat) : List Byte :=
    (List.range h).flatMap (fun j => (List.range w).map (fun i =>
      k (f.blockMean 0 (2 * i) (2 * j) 2 2) (f.blockMean 1 (2 * i) (2 * j) 2 2) (f.blockMean 2 (2 * i) (2 * j) 2 2)))
  [(List.range (2 * h)).flatMap (fun y => (List.range (2 * w)).map (fun x => lumaOf (f.at y 0 x) (f.at y 1 x) (f.at y 2 x))),
   chroma cbOf, chroma crOf]

/-- Blocks of up to 65,536 bytes (R241); the fuel bounds their number. -/
def blocksOf : Nat → List Byte → List (List Byte)
  | 0, _ => []
  | n + 1, b => if b = [] then [] else b.take 65536 :: blocksOf n (b.drop 65536)

/-- Hand a frame's planes to its stream (R241). -/
def State.codeFrame (s : State) (u : Nat) (f : Frame) : State :=
  let s := s.modCamUnit u (fun c => { c with coding := c.coding ++ [f.no] })
  ((List.range 3).zip f.planes).foldl (fun s pl =>
    let bs := blocksOf (pl.2.length / 65536 + 1) pl.2
    ((List.range bs.length).zip bs).foldl (fun s b =>
      s.addJob { cmd := none, stream := f.outs.codeStream, decompress := false, unit := none, input := b.2,
                 outAddr := f.outs.archAddr, outLocal := false, outCap := 2 ^ f.outs.archLog2, fresh := pl.1 == 0 && b.1 == 0,
                 camHeader := leBytes 4 f.no ++ [u, pl.1] ++ leBytes 2 b.1 ++ zeros 4 ++ leBytes 2 f.expset
                   ++ [f.flags false, 0] ++ zeros 16 }) s) s

/-- The frame record (R243). -/
def Frame.record (f : Frame) (u : Nat) (skip : Bool) (p : List (List Nat)) (archive : Nat) : List Byte :=
  leBytes 4 f.no ++ [u, f.flags skip] ++ leBytes 2 f.expset ++ leBytes 8 f.fsTime ++ leBytes 8 f.closeTime ++ leBytes 6 f.fsLine
    ++ leBytes 2 f.served ++ [if bit f.outs.enable 0 then f.no % max 1 f.outs.dispN else 0xFF, 0] ++ leBytes 2 f.crcErr
    ++ (List.range 3).flatMap (fun c => if bit f.outs.enable 2 then leBytes 2 (profileMean p c) else [0, 0]) ++ zeros 6
    ++ leBytes 8 archive ++ zeros 8

/-- What the compressor makes of a unit's waiting blocks: the streams and the archive byte count after each (R122, R241). -/
def archiveAfter (x : Table Stream × Nat) (j : CmpJob) : Table Stream × Nat :=
  let t := x.1.get {} j.stream
  let cont := !(t.fresh || j.fresh)
  let b := compressBlock t.effort cont (if cont then t.hist else []) j.input
  (x.1.set {} j.stream { t with hist := growHist cont t.hist j.input, fresh := false }, ceilDiv x.2 32 * 32 + 32 + b.length)

/-- The archive byte count at a unit's next header (R241, R243): after the blocks that its earlier coded frames still have to write. -/
def State.nextHeader (s : State) (u : Nat) : Nat :=
  let waiting := s.cmp.jobs.filter (fun j => j.cmd.isNone && j.camUnit == u)
  ceilDiv (waiting.foldl archiveAfter (s.cmp.streams, (s.camUnit u).archBytes)).2 32 * 32

/-- The frame is to be coded (R241): its stream was attached at its FS, and it has a block. -/
def Frame.wantsCode (f : Frame) : Bool :=
  decide (2 ≤ f.served) && f.coded && f.no % max 1 f.outs.codeEvery == 0 && !f.trunc && !f.timeout

/-- Write the outputs of a closed frame to host memory and its stream (R240 to R244). -/
def State.deliverOutputs (s : State) (u : Nat) (f : Frame) (p : List (List Nat)) : State :=
  let o := f.outs
  let busy := decide (2 ≤ (s.camUnit u).coding.length)
  let want := f.wantsCode
  let pos := s.nextHeader u
  let s := if bit o.enable 0 then s.writeDisplay f else s
  let s := if bit o.enable 2 && bit o.enable 3 then s.writeProfile f p else s
  let s := if want && busy then s.modCamUnit u (fun c => { c with codeSkip := satAdd 32 c.codeSkip 1 })
    else if want then s.codeFrame u f else s
  if bit o.enable 4 then
    s.emit (.host (o.recAddr + f.no % 2 ^ o.recLog2 * 64)
      (f.record u (want && busy) p (if want && !busy then pos else 2 ^ 64 - 1)))
  else s

/-- The oldest closed frame of a unit whose lines have all been served (R234, R244). -/
def CamUnit.ready (c : CamUnit) : Option Frame :=
  match c.closed with
  | f :: _ => if c.slots.any (fun l => l.frame == f.fsTick) then none else some f
  | [] => none

/-! Commands. -/

/-- CAM_STOP completes, with every command that waited for a latch (R232, R246). -/
def State.camStopped (s : State) (u : Nat) : State :=
  let c := s.camUnit u
  let s := (s.releaseStreams u []).spoilUnit u
  let waits := c.exps.filter (fun e => e.frameK.isNone)
  let s := s.modCamUnit u (fun c => { c with started := none, stopping := false, stopHeld := false, stopCmds := [], dead := false,
                                             slots := c.slots.filter (fun l => c.closed.any (fun f => f.fsTick == l.frame)),
                                             exps := c.exps.filter (fun e => e.frameK.isSome) })
  s.completeAll (waits.filterMap (fun e => e.cmd.map (fun id => (id, Status.notReady, [])))
    ++ c.stopCmds.map (fun id => (id, Status.ok, leBytes 4 c.lastFrame ++ zeros 12)))

/-- A stopping unit stops (R246): when the frame that was in progress has closed and its outputs have been written, else at the
commit, which `now` marks the end of the tick of. -/
def State.endCamStop (now : Bool) (s : State) (u : Nat) : State :=
  let c := s.camUnit u
  let ended := if c.stopHeld then c.closed.isEmpty else now || decide (c.stopTick < s.tick)
  if c.stopping && c.open_.isNone && ended then s.camStopped u else s

/-- CAM_STOPs with no frame in progress complete at the end of their tick: a frame whose FS falls in the commit tick
counts as in progress (R246). -/
def State.endCamStops (s : State) : State := camList.foldl (State.endCamStop true) s

/-- Some unit of a port is started. -/
def State.portStarted (s : State) (port : Nat) : Bool := camList.any (fun u => camPortOf u == port && (s.camUnit u).started.isSome)

/-- The effect of CAM_PORT (R226). -/
def effCamPort : Effect := fun c s =>
  let p := c.packet
  let n := u8 p 8
  if 4 ≤ n ∨ !([0, 1, 2, 4].contains (u8 p 9)) = true ∨ 2 < u8 p 10 ∨ u32 p 12 < 80 ∨ 4500 < u32 p 12 ∨ 32 ≤ u8 p 17 then refuse s
  else if s.portStarted n then finish s Status.busy
  else good (s.modCamPort n (fun q => { q with lanes := u8 p 9, speed := u8 p 10, rate := u32 p 12, laneMap := u8 p 16, polarity := u8 p 17,
                                               deskewed := false }))

/-- CAM_PORT (R226). -/
def execCamPort (r : Fin 4) (s : State) : Host.Outcome State Fault Refusal :=
  .next (startCommand 0x0701 r.val (.ok []) effCamPort s)

/-- CAM_SENSOR_DESC's parameters (R229). -/
def parseDesc (p : List Byte) : SensorDesc :=
  { dt := u8 p 9, layout := u8 p 10, chOrder := u8 p 11, width := u16 p 12, stripH := u16 p 14, minLine := u32 p 16, delay := u8 p 20,
    bus := u8 p 21, addr := u8 p 22, abytes := u8 p 23, frameTo := u32 p 24, gap1 := u8 p 28, gap2 := u8 p 29,
    expReg := (List.range 4).map (fun k => (u16 p (32 + 4 * k), u8 p (34 + 4 * k))) }

/-- CH_ORDER is a permutation (R229). -/
def chOrderOk (v : Nat) : Bool :=
  decide (v < 64) && (List.range 3).all (fun c => (List.range 3).any (fun i => bits v (2 * i + 1) (2 * i) == c))

/-- The ranges of CAM_SENSOR_DESC (R227, R229). -/
def descBad (p : List Byte) : Bool :=
  let d := parseDesc p
  decide (16 ≤ u8 p 8) || decide (2 < d.layout) || !(if d.layout = 0 then d.dt == 0x24 else d.dt == 0x2B || d.dt == 0x2C)
    || !chOrderOk d.chOrder || decide (d.width < 64) || decide (16384 < d.width) || d.width % 16 ≠ 0 || decide (d.stripH < 2)
    || decide (4096 < d.stripH) || d.stripH % 2 ≠ 0 || decide (d.minLine < 100) || decide (2 ^ 24 < d.minLine) || decide (4 < d.delay)
    || decide (3 < d.bus) || decide (128 ≤ d.addr) || !(d.abytes == 1 || d.abytes == 2) || d.frameTo == 0 || decide (1000000 < d.frameTo)
    || d.expReg.any (fun e => decide (4 < e.2)) || (List.range 4).any (fun k => u8 p (35 + 4 * k) ≠ 0)

/-- The effect of CAM_SENSOR_DESC (R229). -/
def effCamSensorDesc : Effect := fun c s =>
  let p := c.packet
  if descBad p then refuse s
  else if (s.camUnit (u8 p 8)).started.isSome then finish s Status.busy
  else good (s.modCamUnit (u8 p 8) (fun u => { u with desc := some (parseDesc p) }))

/-- CAM_SENSOR_DESC (R229). -/
def execCamSensorDesc (r : Fin 4) (s : State) : Host.Outcome State Fault Refusal :=
  .next (startCommand 0x0702 r.val (.ok []) effCamSensorDesc s)

/-- The effect of CAM_SET_EXPOSURE (R231, R232). -/
def effCamSetExposure : Effect := fun c s =>
  let p := c.packet
  let u := u8 p 8
  if 16 ≤ u then refuse s
  else
    let x := s.camUnit u
    if x.started = none then finish s Status.notReady
    else if x.exps.any (fun e => e.cmd.isSome) then finish s Status.busy
    else
      let e : ExpSet := { id := x.expNext, cmd := some c.id, values := (List.range 4).map (fun k => u32 p (16 + 4 * k)), commit := s.tick,
                          order := s.cam.expOrder }
      let s := s.modCam (fun m => { m with expOrder := m.expOrder + 1 })
      (s.setCamUnit u { x with expNext := if x.expNext = 65535 then 1 else x.expNext + 1, exps := x.exps ++ [e] }, .running)

/-- CAM_SET_EXPOSURE (R231). -/
def execCamSetExposure (r : Fin 4) (s : State) : Host.Outcome State Fault Refusal :=
  .next (startCommand 0x0703 r.val (.ok []) effCamSetExposure s)

/-- The block of CAM_PIPE (R238). -/
def parsePipe (b : List Byte) : PipeCoef :=
  { black := (List.range 3).map (fun k => u16 b (2 * k)), wb := (List.range 3).map (fun k => u16 b (6 + 2 * k)),
    ccm := (List.range 9).map (fun k => i16 b (12 + 2 * k)), offset := (List.range 3).map (fun k => i16 b (30 + 2 * k)),
    white := (List.range 3).map (fun k => u16 b (36 + 2 * k)),
    tab := (List.range 3).map (fun c => (List.range 65).map (fun i => u16 b (44 + 130 * c + 2 * i))) }

/-- The block of CAM_PIPE breaks its form (R238). -/
def pipeBad (b : List Byte) : Bool :=
  let q := parsePipe b
  crc32c (b.take 508) ≠ u32 b 508 || q.black.any (fun x => decide (4095 < x)) || q.offset.any (fun x => decide (x < -4095) || decide (4095 < x))
    || q.white.any (fun x => x == 0 || decide (4095 < x)) || !zeroRange b 42 44 || q.tab.any (fun t => t.any (fun x => decide (4095 < x)))
    || !zeroRange b 434 508

/-- The effect of CAM_PIPE (R238). -/
def effCamPipe : Effect := fun c s =>
  let p := c.packet
  let u := u8 p 8
  if (16 ≤ u ∧ u ≠ 0xFF) ∨ u64 p 16 % 64 ≠ 0 then refuse s
  else withHost c s (fun b =>
    if pipeBad b then refuse s
    else good ((if u = 0xFF then camList else [u]).foldl (fun s k =>
      s.modCamUnit k (fun x => { x with pipeNext := x.pipeNext ++ [⟨parsePipe b, s.tick⟩] })) s))

/-- CAM_PIPE (R238). -/
def execCamPipe (r : Fin 4) (d : HostRead) (s : State) : Host.Outcome State Fault Refusal :=
  .next (startCommand 0x0704 r.val d effCamPipe s)

/-- CAM_OUTPUTS' parameters (R239). -/
def parseOuts (p : List Byte) : CamOut :=
  { enable := u8 p 9, dx := u8 p 10, dy := u8 p 11, mvTap := u8 p 12, mvBin := u8 p 13, codeStream := u8 p 14, codeEvery := u8 p 15,
    dispAddr := u64 p 16, dispStride := u32 p 24, dispN := u8 p 28, archLog2 := u8 p 29, archAddr := u64 p 32, recAddr := u64 p 40,
    recLog2 := u8 p 48, profN := u8 p 49, profAddr := u64 p 56 }

/-- A decimation of R239. -/
def decimOk (n : Nat) : Bool := [1, 2, 4, 8, 16].contains n

/-- The ranges of CAM_OUTPUTS (R239); fields of a disabled output are ignored. -/
def outsBad (p : List Byte) : Bool :=
  let o := parseOuts p
  let disp := bit o.enable 0
  let code := bit o.enable 1
  let mv := bit o.enable 2
  let mvHost := bit o.enable 3
  let rec_ := bit o.enable 4
  decide (16 ≤ u8 p 8) || decide (32 ≤ o.enable)
    || (disp && (!decimOk o.dx || !decimOk o.dy || o.dispAddr % 64 ≠ 0 || o.dispStride % 64 ≠ 0 || decide (o.dispN < 2) || decide (16 < o.dispN)))
    || (code && (decide (15 < o.codeStream) || o.codeEvery == 0 || decide (o.archLog2 < 16) || decide (30 < o.archLog2) || o.archAddr % 64 ≠ 0))
    || (mv && (decide (2 < o.mvTap) || !([1, 2, 4].contains o.mvBin)))
    || (mvHost && (o.profN == 0 || decide (16 < o.profN) || o.profAddr % 64 ≠ 0))
    || (rec_ && (decide (o.recLog2 < 4) || decide (12 < o.recLog2) || o.recAddr % 64 ≠ 0))

/-- The outputs a unit will have at its next FS. -/
def CamUnit.outsComing (c : CamUnit) : CamOut := ((c.outsNext.getLast?).map (fun o => o.val)).getD c.outs

/-- Profile columns of a unit under an output configuration (R239). -/
def CamUnit.profileCols (c : CamUnit) (o : CamOut) : Nat :=
  if bit o.enable 2 then (c.desc.map (fun d => d.width)).getD 0 / max 1 o.mvBin else 0

/-- The output configuration breaks an obligation on the descriptor (R239). -/
def CamOut.misfits (o : CamOut) (d : SensorDesc) : Bool :=
  bit o.enable 0 && (d.width % max 1 o.dx ≠ 0 || d.stripH % max 1 o.dy ≠ 0 || decide (o.dispStride < 3 * d.width / max 1 o.dx))

/-- A unit attaches the stream its outputs code into (R239). -/
def State.attachStream (s : State) (u : Nat) (o : CamOut) : State :=
  if bit o.enable 1 && !(s.camUnit u).held.contains o.codeStream && (s.stream o.codeStream).state == .compress
      && decide ((s.stream o.codeStream).effort ≤ 1) then
    (s.modStream o.codeStream (fun t => { t with state := .attached })).modCamUnit u (fun c => { c with held := c.held ++ [o.codeStream] })
  else s

/-- The stream that CODING names can be attached to the unit (R239). -/
def State.streamFits (s : State) (u : Nat) (o : CamOut) : Bool :=
  !bit o.enable 1 || (s.camUnit u).held.contains o.codeStream
    || ((s.stream o.codeStream).state == .compress && decide ((s.stream o.codeStream).effort ≤ 1))

/-- The effect of CAM_OUTPUTS (R239). -/
def effCamOutputs : Effect := fun c s =>
  let p := c.packet
  let u := u8 p 8
  let o := parseOuts p
  if outsBad p then refuse s
  else
    let x := s.camUnit u
    let cols := sumNat (camList.map (fun k => (s.camUnit k).profileCols (if k = u then o else (s.camUnit k).outsComing)))
    if s.streamFits u o = false then finish s Status.streamState
    else
      match x.desc with
      | none => finish s Status.descMissing
      | some d =>
        if o.misfits d then refuse s
        else if 65536 < cols then finish s Status.noResource
        else
          let s := (s.attachStream u o).modCamUnit u (fun x => { x with outsNext := x.outsNext ++ [⟨o, s.tick⟩] })
          good (if x.started.isSome then s else s.releaseStreams u o.streams)

/-- CAM_OUTPUTS (R239). -/
def execCamOutputs (r : Fin 4) (s : State) : Host.Outcome State Fault Refusal :=
  .next (startCommand 0x0705 r.val (.ok []) effCamOutputs s)

/-- R236 with a new unit counted. -/
def roundFits (ds : List SensorDesc) : Bool :=
  let n := sumNat (ds.map SensorDesc.clocks)
  ds.all (fun d => decide (n ≤ 3 * d.minLine))

/-- The effect of CAM_START (R236, R245). -/
def effCamStart : Effect := fun c s =>
  let u := u8 c.packet 8
  if 16 ≤ u then refuse s
  else
    let x := s.camUnit u
    match x.desc with
    | none => finish s Status.descMissing
    | some d =>
      if s.portOn u = false then finish s Status.notReady
      else if x.started.isSome then finish s Status.busy
      else if roundFits (d :: s.startedDescs) = false then finish s Status.noResource
      else
        let exps := (x.exps.filter (fun e => e.cmd.isSome)).map (fun e => { e with stale := true })
        let s := s.setCamUnit u { x with started := some s.tick, stopping := false, nextFrame := 0, open_ := none, dead := false,
                                         expCur := 0, exps := exps }
        good (s.attachStream u x.outsComing)

/-- CAM_START (R245). -/
def execCamStart (r : Fin 4) (s : State) : Host.Outcome State Fault Refusal :=
  .next (startCommand 0x0706 r.val (.ok []) effCamStart s)

/-- The effect of CAM_STOP (R239, R246). -/
def effCamStop : Effect := fun c s =>
  let u := u8 c.packet 8
  if 16 ≤ u then refuse s
  else if (s.camUnit u).started = none then answer (s.releaseStreams u []) (leBytes 4 (s.camUnit u).lastFrame ++ zeros 12)
  else (s.modCamUnit u (fun x => { x with
    stopping := true, stopHeld := if x.stopping then x.stopHeld else x.open_.isSome,
    stopTick := if x.stopping then x.stopTick else s.tick, stopCmds := x.stopCmds ++ [c.id] }), .running)

/-- CAM_STOP (R246). -/
def execCamStop (r : Fin 4) (s : State) : Host.Outcome State Fault Refusal :=
  .next (startCommand 0x0707 r.val (.ok []) effCamStop s)

end Sys2Proof.Machine
end

