-- ==== Sys2Proof/Machine/Host.lean ====
section
/-! DEFINITION. The host interface (chapter 02): host writes, doorbells, ring enables, command fetch, the
interface's own reset and HIF_READY. -/
namespace Sys2Proof.Machine

/-- Base of the HIF block (R9). -/
def hifBase : Nat := 0x100000

/-- An offset lies in the HIF block (R32). -/
def inHif (off : Nat) : Bool := decide (hifBase ≤ off) && decide (off < 0x200000)

/-- A host write is discarded and counted (R32, R34, R38). -/
def State.discardWrite (s : State) : State :=
  s.modHif (fun h => { h with discard := satAdd 32 h.discard 1 })

/-! Enabling and disabling rings (R37, R459). -/

/-- A ring size is in range. -/
def sizeOk (log2 : Nat) : Bool := decide (6 ≤ log2) && decide (log2 ≤ 16)

/-- Both rings of a pair can be enabled (R37). -/
def Ring.enableOk (g : Ring) : Bool :=
  g.sqBase % 4096 == 0 && g.cqBase % 4096 == 0 && sizeOk g.sqLog2 && sizeOk g.cqLog2

/-- A pair starts at index 0 with phase 1, its error cleared (R37). -/
def Ring.started (g : Ring) : Ring :=
  { g with enable := true, stopped := false, error := false, errCause := 0, head := 0, tail := 0,
           cqWrite := 0, cqHead := 0, phase := true, irqCount := 0, irqFirst := none }

/-- ENABLE of a disabled pair is written 1 (R37). -/
def State.enableRing (s : State) (r : Nat) : State :=
  if (s.ring r).enableOk then s.modRing r Ring.started
  else (s.modRing r (fun g => { g with enable := true })).failRing r 3 0 0 0

/-- ENABLE of a pair is written 0 (R459). -/
def State.disableRing (s : State) (r : Nat) : State :=
  (s.stopRing r).modRing r (fun g => { g with enable := false, stopped := false })

/-- A write of HIF_SQ_CTL: LOG2_SIZE is taken only while the pair is disabled (R37). -/
def State.writeSqCtl (s : State) (r v : Nat) : State :=
  if (s.ring r).enable then
    if bit v 0 then s else s.disableRing r
  else
    let s := s.modRing r (fun g => { g with sqLog2 := bits v 5 1 })
    if bit v 0 then s.enableRing r else s

/-- ENABLE of the disabled event ring is written 1 (R37). -/
def State.enableEventRing (s : State) : State :=
  let g := s.hif.eq
  if g.base % 4096 = 0 ∧ sizeOk g.log2 = true then
    s.modHif (fun h => { h with eq := { g with enable := true, stopped := false, write := 0, head := 0, phase := true,
                                               lost := 0, irqCount := 0, irqFirst := none } })
  else s

/-- A write of HIF_EQ_CTL (R36, R37, R459). -/
def State.writeEqCtl (s : State) (v : Nat) : State :=
  let set (g : EventRing) : EventRing :=
    { g with vector := bits v 11 6, irqEn := bit v 12, coalCount := bits v 23 16 }
  if s.hif.eq.enable then
    s.modHif (fun h => { h with eq := { set h.eq with enable := bit v 5, stopped := h.eq.stopped && bit v 5 } })
  else
    let s := s.modHif (fun h => { h with eq := { set h.eq with log2 := bits v 4 0 } })
    if bit v 5 then s.enableEventRing else s

/-- RINGS_RESET (R459): every pair and the event ring stop with ENABLE 0, and errors are cleared. -/
def State.ringsReset (s : State) : State :=
  let one (s : State) (r : Nat) : State :=
    (s.disableRing r).modRing r (fun g => { g with error := false, errCause := 0 })
  ((List.range 4).foldl one s).modHif (fun h => { h with eq := { h.eq with enable := false, stopped := false } })

/-! Doorbells (R38). -/

/-- A submission tail is accepted. -/
def Ring.tailOk (g : Ring) (t : Nat) : Bool :=
  let n := 2 ^ g.sqLog2
  decide (t < n) && decide ((t + n - g.tail) % n ≤ (g.head + n - 1 + n - g.tail) % n)

/-- A head of a ring of `n` entries is accepted: K the last head, W the write index. -/
def headOk (n k w h : Nat) : Bool :=
  decide (h < n) && decide ((h + n - k) % n ≤ (w + n - k) % n)

/-- HIF_SQ_TAIL_DB is written (R38). -/
def State.tailDoorbell (s : State) (r t : Nat) : State :=
  let g := s.ring r
  if !s.hif.ready || !g.active then s.discardWrite
  else if g.tailOk t then s.setRing r { g with tail := t }
  else s.failRing r 0 t 0 0

/-- HIF_CQ_HEAD_DB is written (R38). -/
def State.headDoorbell (s : State) (r h : Nat) : State :=
  let g := s.ring r
  if !s.hif.ready || !g.active then s.discardWrite
  else if headOk (2 ^ g.cqLog2) g.cqHead g.cqWrite h then s.setRing r { g with cqHead := h }
  else s.failRing r 0 h 0 0

/-- HIF_EQ_HEAD_DB is written (R38, R59). -/
def State.eventHeadDoorbell (s : State) (h : Nat) : State :=
  let g := s.hif.eq
  if !s.hif.ready || !g.enable || g.stopped then s.discardWrite
  else if headOk (2 ^ g.log2) g.head g.write h then s.modHif (fun x => { x with eq := { g with head := h } })
  else s.failEventRing 0 h 0 0

/-! The other HIF registers (R36). -/

/-- Put the low or high 32 bits of a base. -/
def putLo (old v : Nat) : Nat := old / 2 ^ 32 * 2 ^ 32 + v
def putHi (old v : Nat) : Nat := v * 2 ^ 32 + old % 2 ^ 32

/-- A write of a register of ring pair `r` at an offset within its 0x40 bytes. -/
def State.writeRingReg (s : State) (r o v : Nat) : State :=
  let g := s.ring r
  match o with
  | 0x00 => if g.enable then s else s.setRing r { g with sqBase := putLo g.sqBase v }
  | 0x04 => if g.enable then s else s.setRing r { g with sqBase := putHi g.sqBase v }
  | 0x08 => s.writeSqCtl r v
  | 0x10 => if g.enable then s else s.setRing r { g with cqBase := putLo g.cqBase v }
  | 0x14 => if g.enable then s else s.setRing r { g with cqBase := putHi g.cqBase v }
  | 0x18 => s.setRing r { g with cqLog2 := if g.enable then g.cqLog2 else bits v 4 0, vector := bits v 11 6,
                                 irqEn := bit v 12, coalCount := bits v 23 16 }
  | 0x1C => s.setRing r { g with coalTime := bits v 9 0 }
  | 0x20 => if bit v 1 then s.setRing r { g with error := false } else s
  | _ => s

/-- A write of a register of the event ring. -/
def State.writeEventReg (s : State) (o v : Nat) : State :=
  let g := s.hif.eq
  match o with
  | 0x00 => if g.enable then s else s.modHif (fun h => { h with eq := { g with base := putLo g.base v } })
  | 0x04 => if g.enable then s else s.modHif (fun h => { h with eq := { g with base := putHi g.base v } })
  | 0x08 => s.writeEqCtl v
  | 0x0C => s.modHif (fun h => { h with eq := { g with coalTime := bits v 9 0 } })
  | _ => s

/-- A write of word `o` of MSI-X entry `v` (R36); unmasking sends a pending message (R53). -/
def State.writeMsix (s : State) (v o w : Nat) : State :=
  let e := s.msixEntry v
  match o with
  | 0 => s.setMsixEntry v { e with addrLo := BitVec.ofNat 32 w }
  | 1 => s.setMsixEntry v { e with addrHi := BitVec.ofNat 32 w }
  | 2 => s.setMsixEntry v { e with data := BitVec.ofNat 32 w }
  | _ =>
    let s := s.setMsixEntry v { e with ctl := BitVec.ofNat 32 (w % 2) }
    if w % 2 = 0 ∧ s.hif.pba.contains v = true then
      (s.modHif (fun h => { h with pba := h.pba.filter (· != v) })).emit (.msix v)
    else s

/-- HIF_CTL is written (R36, R459). -/
def State.writeHifCtl (s : State) (v : Nat) : State :=
  let s := s.modHif (fun h => { h with timeB := bit v 1 })
  if bit v 0 then s.ringsReset else s

/-- A whole write of a register of the HIF block; a reserved offset has no effect (R5). -/
def State.writeHif (s : State) (off v : Nat) : State :=
  let o := off - hifBase
  if o = 0x0004 then s.writeHifCtl v
  else if 0x1000 ≤ o ∧ o < 0x1100 then s.writeRingReg ((o - 0x1000) / 0x40) (o % 0x40) v
  else if 0x1100 ≤ o ∧ o < 0x1140 then s.writeEventReg (o % 0x40) v
  else if o = 0x2040 then s.eventHeadDoorbell (v % 65536)
  else if 0x2000 ≤ o ∧ o < 0x2020 then
    if o % 8 = 0 then s.tailDoorbell ((o - 0x2000) / 8) (v % 65536)
    else if o % 8 = 4 then s.headDoorbell ((o - 0x2000) / 8) (v % 65536) else s
  else if 0x3000 ≤ o ∧ o < 0x3400 then s.writeMsix ((o - 0x3000) / 16) (o % 16 / 4) v
  else s

/-- The offset lies among the ring registers or the doorbells (R34). -/
def ringOffset (off : Nat) : Bool := decide (hifBase + 0x1000 ≤ off) && decide (off < hifBase + 0x3000)

/-- A host write of one whole register of BAR0 (R32, R34). -/
def State.hostWrite (s : State) (off v : Nat) : State :=
  if !inHif off then s.discardWrite
  else if !s.hif.ready && ringOffset off then s.discardWrite
  else s.writeHif off v

/-- Group 4 is up before group 1 (R401): its banks' pull-downs hold every output low. -/
def Sys.pulledDown (y : Sys) : Bool := (bit y.railsOk 8 || bit y.railsOk 9) && !(bit y.railsOk 1 && bit y.railsOk 2)

/-! HIF_READY and the interface's reset (R34, R35). -/

/-- The host interface after its reset (R35): the registers return to their reset values, and the commands
in flight write no completion. FW_AUTH, FW_FALLBACK and the link's speed and width go on showing what they stand for (log entry
11); the power state returns to D0 with ASPM off, and reported error classes stay (log entry 123). -/
def Hif.afterReset (h : Hif) : Hif :=
  { ({} : Hif) with fwAuth := h.fwAuth, fwFallback := h.fwFallback, linkGen := h.linkGen, linkWidth := h.linkWidth,
                    linkDown := h.linkDown, epoch := h.epoch, discard := h.discard, nextId := h.nextId, nextStart := h.nextStart,
                    aerCorr := h.aerCorr, aerNonfatal := h.aerNonfatal, aerFatal := h.aerFatal, refused := h.refused,
                    gone := h.gone ++ h.inflight.filter (fun c => c.phase == .running) }

/-- The host interface is reset (R35). At a fall of HIF_READY the sequence numbers and the records held count afresh (R50); while
it is 0 already, what has been held and lost since the fall stays. -/
def State.hifFall (s : State) : State :=
  (s.modHif Hif.afterReset).modEvt (fun e =>
    if s.hif.ready then { e with seq := 0, backlog := [], heldError := none, lost := 0, lostFirst := 0, lostLast := 0 } else e)

/-- HIF_READY rises (R34, R52): rings disabled, the epoch incremented, nothing masked. FW_FALLBACK is
written at the first rise when slot 1 or recovery runs (R411, R412). -/
def State.hifRise (s : State) : State :=
  let s := s.modHif (fun h => { h with ready := true, epoch := (h.epoch + 1) % 256, rings := {}, eq := {} })
  let s := s.modEvt (fun e => { e with threshold := [], suppress := [], maskNext := none })
  let s := s.modSys (fun y => { y with restarting := false })
  if s.sys.fallbackDue then
    (s.modSys (fun y => { y with fallbackDue := false })).raise 0x0104 0
      [s.sys.reason0, s.sys.reason1, if s.sys.imageRun = 2 then 2 else 0]
  else s

/-! The commands. -/

/-- The size of a BAR (R31). -/
def barSize (bar2 : Bool) : Nat := if bar2 then 4096 else 0x1000000

/-- A base address register as it reads (R31): BAR0 and BAR2 are 64-bit and non-prefetchable (type bits 0100), BAR1 and BAR3 hold
their upper halves, and BAR4 and BAR5 are not implemented; the bits are those of the PCIe specification (log entry 123). -/
def Hif.readBar (h : Hif) (k : Fin 6) : Nat :=
  match k.val with
  | 0 => h.bar0 % 2 ^ 32 + 4
  | 1 => h.bar0 / 2 ^ 32
  | 2 => h.bar2 % 2 ^ 32 + 4
  | 3 => h.bar2 / 2 ^ 32
  | _ => 0

/-- A write of a base address register (R31): it takes the bits above the size of its BAR. -/
def Hif.writeBar (h : Hif) (k : Fin 6) (v : Nat) : Hif :=
  let low (size : Nat) : Nat := v % 2 ^ 32 / size * size
  match k.val with
  | 0 => { h with bar0 := putLo h.bar0 (low (barSize false)) }
  | 1 => { h with bar0 := putHi h.bar0 (v % 2 ^ 32) }
  | 2 => { h with bar2 := putLo h.bar2 (low (barSize true)) }
  | 3 => { h with bar2 := putHi h.bar2 (v % 2 ^ 32) }
  | _ => h

/-- What an item of configuration space reads (R29). The power state reads 0 for D0 and 3 for D3hot; ASPM reads 2 for L1 enabled;
the error classes are bits: 0 correctable, 1 non-fatal, 2 fatal (log entry 123). -/
def State.readConfig (s : State) (item : ConfigItem) : Nat :=
  match item with
  | .classCode => 0x118000
  | .maxPayload => 256
  | .maxReadRequest => 4096
  | .tags => 512
  | .vectors => 64
  | .functions => 1
  | .linkSpeed => s.hif.linkGen
  | .linkWidth => s.hif.linkWidth
  | .powerState => if s.hif.d3hot then 3 else 0
  | .aspm => if s.hif.aspmL1 then 2 else 0
  | .errors => b2n s.hif.aerCorr + 2 * b2n s.hif.aerNonfatal + 4 * b2n s.hif.aerFatal
  | .bar k => s.hif.readBar k

/-- A write of an item of configuration space (R29): D0 and D3hot, ASPM L1 and no L0s, and error classes cleared by a written 1. -/
def Hif.writeConfig (h : Hif) (item : ConfigItem) (v : Nat) : Hif :=
  match item with
  | .powerState => if v = 0 ∨ v = 3 then { h with d3hot := v == 3 } else h
  | .aspm => { h with aspmL1 := bit v 1 }
  | .errors => { h with aerCorr := h.aerCorr && !bit v 0, aerNonfatal := h.aerNonfatal && !bit v 1, aerFatal := h.aerFatal && !bit v 2 }
  | .bar k => h.writeBar k v
  | _ => h

/-- A correctable error, such as a receiver error that the link repaired by a replay, may have been reported since the last read: a
free value (R29, log entry 123). -/
def State.linkNoise (s : State) : State := s.drawn.modHif (fun h => { h with aerCorr := h.aerCorr || bit s.draw 0 })

/-- CONFIG_REQUEST (R29, R30): a retry until the firmware is authenticated. -/
def execConfigRequest (q : ConfigReq) (s : State) : Host.Outcome State Fault Refusal :=
  .next (if s.sys.perstLow then s
    else if !s.hif.fwAuth then s.emit (.config true 0)
    else match q with
      | .read .errors => s.linkNoise.emit (.config false (s.linkNoise.readConfig .errors))
      | .read item => s.emit (.config false (s.readConfig item))
      | .write item v => (s.modHif (fun h => h.writeConfig item v)).emit (.config false 0))

/-- One register of a host write that R32 discards: outside the HIF block, in BAR2, or with partial byte enables. -/
def discardsOne (bar2 : Bool) (offset : Nat) (enables : Fin 16) : Bool :=
  bar2 || !inHif offset || (enables.val ≠ 15 && enables.val ≠ 0)

/-- A request of `n` registers from `off` on stays inside its BAR (R32). -/
def insideBar (bar2 : Bool) (off n : Nat) : Bool := decide (off / 4 * 4 + 4 * n ≤ barSize bar2)

/-- A request that runs past the end of its BAR is a malformed TLP (R32), which the PCIe specification reports as a fatal error (log
entry 123). -/
def State.malformed (s : State) : State := s.modHif (fun h => { h with aerFatal := true })

/-- MMIO_WRITE_DISCARD (R32): a host write of successive registers with the byte enables of each, counted once. -/
def execMmioWriteDiscard (bar2 : Bool) (offset : Nat) (enables : List (Fin 16)) (s : State) : Host.Outcome State Fault Refusal :=
  .next (if !insideBar bar2 offset enables.length then s.malformed
    else if enables.zipIdx.any (fun x => discardsOne bar2 (offset + 4 * x.2) x.1) then s.discardWrite else s)

/-- REGISTER_WRITE (R32, R34, R36): a whole write of one register. -/
def execRegisterWrite (offset : Nat) (value : BitVec 32) (s : State) : Host.Outcome State Fault Refusal :=
  .next (s.hostWrite offset value.toNat)

/-- HIF_SQ_TAIL_DB (R38). -/
def execHifSqTailDb (r : Fin 4) (v : Fin 65536) (s : State) : Host.Outcome State Fault Refusal :=
  .next (s.tailDoorbell r.val v.val)

/-- HIF_CQ_HEAD_DB (R38). -/
def execHifCqHeadDb (r : Fin 4) (v : Fin 65536) (s : State) : Host.Outcome State Fault Refusal :=
  .next (s.headDoorbell r.val v.val)

/-- HIF_EQ_HEAD_DB (R38). -/
def execHifEqHeadDb (v : Fin 65536) (s : State) : Host.Outcome State Fault Refusal :=
  .next (s.eventHeadDoorbell v.val)

/-- RINGS_RESET (R459): HIF_CTL is written with bit 0 set. -/
def execRingsReset (value : BitVec 32) (s : State) : Host.Outcome State Fault Refusal :=
  .next (if bit value.toNat 0 then s.writeHifCtl value.toNat else s)

/-- RING_PAIR_ENABLE (R34, R37): HIF_SQ_CTL is written with ENABLE 1. -/
def execRingPairEnable (r : Fin 4) (value : BitVec 32) (s : State) : Host.Outcome State Fault Refusal :=
  .next (if !bit value.toNat 0 then s else if !s.hif.ready then s.discardWrite else s.writeSqCtl r.val value.toNat)

/-- RING_PAIR_DISABLE (R34, R459): HIF_SQ_CTL is written with ENABLE 0. -/
def execRingPairDisable (r : Fin 4) (value : BitVec 32) (s : State) : Host.Outcome State Fault Refusal :=
  .next (if bit value.toNat 0 then s else if !s.hif.ready then s.discardWrite else s.writeSqCtl r.val value.toNat)

/-- EVENT_RING_ENABLE (R34, R37): HIF_EQ_CTL is written with ENABLE 1. -/
def execEventRingEnable (value : BitVec 32) (s : State) : Host.Outcome State Fault Refusal :=
  .next (if !bit value.toNat 5 then s else if !s.hif.ready then s.discardWrite else s.writeEqCtl value.toNat)

/-- EVENT_RING_DISABLE (R34, R459): HIF_EQ_CTL is written with ENABLE 0. -/
def execEventRingDisable (value : BitVec 32) (s : State) : Host.Outcome State Fault Refusal :=
  .next (if bit value.toNat 5 then s else if !s.hif.ready then s.discardWrite else s.writeEqCtl value.toNat)

/-- A command can be fetched from ring `r` (R40). -/
def State.canFetch (s : State) (r : Nat) : Bool :=
  let g := s.ring r
  s.hif.ready && g.active && g.head ≠ g.tail && decide (0 < s.cqFree r) && decide (s.hif.inflight.length < 256)

/-- COMMAND_FETCH (R40, R41, R459): the packet at the head of the submission ring is copied, or the fetch
fails and the pair stops with ERR_CAUSE 1. -/
def execCommandFetch (r : Fin 4) (d : HostRead) (s : State) : Host.Outcome State Fault Refusal :=
  let g := s.ring r.val
  .next (if !s.canFetch r.val then s
    else match d with
      | .ok bytes =>
        let s := s.setRing r.val { g with head := (g.head + 1) % 2 ^ g.sqLog2 }
        s.modHif (fun h => { h with nextId := h.nextId + 1,
                                    inflight := h.inflight ++ [{ id := h.nextId, ring := r.val, packet := pad 64 bytes }] })
      | .fail cause addr => (s.reportRead cause).failRing r.val 1 0 g.head addr)

/-- EVENT_BACKLOG_DRAIN (R51). -/
def execEventBacklogDrain (s : State) : Host.Outcome State Fault Refusal := .next s.drainEvents

/-- COAL_TIME has passed since the first counted entry (R53). -/
def coalesced (coalTime : Nat) (first : Option Nat) (tick : Nat) : Bool :=
  match first with
  | some t => decide (coalTime ≠ 0) && decide (t + 200 * coalTime ≤ tick)
  | none => false

/-- COALESCE_TIMEOUT (R53); 4 names the event ring. The timer expires in this tick; its message is sent, and the count cleared, when
the tick ends and its entries have been written (`State.expireCoal`). -/
def execCoalesceTimeout (ring : Fin 5) (s : State) : Host.Outcome State Fault Refusal :=
  let due := if ring.val = 4 then s.hif.eq.irqEn && coalesced s.hif.eq.coalTime s.hif.eq.irqFirst s.tick
    else (s.ring ring.val).irqEn && coalesced (s.ring ring.val).coalTime (s.ring ring.val).irqFirst s.tick
  .next (if due then s.modHif (fun h => { h with coalDue := h.coalDue ++ [ring.val] }) else s)

/-- HIF_RESET (R35): FLR, hot reset or link down. -/
def execHifReset (linkDown : Bool) (s : State) : Host.Outcome State Fault Refusal :=
  let s := s.hifFall
  .next (if linkDown then s.modHif (fun h => { h with linkDown := true, linkGen := 0, linkWidth := 0 }) else s)

/-- HIF_READY_RETURN (R35, R407): once the firmware runs, memory is trained and the link is up. After a watchdog it does not while the slot
that the device booted from fails to pass again (log entry 165). -/
def execHifReadyReturn (s : State) : Host.Outcome State Fault Refusal :=
  .next (if !s.hif.ready && s.hif.fwAuth && s.sys.memDone && !s.hif.linkDown && !(s.sys.restarting && s.sys.slotBad) then s.hifRise else s)

/-- PCIE_LINK_UP (R29, R405): L0 at a supported speed and width, ×8 at most with the strap PCIE_X8. `refused` is the host memory
whose writes fail (log entry 120). -/
def execPcieLinkUp (gen : Fin 8) (width : Fin 32) (refused : List (Nat × Nat)) (s : State) : Host.Outcome State Fault Refusal :=
  .next (if (gen.val = 3 || gen.val = 4 || gen.val = 5) && (width.val = 8 || width.val = 16) && !s.sys.perstLow then
      s.modHif (fun h => { h with linkDown := false, linkGen := gen.val, refused := refused
                                  linkWidth := if bit s.sys.straps 2 then 8 else width.val })
    else s)

end Sys2Proof.Machine
end

