-- ==== Sys2Proof/Machine/Ptp.lean ====
section
/-! DEFINITION. PTP frames (R355 to R357). The spec names the layouts of IEEE 802.3, IPv4, IPv6, UDP and IEEE 1588-2019 and does
not repeat them; they are PRESUMED here (log entry 158). -/
namespace Sys2Proof.Machine

/-! Fields. -/

/-- `n` bytes at an offset, most significant byte first. -/
def beNat (n : Nat) (p : List Byte) (i : Nat) : Nat := ((p.drop i).take n).foldl (fun a b => a * 256 + b % 256) 0

/-- A number as `n` bytes, most significant byte first. -/
def beBytes (n v : Nat) : List Byte := (leBytes n v).reverse

/-- Bytes in the place of those at an offset. -/
def overwrite (p : List Byte) (i : Nat) (b : List Byte) : List Byte := p.take i ++ b ++ p.drop (i + b.length)

/-- The delay mechanism of a port is peer-to-peer (R355, R365). -/
def PortCfg.p2p (g : PortCfg) : Bool := bit g.flags 0
/-- A port is one-step (R355, R365). -/
def PortCfg.oneStep (g : PortCfg) : Bool := bit g.flags 1
/-- A port sends over UDP/IPv4 (R365). -/
def PortCfg.udp4 (g : PortCfg) : Bool := bit g.flags 2
/-- A port sends over UDP/IPv6 (R365). -/
def PortCfg.udp6 (g : PortCfg) : Bool := bit g.flags 3

/-- Where the PTP message begins in a frame of a port (R355). -/
def PortCfg.msgAt (g : PortCfg) : Nat := if g.udp6 then 62 else if g.udp4 then 42 else 14

/-- A messageType that R355 lists. -/
def ptpKind (k : Nat) : Bool := [0, 1, 2, 3, 8, 9, 10, 11].contains k

/-- The messages of the peer-to-peer mechanism have an address of their own (R355). -/
def peerKind (k : Nat) : Bool := k == 2 || k == 3 || k == 10

/-- The length of a message without its TLVs. -/
def kindLength (k : Nat) : Nat := if k = 11 then 64 else if k = 0 ∨ k = 1 ∨ k = 8 then 44 else 54

/-- The destination port of UDP: 319 for event messages, 320 for general ones (R355). -/
def udpPort (k : Nat) : Nat := if k < 8 then 319 else 320

/-- The addresses of R355: the frame goes to the group of its message over the port's transport. -/
def PortCfg.addressed (g : PortCfg) (k : Nat) (f : List Byte) : Bool :=
  if g.udp6 then
    beNat 2 f 12 == 0x86DD && u8 f 14 / 16 == 6 && u8 f 20 == 17
      && beNat 16 f 38 == (if peerKind k then 0xFF02 * 2 ^ 112 + 0x6B else 0xFF0E * 2 ^ 112 + 0x181) && beNat 2 f 56 == udpPort k
  else if g.udp4 then
    beNat 2 f 12 == 0x0800 && u8 f 14 == 0x45 && u8 f 23 == 17
      && beNat 4 f 30 == (if peerKind k then 0xE000006B else 0xE0000181) && beNat 2 f 36 == udpPort k
  else beNat 2 f 12 == 0x88F7 && beNat 6 f 0 == (if peerKind k then 0x0180C200000E else 0x011B19000000)

/-- A frame sent by a port carries its source addresses (R365). -/
def PortCfg.sourced (g : PortCfg) (f : List Byte) : Bool :=
  beNat 6 f 6 == g.mac && (if g.udp6 then beNat 16 f 22 == g.ipv6 else !g.udp4 || beNat 4 f 26 == g.ipv4)

/-- The PTP message of a frame on a port (R355); none: it is none, or of a form that is not supported. -/
def PortCfg.parse (g : PortCfg) (f : List Byte) : Option PtpMsg :=
  let m := f.drop g.msgAt
  let k := u8 m 0 % 16
  if !ptpKind k || !g.addressed k f || u8 m 1 % 16 ≠ 2 || decide (m.length < kindLength k) then none
  else some { kind := k, domain := u8 m 4, twoStep := bit (u8 m 6) 1, corr := toSigned 64 (beNat 8 m 8), source := beNat 10 m 20,
              seq := beNat 2 m 30, time := beNat 6 m 34 * 1000000000 + beNat 4 m 40,
              asker := if k = 3 ∨ k = 9 ∨ k = 10 then beNat 10 m 44 else 0,
              ann := if k = 11 then [u8 m 47, beNat 2 m 48, beNat 2 m 50, u8 m 52, beNat 8 m 53, beNat 2 m 61] else [] }

/-! What is written in a frame at its departure (R357). -/

/-- A correctionField (R357) in 2^-16 ns. -/
def putCorr (at_ : Nat) (corr : Int) (f : List Byte) : List Byte := overwrite f (at_ + 8) (beBytes 8 (toBits 64 corr))

/-- A timestamp field from whole ns (R357). -/
def putTime (at_ ns : Nat) (f : List Byte) : List Byte :=
  overwrite f (at_ + 34) (beBytes 6 (ns / 1000000000) ++ beBytes 4 (ns % 1000000000))

/-- The ones'-complement sum of the 16-bit words from an offset. -/
def wordSum (f : List Byte) (i : Nat) : Nat :=
  let b := f.drop i
  sumNat ((List.range ((b.length + 1) / 2)).map (fun k => 256 * u8 b (2 * k) + u8 b (2 * k + 1)))

/-- A UDP checksum corrected by the ones'-complement difference of the changed bytes (R357). Zero stands for no checksum. -/
def fixChecksum (sum : Nat) (old new : List Byte) (i : Nat) : Nat :=
  if sum = 0 then 0
  else
    65535 - ((((65535 - sum : Nat) : Int) + wordSum new i - wordSum old i).emod 65535).toNat

/-- The frame with its fields written goes to the wire (R357): over UDP/IPv4 its checksum is corrected, a short one is
padded to 60 bytes, and the FCS follows. -/
def PortCfg.finish (g : PortCfg) (old new : List Byte) : List Byte :=
  let f := if g.udp4 then overwrite new 40 (beBytes 2 (fixChecksum (beNat 2 old 40) old new 42)) else new
  let f := f ++ zeros (60 - f.length)
  f ++ leBytes 4 (fcs f)

end Sys2Proof.Machine
end

