-- ==== Sys2Proof/Machine/Time.lean ====
section
/-! DEFINITION. Time and network timing (chapter 16). -/
namespace Sys2Proof.Machine

/-- The largest rate, 500 ppm (R352). -/
def maxRate : Int := 549755813

/-- The value of an instance's state (R358). -/
def InstState.num : InstState → Nat
  | .free => 0
  | .manual => 1
  | .listening => 2
  | .uncalibrated => 3
  | .locked => 4
  | .holdover => 5
  | .grandmaster => 6

/-- What an instance has absorbed of a slew at a tick (R361). -/
def Inst.slewPart (i : Inst) (t : Nat) : Int :=
  let part : Int := (5 * 65536 * ((t : Int) - i.anchor) * i.slewPpb).fdiv 1000000000
  if i.slewLeft < 0 then -(min part (-i.slewLeft)) else min part i.slewLeft

/-- The function anchored afresh at a planning tick: time does not move (R353). -/
def Inst.reanchor (i : Inst) (p : Nat) : Inst :=
  { i with base := i.time p 0, anchor := p, slewLeft := i.slewLeft - i.slewPart p }

/-- A change of the function at its planning tick (R353, R359, R361). -/
def Inst.adjust (i : Inst) (a : TimeAdjust) : Inst :=
  match a with
  | .step v => { i with base := i.base + v, slewLeft := 0, slewPpb := 0 }
  | .slew v ppb => { i with slewLeft := v, slewPpb := ppb }
  | .rate r => { i with rate := r }
  | .set v => { i with base := v }
  | .servo v => { i with base := i.base + v }

/-- The state a mode starts in (R358). -/
def startState (mode : Nat) : InstState :=
  if mode = 0 then .free else if mode = 1 then .manual else .listening

/-- A configuration takes effect (R366): a change of MODE or DOMAIN restarts the protocol. -/
def Inst.configure (i : Inst) (c : InstCfg) : Inst :=
  if c.mode = i.cfg.mode ∧ c.domain = i.cfg.domain then { i with cfg := c }
  else { i with cfg := c, state := startState c.mode, ri := 0, theta := 0, lockRow := 0, slavePort := 0,
                portState := [1, 1], masterId := 0, parent := [], syncWait := none, gap := none, delays := [0, 0] }

/-- Planning-tick work of one instance (R353, R366). -/
def Inst.plan (i : Inst) (p : Nat) : Inst :=
  let due := i.adjNext.filter (fun a => a.tick < p)
  let i := if due.isEmpty then i
    else { (due.foldl (fun j a => j.adjust a.val) (i.reanchor p)) with adjNext := i.adjNext.filter (fun a => p ≤ a.tick) }
  match stagedDue i.cfgNext p with
  | some c => { i.configure c with cfgNext := none }
  | none => i

/-- The instance follows a master on some port. -/
def Inst.following (i : Inst) : Bool := i.state == .uncalibrated || i.state == .locked

/-- The instance uses a port (R366). -/
def Inst.uses (i : Inst) (port : Nat) : Bool := i.cfg.mode == 2 && bit i.cfg.flags port

/-- A port of an instance is a slave: portState 8 UNCALIBRATED or 9 SLAVE (R368). -/
def Inst.slaveOn (i : Inst) (port : Nat) : Bool := i.portState.getD port 1 == 8 || i.portState.getD port 1 == 9

/-- A port of an instance takes a portState (R368). -/
def Inst.putPort (i : Inst) (port state : Nat) : Inst := { i with portState := modAt (fun _ => state) port i.portState }

/-- The enabled ports of an instance are all masters (R358). -/
def Inst.allMaster (i : Inst) : Bool :=
  [0, 1].all (fun q => !bit i.cfg.flags q || i.portState.getD q 1 == 6) && i.cfg.flags % 4 ≠ 0

/-- The state that an instance's ports leave it in (R358): with no slave port it follows no master. HOLDOVER lasts until BMCA selects
one (R360). -/
def Inst.settle (i : Inst) : Inst :=
  if i.cfg.mode ≠ 2 ∨ i.state = .holdover ∨ (i.following = true ∧ i.slaveOn i.slavePort = true) then i
  else { i with state := if i.allMaster then .grandmaster else .listening, lockRow := 0 }

/-- Change an instance's ports; a primary that enters LISTENING by it is lost (R362). -/
def State.changePorts (s : State) (n : Nat) (f : Inst → Inst) : State :=
  let i := (f (s.inst n)).settle
  let lost := n = s.tim.primary ∧ (s.inst n).state ≠ .listening ∧ i.state = .listening
  let s := s.setInst n i
  if lost then s.modTim (fun t => { t with lostAt := some s.tick }) else s

/-- A port is at work (R355, R404): configured, with its link up. -/
def TPort.works (g : TPort) : Bool := g.cfg.mode ≠ 0 && g.linkUp

/-- A port of an instance that has been initialised listens for a master (R358), from the planning tick after. -/
def State.beginListening (s : State) (n port p : Nat) : State :=
  let i := s.inst n
  if i.uses port && (s.ptpPort port).works && i.portState.getD port 1 == 1 then
    s.setInst n { i.putPort port 4 with heardAt := modAt (fun _ => p) port i.heardAt }
  else s

/-- A port's parameters take effect: a change returns every instance's state on it to INITIALIZING
(R365). -/
def State.planPort (s : State) (port : Nat) (p : Nat) : State :=
  let s := (s.beginListening 0 port p).beginListening 1 port p
  let g := s.ptpPort port
  match stagedDue g.cfgNext p with
  | none => s
  | some c =>
    let s := s.setPtpPort port { g with cfg := c, cfgNext := none }
    if c = g.cfg then s
    else
      let s := s.modPtpPort port (fun g => { g with delayReq := none, pdelayReq := none, pdelayResp := none, asked := none, again := [] })
      (s.changePorts 0 (fun i => i.putPort port 1)).changePorts 1 (fun i => i.putPort port 1)

/-- An instance can become primary (R364). -/
def Inst.selectable (i : Inst) : Bool := i.cfg.mode ≠ 2 || i.state == .locked || i.state == .grandmaster

/-- The primary changes at planning tick `p` (R362, R363): S is set so that domain A does not move. -/
def State.switchPrimary (s : State) (n : Nat) (cause : Nat) (p : Nat) : State :=
  let old := s.tim.primary
  let ppb := (s.inst n).cfg.switchPpb
  let gap := s.domainTime false p 0 - (s.inst n).time p 0
  let sres := if ppb = 0 then 0 else gap
  s.modTim (fun t => { t with primary := n, residue := sres, residueTick := p, residuePpb := ppb, switching := sres ≠ 0,
                              report := some ([old, n, cause, 0] ++ leInt 8 (sres.fdiv 65536) ++ leBytes 4 ppb) })

/-- The port of an instance that TIM events name (R369): its slave port, or 0 where there is none. -/
def Inst.unitPort (i : Inst) : Nat := if i.following then i.slavePort else 0

/-- DOMAIN_SWITCH of the planning tick is written (R363, R369). -/
def State.tellSwitch (s : State) : State :=
  match s.tim.report with
  | some args => (s.modTim (fun t => { t with report := none })).raise 0x0D01 (s.inst s.tim.primary).unitPort args
  | none => s

/-- Complete a TIM_SELECT once no residue is left (R363, R364). -/
def State.endSwitch (s : State) : State :=
  if s.tim.switching then s
  else
    let c := s.tim.switchCmd
    (s.modTim (fun t => { t with switchCmd := none })).completeOpt c Status.ok []

/-- An automatic switch is due at planning tick `p` (R362). -/
def State.autoSwitchDue (s : State) (p : Nat) : Bool :=
  let i := s.inst s.tim.primary
  let q := s.inst (1 - s.tim.primary)
  (match s.tim.lostAt with | some t => decide (t < p) | none => false)
    && (i.state == .holdover || i.state == .listening)
    && q.state == .locked && bit q.cfg.flags 3 && !s.tim.switching

/-- What a MASTER port announces (R355): its own clock, or the one that the instance follows, one step on. -/
def Inst.announced (i : Inst) : List Nat :=
  if i.following && i.parent.length == 6 then i.parent.take 5 ++ [i.parent.getD 5 0 + 1]
  else [i.cfg.prio1, i.cfg.clsAcc % 256 * 256 + i.cfg.clsAcc / 256, i.cfg.variance, i.cfg.prio2, i.cfg.clockId, 0]

/-- Ticks of `n` intervals of 2^log seconds (R360). -/
def intervalTicks (n : Nat) (log : Int) : Nat :=
  if log < 0 then n * 200000000 / 2 ^ log.natAbs else n * 200000000 * 2 ^ log.natAbs

/-- The identity of an instance's port (R355): clockIdentity, and port numbers from 1. -/
def Inst.identity (i : Inst) (port : Nat) : Nat := i.cfg.clockId * 65536 + port + 1

/-- A general message leaves a port and is counted. -/
def State.sendGeneral (s : State) (port : Nat) (m : PtpMsg) : State :=
  (s.modPtpPort port (fun g => { g with sent := satAdd 16 g.sent 1 })).emit (.ptpGeneral port m)

/-- A MASTER port sends an Announce at every announce interval (R355), at a planning tick (log entry 158). -/
def State.sendAnnounce (s : State) (n port p : Nat) : State :=
  let i := s.inst n
  if !(i.uses port && (s.ptpPort port).works && i.portState.getD port 1 == 6)
      || decide (p < i.annAt.getD port 0 + intervalTicks 1 i.cfg.logAnn) then s
  else
    let s := s.setInst n { i with annAt := modAt (fun _ => p) port i.annAt, annSeq := (i.annSeq + 1) % 65536 }
    s.sendGeneral port { kind := 11, domain := i.cfg.domain, source := i.identity port, seq := i.annSeq, ann := i.announced }

/-- The changes of TIM that planning tick `p` puts in force (R353, R361 to R363, R365, R366): once, before any stamp of that tick. -/
def State.planTime (s : State) (p : Nat) : State :=
  if s.tim.planned = some p then s
  else
  let s := s.modTim (fun t => { t with planned := some p })
  let s := (s.planPort 0 p).planPort 1 p
  let before := (s.inst s.tim.primary).state
  let s := (s.modInst 0 (fun i => i.plan p)).modInst 1 (fun i => i.plan p)
  let entered := before ≠ .listening ∧ (s.inst s.tim.primary).state = .listening
  let auto := s.autoSwitchDue p
  let s := match s.tim.lostAt with
    | some t => if t < p then s.modTim (fun x => { x with lostAt := none }) else s
    | none => s
  let s := match s.tim.switchNext with
    | some j =>
      if j.tick < p then
        (((s.modTim (fun x => { x with switchNext := none, switchCmd := j.cmd })).switchPrimary j.dest 0 p)).endSwitch
      else if auto then s.switchPrimary (1 - s.tim.primary) 1 p else s
    | none => if auto then s.switchPrimary (1 - s.tim.primary) 1 p else s
  if entered then s.modTim (fun x => { x with lostAt := some p }) else s

/-- What TIM does at planning tick `p` in its turn: DOMAIN_SWITCH (R363), and the Announces that are due. -/
def State.planTimeWork (s : State) (p : Nat) : State :=
  [0, 1].foldl (fun s n => [0, 1].foldl (fun s q => s.sendAnnounce n q p) s) (s.planTime p).tellSwitch

/-! Commands. -/

/-- TIM_PORT's parameters (R365). -/
def parsePort (p : List Byte) : PortCfg :=
  { mode := u8 p 9, flags := u8 p 10, logPdelay := i8 p 11, mac := u48 p 12, ipv4 := u32 p 18, txLat := u32 p 24,
    rxLat := u32 p 28, asym := i32 p 32, ipv6 := uN 16 p 36 }

/-- An interval logarithm lies in its range (R355). -/
def inRange (lo hi x : Int) : Bool := decide (lo ≤ x) && decide (x ≤ hi)

/-- The effect of TIM_PORT (R365). -/
def effTimPort : Effect := fun c s =>
  let p := c.packet
  let g := parsePort p
  if 1 < u8 p 8 ∨ 2 < g.mode ∨ 16 ≤ g.flags ∨ (bit g.flags 3 = true ∧ (bit g.flags 2 = true ∨ bit g.flags 1 = true))
      ∨ inRange (-7) 5 g.logPdelay = false then refuse s
  else good (s.modPtpPort (u8 p 8) (fun x => { x with cfgNext := some ⟨g, s.tick⟩ }))

/-- TIM_PORT (R365). -/
def execTimPort (r : Fin 4) (s : State) : Host.Outcome State Fault Refusal :=
  .next (startCommand 0x0D01 r.val (.ok []) effTimPort s)

/-- TIM_DOMAIN's parameters (R366). -/
def parseDomain (p : List Byte) : InstCfg :=
  { mode := u8 p 9, domain := u8 p 10, flags := u8 p 11, prio1 := u8 p 12, prio2 := u8 p 13, clsAcc := u16 p 14,
    variance := u16 p 16, logSync := i8 p 18, logAnn := i8 p 19, annTimeout := u8 p 20, logDelay := i8 p 21,
    clockId := u64 p 24, kp := u32 p 32, ki := u32 p 36, stepNs := u32 p 40, lockNs := u32 p 44, switchPpb := u32 p 48 }

/-- The fields of TIM_DOMAIN lie in their ranges (R355, R366). -/
def InstCfg.ok (g : InstCfg) : Bool :=
  decide (g.mode ≤ 2) && decide (g.domain ≤ 239) && decide (g.flags < 16) && inRange (-7) 1 g.logSync
    && inRange (-3) 4 g.logAnn && decide (2 ≤ g.annTimeout) && decide (g.annTimeout ≤ 10) && inRange (-7) 5 g.logDelay
    && decide (1 ≤ g.stepNs) && decide (g.stepNs < 2 ^ 31) && decide (1 ≤ g.lockNs) && decide (g.lockNs ≤ 1000000)
    && decide (g.switchPpb ≤ 100000)

/-- The configuration of an instance that the next planning tick leaves in force. -/
def Inst.cfgComing (i : Inst) : InstCfg :=
  match i.cfgNext with
  | some x => x.val
  | none => i.cfg

/-- The effect of TIM_DOMAIN (R366): two PTP instances have different domain numbers (R355). -/
def effTimDomain : Effect := fun c s =>
  let p := c.packet
  let g := parseDomain p
  if 1 < u8 p 8 ∨ g.ok = false then refuse s
  else
    let other := (s.inst (1 - u8 p 8)).cfgComing
    if g.mode = 2 ∧ other.mode = 2 ∧ g.domain = other.domain then refuse s
    else good (s.modInst (u8 p 8) (fun i => { i with cfgNext := some ⟨g, s.tick⟩ }))

/-- TIM_DOMAIN (R366). -/
def execTimDomain (r : Fin 4) (s : State) : Host.Outcome State Fault Refusal :=
  .next (startCommand 0x0D02 r.val (.ok []) effTimDomain s)

/-- The adjustment TIM_ADJUST asks for (R361, R367); none: a field out of range, whatever the KIND. -/
def parseAdjust (p : List Byte) : Option TimeAdjust :=
  let v := i64 p 16 * 65536
  if u32 p 28 = 0 ∨ 500000 < u32 p 28 ∨ inRange (-maxRate) maxRate (i32 p 24) = false then none
  else match u8 p 9 with
    | 0 => some (.step v)
    | 1 => some (.slew v (u32 p 28))
    | 2 => some (.rate (i32 p 24))
    | 3 => some (.set v)
    | _ => none

/-- The effect of TIM_ADJUST (R361): on a MANUAL instance only. -/
def effTimAdjust : Effect := fun c s =>
  let p := c.packet
  match parseAdjust p with
  | none => refuse s
  | some a =>
    if 1 < u8 p 8 ∨ (s.inst (u8 p 8)).state ≠ .manual then refuse s
    else good (s.modInst (u8 p 8) (fun i => { i with adjNext := i.adjNext ++ [⟨a, s.tick⟩] }))

/-- TIM_ADJUST (R361). -/
def execTimAdjust (r : Fin 4) (s : State) : Host.Outcome State Fault Refusal :=
  .next (startCommand 0x0D03 r.val (.ok []) effTimAdjust s)

/-- A switch of the primary is in progress (R362, R364). -/
def State.switchBusy (s : State) : Bool := s.tim.switching || s.tim.switchNext.isSome

/-- The effect of TIM_SELECT (R364), its cases in the table's order. -/
def effTimSelect : Effect := fun c s =>
  let i := u8 c.packet 8
  if 1 < i then refuse s
  else if i = s.tim.primary ∧ s.switchBusy = false then good s
  else if s.switchBusy then finish s Status.busy
  else if (s.inst i).selectable = false then finish s Status.domainUnlocked
  else (s.modTim (fun t => { t with switchNext := some ⟨i, some c.id, s.tick⟩ }), .running)

/-- TIM_SELECT (R362, R364). -/
def execTimSelect (r : Fin 4) (s : State) : Host.Outcome State Fault Refusal :=
  .next (startCommand 0x0D04 r.val (.ok []) effTimSelect s)

/-- The results of TIM_QUERY (R368). -/
def State.timResults (s : State) (n : Nat) : List Byte :=
  let i := s.inst n
  leInt 8 ((i.time s.tick 0).fdiv 65536) ++ leInt 4 (satSigned 32 (i.theta.fdiv 65536))
    ++ [i.state.num, i.portState.getD 0 1 + 16 * i.portState.getD 1 1,
        b2n (n == s.tim.primary) + 2 * b2n s.tim.switching,
        min 255 ((i.slewLeft - i.slewPart s.tick).natAbs / 65536)]

/-- The effect of TIM_QUERY (R368). -/
def effTimQuery : Effect := fun c s =>
  if 1 < u8 c.packet 8 then refuse s else answer s (s.timResults (u8 c.packet 8))

/-- TIM_QUERY (R368). -/
def execTimQuery (r : Fin 4) (s : State) : Host.Outcome State Fault Refusal :=
  .next (startCommand 0x0D05 r.val (.ok []) effTimQuery s)

/-! PTP messages. -/

/-- The enabled instance that a message of a domain on a port belongs to (R355). -/
def State.ptpInst (s : State) (port domain : Nat) : Option Nat :=
  [0, 1].find? (fun n => (s.inst n).uses port && (s.inst n).cfg.domain == domain)

/-- The message of a frame on a port, with its instance (R355): none where the frame is to be discarded. -/
def State.ptpMessage (s : State) (port : Nat) (frame : List Byte) : Option (Nat × PtpMsg) :=
  match (s.ptpPort port).cfg.parse frame with
  | some m => (s.ptpInst port m.domain).map (fun n => (n, m))
  | none => none

/-- A frame is discarded and counted (R355). -/
def State.ptpDiscard (s : State) (port : Nat) : State :=
  s.modPtpPort port (fun g => { g with discard := satAdd 16 g.discard 1 })

/-- A message is accepted and counted. -/
def State.ptpAccept (s : State) (port : Nat) : State :=
  s.modPtpPort port (fun g => { g with accepted := satAdd 16 g.accepted 1 })

/-- 500 ppm in 2^-32 ppb (R359). -/
def maxRi : Int := 500000 * 2 ^ 32

/-- The servo on an offset θ in 2^-16 ns (R359). -/
def Inst.servo (i : Inst) (theta : Int) (tick : Nat) : Inst :=
  let abs : Int := theta.natAbs
  let i := { i with theta := theta }
  if (i.cfg.stepNs : Int) * 65536 < abs then
    { i with state := .uncalibrated, lockRow := 0, adjNext := i.adjNext ++ [⟨.servo (-theta), tick⟩] }
  else
    let ri := clampI (-maxRi) maxRi (i.ri - i.cfg.ki * theta)
    let rate := clampI (-maxRi) maxRi (ri - i.cfg.kp * theta)
    let row := if abs ≤ (i.cfg.lockNs : Int) * 65536 then i.lockRow + 1 else 0
    let i := { i with ri := ri, lockRow := row,
                      adjNext := i.adjNext ++ [⟨.rate (clampI (-maxRate) maxRate ((rate * 256).fdiv 1000000000)), tick⟩] }
    if 4 * (i.cfg.lockNs : Int) * 65536 < abs then { i with state := .uncalibrated }
    else if 8 ≤ row then { i with state := .locked } else i

/-- The slave port's portState follows the instance (R368): SLAVE when locked, else UNCALIBRATED. -/
def Inst.showSlave (i : Inst) : Inst := i.putPort i.slavePort (if i.state = .locked then 9 else 8)

/-- Picoseconds of a latency or asymmetry in 2^-16 ns (R356, R365). -/
def psUnits (ps : Int) : Int := (ps * 65536).fdiv 1000

/-- A receive timestamp at the port's reference plane (R356), in 2^-16 ns. -/
def Inst.rxStamp (i : Inst) (g : PortCfg) (tick tap : Nat) : Int := i.time tick tap - psUnits g.rxLat

/-- A transmit timestamp at the port's reference plane (R356), in 2^-16 ns. -/
def Inst.txStamp (i : Inst) (g : PortCfg) (tick tap : Nat) : Int := i.time tick tap + psUnits g.txLat

/-- The offset of a Sync (R359): what it took beyond the path delay of its port. `gap` is the receive stamp less the origin time, the
corrections and the asymmetry. -/
def Inst.takeSync (i : Inst) (port : Nat) (gap : Int) (tick : Nat) : Inst :=
  ({ i with gap := some gap, syncWait := none }.servo (gap - i.delays.getD port 0) tick).showSlave

/-- The instance's master sent a message to its slave port (R359, R360). -/
def Inst.fromMaster (i : Inst) (port : Nat) (m : PtpMsg) : Bool :=
  i.following && i.slavePort == port && i.slaveOn port && m.source == i.masterId

/-- A Sync stamped at FIRE tap `tap` arrives for instance `n` (R356, R359): a one-step Sync yields its offset, a two-step one waits
for its Follow_Up. -/
def State.syncRx (s : State) (port n tap : Nat) (m : PtpMsg) : State :=
  let i := s.inst n
  if !i.fromMaster port m then s
  else
    let g := (s.ptpPort port).cfg
    let rx := i.rxStamp g s.tick tap
    let i := { i with lastSync := s.tick }
    if m.twoStep then s.setInst n { i with syncWait := some { inst := n, seq := m.seq, source := m.source, stamp := rx, corr := m.corr } }
    else s.setInst n (i.takeSync port (rx - 65536 * m.time - m.corr - psUnits g.asym) s.tick)

/-- PTP_SYNC_RX (R355, R356, R359): a frame with a Sync, without its FCS, whose message timestamp point came at FIRE tap `tap` of this
tick. -/
def execPtpSyncRx (port : Fin 2) (tap : Fin 24) (frame : List Byte) (s : State) : Host.Outcome State Fault Refusal :=
  let g := s.ptpPort port.val
  .next (if !g.works then s
    else match s.ptpMessage port.val frame with
      | none => s.ptpDiscard port.val
      | some (n, m) => if m.kind = 0 then (s.ptpAccept port.val).syncRx port.val n tap.val m else s)

/-- What BMCA decides for the port that heard an Announce, from IEEE 1588-2019, which the spec names and
does not repeat: a free value, 0 slave, 1 passive, 2 master, and what an earlier slave port becomes (log entry 4). -/
def State.bmca (s : State) : Nat := s.draw % 6

/-- The port becomes a slave of a master (R358, R360); with another master the time without a Sync starts anew. A slave port on the
other side becomes `other`. -/
def Inst.follow (i : Inst) (port source tick other : Nat) : Inst :=
  let same := i.following && i.masterId == source && i.slavePort == port
  let st := if same then i.state else .uncalibrated
  let i := if i.slaveOn (1 - port) then i.putPort (1 - port) other else i
  { i.putPort port (if st = .locked then 9 else 8) with
    state := st, lockRow := if st = i.state then i.lockRow else 0, slavePort := port, masterId := source,
    lastSync := if same then i.lastSync else tick, lastAnn := if same then i.lastAnn else tick,
    gap := if same then i.gap else none, syncWait := if same then i.syncWait else none }

/-- BMCA's decision on a port of an instance (R358, R360). -/
def Inst.bmcaDecision (i : Inst) (port source tick d : Nat) : Inst :=
  if d % 3 = 0 then i.follow port source tick (if bit i.cfg.flags 2 then 4 else 6 + d / 3)
  else i.putPort port (if d % 3 = 1 then 7 else 6)

/-- An Announce arrives (R360): BMCA runs, and the time of an Announce of the master is kept; a slave-only instance never becomes
master. -/
def State.announce (s : State) (n port : Nat) (m : PtpMsg) : State :=
  let d := s.bmca
  let s := s.drawn
  let d := if bit (s.inst n).cfg.flags 2 ∧ d % 3 = 2 then 1 else d
  let s := s.changePorts n (fun i => i.bmcaDecision port m.source s.tick d)
  s.modInst n (fun i =>
    let i := { i with heardAt := modAt (fun _ => s.tick) port i.heardAt }
    if i.slavePort = port ∧ i.masterId = m.source then { i with lastAnn := s.tick, parent := m.ann } else i)

/-- A measured path delay (R356): twice the delay is the time of both ways less what the messages held. -/
def State.measurePath (s : State) (port n : Nat) (twice : Int) : State :=
  let d := roundFree twice 2
  (s.modPtpPort port (fun g => { g with delay := toBits 32 d })).modInst n (fun i => { i with delays := modAt (fun _ => d) port i.delays })

/-- Delay_Resp to the port's own Delay_Req (R355, R356). -/
def State.delayRespRx (s : State) (port n : Nat) (m : PtpMsg) : State :=
  let i := s.inst n
  match (s.ptpPort port).delayReq, i.gap with
  | some q, some gap =>
    if q.inst = n ∧ q.seq = m.seq ∧ m.asker = i.identity port ∧ i.fromMaster port m then
      (s.modPtpPort port (fun g => { g with delayReq := none })).measurePath port n (gap + 65536 * m.time - m.corr - q.stamp)
    else s
  | _, _ => s

/-- Pdelay_Resp to the port's own Pdelay_Req (R355, R356): one-step it yields the link delay, two-step it waits for its follow-up. -/
def State.pdelayRespRx (s : State) (port n tap : Nat) (m : PtpMsg) : State :=
  let g := (s.ptpPort port).cfg
  match (s.ptpPort port).pdelayReq with
  | some q =>
    let rx := (s.inst n).rxStamp g s.tick tap
    if q.inst ≠ n ∨ q.seq ≠ m.seq ∨ m.asker ≠ (s.inst n).identity port then s
    else if m.twoStep then
      s.modPtpPort port (fun x => { x with
        pdelayResp := some { inst := n, seq := m.seq, source := m.source, stamp := rx, time := m.time, corr := m.corr + psUnits g.asym } })
    else (s.modPtpPort port (fun x => { x with pdelayReq := none })).measurePath port n (rx - q.stamp - m.corr - psUnits g.asym)
  | none => s

/-- Pdelay_Resp_Follow_Up to a response that waits for it (R355, R356). -/
def State.pdelayFollowRx (s : State) (port n : Nat) (m : PtpMsg) : State :=
  match (s.ptpPort port).pdelayReq, (s.ptpPort port).pdelayResp with
  | some q, some r =>
    if r.inst = n ∧ r.seq = m.seq ∧ r.source = m.source ∧ m.asker = (s.inst n).identity port then
      (s.modPtpPort port (fun x => { x with pdelayReq := none, pdelayResp := none })).measurePath port n
        (r.stamp - q.stamp - (65536 * (m.time : Int) - 65536 * r.time) - r.corr - m.corr)
    else s
  | _, _ => s

/-- Follow_Up to a two-step Sync that waits for it (R355, R359). -/
def State.followUpRx (s : State) (port n : Nat) (m : PtpMsg) : State :=
  let i := s.inst n
  match i.syncWait with
  | some w =>
    if w.seq = m.seq ∧ w.source = m.source ∧ i.fromMaster port m then
      s.setInst n (i.takeSync port (w.stamp - 65536 * m.time - w.corr - m.corr - psUnits (s.ptpPort port).cfg.asym) s.tick)
    else s
  | none => s

/-- A MASTER port with the delay request-response mechanism answers a Delay_Req with its receive timestamp (R355, R356). -/
def State.delayReqRx (s : State) (port n tap : Nat) (m : PtpMsg) : State :=
  let i := s.inst n
  if i.portState.getD port 1 ≠ 6 then s
  else
    let rx := i.rxStamp (s.ptpPort port).cfg s.tick tap
    s.sendGeneral port { kind := 9, domain := m.domain, corr := m.corr - rx.emod 65536, source := i.identity port, seq := m.seq,
                         time := (rx.fdiv 65536).toNat, asker := m.source }

/-- What a message of another type than Sync does at instance `n` (R355): a port takes the messages of its delay mechanism. -/
def State.messageRx (s : State) (port n tap : Nat) (m : PtpMsg) : State :=
  let g := (s.ptpPort port).cfg
  if m.kind = 11 then s.announce n port m
  else if m.kind = 8 then s.followUpRx port n m
  else if g.p2p then
    if m.kind = 2 then
      s.modPtpPort port (fun x => { x with reqRx := (s.inst n).rxStamp g s.tick tap, reqCorr := m.corr, asked := some m.source })
    else if m.kind = 3 then s.pdelayRespRx port n tap m
    else if m.kind = 10 then s.pdelayFollowRx port n m
    else s
  else if m.kind = 1 then s.delayReqRx port n tap m
  else if m.kind = 9 then s.delayRespRx port n m
  else s

/-- PTP_MESSAGE_RX (R355, R356): a frame, without its FCS, whose message timestamp point came at FIRE tap `tap` of this tick. What is
not a PTP message of an enabled instance, Signaling and Management are discarded. -/
def execPtpMessageRx (port : Fin 2) (tap : Fin 24) (frame : List Byte) (s : State) : Host.Outcome State Fault Refusal :=
  let g := s.ptpPort port.val
  .next (if !g.works then s
    else match s.ptpMessage port.val frame with
      | none => s.ptpDiscard port.val
      | some (n, m) => if m.kind = 0 then s else (s.ptpAccept port.val).messageRx port.val n tap.val m)

/-! Sending (R356, R357). -/

/-- FIRE taps from one PCS block boundary to the next, rounded up (R357, log entry 132): 6.4 ns for 10GBASE-R, 8 ns for 1000BASE-X. -/
def PortCfg.blockTaps (g : PortCfg) : Nat := if g.mode = 1 then 31 else 39

/-- A departure is the first PCS block boundary at or after 8 ticks from tick `t` (R357). -/
def PortCfg.departsAt (g : PortCfg) (t depart tap : Nat) : Bool :=
  decide (24 * (t + 8) ≤ 24 * depart + tap) && decide (24 * depart + tap < 24 * (t + 8) + g.blockTaps)

/-- A message is one that a port schedules as one-step (R357). -/
def PortCfg.schedules (g : PortCfg) (k : Nat) : Bool := g.oneStep && (k == 0 || k == 3)

/-- An instance sends an event message on a port (R355): a Sync as master, a Delay_Req as slave, and the messages of the peer-to-peer
mechanism. -/
def State.ptpSends (s : State) (port n k : Nat) : Bool :=
  let g := s.ptpPort port
  let i := s.inst n
  g.works && i.uses port && (match k with
    | 0 => i.portState.getD port 1 == 6
    | 1 => !g.cfg.p2p && i.slaveOn port
    | 2 => g.cfg.p2p
    | 3 => g.cfg.p2p && g.asked.isSome
    | _ => false)

/-- The fields that the X21 writes in a frame that departs with a transmit timestamp (R356, R357): a one-step Sync takes its whole
nanoseconds and their fraction, a one-step Pdelay_Resp its turnaround, and a request the asymmetry of the port. -/
def TPort.written (g : TPort) (k : Nat) (stamp : Int) (frame : List Byte) : List Byte :=
  let at_ := g.cfg.msgAt
  if k = 1 ∨ k = 2 then putCorr at_ (-psUnits g.cfg.asym) frame
  else if g.cfg.oneStep then
    if k = 0 then putTime at_ (stamp.fdiv 65536).toNat (putCorr at_ (stamp.emod 65536) frame)
    else putCorr at_ (g.reqCorr + stamp - g.reqRx) frame
  else frame

/-- What follows a departure (R355 to R357): a request waits for its answer, and in two-step operation the message that carries the
timestamp of the frame is sent. -/
def State.afterDeparture (s : State) (port n : Nat) (m : PtpMsg) (stamp : Int) : State :=
  let g := s.ptpPort port
  let i := s.inst n
  let w : PtpWait := { inst := n, seq := m.seq, stamp := stamp }
  let after : PtpMsg := { kind := 8, domain := m.domain, corr := m.corr + stamp.emod 65536, source := i.identity port, seq := m.seq,
                          time := (stamp.fdiv 65536).toNat }
  match m.kind with
  | 0 => if g.cfg.oneStep then s else s.sendGeneral port after
  | 1 => s.modPtpPort port (fun x => { x with delayReq := some w })
  | 2 => s.modPtpPort port (fun x => { x with pdelayReq := some w, pdelayResp := none })
  | _ =>
    let s := s.modPtpPort port (fun x => { x with asked := none })
    if g.cfg.oneStep then s else s.sendGeneral port { after with kind := 10, corr := g.reqCorr + stamp.emod 65536, asker := g.asked.getD 0 }

/-- A frame with an event message of instance `n` leaves a port at a departure (R356, R357). -/
def State.depart (s : State) (port n : Nat) (m : PtpMsg) (frame : List Byte) (at_ tap : Nat) : State :=
  let g := s.ptpPort port
  let stamp := (s.inst n).txStamp g.cfg at_ tap
  let s := s.modPtpPort port (fun x => { x with sent := satAdd 16 x.sent 1 })
  let s := s.emit (.ptp port (g.cfg.finish frame (g.written m.kind stamp frame)) at_ tap)
  s.afterDeparture port n m stamp

/-- The interval after which a late one-step message is sent again (R357): of Syncs, or of peer delay requests. -/
def State.resendAfter (s : State) (port n k : Nat) : Nat :=
  intervalTicks 1 (if k = 0 then (s.inst n).cfg.logSync else (s.ptpPort port).cfg.logPdelay)

/-- PTP_TX (R356, R357): a frame with an event message, as it was queued and without its FCS, reaches the head of the transmit queue and
leaves at a stamp. A one-step Sync or Pdelay_Resp leaves at its planned boundary, or, `missed`, is discarded, counted, and sent again at
the next interval. -/
def execPtpTx (port : Fin 2) (frame : List Byte) (depart : Nat) (tap : Fin 24) (missed : Bool) (s : State) :
    Host.Outcome State Fault Refusal :=
  let g := s.ptpPort port.val
  .next (match s.ptpMessage port.val frame with
    | none => s
    | some (n, m) =>
      if !s.ptpSends port.val n m.kind || !g.cfg.sourced frame || m.twoStep != (!g.cfg.oneStep && (m.kind == 0 || m.kind == 3)) then s
      else if g.cfg.schedules m.kind && missed then
        s.modPtpPort port.val (fun x => { x with
          late := satAdd 16 x.late 1,
          again := x.again ++ [{ inst := n, frame := frame, due := s.tick + s.resendAfter port.val n m.kind }] })
      else if (if g.cfg.schedules m.kind then g.cfg.departsAt s.tick depart tap.val else decide (s.tick ≤ depart)) = false then s
      else s.depart port.val n m frame depart tap.val)

/-- A late frame is sent again at the next interval (R357): at its new boundary, which is a free value (log entry 132). -/
def State.sendAgain (s : State) (port : Nat) : State :=
  let due := (s.ptpPort port).again.filter (fun a => decide (a.due ≤ s.tick))
  if due.isEmpty then s
  else
    let s := s.modPtpPort port (fun x => { x with again := x.again.filter (fun a => decide (s.tick < a.due)) })
    due.foldl (fun s a =>
      match s.ptpMessage port a.frame with
      | some (n, m) =>
        if n = a.inst ∧ s.ptpSends port n m.kind = true then
          let late := s.draw % (s.ptpPort port).cfg.blockTaps
          s.drawn.depart port n m a.frame (s.tick + 8 + late / 24) (late % 24)
        else s
      | none => s) s

/-! Masters lost and links. -/

/-- The master of an instance counts as lost (R360): 0 announce timeout, 1 sync timeout, 2 link down. -/
def Inst.masterLost (i : Inst) (cause tick : Nat) : Bool :=
  if cause = 0 then decide (i.lastAnn + intervalTicks i.cfg.annTimeout i.cfg.logAnn ≤ tick)
  else if cause = 1 then decide (i.lastSync + intervalTicks 3 i.cfg.logSync ≤ tick)
  else true

/-- An instance enters HOLDOVER and writes DOMAIN_LOST (R360, R369). Its slave port listens again, or is down. -/
def State.loseMaster (s : State) (n cause : Nat) : State :=
  let i := s.inst n
  let s := s.setInst n { i.putPort i.slavePort (if cause = 2 then 1 else 4) with
    state := .holdover, lockRow := 0, gap := none, syncWait := none, heardAt := modAt (fun _ => s.tick) i.slavePort i.heardAt }
  let s := if n = s.tim.primary then s.modTim (fun t => { t with lostAt := some s.tick }) else s
  s.raise 0x0D02 i.slavePort ([n, cause, 0, 0] ++ leInt 4 (satSigned 32 (i.theta.fdiv 65536)) ++ leBytes 8 (i.masterId / 65536))

/-- An Ethernet port's link goes down (R360, R404). -/
def State.ethDown (s : State) (port : Nat) : State :=
  let s := s.modPtpPort port (fun g => { g with
    linkUp := false, delayReq := none, pdelayReq := none, pdelayResp := none, asked := none, again := [] })
  [0, 1].foldl (fun s n =>
    if (s.inst n).following && (s.inst n).slavePort == port then s.loseMaster n 2
    else if (s.inst n).uses port then s.changePorts n (fun i => i.putPort port 1) else s) s

/-- A port of an instance has heard no Announce for the announce receipt timeout (R360), and none arrives in this tick (R20). -/
def State.unheard (s : State) (n port : Nat) : Bool :=
  let i := s.inst n
  i.uses port && (s.ptpPort port).works && i.portState.getD port 1 == 4
    && decide (i.heardAt.getD port 0 + intervalTicks i.cfg.annTimeout i.cfg.logAnn ≤ s.tick)
    && !s.arrives (fun r => match r with
      | .ptpMessageRx q _ frame => q.val == port && (match s.ptpMessage port frame with | some (k, m) => k == n && m.kind == 11 | none => false)
      | _ => false)

/-- The message whose timeout cause 0 or 1 is arrives in this tick for an instance (R20, R360). -/
def State.ptpArrives (s : State) (n cause : Nat) : Bool :=
  let i := s.inst n
  let hits (port : Nat) (frame : List Byte) (kind : Nat) : Bool :=
    port == i.slavePort && (match s.ptpMessage port frame with
      | some (k, m) => k == n && m.kind == kind && m.source == i.masterId
      | none => false)
  s.arrives (fun r => match r with
    | .ptpMessageRx port _ frame => cause == 0 && hits port.val frame 11
    | .ptpSyncRx port _ frame => cause == 1 && hits port.val frame 0
    | _ => false)

/-- PTP_MASTER_LOST (R20, R360). With no master, an announce receipt timeout makes the ports that listened masters, unless the instance
is slave-only (R358). -/
def execPtpMasterLost (inst : Fin 2) (cause : Fin 3) (s : State) : Host.Outcome State Fault Refusal :=
  let i := s.inst inst.val
  .next (if i.following then
      if i.masterLost cause.val s.tick && !s.ptpArrives inst.val cause.val then
        (if cause.val = 2 then s.ethDown i.slavePort else s.loseMaster inst.val cause.val)
      else s
    else if cause.val = 0 ∧ bit i.cfg.flags 2 = false then
      s.changePorts inst.val (fun i => [0, 1].foldl (fun i q => if s.unheard inst.val q then i.putPort q 6 else i) i)
    else s)

/-- ETH_LINK_UP (R360, R404): the port's instances run BMCA again. The port stays down while the Ethernet PLL is out of lock. -/
def execEthLinkUp (port : Fin 2) (s : State) : Host.Outcome State Fault Refusal :=
  let listen (i : Inst) : Inst :=
    if i.uses port.val then { i.putPort port.val 4 with heardAt := modAt (fun _ => s.tick) port.val i.heardAt } else i
  .next (if bit s.sys.pllLock 3 then ((s.modPtpPort port.val (fun g => { g with linkUp := true })).modInst 0 listen).modInst 1 listen else s)

/-- SWITCH_SLEW_DONE (R363, R364): S has reached 0. -/
def execSwitchSlewDone (s : State) : Host.Outcome State Fault Refusal :=
  .next (if s.tim.switching ∧ s.residueAt s.tick = 0 then
      (s.modTim (fun t => { t with switching := false, residue := 0 })).endSwitch
    else s)

end Sys2Proof.Machine
end

