-- ==== Sys2Proof/Machine/Streak.lean ====
section
/-! DEFINITION. Streak detection and the closed loop (chapter 11): comparison with prediction, suspicion, ladder tests, their
verdicts and the defect map, calibration, and the STK commands; the delivery of a frame (R244). -/
namespace Sys2Proof.Machine

/-! Maps and spans (R249 to R251). -/

/-- The map of a unit. -/
def State.stkMap (s : State) (u : Nat) : Option StkMap := s.stk.maps.get none u

/-- The unit and profile column of a global column. -/
def State.unitOfColumn (s : State) (g : Nat) : Option (Nat × Nat) :=
  camList.findSome? (fun u => match s.stkMap u with
    | some m => if m.base ≤ g ∧ g < m.base + m.cols then some (u, g - m.base) else none
    | none => none)

/-- The lowest unit whose map covers a raster column, with the global column (R250, R260). -/
def State.columnOfRaster (s : State) (c : Nat) : Option (Nat × Nat) :=
  camList.findSome? (fun u => match s.stkMap u with
    | some m => (m.profileCol c).map (fun k => (u, m.base + k))
    | none => none)

/-- The web span of a frame for a channel (R251): first line, and the line after the last. -/
def webSpan (m : StkMap) (f : Frame) (ch : Nat) : Int × Int :=
  let back : Int := (m.camDist / 256 + m.rowOff.getD ch 0 : Nat)
  ((f.fsLine : Int) - back + 8, (f.closeLine : Int) - back - 8)

/-- The windows that lie wholly inside a span (R252). -/
def spanWindows (sp : Int × Int) : List Nat :=
  let lo := (max 0 (-((-sp.1).fdiv 16))).toNat
  let hi := (sp.2.fdiv 16).toNat
  if sp.2 < 0 then [] else (List.range (hi - lo)).map (fun k => lo + k)

/-! Comparison (R252, R253). -/

/-- PRED of a window and column (R252), from the sums of K × level × 15 / MAX; saturating at 65,535. -/
def Stk.predOf (k : Stk) (m : StkMap) (w g ch : Nat) : Nat :=
  min 65535 (nearest (((k.pred.get [] (w * 65536 + g)).getD ch 0 : Nat) * 65536) (240 * max 1 m.cpp.natAbs)).toNat

/-- Sum of PRED over some windows. -/
def Stk.predSum (k : Stk) (m : StkMap) (ws : List Nat) (g ch : Nat) : Nat := sumNat (ws.map (fun w => k.predOf m w g ch))

/-- n × D of R253, where PREDF is the mean over n windows. -/
def Stk.diffs (k : Stk) (m : StkMap) (ws : List Nat) (p : List (List Nat)) (ch : Nat) : List Int :=
  (List.range m.cols).map (fun c => (k.predSum m ws (m.base + c) ch : Int) - ws.length * (p.getD c []).getD ch 0)

/-- The neighbours of R253 within the unit. -/
def neighbours (neigh cols c : Nat) : List Nat :=
  ((List.range (2 * neigh + 1)).map (fun i => c + i)).filterMap (fun i =>
    if neigh ≤ i ∧ i - neigh < cols ∧ i - neigh ≠ c then some (i - neigh) else none)

/-- *e* of a column (R253) as numerator over denominator. A column with no neighbour has no stated mean. -/
def residual (d : List Int) (n neigh c : Nat) (free : Int) : Int × Nat :=
  let ns := neighbours neigh d.length c
  if ns = [] then (free, 1)
  else (ns.length * d.getD c 0 - sumInt (ns.map (fun i => d.getD i 0)), n * ns.length)

/-- What a frame shows of a column in a channel: PREDF summed over its n windows, and *e*. -/
structure ColView where
  n : Nat
  predSum : Nat
  num : Int
  den : Nat
deriving DecidableEq, Repr

/-- The column is predicted strongly enough in this channel (R253, R254). -/
def ColView.strong (v : ColView) (c : StkCfg) : Bool := v.n ≠ 0 && decide (v.n * c.minPred ≤ v.predSum)

/-- The column is deficient in this channel (R253). -/
def ColView.deficient (v : ColView) (c : StkCfg) : Bool := v.strong c && decide ((c.defTh : Int) * v.den ≤ v.num)

/-- *e* as a signed 16-bit number. -/
def ColView.resid (v : ColView) : Int := satSigned 16 (roundFree v.num (max 1 v.den))

/-- The deficient channel with the largest *e* (R253); the lower one of equals. -/
def worstChannel (c : StkCfg) (vs : List ColView) : Option Nat :=
  (List.range 3).foldl (fun best ch =>
    match vs[ch]? with
    | none => best
    | some v =>
      if !v.deficient c then best
      else match best.bind (fun b => vs[b]?) with
        | none => some ch
        | some w => if w.num * v.den < v.num * w.den then some ch else best) none

/-- The configuration for a frame (R262): THRESH_ONLY changes act from the unit's next FS. -/
def Stk.cfgFor (k : Stk) (fsTick : Nat) : StkCfg :=
  match (k.thr.filter (fun t => decide (t.tick < fsTick))).getLast? with
  | some t => t.val
  | none => k.cfg

/-- The configuration with every change committed so far. -/
def Stk.cfgLatest (k : Stk) : StkCfg := match k.thr.getLast? with | some t => t.val | none => k.cfg

/-- STK is suspended (R248): PACE_CONFIG holds MODE 1. -/
def State.stkSuspended (s : State) : Bool := s.fir.cfg.scanning

/-- STK works on this device (R248): it is enabled, FIR paces in single pass, and the device is the lead. -/
def State.stkActive (s : State) : Bool := s.stk.enabled && !s.stkSuspended && s.fir.paced && s.twn.role.acting

/-- Every window of a frame, in each channel, was predicted under the unit's map (R261, R262). -/
def State.framePredicted (s : State) (u : Nat) (m : StkMap) (f : Frame) : Bool :=
  (List.range 3).all (fun ch => (spanWindows (webSpan m f ch)).all (fun w =>
    decide (s.stk.predFrom ≤ 16 * w) && decide (s.stk.unitFrom.get 0 u ≤ 16 * w)))

/-- The windows of a channel from which a frame is evaluated (R252, R261, R262). -/
def State.evalWindows (s : State) (u : Nat) (m : StkMap) (f : Frame) (ch : Nat) : List Nat :=
  if s.framePredicted u m f then spanWindows (webSpan m f ch) else []

/-! Test sets (R255). -/

/-- The nozzle's STATE lets a ladder test it (R255): GOOD or NO_TAKE, or DEAD or SPENT with AUTO = 1. -/
def testable (t : SubTables) (n : Nat) : Bool :=
  let st := nozState t n
  st == stGood || st == stNoTake || ((st == stDead || st == stSpent) && nozAuto t n)

/-- The raster column's centre lies in the profile column's span, widened by one raster column on each side (R255). The end
COL0 + k × CPP belongs to it and the other does not, also where CPP is negative (R250). Units of 2^-16 raster column. -/
def StkMap.spans (m : StkMap) (k col : Nat) : Bool :=
  let a := 256 * m.col0 + k * m.cpp
  let b := 256 * m.col0 + (k + 1) * m.cpp
  let x : Int := 65536 * (col : Int) + 32768
  if 0 ≤ m.cpp then decide (a - 65536 ≤ x) && decide (x < b + 65536) else decide (b - 65536 < x) && decide (x ≤ a + 65536)

/-- *fit* of an ink (R255) as numerator over denominator. -/
def inkFit (c : StkCfg) (e : List Int) (ink : Nat) : Int × Nat :=
  (sumInt ((List.range 3).map (fun ch => e.getD ch 0 * c.kOf ch ink)), sumNat ((List.range 3).map (fun ch => c.kOf ch ink)))

/-- Ink `i` goes before ink `j` by fit (R255). -/
def fitBefore (c : StkCfg) (e : List Int) (i j : Nat) : Bool :=
  let a := inkFit c e i
  let b := inkFit c e j
  let x := a.1 * max 1 b.2
  let y := b.1 * max 1 a.2
  decide (y < x) || (x == y && decide (i ≤ j))

/-- The test set of a column (R255): nozzle and its item, in order, at most 64. -/
def State.testSet (s : State) (m : StkMap) (k ch : Nat) (e : List Int) : List (Nat × MapItem) :=
  let c := s.stk.cfgLatest
  let all := s.activeSet.printers.filter (fun x =>
    c.planeOn x.2.plane && decide (c.minK ≤ c.kOf ch (c.inkOf x.2.plane)) && m.spans k x.2.col && testable s.sub.cur x.1)
  let le (a b : Nat × MapItem) : Bool :=
    let ia := c.inkOf a.2.plane
    let ib := c.inkOf b.2.plane
    if ia ≠ ib then fitBefore c e ia ib
    else decide (a.2.plane < b.2.plane) || (a.2.plane == b.2.plane && decide (a.2.col ≤ b.2.col))
  (all.mergeSort le).take 64

/-! The test queue (R256, R263). -/

/-- Tests that wait in the queue. -/
def Stk.queued (k : Stk) : Nat := (k.tests.filter (fun t => !t.running)).length

/-- Tests at work. -/
def Stk.atWork (k : Stk) : Nat := (k.tests.filter LTest.running).length

/-- Host tests go ahead of automatic ones (R256). -/
def LTest.byHost (t : LTest) : Bool := t.cause == 1 || t.cause == 3

/-- Put a test into the queue (R256). -/
def enqueueTest (t : LTest) (q : List LTest) : List LTest :=
  if t.byHost then q.takeWhile (fun x => x.byHost || x.running) ++ [t] ++ q.dropWhile (fun x => x.byHost || x.running)
  else q ++ [t]

/-- The next test ID (R265): 1 to 65,535, then 1 again. -/
def nextTestId (n : Nat) : Nat := if n = 65535 then 1 else n + 1

/-- Queue a test under the next ID. -/
def State.addTest (s : State) (t : LTest) : State :=
  s.modStk (fun k => { k with tests := enqueueTest { t with id := k.nextTest } k.tests, nextTest := nextTestId k.nextTest })

/-- How many verdicts of a value a test holds. -/
def LTest.verdicts (t : LTest) (v : Nat) : Nat := (t.steps.filter (fun p => p.verdict == some v)).length

/-- The tests of a column, in test order. -/
def testsOfColumn (tests : List LTest) (g : Nat) : List LTest := tests.filter (fun t => t.ofColumn && t.column == g)

/-- A column when a test of it has ended and these tests of it are left (R254): its counter is 0, and it returns to IDLE, or waits
for what is left. -/
def StkCol.release (x : StkCol) (left : List LTest) : StkCol :=
  { x with count := 0, state := if left.any LTest.running then 2 else if left.isEmpty then 0 else 1,
           test := (left.map (fun t => t.id)).headD 0 }

/-- The columns when a test has ended and these are left. -/
def freeColumn (cols : Table StkCol) (t : LTest) (left : List LTest) : Table StkCol :=
  if t.ofColumn then cols.set {} t.column ((cols.get {} t.column).release (testsOfColumn left t.column)) else cols

/-- A test of a column is queued; STK_QUERY names the first of them. -/
def StkCol.await (x : StkCol) (id : Nat) : StkCol := { x with test := if x.test = 0 then id else x.test }

/-- A test ends (R254, R257, R263, R265): its column returns to IDLE with counter 0, LADDER_DONE is written and its command
completes. -/
def State.endTest (s : State) (t : LTest) (status : Nat) (results : List Byte) : State :=
  let s := s.modStk (fun k => { k with
    tests := k.tests.filter (fun x => x.id ≠ t.id),
    cols := freeColumn k.cols t (k.tests.filter (fun x => x.id ≠ t.id)) })
  let s := s.raise 0x0802 t.unit (leBytes 2 t.id ++ [t.steps.length, t.verdicts 0, t.verdicts 1, t.verdicts 2, t.verdicts 3, t.cause]
    ++ s.lineBytes ++ [0, 0])
  s.completeOpt t.cmd status (if status = Status.ok then results else [])

/-- The results of a column or nozzle test (R263). -/
def LTest.results (t : LTest) : List Byte :=
  [t.verdicts 0, t.verdicts 1, t.verdicts 2, t.verdicts 3] ++ leBytes 2 t.id ++ zeros 10

/-- End a column or nozzle test whose last verdict has been given. -/
def State.endIfDone (s : State) (id : Nat) : State :=
  match s.stk.tests.find? (fun t => t.id == id) with
  | some t => if t.cause ≠ 3 ∧ t.steps.all (fun p => p.verdict.isSome) = true then s.endTest t Status.ok t.results else s
  | none => s

/-- The steps of a column test (R255, R256). -/
def columnSteps (u g : Nat) (set : List (Nat × MapItem)) : List Step :=
  set.map (fun x => { noz := x.1, plane := x.2.plane, unit := u, column := g })

/-- Queue the test of a column (R254, R255, R263). A set that is empty ends the test at once. -/
def State.testColumn (s : State) (u : Nat) (m : StkMap) (g ch cause : Nat) (e : List Int) (cmd deadline : Option Nat) : State :=
  let set := s.testSet m (g - m.base) ch e
  let id := s.stk.nextTest
  let s := s.addTest { id := 0, cause := cause, channel := ch, unit := u, column := g, cmd := cmd, deadline := deadline,
                       ofColumn := true, steps := columnSteps u g set }
  (s.modStk (fun k => { k with cols := k.cols.set {} g ((k.cols.get {} g).await id) })).endIfDone id

/-! Suspicion (R254). -/

/-- A frame's outcome for one column (R254). -/
def State.judgeColumn (s : State) (u : Nat) (m : StkMap) (c : StkCfg) (closeLine g : Nat) (vs : List ColView) : State :=
  let col := s.stkCol g
  if col.state ≠ 0 then s
  else
    match worstChannel c vs with
    | some ch =>
      let n := min 255 (col.count + c.up)
      if n < c.suspTh then s.setStkCol g { col with count := n }
      else
        let es := vs.map ColView.resid
        let v := vs.getD ch { n := 0, predSum := 0, num := 0, den := 1 }
        let s := s.setStkCol g { col with count := n, state := 1, channel := ch, e := es }
        let s := s.modStk (fun k => { k with suspects := satAdd 32 k.suspects 1 })
        let s := s.raise 0x0801 u (leBytes 2 g ++ [ch, 0] ++ leInt 2 (es.getD ch 0)
          ++ leBytes 2 (roundFree v.predSum (max 1 v.n)).toNat ++ leBytes 6 closeLine ++ [0, 0])
        if c.autoLadder ∧ s.stk.queued < 64 then s.testColumn u m g ch 0 es none none else s
    | none =>
      if vs.any (fun v => v.strong c) then s.setStkCol g { col with count := col.count - c.down } else s

/-- STK compares a usable frame with the prediction (R252 to R254). -/
def State.compareFrame (s : State) (u : Nat) (m : StkMap) (f : Frame) (p : List (List Nat)) : State :=
  let c := s.stk.cfgFor f.fsTick
  let free : Int := (s.draw % 65536 : Nat) - 32768
  let ws := (List.range 3).map (fun ch => s.evalWindows u m f ch)
  let ds := (List.range 3).map (fun ch => s.stk.diffs m (ws.getD ch []) p ch)
  let k := s.stk
  (List.range m.cols).foldl (fun s i =>
    s.judgeColumn u m c f.closeLine (m.base + i) ((List.range 3).map (fun ch =>
      let w := ws.getD ch []
      let r := residual (ds.getD ch []) w.length c.neigh i free
      { n := w.length, predSum := k.predSum m w (m.base + i) ch, num := r.1, den := max 1 r.2 }))) s.drawn

/-! Frames over a step (R257). -/

/-- The profile columns whose P a step collects: its column and the ones beside it; all of the unit in a calibration. -/
def LTest.watch (t : LTest) (m : StkMap) (p : Step) : List Nat :=
  if t.cause = 3 then List.range m.cols
  else [p.column - m.base - 1, p.column - m.base, p.column - m.base + 1].filter (fun k => decide (k < m.cols))
    |> dedup

/-- Sums by place in two lists. -/
def addLists (a b : List Nat) : List Nat := if a = [] then b else (a.zip b).map (fun x => x.1 + x.2)

/-- A usable frame adds to the steps whose dash or space holds its web span (R257). -/
def Step.collect (c : StkCfg) (t : LTest) (m : StkMap) (f : Frame) (prof : List (List Nat)) (p : Step) : Step :=
  match p.u with
  | none => p
  | some u =>
    if p.verdict.isSome then p
    else
      let sp := webSpan m f t.channel
      let vals := (t.watch m p).map (fun k => (prof.getD k []).getD t.channel 0)
      if (u : Int) ≤ sp.1 ∧ sp.2 ≤ u + c.space ∧ sp.1 < sp.2 then { p with spaceN := p.spaceN + 1, spaceSum := addLists p.spaceSum vals }
      else if (u : Int) + c.space ≤ sp.1 ∧ sp.2 ≤ u + c.stepLines ∧ sp.1 < sp.2 then
        { p with dashN := p.dashN + 1, dashSum := addLists p.dashSum vals }
      else p

/-- Steps whose evaluation falls due with a frame (R257): its span begins at or after the end of the dash. -/
def Step.dueAt (c : StkCfg) (t : LTest) (m : StkMap) (f : Frame) (p : Step) : Bool :=
  match p.u with
  | some u => p.verdict.isNone && decide ((u : Int) + c.stepLines ≤ (webSpan m f t.channel).1)
  | none => false

/-- X of R257 times dashN × spaceN, over the columns collected. -/
def Step.xNum (p : Step) : Int := (p.spaceN * sumNat p.dashSum : Nat) - (p.dashN * sumNat p.spaceSum : Nat)

/-- ρ = X / E (R257) as a fraction; where E is 0 the spec states no ρ. -/
def Step.rho (p : Step) (c : StkCfg) (m : StkMap) (ch : Nat) (free : Nat) : Rat :=
  let k := c.kOf ch (c.inkOf p.plane)
  if k = 0 then (free % 512 : Nat) / 128
  else (p.xNum * m.cpp.natAbs : Int) / ((k * 65536 * (p.dashN * p.spaceN) : Nat) : Rat)

/-- The verdict of a step that is not inconclusive (R257). -/
def verdictOf (c : StkCfg) (rho : Rat) : Nat :=
  if (c.pass : Rat) / 128 ≤ rho then 0 else if (c.fail : Rat) / 128 ≤ rho then 1 else 2

/-- A step is inconclusive (R258). -/
def Step.inconclusive (p : Step) : Bool := p.spoiled || p.dashN == 0 || p.spaceN == 0

/-! Verdicts (R259, R260). -/

/-- Put a nozzle on the retest list with a recovery count. -/
def retestInsert (n r : Nat) : List (Nat × Nat) → List (Nat × Nat)
  | [] => [(n, r)]
  | (m, q) :: rest => if n < m then (n, r) :: (m, q) :: rest else if n = m then (n, r) :: rest else (m, q) :: retestInsert n r rest

/-- The recovery count of a listed nozzle. -/
def Stk.recovery (k : Stk) (n : Nat) : Option Nat := (k.retest.find? (fun r => r.1 == n)).map (fun r => r.2)

/-- A nozzle joins the retest list, or is counted when the list is full (R260). Answers whether it was left out. -/
def State.joinRetest (s : State) (n : Nat) : State × Bool :=
  match s.stk.recovery n with
  | some _ => (s.modStk (fun k => { k with retest := retestInsert n 0 k.retest }), false)
  | none =>
    if s.stk.retest.length < 1024 then (s.modStk (fun k => { k with retest := retestInsert n 0 k.retest }), false)
    else (s.modStk (fun k => { k with overflow := satAdd 16 k.overflow 1 }), true)

/-- A verdict changes the defect map (R259): the state, the nozzle's STATE after or none, and whether a full list left it
out (R260). -/
def State.applyVerdict (s : State) (n v : Nat) : State × Option Nat × Bool :=
  let t := s.sub.cur
  let st := nozState t n
  let auto := (st == stDead || st == stSpent) && nozAuto t n
  let hostWins := s.sub.hostAt.get 0 n == s.pairTick + 1
  if !s.stk.cfg.autoVerdict || hostWins then (s, none, false)
  else if v = 2 ∧ st = stGood then
    let c := SubChange.write s.activeSet { tables := t } n stDead true
    let s := s.commitVerdict c n
    let r := s.joinRetest n
    (r.1, some (nozState c.tables n), r.2)
  else if v = 2 ∧ auto then
    let r := s.joinRetest n
    (r.1, none, r.2)
  else if v = 0 ∧ auto then
    match s.stk.recovery n with
    | none => (s, none, false)
    | some k =>
      if k + 1 < s.stk.cfg.recoverN then (s.modStk (fun x => { x with retest := retestInsert n (k + 1) x.retest }), none, false)
      else
        let c := SubChange.write s.activeSet { tables := t } n stGood true
        let s := (s.commitVerdict c n).modStk (fun x => { x with retest := x.retest.filter (fun r => r.1 ≠ n) })
        (s, some stGood, false)
  else (s, none, false)

/-- Change one test. -/
def State.modTest (s : State) (id : Nat) (f : LTest → LTest) : State :=
  s.modStk (fun k => { k with tests := k.tests.map (fun t => if t.id = id then f t else t) })

/-- Replace the first step equal to `p`. -/
def replaceStep (p q : Step) : List Step → List Step
  | [] => []
  | x :: rest => if x = p then q :: rest else x :: replaceStep p q rest

/-- Count a verdict (STK_VERDICTS_A, STK_VERDICTS_B). -/
def Stk.countVerdict (k : Stk) (v : Nat) : Stk :=
  match v with
  | 0 => { k with good := satAdd 16 k.good 1 }
  | 1 => { k with weak := satAdd 16 k.weak 1 }
  | 2 => { k with dead := satAdd 16 k.dead 1 }
  | _ => { k with incon := satAdd 16 k.incon 1 }

/-- A rational to a format with a power of two as its unit; the spec states no rounding. -/
def roundRat (x : Rat) (unit : Nat) : Int := roundFree (x.num * unit) x.den

/-- A verdict commits (R257, R259, R265). -/
def State.giveVerdict (s : State) (t : LTest) (p : Step) (v : Nat) (rho : Rat) : State :=
  let s := s.modTest t.id (fun x => { x with steps := replaceStep p { p with verdict := some v } x.steps })
  let s := s.modStk (fun k => k.countVerdict v)
  let lc := s.pressLine
  let r := if v = 3 then (s, none, false) else s.applyVerdict p.noz v
  let seen : Nat := if v = 3 then 0 else min 255 (roundRat rho 64).toNat
  (r.1.raise 0x0803 (p.noz / 32768) (leBytes 4 (s.nza p.noz) ++ [v, seen, r.2.1.getD 0xFF, b2n r.2.2] ++ leBytes 6 lc
    ++ leBytes 2 t.id)).endIfDone t.id

/-- A step found inconclusive is placed again once, after the test's last step (R258). -/
def repeatStep (p : Step) (steps : List Step) : List Step :=
  steps.filter (fun q => q ≠ p) ++ [{ noz := p.noz, plane := p.plane, unit := p.unit, column := p.column, tries := p.tries + 1 }]

/-- A step of a column or nozzle test is evaluated (R257, R258). -/
def State.evaluateStep (s : State) (c : StkCfg) (m : StkMap) (t : LTest) (p : Step) : State :=
  if p.inconclusive then
    if p.tries = 0 then
      s.modTest t.id (fun x => { x with steps := repeatStep p x.steps })
    else s.giveVerdict t p 3 0
  else
    let rho := p.rho c m t.channel s.draw
    s.drawn.giveVerdict t p (verdictOf c rho) rho

/-! Calibration (R261). -/

/-- X over a profile column of a calibration, its neighbours included (R257), for columns within the unit. -/
def Step.calX (p : Step) (k : Nat) : Rat :=
  let one (i : Nat) : Rat := (p.dashSum.getD i 0 : Rat) / (p.dashN : Nat) - (p.spaceSum.getD i 0 : Rat) / (p.spaceN : Nat)
  (if k = 0 then 0 else one (k - 1)) + one k + (if k + 1 < p.dashSum.length then one (k + 1) else 0)

/-- The largest of some columns by X; the lowest of equals. -/
def peakColumn (x : Nat → Rat) (ks : List Nat) : Option Nat :=
  ks.foldl (fun best k => match best with
    | none => some k
    | some b => if x b < x k then some k else best) none

/-- A mark's raster position c + 0.5 and its centroid x in profile columns (R261); none: not used. -/
def markPoint (p : Step) (m : StkMap) (e : Rat) (col : Nat) : Option (Rat × Rat) :=
  let cpp : Rat := (m.cpp : Rat) / 65536
  let want : Rat := (col : Rat) + 1 / 2
  let near := (List.range m.cols).filter (fun (k : Nat) =>
    let x : Rat := (m.col0 : Rat) / 256 + ((k : Rat) + 1 / 2) * cpp
    decide (want - 16 ≤ x) && decide (x ≤ want + 16))
  match peakColumn p.calX near with
  | none => none
  | some k =>
    if p.calX k < e / 2 then none
    else
      let ks := (List.range 5).filterMap (fun i => if 2 ≤ k + i ∧ k + i - 2 < m.cols then some (k + i - 2) else none)
      let w := ks.foldl (fun a i => a + p.calX i) 0
      if w ≤ 0 then none else some (want, (ks.foldl (fun a i => a + p.calX i * ((i : Rat) + 1 / 2)) 0) / w)

/-- The least-squares line (R261): COL0 and CPP; none when the marks do not fix it. -/
def fitLine (ps : List (Rat × Rat)) : Option (Rat × Rat) :=
  let n : Rat := ps.length
  let sx := ps.foldl (fun a p => a + p.2) 0
  let sy := ps.foldl (fun a p => a + p.1) 0
  let sxx := ps.foldl (fun a p => a + p.2 * p.2) 0
  let sxy := ps.foldl (fun a p => a + p.2 * p.1) 0
  let d := n * sxx - sx * sx
  if d = 0 then none
  else
    let b := (n * sxy - sx * sy) / d
    some ((sy - b * sx) / n, b)

/-- The largest residual of a fit (R261). -/
def worstResidual (ps : List (Rat × Rat)) (f : Rat × Rat) : Rat :=
  ps.foldl (fun a p => let r := p.1 - (f.1 + p.2 * f.2); max a (if r < 0 then -r else r)) 0

/-- The raster columns of a calibration's marks. -/
def State.markColumns (s : State) (t : LTest) : List Nat :=
  t.marks.filterMap (fun n => (s.activeSet.mapOf n).map (fun i => i.col))

/-- The calibration step is evaluated (R261). -/
def State.fitCalibration (s : State) (c : StkCfg) (m : StkMap) (t : LTest) (p : Step) : State :=
  if p.inconclusive ∧ p.tries = 0 then
    s.modTest t.id (fun x => { x with steps := repeatStep p x.steps })
  else
    let e : Rat := ((c.kOf t.channel (c.inkOf p.plane) * 65536 : Nat) : Rat) / (m.cpp.natAbs : Nat)
    let pts := if p.inconclusive then [] else (s.markColumns t).filterMap (markPoint p m e)
    match fitLine pts with
    | none => s.endTest t Status.notCalibrated []
    | some f =>
      let r := worstResidual pts f
      if pts.length < 8 ∨ 1 / 2 < r then s.endTest t Status.notCalibrated []
      else
        let n := { m with col0 := satSigned 32 (roundRat f.1 256), cpp := satSigned 32 (roundRat f.2 65536) }
        (s.modStk (fun k => { k with mapNext := k.mapNext.set none t.unit (some ⟨n, s.tick⟩) })).endTest t Status.ok
          (leInt 4 n.col0 ++ leInt 4 n.cpp ++ [min 255 pts.length, min 255 (roundRat r 256).toNat] ++ zeros 6)

/-! Delivery (R244, R253, R257). -/

/-- Evaluate the steps of a unit that fall due with a frame, oldest test first (R257). The fuel bounds their number. -/
def State.evaluateDue (u : Nat) (c : StkCfg) (m : StkMap) (f : Frame) : Nat → State → State
  | 0, s => s
  | n + 1, s =>
    match s.stk.tests.findSome? (fun t => (t.steps.find? (fun p => p.unit == u && p.dueAt c t m f)).map (fun p => (t, p))) with
    | none => s
    | some (t, p) => State.evaluateDue u c m f n (if t.cause = 3 then s.fitCalibration c m t p else s.evaluateStep c m t p)

/-- A calibration of unit `u` runs, or its fitted map waits for the unit's next FS (R261): its columns are not evaluated. -/
def State.calibrating (s : State) (u : Nat) : Bool :=
  s.stk.tests.any (fun t => t.cause == 3 && t.unit == u && t.running) || (s.stk.mapNext.get none u).isSome

/-- STK takes a delivered frame (R242, R253, R257). -/
def State.stkFrame (s : State) (u : Nat) (f : Frame) (p : List (List Nat)) : State :=
  match s.stkMap u with
  | none => s
  | some m =>
    if s.stkActive = false ∨ bit f.outs.enable 2 = false then s
    else
      let c := s.stk.cfgFor f.fsTick
      let s := if f.unusable then s
        else s.mapSteps (fun t q => if q.unit = u then q.collect c t m f p else q)
      let s := if f.unusable || s.calibrating u then s else s.compareFrame u m f p
      State.evaluateDue u c m f (sumNat (s.stk.tests.map (fun t => t.steps.length)) + 1) s

/-- FRAME_OUTPUT_DELIVERY (R244): the oldest closed frame of unit `u`, once its lines have been served. -/
def execFrameOutputDelivery (u : Fin 16) (s : State) : Host.Outcome State Fault Refusal :=
  match (s.camUnit u.val).ready with
  | none => .next s
  | some f =>
    let p := f.profile s.draw
    let s := if f.served = 0 then s.drawn else s
    let s := s.deliverOutputs u.val f p
    let s := s.modCamUnit u.val (fun c => { c with closed := c.closed.drop 1 })
    .next (State.endCamStop false (s.stkFrame u.val f p) u.val)

/-! Placing steps (R256, R260). -/

/-- The closed gaps (R256): pages on either side, first web line, and the line after the last. -/
def State.closedGaps (s : State) : List (Nat × Nat × Nat × Nat) :=
  let q := s.pgq.queue
  (q.zip (q.drop 1)).filterMap (fun x =>
    let a := s.ctx x.1
    let b := s.ctx x.2
    match a.start, b.start with
    | some sa, some sb => if a.live ∧ b.live ∧ sa + ceil16 a.lines < sb then some (x.1, x.2, sa + ceil16 a.lines, sb) else none
    | _, _ => none)

/-- The lowest W of a step's nozzles, for the rule u + W ≥ L_now + 80 (R256). -/
def State.stepWMin (s : State) (t : LTest) (p : Step) : Nat :=
  let ws := (t.nozzles p).map s.activeSet.wOfNoz
  ws.foldl min (ws.headD 0)

/-- The earliest place for a step at or after a web line (R256), clear of some taken stretches: gap pages and first line. -/
def State.stepPlace (s : State) (from_ wMin : Nat) (taken : List (Nat × Nat)) : Option (Nat × Nat × Nat) :=
  let len := s.stk.cfg.stepLines
  let now := s.fir.lastLine.getD 0
  s.closedGaps.findSome? (fun g =>
    let lo := ceil16 (max (max g.2.2.1 from_) (now + 80 - wMin))
    let starts := (List.range ((g.2.2.2 - lo) / 16 + 1)).map (fun k => lo + 16 * k)
    (starts.find? (fun u => decide (u + len ≤ g.2.2.2) && taken.all (fun x => decide (u + len ≤ x.1) || decide (x.2 ≤ u)))).map
      (fun u => (g.1, g.2.1, u)))

/-- The web lines that placed steps of a test take. -/
def State.placedLines (s : State) (t : LTest) : List (Nat × Nat) :=
  t.steps.filterMap (fun p => p.u.map (fun u => (u, u + s.stk.cfg.stepLines)))

/-- The suspect columns of a test, with their units. -/
def LTest.columns (t : LTest) : List (Nat × Nat) := (t.unit, t.column) :: t.steps.map (fun p => (p.unit, p.column))

/-- Two tests may run side by side (R256). A calibration takes its whole unit. -/
def sideBySide (neigh : Nat) (a b : LTest) : Bool :=
  a.columns.all (fun x => b.columns.all (fun y => x.1 ≠ y.1
    || (a.cause ≠ 3 && b.cause ≠ 3 && (decide (x.2 + 2 * neigh + 3 ≤ y.2) || decide (y.2 + 2 * neigh + 3 ≤ x.2)))))

/-- The next step of a test and its place (R256): steps are placed in order, each after the ones placed before it. -/
def State.nextPlace (s : State) (t : LTest) : Option (Step × Nat × Nat × Nat) :=
  match t.steps.find? (fun p => p.u.isNone && p.verdict.isNone) with
  | none => none
  | some p =>
    let taken := if t.cause = 2 then (s.stk.tests.filter (fun x => x.id ≠ t.id)).flatMap s.placedLines else []
    (s.stepPlace (maxNat ((s.placedLines t).map (fun x => x.2))) (s.stepWMin t p) taken).map (fun x => (p, x))

/-- The test whose step is placed next: the first in the queue that may run and has a place. -/
def State.placeable (s : State) : Option (LTest × Step × Nat × Nat × Nat) :=
  s.stk.tests.findSome? (fun t =>
    let others := s.stk.tests.filter (fun x => x.id ≠ t.id && x.running)
    if t.running || others.all (sideBySide s.stk.cfgLatest.neigh t) then (s.nextPlace t).map (fun x => (t, x)) else none)

/-- Set the place of a step. -/
def State.placeStep (s : State) (id : Nat) (p : Step) (x : Nat × Nat × Nat) : State :=
  let s := s.modTest id (fun t => { t with running := true, steps := replaceStep p { p with u := some x.2.2, gapA := x.1, gapB := x.2.1 } t.steps })
  match s.stk.tests.find? (fun t => t.id == id && t.ofColumn) with
  | some t => s.modStk (fun k => { k with cols := k.cols.set {} t.column { k.cols.get {} t.column with state := 2 } })
  | none => s

/-- The channel with the largest K for an ink (R260); the lower one of equals. -/
def bestChannel (c : StkCfg) (ink : Nat) : Nat :=
  (List.range 3).foldl (fun b ch => if c.kOf b ink < c.kOf ch ink then ch else b) 0

/-- The retest that comes next (R260): nozzle, unit, column, channel and plane, round-robin in rising NZA. -/
def State.nextRetest (s : State) : Option (Nat × Nat × Nat × Nat × Nat) :=
  let c := s.stk.cfgLatest
  let l := s.stk.retest.map (fun r => r.1)
  let order := l.filter (fun n => decide (s.stk.retestAt ≤ n)) ++ l.filter (fun n => decide (n < s.stk.retestAt))
  order.findSome? (fun n =>
    if s.stk.tests.any (fun t => t.steps.any (fun p => p.noz == n)) then none
    else match s.activeSet.mapOf n with
      | none => none
      | some i => (s.columnOfRaster i.col).map (fun x => (n, x.1, x.2, bestChannel c (c.inkOf i.plane), i.plane)))

/-- Place a one-step retest on gap lines that no column test uses (R260). -/
def State.placeRetest (s : State) : State :=
  if !s.stk.cfg.recover then s
  else
    match s.nextRetest with
    | none => s
    | some (n, u, g, ch, plane) =>
      let p : Step := { noz := n, plane := plane, unit := u, column := g }
      match s.stepPlace 0 (s.activeSet.wOfNoz n) (s.stk.tests.flatMap s.placedLines) with
      | none => s
      | some x =>
        let id := s.stk.nextTest
        let s := s.addTest { id := 0, cause := 2, channel := ch, unit := u, column := g, cmd := none, deadline := none, steps := [p] }
        (s.modStk (fun k => { k with retestAt := n + 1 })).placeStep id p x

/-- LADDER_STEP_PLACE (R256, R260): the next step that has a place, or a retest when no column test has one. -/
def execLadderStepPlace (s : State) : Host.Outcome State Fault Refusal :=
  if !s.stkActive then .next s
  else match s.placeable with
    | some (t, p, x) => .next (s.placeStep t.id p x)
    | none => .next s.placeRetest

/-- A step of a test is placed in this tick (R20): LADDER_STEP_PLACE stands in the queue, and the step is the next that has a place. -/
def State.stepArrives (s : State) (t : LTest) (p : Step) : Bool :=
  s.arrives (· == .ladderStepPlace) && s.stkActive && (match s.placeable with
    | some (u, q, _) => u.id == t.id && q == p
    | none => false)

/-- LADDER_TIMEOUT (R20, R263): TIMEOUT expires with a step still unplaced; unplaced steps are withdrawn, but for one that is placed
in this tick. -/
def execLadderTimeout (test : Nat) (s : State) : Host.Outcome State Fault Refusal :=
  match s.stk.tests.find? (fun t => t.id == test) with
  | none => .next s
  | some t =>
    let due := match t.deadline with
      | some d => decide (d ≤ s.tick)
      | none => false
    let left := t.steps.filter (fun p => p.u.isSome || p.verdict.isSome || s.stepArrives t p)
    if !due || left.length == t.steps.length then .next s
    else
      let s := s.completeOpt t.cmd Status.noPageGap []
      let t' := { t with steps := left, cmd := none, deadline := none }
      let s := s.modTest t.id (fun _ => t')
      .next (if left.all (fun p => p.verdict.isSome) then s.endTest t' Status.ok [] else s)

/-! Commands (R249, R262 to R264). -/

/-- STK_MAP's parameters (R249). -/
def parseMap (p : List Byte) : StkMap :=
  { base := u16 p 10, cols := u16 p 12, col0 := i32 p 16, cpp := i32 p 20, camDist := u32 p 24,
    rowOff := [u16 p 28, u16 p 30, u16 p 32] }

/-- The effect of STK_MAP (R249). -/
def effStkMap : Effect := fun c s =>
  let p := c.packet
  let u := u8 p 8
  let m := parseMap p
  let clear := bit (u8 p 9) 0
  if 16 ≤ u ∨ 2 ≤ u8 p 9
      ∨ (clear = false ∧ (m.cols = 0 ∨ 16384 < m.cols ∨ 65536 < m.base + m.cols ∨ m.cpp.natAbs < 16384 ∨ 64 * 65536 < m.cpp.natAbs)) then
    refuse s
  else if s.stk.enabled then finish s Status.busy
  else if clear then good (s.modStk (fun k => { k with maps := k.maps.set none u none, mapNext := k.mapNext.set none u none }))
  else if camList.any (fun v => v ≠ u && (match s.stkMap v with
      | some n => decide (m.base < n.base + n.cols) && decide (n.base < m.base + m.cols)
      | none => false)) then refuse s
  else good (s.modStk (fun k => { k with maps := k.maps.set none u (some m), mapNext := k.mapNext.set none u none }))

/-- STK_MAP (R249). -/
def execStkMap (r : Fin 4) (s : State) : Host.Outcome State Fault Refusal :=
  .next (startCommand 0x0802 r.val (.ok []) effStkMap s)

/-- STK_CONFIG's parameters (R262). -/
def parseStk (p : List Byte) (table : List Byte) : StkCfg :=
  { autoLadder := bit (u8 p 8) 1, autoVerdict := bit (u8 p 8) 2, recover := bit (u8 p 8) 3, up := u8 p 9, down := u8 p 10, suspTh := u8 p 11,
    defTh := u16 p 12, minPred := u16 p 14, dash := u16 p 16, space := u16 p 18, pass := u8 p 20, fail := u8 p 21, minK := u16 p 22,
    predLog2 := u8 p 24, neigh := u8 p 25, recoverN := u8 p 26, table := table.take 256 }

/-- The ranges of STK_CONFIG (R262). -/
def stkBad (p : List Byte) : Bool :=
  let c := parseStk p []
  let lines (n : Nat) : Bool := n % 16 == 0 && decide (32 ≤ n) && decide (n ≤ 1024)
  decide (32 ≤ u8 p 8) || c.up == 0 || c.suspTh == 0 || c.defTh == 0 || !lines c.dash || !lines c.space || c.pass == 0
    || decide (c.pass ≤ c.fail) || decide (c.predLog2 < 8) || decide (13 < c.predLog2) || decide (c.neigh < 2) || decide (16 < c.neigh)
    || c.recoverN == 0 || decide (7 < c.recoverN) || u64 p 32 % 64 ≠ 0

/-- What THRESH_ONLY changes (R262). -/
def StkCfg.withThresholds (c n : StkCfg) : StkCfg :=
  { c with up := n.up, down := n.down, suspTh := n.suspTh, defTh := n.defTh, minPred := n.minPred, pass := n.pass, fail := n.fail, neigh := n.neigh }

/-- A unit delivers profiles (R239). -/
def State.unitMv (s : State) (u : Nat) : Bool := bit (s.camUnit u).outsComing.enable 2

/-- A unit with MV has no map (R262). -/
def State.unmapped (s : State) : Bool := camList.any (fun u => s.unitMv u && (s.stkMap u).isNone)

/-- A map does not fit its unit, where that has MV, or the ring (R262). -/
def State.mapMisfit (s : State) (predLog2 : Nat) : Bool :=
  camList.any (fun u => match s.stkMap u with
    | none => false
    | some m => (s.unitMv u && m.cols ≠ (s.camUnit u).profileCols (s.camUnit u).outsComing)
        || (decide (m.camDist < 256 * (s.activeSet.wMax + 64)) || decide (256 * (16 * 2 ^ predLog2 - 64) < m.camDist)))

/-- A bad table (R114, R262). -/
def stkTableBad (b : List Byte) : Bool := crc32c (b.take 252) ≠ u32 b 252 || !zeroRange b 136 252

/-- STK is enabled (R262): counters and column states are cleared, and prediction starts. -/
def State.enableStk (s : State) (c : StkCfg) : State :=
  let base := s.fir.lastLine.getD 0 + 80
  s.modStk (fun k => { k with cfg := c, enabled := true, thr := [], cols := {}, pred := {}, predFrom := ceil16 base, unitFrom := {} })

/-- STK is disabled (R262): tests and unformed steps are withdrawn, and pending STK_LADDERs complete. -/
def State.disableStk (s : State) (c : StkCfg) : State :=
  let ids := s.stk.tests.filterMap (fun t => t.cmd)
  let s := s.modStk (fun k => { k with cfg := c, enabled := false, thr := [], tests := [],
                                       cols := ⟨k.cols.entries.filterMap (fun e =>
                                         let x := { e.2 with state := if e.2.state = 2 then 1 else e.2.state, test := 0 }
                                         if x = ({} : StkCol) then none else some (e.1, x))⟩ })
  s.completeAll (ids.map (fun id => (id, Status.notReady, [])))

/-- The effect of STK_CONFIG (R262). ENABLE = 0 disables STK, also while it is enabled (log entry 44). -/
def effStkConfig : Effect := fun c s =>
  let p := c.packet
  let on := bit (u8 p 8) 0
  let thresh := bit (u8 p 8) 4
  if stkBad p then refuse s
  else if s.stk.enabled ∧ thresh = false ∧ on = true then finish s Status.busy
  else if on = true ∧ s.stkSuspended = true then finish s Status.notReady
  else if on = true ∧ s.unmapped = true then finish s Status.notCalibrated
  else if thresh then
    good (s.modStk (fun k => { k with thr := k.thr ++ [⟨k.cfgLatest.withThresholds (parseStk p []), s.tick⟩] }))
  else if on = true ∧ s.mapMisfit (u8 p 24) = true then refuse s
  else withHost c s (fun b =>
    if stkTableBad b then refuse s
    else
      let g := parseStk p b
      if !on then good (s.disableStk g)
      else if s.sys.memGib * 2 ^ 30 < s.pageDram + s.stk.ringBytes g.predLog2 then finish s Status.noResource
      else good (s.enableStk g))

/-- STK_CONFIG (R262). -/
def execStkConfig (r : Fin 4) (d : HostRead) (s : State) : Host.Outcome State Fault Refusal :=
  .next (startCommand 0x0801 r.val d effStkConfig s)

/-- The nozzles a calibration fires (R261): of MARK_PLANE, in columns 64 i + 32 inside the unit's seed span. -/
def State.calMarks (s : State) (m : StkMap) (plane : Nat) : List Nat :=
  (s.activeSet.printers.filter (fun x => x.2.plane == plane && x.2.col % 64 == 32 && (m.profileCol x.2.col).isSome)).map (fun x => x.1)

/-- The steps of a nozzle test (R263): each nozzle against the column that R260 gives it; none when one has no column. -/
def State.nozzleSteps (s : State) : List Nat → Option (List (Nat × Step))
  | [] => some []
  | n :: rest =>
    match s.activeSet.mapOf n, s.nozzleSteps rest with
    | some i, some l => (s.columnOfRaster i.col).map (fun x => (x.1, { noz := n, plane := i.plane, unit := x.1, column := x.2 }) :: l)
    | _, _ => none

/-- The ranges of STK_LADDER (R263). -/
def ladderBad (p : List Byte) : Bool :=
  let mode := u8 p 8
  decide (2 < mode) || u8 p 12 == 0
    || (if mode = 2 then u8 p 9 ≠ 0 || decide (16 ≤ u8 p 10) || decide (64 ≤ u8 p 11)
        else decide (2 < u8 p 9) || u8 p 10 ≠ 0 || u8 p 11 ≠ 0)
    || (mode ≠ 1 && u16 p 16 ≠ 0)
    || (if mode = 0 then u16 p 18 == 0 || decide (8 < u16 p 18) || !zeroRange p (20 + 4 * u16 p 18) 52
        else u16 p 18 ≠ 0 || !zeroRange p 20 52)

/-- The nozzle addresses of a mode 0 STK_LADDER (R8, R263). -/
def ladderNzas (p : List Byte) : List Nat := (List.range (u16 p 18)).map (fun k => u32 p (20 + 4 * k))

/-- STK_LADDER names a nozzle of another device (R8, R12). -/
def State.ladderForeign (s : State) (p : List Byte) : Bool := u8 p 8 == 0 && (ladderNzas p).any (fun a => a / 2 ^ 21 ≠ s.gng.dev)

/-- STK_LADDER queues its test (R261, R263). -/
def ladderStart (c : Cmd) (s : State) : State × Reply :=
  let p := c.packet
  let deadline := some (s.tick + u8 p 12 * 200000000)
  let full := decide (64 ≤ s.stk.queued)
  match u8 p 8 with
  | 0 =>
    (match s.nozzleSteps ((ladderNzas p).map (fun a => a % 2 ^ 21)) with
     | none => finish s Status.notCalibrated
     | some l =>
       if full then finish s Status.noResource
       else
         let u := (l.map (fun x => x.1)).headD 0
         let g := (l.map (fun x => x.2.column)).headD 0
         (s.addTest { id := 0, cause := 1, channel := u8 p 9, unit := u, column := g, cmd := some c.id, deadline := deadline,
                      steps := l.map (fun x => x.2) }, .running))
  | 1 =>
    let g := u16 p 16
    (match (s.unitOfColumn g).bind (fun x => (s.stkMap x.1).map (fun m => (x.1, m))) with
     | none => finish s Status.notCalibrated
     | some (u, m) =>
       if full then finish s Status.noResource
       else
         let ch := u8 p 9
         let e := (List.range 3).map (fun k => if k = ch then (1 : Int) else 0)
         let set := s.testSet m (g - m.base) ch e
         let id := s.stk.nextTest
         let s := s.addTest { id := 0, cause := 1, channel := ch, unit := u, column := g, cmd := some c.id, deadline := deadline,
                              ofColumn := true, steps := columnSteps u g set }
         let s := s.modStk (fun k => { k with cols := k.cols.set {} g ((k.cols.get {} g).await id) })
         if set = [] then
           let t : LTest := { id := id, cause := 1, channel := ch, unit := u, column := g, cmd := none, deadline := none, ofColumn := true,
                              steps := [] }
           answer (s.endTest t Status.ok []) t.results
         else (s, .running))
  | _ =>
    let u := u8 p 10
    (match s.stkMap u with
     | none => finish s Status.notCalibrated
     | some m =>
       if full then finish s Status.noResource
       else
         let plane := u8 p 11
         let cfg := s.stk.cfgLatest
         let marks := s.calMarks m plane
         let t : LTest := { id := 0, cause := 3, channel := bestChannel cfg (cfg.inkOf plane), unit := u, column := m.base, cmd := some c.id,
                            deadline := deadline, marks := marks, steps := [{ noz := marks.headD 0, plane := plane, unit := u, column := m.base }] }
         (s.addTest t, .running))

/-- The effect of STK_LADDER (R248, R263). -/
def effStkLadder : Effect := fun c s =>
  if ladderBad c.packet then refuse s
  else if s.ladderForeign c.packet then refuse s
  else if s.stkSuspended = true ∨ s.stk.enabled = false then finish s Status.notReady
  else ladderStart c s

/-- STK_LADDER (R263). -/
def execStkLadder (r : Fin 4) (s : State) : Host.Outcome State Fault Refusal :=
  .next (startCommand 0x0803 r.val (.ok []) effStkLadder s)

/-- The effect of STK_QUERY (R264). -/
def effStkQuery : Effect := fun c s =>
  let x := s.stkCol (u16 c.packet 16)
  answer s ([min 255 x.count, x.state + 4 * x.channel] ++ (List.range 3).flatMap (fun ch => leInt 2 (x.e.getD ch 0))
    ++ leBytes 2 x.test ++ [min 255 s.stk.queued, 0] ++ leBytes 4 s.stk.retest.length)

/-- STK_QUERY (R264). -/
def execStkQuery (r : Fin 4) (s : State) : Host.Outcome State Fault Refusal :=
  .next (startCommand 0x0804 r.val (.ok []) effStkQuery s)

end Sys2Proof.Machine
end

