-- ==== Sys2Proof/Machine/Light.lean ====
section
/-! DEFINITION. LED drive and curing (chapter 15): chains, matrix mode, channel levels, UV zones, colour sensors, the work of
a planning tick, and the LED commands. -/
namespace Sys2Proof.Machine

/-! Configurations that wait. -/

/-- The chain configuration after the next planning tick. -/
def Chain.cfgComing (c : Chain) : ChainCfg := match c.cfgNext with | some g => g.val | none => c.cfg

/-- The matrix configuration after the next scan start. -/
def Chain.mtxComing (c : Chain) : MatrixCfg := match c.mtxNext with | some g => g.val | none => c.mtx

/-- Channels of a chain (R340, R348). -/
def Chain.channels (c : Chain) : Nat := c.cfgComing.ndrv * 16 * max 1 c.mtxComing.lines

/-- The zones of the device. -/
def zoneList : List Nat := List.range 64

/-- F of R337. -/
def ChainCfg.frameTicks (c : ChainCfg) : Nat := c.ndrv * 256 * c.clkDiv + c.latchSu + c.latchW + 4

/-- T_L of R340. -/
def slotTicks (c : ChainCfg) (m : MatrixCfg) : Nat := 4000 * c.refresh / max 1 m.lines

/-- The conditions of R340. -/
def matrixFits (c : ChainCfg) (m : MatrixCfg) : Bool :=
  (4000 * c.refresh) % max 1 m.lines == 0 && decide (c.latchW + 2 ≤ m.blank)
    && decide (m.blank + c.ndrv * 256 * c.clkDiv + c.latchSu ≤ slotTicks c m) && decide (c.ndrv * 16 * m.lines ≤ 4096)

/-- A pin is held by LED_MATRIX (R347, R432). -/
def MatrixCfg.holds (m : MatrixCfg) (pin : Nat) : Bool :=
  m.lines ≠ 0 && ((decide (m.addrGpio ≤ pin) && decide (pin < m.addrGpio + 5)) || pin == m.enGpio)

/-- A pin is held by the matrix mode of some chain (R432). -/
def State.pinHeld (s : State) (pin : Nat) : Bool :=
  (List.range 8).any (fun c => (s.chain c).mtx.holds pin || (s.chain c).mtxComing.holds pin)

/-- The outputs of the chains are driven (R336). -/
def State.ledDriven (s : State) : Bool := s.axisDriven

/-! Zones (R342, R343). -/

/-- ADV of R343, in lines. With no floor in force yet it is what R349 leaves room for. -/
def State.zoneAdv (s : State) (z : ZoneCfg) (refresh : Nat) : Nat :=
  if s.fir.floor = 0 then 120000 - z.far - z.post else ceilDiv (2 * refresh * 96000) s.fir.floor

/-- The coverage of a window is known (R342): every die whose rows can land on it has formed its beat, and some beat formed
after the zone's last LED_ZONES reported on it. -/
def State.windowKnown (s : State) (z : Zone) (w : Nat) : Bool :=
  let last := 16 * w + 15 + s.activeSet.wMax
  decide (last < s.mal.formedTo) && decide (z.knownFrom ≤ last)

/-- The windows that hold a web line from `lo` to `hi`. -/
def windowsIn (lo hi : Int) : List Nat :=
  if hi < 0 ∨ hi < lo then []
  else
    let a := (max 0 lo).toNat / 16
    (List.range (hi.toNat / 16 + 1 - a)).map (fun k => a + k)

/-- The windows that a zone's decision looks at (R343). -/
def State.zoneWindows (s : State) (z : Zone) : List Nat :=
  let l0 : Int := (s.lineNow : Nat)
  let c := z.cfg
  let ws := windowsIn (l0 - c.far - c.post) (l0 + s.zoneAdv c (s.chain c.chain).cfg.refresh - c.near + c.pre)
  if s.fir.cfg.scanning then ws.filter (fun w => decide (s.fir.passStart ≤ 16 * w + 15)) else ws

/-- A window counts as covered (R342). -/
def State.windowLit (s : State) (z : Zone) (w : Nat) : Bool := !s.windowKnown z w || decide (z.cfg.covMin ≤ z.cover.get 0 w)

/-- The present pass's direction is not enabled (R343). -/
def State.passBarred (s : State) (c : ZoneCfg) : Bool :=
  s.fir.cfg.scanning && !(if s.lineReverse (s.fir.lastLine.getD s.fir.nextLine) then c.rev else c.fwd)

/-- The decision of R343: ZL, whether it is LEVEL, and whether it met a window of unknown coverage. -/
def State.decideZone (s : State) (z : Zone) : Nat × Bool × Bool :=
  let c := z.cfg
  let level := z.loopLevel.getD c.level
  if c.haltOff ∧ (s.fir.state = .stopped ∨ s.fir.state = .halted) then (0, false, false)
  else if !c.gate then (level, true, false)
  else if s.passBarred c then (c.levelIdle, false, false)
  else
    let ws := s.zoneWindows z
    let unknown := ws.any (fun w => !s.windowKnown z w)
    if ws.any (s.windowLit z) then (level, true, unknown) else (c.levelIdle, false, unknown)

/-- A zone takes its decision at a frame start of its chain. -/
def State.runZone (s : State) (n : Nat) : State :=
  let z := s.zone n
  let d := s.decideZone z
  s.setZone n { z with zl := d.1, on := d.2.1, unknown := d.2.2, switches := if z.on = d.2.1 then z.switches else satAdd 32 z.switches 1,
                       raisedAt := if d.2.1 && z.on then z.raisedAt else none }

/-- The zones of a chain. -/
def State.chainZones (s : State) (ch : Nat) : List Nat :=
  zoneList.filter (fun n => (s.zone n).cfg.enable && (s.zone n).cfg.chain == ch)

/-! Frames (R337, R338, R341). -/

/-- A chain in FAULT has stopped (R339). -/
def Chain.stopped (c : Chain) : Bool := c.state == .fault && c.cfg.safeHold

/-- The level sent for a channel (R341). -/
def State.channelLevel (s : State) (ch : Nat) (zones : List Nat) (n : Nat) : Nat :=
  let trim := (s.chain ch).levels.get 0 n
  match zones.find? (fun z => decide ((s.zone z).cfg.first ≤ n) && decide (n < (s.zone z).cfg.first + (s.zone z).cfg.count)) with
  | some z => ((s.zone z).zl * trim + 32768) / 65536
  | none => trim

/-- Channels in the order in which a frame sends them (R337): from the last to the first, `n` from `base`. -/
def sendOrder (base n : Nat) : List Nat := (List.range n).map (fun k => base + n - 1 - k)

/-- Levels set by LED_LEVELS before a frame start take effect (R25, R338, R348). -/
def Chain.takeLevels (c : Chain) (p : Nat) : Chain :=
  let due := c.levelsNext.filter (fun g => decide (g.tick < p))
  { c with levelsNext := c.levelsNext.filter (fun g => decide (p ≤ g.tick)),
           levels := due.foldl (fun t g => g.val.foldl (fun t x => t.set 0 x.1 x.2) t) c.levels }

/-- Start sending levels on a chain, which takes `ticks`. -/
def State.sendLevels (s : State) (ch ticks : Nat) (levels : List Nat) : State :=
  let s := s.modChain ch (fun c => { c with sending := some levels, sendEnd := s.tick + ticks })
  if s.ledDriven then s.emit (.led ch levels) else s

/-- The sampled levels of a chain with `n` channels from `base`, in bit order. -/
def State.sample (s : State) (ch base n : Nat) : List Nat :=
  let zones := s.chainZones ch
  (sendOrder base n).map (s.channelLevel ch zones)

/-- A frame start of a chain that is not in matrix mode (R338, R339). A chain that has stopped starts none. -/
def State.startFrame (s : State) (ch p : Nat) : State :=
  if (s.chain ch).stopped then s
  else
  let s := s.modChain ch (fun c => c.takeLevels p)
  let s := (s.chainZones ch).foldl State.runZone s
  let c := s.chain ch
  let n := c.cfg.ndrv * 16
  if c.state = .fault then s.sendLevels ch c.cfg.frameTicks (List.replicate n 0)
  else s.sendLevels ch c.cfg.frameTicks (s.sample ch 0 n)

/-- A scan start of a chain in matrix mode (R340): the levels sampled at the start of the scan before are shown. -/
def State.startScan (s : State) (ch p : Nat) : State :=
  let s := s.modChain ch (fun c => c.takeLevels p)
  let c := s.chain ch
  let n := c.cfg.ndrv * 16
  let zero := List.replicate c.mtx.lines (List.replicate n 0)
  let now := (List.range c.mtx.lines).map (fun j => s.sample ch (j * n) n)
  s.setChain ch { c with scan := if c.scanNext = [] then zero else c.scanNext, scanNext := now, scanAt := s.tick, slot := 0 }

/-! The work of a planning tick. -/

/-- A chain configuration takes effect (R339, R346). A disabled chain sends one all-zero frame; one in FAULT stays there. -/
def State.takeChain (s : State) (ch p : Nat) : State :=
  let c := s.chain ch
  match stagedDue c.cfgNext p with
  | none => s
  | some g =>
    let run : ChainState := if c.mtx.lines = 0 then .running else .matrix
    if !g.enable && c.state != .fault then
      let s := s.setChain ch { c with cfg := g, cfgNext := none, state := .disabled, sending := none, prev := none, row := 0 }
      if c.state = .disabled then s else s.sendLevels ch c.cfg.frameTicks (List.replicate (c.cfg.ndrv * 16) 0)
    else if g.enable = true ∧ (c.state = .disabled ∨ c.state = .fault) then
      s.setChain ch { c with cfg := g, cfgNext := none, state := run, sending := none, prev := none, row := 0, checked := 0 }
    else s.setChain ch { c with cfg := g, cfgNext := none, prev := if c.cfg.ndrv = g.ndrv then c.prev else none }

/-- A matrix mode change takes effect at a scan start (R347). -/
def State.takeMatrix (s : State) (ch p : Nat) : State :=
  let c := s.chain ch
  match stagedDue c.mtxNext p with
  | none => s
  | some m =>
    let st : ChainState := match c.state with
      | .running => if m.lines = 0 then .running else .matrix
      | .matrix => if m.lines = 0 then .running else .matrix
      | x => x
    s.setChain ch { c with mtx := m, mtxNext := none, state := st, scan := [], scanNext := [], prev := none, sending := none }

/-- Zone configurations take effect (R349). A loop that named the zone with its chain before names it no more when that changes
(R344). -/
def State.takeZone (s : State) (n p : Nat) : State :=
  match stagedDue (s.zone n).cfgNext p with
  | some g => s.modZone n (fun z => { z with
      cfg := g, cfgNext := none, loopLevel := if z.cfg.enable && g.enable && g.chain == z.cfg.chain then z.loopLevel else none })
  | none => s

/-- A transfer goes onto the wires of a general master (R345, R431). -/
def State.launchI2c (s : State) (m : Nat) : State :=
  match (s.i2cM m).jobs with
  | .host w :: _ => s.emit (.i2c m w.toNat)
  | .sensor _ addr reg _ :: _ => s.emit (.sensorRead m addr reg)
  | [] => s

/-- A transfer starts on a master (R431): it waits for those that started before it. -/
def State.queueI2c (s : State) (m : Nat) (j : I2cJob) : State :=
  let x := s.i2cM m
  let s := s.setI2cM m { x with jobs := x.jobs ++ [j] }
  if x.jobs = [] then s.launchI2c m else s

/-- The transfer at work on a master ends, and the next one runs (R431). -/
def State.endI2c (s : State) (m : Nat) : State :=
  let x := s.i2cM m
  (s.setI2cM m { x with jobs := x.jobs.tail }).launchI2c m

/-- A sensor's readings under its configuration so far are of no use (R349): one that waits is not started. -/
def I2cM.drop (x : I2cM) (k : Nat) : I2cM :=
  let mark (j : I2cJob) : I2cJob := match j with
    | .sensor n a r old => .sensor n a r (old || n == k)
    | j => j
  let waits (j : I2cJob) : Bool := match j with
    | .sensor n _ _ _ => n ≠ k
    | _ => true
  { x with jobs := (x.jobs.take 1).map mark ++ x.jobs.tail.filter waits }

/-- The master on which a reading of sensor `k` runs, and whether it is of no use. -/
def State.readingOn (s : State) (k : Nat) : Option (Nat × Bool) :=
  ([0, 1].filterMap (fun m => match (s.i2cM m).jobs with
    | .sensor n _ _ stale :: _ => if n = k then some (m, stale) else none
    | _ => none)).head?

/-- A colour sensor's configuration takes effect and its reading starts (R345, R349), or waits for the transfers before it (R431). -/
def State.planSensor (s : State) (k p : Nat) : State :=
  let s := match stagedDue (s.colour k).next p with
    | some g => ((s.setI2cM 0 ((s.i2cM 0).drop k)).setI2cM 1 ((s.i2cM 1).drop k)).modColour k (fun c => { c with
        bus := g.getD 0 0xFF, addr := g.getD 1 0, reg := g.getD 2 0, bigEndian := g.getD 3 0 == 1, period := g.getD 4 1, next := none,
        lastDone := none, nacked := false, busy := false })
    | none => s
  let c := s.colour k
  if c.bus = 0xFF ∨ s.pairTick / 4000 % max 1 c.period ≠ 0 then s
  else (s.setColour k { c with busy := true }).queueI2c c.bus (.sensor k c.addr c.reg false)

/-- A chain at a planning tick (R338, R340). -/
def State.planChain (p : Nat) (s : State) (ch : Nat) : State :=
  let s := s.takeChain ch p
  if s.pairTick / 4000 % max 1 (s.chain ch).cfg.refresh ≠ 0 then s
  else
    let s := s.takeMatrix ch p
    match (s.chain ch).state with
    | .disabled => s.modChain ch (fun c => c.takeLevels p)
    | _ => if (s.chain ch).mtx.lines = 0 then s.startFrame ch p else s.startScan ch p

/-- The planning-tick work of LED drive (R338, R340, R343, R345, R349). -/
def State.planLed (s : State) (p : Nat) : State :=
  let s := zoneList.foldl (fun s n => s.takeZone n p) s
  let s := (List.range 8).foldl (State.planChain p) s
  (List.range 8).foldl (fun s k => s.planSensor k p) s

/-! Events. -/

/-- The index of the first bit in which two frames differ (R337, R339): levels in bit order, bit 15 first. -/
def firstDiff : List Nat → List Nat → Nat → Option Nat
  | x :: xs, y :: ys, i =>
    if x = y then firstDiff xs ys (i + 16) else some (i + 15 - Nat.log2 (x ^^^ y))
  | x :: _, [], i => if x = 0 then none else some i
  | [], y :: _, i => if y = 0 then none else some i
  | [], [], _ => none

/-- Change the levels that LED_MATRIX drives on the GPIO pins (R340): EN and the line address. -/
def State.matrixPins (s : State) (m : MatrixCfg) (en : Bool) (line : Nat) : State :=
  let put (v : BitVec 32) (pin : Nat) (b : Bool) : BitVec 32 := if b then v ||| BitVec.twoPow 32 pin else v &&& ~~~(BitVec.twoPow 32 pin)
  s.modGpio (fun g =>
    let v := (List.range 5).foldl (fun v i => put v (m.addrGpio + i) (bit line i)) g.driven
    { g with driven := put v m.enGpio (en != m.enLow) })

/-- A mismatched frame or slot (R339): after MISMATCH_N in a row the chain enters FAULT, in which EN is inactive (R340). -/
def State.ledMismatch (s : State) (ch at_ : Nat) : State :=
  let c := s.chain ch
  let c := { c with row := c.row + 1, mismatch := satAdd 16 c.mismatch 1 }
  let s := s.setChain ch c
  if c.state = .fault ∨ c.row < c.cfg.mismatchN then s
  else
    let s := s.setChain ch { c with state := .fault }
    let s := if c.mtx.lines = 0 then s else s.matrixPins c.mtx false (c.slot - 1)
    s.raise 0x0C01 ch
      (leBytes 4 c.checked ++ leBytes 2 at_ ++ [c.cfg.mismatchN, b2n c.cfg.safeHold] ++ s.lineBytes ++ [0, 0])

/-- The return check of a frame or slot (R339, R340). -/
def State.checkReturn (s : State) (ch : Nat) (before : Option (List Nat)) (returned : List Nat) : State :=
  match before with
  | none => s
  | some old =>
    if !(s.chain ch).cfg.retCheck || !s.ledDriven then s
    else
      let s := s.modChain ch (fun c => { c with checked := wrapAdd 32 c.checked 1 })
      match firstDiff old returned 0 with
      | some i => s.ledMismatch ch i
      | none => s.modChain ch (fun c => { c with row := 0 })

/-- LED_FRAME_DONE (R337, R339, R344): the latch pulse of a frame ends, or the shifting of a matrix slot; `returned` is what
LED_RET gave, as levels in bit order. -/
def execLedFrameDone (ch : Fin 8) (returned : List Nat) (s : State) : Host.Outcome State Fault Refusal :=
  let c := s.chain ch.val
  match c.sending with
  | none => .next s
  | some out =>
    if s.tick < c.sendEnd then .next s else
    let s := s.setChain ch.val { c with sending := none, prev := some out, frames := if c.mtx.lines = 0 then wrapAdd 32 c.frames 1 else c.frames }
    let s := (s.chainZones ch.val).foldl (fun s n =>
      s.modZone n (fun z => if z.on && z.raisedAt.isNone then { z with raisedAt := some s.tick } else z)) s
    .next (s.checkReturn ch.val c.prev returned)

/-- MATRIX_SLOT_START (R340): slot *j* of a scan starts, T_L ticks after the one before. -/
def execMatrixSlotStart (ch : Fin 8) (s : State) : Host.Outcome State Fault Refusal :=
  let c := s.chain ch.val
  if c.mtx.lines = 0 ∨ c.state = .disabled ∨ c.mtx.lines ≤ c.slot ∨ s.tick ≠ c.scanAt + c.slot * slotTicks c.cfg c.mtx ∨ c.scan = []
      ∨ c.stopped = true then .next s
  else
    let j := c.slot
    let zero := List.replicate (c.cfg.ndrv * 16) 0
    let data := if j + 1 < c.mtx.lines then c.scan.getD (j + 1) zero else c.scanNext.getD 0 zero
    let s := s.setChain ch.val { c with
      slot := j + 1, slotAt := some s.tick, frames := wrapAdd 32 c.frames 1, sending := some (if c.state = .fault then zero else data),
      sendEnd := s.tick + c.mtx.blank + c.cfg.ndrv * 256 * c.cfg.clkDiv }
    .next (s.matrixPins c.mtx false j)

/-- BLANK ticks after the start of a matrix slot EN goes active and the data of the next line begins to shift (R340); in FAULT EN
stays inactive. -/
def State.matrixEnable (s : State) (ch : Nat) : State :=
  let c := s.chain ch
  match c.slotAt with
  | none => s
  | some t =>
    if s.tick < t + c.mtx.blank then s
    else
      let s := s.setChain ch { c with slotAt := none }
      let s := if c.state = .matrix then s.matrixPins c.mtx true (c.slot - 1) else s
      match c.sending with
      | some levels => if s.ledDriven && !c.stopped then s.emit (.led ch levels) else s
      | none => s

/-- A reading of sensor `k` waits on a master. -/
def I2cM.waitsFor (x : I2cM) (k : Nat) : Bool := x.jobs.any (fun j => match j with
  | .sensor n _ _ stale => n == k && !stale
  | _ => false)

/-- COLOUR_SENSOR_READ_DONE (R345, R431): the reading of sensor `k` that runs on a master ends. -/
def execColourSensorReadDone (k : Fin 8) (bytes : List Byte) (nack : Bool) (s : State) : Host.Outcome State Fault Refusal :=
  let c := s.colour k.val
  match s.readingOn k.val with
  | none => .next s
  | some (m, stale) =>
  let s := s.endI2c m
  let busy := (s.i2cM m).waitsFor k.val
  if stale then .next s
  else if nack then .next (s.setColour k.val { c with busy := busy, nacked := true, nacks := satAdd 16 c.nacks 1 })
  else
    let two (i : Nat) : Nat := if c.bigEndian then u8 bytes (2 * i) * 256 + u8 bytes (2 * i + 1) else u16 bytes (2 * i)
    .next (s.setColour k.val { c with busy := busy, nacked := false, comps := (List.range 4).map two, lastDone := some (s.pairTick / 4000) })

/-! Commands (R346 to R349). -/

/-- Some zone names a chain. -/
def State.zoneNames (s : State) (ch : Nat) : Bool := zoneList.any (fun n => (s.zone n).cfgComing.enable && (s.zone n).cfgComing.chain == ch)

/-- A zone or a loop names a channel of a chain at or beyond `n` (R346). -/
def State.namedBeyond (s : State) (ch n : Nat) : Bool :=
  zoneList.any (fun k => let z := (s.zone k).cfgComing; z.enable && z.chain == ch && z.count ≠ 0 && decide (n < z.first + z.count))
    || loopList.any (fun k => let c := (s.loop k).cfgComing
        c.outKind == 2 && c.outIndex == ch && decide (c.outSub < 0x8000) && decide (n ≤ c.outSub))

/-- LED_CHAIN's parameters (R346). -/
def parseChain (p : List Byte) : ChainCfg :=
  { enable := bit (u8 p 9) 0, retCheck := bit (u8 p 9) 1, safeHold := bit (u8 p 9) 2, ndrv := u8 p 10, mismatchN := u8 p 11, clkDiv := u16 p 12,
    refresh := u16 p 14, latchSu := u8 p 16, latchW := u8 p 17 }

/-- The ranges of LED_CHAIN (R346). -/
def chainBad (p : List Byte) : Bool :=
  let c := parseChain p
  decide (8 ≤ u8 p 8) || decide (8 ≤ u8 p 9) || c.ndrv == 0 || decide (64 < c.ndrv) || c.mismatchN == 0 || c.clkDiv % 2 ≠ 0
    || decide (c.clkDiv < 4) || decide (510 < c.clkDiv) || c.refresh == 0 || decide (4096 < c.refresh) || c.latchSu == 0 || c.latchW == 0

/-- The timing of a chain fits its mode (R338, R340). -/
def chainFits (c : ChainCfg) (m : MatrixCfg) : Bool :=
  if m.lines = 0 then decide (c.frameTicks ≤ c.refresh * 4000 - 4) else matrixFits c m

/-- The effect of LED_CHAIN (R338, R346). -/
def effLedChain : Effect := fun c s =>
  let p := c.packet
  let g := parseChain p
  if chainBad p then refuse s
  else
    let x := s.chain (u8 p 8)
    if chainFits g x.mtxComing = false then refuse s
    else if x.cfgComing.ndrv ≠ g.ndrv ∧ s.namedBeyond (u8 p 8) (g.ndrv * 16 * max 1 x.mtxComing.lines) = true then finish s Status.busy
    else good (s.modChain (u8 p 8) (fun x => { x with cfgNext := some ⟨g, s.tick⟩ }))

/-- LED_CHAIN (R346). -/
def execLedChain (r : Fin 4) (s : State) : Host.Outcome State Fault Refusal :=
  .next (startCommand 0x0C01 r.val (.ok []) effLedChain s)

/-- LED_MATRIX's parameters (R347). -/
def parseMatrix (p : List Byte) : MatrixCfg :=
  { lines := u8 p 9, addrGpio := u8 p 10, enGpio := u8 p 11, enLow := bit (u8 p 12) 0, blank := u16 p 14 }

/-- The effect of LED_MATRIX (R340, R347). -/
def effLedMatrix : Effect := fun c s =>
  let p := c.packet
  let m := parseMatrix p
  if 8 ≤ u8 p 8 ∨ m.lines = 1 ∨ 32 < m.lines ∨ 26 < m.addrGpio ∨ 31 < m.enGpio ∨ 2 ≤ u8 p 12 ∨ u8 p 13 ≠ 0
      ∨ (m.addrGpio ≤ m.enGpio ∧ m.enGpio < m.addrGpio + 5) then refuse s
  else
    let x := s.chain (u8 p 8)
    if m.lines ≠ 0 ∧ matrixFits x.cfgComing m = false then refuse s
    else if s.zoneNames (u8 p 8) then finish s Status.busy
    else good (s.modChain (u8 p 8) (fun x => { x with mtxNext := some ⟨m, s.tick⟩ }))

/-- LED_MATRIX (R347). -/
def execLedMatrix (r : Fin 4) (s : State) : Host.Outcome State Fault Refusal :=
  .next (startCommand 0x0C02 r.val (.ok []) effLedMatrix s)

/-- A loop drives a channel of a chain (R341, R348). -/
def State.loopDrives (s : State) (ch first n : Nat) : Bool :=
  loopList.any (fun k => let c := (s.loop k).cfgComing
    c.outKind == 2 && c.outIndex == ch && decide (first ≤ c.outSub) && decide (c.outSub < first + n))

/-- Store the levels of LED_LEVELS for the next frame (R348). -/
def State.stageLevels (s : State) (ch first n : Nat) (b : List Byte) : State :=
  s.modChain ch (fun x => { x with levelsNext := x.levelsNext ++ [⟨(List.range n).map (fun i => (first + i, u16 b (2 * i))), s.tick⟩] })

/-- The effect of LED_LEVELS (R339, R348). -/
def effLedLevels : Effect := fun c s =>
  let p := c.packet
  let ch := u8 p 8
  let first := u16 p 10
  let n := u16 p 12
  let inline_ := u64 p 16 == 0
  if 8 ≤ ch ∨ n = 0 ∨ 4096 < n ∨ u64 p 16 % 2 ≠ 0 ∨ (inline_ = true ∧ 16 < n)
      ∨ zeroRange p (if inline_ then 24 + 2 * n else 24) 56 = false then
    refuse s
  else if (s.chain ch).state = .fault then finish s Status.chainFault
  else if (s.chain ch).channels < first + n then refuse s
  else if s.loopDrives ch first n then finish s Status.busy
  else if inline_ then good (s.stageLevels ch first n (p.drop 24))
  else withHost c s (fun b => good (s.stageLevels ch first n b))

/-- LED_LEVELS (R348). -/
def execLedLevels (r : Fin 4) (d : HostRead) (s : State) : Host.Outcome State Fault Refusal :=
  .next (startCommand 0x0C03 r.val d effLedLevels s)

/-- LED_ZONES' parameters, KIND 0 (R349). -/
def parseZone (p : List Byte) : ZoneCfg :=
  { enable := bit (u8 p 11) 0, chain := u8 p 10, gate := bit (u8 p 11) 1, fwd := bit (u8 p 11) 2, rev := bit (u8 p 11) 3, haltOff := bit (u8 p 11) 4,
    first := u16 p 12, count := u16 p 14, colLo := u32 p 16, colHi := u32 p 20, planes := u64 p 24, near := u32 p 32, far := u32 p 36,
    pre := u16 p 40, post := u16 p 42, level := u16 p 44, levelIdle := u16 p 46, covMin := u16 p 48 }

/-- A zone overlaps another one, or lies on a matrix chain (R349). -/
def State.zoneClash (s : State) (n : Nat) (z : ZoneCfg) : Bool :=
  z.enable && ((s.chain z.chain).mtxComing.lines ≠ 0
    || zoneList.any (fun k => let o := (s.zone k).cfgComing
        k ≠ n && o.enable && o.chain == z.chain && decide (z.first < o.first + o.count) && decide (o.first < z.first + z.count)))

/-- The effect of LED_ZONES, KIND 0 (R342, R349): coverage of what was formed before its commit is unknown. -/
def zoneStart (p : List Byte) (s : State) : State × Reply :=
  let z := parseZone p
  if 64 ≤ u8 p 9 ∨ 8 ≤ z.chain ∨ 32 ≤ u8 p 11 ∨ z.colHi < z.colLo ∨ z.far ≤ z.near ∨ z.covMin = 0
      ∨ zeroRange p 50 64 = false then refuse s
  else
    let adv := if s.fir.floor = 0 then 0 else s.zoneAdv z (s.chain z.chain).cfgComing.refresh
    if 120000 < z.far + z.post + adv ∨ s.zoneClash (u8 p 9) z = true then refuse s
    else good (s.modZone (u8 p 9) (fun x => { x with cfgNext := some ⟨z, s.tick⟩, cover := {}, knownFrom := s.mal.formedTo }))

/-- The effect of LED_ZONES (R349). -/
def effLedZones : Effect := fun c s =>
  let p := c.packet
  match u8 p 8 with
  | 0 => zoneStart p s
  | 1 =>
    if 8 ≤ u8 p 9 ∨ (1 < u8 p 10 ∧ u8 p 10 ≠ 0xFF) ∨ 128 ≤ u8 p 11 ∨ 2 ≤ u8 p 13 ∨ u16 p 14 = 0 ∨ 4096 < u16 p 14
        ∨ zeroRange p 16 64 = false then
      refuse s
    else good (s.modColour (u8 p 9) (fun x => { x with next := some ⟨[u8 p 10, u8 p 11, u8 p 12, u8 p 13, u16 p 14], s.tick⟩ }))
  | _ => refuse s

/-- LED_ZONES (R349). -/
def execLedZones (r : Fin 4) (s : State) : Host.Outcome State Fault Refusal :=
  .next (startCommand 0x0C04 r.val (.ok []) effLedZones s)

end Sys2Proof.Machine
end

