-- ==== Sys2Proof/Machine/Twin.lean ====
section
/-! DEFINITION. Twin operation (chapter 17): the tap paths, roles, the records of the Chezatin link, self-diagnosis, handover
and take-back, the fire permit's inputs and the commands. The state copy is in Copy.lean. -/
namespace Sys2Proof.Machine

/-- The TWIN_PREF strap (R376, R405). -/
def State.pref (s : State) : Bool := bit s.sys.straps 0

/-! Taps (R377). -/

/-- The CRC-8 of a tap's bits [23:0] (R377). -/
def tapCrc (low : Nat) : Nat := crc8 (leBytes 3 low)

/-- The tap word of the present tick (R377); RELINQUISH is 1 while this lead relinquishes. -/
def State.tapWord (s : State) : Nat :=
  let t := s.twn
  let low := t.role.num + 8 * b2n s.pref + 16 * b2n t.outAt.isSome + 32 * b2n t.healthy + 64 * b2n t.inStep
    + 2 ^ 8 * (t.epoch % 256) + 2 ^ 16 * (t.tapSeq % 256)
  low + 2 ^ 24 * tapCrc low

/-- A tap whose CRC is bad (R394). -/
def spoilTap (bad : Bool) (w : Nat) : Nat := if bad then w % 2 ^ 24 + 2 ^ 24 * (255 - w / 2 ^ 24) else w

/-- Send a tap on each path that runs (R377): `badIn` and `badPin` spoil it (R394). -/
def State.sendTap (s : State) (badIn badPin : Bool) : State :=
  let w := s.tapWord
  let s := (s.emit (.tapPin (spoilTap badPin w))).sendTwin (.tap (spoilTap badIn w))
  s.modTwn (fun t => { t with tapSeq := wrapAdd 8 t.tapSeq 1 })

/-- Distinct lanes that reported LEAD_MISSING within the last 1,024 press lines (R386). -/
def State.missingLanes (s : State) : Nat :=
  (((s.twn.leadMissing.filter (fun x => decide (s.fir.lastLine.getD 0 ≤ x.2 + 1024))).map (fun x => x.1)).eraseDups).length

/-- Lines that MISMATCH and SHADOW_MISSING reports named within the last 1,024 press lines (R387). -/
def State.reportedLines (s : State) : List Nat :=
  s.twn.mismatchLines.filter (fun l => decide (s.fir.lastLine.getD 0 ≤ l + 1024))

/-- What a shadow's HEALTH record says (R374, R381, R383). -/
def State.ownHealth (s : State) : Health :=
  let up := (List.range 64).filter (fun l => (s.lane l).state == .up)
  { mismatch := s.twn.reports, missing := s.reportedLines.length, leadMissing := s.missingLanes,
    lanesUp := maskOf 64 (fun l => up.contains l), pathsLost := b2n (!s.twn.inband.ok) + 2 * b2n (!s.twn.pin.ok),
    copyFaults := s.twn.fixes + s.twn.missed + b2n (!s.twn.digestsOk), bounds := up.map (fun l => (s.lane l).bound),
    ctxs := (s.pgq.ctxs.entries.filter (fun e => e.2.state == .verified)).map
      (fun e => (e.1, genNumber e.2.gen, s.crcOf e.2.gen, e.2.digest)), voter := s.twn.voterOut, withdrawals := s.twn.withdrawals }

/-- The four taps that the tests TAP_INBAND and TAP_PIN spoil (R394). -/
def State.spoils (s : State) (k : Nat) : Bool :=
  match s.twn.proof with
  | some p => p.test == k && decide (p.count < 4)
  | none => false

/-- A tap period of a tap test passes: it fails when 24 have passed without the path reported lost and restored (R394). -/
def State.tapPeriod (s : State) (k : Nat) : State :=
  match s.twn.proof with
  | none => s
  | some p =>
    if p.test ≠ k then s
    else if 24 ≤ p.count then s.proofResult false p.count
    else s.modTwn (fun t => { t with proof := some { p with count := p.count + 1 } })

/-- TAP_SEND (R377): on multiples of 2,000 pair ticks, from FW_AUTH on; a shadow adds its HEALTH record (R374). -/
def execTapSend (s : State) : Host.Outcome State Fault Refusal :=
  if !s.running || !s.hif.fwAuth || s.sys.imageRun == 2 || s.pairTick % 2000 ≠ 0 || s.twn.lastTap == some s.pairTick then .next s
  else
    let b1 := s.spoils 1
    let b2 := s.spoils 2
    let s := ((s.tapPeriod 1).tapPeriod 2).sendTap b1 b2
    let s := if s.twn.role = .shadow then s.sendTwin (.health s.ownHealth) else s
    .next (s.modTwn (fun t => { t with lastTap := some s.pairTick }))

/-! Roles (R375, R376). -/

/-- The partner is a healthy shadow in step (R387, R396). -/
def State.partnerFit (s : State) : Bool :=
  bit s.twn.partnerTap 5 && s.twn.partnerHealthy && bit s.twn.partnerTap 6

/-- The partner is a SHADOW that is heard (R396). -/
def State.hasShadow (s : State) : Bool := s.twn.partner == 2 && !s.twn.absent

/-- Write RELINQUISH (R387, R398). -/
def State.reportRelinquish (s : State) (cause : Nat) (gone : Bool) : State :=
  s.raise 0x0E03 0 ([cause, b2n gone, s.twn.partnerTap % 128, 0] ++ leBytes 4 s.sys.failed ++ s.lineBytes ++ [0, 0])

/-- A lead acts on a fault (R387): it relinquishes to an eligible partner, or retains the lead. -/
def State.relinquish (s : State) (cause : Nat) : State :=
  if s.twn.outAt.isSome then s.reportRelinquish cause true
  else if s.hasShadow && s.partnerFit && (s.twn.inband.ok || s.twn.pin.ok) then
    let s := s.modTwn (fun t => { t with outAt := some (s.tick + 2000) })
    ((s.sendTwin (.relinquish cause)).sendTap false false).reportRelinquish cause true
  else s.reportRelinquish cause false

/-- The level of ROLE_LEAD (R375): low also in reset and once DORMANT's outputs are off (R417). -/
def State.roleLead (s : State) : Bool := s.twn.role.acting && s.running

/-- ROLE_LEAD takes the level of a state, having had another (R375). -/
def State.tellRole (s : State) (before : Bool) : State := if s.roleLead = before then s else s.emit (.roleLead s.roleLead)

/-- The PWM outputs under a new role (R287): a device that begins to drive them carries on the period in its own state, and one that
ceases to takes its pulses off. -/
def State.switchPulses (s : State) (before : Bool) : State :=
  if s.axisDriven = before then s
  else if before then axisList.foldl (fun s x => if (s.axis x).pulses.isEmpty then s else s.emit (.pwm x [])) s
  else s.takePulses

/-- A role change of another cause ends a TWN_HANDOVER that waits for H: with NO_PARTNER when the device is alone from now on, else
with WRONG_ROLE (log entry 160). -/
def State.dropExchange (s : State) (new : Role) : State :=
  match s.twn.exchange with
  | some x => (s.modTwn (fun t => { t with exchange := none })).completeOpt x.cmd (if new = .alone then Status.noPartner else Status.wrongRole) []
  | none => s

/-- A device that is alone counts its own ticks (R371). -/
def Twn.aloneCount (t : Twn) : Twn := if t.role = .alone then { t with offTicks := 0, offTaps := 0, offFixed := false } else t

/-- Take another role (R375): ROLE_CHANGE is written in its tick, and its outputs change in it. A lead with a fault acts on it at
once. -/
def State.setRole (s : State) (new : Role) (cause : Nat) : State :=
  let old := s.twn.role
  let level := s.roleLead
  let driven := s.axisDriven
  let s := if new = .lead ∨ s.twn.proof.isNone then s else s.proofEnd Status.noPartner
  let s := s.dropExchange new
  let s := s.modTwn (fun t => ({ t with
    role := new, outAt := none, predTick := none, predFlags := none, cleanAt := none, voterOut := none, lone := false,
    inStep := t.inStep && (new == .lead || new == .shadow), votedAt := s.tick } : Twn).aloneCount)
  let s := (s.tellRole level).switchPulses driven
  let s := s.raise 0x0E01 0 ([new.num, old.num, cause, s.twn.epoch, b2n s.twn.inStep, 0, 0, 0] ++ s.lineBytes ++ [0, 0])
  if new = .lead ∧ s.twn.healthy = false then s.relinquish s.twn.faultCause else s

/-- Fix OFFSET as the link measured it (R371, R373, R415). -/
def Twn.fixOffset (t : Twn) : Twn :=
  { t with offTicks := t.linkOffTicks, offTaps := t.linkOffTaps, offFixed := true }

/-- Enter SHADOW under a lead with epoch `e` (R376, R415): IN_STEP is 0 until the copy matches (R385). -/
def State.enterShadow (s : State) (e cause : Nat) : State :=
  let s := s.modTwn (fun t => { t with epoch := e, inStep := false, frames := false, digestsOk := false, digestBad := [],
                                       copyAt := none, missedRow := 0, offFixed := false, mirrored := [] })
  let s := if s.twn.link = .up then s.modTwn Twn.fixOffset else s
  ({ s with copyOwn := none, copySince := [] }).setRole .shadow cause

/-- At a takeover each count continues from the lead's (R384). -/
def State.takeCounts (s : State) : State :=
  (List.range 8).foldl (fun s n =>
    s.modChan n (fun c => if c.copyDiff = 0 then c else
      { c with count := c.count + c.copyDiff, eh := c.eh + c.copyDiff, prev := c.prev + c.copyDiff,
               planCount := c.planCount + c.copyDiff, iRef := c.iRef.map (fun i => i + c.copyDiff),
               lastEdge := c.lastEdge.map (fun x => (x.1, x.2 + c.copyDiff)),
               refEdge := c.refEdge.map (fun x => (x.1, x.2 + c.copyDiff)), copyDiff := 0 })) s

/-- A shadow becomes LEAD with ROLE_EPOCH + 1 (R376, R379): with IN_STEP = 0 it clears ARM. -/
def State.takeOver (s : State) (cause : Nat) : State :=
  let s := if s.twn.inStep then s else s.setArm false
  let s := s.takeCounts.modTwn (fun t => { t with epoch := wrapAdd 8 t.epoch 1, mirrored := t.mirrored.filter (fun m => m.commit.isSome) })
  s.setRole .lead cause

/-- ROLE_EPOCH `a` is newer than `b`, by 8-bit signed difference (R198). -/
def epochNewer (a b : Nat) : Bool := decide (0 < toSigned 8 ((a + 256 - b % 256) % 256))

/-- The election window in ticks from FW_AUTH (R376): 300 ms with PREF = 1, else 600 ms. -/
def State.electionWindow (s : State) : Nat := if s.pref then 60000000 else 120000000

/-- A tap with a good CRC that these terms pick arrives in this tick (R20, R377). -/
def State.tapArrives (s : State) (p : Bool → Nat → Bool) : Bool :=
  s.hif.fwAuth && s.arrives (fun i => match i with
    | .tapReceived pin word => (pin || s.twn.link == .up) && tapCrc (word.toNat % 2 ^ 24) == word.toNat / 2 ^ 24 && p pin word.toNat
    | _ => false)

/-- ELECTION_TIMEOUT (R376): the window has ended without a qualifying tap. -/
def execElectionTimeout (s : State) : Host.Outcome State Fault Refusal :=
  match s.sys.fwAuthAt with
  | none => .next s
  | some t =>
    let barred := if s.pref then s.twn.heardFit || s.tapArrives (fun _ w => w % 8 == 1 || bit w 3)
      else s.twn.heardAny || s.tapArrives (fun _ _ => true)
    if s.twn.role ≠ .elect || !s.running || s.sys.imageRun == 2 || s.tick < t + s.electionWindow || barred then .next s
    else
      let s := s.modTwn (fun t => { t with epoch := match t.partnerEpoch with | some e => wrapAdd 8 e 1 | none => 1 })
      .next (s.setRole .lead 0)

/-- Change a tap path. -/
def State.modPath (s : State) (pin : Bool) (f : TapPath → TapPath) : State :=
  s.modTwn (fun t => if pin then { t with pin := f t.pin } else { t with inband := f t.inband })

/-- A tap path. -/
def State.path (s : State) (pin : Bool) : TapPath := if pin then s.twn.pin else s.twn.inband

/-- PARTNER_ABSENT: both paths are lost (R378). -/
def State.markAbsent (s : State) : State := s.modTwn (fun t => { t with absent := !(t.inband.ok || t.pin.ok) })

/-- Write TAP_DEGRADED for a path (R378, R398). -/
def State.reportPath (s : State) (pin lost : Bool) (since : Nat) : State :=
  s.raise 0x0E02 (b2n pin) ([b2n lost, s.twn.partner, 0, 0] ++ leBytes 4 since ++ zeros 8)

/-- A valid tap on a path (R378): the sixteenth in a row restores a lost path. -/
def State.tapHeard (s : State) (pin : Bool) : State :=
  let p := s.path pin
  let since := s.tick - p.lastTap.getD s.tick
  let row := if p.ok then 0 else p.row + 1
  let back := !p.ok && decide (16 ≤ row)
  let s := s.modPath pin (fun p => { p with lastTap := some s.tick, ok := p.ok || back, row := if back then 0 else row })
  (if back then s.reportPath pin false since else s).markAbsent

/-- IN_STEP of a tap as its receiver counts it: a shadow that has not yet heard of a command committed without it still says 1 (R380). -/
def Twn.tapInStep (t : Twn) (w : Nat) : Bool := bit w 6 && !t.lone

/-- What a valid tap says of the partner (R376, R377, R385). -/
def State.notePartner (s : State) (w : Nat) : State :=
  let inWindow := match s.sys.fwAuthAt with | some t => decide (s.tick ≤ t + s.electionWindow) | none => false
  let s := if s.twn.proof.isSome && w % 8 ≠ 2 then s.proofEnd Status.noPartner else s
  s.modTwn (fun t => { t with
    partner := w % 8, partnerTap := w % 64 + 64 * b2n (t.tapInStep w), lone := t.lone && bit w 6,
    partnerPref := bit w 3, partnerEpoch := some (bits w 15 8),
    heardAny := t.heardAny || inWindow, heardFit := t.heardFit || (inWindow && (w % 8 == 1 || bit w 3)),
    inStep := if t.role = .lead then w % 8 == 2 && t.tapInStep w else t.inStep })

/-- The role changes that a valid tap causes (R376, R387). A lead that has relinquished goes on to OUT. -/
def State.tapRole (s : State) (w : Nat) : State :=
  let e := bits w 15 8
  match s.twn.role with
  | .elect => if w % 8 = 1 then s.enterShadow e 0 else s
  | .lead =>
    if w % 8 = 1 && s.twn.outAt.isNone && (epochNewer e s.twn.epoch || (e == s.twn.epoch && !s.pref && bit w 3)) then s.enterShadow e 5 else s
  | .shadow => if bit w 4 then s.takeOver 2 else if w % 8 = 1 then s.modTwn (fun t => { t with epoch := e }) else s
  | .alone => s
  | .out => s

/-- TAP_RECEIVED (R377, R378): `pin` says on which path; a tap with a bad CRC is discarded and counted. -/
def execTapReceived (pin : Bool) (word : BitVec 32) (s : State) : Host.Outcome State Fault Refusal :=
  let w := word.toNat
  if !s.running || !s.hif.fwAuth || (!pin && (s.twn.link != .up)) then .next s
  else if tapCrc (w % 2 ^ 24) ≠ w / 2 ^ 24 then
    .next ((s.modTwn (fun t => { t with badTaps := satAdd 16 t.badTaps 1 })).modPath pin (fun p => { p with row := 0 }))
  else 
    let s := (s.notePartner w).tapHeard pin
    .next (if s.sys.imageRun = 2 then s else s.tapRole w)

/-- A RELINQUISH of the lead, as a record or in a tap, arrives in this tick (R20, R387). -/
def State.relinquishArrives (s : State) : Bool :=
  s.tapArrives (fun _ w => bit w 4) || (s.running && s.twn.link == .up && s.arrives (fun i => match i with
    | .relinquishReceived => true
    | _ => false))

/-- Both paths of a device are lost (R378, R379); a RELINQUISH of the same tick wins (R387). -/
def State.bothLost (s : State) : State :=
  match s.twn.role with
  | .shadow => if s.relinquishArrives then s else if s.twn.healthy then s.takeOver 1 else s.modTwn (fun t => { t with frames := false })
  | .lead => s.proofEnd Status.noPartner
  | _ => s

/-- TAP_PATH_LOST (R378): 6,000 ticks have passed since the path's last valid tap, and none arrives in this one (R20). -/
def execTapPathLost (pin : Bool) (s : State) : Host.Outcome State Fault Refusal :=
  let p := s.path pin
  match p.lastTap with
  | none => .next s
  | some t =>
    if !s.running || !p.ok || s.tick < t + 6000 || s.tapArrives (fun q _ => q == pin) then .next s
    else
      let s := (s.modPath pin (fun p => { p with ok := false, row := 0 })).reportPath pin true (s.tick - t)
      let s := s.markAbsent
      .next (if s.twn.absent then s.bothLost else s)

/-! The Chezatin link (R372, R373). -/

/-- A sync header arrives (R179): 64 valid ones in a row give block lock, and 16 invalid ones within 64 blocks take it. -/
def BlockLock.header (b : BlockLock) (valid : Bool) : BlockLock :=
  if !b.locked then
    let n := if valid then b.run + 1 else 0
    if n = 64 then ({ locked := true } : BlockLock) else { b with run := n }
  else
    let win := (valid :: b.win).take 64
    if 16 ≤ (win.filter (· == false)).length then ({ locked := false } : BlockLock) else { b with win := win }

/-- All four Chezatin lanes hold block lock. -/
def Twn.allLocked (t : Twn) : Bool := [0, 1, 2, 3].all (fun k => (t.locks.get {} k).locked)

/-- A sync header of a Chezatin lane (R372, R373): lock on the last lane moves the link on from TRAIN, and its loss on any returns it
there. -/
def Twn.header (lane : Nat) (t : Twn) (valid : Bool) : Twn :=
  let t := { t with locks := t.locks.set {} lane ((t.locks.get ({} : BlockLock) lane).header valid) }
  { t with link := if t.allLocked then (if t.link = .train then .align else t.link) else .train }

/-- CHEZATIN_BLOCK_LOCK (R179, R372, R373): sync headers of a lane in the order of their arrival; true: (0, 1) or (1, 0). -/
def execChezatinBlockLock (lane : Fin 4) (headers : List Bool) (s : State) : Host.Outcome State Fault Refusal :=
  if s.twn.link = .off then .next s
  else .next (s.modTwn (fun t => headers.foldl (Twn.header lane.val) t))

/-- A delay measurement of the link is accepted or rejected under R187 (R373). -/
def takeDelay (ds : List Int) (m : Nat × Nat) : List Int :=
  let d : Int := (m.1 : Int) - m.2
  if delayRejected ds d then ds else (d :: ds).take 16

/-- The AM and the TURN block that a Chezatin lane sends (R372): TURN and ECHO_SEQ are free, for what they measure is the receiver's
(log entry 159). -/
def State.linkAm (s : State) (lane : Nat) : List Byte :=
  [0x4B, lane, s.twn.epoch, s.gng.dev, s.twn.linkSeq, 0x53, 0x4E, 0x52] ++ leBytes 5 s.draw ++ zeros 3

/-- AMs sent by a tick count from the start of the link: one every 16,384 block periods of 2.56 ns (R178, R372). -/
def amsSent (ticks : Nat) : Nat := ticks * 1000 / 8388608

/-- The four lanes of the Chezatin link send an AM and a TURN block every 16,384 block periods (R372). -/
def State.tickLink (s : State) : State :=
  match s.twn.linkAt with
  | none => s
  | some t =>
    if s.tick ≤ t || amsSent (s.tick - t) == amsSent (s.tick - 1 - t) then s
    else
      let s := (List.range 4).foldl (fun s k => (s.emit (.linkAm k (s.linkAm k))).drawn) s
      s.modTwn (fun w => { w with linkSeq := wrapAdd 8 w.linkSeq 1 })

/-- An AM of the Chezatin link is laid out as R372 has it. -/
def linkAmOk (am : List Byte) : Bool :=
  am.length == 8 && u8 am 0 == 0x4B && decide (u8 am 1 < 4) && (am.drop 5) == [0x53, 0x4E, 0x52]

/-- The lanes are mapped by the lane fields of their AMs, and lie within 64 blocks of each other (R372): `ams` holds the last AM of each
physical lane and the block period of its arrival. -/
def deskewed (ams : List (List Byte × Nat)) : Option (List Nat) :=
  let lanes := ams.map (fun a => u8 a.1 1)
  if ams.length == 4 && ams.all (fun a => linkAmOk a.1) && decide lanes.Nodup && ams.all (fun a => ams.all (fun b => decide (a.2 ≤ b.2 + 64))) then
    some lanes
  else none

/-- CHEZATIN_LINK_UP (R187, R372, R373): `ams` are the AMs of the lanes, which map and deskew them, and `turns` are the delay
measurements since ALIGN, RTT and TURN in UI. With 16 accepted the link is UP; they fix the one-way delay and, as measured beside it,
OFFSET. A shadow that waits for its pair count fixes it now (R415). -/
def execChezatinLinkUp (ams : List (List Byte × Nat)) (turns : List (Nat × Nat)) (offTicks : Int) (offTaps : Fin 24) (s : State) :
    Host.Outcome State Fault Refusal :=
  let ds := turns.foldl takeDelay []
  match deskewed ams with
  | none => .next s
  | some lanes =>
    if s.twn.link ≠ .align ∨ s.twn.allLocked = false ∨ ds.length < 16 then .next s
    else
      let s := s.modTwn (fun t => { t with link := .up, delays := ds, laneMap := lanes, linkOffTicks := offTicks, linkOffTaps := offTaps.val })
      .next (if s.twn.role = .shadow ∧ s.twn.offFixed = false then s.modTwn Twn.fixOffset else s)

/-! Records (R374, R380, R382). -/

/-- A record can arrive: the link is UP (R373). -/
def State.hears (s : State) : Bool := s.running && (s.twn.link == .up)

/-- A shadow triggers a line from a LINE record: its line, T_FIRE, PER and flags (R382). -/
def State.lineFromRecord (s : State) (b : List Byte) : State :=
  let line := u48 b 0
  let flags := u8 b 18
  let s := s.modFir (fun f =>
    { (if f.role = 2 then f.gongPass line (bit flags 5) (bit flags 4) else f) with
      nextLine := line, holdTick := if bit flags 6 then s.tick else f.holdTick })
  s.trigger line (i64 b 6) (u32 b 14) (bit flags 7) (bit flags 6) (bit flags 5) (bit flags 4)

/-- The device triggers lines from LINE records (R382): a shadow does, and for the 64 ticks that a record may be under way (R373) a lead
that an exchange has made (R389). -/
def State.takesLines (s : State) : Bool := s.twn.role == .shadow || (s.twn.role == .lead && decide (s.tick < s.twn.lateUntil))

/-- A LINE record arrives (R382, R389): a line already triggered is discarded and counted. -/
def State.takeLine (s : State) (bytes : List Byte) : State :=
  if !s.hears || !s.takesLines || !s.fir.paced then s
  else
    let s := { s with copySince := s.copySince ++ [(s.pairTick, TwinRec.line bytes)] }
    if u48 bytes 0 < s.fir.nextLine then s.modTwn (fun t => { t with lateLines := satAdd 12 t.lateLines 1 })
    else s.lineFromRecord bytes

/-- A LINE record for a shadow arrives in this tick. -/
def State.lineArrives (s : State) : Bool :=
  s.hears && s.arrives (fun i => match i with
    | .lineRecordRx _ => true
    | _ => false)

/-- 128 ticks after the predicted trigger the shadow triggers the line itself, with T(L) and PER as computed at the predicted
tick (R382); a LINE record that arrives in this tick wins (R20). -/
def State.testOwnLine (s : State) : State :=
  match s.twn.predTick with
  | none => s
  | some t =>
    let line := s.fir.nextLine
    if !s.running || !s.fir.paced || s.tick < t + 128 || s.lineArrives then s
    else match s.twn.predFlags with
      | some f => (s.modFir (fun x => { x with holdTick := if bit f 6 then s.tick else x.holdTick })).trigger line s.twn.predDue
          s.twn.predPer (bit f 7) (bit f 6) (bit f 5) (bit f 4)
      | none => s.trigger line s.twn.predDue s.twn.predPer false false (s.fir.cfg.scanning && line == s.fir.passStart)
          (s.lineReverse line)

/-- The inputs a lead sends (R374). -/
def State.inputs (s : State) : InputRec :=
  { counts := (List.range 8).map (fun n => (n, (s.chan n).count)),
    switches := maskOf 16 (fun w => (s.switchIn w).level), probes := s.enc.latched,
    adc := ((List.range 48).filter (fun n => (s.loop n).leadY.isSome)).map (fun n => (n, (s.loop n).leadY.getD none)),
    colours := ((List.range 8).filter (fun n => (s.colourValid n))).map (fun n => (n, (s.colour n).comps)) }

/-- A lead's INPUT record at the end of a planning tick and of each tick in which a loop of RATE −2 or −1 was evaluated (R374). -/
def State.sendInputs (s : State) : State :=
  let fast := (List.range 48).any (fun n => (s.loop n).cfg.enable && decide ((s.loop n).cfg.rate < 0) && (s.loop n).evalAt == some s.pairTick)
  if s.twn.role ≠ .lead || !(s.pairTick % 4000 == 0 || fast) then s
  else
    let s := s.sendTwin (.input s.inputs)
    let s := s.modEnc (fun e => { e with latched := [] })
    (List.range 48).foldl (fun s n => s.modLoop n (fun l => { l with leadY := none })) s

/-- A shadow takes the lead's inputs (R327, R374, R384). -/
def State.takeInputs (s : State) (r : InputRec) : State :=
  let s := r.counts.foldl (fun s x => s.modChan x.1 (fun c => { c with copyDiff := x.2 - c.count })) s
  let s := (List.range 16).foldl (fun s w =>
    s.modSwitchIn w (fun q => if q.level = bit r.switches w then q else { q with level := bit r.switches w })) s
  let s := r.probes.foldl (fun s x => s.modProbe x.1 (fun q => { q with armed := false, deadline := none })) s
  let s := r.adc.foldl (fun s x => s.modLoop x.1 (fun l => { l with leadY := some x.2 })) s
  (List.range 8).foldl (fun s k => s.modColour k (fun c => { c with lead := (r.colours.find? (fun x => x.1 == k)).map (fun x => x.2) })) s

/-- INPUT_RECORD_RX (R374, R384). -/
def execInputRecordRx (rec : InputRec) (s : State) : Host.Outcome State Fault Refusal :=
  if !s.hears || s.twn.role ≠ .shadow then .next s
  else .next (({ s with copySince := s.copySince ++ [(s.pairTick, TwinRec.input rec)] }).takeInputs rec)

/-- CHANGE_RECORD_RX (R380): a shadow stores the CHANGE and returns an ACK. -/
def execChangeRecordRx (tag : Nat) (packet : List Byte) (d : HostRead) (s : State) : Host.Outcome State Fault Refusal :=
  if !s.hears || s.twn.role ≠ .shadow then .next s
  else
    let m : Mirrored := { tag := tag, packet := pad 64 packet, host := d }
    .next ((s.modTwn (fun t => { t with mirrored := t.mirrored.filter (fun x => x.tag ≠ tag) ++ [m] })).sendTwin (.ack tag))

/-- The mirrored command of a lead with this tag. -/
def State.mirroring (s : State) (tag : Nat) : Option (Cmd × Nat × Option Nat) :=
  (s.hif.inflight.filterMap (fun c => match c.phase with
    | .mirroring t sent commit => if t = tag then some (c, sent, commit) else none
    | _ => none)).head?

/-- ACK_RECORD_RX (R380): the lead sends COMMIT naming pair tick T, its own tick + 128. -/
def execAckRecordRx (tag : Nat) (s : State) : Host.Outcome State Fault Refusal :=
  match s.mirroring tag with
  | some (c, sent, none) =>
    if !s.hears then .next s
    else
      let t := s.pairTick + 128
      .next ((s.setPhase c.id (.mirroring tag sent (some t))).sendTwin (.commit tag t))
  | _ => .next s

/-- COMMIT_RECORD_RX (R380): a shadow learns T. -/
def execCommitRecordRx (tag tick : Nat) (s : State) : Host.Outcome State Fault Refusal :=
  if !s.hears then .next s
  else .next (s.modTwn (fun t => { t with mirrored := t.mirrored.map (fun m => if m.tag = tag then { m with commit := some tick } else m) }))

/-! Health of the partner (R374, R387, R394). -/

/-- The lead's view of its partner falls to HEALTHY = 0 (R387): reports on 16 or more lines within 1,024 press lines. -/
def State.judgePartner (s : State) (lines : Nat) : State :=
  let s := if bit s.twn.partnerTap 6 || !s.twn.partnerHealthy then s.modTwn (fun t => { t with mismatchAt := some s.tick }) else s
  if s.twn.role = .lead ∧ bit s.twn.partnerTap 6 = true ∧ 16 ≤ lines then s.modTwn (fun t => { t with partnerHealthy := false }) else s

/-- What a shadow's voter made of the row that VOTER has reached (R394): it is compared with the table of R391. A withdrawal of the
shadow's own permit ends the test as failed. -/
def State.voterProof (s : State) (old h : Health) : State :=
  match s.twn.proof, h.voter with
  | some p, some v =>
    if h.withdrawals ≠ old.withdrawals then s.proofFail 0 p.count
    else if p.test ≠ 0 ∨ v.1 ≠ p.count then s
    else if v.2 = voteTable v.1 then s.proofCount 0 8 else s.proofResult false v.1
  | _, _ => s

/-- What a HEALTH record means for the proof test at work (R394). -/
def State.healthProof (s : State) (old h : Health) : State :=
  let s := s.voterProof old h
  let tap (s : State) (k : Nat) : State :=
    match s.twn.proof with
    | none => s
    | some p =>
      if p.test ≠ k then s
      else if bit h.pathsLost (k - 1) then s.modTwn (fun t => { t with proof := some { p with tapLost := true } })
      else if p.tapLost then s.proofResult true 0 else s
  let s := tap (tap s 1) 2
  let s := if h.copyFaults ≠ old.copyFaults then s.proofFail 3 (match s.twn.proof with | some p => p.count | none => 0) else s
  if h.mismatch ≠ old.mismatch then s.proofFail 4 (s.fir.lastLine.getD 0) else s

/-- HEALTH_RECORD_RX (R374). -/
def execHealthRecordRx (h : Health) (s : State) : Host.Outcome State Fault Refusal :=
  if !s.hears || s.twn.role ≠ .lead then .next s
  else
    let old := s.twn.health
    let s := s.modTwn (fun t => { t with health := h })
    let s := if h.mismatch ≠ old.mismatch then s.judgePartner (max h.missing s.reportedLines.length) else s
    .next (s.healthProof old h)

/-- PARTNER_HEALTH_RESTORE (R387): 10 s have passed without such reports. -/
def execPartnerHealthRestore (s : State) : Host.Outcome State Fault Refusal :=
  match s.twn.mismatchAt with
  | none => .next s
  | some t =>
    if s.twn.partnerHealthy || s.tick < t + 2000000000 then .next s
    else .next (s.modTwn (fun t => { t with partnerHealthy := true, mismatchAt := none, mismatchLines := [] }))

/-- Write CRC_COMPARE for a lane when its limit allows (R200); the limit and the counts run from the last record written. -/
def State.reportCompare (s : State) (lane : Nat) : State :=
  let l := s.lane lane
  let now := s.fir.lastLine.getD 0
  if !l.cmpRec.due now then s
  else
    let restarted := { l with cmpRec := { last := some now }, cmpSince := [0, 0, 0, 0], cmpKind := 0, cmpLine := 0 }
    let s := if s.writesEvent 0x0603 then s.setLane lane restarted else s
    s.raise 0x0603 lane ([l.cmpKind, 0] ++ leBytes 6 l.cmpLine ++ (l.cmpSince.map (leBytes 2)).flatten)

/-- CMP_REPORT (R199, R200): a hub's report is counted by KIND; MISMATCH and SHADOW_MISSING bear on the partner's health and
the proof test (R387, R394), LEAD_MISSING on the self-diagnosis (R386). -/
def execCmpReport (lane : Fin 64) (bytes : List Byte) (s : State) : Host.Outcome State Fault Refusal :=
  let l := s.lane lane.val
  let k := u8 bytes 1 % 8
  let line := u48 bytes 2
  if u8 bytes 0 ≠ 0x5A then .next (s.otherBlock lane.val (u8 bytes 0))
  else if !l.locked || !l.listens || k = 0 || 4 < k then .next s
  else
    let first := l.cmpSince.all (· == 0)
    let l := { l with cmp1 := satAdd 16 l.cmp1 (b2n (k == 1)), cmp2 := satAdd 16 l.cmp2 (b2n (k == 2)),
                      cmp3 := satAdd 16 l.cmp3 (b2n (k == 3)), cmp4 := satAdd 16 l.cmp4 (b2n (k == 4)),
                      cmpSince := modAt (fun n => satAdd 16 n 1) (k - 1) l.cmpSince,
                      cmpKind := if first then k else l.cmpKind, cmpLine := if first then line else l.cmpLine }
    let s := (s.setLane lane.val l).reportCompare lane.val
    if k = 3 then .next (s.modTwn (fun t => { t with
        leadMissing := (t.leadMissing.filter (fun x => x.1 ≠ lane.val && decide (s.fir.lastLine.getD 0 ≤ x.2 + 1024))) ++ [(lane.val, line)] }))
    else if k = 4 then .next s
    else
      let s := s.modTwn (fun t => { t with reports := wrapAdd 32 t.reports 1, mismatchLines := (line :: s.reportedLines).eraseDups })
      .next ((s.judgePartner s.reportedLines.length).proofFail 4 line)

/-! Self-diagnosis (R386, R387). -/

/-- Blocks whose failed bit is self-diagnosis cause 2 (R386): PGQ, DEC, FET/MAL, SUB, FIR, SNR, MOT, CLE, TWN. -/
def vitalBlocks : List Nat := [2, 3, 4, 5, 6, 7, 0xA, 0xC, 0xF]

/-- The condition of a self-diagnosis cause holds (R386); `readback` are the samples of FIRE_EN, newest first. Causes 4 and 7 are told
by the command. -/
def State.faultHolds (s : State) (cause : Nat) (readback : List Bool) : Bool :=
  match cause with
  | 1 => s.sys.sramBad
  | 2 => vitalBlocks.any (fun b => bit s.sys.failed b)
  | 3 =>
    let out (t : Option Nat) : Bool := match t with | some t => decide (t + 16 ≤ s.tick) | none => false
    out s.sys.rootLostAt || out s.sys.serLostAt
  | 4 => true
  | 5 => s.disagreesLong || s.readbackDiffers readback
  | 6 => decide (4 ≤ s.missingLanes + (if s.twn.role = .lead then s.twn.health.leadMissing else 0))
  | 7 => true
  | 8 => decide (s.engines < 56)
  | _ => false

/-- A fault is declared (R386, R387): HEALTHY becomes 0, and a lead acts on it. A cause is declared once. -/
def State.declareFault (s : State) (cause : Nat) : State :=
  if bit s.twn.faults cause then s
  else
    let s := s.modTwn (fun t => { t with healthy := false, faults := t.faults + 2 ^ cause,
                                         faultCause := if t.faultCause = 0 then cause else t.faultCause })
    if s.twn.role = .lead then s.relinquish cause else s

/-- SELF_DIAGNOSIS_FAULT (R386). -/
def execSelfDiagnosisFault (cause : Fin 9) (readback : List Bool) (s : State) : Host.Outcome State Fault Refusal :=
  if !s.running || !s.faultHolds cause.val readback then .next s
  else .next (s.declareFault cause.val)

/-- RELINQUISH_RECEIVED (R387): a shadow becomes LEAD. -/
def execRelinquishReceived (s : State) : Host.Outcome State Fault Refusal :=
  if s.hears && (s.twn.role == .shadow) then .next (s.takeOver 2) else .next s

/-- RELINQUISH_OUT (R387): 2,000 ticks after relinquishing. -/
def execRelinquishOut (s : State) : Host.Outcome State Fault Refusal :=
  match s.twn.outAt with
  | some t => if s.twn.role = .lead ∧ t ≤ s.tick then .next (s.setRole .out 2) else .next s
  | none => .next s

/-! Handover and take-back (R389, R396). -/

/-- The next control cycle boundary at least 2,000 ticks ahead, in pair ticks (R389). -/
def State.cycleAhead (s : State) : Nat := ceilDiv (s.pairTick + 2000) 20000 * 20000

/-- Decide an exchange and send HANDOVER naming H (R389): the first page boundary, or control cycle boundary, at least 2,000 ticks on.
The pair tick of a page boundary to come cannot be told from the state: what HANDOVER names for it is a free tick at least 2,000 ahead
(log entry 161). -/
def State.decideExchange (s : State) (atPage : Bool) (cause : Nat) (cmd : Option Nat) : State :=
  let early := s.pairTick + 2000
  if atPage && s.anyLive then
    ((s.modTwn (fun t => { t with exchange := some { h := early, atPage := true, cause := cause, cmd := cmd } })).sendTwin
      (.handover (early + s.draw))).drawn
  else (s.modTwn (fun t => { t with exchange := some { h := s.cycleAhead, cause := cause, cmd := cmd } })).sendTwin (.handover s.cycleAhead)

/-- The trigger of a press line would be a page boundary (R26): a QUEUED page begins with a window that the line forms. -/
def State.beginsPage (s : State) (line : Nat) : Bool :=
  let x := (line / 16 + 4) * 16
  decide (s.mal.formedTo ≤ x) && s.pgq.queue.any (fun id =>
    let c := s.ctx id
    c.state == .queued && (match c.start with | some b => decide (b ≤ x) | none => false) && !s.waits 256 id)

/-- A row of the queue triggers a press line in this tick: which one (R158, R166, R169). -/
def State.lineOf (s : State) (i : Instr) : Option Nat :=
  match i with
  | .lineTrigger => s.dueNow.map (fun _ => s.fir.nextLine)
  | .holdTrigger => if s.fir.holding then some s.fir.nextLine else none
  | .gongFrameRx _ b => if goodGong b && u8 b 1 % 16 == 1 && s.fir.role == 2 then some (u48 b 2) else none
  | _ => none

/-- A page boundary falls in this tick (R26); of the same tick, the role change wins over the trigger (R21). -/
def State.pageBoundary (s : State) : Bool :=
  s.fir.paced && s.arrives (fun i => match s.lineOf i with
    | some line => s.beginsPage line
    | none => false)

/-- H of an exchange has come (R389). Of an exchange at a page boundary, with no page left to begin, the control cycle boundary takes
its place (log entry 161). -/
def State.exchangeDue (s : State) (x : Exchange) : Bool :=
  decide (x.h ≤ s.pairTick) && (!x.atPage || s.pageBoundary || (!s.anyLive && s.pairTick % 20000 == 0))

/-- What take-back asks of the pair, as this twin sees it (R389). -/
def State.cleanOk (s : State) : Bool :=
  let t := s.twn
  !t.noRevert && t.inband.ok && t.pin.ok &&
    match t.role with
    | .lead => t.partnerPref && s.hasShadow && s.partnerFit
    | .shadow => s.pref && t.healthy && t.inStep
    | _ => false

/-- The clock of clean health (R389, R397). -/
def State.trackClean (s : State) : State :=
  let ok := s.cleanOk
  if ok && s.twn.cleanAt.isSome || !ok && s.twn.cleanAt.isNone then s
  else s.modTwn (fun t => { t with cleanAt := if ok then some s.tick else none })

/-- TAKE_BACK (R389): the preferred shadow has been clean for 10 s without a break. -/
def execTakeBack (s : State) : Host.Outcome State Fault Refusal :=
  match s.twn.cleanAt with
  | none => .next s
  | some t =>
    if s.twn.role = .lead && s.running && s.cleanOk && s.twn.exchange.isNone && s.twn.outAt.isNone && decide (t + 2000000000 ≤ s.tick) then
      .next (s.decideExchange true 4 none)
    else .next s

/-- HANDOVER_RECORD_RX (R389): a shadow learns H. To a preferred shadow that is clean for 10 s the exchange is take-back. -/
def execHandoverRecordRx (tick : Nat) (s : State) : Host.Outcome State Fault Refusal :=
  if !s.hears || s.twn.role ≠ .shadow then .next s
  else
    let back := s.cleanOk && (match s.twn.cleanAt with | some t => decide (t + 2000000000 ≤ s.tick) | none => false)
    .next (s.modTwn (fun t => { t with exchange := some { h := tick, cause := if back then 4 else 3, cmd := none } }))

/-- The exchange sets NO_REVERT on both twins when a preferred lead handed over (R389). -/
def State.noteRevert (s : State) (preferredLead : Bool) (cause : Nat) : State :=
  if preferredLead && cause == 3 then s.modTwn (fun t => { t with noRevert := true }) else s

/-- The lead of an exchange becomes SHADOW (R389): IN_STEP stays, and an ex-lead begins with the offset of its own count (R371, R415).
While the link is not UP nothing says that the copy matches, and IN_STEP is 0 (R385). -/
def Twn.yield (t : Twn) : Twn :=
  let up := t.link == .up
  { t with epoch := wrapAdd 8 t.epoch 1, inStep := up, frames := up, digestsOk := up, digestBad := [], copyAt := none, missedRow := 0,
           offFixed := up, mirrored := [] }

/-- A line that the shadow had predicted before H stays predicted on the new lead, which still takes its late LINE record (R389). -/
def State.keepLine (s : State) (old : Twn) : State :=
  s.modTwn (fun t => { t with predTick := old.predTick, predFlags := old.predFlags, lateUntil := s.tick + 64 })

/-- ROLE_EXCHANGE (R389, R396): in pair tick H the lead becomes SHADOW and the shadow LEAD with ROLE_EPOCH + 1, and both keep
IN_STEP. When the partner is not fit at H nothing changes. -/
def execRoleExchange (s : State) : Host.Outcome State Fault Refusal :=
  match s.twn.exchange with
  | none => .next s
  | some x =>
    if !s.exchangeDue x then .next s
    else
      let drop := s.modTwn (fun t => { t with exchange := none })
      match s.twn.role with
      | .lead =>
        if !s.hasShadow then .next (drop.completeOpt x.cmd Status.noPartner [])
        else if !s.partnerFit then .next (drop.completeOpt x.cmd Status.partnerUnhealthy [])
        else
          let s := (drop.noteRevert s.pref x.cause).modTwn Twn.yield
          let s := ({ s with copyOwn := none, copySince := [] }).setRole .shadow x.cause
          .next (s.completeOpt x.cmd Status.ok [])
      | .shadow =>
        if s.twn.healthy && s.twn.inStep then .next (((drop.noteRevert (!s.pref) x.cause).takeOver x.cause).keepLine s.twn) else .next drop
      | _ => .next drop

/-! The fire permit's inputs (R390). -/

/-- The response of a permit channel to an input change, in ticks (R390): 1 tick, 2 AON clocks, 10 µs. -/
def permitResponse (k : Nat) : Nat :=
  match k with
  | 0 => 1
  | 1 => 16
  | _ => 2000

/-- PERMIT_INPUT_CHANGE (R390): PERMIT_IN`k` has been at `level`, by two agreeing samples at least, for `since` ticks since it changed. -/
def execPermitInputChange (k : Fin 3) (level : Bool) (since : Nat) (s : State) : Host.Outcome State Fault Refusal :=
  if s.sys.held ∨ since < permitResponse k.val then .next s
  else
    let s := s.modTwn (fun t => match k.val with
      | 0 => { t with in0 := level }
      | 1 => { t with in1 := level }
      | _ => { t with in2 := level })
    .next s.vote

/-! Commands (R394 to R397). -/

/-- The role that TWN_CONFIG asks for (R376, R395). -/
def State.configRole (s : State) (mode : Nat) (rejoin : Bool) : Option Role :=
  if rejoin then some .elect
  else if mode = 0 then some .alone
  else if mode = 1 ∧ s.twn.role = .alone then some .elect
  else none

/-- The effect of TWN_CONFIG (R395). -/
def effTwnConfig : Effect := fun c s =>
  let p := c.packet
  let mode := u8 p 8
  let f := u8 p 9
  let role := s.twn.role
  if (1 < mode ∧ mode ≠ 0xFF) ∨ 32 ≤ f ∨ 10 < u8 p 10 ∨ (bit f 2 = true ∧ bit f 3 = true) then refuse s
  else if bit f 4 = true ∧ role ≠ .out then finish s Status.wrongRole
  else if mode = 0 ∧ ¬ (role = .elect ∨ (role = .lead ∧ s.twn.absent = true)) then finish s Status.wrongRole
  else if mode = 1 ∧ role = .alone ∧ s.anyLive = true then refuse s
  else
    let s := s.modTwn (fun t => { t with
      twin := if mode = 0xFF then t.twin else mode == 1, txPreset := u8 p 10, linkEn := t.linkEn || bit f 0,
      link := if bit f 0 && (t.link == .off) then .train else t.link,
      linkAt := if bit f 0 && (t.link == .off) then some s.tick else t.linkAt, noRevert := bit f 1 })
    let s := match s.configRole mode (bit f 4) with
      | some r => s.setRole r 6
      | none => s
    let s := if bit f 2 then s.setArm true else if bit f 3 then s.setArm false else s
    good s

/-- TWN_CONFIG (R395). -/
def execTwnConfig (r : Fin 4) (s : State) : Host.Outcome State Fault Refusal :=
  .next (startCommand 0x0E01 r.val (.ok []) effTwnConfig s)

/-- The effect of TWN_HANDOVER (R396). -/
def effTwnHandover : Effect := fun c s =>
  let w := u8 c.packet 8
  if 1 < w then refuse s
  else if s.twn.role ≠ .lead then finish s Status.wrongRole
  else if !s.hasShadow then finish s Status.noPartner
  else if !s.partnerFit then finish s Status.partnerUnhealthy
  else if s.twn.exchange.isSome then finish s Status.busy
  else (s.decideExchange (w == 0) 3 (some c.id), .running)

/-- TWN_HANDOVER (R396). -/
def execTwnHandover (r : Fin 4) (s : State) : Host.Outcome State Fault Refusal :=
  .next (startCommand 0x0E02 r.val (.ok []) effTwnHandover s)

/-- The effect of TWN_PROOF_TEST (R394). -/
def effTwnProofTest : Effect := fun c s =>
  let m := u8 c.packet 8
  if 32 ≤ m then refuse s
  else if s.twn.role ≠ .lead ∨ s.hasShadow = false then finish s Status.noPartner
  else if !s.partnerFit then finish s Status.partnerUnhealthy
  else if bit m 4 && !s.fir.paced then finish s Status.notReady
  else if s.twn.proof.isSome then finish s Status.busy
  else
    match nextTest m 0 with
    | none => answer s (zeros 16)
    | some _ => (s.proofGo { cmd := c.id, tests := m } 0, .running)

/-- TWN_PROOF_TEST (R394). -/
def execTwnProofTest (r : Fin 4) (s : State) : Host.Outcome State Fault Refusal :=
  .next (startCommand 0x0E03 r.val (.ok []) effTwnProofTest s)

/-- The value of a link state (TWN_STATUS.LINK). -/
def LinkState.num : LinkState → Nat
  | .off => 0
  | .train => 1
  | .align => 2
  | .up => 3

/-- TWN_STATUS (17). -/
def State.twnStatus (s : State) : Nat :=
  let t := s.twn
  t.role.num + 8 * b2n s.pref + 16 * b2n t.inStep + 32 * b2n t.healthy + 64 * b2n t.noRevert + 128 * b2n t.absent
    + 256 * t.link.num + 2 ^ 16 * t.epoch

/-- TWN_OFFSET (17): TICKS reads 0 on a lead or alone device. -/
def State.twnOffset (s : State) : Nat :=
  s.twn.offTaps + 256 * (if s.twn.role.acting then 0 else toBits 24 s.twn.offTicks)

/-- TWN_COPY (17). -/
def State.twnCopy (s : State) : Nat := s.twn.fixes + 2 ^ 12 * s.twn.missed + 2 ^ 20 * s.twn.lateLines

/-- TWN_TAP_STATUS (17). -/
def State.twnTapStatus (s : State) : Nat := b2n s.twn.inband.ok + 2 * b2n s.twn.pin.ok + 2 ^ 16 * s.twn.badTaps

/-- TWN_PERMIT (17). -/
def State.twnPermit (s : State) : Nat :=
  s.permitChannels + 8 * b2n s.twn.permit + 16 * b2n s.fireEn + 32 * b2n (s.twn.armA && s.twn.armB && s.twn.armC)
    + 64 * b2n s.twn.disagree + 2 ^ 16 * s.twn.withdrawals

/-- Whole seconds of clean health toward take-back (R397). -/
def State.cleanSeconds (s : State) : Nat :=
  match s.twn.cleanAt with | some t => (s.tick - t) / 200000000 | none => 0

/-- The effect of TWN_QUERY (R397). -/
def effTwnQuery : Effect := fun _ s =>
  answer s ([s.twn.role.num, if s.twn.absent then 0xFF else s.twn.partner, s.twn.epoch, s.twnStatus % 256]
    ++ leBytes 4 s.twnOffset ++ leBytes 4 s.twnCopy ++ leBytes 4 s.cleanSeconds)

/-- TWN_QUERY (R397). -/
def execTwnQuery (r : Fin 4) (s : State) : Host.Outcome State Fault Refusal :=
  .next (startCommand 0x0E04 r.val (.ok []) effTwnQuery s)

end Sys2Proof.Machine
end

