-- ==== Sys2Proof/Machine/System.lean ====
section
/-! DEFINITION. Power, clocks, reset and bring-up (chapter 18), SRAM errors (R19) and the SYS commands, save those on
registers. -/
namespace Sys2Proof.Machine

/-! Reset (R404, R406). -/

/-- The system block after a reset of the device (R406): the always-on domain, flash, fuses, rails, pins and the straps stay. -/
def Sys.afterReset (y : Sys) : Sys :=
  { ({} : Sys) with perstLow := y.perstLow, sysResetLow := y.sysResetLow, railsOk := y.railsOk, straps := y.straps, kind := y.kind,
                    causes := y.causes, rollback := y.rollback, keyRevoked := y.keyRevoked, board := y.board, area := y.area, slot0 := y.slot0, slot1 := y.slot1,
                    pwrOn := y.pwrOn, wakeEvents := y.wakeEvents, wakeN := y.wakeN, wakeThr := y.wakeThr,
                    wakeFalling := y.wakeFalling, scratch := y.scratch, railLostAt := y.railLostAt,
                    dormant := match y.dormant with
                      | .asleep t => .asleep t
                      | _ => .awake }

/-- ROLE_LEAD falls with the other outputs (R375, R417). -/
def State.tellLow (s : State) : State := if s.roleLead then s.emit (.roleLead false) else s

/-- A reset of the whole device (R406): it is held until reset release. Levels that other devices drive on its inputs stay. -/
def State.deviceReset (s : State) : State :=
  { State.reset with
    tick := s.tick, pending := s.pending, out := (s.tellLow).out, free := s.free, sys := s.sys.afterReset
    twn := { ({} : Twn) with in0 := s.twn.in0, in1 := s.twn.in1, in2 := s.twn.in2 }
    gng := { ({} : Gng) with otherLow := s.gng.otherLow } }

/-- A reset of the device for a cause of R406. -/
def State.resetFor (s : State) (cause : Nat) : State :=
  (s.modSys (fun y => { y with causes := y.causes ++ [cause] })).deviceReset

/-- DORMANT's last step has passed (R417). -/
def State.asleep (s : State) : Bool :=
  match s.sys.dormant with
  | .asleep _ => true
  | _ => false

/-- A reset pin that has been low for `ns` ns resets the device (R443): always from 1 µs on, never below 100 ns; between the two it is
free (log entry 133). -/
def State.resetTaken (s : State) (ns : Nat) : Bool := decide (1000 ≤ ns) || (decide (100 ≤ ns) && bit s.draw 0)

/-- The state after a reset pin's assertion was judged: the free bit has been drawn where it decided. -/
def State.judgedReset (s : State) (ns : Nat) : State := if 100 ≤ ns ∧ ns < 1000 then s.drawn else s

/-- PERST_ASSERT (R35, R406, R443): PERST_N has been low for `ns` ns. -/
def execPerstAssert (ns : Nat) (s : State) : Host.Outcome State Fault Refusal :=
  let t := s.judgedReset ns
  .next (if s.resetTaken ns then (t.modSys (fun y => { y with perstLow := true })).resetFor 5 else t)

/-- SYS_RESET_ASSERT (R406, R443): SYS_RESET_N has been low for `ns` ns. -/
def execSysResetAssert (ns : Nat) (s : State) : Host.Outcome State Fault Refusal :=
  let t := s.judgedReset ns
  .next (if s.resetTaken ns then (t.modSys (fun y => { y with sysResetLow := true })).resetFor 6 else t)

/-- VBAT_POR (R406, R418, R419): the always-on domain is cleared and PWR_ON is high. -/
def execVbatPor (s : State) : Host.Outcome State Fault Refusal :=
  .next (s.modSys (fun y => { y with
    causes := [1], dormant := .awake, pwrOn := true, wakeEvents := 0, wakeN := 0, wakeThr := 0, wakeFalling := false, scratch := {},
    railsOk := if bit y.railsOk 0 then y.railsOk else y.railsOk + 1 })).deviceReset

/-- A rail is known to be out of range in this tick, or to have been until now: the reset that a lost rail caused holds on (R402). -/
def Sys.railOut (y : Sys) (tick : Nat) : Sys := { y with railLostAt := y.railLostAt.map (fun _ => tick) }

/-- Rails come into range (R399). -/
def Sys.railsIn (y : Sys) (rails : Nat) : Sys := { y with railsOk := maskOf 10 (fun k => bit y.railsOk k || bit rails k) }

/-- POWER_UP (R400, R401, R402, R406): the rails of a mask come into range. When all of groups 1 to 4 were absent, the device is reset; on a
wake the reset is of kind WAKE (R418). -/
def execPowerUp (rails : Fin 1024) (s : State) : Host.Outcome State Fault Refusal :=
  let absent := s.sys.railsOk / 2 == 0 && rails.val / 2 != 0
  let s := s.modSys (fun y => (y.railOut s.tick).railsIn rails.val)
  .next (if s.asleep || !absent then s else if s.sys.causes.contains 4 then s.deviceReset else s.resetFor 2)

/-- RAIL_LOST (R399, R402): a rail of groups 1 to 4 lost while the device runs causes a reset of kind BROWNOUT. -/
def execRailLost (rail : Fin 10) (s : State) : Host.Outcome State Fault Refusal :=
  let runs := !s.sys.held && !s.asleep && rail.val ≠ 0
  let s := s.modSys (fun y => { y.railOut s.tick with railsOk := if bit y.railsOk rail.val then y.railsOk - 2 ^ rail.val else y.railsOk })
  let s := if runs then (s.modSys (fun y => { y with railLostAt := some s.tick })).resetFor 3 else s
  .next (if s.asleep then s
    else s.modSys (fun y => { y with railsLost := if bit y.railsLost rail.val then y.railsLost else y.railsLost + 2 ^ rail.val }))

/-- RESET_PINS_RELEASED (R404, R405): PERST_N and SYS_RESET_N are both released; the straps are sampled. -/
def execResetPinsReleased (straps : Fin 16) (s : State) : Host.Outcome State Fault Refusal :=
  .next (if (s.sys.perstLow || s.sys.sysResetLow) && !s.asleep then
      s.modSys (fun y => { y with perstLow := false, sysResetLow := false, straps := straps.val })
    else s)

/-- PLL_LOCK (R404): a PLL locks once both pins are released. -/
def execPllLock (pll : Fin 4) (s : State) : Host.Outcome State Fault Refusal :=
  .next (if s.sys.perstLow || s.sys.sysResetLow || s.asleep || bit s.sys.pllLock pll.val then s
    else s.modSys (fun y => { y with pllLock := y.pllLock + 2 ^ pll.val, rootLostAt := if pll.val = 0 then none else y.rootLostAt,
                                     serLostAt := if pll.val = 2 then none else y.serLostAt }))

/-- The SerDes PLL is lost (R404): every lane of Snare and of the Chezatin link loses block lock (R183, R373). -/
def State.lanesLost (s : State) : State :=
  let s := (List.range 64).foldl (fun s l => if (s.lane l).locked then s.loseLock l else s) s
  s.modTwn (fun t => { t with locks := {}, link := if t.link = .off then .off else .train })

/-- PLL_LOCK_LOSS (R404). The memory PLL's loss makes every DRAM access fail while it lasts; the Ethernet PLL's takes both ports down
(R360). -/
def execPllLockLoss (pll : Fin 4) (s : State) : Host.Outcome State Fault Refusal :=
  if !bit s.sys.pllLock pll.val then .next s
  else
    let s := s.modSys (fun y => { y with
      pllLock := y.pllLock - 2 ^ pll.val, pllLoss := if bit y.pllLoss pll.val then y.pllLoss else y.pllLoss + 2 ^ pll.val,
      rootLostAt := if pll.val = 0 then some s.tick else y.rootLostAt, serLostAt := if pll.val = 2 then some s.tick else y.serLostAt })
    .next (match pll.val with
      | 2 => s.lanesLost
      | 3 => (s.ethDown 0).ethDown 1
      | _ => s)

/-- CLOCK_RESET (R404): the root PLL has been out of lock for 1,000 AON clocks. -/
def execClockReset (s : State) : Host.Outcome State Fault Refusal :=
  match s.sys.rootLostAt with
  | some t => .next (if !s.sys.held && decide (t + 8000 ≤ s.tick) then s.resetFor 7 else s)
  | none => .next s

/-- The smallest of a list of causes. -/
def leastCause (l : List Nat) : Nat := l.foldl min 7

/-- RESET_RELEASE (R404, R406): every rail is in range, and the device leaves reset in ELECT; the tick count starts from 0. After a
brownout it waits until the rails have been in range for 1 ms (R402). -/
def execResetRelease (s : State) : Host.Outcome State Fault Refusal :=
  let y := s.sys
  let settled := match y.railLostAt with | some t => decide (t + 200000 ≤ s.tick) | none => true
  if !y.held || y.railsOk ≠ 1023 || y.perstLow || y.sysResetLow || !bit y.pllLock 0 || s.asleep || !settled then .next s
  else .next ({ s with tick := 0 }.modSys (fun y => { y with
    held := false, kind := if y.causes.isEmpty then y.kind else leastCause y.causes, causes := [], railLostAt := none }))

/-- Bytes put into a region of the flash; what the region's list does not reach is erased. -/
def overlay (region : List Byte) (pos : Nat) (bytes : List Byte) : List Byte :=
  let r := region ++ List.replicate (pos - region.length) 255
  r.take pos ++ bytes ++ r.drop (pos + bytes.length)

/-- The part of a write at flash address `addr` that falls into the region of `size` bytes at `start`. -/
def putRegion (region : List Byte) (start size addr : Nat) (bytes : List Byte) : List Byte :=
  let lo := max start addr
  let hi := min (start + size) (addr + bytes.length)
  if lo < hi then overlay region (lo - start) ((bytes.drop (lo - addr)).take (hi - lo)) else region

/-- Bytes programmed at an address of the flash, by its layout (R409). -/
def Sys.program (y : Sys) (w : Nat × List Byte) : Sys :=
  { y with board := putRegion y.board 0 0x1000 w.1 w.2, area := putRegion y.area 0x1000 0xFF000 w.1 w.2,
           slot0 := putRegion y.slot0 0x100000 0x100000 w.1 w.2, slot1 := putRegion y.slot1 0x200000 0x100000 w.1 w.2 }

/-- JTAG_TRST (R406, R430, R435): the JTAG TAP alone is reset, and it holds nothing of the block's own. `writes` are what its
flash-programming instruction, usable only while SYS_RESET_N is asserted, or an external programmer has written by then, as address and
bytes (log entry 139). -/
def execJtagTrst (writes : List (Nat × List Byte)) (s : State) : Host.Outcome State Fault Refusal :=
  .next (if s.sys.sysResetLow then s.modSys (fun y => writes.foldl Sys.program y) else s)

/-! Boot (R409 to R413). -/

/-- The payload of an image in a slot; erased flash reads 0xFF. -/
def imagePayload (b : List Byte) : List Byte :=
  let n := u32 b 20
  let p := (b.drop 256).take n
  p ++ List.replicate (n - p.length) 255

/-- The bytes of a firmware header that must be 0 are 0 (R410). -/
def headerZeros (b : List Byte) : Bool :=
  u8 b 7 == 0 && u8 b 9 == 0 && zeroRange b 14 16 && zeroRange b 24 32 && zeroRange b 80 128 && zeroRange b 224 256

/-- PAYLOAD_LEN is in range (R410). -/
def payloadLenOk (n : Nat) : Bool := decide (4096 ≤ n) && decide (n ≤ 786432) && n % 4096 == 0

/-- The reason code of an image (R411): a ROLLBACK above 63 is a bad header, and under a KEY_INDEX above 3, which names no key, no
signature verifies (log entry 105). -/
def State.imageReason (s : State) (image : List Byte) : Nat :=
  let b := image ++ List.replicate (256 - image.length) 255
  if b.take 4 ≠ [0x58, 0x32, 0x31, 0x46] then 1
  else if u16 b 4 ≠ 1 ∨ headerZeros b = false ∨ payloadLenOk (u32 b 20) = false ∨ 63 < u32 b 16 then 2
  else if bit s.sys.keyRevoked (u8 b 6) then 3
  else if u32 b 16 < s.sys.rollback then 4
  else if decide (3 < u8 b 6) || !Config.ecdsaOk (u8 b 6) (b.take 128) ((b.drop 128).take 96) then 5
  else if Config.sha384 (imagePayload b) ≠ (b.drop 32).take 48 then 6
  else 0

/-- HIF_READY rises once the link is up (R34, R35). -/
def State.hifRiseIfUp (s : State) : State := if s.hif.linkDown then s else s.hifRise

/-! The flash (R409, R430). -/

/-- A flash opcode in the form that FLASH_4B selects (R430). -/
def flashForm (wide : Bool) (op : Nat) : Nat :=
  if !wide then op
  else match op with
    | 0x6B => 0x6C
    | 0x20 => 0x21
    | 0xD8 => 0xDC
    | 0x02 => 0x12
    | o => o

/-- A flash command with an address, in the form of the FLASH_4B strap (R405, R430). -/
def State.flashOp (s : State) (op addr n : Nat) (data : List Byte) : Out := .flash (flashForm (bit s.sys.straps 3) op) addr n data

/-- An erase or a page program: write enable, the command, read status (R430). -/
def State.flashWrite (s : State) (op addr : Nat) (data : List Byte) : List Out :=
  [.flash 0x06 0 0 [], s.flashOp op addr 0 data, .flash 0x05 0 1 []]

/-- Where a slot lies in the flash (R409). -/
def slotBase (slot : Nat) : Nat := 0x100000 * (slot + 1)

/-- The erase of a slot, by 64 KiB blocks (R414, R430, log entry 163). -/
def State.flashErase (s : State) (slot : Nat) : List Out :=
  (List.range 16).flatMap (fun k => s.flashWrite 0xD8 (slotBase slot + 0x10000 * k) [])

/-- The programming of an image by pages, the header last, and the read-back (R414, R430). -/
def State.flashProgram (s : State) (slot : Nat) (image : List Byte) : List Out :=
  let page (k : Nat) : List Out := s.flashWrite 0x02 (slotBase slot + 256 * k) ((image.drop (256 * k)).take 256)
  (List.range (ceilDiv image.length 256 - 1)).flatMap (fun k => page (k + 1)) ++ page 0 ++ [s.flashOp 0x6B (slotBase slot) image.length []]

/-- Send a list of items in order. -/
def State.emitAll (s : State) (l : List Out) : State := l.foldl State.emit s

/-- The boot ROM reads a slot (R409): its header and, by the length there, its payload. -/
def State.flashRead (s : State) (slot : Nat) (b : List Byte) : Out := s.flashOp 0x6B (slotBase slot) (256 + (imagePayload b).length) []

/-- BOOT_IMAGE_AUTHENTICATED (R411, R412): the boot ROM has tried slot 0 and then slot 1, and FW_AUTH rises; `unread` says the flash
read of which slots fails. In recovery no DRAM is trained. -/
def execBootImageAuthenticated (unread : Fin 4) (s : State) : Host.Outcome State Fault Refusal :=
  if s.sys.held || s.hif.fwAuth then .next s
  else
    let reason (slot : Nat) (b : List Byte) : Nat := if bit unread.val slot then 1 else s.imageReason b
    let r0 := reason 0 s.sys.slot0
    let r1 := if r0 = 0 then 0 else reason 1 s.sys.slot1
    let image := if r0 = 0 then 0 else if r1 = 0 then 1 else 2
    let s := s.emit (s.flashRead 0 s.sys.slot0)
    let s := if r0 = 0 then s else s.emit (s.flashRead 1 s.sys.slot1)
    let s := s.modSys (fun y => { y with
      reason0 := r0, reason1 := r1, imageRun := image, fwAuthAt := some s.tick, fallbackDue := image != 0, memDone := image == 2,
      runHeader := if image = 0 then y.slot0.take 256 else if image = 1 then y.slot1.take 256 else [] })
    let s := s.modHif (fun h => { h with fwAuth := true, fwFallback := image != 0 })
    .next (if image = 2 then s.hifRiseIfUp else s)

/-- The board block as it lies in the flash (R409). -/
def Sys.boardBlock (y : Sys) : List Byte := y.board ++ List.replicate (4096 - y.board.length) 255

/-- The board block carries the CRC-32C of its first 4,092 bytes (R409). -/
def Sys.boardOk (y : Sys) : Bool := crc32c (y.boardBlock.take 4092) == u32 y.boardBlock 4092

/-- The channels that the board block names (R409): the layout of its fields is not in the spec (log entry 164). -/
def Sys.namedChannels (y : Sys) : Nat := Config.boardChannels y.boardBlock % 16
/-- The GiB that the board block gives for a mask of channels (R409, log entry 164). -/
def Sys.boardGib (y : Sys) (channels : Nat) : Nat := if channels = 0 then 0 else Config.boardGib y.boardBlock channels % 2 ^ 16

/-- DRAM_TRAINING_DONE (R409, R413): of the channels that the board block names, those of `trained` train. -/
def execDramTrainingDone (trained : Fin 16) (s : State) : Host.Outcome State Fault Refusal :=
  if !s.hif.fwAuth || s.sys.memDone then .next s
  else
    let named := if s.sys.boardOk then s.sys.namedChannels else 0
    let ok := maskOf 4 (fun c => bit named c && bit trained.val c)
    let s := s.modSys (fun y => { y with
      memDone := true, boardBad := !y.boardOk, memTrained := ok, memGib := y.boardGib ok,
      memFailed := maskOf 4 (fun c => bit named c && !bit trained.val c) })
    .next (if ok = 0 then s.blockFailed 0 else s).hifRiseIfUp

/-- The watchdog acts under R387 (R407), each time it expires. -/
def State.watchdogFault (s : State) : State :=
  if bit s.twn.faults 4 && s.twn.role == .lead then s.relinquish 4 else s.declareFault 4

/-- The slot that the command processor booted from passes R411; recovery code is in ROM (R412). -/
def State.bootedOk (s : State) : Bool :=
  s.sys.imageRun == 2 || s.imageReason (if s.sys.imageRun = 0 then s.sys.slot0 else s.sys.slot1) == 0

/-- WATCHDOG_RESTART (R407): the watchdog first acts under R387, and then the command processor restarts from the slot that it booted
from, once that has been authenticated again; commands in flight are handled as R35 handles them. -/
def execWatchdogRestart (s : State) : Host.Outcome State Fault Refusal :=
  if !s.running || !s.hif.fwAuth then .next s
  else
    let s := s.watchdogFault.hifFall
    .next (s.modSys (fun y => { y with wdog := satAdd 16 y.wdog 1, restarting := true, slotBad := !s.bootedOk }))

/-! DORMANT (R416 to R418). -/

/-- An axis is neither DISABLED nor at REST (R416). -/
def State.axisActive (s : State) : Bool :=
  (List.range 16).any (fun x => (s.axis x).state != .disabled && (s.axis x).state != .rest)

/-- The effect of SYS_ENTER_DORMANT (R416). -/
def effSysEnterDormant : Effect := fun c s =>
  let p := c.packet
  if 7 < u8 p 8 ∨ 1 < u8 p 9 ∨ u8 p 10 = 0 then refuse s
  else if s.anyLive || s.fir.runs || s.axisActive then finish s Status.printActive
  else if s.twn.armA || s.twn.armB || s.twn.armC then finish s Status.denied
  else if s.twn.role == .lead && s.hasShadow then finish s Status.wrongRole
  else good (s.modSys (fun y => { y with
    dormant := .entering s.tick, wakeThr := u8 p 8, wakeFalling := bit (u8 p 9) 0, wakeN := u8 p 10 }))

/-- SYS_ENTER_DORMANT (R416, R417). -/
def execSysEnterDormant (r : Fin 4) (s : State) : Host.Outcome State Fault Refusal :=
  .next (startCommand 0x0107 r.val (.ok []) effSysEnterDormant s)

/-- DORMANT_OUTPUTS_OFF (R417): 200 ticks after the completion every output is off and the PCIe link is idle. -/
def execDormantOutputsOff (s : State) : Host.Outcome State Fault Refusal :=
  match s.sys.dormant with
  | .entering t =>
    if s.tick < t + 200 then .next s
    else
      let s := s.tellLow.modSys (fun y => { y with dormant := .outputsOff t })
      let s := s.modFir (fun f => { f with haltDrive := false })
      .next (s.hifFall.modHif (fun h => { h with linkDown := true, linkGen := 0, linkWidth := 0 }))
  | _ => .next s

/-- PWR_ON_FALL (R417, R418): the wake-event counter is cleared and counts; all but the always-on domain is held in reset. -/
def execPwrOnFall (s : State) : Host.Outcome State Fault Refusal :=
  match s.sys.dormant with
  | .outputsOff t =>
    if s.tick < t + 200000 then .next s
    else .next (s.modSys (fun y => { y with dormant := .asleep s.tick, pwrOn := false, wakeEvents := 0 })).deviceReset
  | _ => .next s

/-- WAKE_CROSSING (R418, R445): WAKE_IN crosses the threshold and stays beyond it for `micros` µs; it counts from 10 µs on. -/
def execWakeCrossing (falling : Bool) (micros : Nat) (s : State) : Host.Outcome State Fault Refusal :=
  .next (if s.asleep && falling == s.sys.wakeFalling && decide (10 ≤ micros) then
      s.modSys (fun y => { y with wakeEvents := satAdd 16 y.wakeEvents 1 })
    else s)

/-- WAKE_PWR_ON (R418): the count has reached WAKE_N, and PWR_ON rises no earlier than 50 ms after it fell. -/
def execWakePwrOn (s : State) : Host.Outcome State Fault Refusal :=
  match s.sys.dormant with
  | .asleep t =>
    if s.sys.wakeN ≤ s.sys.wakeEvents ∧ t + 10000000 ≤ s.tick then
      .next (s.modSys (fun y => { y with pwrOn := true, dormant := .awake, causes := y.causes ++ [4] }))
    else .next s
  | _ => .next s

/-! SRAM (R19). -/

/-- The block of each store of the SRAM table, by its nibble of the failed-block bitmap (R19). -/
def storeBlock : List Nat := [4, 4, 4, 4, 5, 5, 5, 8, 4, 2, 9, 3, 0xF, 1]

/-- A store whose double-bit error is self-diagnosis cause 1 (R386): the staging rings, the defect map and the level-map index. -/
def vitalStore (store : Nat) : Bool := store == 0 || store == 4 || store == 5

/-- A store of R99 limit 3: the staging rings, the strip cursors, and the per-nozzle tables. -/
def lateStore (store : Nat) : Bool := [0, 1, 3, 4, 5].contains store

/-- SRAM_ECC_ERROR (R19, R59). `eng` names the engine whose context state was hit by a double-bit error (R150); 64: none. -/
def execSramEccError (store : Fin 14) (word : Nat) (bitNo : Fin 72) (double : Bool) (eng : Fin 65) (s : State) :
    Host.Outcome State Fault Refusal :=
  if s.sys.held then .next s
  else if !double then
    let s := s.modSys (fun y => { y with ceCount := satAdd 32 y.ceCount 1 })
    .next (s.raise 0x0110 0 ([store.val, bitNo.val, 0, 0] ++ leBytes 4 word ++ leBytes 4 s.sys.ceCount ++ zeros 4))
  else
    let s := s.blockFailed (storeBlock.getD store.val 0)
    let s := s.modSys (fun y => { y with
      sramBad := y.sramBad || vitalStore store.val, sramLate := y.sramLate || lateStore store.val })
    let leaves := vitalStore store.val && (s.twn.role == .lead) && s.hasShadow && s.partnerFit && (s.twn.inband.ok || s.twn.pin.ok)
    let s := s.raise 0x0111 0 ([store.val, b2n leaves, 0, 0] ++ leBytes 4 word ++ leBytes 4 s.sys.failed ++ zeros 4)
    .next (if eng.val < 64 then (if s.inService eng.val then s.failEngine eng.val 2 else s) else s)

/-! SYS commands (R52, R54, R414). -/

/-- The effect of SYS_IDENTIFY (R54): in recovery no image gives a firmware version. -/
def effSysIdentify : Effect := fun _ s =>
  let h := s.sys.runHeader
  let version := if s.sys.imageRun = 2 then leBytes 5 Config.recoveryVersion else [u8 h 8] ++ leBytes 2 (u16 h 10) ++ leBytes 2 (u16 h 12)
  answer s (leBytes 2 0x0021 ++ leBytes 1 Config.stepping ++ version ++ leBytes 8 Config.deviceNumber)

/-- SYS_IDENTIFY (R54). -/
def execSysIdentify (r : Fin 4) (s : State) : Host.Outcome State Fault Refusal :=
  .next (startCommand 0x0101 r.val (.ok []) effSysIdentify s)

/-- The effect of SYS_HEALTH (R54, R375): the junction temperature is a free reading of the on-die sensor. -/
def effSysHealth : Effect := fun _ s =>
  let role := if s.twn.role = .out then 0 else s.twn.role.num
  answer s.drawn (leBytes 4 s.sys.failed ++ leBytes 4 s.sys.ceCount ++ leBytes 2 s.draw ++ [role, 0] ++ leBytes 4 (s.tick / 200000000))

/-- SYS_HEALTH (R54). -/
def execSysHealth (r : Fin 4) (s : State) : Host.Outcome State Fault Refusal :=
  .next (startCommand 0x0102 r.val (.ok []) effSysHealth s)

/-- A code that SUPPRESS may list (R52). -/
def suppressible (code : Nat) : Bool :=
  code == 0 || (code != 0x0101 && (match eventSeverity code with | some v => decide (v < Sev.fault) | none => false))

/-- The effect of SYS_EVENT_MASK (R52): the mask acts in ticks after the commit. -/
def effSysEventMask : Effect := fun c s =>
  let p := c.packet
  let codes := (List.range 8).map (fun i => u16 p (24 + 2 * i))
  if codes.any (fun x => !suppressible x) then refuse s
  else
    let m := s.maskNow
    good (s.modEvt (fun e => { e with
      threshold := m.1, suppress := m.2,
      maskNext := some { val := ((List.range 16).map (fun i => min 3 (u8 p (8 + i))), codes.filter (· != 0)), tick := s.tick } }))

/-- SYS_EVENT_MASK (R52). -/
def execSysEventMask (r : Fin 4) (s : State) : Host.Outcome State Fault Refusal :=
  .next (startCommand 0x0105 r.val (.ok []) effSysEventMask s)

/-- The results of SYS_FW_UPDATE (R414). -/
def fwResults (reason slot rollback : Nat) : List Byte := [reason, slot, 0, 0] ++ leBytes 4 rollback ++ zeros 8

/-- Put bytes into a flash slot. -/
def Sys.putSlot (y : Sys) (slot : Nat) (b : List Byte) : Sys := if slot = 0 then { y with slot0 := b } else { y with slot1 := b }

/-- An erased header (R414). -/
def erasedHeader : List Byte := List.replicate 256 255

/-- SYS_FW_UPDATE with ADVANCE (R414). -/
def advanceRollback (s : State) : State × Reply :=
  let r := u32 s.sys.runHeader 16
  let fits (b : List Byte) : Bool := s.imageReason b == 0 && decide (r ≤ u32 b 16)
  if s.sys.imageRun ≠ 2 ∧ fits s.sys.slot0 = true ∧ fits s.sys.slot1 = true then
    answer (s.modSys (fun y => { y with rollback := min 63 (max y.rollback r) })) (fwResults 0 0 r)
  else (s, .done Status.authFailed (fwResults 4 0 r))

/-- The effect of SYS_FW_UPDATE (R414): the image is authenticated before the flash is touched, then the slot is erased. -/
def effSysFwUpdate : Effect := fun c s =>
  let p := c.packet
  let len := u32 p 16
  let slot := u8 p 20
  let f := u8 p 21
  if 1 < f then refuse s
  else if f = 1 then (if u64 p 8 ≠ 0 ∨ len ≠ 0 ∨ slot ≠ 0 then refuse s else advanceRollback s)
  else if u64 p 8 % 64 ≠ 0 ∨ payloadLenOk (len - 256) = false ∨ len < 256 ∨ 1 < slot then refuse s
  else if slot = s.sys.imageRun ∨ s.sys.fwJob.isSome = true then finish s Status.busy
  else withHost c s (fun bytes =>
    let b := pad len bytes
    let r := s.imageReason b
    let r := if r = 0 ∧ u32 b 20 + 256 ≠ len then 2 else r
    if r ≠ 0 then (s, .done Status.authFailed (fwResults r slot (u32 b 16)))
    else ((s.emitAll (s.flashErase slot)).modSys (fun y =>
      { y.putSlot slot erasedHeader with fwJob := some { cmd := c.id, slot := slot, image := b } }), .running))

/-- SYS_FW_UPDATE (R414). -/
def execSysFwUpdate (r : Fin 4) (d : HostRead) (s : State) : Host.Outcome State Fault Refusal :=
  .next (startCommand 0x0106 r.val d effSysFwUpdate s)

/-- FW_UPDATE_DONE (R414, R430): the slot is programmed, the header last, and read back; when that fails its header is erased again. -/
def execFwUpdateDone (readBackOk : Bool) (s : State) : Host.Outcome State Fault Refusal :=
  match s.sys.fwJob with
  | none => .next s
  | some j =>
    let s := (s.modSys (fun y => { y with fwJob := none })).emitAll (s.flashProgram j.slot j.image)
    let roll := u32 j.image 16
    if readBackOk then .next ((s.modSys (fun y => y.putSlot j.slot j.image)).complete j.cmd Status.ok (fwResults 0 j.slot roll))
    else
      let s := s.emitAll (s.flashWrite 0x20 (slotBase j.slot) [])
      .next (s.complete j.cmd Status.authFailed (fwResults 7 j.slot roll))

end Sys2Proof.Machine
end

