-- ==== Sys2Proof/Machine/Misc.lean ====
section
/-! DEFINITION. Rim port, Gong configuration, general I²C masters and GPIO (chapter 19). The Rim window's refresh is in
Plan.lean. -/
namespace Sys2Proof.Machine

/-! Rim port (R420 to R425). -/

/-- An offset that a source list may hold (R425). -/
def sourceOk (o : Nat) : Bool := (o % 4 == 0 && decide (o < 0x1000000)) || o == 0xFFFFFFFF

/-- The effect of RIM_CONFIG (R425): it takes effect at the next planning tick. -/
def effRimConfig : Effect := fun c s =>
  let p := c.packet
  let f := u8 p 8
  let take (src : List Nat) : State × Reply :=
    good (s.modRim (fun r => { r with next := some { val := (bit f 0, bit f 1, u8 p 9, src), tick := s.tick } }))
  if 3 < f ∨ 12 < u8 p 9 ∨ u64 p 16 % 64 ≠ 0 ∨ (bit f 0 = false ∧ u64 p 16 ≠ 0) then refuse s
  else if !bit f 0 then take []
  else withHost c s (fun bytes =>
    let b := pad 1028 bytes
    let src := (List.range 256).map (fun i => u32 b (4 * i))
    if crc32c (b.take 1024) ≠ u32 b 1024 ∨ src.all sourceOk = false then refuse s else take src)

/-- RIM_CONFIG (R425). -/
def execRimConfig (r : Fin 4) (d : HostRead) (s : State) : Host.Outcome State Fault Refusal :=
  .next (startCommand 0x1001 r.val d effRimConfig s)

/-- RIM_WRITE (R424): a write cycle of the PLC. -/
def execRimWrite (addr : Fin 512) (value : BitVec 32) (s : State) : Host.Outcome State Fault Refusal :=
  .next (if !s.running then s
    else if s.rim.writesEn && decide (addr.val < 64) then
      s.modRim (fun r => { r with inboxNext := r.inboxNext ++ [(addr.val, value)], accepted := wrapAdd 16 r.accepted 1 })
    else s.modRim (fun r => { r with discarded := satAdd 16 r.discarded 1 }))

/-! Gong bus (R427, R429). -/

/-- What the Gong receiver takes a character for. -/
inductive GongChar where
  | comma | violation | other
deriving DecidableEq, Repr

/-- The character that a number stands for: 1 K28.5, 2 a code violation, else another one. -/
def gongChar (n : Nat) : GongChar := if n = 1 then .comma else if n = 2 then .violation else .other

/-- A character arrives (R427): 16 K28.5 characters with no code violation between them give lock, and 4 violations within 256
characters take it. -/
def Gng.char (g : Gng) (c : GongChar) : Gng :=
  let g := if c = .violation then { g with codeErr := satAdd 16 g.codeErr 1 } else g
  if !g.rxLock then
    let n := match c with
      | .comma => g.kRun + 1
      | .violation => 0
      | .other => g.kRun
    if n = 16 then { g with rxLock := true, kRun := 0, faultAges := [] } else { g with kRun := n }
  else
    let ages := (g.faultAges.map (· + 1)).filter (fun a => decide (a < 256))
    let ages := if c = .violation then 0 :: ages else ages
    if 4 ≤ ages.length then { g with rxLock := false, kRun := 0, faultAges := [] } else { g with faultAges := ages }

/-- GONG_RX_LOCK (R427): characters in the order of their arrival; the receiver gains or loses lock. -/
def execGongRxLock (chars : List (Fin 3)) (s : State) : Host.Outcome State Fault Refusal :=
  .next (if s.gng.rxEn then s.modGng (fun g => chars.foldl (fun g c => g.char (gongChar c.val)) g) else s)

/-- The effect of GNG_CONFIG (R429). -/
def effGngConfig : Effect := fun c s =>
  let p := c.packet
  let f := u8 p 9
  if 15 < u8 p 8 ∨ 7 < f ∨ 2 ^ 20 < u32 p 12 then refuse s
  else if s.fir.runs then finish s Status.paceRunning
  else good (s.modGng (fun g => { g with
    dev := u8 p 8, rxEn := bit f 0, txInv := bit f 1, rxInv := bit f 2, linkDelay := u32 p 12, rxLock := g.rxLock && bit f 0, kRun := 0 }))

/-- GNG_CONFIG (R429). -/
def execGngConfig (r : Fin 4) (s : State) : Host.Outcome State Fault Refusal :=
  .next (startCommand 0x1002 r.val (.ok []) effGngConfig s)

/-! I²C masters (R431). -/

/-- A write of SYS_I2C_XFER (R431). -/
def State.startI2c (s : State) (m : Nat) (value : BitVec 32) : State :=
  let x := s.i2cM m
  let hosts (j : I2cJob) : Bool := match j with
    | .host _ => true
    | _ => false
  if x.jobs.any hosts then s.setI2cM m { x with discard := true }
  else (s.setI2cM m { x with done := false, nack := false }).queueI2c m (.host value)

/-- I2C_XFER (R431). -/
def execI2cXfer (m : Fin 2) (value : BitVec 32) (s : State) : Host.Outcome State Fault Refusal :=
  .next (if s.running then s.startI2c m.val value else s)

/-- I2C_TRANSFER_DONE (R431): STOP ends; `data` is the byte read. -/
def execI2cTransferDone (m : Fin 2) (data : Fin 256) (nack : Bool) (s : State) : Host.Outcome State Fault Refusal :=
  let x := s.i2cM m.val
  match x.jobs with
  | .host w :: _ =>
    let got := if bit w.toNat 7 && !nack then data.val else x.data
    .next ((s.setI2cM m.val { x with data := got, done := true, nack := nack }).endI2c m.val)
  | _ => .next s

/-! GPIO (R432, R433). -/

/-- A write of GPIO_OUT (R432): the pins follow in the next tick. -/
def State.writeGpioOut (s : State) (value mask : BitVec 32) : State :=
  s.modGpio (fun g => { g with out := (g.out &&& ~~~mask) ||| (value &&& mask) })

/-- GPIO_OUT_WRITE (R432). -/
def execGpioOutWrite (value mask : BitVec 32) (s : State) : Host.Outcome State Fault Refusal :=
  .next (if s.running then s.writeGpioOut value mask else s)

/-- The pins show GPIO_OUT from the tick after its write (R432); those that LED_MATRIX holds keep their levels. -/
def State.tickGpio (s : State) : State :=
  if s.gpio.driven = s.gpio.out then s
  else
    let held := BitVec.ofNat 32 (maskOf 32 s.pinHeld)
    s.modGpio (fun g => { g with driven := (g.out &&& ~~~held) ||| (g.driven &&& held) })

/-- A CLE loop names the pin as its output (R320, R432). -/
def State.pinLoop (s : State) (pin : Nat) : Bool :=
  (List.range 48).any (fun n => (s.loop n).cfg.outKind == 3 && (s.loop n).cfg.outIndex == pin)

/-- The device drives the pin (R432): LEAD_ONLY leaves it to a lead or alone device. -/
def State.pinDriven (s : State) (pin : Nat) : Bool :=
  let p := s.pin pin
  if s.pinHeld pin then s.ledDriven
  else s.running && (!p.leadOnly || s.twn.role.acting) &&
    (p.mode == 1 || p.mode == 3 || (p.mode == 2 && !s.gpio.driven.getLsbD pin))

/-- The level of a GPIO pin (R401, R432): low while the pull-downs hold it, else what the device drives it to; a pin that it does not drive
shows a bit of `free`. -/
def State.pinLevel (s : State) (free pin : Nat) : Bool :=
  let p := s.pin pin
  if s.sys.pulledDown then false
  else if !s.pinDriven pin then bit free pin
  else if p.mode = 3 && !s.pinHeld pin then
    (match p.pwmAt with | some t => decide (s.tick < t + p.duty * p.period / 65536) | none => false)
  else s.gpio.driven.getLsbD pin

/-- A sample of every pin (R432): GPIO_IN takes the bits in which it agrees with the sample before it. -/
def Gpio.sample (g : Gpio) (x : BitVec 32) : Gpio :=
  let agree := match g.seen with
    | some y => ~~~(x ^^^ y)
    | none => 0
  { g with level := (g.level &&& ~~~agree) ||| (x &&& agree), seen := some x }

/-- The pins are sampled in each tick (R432); the levels of those that the device does not drive are free (log entry 4). -/
def State.sampleGpio (s : State) : State := s.drawn.modGpio (fun g => g.sample (BitVec.ofNat 32 (maskOf 32 (s.pinLevel s.draw))))

/-- DUTY of a pin that takes effect at its next period start (R320, R432): the output of the loop that names the pin, which before its
first publication there is the loop's last; without one, GPIO_CONFIG's value. -/
def State.dutyComing (s : State) (pin : Nat) : Nat :=
  let p := s.pin pin
  match (List.range 48).find? (fun n => (s.loop n).cfg.outKind == 3 && (s.loop n).cfg.outIndex == pin) with
  | some n => p.dutyLoop.getD (clampI 0 65535 (s.loop n).uPub).toNat
  | none => p.dutyCfg

/-- GPIO_PWM_PERIOD_START (R432): a period of the pin starts; a new DUTY takes effect and the pulse begins. -/
def execGpioPwmPeriodStart (pin : Fin 32) (s : State) : Host.Outcome State Fault Refusal :=
  let s := s.publishDue
  let p := s.pin pin.val
  let due := match p.pwmAt with | some t => decide (t + p.period ≤ s.tick) | none => true
  if p.mode ≠ 3 || s.pinHeld pin.val || !s.running || !due then .next s
  else
    let duty := s.dutyComing pin.val
    let s := s.setPin pin.val { p with duty := duty, pwmAt := some s.tick }
    .next (if s.pinDriven pin.val then s.emit (.gpioPwm pin.val (duty * p.period / 65536)) else s)

/-- The effect of GPIO_CONFIG (R433). -/
def effGpioConfig : Effect := fun c s =>
  let p := c.packet
  let pin := u8 p 8
  let mode := u8 p 9
  let old := s.pin pin
  if 31 < pin ∨ 3 < mode ∨ 1 < u8 p 10 ∨ (mode = 3 ∧ (u32 p 12 < 200 ∨ 2 ^ 20 < u32 p 12)) then refuse s
  else if s.pinHeld pin || (old.mode == 3 && mode != 3 && s.pinLoop pin) then finish s Status.busy
  else good (s.setPin pin { old with
    mode := mode, leadOnly := bit (u8 p 10) 0, period := u32 p 12, dutyCfg := u16 p 16,
    pwmAt := if old.mode = 3 then old.pwmAt else none })

/-- GPIO_CONFIG (R433). -/
def execGpioConfig (r : Fin 4) (s : State) : Host.Outcome State Fault Refusal :=
  .next (startCommand 0x1003 r.val (.ok []) effGpioConfig s)

end Sys2Proof.Machine
end

