-- ==== Sys2Proof/Machine/Registers.lean ====
section
/-! DEFINITION. The register file: what a read of each offset of BAR0 returns (R5, R9, R32 and the register descriptions of
chapters 02 to 19) and what a masked write does (R4, R32, R54). -/
namespace Sys2Proof.Machine

/-! Values of state names that only registers show. -/

def StreamState.num : StreamState → Nat
  | .closed => 0
  | .compress => 1
  | .decompress => 2
  | .attached => 3

def ChainState.num : ChainState → Nat
  | .disabled => 0
  | .running => 1
  | .matrix => 2
  | .fault => 3

/-- Index and remaining offset within an array of `n` register groups from `base` on, `stride` bytes each. -/
def within (base stride n o : Nat) : Option (Nat × Nat) :=
  if base ≤ o ∧ o < base + stride * n then some ((o - base) / stride, (o - base) % stride) else none

/-- Bits [31:0] of a signed number. -/
def lo32 (x : Int) : Nat := toBits 32 x

/-- Bits [63:32] of a signed number. -/
def hi32 (x : Int) : Nat := toBits 64 x / 2 ^ 32

/-! SYS (18, 19). -/

/-- SYS_BOOT_STATUS. -/
def Sys.bootStatus (y : Sys) : Nat :=
  y.imageRun + 4 * y.reason0 + 32 * y.reason1 + 256 * y.rollback + 2 ^ 14 * y.keyRevoked

/-- SYS_MEM_STATUS. -/
def Sys.memStatus (y : Sys) : Nat := y.memTrained + 16 * y.memFailed + 256 * b2n y.boardBad + 2 ^ 16 * y.memGib

/-- GNG_STATUS; the transmitter is driven by a lead or alone device (R426). -/
def State.gngStatus (s : State) : Nat :=
  let g := s.gng
  b2n g.rxLock + 2 * b2n (s.twn.role.acting && s.running) + 4 * b2n g.haltLevel + 16 * g.dev + 2 ^ 16 * g.codeErr

/-- GPIO_PIN_STATUS. -/
def State.pinStatus (s : State) (pin : Nat) : Nat :=
  let p := s.pin pin
  (if s.pinHeld pin then 4 else p.mode) + 8 * b2n p.leadOnly + 16 * b2n (s.pinLoop pin) + 32 * b2n (s.pinDriven pin) + 2 ^ 16 * p.duty

/-- Registers of SYS, PWR, RIM, GNG and GPIO. -/
def State.readSys (s : State) (o : Nat) : Nat :=
  match o with
  | 0x0000 => s.sys.bootStatus
  | 0x0004 => s.sys.straps
  | 0x0008 => s.sys.kind + 2 ^ 16 * s.sys.wdog
  | 0x000C => s.sys.pllLock + 256 * s.sys.pllLoss
  | 0x0010 => s.sys.ceCount
  | 0x0014 => s.sys.memStatus
  | 0x1000 => s.sys.railsOk + 2 ^ 16 * s.sys.railsLost
  | 0x1004 => s.sys.wakeEvents + 2 ^ 16 * s.sys.wakeN + 2 ^ 24 * s.sys.wakeThr + 2 ^ 27 * b2n s.sys.wakeFalling
  | 0x2000 => b2n s.rim.enable + 2 * b2n s.rim.snapValid + 2 ^ 16 * s.rim.updates
  | 0x2004 => s.rim.accepted + 2 ^ 16 * s.rim.discarded
  | 0x3000 => s.gngStatus
  | 0x3004 => s.gng.linkDelay
  | 0x4000 => s.gpio.level.toNat
  | 0x4004 => s.gpio.out.toNat
  | _ =>
    match within 0x1100 4 32 o, within 0x2100 4 64 o, within 0x4100 4 32 o, within 0x5000 16 2 o with
    | some (k, _), _, _, _ => (s.sys.scratch.get 0 k).toNat
    | _, some (k, _), _, _ => (s.rim.inbox.get 0 k).toNat
    | _, _, some (k, _), _ => s.pinStatus k
    | _, _, _, some (m, r) =>
      let x := s.i2cM m
      if r = 0 then x.speed else if r = 8 then x.data + 256 * b2n x.done + 512 * b2n x.nack + 1024 * b2n x.discard else 0
    | _, _, _, _ => 0

/-! HIF (02). -/

/-- HIF_STATUS. -/
def Hif.status (h : Hif) : Nat :=
  b2n h.ready + 2 * b2n h.fwAuth + 4 * b2n h.fwFallback + 16 * h.linkGen + 256 * h.linkWidth + 2 ^ 16 * h.epoch

/-- A register of ring pair `r`. -/
def State.readRingReg (s : State) (r o : Nat) : Nat :=
  let g := s.ring r
  match o with
  | 0x00 => g.sqBase % 2 ^ 32
  | 0x04 => g.sqBase / 2 ^ 32
  | 0x08 => b2n g.enable + 2 * g.sqLog2
  | 0x0C => g.head
  | 0x10 => g.cqBase % 2 ^ 32
  | 0x14 => g.cqBase / 2 ^ 32
  | 0x18 => g.cqLog2 + 64 * g.vector + 2 ^ 12 * b2n g.irqEn + 2 ^ 16 * g.coalCount
  | 0x1C => g.coalTime
  | 0x20 => b2n g.active + 2 * b2n g.error + 4 * g.errCause + 16 * b2n (s.cqStall r) + 2 ^ 16 * s.inflightOf r
  | _ => 0

/-- A register of the event ring. -/
def EventRing.readReg (g : EventRing) (o : Nat) : Nat :=
  match o with
  | 0x00 => g.base % 2 ^ 32
  | 0x04 => g.base / 2 ^ 32
  | 0x08 => g.log2 + 32 * b2n g.enable + 64 * g.vector + 2 ^ 12 * b2n g.irqEn + 2 ^ 16 * g.coalCount
  | 0x0C => g.coalTime
  | 0x10 => g.lost
  | _ => 0

/-- Registers of HIF. -/
def State.readHif (s : State) (o : Nat) : Nat :=
  match o with
  | 0x0000 => s.hif.status
  | 0x0004 => 2 * b2n s.hif.timeB
  | 0x0008 => s.hif.discard
  | 0x3800 => maskOf 32 (fun v => s.hif.pba.contains v)
  | 0x3804 => maskOf 32 (fun v => s.hif.pba.contains (v + 32))
  | _ =>
    match within 0x1000 0x40 4 o, within 0x1100 0x40 1 o, within 0x3000 16 64 o with
    | some (r, k), _, _ => s.readRingReg r k
    | _, some (_, k), _ => s.hif.eq.readReg k
    | _, _, some (v, k) =>
      let e := s.msixEntry v
      (if k = 0 then e.addrLo else if k = 4 then e.addrHi else if k = 8 then e.data else e.ctl).toNat
    | _, _, _ => 0

/-! PGQ, DEC and CMP (04, 05). -/

/-- Registers of PGQ. -/
def State.readPgq (s : State) (o : Nat) : Nat :=
  match o with
  | 0x1000 =>
    let live := s.pgq.queue.filter (fun i => (s.ctx i).live)
    live.head?.getD 0 + 256 * (s.pgq.queue.getLast?.getD 0)
      + 2 ^ 16 * (s.pgq.ctxs.count (fun c => c.state == .queued)) + 2 ^ 24 * (s.pgq.ctxs.count (fun c => c.state == .printing))
  | 0x1004 => s.engines
  | _ =>
    match within 0 16 256 o with
    | some (0, _) => 0
    | some (i, k) =>
      let c := s.ctx i
      if k = 0 then c.state.num + 16 * c.cause + 256 * c.succ + 2 ^ 16 * genNumber c.gen
      else if k = 4 then c.floor else if k = 8 then c.cmax else 0
    | none => 0

/-- A unit works on a block: compressors 0 and 1, decompressors 2 and 3. -/
def Cmp.busy (c : Cmp) (u : Nat) : Bool := c.jobs.any (fun j => j.unit == some u)

/-- Registers of DEC and CMP. -/
def State.readDec (s : State) (o : Nat) : Nat :=
  let d := s.dec
  match o with
  | 0x0000 => d.verified
  | 0x0004 => d.invalid
  | 0x0008 => d.lastReason + 2 ^ 16 * d.lastCtx
  | 0x000C => d.lastStrip + 2 ^ 9 * d.lastPlane + 2 ^ 16 * d.lastOffset
  | 0x0010 => d.lastRow
  | 0x1000 => s.cmp.inService + 4 * b2n (s.cmp.busy 0) + 8 * b2n (s.cmp.busy 1) + 16 * b2n (s.cmp.busy 2) + 32 * b2n (s.cmp.busy 3)
  | _ =>
    match within 0x1100 16 16 o with
    | some (i, k) =>
      let x := s.stream i
      if k = 0 then x.state.num + 4 * x.effort + 16 * b2n (s.cmp.active i) + 2 ^ 16 * (x.blocks % 65536)
      else if k = 4 then x.bytesIn % 2 ^ 32 else if k = 8 then x.bytesOut % 2 ^ 32 else 0
    | none => 0

/-! FET, MAL and geometry (03, 06). -/

/-- MAL_ENG_STATUS.STATE: 0 IDLE, 1 BUSY, 2 WAIT (R138; also with the other context empty, log entry 144), 3 OUT. -/
def State.engineState (s : State) (e : Nat) : Nat :=
  let g := s.engine e
  if !s.inService e then 3
  else if g.ctx0.isNone && g.ctx1.isNone then 0
  else if (s.pickContext g).isSome then 1 else 2

/-- MAL_ENG_STATUS.HOME: the lanes of the engine's own cluster homed here (R139). -/
def State.engineHome (s : State) (e : Nat) : Nat := maskOf 8 (fun j => s.homeOf (8 * (e / 8) + j) == some e)

/-- A register of engine `e`. -/
def State.readEngine (s : State) (e k : Nat) : Nat :=
  let g := s.engine e
  match k with
  | 0x00 => b2n g.offline
  | 0x04 => s.engineState e + 4 * g.outCause + 16 * b2n g.ctx0.isSome + 32 * b2n g.ctx1.isSome + 256 * s.engineHome e
  | 0x08 => g.beats
  | 0x0C => g.clusterSteals + 2 ^ 16 * g.globalSteals
  | 0x10 => g.busy / 1024 % 2 ^ 32
  | 0x14 => g.overs
  | _ => 0

/-- A register of strip cursor `c`. -/
def State.readCursor (s : State) (c k : Nat) : Nat :=
  match s.mal.cursors.find? (fun x => x.1 == c) with
  | some (_, x) =>
    if k = 0 then x.plane + 2 ^ 6 * x.strip + 2 ^ 15 + 2 ^ 16 * x.row + 2 ^ 19 * x.die
    else if k = 4 then x.tileRow else 0
  | none => 0

/-- Registers of FET, MAL and geometry. -/
def State.readMal (s : State) (o : Nat) : Nat :=
  match o with
  | 0x00000 => s.mal.cursors.length + 2 ^ 16 * s.mal.blankOnly
  | 0x00004 => s.mal.indexMiss
  | 0x00008 => s.mal.formLate
  | 0xFF000 => genNumber s.geo.active + 2 ^ 16 * genNumber s.geo.pending
  | 0xFF004 => s.runsUsed
  | 0xFF008 => s.excsUsed
  | _ =>
    match within 0x1000 0x40 64 o, within 0x3000 0x20 64 o, within 0x8000 16 4096 o with
    | some (e, k), _, _ => s.readEngine e k
    | _, some (l, k), _ =>
      let r := s.laneRing l
      if k = 0 then b2n r.depth1 + 2 ^ 16 * (r.lastReady % 65536) else if k = 4 then r.late else if k = 8 then r.underrun else 0
    | _, _, some (c, k) => s.readCursor c k
    | _, _, _ => 0

/-! SUB, FIR and SNR (07 to 09). -/

/-- Dies that hold at least one SPENT nozzle. -/
def State.diesSpent (s : State) : Nat :=
  (dedup ((s.sub.cur.defects.entries.filter (fun e => e.2 % 8 == stSpent)).map (fun e => e.1 / 2048))).length

/-- Registers of SUB. -/
def State.readSub (s : State) (o : Nat) : Nat :=
  match o with
  | 0x0000 => s.diesSpent
  | 0x0004 => s.sub.lastStamp % 2 ^ 32
  | 0x0008 => s.sub.effectLine % 2 ^ 32
  | 0x0010 => s.sub.lost
  | 0x0014 => s.sub.clipped
  | _ =>
    match within 0x0100 4 16 o, within 0x1000 4 1024 o, within 0x2000 4 1024 o, within 0x4000 16 256 o with
    | some (k, _), _, _, _ => s.sub.cur.policy.get 0 k
    | _, some (d, _), _, _ => (s.sub.cur.inState d stDead).length + 256 * (s.sub.cur.inState d stSpent).length
    | _, _, some (d, _), _ => s.sub.dieLost.get 0 d
    | _, _, _, some (m, k) => leNat (((s.sub.cur.mapAt (m / 16) (m % 16)).drop k).take 4)
    | _, _, _, _ => 0

/-- Registers of FIR. -/
def State.readFir (s : State) (o : Nat) : Nat :=
  let f := s.fir
  match o with
  | 0x00 => s.firStatus
  | 0x04 => f.lastLine.getD 0 % 2 ^ 32
  | 0x08 => f.lastLine.getD 0 / 2 ^ 32 % 2 ^ 16
  | 0x0C => f.floor
  | 0x10 => f.per
  | 0x14 => f.ceil
  | 0x18 => lo32 f.trim
  | 0x1C => f.drops
  | 0x20 => f.held
  | 0x24 => f.retreats
  | 0x28 => f.gongCrc + 2 ^ 16 * f.gongMissed
  | 0x2C => f.haltLines
  | _ =>
    match within 0x0100 4 8 o with
    | some (k, _) => maskOf 32 (fun i => f.noSlipMap.get false (32 * k + i))
    | none => 0

/-- A register of lane `l`. -/
def Lane.readReg (l : Lane) (k : Nat) : Nat :=
  match k with
  | 0x00 => l.ctlBits
  | 0x04 => l.state.num + 8 * l.cause + 64 * l.port + 256 * l.hubLane + 2 ^ 16 * l.hubSetup
  | 0x08 => l.delayAvg % 2 ^ 32
  | 0x0C => l.bound
  | 0x10 => l.syncErr + 2 ^ 16 * l.lockLoss
  | 0x14 => l.amErr + 2 ^ 16 * l.msgErr
  | 0x18 => l.timeRej
  | 0x1C => l.cmp1 + 2 ^ 16 * l.cmp4
  | 0x20 => l.cmp2 + 2 ^ 16 * l.cmp3
  | 0x24 => l.skip
  | _ => 0

/-- Registers of SNR. -/
def State.readSnr (s : State) (o : Nat) : Nat :=
  match within 0 0x40 64 o, within 0x2000 0x20 64 o with
  | some (l, k), _ => (s.lane l).readReg k
  | _, some (l, k) =>
    let h := (s.lane l).heads.get {} (k / 4)
    h.temp + 2 ^ 16 * h.state
  | _, _ => if o = 0x3000 then s.scansActive else 0

/-! CAM and STK (10, 11). -/

/-- CAM_VC_STATUS. -/
def CamUnit.status (c : CamUnit) : Nat :=
  let st := if c.stopping then 3 else if c.open_.isSome then 2 else if c.started.isSome then 1 else 0
  let set := match c.open_ with | some f => f.expset | none => c.expShown
  st + 4 * b2n (c.exps.any (fun e => e.cmd.isSome)) + 8 * b2n (match c.open_ with | some f => f.mixed | none => false) + 2 ^ 16 * set

/-- Registers of CAM and ISP. -/
def State.readCam (s : State) (o : Nat) : Nat :=
  match within 0 0x40 4 o, within 0x1000 0x40 16 o with
  | some (p, k), _ =>
    let x := s.camPort p
    if k = 0 then b2n (x.lanes ≠ 0) + 2 * x.lanes + 16 * b2n x.deskewed + 256 * maskOf 4 (fun v => (s.camUnit (4 * p + v)).started.isSome)
    else if k = 4 then x.eccCorr + 2 ^ 16 * x.eccUncorr else if k = 8 then x.crcErr + 2 ^ 16 * x.dtDiscard else 0
  | _, some (u, k) =>
    let c := s.camUnit u
    if k = 0 then c.status else if k = 4 then c.lastFrame else if k = 8 then c.truncs + 2 ^ 16 * c.timeouts
    else if k = 12 then c.codeSkip else 0
  | _, _ => if o = 0x8000 then s.ispRound else 0

/-- Registers of STK. -/
def State.readStk (s : State) (o : Nat) : Nat :=
  let t := s.stk
  match o with
  | 0x0000 => b2n t.enabled + 2 * b2n s.stkSuspended + 256 * t.queued + 2 ^ 16 * t.atWork
  | 0x0004 => t.suspects
  | 0x0008 => t.good + 2 ^ 16 * t.weak
  | 0x000C => t.dead + 2 ^ 16 * t.incon
  | 0x0010 => t.retest.length + 2 ^ 16 * t.overflow
  | _ =>
    match within 0x0100 16 16 o, within 0x80000 8 65536 o with
    | some (u, k), _ =>
      (match s.stkMap u with
      | some m => if k = 0 then m.base + 2 ^ 16 * (m.cols - 1) + 2 ^ 31 else if k = 4 then lo32 m.col0 else if k = 8 then lo32 m.cpp else 0
      | none => 0)
    | _, some (g, 0) =>
      let c := s.stkCol g
      c.count + 256 * c.state + 1024 * c.channel + 2 ^ 16 * toBits 16 (c.e.getD c.channel 0)
    | _, _ => 0

/-! MOT and ENC (12, 13). -/

/-- A register of axis `x`. -/
def State.readAxis (s : State) (x k : Nat) : Nat :=
  let a := s.axis x
  match k with
  | 0x00 => s.axisStatus x
  | 0x04 => lo32 a.p
  | 0x08 => hi32 a.p
  | 0x0C => lo32 a.v
  | 0x10 => lo32 a.a
  | 0x14 => if a.aligned then lo32 a.ferr else 0
  | 0x18 => toBits 16 a.dutyA + 2 ^ 16 * toBits 16 a.dutyB
  | _ => 0

/-- PERIOD as last written (R4). -/
def Mot.periodWritten (m : Mot) : Nat :=
  match m.periodNext with
  | some p => p.val
  | none => m.periodReady.getD m.period

/-- Registers of MOT. -/
def State.readMot (s : State) (o : Nat) : Nat :=
  match within 0x1000 0x40 16 o, within 0x4000 0x200 16 o with
  | some (x, k), _ => s.readAxis x k
  | _, some (x, k) =>
    let t := (s.axis x).table x
    if x < 2 then 0 else t.getD (k / 2) 0 + 2 ^ 16 * t.getD (k / 2 + 1) 0
  | _, _ => if o = 0 then s.mot.periodWritten else 0

/-- A register of feedback channel `c`. -/
def Chan.readReg (c : Chan) (k : Nat) : Nat :=
  match k with
  | 0x00 => c.status
  | 0x04 => lo32 c.count
  | 0x08 => hi32 c.count
  | 0x0C => lo32 c.v
  | 0x10 => c.trans + 2 ^ 16 * c.faults
  | 0x14 => toBits 16 c.dev + 2 ^ 16 * c.indexes
  | _ => 0

/-- ENC_SW_CTL as last written (R4): DEBOUNCE and INVERT. -/
def Switch.written (q : Switch) : Nat :=
  match q.ctlNext with
  | some g => g.val.1 + 2 ^ 16 * b2n g.val.2
  | none => q.debounce + 2 ^ 16 * b2n q.invert

/-- ENC_CMP_STATUS of an output whose loaded list has taken over (R305). -/
def Cmpr.status (o : Cmpr) (tick : Nat) : Nat :=
  let o := o.settle tick
  o.next + 512 * b2n o.loaded + 1024 * b2n (match o.pulse with | some p => decide (p.1 ≤ tick) && decide (tick < p.2) | none => false)
    + 2 ^ 16 * o.merged

/-- Registers of ENC. -/
def State.readEnc (s : State) (o : Nat) : Nat :=
  match o with
  | 0x1000 => maskOf 16 s.switchLevel
  | 0x1100 => maskOf 4 (fun n => (s.probe n).armed) + 16 * maskOf 4 (fun n => (s.probe n).level)
  | _ =>
    match within 0 0x40 8 o, within 0x1004 4 16 o, within 0x1200 4 8 o with
    | some (c, k), _, _ => (s.chan c).readReg k
    | _, some (w, _), _ => (s.switchIn w).written
    | _, _, some (n, _) => (s.cmpr n).status s.tick
    | _, _, _ => 0

/-! CLE, LED and TIM (14 to 16). -/

/-- An ADC input holds a slot (R313). -/
def State.scheduled (s : State) (n : Nat) : Bool := [0, 1].any (fun a => (s.slotsOf a).contains n)

/-- Registers of CLE and ADC. -/
def State.readCle (s : State) (o : Nat) : Nat :=
  match within 0 16 32 o, within 0x2000 0x20 48 o with
  | some (n, k), _ =>
    let i := s.adcIn n
    if k = 0 then lo32 i.value else if k = 4 then i.code + 2 ^ 16 * b2n i.valid + 2 ^ 17 * b2n (s.scheduled n) else 0
  | _, some (n, k) =>
    let l := s.loop n
    if k = 0 then l.status else if k = 4 then lo32 l.y else if k = 8 then lo32 l.rw else if k = 12 then lo32 l.uPub else 0
  | _, _ =>
    if o = 0x1000 then s.sectionLoad + 2 ^ 16 * (s.cle.loops.count (fun l => l.cfg.enable)) + 2 ^ 31 * b2n s.cle.permit else 0

/-- Registers of LED. -/
def State.readLed (s : State) (o : Nat) : Nat :=
  match within 0 0x40 8 o, within 0x1000 16 64 o, within 0x2000 16 8 o with
  | some (n, k), _, _ =>
    let c := s.chain n
    if k = 0 then c.state.num + 4 * b2n s.ledDriven + 8 * c.cfg.ndrv + 1024 * c.mtx.lines + 2 ^ 16 * c.mismatch
    else if k = 4 then c.frames else 0
  | _, some (n, k), _ =>
    let z := s.zone n
    if k = 0 then z.zl + 2 ^ 16 * b2n z.on + 2 ^ 17 * b2n z.unknown else if k = 4 then z.switches else 0
  | _, _, some (n, k) =>
    let x := s.colour n
    if k = 0 then x.comps.getD 0 0 + 2 ^ 16 * x.comps.getD 1 0 else if k = 4 then x.comps.getD 2 0 + 2 ^ 16 * x.comps.getD 3 0
    else if k = 8 then b2n (s.colourValid n) + 2 ^ 16 * x.nacks else 0
  | _, _, _ => 0

/-- Domain A in ns at the present tick (R354). -/
def State.nowA (s : State) : Nat := toBits 64 ((s.domainTime false s.tick 0).fdiv 65536)

/-- Registers of TIM. -/
def State.readTim (s : State) (o : Nat) : Nat :=
  match o with
  | 0x0000 => s.tim.primary + 2 * b2n s.tim.switching + 4 * (s.inst 0).state.num + 32 * (s.inst 1).state.num
  | 0x0004 => s.tick % 2 ^ 32
  | 0x0008 => s.tick / 2 ^ 32 % 2 ^ 32
  | 0x0010 => s.nowA % 2 ^ 32
  | 0x0014 => s.nowA / 2 ^ 32
  | 0x0018 => lo32 (satSigned 32 ((s.residueAt s.tick).fdiv 65536))
  | _ =>
    match within 0x1000 0x40 2 o, within 0x2000 0x40 2 o with
    | some (i, k), _ => if k = 0 then lo32 (s.inst i).rate else if k = 4 then lo32 (satSigned 32 ((s.inst i).theta.fdiv 65536)) else 0
    | _, some (p, k) =>
      let x := s.ptpPort p
      if k = 0 then x.delay % 2 ^ 32 else if k = 4 then x.accepted + 2 ^ 16 * x.discard else if k = 8 then x.sent + 2 ^ 16 * x.late else 0
    | _, _ => 0

/-- Registers of TWN (17). -/
def State.readTwn (s : State) (o : Nat) : Nat :=
  match o with
  | 0x00 => s.twnStatus
  | 0x04 => s.twnTapStatus
  | 0x08 => s.twnPermit
  | 0x0C => s.twnCopy
  | 0x10 => s.twnOffset
  | _ => 0

/-! The whole file. -/

/-- A read of the register at an offset of BAR0 (R5, R9, R32). -/
def State.readReg (s : State) (off : Nat) : Nat :=
  let o := off % 0x100000
  match off / 0x100000 with
  | 0x0 => s.readSys o
  | 0x1 => s.readHif o
  | 0x2 => s.readPgq o
  | 0x3 => s.readDec o
  | 0x4 => s.readMal o
  | 0x5 => s.readSub o
  | 0x6 => s.readFir o
  | 0x7 => s.readSnr o
  | 0x8 => s.readCam o
  | 0x9 => s.readStk o
  | 0xA => s.readMot o
  | 0xB => s.readEnc o
  | 0xC => s.readCle o
  | 0xD => s.readLed o
  | 0xE => s.readTim o
  | 0xF => s.readTwn o
  | _ => 0

/-! Host reads (R31, R32). -/

/-- The word that RIM_A selects (R421): the window, then SNAP_VALID and the update counter. -/
def Rim.word (m : Rim) (a : Nat) : Nat :=
  if a < 0x100 then m.window.getD a 0
  else if a = 0x100 then m.status else 0

/-- RIM_D as the X21 drives it in a Rim cycle (R420, R421), by the levels of RIM_CS_N and RIM_WE_N and by RIM_A: the word selected, with no
wait cycle; none where it releases the pins, as also in reset and in DORMANT. A read cycle changes nothing. -/
def State.rimData (s : State) (csN weN : Bool) (a : Fin 512) : Option Nat :=
  if s.running && !csN && weN then some (s.rim.word a.val) else none

/-- A register of BAR2 (R31): the mirror of what a Rim read cycle returns. -/
def State.readBar2 (s : State) (off : Nat) : Nat := s.rim.word (off / 4)

/-- A register of either BAR, as a host read at tick `s.tick` finds it. -/
def State.hostRead32 (s : State) (bar2 : Bool) (off : Nat) : Nat := if bar2 then s.readBar2 off else s.readReg off

/-- The byte lanes of a word that are enabled; the others are not returned, which reads 0 here. -/
def laneBytes (enables : Fin 16) (w : Nat) : List Byte := (leBytes 4 w).zipIdx.map (fun x => if bit enables.val x.2 then x.1 else 0)

/-- Two consecutive registers, read in one tick (R32). -/
def State.hostRead64 (s : State) (bar2 : Bool) (off : Nat) : Nat :=
  s.hostRead32 bar2 off + 2 ^ 32 * s.hostRead32 bar2 (off + 4)

/-- The bytes of the registers from `off` on, by their byte enables (R32): pair after pair in rising address order, each pair
from one tick, the k-th from the state `at_ k` of the tick in which it is served. -/
def readPairs (bar2 : Bool) (at_ : Nat → State) : Nat → Nat → List (Fin 16) → List Byte
  | _, _, [] => []
  | k, off, [e] => laneBytes e ((at_ k).hostRead32 bar2 off)
  | k, off, e :: f :: rest =>
    laneBytes e ((at_ k).hostRead32 bar2 off) ++ laneBytes f ((at_ k).hostRead32 bar2 (off + 4)) ++ readPairs bar2 at_ (k + 1) (off + 8) rest

/-- What a host read of the registers from `off` on returns (R32); none: it runs past the end of its BAR and is a malformed TLP
(`State.malformed`). -/
def hostRead (bar2 : Bool) (at_ : Nat → State) (off : Nat) (enables : List (Fin 16)) : Option (List Byte) :=
  if insideBar bar2 off enables.length then some (readPairs bar2 at_ 0 off enables) else none

/-- A masked write: the bits of `mask` come from `value` (R54). -/
def maskedWrite (old value mask : Nat) : Nat := (old &&& (0xFFFFFFFF ^^^ mask)) ||| (value &&& mask)

/-- The write in a register of HIF: ERROR is cleared by a written 1, and a doorbell or RINGS_RESET acts when its bits are written. -/
def State.maskWriteHif (s : State) (o value mask : Nat) : State :=
  if 0x2000 ≤ o ∧ o < 0x3000 then (if mask % 65536 = 0 then s else s.writeHif (hifBase + o) (value &&& mask))
  else if (within 0x1000 0x40 4 o).any (fun x => x.2 == 0x20) then s.writeHif (hifBase + o) (value &&& mask)
  else s.writeHif (hifBase + o) (maskedWrite (s.readHif o) value mask)

/-- The write of SNR_LANE_CTL: it acts at the lane's next entry to TRAIN (R183). -/
def Lane.writeCtl (l : Lane) (v : Nat) : Lane :=
  { l with txPreset := bits v 3 0, txInv := bit v 4, rxInv := bit v 5, autoRetrain := bit v 6 }

/-- The write of ENC_SW_CTL: it takes effect in the tick after (13). -/
def State.writeSwitch (s : State) (w v : Nat) : State :=
  let now := s.switchCtl w
  s.modSwitchIn w (fun q => { q with debounce := now.1, invert := now.2,
                                     ctlNext := some { val := (bits v 15 0, bit v 16), tick := s.tick } })

/-- A masked write of a register of SYS, PWR, GPIO or I²C. -/
def State.maskWriteSys (s : State) (o value mask : Nat) : State :=
  let ones := value &&& mask
  match o with
  | 0x000C => s.modSys (fun y => { y with pllLoss := y.pllLoss &&& (15 ^^^ bits ones 11 8) })
  | 0x1000 => s.modSys (fun y => { y with railsLost := y.railsLost &&& (1023 ^^^ bits ones 25 16) })
  | 0x4004 => s.writeGpioOut (BitVec.ofNat 32 value) (BitVec.ofNat 32 mask)
  | _ =>
    match within 0x1100 4 32 o, within 0x5000 16 2 o with
    | some (k, _), _ => s.modSys (fun y => { y with
        scratch := y.scratch.set 0 k (BitVec.ofNat 32 (maskedWrite (y.scratch.get 0 k).toNat value mask)) })
    | _, some (m, 0) => s.setI2cM m { s.i2cM m with speed := maskedWrite (s.i2cM m).speed value mask % 4 }
    | _, some (m, 4) => if mask % 2 ^ 24 = 0 then s else s.startI2c m (BitVec.ofNat 32 (ones % 2 ^ 24))
    | _, some (m, 8) => if bit ones 10 then s.setI2cM m { s.i2cM m with discard := false } else s
    | _, _ => s

/-- A masked write of one register (R4, R32, R54): fields that are read-only or reserved, and reserved offsets, ignore it. -/
def State.writeReg (s : State) (off value mask : Nat) : State :=
  let o := off % 0x100000
  match off / 0x100000 with
  | 0x0 => s.maskWriteSys o value mask
  | 0x1 => s.maskWriteHif o value mask
  | 0x4 =>
    (match within 0x1000 0x40 64 o with
    | some (e, 0) => if bit mask 0 then s.writeOffline e (bit value 0) else s
    | _ => s)
  | 0x6 =>
    (match within 0x0100 4 8 o with
    | some (k, _) => s.modFir (fun f => { f with noSlipMap := (List.range 32).foldl (fun t i =>
        if bit (value &&& mask) i then t.set false (32 * k + i) false else t) f.noSlipMap })
    | none => s)
  | 0x7 =>
    (match within 0 0x40 64 o with
    | some (l, 0) => s.modLane l (fun x => x.writeCtl (maskedWrite x.ctlBits value mask))
    | _ => s)
  | 0xA =>
    if o = 0 ∧ mask % 2 ^ 14 ≠ 0 then
      s.modMot (fun m => { m with periodNext := some { val := maskedWrite m.periodWritten value mask % 2 ^ 14, tick := s.tick } })
    else s
  | 0xB =>
    (match within 0x1004 4 16 o with
    | some (w, _) => if mask % 2 ^ 17 = 0 then s else s.writeSwitch w (maskedWrite (s.switchIn w).written value mask)
    | none => s)
  | _ => s

/-- The value a write would give a field lies outside the range stated for it (R6): PERIOD (R286), TX_PRESET and SPEED. -/
def State.regRangeBad (s : State) (off value mask : Nat) : Bool :=
  let new := maskedWrite (s.readReg off) value mask
  if off = 0xA00000 then
    decide (mask % 2 ^ 14 ≠ 0) && (decide (new % 2 ^ 14 < 2000) || decide (10000 < new % 2 ^ 14) || new % 2 == 1)
  else if (within 0x700000 0x40 64 off).any (fun x => x.2 == 0) then decide (mask % 16 ≠ 0) && decide (10 < new % 16)
  else if off = 0x5000 ∨ off = 0x5010 then decide (mask % 4 ≠ 0) && new % 4 == 3
  else false

/-- The offset names a register of BAR0 (R54). -/
def regOffsetOk (off : Nat) : Bool := off % 4 == 0 && decide (off < 0x1000000)

/-- The effect of SYS_REG_READ (R54). -/
def effSysRegRead : Effect := fun c s =>
  let off := u32 c.packet 8
  if !regOffsetOk off then refuse s
  else answer s (leBytes 4 (s.readReg off))

/-- SYS_REG_READ (R54). -/
def execSysRegRead (r : Fin 4) (s : State) : Host.Outcome State Fault Refusal :=
  .next (startCommand 0x0103 r.val (.ok []) effSysRegRead s)

/-- The effect of SYS_REG_WRITE (R54): a masked write of a read-only field is ignored and completes with OK. -/
def effSysRegWrite : Effect := fun c s =>
  let p := c.packet
  if !regOffsetOk (u32 p 8) || s.regRangeBad (u32 p 8) (u32 p 12) (u32 p 16) then refuse s
  else good (s.writeReg (u32 p 8) (u32 p 12) (u32 p 16))

/-- SYS_REG_WRITE (R54). -/
def execSysRegWrite (r : Fin 4) (s : State) : Host.Outcome State Fault Refusal :=
  .next (startCommand 0x0104 r.val (.ok []) effSysRegWrite s)

end Sys2Proof.Machine
end

