-- ==== Sys2Proof/Machine/Subst.lean ====
section
/-! DEFINITION. The substitution commands (R220 to R223). -/
namespace Sys2Proof.Machine

/-! An entry of SUB_DEFECTS (R220). -/

def defNoz (e : Nat) : Nat := bits e 20 0
def defState (e : Nat) : Nat := bits e 23 21
def defMap (e : Nat) : Nat := bits e 27 24

/-- An entry keeps R220. -/
def defOk (e : Nat) : Bool :=
  (defState e == 0 || defState e == 1 || defState e == 3 || defState e == 4) && bits e 31 30 == 0

/-- Apply an entry of SUB_DEFECTS (R216, R220). -/
def SubChange.entry (g : GeoSet) (c : SubChange) (e : Nat) : SubChange :=
  let c := if bit e 28 then c.write g (defNoz e) (defState e) false else c
  if bit e 29 then c.writeIndex (defNoz e) (defMap e) else c

/-- The entries of a list of bytes. -/
def defEntries (n : Nat) (bytes : List Byte) : List Nat := (List.range n).map (fun i => u32 bytes (4 * i))

/-- The checks that SUB_DEFECTS' packet alone shows (R220). -/
def subDefectsBad (p : List Byte) : Bool :=
  let n := u32 p 16
  let inline_ := u64 p 8 == 0
  u64 p 8 % 4 ≠ 0 || n == 0 || decide ((if inline_ then 8 else 65536) < n) || decide (1 < u8 p 20)
    || !zeroRange p (if inline_ then 24 + 4 * n else 24) 56

/-- Commit the entries of SUB_DEFECTS (R220). A nozzle whose state the host writes leaves the retest list (R260); RESET_ALL
writes every nozzle's. -/
def subDefectsCommit (p : List Byte) (es : List Nat) (s : State) : State × Reply :=
  if !es.all defOk then refuse s
  else
    let start : SubTables := if bit (u8 p 20) 0 then { s.sub.cur with defects := {}, index := {} } else s.sub.cur
    let c := es.foldl (SubChange.entry s.activeSet) { tables := start }
    let set := (es.filter (fun e => bit e 28)).map defNoz
    let s := s.modSub (fun u => { u with hostAt := es.foldl (fun t e => t.set 0 (defNoz e) (s.pairTick + 1)) u.hostAt,
                                         resetAt := if bit (u8 p 20) 0 then s.pairTick + 1 else u.resetAt })
    let s := s.modStk (fun k => { k with retest := if bit (u8 p 20) 0 then [] else k.retest.filter (fun r => !set.contains r.1) })
    answer (s.commitSub c false) (leBytes 4 es.length ++ leBytes 4 c.spent.length ++ leBytes 4 c.promoted.length ++ zeros 4)

/-- The effect of SUB_DEFECTS (R220). -/
def effSubDefects : Effect := fun c s =>
  let p := c.packet
  if subDefectsBad p then refuse s
  else if u64 p 8 = 0 then subDefectsCommit p (defEntries (u32 p 16) (p.drop 24)) s
  else withHost c s (fun bytes => subDefectsCommit p (defEntries (u32 p 16) bytes) s)

/-- SUB_DEFECTS (R216, R217, R220). -/
def execSubDefects (r : Fin 4) (d : HostRead) (s : State) : Host.Outcome State Fault Refusal :=
  .next (startCommand 0x0401 r.val d effSubDefects s)

/-- The effect of SUB_LEVELMAP (R221). -/
def effSubLevelmap : Effect := fun c s =>
  let p := c.packet
  if 15 < u8 p 8 ∨ 15 < u8 p 9 then refuse s
  else
    let es := (List.range 16).map (fun i => u8 p (16 + i))
    let k := s.activeSet.classAt (u8 p 8)
    let top := if k.bits = 0 then 15 else k.max
    if es.getD 0 0 ≠ 0 ∨ es.any (fun e => decide (16 ≤ e)) = true ∨ (es.drop (top + 1)).any (fun e => e ≠ 0) = true then
      finish s Status.mapRange
    else
      let t := s.sub.cur
      let m := if es = identityMap then [] else es
      good (s.commitSub { tables := { t with maps := t.maps.set [] (16 * u8 p 8 + u8 p 9) m } } false)

/-- SUB_LEVELMAP (R211, R217, R221). -/
def execSubLevelmap (r : Fin 4) (s : State) : Host.Outcome State Fault Refusal :=
  .next (startCommand 0x0402 r.val (.ok []) effSubLevelmap s)

/-- The effect of SUB_POLICY (R222). -/
def effSubPolicy : Effect := fun c s =>
  let p := c.packet
  let f := u8 p 9
  if (15 < u8 p 8 ∧ u8 p 8 ≠ 255) ∨ 32 ≤ f ∨ (bit f 2 = true ∧ bit f 3 = true) then refuse s
  else
    let t := s.sub.cur
    let ks := if u8 p 8 = 255 then List.range 16 else [u8 p 8]
    good (s.commitSub { tables := { t with policy := ks.foldl (fun m k => m.set 0 k f) t.policy } } false)

/-- SUB_POLICY (R217, R222). -/
def execSubPolicy (r : Fin 4) (s : State) : Host.Outcome State Fault Refusal :=
  .next (startCommand 0x0403 r.val (.ok []) effSubPolicy s)

/-- The results of SUB_QUERY of a die (R223). -/
def subDieResults (d : Nat) (s : State) : List Byte :=
  let n (st : Nat) : List Byte := leBytes 2 (s.sub.cur.inState d st).length
  let p := s.activeSet.headAt (headOfDie d)
  n stDead ++ n stSpent ++ n stBlocked ++ n stNoTake ++ [(s.activeSet.headroom d).getD 0,
    if p.occupied then s.sub.cur.policy.get 0 p.cls else 0, 0, 0] ++ leBytes 4 (s.sub.dieLost.get 0 d)

/-- The byte of SUB_QUERY's dump for a nozzle (R223). -/
def subDumpByte (t : SubTables) (n : Nat) : Byte := t.defects.get 0 n + 16 * t.index.get 0 n

/-- The effect of SUB_QUERY (R223). A dump that host memory does not take fails the command, with
DMA_ERROR (R59, log entry 120). -/
def effSubQuery : Effect := fun c s =>
  let p := c.packet
  if u8 p 8 = 0 then
    if 1023 < u16 p 12 ∨ zeroRange p 16 32 = false then refuse s else answer s (subDieResults (u16 p 12) s)
  else if u8 p 8 = 1 then
    let first := u32 p 24
    let n := u32 p 28
    if u64 p 16 % 8 ≠ 0 ∨ n = 0 ∨ 2097152 < first + n ∨ u16 p 12 ≠ 0 then refuse s
    else if s.hif.linkDown || s.hostRefuses (u64 p 16) n then refuse (s.dmaError c 4 (u64 p 16))
    else answer (s.emit (.host (u64 p 16) ((List.range n).map (fun i => subDumpByte s.sub.cur (first + i))))) (leBytes 4 n ++ zeros 12)
  else refuse s

/-- SUB_QUERY (R223). -/
def execSubQuery (r : Fin 4) (s : State) : Host.Outcome State Fault Refusal :=
  .next (startCommand 0x0404 r.val (.ok []) effSubQuery s)

end Sys2Proof.Machine
end

