-- ==== Sys2Proof/Machine/Commit.lean ====
section
/-! DEFINITION. Commits that do not happen at a command's start: at a page boundary (R45) and under the mirror of the twins
(R380); and a command whose opcode is not implemented (R55). -/
namespace Sys2Proof.Machine

/-- Part 0 of the effects by opcode (R54). -/
def effects0 : List (Nat × Effect) := [
  (0x0101, effSysIdentify),
  (0x0102, effSysHealth),
  (0x0103, effSysRegRead),
  (0x0104, effSysRegWrite),
  (0x0105, effSysEventMask),
  (0x0106, effSysFwUpdate),
  (0x0107, effSysEnterDormant),
  (0x0201, effGeoHeadclass),
  (0x0202, effGeoHead),
  (0x0203, effGeoRuns),
  (0x0204, effGeoExceptions),
  (0x0205, effGeoCommit),
  (0x0301, effPageOpen),
  (0x0302, effPageAddTiles),
  (0x0303, effPageClose),
  (0x0304, effPageQueue),
  (0x0305, effPageAbort),
  (0x0306, effPageQuery),
  (0x0307, effPageChain),
  (0x0401, effSubDefects),
  (0x0402, effSubLevelmap)]

/-- Part 1 of the effects by opcode (R54). -/
def effects1 : List (Nat × Effect) := [
  (0x0403, effSubPolicy),
  (0x0404, effSubQuery),
  (0x0501, effPaceConfig),
  (0x0502, effPaceStart),
  (0x0503, effPaceStop),
  (0x0504, effPaceRole),
  (0x0505, effPaceQuery),
  (0x0601, effSnrLaneEnable),
  (0x0602, effSnrLaneDisable),
  (0x0603, effSnrEyeScan),
  (0x0604, effSnrHeadMsg),
  (0x0605, effSnrQuery),
  (0x0701, effCamPort),
  (0x0702, effCamSensorDesc),
  (0x0703, effCamSetExposure),
  (0x0704, effCamPipe),
  (0x0705, effCamOutputs),
  (0x0706, effCamStart),
  (0x0707, effCamStop),
  (0x0801, effStkConfig),
  (0x0802, effStkMap)]

/-- Part 2 of the effects by opcode (R54). -/
def effects2 : List (Nat × Effect) := [
  (0x0803, effStkLadder),
  (0x0804, effStkQuery),
  (0x0901, effMotAxis),
  (0x0902, effMotSine),
  (0x0903, effMotProfile),
  (0x0904, effMotMove),
  (0x0905, effMotLimits),
  (0x0906, effMotStop),
  (0x0907, effMotQuery),
  (0x0A01, effEncConfig),
  (0x0A02, effEncSet),
  (0x0A03, effEncProbe),
  (0x0A04, effEncCompare),
  (0x0A05, effEncQuery),
  (0x0B01, effCleLoop),
  (0x0B02, effCleSections),
  (0x0B03, effCleMode),
  (0x0B04, effCleSetpoint),
  (0x0B05, effCleQuery),
  (0x0B10, effAdcConfig),
  (0x0C01, effLedChain)]

/-- Part 3 of the effects by opcode (R54). -/
def effects3 : List (Nat × Effect) := [
  (0x0C02, effLedMatrix),
  (0x0C03, effLedLevels),
  (0x0C04, effLedZones),
  (0x0D01, effTimPort),
  (0x0D02, effTimDomain),
  (0x0D03, effTimAdjust),
  (0x0D04, effTimSelect),
  (0x0D05, effTimQuery),
  (0x0E01, effTwnConfig),
  (0x0E02, effTwnHandover),
  (0x0E03, effTwnProofTest),
  (0x0E04, effTwnQuery),
  (0x0F01, effCmpOpen),
  (0x0F02, effCmpCompress),
  (0x0F03, effCmpDecompress),
  (0x0F04, effCmpSave),
  (0x0F05, effCmpRestore),
  (0x0F06, effCmpClose),
  (0x1001, effRimConfig),
  (0x1002, effGngConfig),
  (0x1003, effGpioConfig)]

/-- The effect of an opcode (R54). -/
def effectOf (code : Nat) : Option Effect :=
  ((effects0 ++ effects1 ++ effects2 ++ effects3).find? (fun x => x.1 == code)).map (fun x => x.2)

/-! AT_BOUNDARY (R45). -/

/-- The commands that wait under AT_BOUNDARY and are due: a page boundary has fallen strictly after their start, or no page is
QUEUED or PRINTING. -/
def State.boundaryDue (s : State) : List (Nat × Cmd) :=
  s.hif.inflight.filterMap (fun c => match c.phase with
    | .waiting order start =>
      if !s.anyLive || (match s.pgq.lastBoundary with | some b => decide (start < b) | none => false) then some (order, c) else none
    | _ => none)

/-- The first of them in the order in which they started. -/
def firstStarted : List (Nat × Cmd) → Option (Nat × Cmd)
  | [] => none
  | x :: rest => match firstStarted rest with
    | some y => if y.1 < x.1 then some y else some x
    | none => some x

/-- AT_BOUNDARY_COMMIT (R45): the due command that started first commits; it is checked again. -/
def execAtBoundaryCommit (s : State) : Host.Outcome State Fault Refusal :=
  match firstStarted s.boundaryDue with
  | none => .next s
  | some (_, c) =>
    match effectOf (pktOpcode c.packet), opInfo (pktOpcode c.packet) with
    | some eff, some o =>
      let x := eff c s
      let mirrors := opClass o c.packet == .mirrored && s.paired
      .next (if x.2.failed && !(x.2.atCommit c && mirrors) then settle c.id x else commitOrMirror c (opClass o c.packet) eff s)
    | _, _ => .next s

/-! The mirror (R380). -/

/-- A shadow runs a mirrored command's effect with the stamp that the lead passed for it (R218); whatever the effect does stands. -/
def State.shadowCommit (s : State) (stamp : Option Nat) (c : Cmd) (eff : Effect) : State :=
  (eff c (s.modSub (fun u => { u with leadStamp := stamp }))).1.modSub (fun u => { u with leadStamp := none })

/-- MIRRORED_COMMIT (R218, R380): in pair tick T both twins commit a mirrored command; the shadow runs the stored packet, a SUB
change with the stamp of the lead. -/
def execMirroredCommit (tag : Nat) (stamp : Option Nat) (s : State) : Host.Outcome State Fault Refusal :=
  match s.mirroring tag with
  | some (c, _, some t) =>
    if s.pairTick < t then .next s
    else match effectOf (pktOpcode c.packet) with
      | some eff => .next (settle c.id (eff c s))
      | none => .next s
  | _ =>
    match s.twn.mirrored.find? (fun m => m.tag == tag && (match m.commit with | some t => decide (t ≤ s.pairTick) | none => false)) with
    | none => .next s
    | some m =>
      let s := s.modTwn (fun t => { t with mirrored := t.mirrored.filter (fun x => x.tag ≠ tag) })
      let c : Cmd := { id := 0, ring := 0, packet := m.packet, host := m.host }
      match effectOf (pktOpcode m.packet) with
      | some eff => .next (s.shadowCommit stamp c eff)
      | none => .next s

/-- The lead commits without its shadow (R380): the shadow's IN_STEP falls, on the shadow itself with the next snapshot (log entry
162). -/
def Twn.goAlone (t : Twn) : Twn :=
  { t with inStep := false, lone := true, partnerTap := if bit t.partnerTap 6 then t.partnerTap - 64 else t.partnerTap }

/-- ACK_TIMEOUT (R380): no ACK within 8,000 ticks, or the partner is ABSENT: the lead commits alone and the shadow is out of step. -/
def execAckTimeout (tag : Nat) (s : State) : Host.Outcome State Fault Refusal :=
  match s.mirroring tag with
  | some (c, sent, none) =>
    let acked := s.hears && s.arrives (fun i => match i with
      | .ackRecordRx t => t == tag
      | _ => false)
    if (s.tick < sent + 8000 && !s.twn.absent) || acked then .next s
    else match effectOf (pktOpcode c.packet) with
      | some eff =>
        .next (settle c.id (eff c (s.modTwn Twn.goAlone)))
      | none => .next s
  | _ => .next s

/-! Unknown opcodes (R55). -/

/-- UNKNOWN_OPCODE (R55, R460 step 1): the next command of ring `r` has an opcode that is not implemented. -/
def execUnknownOpcode (r : Fin 4) (s : State) : Host.Outcome State Fault Refusal :=
  if s.turnRing ≠ some r.val then .next s
  else
    match s.startable r.val with
    | some c =>
      if (opInfo (pktOpcode c.packet)).isSome then .next s
      else .next ((s.served r.val).complete c.id Status.badOpcode [])
    | none => .next s

end Sys2Proof.Machine
end

