-- ==== Sys2Proof/Machine/Plan.lean ====
section
/-! DEFINITION. The planning tick (R270) with the planning-tick work of every block, the refresh of the Rim window (R422,
R423, R425), and what happens in every tick of the TICK clock. -/
namespace Sys2Proof.Machine

/-! The Rim window (R422, R423). -/

/-- RIM_CONFIG takes effect at planning tick `p` (R425). -/
def Rim.configure (m : Rim) (p : Nat) : Rim :=
  match stagedDue m.next p with
  | none => m
  | some (en, wr, every, src) =>
    { m with enable := en, writesEn := wr, every := every, sources := src, next := none,
             snapValid := m.snapValid && en, window := if en then m.window else [], windowNext := if en then m.windowNext else none,
             status := if en then m.status else m.status / 2 * 2 }

/-- What a source of the window shows: 0 for an entry without a register (R425). -/
def State.sourceWord (s : State) (o : Nat) : Nat := if o = 0xFFFFFFFF then 0 else s.readReg o

/-- The Rim port at planning tick `p` (R422): at those that EVERY_LOG2 selects, the sources are sampled, and the update counter rises. -/
def State.planRim (s : State) (p : Nat) : State :=
  let s := s.modRim (fun m => m.configure p)
  if s.rim.enable && s.pairTick / 4000 % 2 ^ s.rim.every == 0 then
    s.modRim (fun m =>
      let n := wrapAdd 16 m.updates 1
      { m with windowNext := some (s.rim.sources.map s.sourceWord, 1 + 2 ^ 16 * n), snapValid := true, updates := n })
  else s

/-- A tick begins at the Rim port: the window of the tick before changes as a whole (R422), and the words that the PLC wrote in it
are readable (R424). -/
def State.tickRim (s : State) : State :=
  let s := match s.rim.windowNext with
    | some w => s.modRim (fun m => { m with window := w.1, status := w.2, windowNext := none })
    | none => s
  if s.rim.inboxNext.isEmpty then s
  else s.modRim (fun m => { m with inbox := m.inboxNext.foldl (fun t x => t.set 0 x.1 x.2) m.inbox, inboxNext := [] })

/-! Planning tick (R270). -/

/-- The planning-tick work of every block, at planning tick `p`. -/
def State.planBlocks (s : State) (p : Nat) : State :=
  ((((((s.planTime p).publishDue.planFir.planMotion p).planFeedback p).planAdc p).planLed p).planTimeWork p).planRim p

/-- The instant of a planning tick that has not been done (R270): each 4,000th tick of the pair count. -/
def State.planDue (s : State) : Bool := s.running && s.pairTick % 4000 == 0 && s.mot.lastPlan != some s.tick

/-- PLANNING_TICK (R270). -/
def execPlanningTick (s : State) : Host.Outcome State Fault Refusal :=
  .next (if s.planDue then s.planBlocks s.tick else s)

/-! One tick (R16, R351). -/

/-- What ends a tick: the compare outputs (R304), stopped camera units, the lead's INPUT record and the records of the tick (R374),
the clock of clean health (R389), the completions of the tick (R46; a FAULT record that waits in the backlog holds none of them up,
log entry 152), rings whose write failed (R59) and the interrupt messages of the tick (R53). -/
def State.endTick (s : State) : State :=
  s.compareTick.endCamStops.sendInputs.sendRecords.trackClean.writeCompletions.failWrites.expireCoals.sendVectors

/-- What begins a tick: the time functions of a planning tick (R353), late PTP frames (R357), matrix enables (R340), the speed ceiling
(R163), the engines' run (R150), the lanes' wires (R194), the AMs of the Chezatin link (R372), the pacing steps up to its start and its
share of C (R153, R284), the samples of GONG_HALT_N (R171, R428), the Rim port (R422, R424) and GPIO levels (R432). -/
def State.beginTick (s : State) : State :=
  let s := if s.pairTick % 4000 = 0 then s.planTime s.tick else s
  let s := (s.sendAgain 0).sendAgain 1
  let s := (List.range 8).foldl State.matrixEnable s
  let s := if s.fir.ceil = s.ceiling then s else s.modFir (fun f => { f with ceil := s.ceiling })
  let s := s.runEngines.runLanes.tickLink.tickPacing
  s.sampleHalt.tickRim.tickGpio.sampleGpio

/-- A tick passes (log entry 2): its time value stays known for a tick (R354), and the tick count rises by one. -/
def State.tickOver (s : State) : State :=
  if s.running then
    let s := s.endTick
    let s := s.modTim (fun t => { t with past := s.nowNs })
    { s with tick := s.tick + 1 }.beginTick
  else { s with tick := s.tick + 1 }

end Sys2Proof.Machine
end

