-- ==== Sys2Proof/Machine/Copy.lean ====
section
/-! DEFINITION. The state copy of a twin (R384, R385): the lead's snapshot at each control cycle boundary, the shadow's
comparison with its own, the correction with the records received since, and IN_STEP. -/
namespace Sys2Proof.Machine

/-! Digests (R384). They are compared for equality alone, so what they are taken over is fixed here (log entry 60). -/

/-- Bytes of a table of numbers: index and value. -/
def tableBytes (t : Table Nat) : List Byte := t.entries.flatMap (fun e => leBytes 4 e.1 ++ leBytes 4 e.2)

/-- Bytes of a section's coefficients. -/
def Section.bytes (t : Section) : List Byte := leInt 4 t.b0 ++ leInt 4 t.b1 ++ leInt 4 t.b2 ++ leInt 4 t.a1 ++ leInt 4 t.a2 ++ [t.sh]

/-- Bytes of a profile. -/
def segBytes (l : List Seg) : List Byte := l.flatMap (fun g => leBytes 4 g.dur ++ leInt 8 g.endPos ++ leInt 4 g.endVel)

/-- Bytes of a camera unit's column map. -/
def mapBytes (m : StkMap) : List Byte :=
  leBytes 2 m.base ++ leBytes 2 m.cols ++ leInt 4 m.col0 ++ leInt 4 m.cpp ++ leBytes 4 m.camDist ++ m.rowOff.flatMap (leBytes 2)

/-- The live pages of the device with their digests, by context. -/
def State.liveDigests (s : State) : List Nat := (s.pgq.ctxs.entries.filter (fun e => e.2.live)).flatMap (fun e => [e.1, e.2.digest])

/-- The digest of the defect map with the level-map index (R384). -/
def SubTables.digest (t : SubTables) : Nat := crc32c (tableBytes t.defects ++ tableBytes t.index)

/-- The digests of R384 in the order of its table, but for the defect map's. -/
def State.digests (s : State) : List Nat :=
  [s.crcOf s.geo.active, s.crcOf s.geo.pending] ++ s.liveDigests ++
  [crc32c (s.sub.cur.maps.entries.flatMap (fun e => leBytes 4 e.1 ++ e.2) ++ tableBytes s.sub.cur.policy),
   crc32c (s.led.chains.entries.flatMap (fun e => leBytes 4 e.1 ++ tableBytes e.2.levels)),
   crc32c (axisList.flatMap (fun x => ((s.axis x).table x).flatMap (leBytes 2))),
   crc32c (s.mot.axes.entries.flatMap (fun e => leBytes 4 e.1 ++ e.2.profiles.entries.flatMap (fun q => leBytes 4 q.1 ++ segBytes q.2))),
   crc32c (s.cle.loops.entries.flatMap (fun e => leBytes 4 e.1 ++ e.2.secs.flatMap Section.bytes)),
   crc32c (s.stk.cfg.table ++ s.stk.maps.entries.flatMap (fun e => leBytes 4 e.1 ++ (match e.2 with | some m => mapBytes m | none => [])))]

/-! Snapshots. -/

/-- A page context as the snapshot holds it. -/
def Ctx.copied (c : Ctx) : PageCopy :=
  { state := c.state, cause := c.cause, start := c.start, floor := c.floor, succ := c.succ, pred := c.pred, gen := genNumber c.gen,
    inBreak := c.inBreak }

/-- A ladder test without what names the device's own command. -/
def LTest.copied (t : LTest) : LTest := { t with cmd := none }

/-- The row of R391 that a lead's VOTER test has reached (R394). -/
def State.voterRow (s : State) : Option Nat :=
  match s.twn.proof with
  | some p => if p.test = 0 then some p.count else none
  | none => none

/-- The device's snapshot (R384). -/
def State.snapshot (s : State) : Snapshot :=
  { tick := s.pairTick, fir := s.fir, axes := s.mot.axes, chans := s.enc.chans, loops := s.cle.loops, zones := s.led.zones,
    chains := s.led.chains, pages := s.pgq.ctxs.entries.map (fun e => (e.1, e.2.copied)), queue := s.pgq.queue,
    tests := s.stk.tests.map LTest.copied, retest := s.stk.retest, epoch := s.twn.epoch, armA := s.twn.armA, armB := s.twn.armB,
    armC := s.twn.armC, cleanAt := s.twn.cleanAt, digests := s.digests, subDigest := s.sub.cur.digest, verdicts := s.sub.verdicts,
    lone := s.twn.lone, voter := s.voterRow }

/-- A tick of the lead as the shadow counts it (R371). -/
def ownTick (off : Int) (t : Nat) : Nat := ((t : Int) - off).toNat

/-! The content of each part (R384): what the lead's value puts into the shadow's. -/

/-- FIR: Q, HWM, TRIM, C, state, pass, last line, T_LAST, floor in force. -/
def Fir.copy (lead own : Fir) : Fir :=
  { own with q := lead.q, cFrac := lead.cFrac, c := lead.c, trim := lead.trim, hwm := lead.hwm, state := lead.state, paced := lead.paced,
             between := lead.between, holding := lead.holding, retreated := lead.retreated, noSlip := lead.noSlip,
             passNo := lead.passNo, passStart := lead.passStart, nextLine := lead.nextLine, lastLine := lead.lastLine,
             tLast := lead.tLast, per := lead.per, floor := lead.floor }

/-- MOT: position, velocity, acceleration, goal, move, profile time, M, hold timer and fault of an axis. -/
def Axis.copy (lead own : Axis) : Axis :=
  { own with p := lead.p, v := lead.v, a := lead.a, j := lead.j, sent := lead.sent, state := lead.state, goal := lead.goal,
             move := lead.move, velHold := lead.velHold, overshoot := lead.overshoot, behind := lead.behind, retarget := lead.retarget,
             limitStop := lead.limitStop, capped := lead.capped, profTime := lead.profTime, profSeg := lead.profSeg,
             profP0 := lead.profP0, profV0 := lead.profV0, kappa := lead.kappa, ends := lead.ends, res := lead.res,
             resNext := lead.resNext, restPts := lead.restPts }

/-- A count with its tick, seen from the shadow: its own tick count and its own count. -/
def ownEdge (off diff : Int) (e : Option (Nat × Int)) : Option (Nat × Int) := e.map (fun x => (ownTick off x.1, x.2 - diff))

/-- ENC: the shadow keeps its own count and the difference from the lead's; EH, DIR, I_REF, correction in progress, fault and
speed state are the lead's. -/
def Chan.copy (off : Int) (lead own : Chan) : Chan :=
  let diff := lead.count - own.count
  { own with copyDiff := diff, eh := lead.eh - diff, reverse := lead.reverse, iRef := lead.iRef.map (fun i => i - diff),
             corr := lead.corr, fault := lead.fault, v := lead.v, lastEdge := ownEdge off diff lead.lastEdge,
             refEdge := ownEdge off diff lead.refEdge }

/-- The sections of a loop with the lead's states. -/
def copySections : List Section → List Section → List Section
  | l :: ls, o :: os => { o with s1 := l.s1, s2 := l.s2 } :: copySections ls os
  | _, own => own

/-- CLE: section states, r_w, u, mode and PERMIT counters of a loop. -/
def Loop.copy (lead own : Loop) : Loop :=
  { own with secs := copySections lead.secs own.secs, rw := lead.rw, u := lead.u, auto := lead.auto, m := lead.m, ran := lead.ran,
             tempOk := lead.tempOk, outRow := lead.outRow, inRow := lead.inRow, evalAt := lead.evalAt }

/-- LED: a zone's level. -/
def Zone.copy (lead own : Zone) : Zone := { own with zl := lead.zl, on := lead.on }

/-- LED: a chain's state. -/
def Chain.copy (lead own : Chain) : Chain := { own with state := lead.state }

/-- The generation that has a number (R72); 0: none. -/
def State.genNumbered (s : State) (n own : Nat) : Nat :=
  if genNumber own = n then own
  else match s.geo.gens.find? (fun g => genNumber g.serial == n) with
    | some g => g.serial
    | none => 0

/-- A page copy is QUEUED or PRINTING. -/
def PageCopy.live (p : PageCopy) : Bool := p.state == .queued || p.state == .printing

/-- A page copy is DONE or ABORTED. -/
def PageCopy.ended (p : PageCopy) : Bool := p.state == .done || p.state == .aborted

/-- What the lead's copy of a context makes of the shadow's (R381, R384): the whole of it once the page is QUEUED on either twin or has
ended on both; before that each twin loads the page for itself (R380), and CAUSE, SUCC and, from the lead's VERIFIED on, P are the lead's
(log entry 96). -/
def mergePage (lead own : PageCopy) : PageCopy :=
  if lead.live || own.live || (lead.ended && own.ended) then lead
  else if lead.state == .free || own.state == .free then own
  else { own with cause := lead.cause, succ := lead.succ, pred := lead.pred,
                  floor := if lead.ended || lead.state == .verified then lead.floor else own.floor }

/-- PGQ: state, CAUSE, S, P, SUCC, generation and held break of a context. -/
def State.copyPage (s : State) (lead : PageCopy) (own : Ctx) : Ctx :=
  let p := mergePage lead own.copied
  { own with state := p.state, cause := p.cause, start := p.start, floor := p.floor, succ := p.succ, pred := p.pred,
             gen := s.genNumbered p.gen own.gen, inBreak := p.inBreak }

/-- Copy the units of a table that either side lists. -/
def copyTable {α : Type} [DecidableEq α] (d : α) (f : α → α → α) (lead own : Table α) : Table α :=
  (dedup (lead.keys ++ own.keys)).foldl (fun t i => t.set d i (f (lead.get d i) (own.get d i))) own

/-! Comparison. -/

/-- The lead's ladder tests with deadlines in the shadow's ticks. -/
def ownTests (off : Int) (l : List LTest) : List LTest := l.map (fun t => { t with deadline := t.deadline.map (ownTick off) })

/-- The pages of a snapshot that are QUEUED or PRINTING. -/
def Snapshot.livePages (x : Snapshot) : List Nat :=
  (x.pages.filter (fun p => p.2.live)).map (fun p => p.1)

/-- A page context of a snapshot. -/
def Snapshot.page (x : Snapshot) (i : Nat) : PageCopy :=
  match x.pages.find? (fun p => p.1 == i) with
  | some p => p.2
  | none => ({} : Ctx).copied

/-- The contexts whose copies differ in what the shadow takes of them. -/
def pagesDiffer (lead own : Snapshot) : List Nat :=
  (dedup ((lead.pages ++ own.pages).map (fun p => p.1))).filter (fun i => mergePage (lead.page i) (own.page i) != own.page i)

/-- The parts of the snapshot that differ from the shadow's own, by the rows of R384: FIR, MOT, ENC, CLE, LED, PGQ, STK, TWN. -/
def copyDiffers (off : Int) (lead own : Snapshot) : List Bool :=
  [lead.fir.copy own.fir != own.fir, copyTable {} Axis.copy lead.axes own.axes != own.axes,
   copyTable {} (Chan.copy off) lead.chans own.chans != own.chans, copyTable {} Loop.copy lead.loops own.loops != own.loops,
   copyTable {} Zone.copy lead.zones own.zones != own.zones || copyTable {} Chain.copy lead.chains own.chains != own.chains,
   !(pagesDiffer lead own).isEmpty || lead.queue != own.queue,
   ownTests off lead.tests != own.tests || lead.retest != own.retest,
   lead.epoch != own.epoch || lead.armA != own.armA || lead.armB != own.armB || lead.armC != own.armC
     || lead.cleanAt.map (ownTick off) != own.cleanAt]

/-! Correction. -/

/-- Load parts of a snapshot into a state: those that `on` selects, and of PGQ the contexts `pages`. -/
def State.loadParts (s : State) (on : Nat → Bool) (pages : List Nat) (lead : Snapshot) : State :=
  let s := if on 0 then s.modFir lead.fir.copy else s
  let s := if on 1 then s.modMot (fun m => { m with axes := copyTable {} Axis.copy lead.axes m.axes }) else s
  let s := if on 3 then s.modCle (fun c => { c with loops := copyTable {} Loop.copy lead.loops c.loops }) else s
  let s := if on 4 then s.modLed (fun l => { l with zones := copyTable {} Zone.copy lead.zones l.zones,
                                                    chains := copyTable {} Chain.copy lead.chains l.chains }) else s
  if on 5 then
    (pages.foldl (fun s i => s.modCtx i (s.copyPage (lead.page i))) s).modPgq (fun q => { q with queue := lead.queue })
  else s

/-- The value now when it has changed since the snapshot, else the lead's. -/
def since {α : Type} [DecidableEq α] (lead own now : α) : α := if now = own then lead else now

/-- A feedback channel corrected: `own` is the shadow's at the snapshot tick and `fixed` the same with the lead's values. -/
def Chan.correctFrom (fixed own now : Chan) : Chan :=
  { now with copyDiff := since fixed.copyDiff own.copyDiff now.copyDiff, eh := now.eh + (fixed.eh - own.eh),
             reverse := since fixed.reverse own.reverse now.reverse, iRef := since fixed.iRef own.iRef now.iRef,
             corr := since fixed.corr own.corr now.corr, fault := since fixed.fault own.fault now.fault, v := since fixed.v own.v now.v,
             lastEdge := since fixed.lastEdge own.lastEdge now.lastEdge, refEdge := since fixed.refEdge own.refEdge now.refEdge }

/-- Evaluate the loops whose instant's values have arrived, in the replay. -/
def State.replayLoops (s : State) : State :=
  loopList.foldl (fun s n =>
    let x := s.loop n
    match x.cfg.instant s.pairTick with
    | none => s
    | some pt =>
      if x.cfg.enable = false ∨ x.evalAt = some pt ∨ 800 ≤ s.pairTick - pt ∨ (x.cfg.led = true ∧ x.leadY = none) then s
      else s.evaluateLoop n pt (s.pairTick - pt)) s

/-- Re-apply a record received since the snapshot (R384). -/
def State.replayRecord (s : State) (r : TwinRec) : State :=
  match r with
  | .line b => if u48 b 0 < s.fir.nextLine then s else s.lineFromRecord b
  | .input i => (s.takeInputs i).replayLoops
  | _ => s

/-- Run the copied blocks on from the snapshot tick for `n` ticks, with the records of each. -/
def State.replay : Nat → State → State
  | 0, s => s
  | n + 1, s =>
    let s := { s with tick := s.tick + 1 }.tickPacing
    let s := if s.pairTick % 4000 = 0 then (s.planFir).planMotion s.tick else s
    State.replay n ((s.copySince.filter (fun x => x.1 == s.pairTick)).foldl (fun s x => s.replayRecord x.2) s)

/-- The shadow loads the parts that differ of the lead's snapshot as its state at the snapshot tick and re-applies the records
received since (R384). What the replay sends, raises or does to other state has happened before and is dropped. -/
def State.correct (s : State) (off : Int) (lead own : Snapshot) : State :=
  let d := copyDiffers off lead own
  let on := fun k => d.getD k false
  let at_ := ownTick off lead.tick
  let pages := pagesDiffer lead own
  let past := { s with tick := at_ }.modFir (fun _ => own.fir)
  let past := past.modMot (fun m => { m with axes := own.axes })
  let past := past.modCle (fun c => { c with loops := own.loops })
  let past := past.modLed (fun l => { l with zones := own.zones, chains := own.chains })
  let now := (State.replay (s.tick - at_) (past.loadParts on pages lead)).snapshot
  let fixed := if on 2 then copyTable {} (Chan.copy off) lead.chans own.chans else own.chans
  let s := s.loadParts on pages now
  let s := if on 6 then s.modStk (fun k => { k with tests := since (ownTests off lead.tests) own.tests k.tests,
                                                    retest := since lead.retest own.retest k.retest }) else s
  let s := if on 7 then (s.modTwn (fun t => { t with epoch := lead.epoch, armA := lead.armA, armB := lead.armB, armC := lead.armC,
                                                     cleanAt := lead.cleanAt.map (ownTick off) })).vote else s
  (List.range 8).foldl (fun s n => s.modChan n (fun c => c.correctFrom (fixed.get {} n) (own.chans.get {} n))) s

/-- The digests have been compared (R384, R385): a mismatch, or a command that the lead has committed alone (R380), drops
IN_STEP until the pages of that moment have ended on the lead. -/
def Twn.judgeDigests (t : Twn) (lead own : Snapshot) : Twn :=
  if lead.digests = own.digests ∧ lead.subDigest = own.subDigest ∧ lead.lone = false then
    { t with digestsOk := true, digestBad := t.digestBad.filter (fun i => lead.livePages.contains i) }
  else { t with digestsOk := false, inStep := false, digestBad := lead.livePages }

/-- The verdicts of a snapshot reach the shadow's tables (R218, R248), and its own tables at the snapshot with them. -/
def State.takeVerdicts (s : State) (vs : List SubVerdict) : State :=
  let values := vs.flatMap s.sub.standing
  (vs.foldl State.takeVerdict s).modSub (fun u => { u with atCopy := u.atCopy.take values })

/-- COPY_COMPLETE (R218, R384, R385): the lead's snapshot is complete at the shadow, which compares it with its own of the same pair
tick. Each part that differs is corrected and counted. -/
def execCopyComplete (snap : Snapshot) (s : State) : Host.Outcome State Fault Refusal :=
  match s.copyOwn with
  | none => .next s
  | some own =>
    if !s.hears || s.twn.role != .shadow || own.tick != snap.tick || s.twn.copyAt != some snap.tick then .next s
    else
      let off := s.twn.offTicks
      let s := s.takeVerdicts snap.verdicts
      let own := { own with subDigest := s.sub.atCopy.digest }
      let n := ((copyDiffers off snap own).filter id).length
      let s := if n = 0 then s else s.correct off snap own
      .next (s.modTwn (fun t => ({ t with fixes := satAdd 12 t.fixes n, copyAt := none, missedRow := 0,
                                          voterOut := snap.voter.map driveRow } : Twn).judgeDigests snap own))

/-! The control cycle boundary (R384 to R385, R394). -/

/-- A snapshot that is not complete by the next boundary is missed; three in a row drop IN_STEP. -/
def Twn.missSnapshot (t : Twn) : Twn :=
  match t.copyAt with
  | none => t
  | some _ =>
    let row := t.missedRow + 1
    { t with missed := satAdd 8 t.missed 1, missedRow := row, inStep := t.inStep && decide (row < 3), digestsOk := t.digestsOk && decide (row < 3) }

/-- IN_STEP rises (R385). -/
def Twn.riseInStep (t : Twn) : Twn :=
  if t.link = .up ∧ t.digestsOk = true ∧ t.digestBad = [] ∧ t.offFixed = true then { t with inStep := true } else t

/-- What a shadow does at the boundary: it judges the snapshot before and takes its own. -/
def State.shadowCycle (s : State) : State :=
  let s := s.modTwn (fun t => (t.missSnapshot).riseInStep)
  let s := { s with copyOwn := some s.snapshot, copySince := [] }.modSub (fun u => { u with atCopy := u.cur })
  s.modTwn (fun t => { t with copyAt := some s.pairTick })

/-- What a lead does at the boundary: it streams its snapshot, and a proof test of cycles goes on (R394). -/
def State.leadCycle (s : State) : State :=
  (s.sendTwin (.copy s.snapshot)).proofCount 3 1000

/-- The control cycle boundary falls in this tick and has not been done (R26). -/
def State.cycleDue (s : State) : Bool := s.running && s.pairTick % 20000 == 0 && s.twn.lastCycle != some s.pairTick

/-- CONTROL_CYCLE_END (R27, R326, R384): the planning tick and the loop evaluations of the tick come first; the lead streams its
state, and the shadow takes its own. -/
def execControlCycleEnd (s : State) : Host.Outcome State Fault Refusal :=
  if !s.cycleDue then .next s
  else
    let s := if s.planDue then s.planBlocks s.tick else s
    let s := loopList.foldl State.evaluateLoopDue s
    let s := s.modTwn (fun t => { t with lastCycle := some s.pairTick })
    let s := match s.twn.role with
      | .shadow => s.shadowCycle
      | .lead => if s.hasShadow then s.leadCycle else s
      | _ => s
    .next (s.modSub (fun u => { u with verdicts := [] }))

end Sys2Proof.Machine
end

