-- ==== Sys2Proof/Machine/Tie.lean ====
section
/-! DEFINITION. The ties of R21 and R97 between what falls in one tick, and the rows of class 2: the commands of class 1 that wait
in the queue, and a VERIFIED transition, act before a line is triggered. -/
namespace Sys2Proof.Machine

/-- The state after a command. -/
def nextState (s : State) (o : Host.Outcome State Fault Refusal) : State :=
  match o with
  | .next t => t
  | _ => s

/-- A command of class 1 of R21 that falls in this tick, or a VERIFIED transition (R97), acts. When its turn in the queue comes it
changes nothing more. -/
def State.actFirst (s : State) (i : Instr) : State :=
  match i with
  | .permitInputChange k l n => nextState s (execPermitInputChange k l n s)
  | .gongHalt b => if s.haltPending then s else nextState s (execGongHalt b s)
  | .roleExchange => nextState s (execRoleExchange s)
  | .takeBack => nextState s (execTakeBack s)
  | .electionTimeout => nextState s (execElectionTimeout s)
  | .relinquishReceived => nextState s (execRelinquishReceived s)
  | .relinquishOut => nextState s (execRelinquishOut s)
  | .selfDiagnosisFault c b => nextState s (execSelfDiagnosisFault c b s)
  | .verificationEnd c => nextState s (execVerificationEnd c s)
  | _ => s

/-- What wins over a line trigger in the same tick (R21, R97) acts first; a withdrawal by a loop's output is a change of the permit
(R328). -/
def State.winnersFirst (s : State) : State := s.pending.foldl State.actFirst s.publishPermits

/-- LINE_TRIGGER (R21, R158). -/
def execLineTrigger (s : State) : Host.Outcome State Fault Refusal := .next s.winnersFirst.testLine.writeNotes

/-- RETREAT (R21, R157, R177). -/
def execRetreat (s : State) : Host.Outcome State Fault Refusal := .next s.winnersFirst.testRetreat

/-- HOLD_TRIGGER (R21, R166). -/
def execHoldTrigger (s : State) : Host.Outcome State Fault Refusal := .next s.winnersFirst.testHold.writeNotes

/-- GONG_FRAME_RX (R21, R169, R170): `arrival` is the instant of the frame's first bit at the pin, in taps. -/
def execGongFrameRx (arrival : Nat) (bytes : List Byte) (s : State) : Host.Outcome State Fault Refusal :=
  .next (s.winnersFirst.takeGong arrival bytes).writeNotes

/-- LINE_RECORD_RX (R21, R382). -/
def execLineRecordRx (bytes : List Byte) (s : State) : Host.Outcome State Fault Refusal := .next (s.winnersFirst.takeLine bytes).writeNotes

/-- SHADOW_LINE_TIMEOUT (R21, R382). -/
def execShadowLineTimeout (s : State) : Host.Outcome State Fault Refusal := .next s.winnersFirst.testOwnLine.writeNotes

end Sys2Proof.Machine
end

