-- ==== Sys2Proof/Machine/Dispatch.lean ====
section
/-! DEFINITION. One arm for each command: a direct call of its meaning. -/
namespace Sys2Proof.Machine

def exec (i : Instr) (s : State) : Host.Outcome State Fault Refusal :=
  match i with
  | .configRequest q => Sys2Proof.Machine.execConfigRequest q s
  | .mmioWriteDiscard bar2 offset enables => Sys2Proof.Machine.execMmioWriteDiscard bar2 offset enables s
  | .registerWrite offset value => Sys2Proof.Machine.execRegisterWrite offset value s
  | .hifSqTailDb r v => Sys2Proof.Machine.execHifSqTailDb r v s
  | .hifCqHeadDb r v => Sys2Proof.Machine.execHifCqHeadDb r v s
  | .hifEqHeadDb v => Sys2Proof.Machine.execHifEqHeadDb v s
  | .ringsReset value => Sys2Proof.Machine.execRingsReset value s
  | .ringPairEnable r value => Sys2Proof.Machine.execRingPairEnable r value s
  | .ringPairDisable r value => Sys2Proof.Machine.execRingPairDisable r value s
  | .eventRingEnable value => Sys2Proof.Machine.execEventRingEnable value s
  | .eventRingDisable value => Sys2Proof.Machine.execEventRingDisable value s
  | .engineOffline e off => Sys2Proof.Machine.execEngineOffline e off s
  | .gpioOutWrite value mask => Sys2Proof.Machine.execGpioOutWrite value mask s
  | .i2cXfer m value => Sys2Proof.Machine.execI2cXfer m value s
  | .i2cTransferDone m data nack => Sys2Proof.Machine.execI2cTransferDone m data nack s
  | .commandFetch r d => Sys2Proof.Machine.execCommandFetch r d s
  | .atBoundaryCommit => Sys2Proof.Machine.execAtBoundaryCommit s
  | .unknownOpcode r => Sys2Proof.Machine.execUnknownOpcode r s
  | .sysIdentify r => Sys2Proof.Machine.execSysIdentify r s
  | .sysHealth r => Sys2Proof.Machine.execSysHealth r s
  | .sysRegRead r => Sys2Proof.Machine.execSysRegRead r s
  | .sysRegWrite r => Sys2Proof.Machine.execSysRegWrite r s
  | .sysEventMask r => Sys2Proof.Machine.execSysEventMask r s
  | .sysFwUpdate r d => Sys2Proof.Machine.execSysFwUpdate r d s
  | .fwUpdateDone readBackOk => Sys2Proof.Machine.execFwUpdateDone readBackOk s
  | .sysEnterDormant r => Sys2Proof.Machine.execSysEnterDormant r s
  | .geoHeadclass r => Sys2Proof.Machine.execGeoHeadclass r s
  | .geoHead r => Sys2Proof.Machine.execGeoHead r s
  | .geoRuns r d => Sys2Proof.Machine.execGeoRuns r d s
  | .geoExceptions r d => Sys2Proof.Machine.execGeoExceptions r d s
  | .geoCommit r => Sys2Proof.Machine.execGeoCommit r s
  | .generationActivate => Sys2Proof.Machine.execGenerationActivate s
  | .pageOpen r => Sys2Proof.Machine.execPageOpen r s
  | .pageAddTiles r d => Sys2Proof.Machine.execPageAddTiles r d s
  | .tileArrival ctx idx d => Sys2Proof.Machine.execTileArrival ctx idx d s
  | .verifyTileDecode ctx idx => Sys2Proof.Machine.execVerifyTileDecode ctx idx s
  | .pageClose r => Sys2Proof.Machine.execPageClose r s
  | .verificationEnd ctx => Sys2Proof.Machine.execVerificationEnd ctx s
  | .pageQueue r => Sys2Proof.Machine.execPageQueue r s
  | .pageAbort r => Sys2Proof.Machine.execPageAbort r s
  | .pageQuery r => Sys2Proof.Machine.execPageQuery r s
  | .pageChain r => Sys2Proof.Machine.execPageChain r s
  | .subDefects r d => Sys2Proof.Machine.execSubDefects r d s
  | .subLevelmap r => Sys2Proof.Machine.execSubLevelmap r s
  | .subPolicy r => Sys2Proof.Machine.execSubPolicy r s
  | .subQuery r => Sys2Proof.Machine.execSubQuery r s
  | .paceConfig r => Sys2Proof.Machine.execPaceConfig r s
  | .paceStart r => Sys2Proof.Machine.execPaceStart r s
  | .paceStop r => Sys2Proof.Machine.execPaceStop r s
  | .paceRole r => Sys2Proof.Machine.execPaceRole r s
  | .paceQuery r => Sys2Proof.Machine.execPaceQuery r s
  | .paceStepEdge samples => Sys2Proof.Machine.execPaceStepEdge samples s
  | .lineTrigger => Sys2Proof.Machine.execLineTrigger s
  | .retreat => Sys2Proof.Machine.execRetreat s
  | .passArm => Sys2Proof.Machine.execPassArm s
  | .holdTrigger => Sys2Proof.Machine.execHoldTrigger s
  | .gongFrameRx arrival bytes => Sys2Proof.Machine.execGongFrameRx arrival bytes s
  | .gongIdleSend => Sys2Proof.Machine.execGongIdleSend s
  | .gongLost => Sys2Proof.Machine.execGongLost s
  | .gongHalt samples => Sys2Proof.Machine.execGongHalt samples s
  | .gongRxLock chars => Sys2Proof.Machine.execGongRxLock chars s
  | .planningTick => Sys2Proof.Machine.execPlanningTick s
  | .microstepResolutionChange x => Sys2Proof.Machine.execMicrostepResolutionChange x s
  | .pwmPeriodStart => Sys2Proof.Machine.execPwmPeriodStart s
  | .controlCycleEnd => Sys2Proof.Machine.execControlCycleEnd s
  | .loopEvaluation l => Sys2Proof.Machine.execLoopEvaluation l s
  | .loopPublish l => Sys2Proof.Machine.execLoopPublish l s
  | .adcResult adc slot code => Sys2Proof.Machine.execAdcResult adc slot code s
  | .beatRelease => Sys2Proof.Machine.execBeatRelease s
  | .segmentWrite e faults => Sys2Proof.Machine.execSegmentWrite e faults s
  | .engineBeatDone e => Sys2Proof.Machine.execEngineBeatDone e s
  | .engineWatchdog e => Sys2Proof.Machine.execEngineWatchdog e s
  | .sramEccError store word bitNo double eng => Sys2Proof.Machine.execSramEccError store word bitNo double eng s
  | .snrLaneEnable r => Sys2Proof.Machine.execSnrLaneEnable r s
  | .snrLaneDisable r => Sys2Proof.Machine.execSnrLaneDisable r s
  | .snrEyeScan r => Sys2Proof.Machine.execSnrEyeScan r s
  | .eyeScanDone lane counts => Sys2Proof.Machine.execEyeScanDone lane counts s
  | .snrHeadMsg r => Sys2Proof.Machine.execSnrHeadMsg r s
  | .hubReply lane blocks => Sys2Proof.Machine.execHubReply lane blocks s
  | .headMsgTimeout lane => Sys2Proof.Machine.execHeadMsgTimeout lane s
  | .snrQuery r => Sys2Proof.Machine.execSnrQuery r s
  | .snrBlockLock lane headers => Sys2Proof.Machine.execSnrBlockLock lane headers s
  | .downstreamAm lane uis => Sys2Proof.Machine.execDownstreamAm lane uis s
  | .upstreamAm lane am turn uis => Sys2Proof.Machine.execUpstreamAm lane am turn uis s
  | .amMissed lane => Sys2Proof.Machine.execAmMissed lane s
  | .laneBringupTimeout lane => Sys2Proof.Machine.execLaneBringupTimeout lane s
  | .statusBlock lane bytes => Sys2Proof.Machine.execStatusBlock lane bytes s
  | .cmpReport lane bytes => Sys2Proof.Machine.execCmpReport lane bytes s
  | .camPort r => Sys2Proof.Machine.execCamPort r s
  | .camSensorDesc r => Sys2Proof.Machine.execCamSensorDesc r s
  | .camSetExposure r => Sys2Proof.Machine.execCamSetExposure r s
  | .exposureLatchTimeout u => Sys2Proof.Machine.execExposureLatchTimeout u s
  | .cciTransferDone port nack => Sys2Proof.Machine.execCciTransferDone port nack s
  | .camPipe r d => Sys2Proof.Machine.execCamPipe r d s
  | .camOutputs r => Sys2Proof.Machine.execCamOutputs r s
  | .camStart r => Sys2Proof.Machine.execCamStart r s
  | .camStop r => Sys2Proof.Machine.execCamStop r s
  | .frameStart u => Sys2Proof.Machine.execFrameStart u s
  | .frameEnd u => Sys2Proof.Machine.execFrameEnd u s
  | .frameTimeout u => Sys2Proof.Machine.execFrameTimeout u s
  | .lineArrival u rows errs corr uncorr other => Sys2Proof.Machine.execLineArrival u rows errs corr uncorr other s
  | .pipelineLine => Sys2Proof.Machine.execPipelineLine s
  | .frameOutputDelivery u => Sys2Proof.Machine.execFrameOutputDelivery u s
  | .ladderStepPlace => Sys2Proof.Machine.execLadderStepPlace s
  | .ladderTimeout test => Sys2Proof.Machine.execLadderTimeout test s
  | .stkConfig r d => Sys2Proof.Machine.execStkConfig r d s
  | .stkMap r => Sys2Proof.Machine.execStkMap r s
  | .stkLadder r => Sys2Proof.Machine.execStkLadder r s
  | .stkQuery r => Sys2Proof.Machine.execStkQuery r s
  | .motAxis r => Sys2Proof.Machine.execMotAxis r s
  | .motSine r d => Sys2Proof.Machine.execMotSine r d s
  | .motProfile r d => Sys2Proof.Machine.execMotProfile r d s
  | .motMove r => Sys2Proof.Machine.execMotMove r s
  | .motLimits r => Sys2Proof.Machine.execMotLimits r s
  | .motStop r => Sys2Proof.Machine.execMotStop r s
  | .motQuery r => Sys2Proof.Machine.execMotQuery r s
  | .limitSwitch x positive => Sys2Proof.Machine.execLimitSwitch x positive s
  | .encConfig r => Sys2Proof.Machine.execEncConfig r s
  | .encSet r => Sys2Proof.Machine.execEncSet r s
  | .encProbe r => Sys2Proof.Machine.execEncProbe r s
  | .encCompare r d => Sys2Proof.Machine.execEncCompare r d s
  | .encQuery r => Sys2Proof.Machine.execEncQuery r s
  | .encoderEdge c samples => Sys2Proof.Machine.execEncoderEdge c samples s
  | .encoderFaultAutoClear c => Sys2Proof.Machine.execEncoderFaultAutoClear c s
  | .indexPulse c samples => Sys2Proof.Machine.execIndexPulse c samples s
  | .ssiFrameDone c data parity error lowAtStart => Sys2Proof.Machine.execSsiFrameDone c data parity error lowAtStart s
  | .probeLatch p samples => Sys2Proof.Machine.execProbeLatch p samples s
  | .probeTimeout p => Sys2Proof.Machine.execProbeTimeout p s
  | .comparePulseEnd o => Sys2Proof.Machine.execComparePulseEnd o s
  | .switchChange w samples => Sys2Proof.Machine.execSwitchChange w samples s
  | .cleLoop r => Sys2Proof.Machine.execCleLoop r s
  | .cleSections r d => Sys2Proof.Machine.execCleSections r d s
  | .cleMode r => Sys2Proof.Machine.execCleMode r s
  | .cleSetpoint r => Sys2Proof.Machine.execCleSetpoint r s
  | .cleQuery r => Sys2Proof.Machine.execCleQuery r s
  | .adcConfig r d => Sys2Proof.Machine.execAdcConfig r d s
  | .ledChain r => Sys2Proof.Machine.execLedChain r s
  | .ledMatrix r => Sys2Proof.Machine.execLedMatrix r s
  | .ledLevels r d => Sys2Proof.Machine.execLedLevels r d s
  | .ledZones r => Sys2Proof.Machine.execLedZones r s
  | .ledFrameDone ch returned => Sys2Proof.Machine.execLedFrameDone ch returned s
  | .matrixSlotStart ch => Sys2Proof.Machine.execMatrixSlotStart ch s
  | .colourSensorReadDone k bytes nack => Sys2Proof.Machine.execColourSensorReadDone k bytes nack s
  | .timPort r => Sys2Proof.Machine.execTimPort r s
  | .timDomain r => Sys2Proof.Machine.execTimDomain r s
  | .timAdjust r => Sys2Proof.Machine.execTimAdjust r s
  | .timSelect r => Sys2Proof.Machine.execTimSelect r s
  | .timQuery r => Sys2Proof.Machine.execTimQuery r s
  | .ptpSyncRx port tap frame => Sys2Proof.Machine.execPtpSyncRx port tap frame s
  | .ptpMessageRx port tap frame => Sys2Proof.Machine.execPtpMessageRx port tap frame s
  | .ptpTx port frame depart tap missed => Sys2Proof.Machine.execPtpTx port frame depart tap missed s
  | .ptpMasterLost inst cause => Sys2Proof.Machine.execPtpMasterLost inst cause s
  | .switchSlewDone => Sys2Proof.Machine.execSwitchSlewDone s
  | .twnConfig r => Sys2Proof.Machine.execTwnConfig r s
  | .twnHandover r => Sys2Proof.Machine.execTwnHandover r s
  | .twnProofTest r => Sys2Proof.Machine.execTwnProofTest r s
  | .twnQuery r => Sys2Proof.Machine.execTwnQuery r s
  | .tapSend => Sys2Proof.Machine.execTapSend s
  | .tapReceived pin word => Sys2Proof.Machine.execTapReceived pin word s
  | .tapPathLost pin => Sys2Proof.Machine.execTapPathLost pin s
  | .electionTimeout => Sys2Proof.Machine.execElectionTimeout s
  | .chezatinLinkUp ams turns offTicks offTaps => Sys2Proof.Machine.execChezatinLinkUp ams turns offTicks offTaps s
  | .lineRecordRx bytes => Sys2Proof.Machine.execLineRecordRx bytes s
  | .shadowLineTimeout => Sys2Proof.Machine.execShadowLineTimeout s
  | .inputRecordRx rec => Sys2Proof.Machine.execInputRecordRx rec s
  | .changeRecordRx tag packet d => Sys2Proof.Machine.execChangeRecordRx tag packet d s
  | .mirroredCommit tag stamp => Sys2Proof.Machine.execMirroredCommit tag stamp s
  | .ackTimeout tag => Sys2Proof.Machine.execAckTimeout tag s
  | .healthRecordRx h => Sys2Proof.Machine.execHealthRecordRx h s
  | .copyComplete snap => Sys2Proof.Machine.execCopyComplete snap s
  | .selfDiagnosisFault cause readback => Sys2Proof.Machine.execSelfDiagnosisFault cause readback s
  | .relinquishReceived => Sys2Proof.Machine.execRelinquishReceived s
  | .relinquishOut => Sys2Proof.Machine.execRelinquishOut s
  | .partnerHealthRestore => Sys2Proof.Machine.execPartnerHealthRestore s
  | .roleExchange => Sys2Proof.Machine.execRoleExchange s
  | .takeBack => Sys2Proof.Machine.execTakeBack s
  | .permitInputChange k level since => Sys2Proof.Machine.execPermitInputChange k level since s
  | .cmpOpen r => Sys2Proof.Machine.execCmpOpen r s
  | .cmpCompress r d => Sys2Proof.Machine.execCmpCompress r d s
  | .cmpDecompress r d => Sys2Proof.Machine.execCmpDecompress r d s
  | .cmpSave r => Sys2Proof.Machine.execCmpSave r s
  | .cmpRestore r d => Sys2Proof.Machine.execCmpRestore r d s
  | .cmpClose r => Sys2Proof.Machine.execCmpClose r s
  | .cmpBlockDone unit mismatch => Sys2Proof.Machine.execCmpBlockDone unit mismatch s
  | .rimConfig r d => Sys2Proof.Machine.execRimConfig r d s
  | .rimWrite addr value => Sys2Proof.Machine.execRimWrite addr value s
  | .gngConfig r => Sys2Proof.Machine.execGngConfig r s
  | .gpioConfig r => Sys2Proof.Machine.execGpioConfig r s
  | .eventBacklogDrain => Sys2Proof.Machine.execEventBacklogDrain s
  | .coalesceTimeout ring => Sys2Proof.Machine.execCoalesceTimeout ring s
  | .hifReset linkDown => Sys2Proof.Machine.execHifReset linkDown s
  | .perstAssert ns => Sys2Proof.Machine.execPerstAssert ns s
  | .sysResetAssert ns => Sys2Proof.Machine.execSysResetAssert ns s
  | .vbatPor => Sys2Proof.Machine.execVbatPor s
  | .powerUp rails => Sys2Proof.Machine.execPowerUp rails s
  | .resetRelease => Sys2Proof.Machine.execResetRelease s
  | .bootImageAuthenticated unread => Sys2Proof.Machine.execBootImageAuthenticated unread s
  | .dramTrainingDone trained => Sys2Proof.Machine.execDramTrainingDone trained s
  | .railLost rail => Sys2Proof.Machine.execRailLost rail s
  | .pllLockLoss pll => Sys2Proof.Machine.execPllLockLoss pll s
  | .clockReset => Sys2Proof.Machine.execClockReset s
  | .watchdogRestart => Sys2Proof.Machine.execWatchdogRestart s
  | .dormantOutputsOff => Sys2Proof.Machine.execDormantOutputsOff s
  | .pwrOnFall => Sys2Proof.Machine.execPwrOnFall s
  | .wakeCrossing falling micros => Sys2Proof.Machine.execWakeCrossing falling micros s
  | .wakePwrOn => Sys2Proof.Machine.execWakePwrOn s
  | .jtagTrst writes => Sys2Proof.Machine.execJtagTrst writes s
  | .chezatinBlockLock lane headers => Sys2Proof.Machine.execChezatinBlockLock lane headers s
  | .ackRecordRx tag => Sys2Proof.Machine.execAckRecordRx tag s
  | .commitRecordRx tag tick => Sys2Proof.Machine.execCommitRecordRx tag tick s
  | .handoverRecordRx tick => Sys2Proof.Machine.execHandoverRecordRx tick s
  | .hifReadyReturn => Sys2Proof.Machine.execHifReadyReturn s
  | .pcieLinkUp gen width refused => Sys2Proof.Machine.execPcieLinkUp gen width refused s
  | .resetPinsReleased straps => Sys2Proof.Machine.execResetPinsReleased straps s
  | .pllLock pll => Sys2Proof.Machine.execPllLock pll s
  | .gongHaltRelease samples => Sys2Proof.Machine.execGongHaltRelease samples s
  | .csiDeskewDone port => Sys2Proof.Machine.execCsiDeskewDone port s
  | .ethLinkUp port => Sys2Proof.Machine.execEthLinkUp port s
  | .cmpSaveDone stream => Sys2Proof.Machine.execCmpSaveDone stream s
  | .gpioPwmPeriodStart pin => Sys2Proof.Machine.execGpioPwmPeriodStart pin s

end Sys2Proof.Machine
end

