-- ==== Sys2Proof/Machine/Order.lean ====
section
/-! DEFINITION. The order of what falls in one tick (R21 to R24): the class, the unit index and the block of each row, and how a
command of the present tick joins the queue. Sequence numbers then follow the queue (log entry 8). -/
namespace Sys2Proof.Machine

/-- Where a row stands among those of its tick: its class of R21, its unit index (R23) and its block, as the BAR0 base in MiB (R9).
Class 0 is what R21 does not list: it arrives from outside, or is a block's own work, and acts before the rest. `late`: it comes
behind its equals, as an index does behind the edges of its tick (R297). -/
structure TieKey where
  cls : Nat
  unit : Nat := 0
  block : Nat := 0
  late : Bool := false
deriving DecidableEq, Repr

/-- The commits of commands (R21, class 5), by ring (R46): the rows that the command processor starts. -/
def commitRing (i : Instr) : Option Nat :=
  match i with
  | .sysIdentify r | .sysHealth r | .sysRegRead r | .sysRegWrite r | .sysEventMask r | .sysFwUpdate r _ | .sysEnterDormant r => some r.val
  | .geoHeadclass r | .geoHead r | .geoRuns r _ | .geoExceptions r _ | .geoCommit r => some r.val
  | .pageOpen r | .pageAddTiles r _ | .pageClose r | .pageQueue r | .pageAbort r | .pageQuery r | .pageChain r => some r.val
  | .subDefects r _ | .subLevelmap r | .subPolicy r | .subQuery r => some r.val
  | .paceConfig r | .paceStart r | .paceStop r | .paceRole r | .paceQuery r => some r.val
  | .snrLaneEnable r | .snrLaneDisable r | .snrEyeScan r | .snrHeadMsg r | .snrQuery r => some r.val
  | .camPort r | .camSensorDesc r | .camSetExposure r | .camPipe r _ | .camOutputs r | .camStart r | .camStop r => some r.val
  | .stkConfig r _ | .stkMap r | .stkLadder r | .stkQuery r => some r.val
  | .motAxis r | .motSine r _ | .motProfile r _ | .motMove r | .motLimits r | .motStop r | .motQuery r => some r.val
  | .encConfig r | .encSet r | .encProbe r | .encCompare r _ | .encQuery r => some r.val
  | .cleLoop r | .cleSections r _ | .cleMode r | .cleSetpoint r | .cleQuery r | .adcConfig r _ => some r.val
  | .ledChain r | .ledMatrix r | .ledLevels r _ | .ledZones r => some r.val
  | .timPort r | .timDomain r | .timAdjust r | .timSelect r | .timQuery r => some r.val
  | .twnConfig r | .twnHandover r | .twnProofTest r | .twnQuery r => some r.val
  | .cmpOpen r | .cmpCompress r _ | .cmpDecompress r _ | .cmpSave r | .cmpRestore r _ | .cmpClose r => some r.val
  | .rimConfig r _ | .gngConfig r | .gpioConfig r | .unknownOpcode r => some r.val
  | _ => none

/-- The class, unit index and block of what R21 lists (R21 to R23). -/
def listedKey (i : Instr) : Option TieKey :=
  match i with
  | .permitInputChange k _ _ => some { cls := 1, unit := k.val, block := 15 }
  | .gongHalt _ | .gongHaltRelease _ => some { cls := 1, block := 6 }
  | .roleExchange | .takeBack | .electionTimeout | .relinquishReceived | .relinquishOut | .selfDiagnosisFault _ _ =>
    some { cls := 1, block := 15 }
  | .tapReceived pin _ | .tapPathLost pin => some { cls := 1, unit := if pin then 1 else 0, block := 15 }
  | .lineTrigger | .retreat | .passArm | .holdTrigger | .gongFrameRx _ _ | .gongLost => some { cls := 2, block := 6 }
  | .lineRecordRx _ | .shadowLineTimeout => some { cls := 2, block := 15 }
  | .planningTick => some { cls := 3, block := 10 }
  | .limitSwitch x _ => some { cls := 3, unit := x.val, block := 10 }
  | .probeLatch p _ | .probeTimeout p => some { cls := 3, unit := p.val, block := 11 }
  | .comparePulseEnd o => some { cls := 3, unit := o.val, block := 11 }
  | .loopEvaluation l | .loopPublish l => some { cls := 4, unit := l.val, block := 12 }
  | .controlCycleEnd => some { cls := 4, block := 15 }
  | .atBoundaryCommit | .registerWrite _ _ | .mirroredCommit _ _ | .ackTimeout _ => some { cls := 5, block := 1 }
  | .frameStart u | .frameEnd u | .frameTimeout u | .exposureLatchTimeout u => some { cls := 6, unit := u.val, block := 8 }
  | .lineArrival u _ _ _ _ _ => some { cls := 6, unit := u.val, block := 8 }
  | .frameOutputDelivery u => some { cls := 6, unit := u.val, block := 9 }
  | .cciTransferDone p _ => some { cls := 6, unit := 4 * p.val, block := 8, late := true }
  | .eventBacklogDrain => some { cls := 7, block := 1 }
  | .coalesceTimeout r => some { cls := 7, unit := r.val, block := 1 }
  | _ => none

/-- The unit index and block of what R21 does not list and what names a unit (R22, R23). Host writes keep the order in which they
arrive. -/
def unitKey (i : Instr) : Nat × Nat :=
  match i with
  | .tileArrival c _ _ | .verifyTileDecode c _ | .verificationEnd c => (c.val, 2)
  | .cmpBlockDone u _ => (u.val, 3)
  | .cmpSaveDone k => (k.val, 3)
  | .beatRelease => (0, 4)
  | .segmentWrite e _ | .engineBeatDone e | .engineWatchdog e => (e.val, 4)
  | .gongIdleSend => (0, 6)
  | .eyeScanDone l _ | .hubReply l _ | .headMsgTimeout l | .snrBlockLock l _ | .downstreamAm l _ | .upstreamAm l _ _ _ | .amMissed l
  | .laneBringupTimeout l | .statusBlock l _ | .cmpReport l _ => (l.val, 7)
  | .csiDeskewDone p => (4 * p.val, 8)
  | .pipelineLine => (0, 8)
  | .ladderStepPlace | .ladderTimeout _ => (0, 9)
  | .pwmPeriodStart => (0, 10)
  | .microstepResolutionChange x => (x.val, 10)
  | .encoderEdge c _ | .encoderFaultAutoClear c | .ssiFrameDone c _ _ _ _ | .indexPulse c _ => (c.val, 11)
  | .switchChange w _ => (w.val, 11)
  | .adcResult a _ _ => (a.val, 12)
  | .ledFrameDone c _ | .matrixSlotStart c | .colourSensorReadDone c _ _ => (c.val, 13)
  | .ptpSyncRx p _ _ | .ptpMessageRx p _ _ | .ptpTx p _ _ _ _ | .ethLinkUp p => (p.val, 14)
  | .ptpMasterLost k _ => (k.val, 14)
  | .switchSlewDone => (0, 14)
  | .chezatinBlockLock l _ => (l.val, 15)
  | .tapSend | .chezatinLinkUp _ _ _ _ | .inputRecordRx _ | .changeRecordRx _ _ _ | .healthRecordRx _ | .copyComplete _
  | .partnerHealthRestore | .ackRecordRx _ | .commitRecordRx _ _ | .handoverRecordRx _ => (0, 15)
  | .i2cTransferDone m _ _ => (m.val, 0)
  | .gpioPwmPeriodStart p => (p.val, 0)
  | _ => (0, 0)

/-- A row that comes behind its equals: an index pulse behind the edges of its channel (R297). -/
def comesLate (i : Instr) : Bool :=
  match i with
  | .indexPulse _ _ => true
  | _ => false

/-- The place of a row among those of its tick (R21 to R23). -/
def tieKey (i : Instr) : TieKey :=
  match listedKey i, commitRing i with
  | some k, _ => k
  | none, some r => { cls := 5, unit := r, block := 1 }
  | none, none => { cls := 0, unit := (unitKey i).1, block := (unitKey i).2, late := comesLate i }

/-- The ring of the command that a row commits which names no ring (R46): the first to start of those that wait under AT_BOUNDARY
(R45), or the mirrored command of a tag (R380). -/
def State.ringOfCommit (s : State) (i : Instr) : Option Nat :=
  match i with
  | .atBoundaryCommit =>
    (s.hif.inflight.foldl (fun (b : Option (Nat × Nat)) c => match c.phase, b with
      | .waiting o _, some x => if o < x.1 then some (o, c.ring) else b
      | .waiting o _, none => some (o, c.ring)
      | _, _ => b) none).map (fun x => x.2)
  | .mirroredCommit tag _ | .ackTimeout tag =>
    (s.hif.inflight.find? (fun c => match c.phase with
      | .mirroring t _ _ => t == tag
      | _ => false)).map (fun c => c.ring)
  | _ => none

/-- The place of a row in a state: a commit stands at the ring of its command (R46). -/
def State.keyOf (s : State) (i : Instr) : TieKey :=
  match s.ringOfCommit i with
  | some r => { tieKey i with unit := r }
  | none => tieKey i

/-- One place is before another or the same (R21, R22). -/
def TieKey.le (a b : TieKey) : Bool :=
  decide (a.cls < b.cls ∨ (a.cls = b.cls ∧ (a.unit < b.unit ∨ (a.unit = b.unit ∧ (a.block < b.block ∨ (a.block = b.block ∧
    (b.late = true ∨ a.late = false)))))))

/-- A command joins those of its tick behind every one that goes before it (R21, R22); equals keep their order of arrival. -/
def joinQueue (key : Instr → TieKey) (i : Instr) : List Instr → List Instr
  | [] => [i]
  | x :: rest => if (key x).le (key i) then x :: joinQueue key i rest else i :: x :: rest

/-- A command of the present tick arrives (R21 to R24). -/
def State.arrive (s : State) (i : Instr) : State := { s with pending := joinQueue s.keyOf i s.pending }

/-- A queue stands in the order of R21 and R22. -/
def inTieOrder (key : Instr → TieKey) (q : List Instr) : Prop := q.Pairwise (fun a b => (key a).le (key b) = true)

end Sys2Proof.Machine
end

