-- ==== Sys2Proof/WellFormed.lean ====
section
/-! DEFINITION. The checks of a command: bytes below 256, records and packets of their length, samples of their width, offsets
inside BAR0. -/
namespace Sys2Proof
open Machine

/-- Exactly `n` bytes. -/
def bytesOf (n : Nat) (bs : List Byte) : Bool := bs.length == n && bs.all (fun b => decide (b < 256))

/-- At most `n` bytes. -/
def bytesUpTo (n : Nat) (bs : List Byte) : Bool := decide (bs.length ≤ n) && bs.all (fun b => decide (b < 256))

/-- What host memory answers: bytes, or a cause of R59 and a 64-bit address. -/
def Machine.HostRead.wf (d : HostRead) : Bool :=
  match d with
  | .ok bytes => bytes.all (fun b => decide (b < 256))
  | .fail cause addr => decide (cause < 4) && decide (addr < 2 ^ 64)

/-- An answer of exactly `n` bytes, or a failure. -/
def Machine.HostRead.wfLen (n : Nat) (d : HostRead) : Bool :=
  match d with
  | .ok bytes => bytesOf n bytes
  | .fail _ _ => d.wf

/-- An INPUT record names units that exist (R374). -/
def Machine.InputRec.wf (r : InputRec) : Bool :=
  r.counts.all (fun x => decide (x.1 < 8)) && decide (r.switches < 2 ^ 16) && r.probes.all (fun x => decide (x.1 < 4))
    && r.adc.all (fun x => decide (x.1 < 48)) && r.colours.all (fun x => decide (x.1 < 8) && x.2.length == 4)

/-- A command is well formed. -/
def Instr.wf (i : Instr) : Bool :=
  match i with
  | .configRequest _ => true
  | .mmioWriteDiscard _ offset _ => decide (offset < 0x1000000)
  | .registerWrite offset _ => offset % 4 == 0 && decide (offset < 0x1000000)
  | .hifSqTailDb _ _ => true
  | .hifCqHeadDb _ _ => true
  | .hifEqHeadDb _ => true
  | .ringsReset _ => true
  | .ringPairEnable _ _ => true
  | .ringPairDisable _ _ => true
  | .eventRingEnable _ => true
  | .eventRingDisable _ => true
  | .engineOffline _ _ => true
  | .gpioOutWrite _ _ => true
  | .i2cXfer _ _ => true
  | .i2cTransferDone _ _ _ => true
  | .commandFetch _ d => d.wfLen 64
  | .atBoundaryCommit => true
  | .unknownOpcode _ => true
  | .sysIdentify _ => true
  | .sysHealth _ => true
  | .sysRegRead _ => true
  | .sysRegWrite _ => true
  | .sysEventMask _ => true
  | .sysFwUpdate _ d => d.wf
  | .fwUpdateDone _ => true
  | .sysEnterDormant _ => true
  | .geoHeadclass _ => true
  | .geoHead _ => true
  | .geoRuns _ d => d.wf
  | .geoExceptions _ d => d.wf
  | .geoCommit _ => true
  | .generationActivate => true
  | .pageOpen _ => true
  | .pageAddTiles _ d => d.wf
  | .tileArrival _ _ d => d.wf
  | .verifyTileDecode _ _ => true
  | .pageClose _ => true
  | .verificationEnd _ => true
  | .pageQueue _ => true
  | .pageAbort _ => true
  | .pageQuery _ => true
  | .pageChain _ => true
  | .subDefects _ d => d.wf
  | .subLevelmap _ => true
  | .subPolicy _ => true
  | .subQuery _ => true
  | .paceConfig _ => true
  | .paceStart _ => true
  | .paceStop _ => true
  | .paceRole _ => true
  | .paceQuery _ => true
  | .paceStepEdge _ => true
  | .lineTrigger => true
  | .retreat => true
  | .passArm => true
  | .holdTrigger => true
  | .gongFrameRx _ bytes => bytesOf 17 bytes
  | .gongIdleSend => true
  | .gongLost => true
  | .gongHalt _ => true
  | .gongRxLock _ => true
  | .planningTick => true
  | .microstepResolutionChange _ => true
  | .pwmPeriodStart => true
  | .controlCycleEnd => true
  | .loopEvaluation _ => true
  | .loopPublish _ => true
  | .adcResult _ _ _ => true
  | .beatRelease => true
  | .segmentWrite _ _ => true
  | .engineBeatDone _ => true
  | .engineWatchdog _ => true
  | .sramEccError _ word _ _ _ => decide (word < 2 ^ 32)
  | .snrLaneEnable _ => true
  | .snrLaneDisable _ => true
  | .snrEyeScan _ => true
  | .eyeScanDone _ counts => counts.all (fun n => decide (n < 2 ^ 64))
  | .snrHeadMsg _ => true
  | .hubReply _ blocks => bytesUpTo 56 blocks
  | .headMsgTimeout _ => true
  | .snrQuery _ => true
  | .snrBlockLock _ _ => true
  | .downstreamAm _ _ => true
  | .upstreamAm _ am turn _ => bytesOf 8 am && bytesOf 8 turn
  | .amMissed _ => true
  | .laneBringupTimeout _ => true
  | .statusBlock _ bytes => bytesOf 8 bytes
  | .cmpReport _ bytes => bytesOf 8 bytes
  | .camPort _ => true
  | .camSensorDesc _ => true
  | .camSetExposure _ => true
  | .exposureLatchTimeout _ => true
  | .cciTransferDone _ _ => true
  | .camPipe _ d => d.wf
  | .camOutputs _ => true
  | .camStart _ => true
  | .camStop _ => true
  | .frameStart _ => true
  | .frameEnd _ => true
  | .frameTimeout _ => true
  | .lineArrival _ rows _ _ _ _ => rows.all (fun r => r.all (fun x => decide (x < 4096)))
  | .pipelineLine => true
  | .frameOutputDelivery _ => true
  | .ladderStepPlace => true
  | .ladderTimeout _ => true
  | .stkConfig _ d => d.wf
  | .stkMap _ => true
  | .stkLadder _ => true
  | .stkQuery _ => true
  | .motAxis _ => true
  | .motSine _ d => d.wf
  | .motProfile _ d => d.wf
  | .motMove _ => true
  | .motLimits _ => true
  | .motStop _ => true
  | .motQuery _ => true
  | .limitSwitch _ _ => true
  | .encConfig _ => true
  | .encSet _ => true
  | .encProbe _ => true
  | .encCompare _ d => d.wf
  | .encQuery _ => true
  | .encoderEdge _ _ => true
  | .encoderFaultAutoClear _ => true
  | .indexPulse _ _ => true
  | .ssiFrameDone _ data _ _ _ => decide (data < 2 ^ 40)
  | .probeLatch _ _ => true
  | .probeTimeout _ => true
  | .comparePulseEnd _ => true
  | .switchChange _ _ => true
  | .cleLoop _ => true
  | .cleSections _ d => d.wf
  | .cleMode _ => true
  | .cleSetpoint _ => true
  | .cleQuery _ => true
  | .adcConfig _ d => d.wf
  | .ledChain _ => true
  | .ledMatrix _ => true
  | .ledLevels _ d => d.wf
  | .ledZones _ => true
  | .ledFrameDone _ returned => returned.all (fun x => decide (x < 65536))
  | .matrixSlotStart _ => true
  | .colourSensorReadDone _ bytes _ => bytesUpTo 8 bytes
  | .timPort _ => true
  | .timDomain _ => true
  | .timAdjust _ => true
  | .timSelect _ => true
  | .timQuery _ => true
  | .ptpSyncRx _ _ frame => bytesUpTo 1514 frame
  | .ptpMessageRx _ _ frame => bytesUpTo 1514 frame
  | .ptpTx _ frame _ _ _ => bytesUpTo 1514 frame
  | .ptpMasterLost _ _ => true
  | .switchSlewDone => true
  | .twnConfig _ => true
  | .twnHandover _ => true
  | .twnProofTest _ => true
  | .twnQuery _ => true
  | .tapSend => true
  | .tapReceived _ _ => true
  | .tapPathLost _ => true
  | .electionTimeout => true
  | .chezatinLinkUp ams _ _ _ => ams.all (fun a => bytesOf 8 a.1)
  | .lineRecordRx bytes => bytesOf 19 bytes
  | .shadowLineTimeout => true
  | .inputRecordRx rec => rec.wf
  | .changeRecordRx _ packet d => bytesOf 64 packet && d.wf
  | .mirroredCommit _ _ => true
  | .ackTimeout _ => true
  | .healthRecordRx _ => true
  | .copyComplete _ => true
  | .selfDiagnosisFault _ _ => true
  | .relinquishReceived => true
  | .relinquishOut => true
  | .partnerHealthRestore => true
  | .roleExchange => true
  | .takeBack => true
  | .permitInputChange _ _ _ => true
  | .cmpOpen _ => true
  | .cmpCompress _ d => d.wf
  | .cmpDecompress _ d => d.wf
  | .cmpSave _ => true
  | .cmpRestore _ d => d.wf
  | .cmpClose _ => true
  | .cmpBlockDone _ _ => true
  | .rimConfig _ d => d.wf
  | .rimWrite _ _ => true
  | .gngConfig _ => true
  | .gpioConfig _ => true
  | .eventBacklogDrain => true
  | .coalesceTimeout _ => true
  | .hifReset _ => true
  | .perstAssert _ => true
  | .sysResetAssert _ => true
  | .vbatPor => true
  | .powerUp _ => true
  | .resetRelease => true
  | .bootImageAuthenticated _ => true
  | .dramTrainingDone _ => true
  | .railLost _ => true
  | .pllLockLoss _ => true
  | .clockReset => true
  | .watchdogRestart => true
  | .dormantOutputsOff => true
  | .pwrOnFall => true
  | .wakeCrossing _ _ => true
  | .wakePwrOn => true
  | .jtagTrst writes => writes.all (fun w => w.2.all (fun b => decide (b < 256)))
  | .chezatinBlockLock _ _ => true
  | .ackRecordRx _ => true
  | .commitRecordRx _ _ => true
  | .handoverRecordRx _ => true
  | .hifReadyReturn => true
  | .pcieLinkUp _ _ _ => true
  | .resetPinsReleased _ => true
  | .pllLock _ => true
  | .gongHaltRelease _ => true
  | .csiDeskewDone _ => true
  | .ethLinkUp _ => true
  | .cmpSaveDone _ => true
  | .gpioPwmPeriodStart _ => true

end Sys2Proof
end

