-- ==== Sys2Proof/Safety.lean ====
section
/-! DEFINITION. What claims are stated in: what a reset of the device leaves (R406), a fire permit that agrees with its channels (R391), and a command that the command
processor starts and commits at once (R42, R45, R46, R380, R412, R460). -/
namespace Sys2Proof.Machine

/-- What a reset of the device leaves outside the system block and what was sent (R406): everything at its reset value, but for the levels
that other devices drive on its inputs. The tick count, the queue and the free values are the model's own, and stay. -/
def State.cleared (s : State) : State :=
  { State.reset with
    tick := s.tick, pending := s.pending, free := s.free
    twn := { ({} : Twn) with in0 := s.twn.in0, in1 := s.twn.in1, in2 := s.twn.in2 }
    gng := { ({} : Gng) with otherLow := s.gng.otherLow } }

/-- The voted permit and DISAGREE are those of the table of R391 for the outputs of the three channels. -/
def State.VoteOk (s : State) : Prop := (s.twn.permit, s.twn.disagree) = voteTable s.permitChannels

/-- At least two of the three channels permit. -/
def State.twoPermit (s : State) : Bool :=
  decide (2 ≤ b2n (bit s.permitChannels 0) + b2n (bit s.permitChannels 1) + b2n (bit s.permitChannels 2))

/-- Command `c`, at the front of ring `r`, is the one the command processor starts now (R42, R43, R46); it has opcode `code`, a
valid packet form and an allowed role (R460), and commits at once: no page boundary to wait for (R45), no partner to mirror to
(R380), no recovery (R412). -/
def State.atOnce (s : State) (r code : Nat) (c : Cmd) : Bool :=
  decide (s.turnRing = some r) && decide (s.startable r = some c) && pktOpcode c.packet == code && s.sys.imageRun != 2 &&
    (match opInfo code with
     | none => false
     | some o => packetForm o c.packet && roleAllows s.twn.role (opClass o c.packet)
         && !(pktAtBoundary c.packet && s.anyLive) && !(opClass o c.packet == .mirrored && s.paired))

/-- The state in which a command of ring `r` commits: the turn has passed to the rings after it (R46), and what host memory answered
to its reads is kept with it (R48). -/
def State.begun (s : State) (r : Nat) (c : Cmd) (d : HostRead) : State :=
  (s.keepHost c.id d).served r

end Sys2Proof.Machine
end

