-- ==== Sys2Proof/Certificates/Slice0/Obligations.lean ====
section
/-! DEFINITION. The statements for the provers, by family. A statement that rests on a choice of the model names its log entry;
what a command does on the state in which it commits is written with the operations of the machine: `begun` (the command processor
has started it), `complete` (its completion is written, R49), `raise` (an event record is written, R50 to R52), `emit` (an item is
sent) and the change of one block. -/
open Sys2Proof Sys2Proof.Machine

/-- A step takes the command at the front of the queue and runs it on the state with the queue's rest. -/
def Obligations.StepRunsTheFrontCommand : Prop :=
  ∀ (s : State) (c : Instr) (rest : List Instr), s.pending = c :: rest → step s = exec c { s with pending := rest }

/-- On an empty queue one tick passes (the model's choice, log entry 2): the tick count rises by one, no command comes to wait, and while the
device is held in reset nothing else changes. -/
def Obligations.EmptyQueuePassesOneTick : Prop :=
  ∀ s : State, s.pending = [] →
    ∃ t, step s = .next t ∧ t.tick = s.tick + 1 ∧ t.pending = [] ∧ (s.running = false → t = { s with tick := s.tick + 1 })

/-- R32, R34, R38: a write of registers outside the HIF block or of BAR2, one that does not write a register whole, one of ring registers while
HIF_READY is 0, and a doorbell of a ring that is disabled or stopped are discarded, and HIF_MMIO_DISCARD counts each write once, saturating;
nothing else changes. A write that runs past the end of its BAR is a malformed TLP and changes no register (it is reported as fatal, log entry
123). R36: a whole write of a base register of a disabled ring pair takes its 32 bits; of an enabled pair it changes nothing. -/
def Obligations.HostWritesAreTakenOrDiscarded : Prop :=
  (∀ (s : State) (off : Nat) (ens : List (Fin 16)), off / 4 * 4 + 4 * ens.length ≤ 4096 → ens ≠ [] →
    exec (.mmioWriteDiscard true off ens) s = .next (s.modHif (fun h => { h with discard := min (2 ^ 32 - 1) (h.discard + 1) }))) ∧
  (∀ (s : State) (k : Nat) (e : Fin 16) (ens : List (Fin 16)), 4 * k + 4 * (ens.length + 1) ≤ 16777216 →
    (4 * k < 0x100000 ∨ 0x200000 ≤ 4 * k ∨ (e.val ≠ 0 ∧ e.val ≠ 15)) →
    exec (.mmioWriteDiscard false (4 * k) (e :: ens)) s =
      .next (s.modHif (fun h => { h with discard := min (2 ^ 32 - 1) (h.discard + 1) }))) ∧
  (∀ (s : State) (bar2 : Bool) (off : Nat) (ens : List (Fin 16)), (if bar2 then 4096 else 16777216) < off / 4 * 4 + 4 * ens.length →
    exec (.mmioWriteDiscard bar2 off ens) s = .next (s.modHif (fun h => { h with aerFatal := true }))) ∧
  (∀ (s : State) (off : Nat) (v : BitVec 32), (off < 0x100000 ∨ 0x200000 ≤ off) →
    exec (.registerWrite off v) s = .next (s.modHif (fun h => { h with discard := min (2 ^ 32 - 1) (h.discard + 1) }))) ∧
  (∀ (s : State) (r : Fin 4) (v : Fin 65536), s.hif.ready = false ∨ (s.ring r.val).enable = false ∨ (s.ring r.val).stopped = true →
    exec (.hifSqTailDb r v) s = .next (s.modHif (fun h => { h with discard := min (2 ^ 32 - 1) (h.discard + 1) })) ∧
    exec (.hifCqHeadDb r v) s = .next (s.modHif (fun h => { h with discard := min (2 ^ 32 - 1) (h.discard + 1) }))) ∧
  (∀ (s : State) (v : Fin 65536), s.hif.ready = false ∨ s.hif.eq.enable = false ∨ s.hif.eq.stopped = true →
    exec (.hifEqHeadDb v) s = .next (s.modHif (fun h => { h with discard := min (2 ^ 32 - 1) (h.discard + 1) }))) ∧
  (∀ (s : State) (r : Fin 4) (v : BitVec 32), s.hif.ready = true →
    exec (.registerWrite (0x101000 + 0x40 * r.val) v) s =
      .next (if (s.ring r.val).enable then s else
        s.modRing r.val (fun g => { g with sqBase := g.sqBase / 2 ^ 32 * 2 ^ 32 + v.toNat })) ∧
    exec (.registerWrite (0x101014 + 0x40 * r.val) v) s =
      .next (if (s.ring r.val).enable then s else
        s.modRing r.val (fun g => { g with cqBase := v.toNat * 2 ^ 32 + g.cqBase % 2 ^ 32 })))

/-- R38: an accepted doorbell value moves its pointer and changes nothing else. A submission tail t is accepted when t < N and (t − T) mod N ≤ (H
− 1 − T) mod N; a completion or event head h when h < N and (h − K) mod N ≤ (W − K) mod N. R38, R59, R459: a submission tail that is not accepted
stops its ring pair: ERROR rises with ERR_CAUSE 0, the tail keeps its value, no command of that ring stays in flight, and those of the other
rings do. -/
def Obligations.DoorbellsMoveOrStopTheirRing : Prop :=
  (∀ (s : State) (r : Fin 4) (v : Fin 65536), s.hif.ready = true → (s.ring r.val).active = true →
    (s.ring r.val).tail < 2 ^ (s.ring r.val).sqLog2 → (s.ring r.val).head < 2 ^ (s.ring r.val).sqLog2 →
    v.val < 2 ^ (s.ring r.val).sqLog2 →
    ((v.val : Int) - (s.ring r.val).tail) % 2 ^ (s.ring r.val).sqLog2
      ≤ (((s.ring r.val).head : Int) - 1 - (s.ring r.val).tail) % 2 ^ (s.ring r.val).sqLog2 →
    exec (.hifSqTailDb r v) s = .next (s.modRing r.val (fun g => { g with tail := v.val }))) ∧
  (∀ (s : State) (r : Fin 4) (v : Fin 65536), s.hif.ready = true → (s.ring r.val).active = true →
    (s.ring r.val).cqHead < 2 ^ (s.ring r.val).cqLog2 → (s.ring r.val).cqWrite < 2 ^ (s.ring r.val).cqLog2 →
    v.val < 2 ^ (s.ring r.val).cqLog2 →
    ((v.val : Int) - (s.ring r.val).cqHead) % 2 ^ (s.ring r.val).cqLog2
      ≤ (((s.ring r.val).cqWrite : Int) - (s.ring r.val).cqHead) % 2 ^ (s.ring r.val).cqLog2 →
    exec (.hifCqHeadDb r v) s = .next (s.modRing r.val (fun g => { g with cqHead := v.val }))) ∧
  (∀ (s : State) (v : Fin 65536), s.hif.ready = true → s.hif.eq.enable = true → s.hif.eq.stopped = false →
    s.hif.eq.head < 2 ^ s.hif.eq.log2 → s.hif.eq.write < 2 ^ s.hif.eq.log2 → v.val < 2 ^ s.hif.eq.log2 →
    ((v.val : Int) - s.hif.eq.head) % 2 ^ s.hif.eq.log2 ≤ ((s.hif.eq.write : Int) - s.hif.eq.head) % 2 ^ s.hif.eq.log2 →
    exec (.hifEqHeadDb v) s = .next (s.modHif (fun h => { h with eq := { h.eq with head := v.val } }))) ∧
  (∀ (s : State) (r : Fin 4) (v : Fin 65536), s.hif.ready = true → (s.ring r.val).active = true → (s.ring r.val).tailOk v.val = false →
    ∃ t, exec (.hifSqTailDb r v) s = .next t ∧
      t = { s with hif := t.hif, evt := t.evt, out := t.out } ∧ (t.ring r.val).stopped = true ∧ (t.ring r.val).error = true ∧
      (t.ring r.val).errCause = 0 ∧ (t.ring r.val).tail = (s.ring r.val).tail ∧
      t.hif.inflight = s.hif.inflight.filter (fun c => c.ring != r.val) ∧ t.hif.rings.get {} ((r.val + 1) % 4) = s.ring ((r.val + 1) % 4))

/-- R34, R37, R459: enabling a pair starts it at index 0 with PHASE 1 and clears ERROR; disabling it discards what it has in flight and lets
committed commands run on without a completion; RINGS_RESET disables every pair and the event ring. -/
def Obligations.RingsAreEnabledAndDisabled : Prop :=
  (∀ (s : State) (r : Fin 4) (v : BitVec 32), s.hif.ready = true → (s.ring r.val).enable = false → bit v.toNat 0 = true →
    (s.ring r.val).sqBase % 4096 = 0 → (s.ring r.val).cqBase % 4096 = 0 → sizeOk (bits v.toNat 5 1) = true →
    sizeOk (s.ring r.val).cqLog2 = true →
    ∃ t, exec (.ringPairEnable r v) s = .next t ∧ t = s.setRing r.val { s.ring r.val with sqLog2 := bits v.toNat 5 1, enable := true, stopped := false, error := false, errCause := 0, head := 0, tail := 0, cqWrite := 0, cqHead := 0, phase := true, irqCount := 0, irqFirst := none }) ∧
  (∀ (s : State) (r : Fin 4) (v : BitVec 32), s.hif.ready = true → (s.ring r.val).enable = true → bit v.toNat 0 = false →
    ∃ t, exec (.ringPairDisable r v) s = .next t ∧
      t = { s with hif := t.hif } ∧ (t.ring r.val).enable = false ∧ (t.ring r.val).sqBase = (s.ring r.val).sqBase ∧
      t.hif.inflight = s.hif.inflight.filter (fun c => c.ring != r.val) ∧
      t.hif.gone = s.hif.gone ++ s.hif.inflight.filter (fun c => c.ring == r.val && c.phase == .running) ∧
      (∀ q : Fin 4, q ≠ r → t.ring q.val = s.ring q.val)) ∧
  (∀ (s : State) (v : BitVec 32), s.hif.ready = true → s.hif.eq.enable = false → bit v.toNat 5 = true → s.hif.eq.base % 4096 = 0 →
    sizeOk (bits v.toNat 4 0) = true →
    exec (.eventRingEnable v) s = .next (s.modHif (fun h => { h with eq := { h.eq with vector := bits v.toNat 11 6, irqEn := bit v.toNat 12, coalCount := bits v.toNat 23 16, log2 := bits v.toNat 4 0, enable := true, stopped := false, write := 0, head := 0, phase := true, lost := 0, irqCount := 0, irqFirst := none } }))) ∧
  (∀ (s : State) (v : BitVec 32), s.hif.ready = true → s.hif.eq.enable = true → bit v.toNat 5 = false →
    exec (.eventRingDisable v) s = .next (s.modHif (fun h => { h with eq := { h.eq with vector := bits v.toNat 11 6, irqEn := bit v.toNat 12, coalCount := bits v.toNat 23 16, enable := false, stopped := false } }))) ∧
  (∀ (s : State) (v : BitVec 32), bit v.toNat 0 = true → (∀ c ∈ s.hif.inflight, c.ring < 4) →
    ∃ t, exec (.ringsReset v) s = .next t ∧
      t = { s with hif := t.hif } ∧ (∀ r < 4, (t.ring r).enable = false ∧ (t.ring r).error = false) ∧
      t.hif.eq.enable = false ∧ t.hif.inflight = [] ∧ t.hif.ready = s.hif.ready)

/-- R40, R41: a fetch copies the packet at the head of a submission ring that has one waiting and a completion entry to reserve, moves the head
by one, and takes the next place in fetch order; a failed read stops the pair with ERR_CAUSE 1. -/
def Obligations.FetchTakesOnePacket : Prop :=
  (∀ (s : State) (r : Fin 4) (bytes : List Byte), s.canFetch r.val = true →
    exec (.commandFetch r (.ok bytes)) s =
      .next ((s.modRing r.val (fun g => { g with head := (g.head + 1) % 2 ^ g.sqLog2 })).modHif (fun h => { h with nextId := h.nextId + 1, inflight := h.inflight ++ [{ id := h.nextId, ring := r.val, packet := pad 64 bytes }] }))) ∧
  (∀ (s : State) (r : Fin 4) (cause addr : Nat), s.canFetch r.val = true →
    ∃ t, exec (.commandFetch r (.fail cause addr)) s = .next t ∧
      t = { s with hif := t.hif, evt := t.evt, out := t.out } ∧ (t.ring r.val).error = true ∧ (t.ring r.val).errCause = 1 ∧
      (t.ring r.val).head = (s.ring r.val).head ∧
      (∀ q : Fin 4, q ≠ r → t.ring q.val = s.ring q.val))

/-- R29, R30, R35, R50: configuration requests are answered with a retry until the firmware is authenticated and not at all under PERST, then
with the capabilities of R29; link-up takes speed and width, ×8 at most with the strap PCIE_X8; losing the link, or an interface reset, clears
HIF_READY and every ring and empties the command processor; the sequence numbers and what was held restart at a fall of HIF_READY alone;
HIF_READY returns with a new epoch. The bits of the power state are the model's (log entry 123). R51, R53: a record held for want of room is
written, oldest first, once the ring has 2 free entries; an interrupt held by coalescing is due when COAL_TIME has passed since the first entry,
and as the tick ends, behind the entries of the tick itself, it clears the count and triggers the vector. -/
def Obligations.HostLinkAndHeldRecords : Prop :=
  (∀ (s : State) (q : ConfigReq), s.sys.perstLow = true → exec (.configRequest q) s = .next s) ∧
  (∀ (s : State) (q : ConfigReq), s.sys.perstLow = false → s.hif.fwAuth = false →
    exec (.configRequest q) s = .next (s.emit (.config true 0))) ∧
  (∀ s : State, s.sys.perstLow = false → s.hif.fwAuth = true →
    exec (.configRequest (.read .classCode)) s = .next (s.emit (.config false 0x118000)) ∧
    exec (.configRequest (.read .maxPayload)) s = .next (s.emit (.config false 256)) ∧
    exec (.configRequest (.read .maxReadRequest)) s = .next (s.emit (.config false 4096)) ∧
    exec (.configRequest (.read .tags)) s = .next (s.emit (.config false 512)) ∧
    exec (.configRequest (.read .vectors)) s = .next (s.emit (.config false 64)) ∧
    exec (.configRequest (.read .functions)) s = .next (s.emit (.config false 1)) ∧
    exec (.configRequest (.write .powerState 3)) s = .next ((s.modHif (fun h => { h with d3hot := true })).emit (.config false 0))) ∧
  (∀ (s : State) (g : Fin 8) (w : Fin 32) (l : List (Nat × Nat)), (g.val = 3 ∨ g.val = 4 ∨ g.val = 5) → (w.val = 8 ∨ w.val = 16) →
    s.sys.perstLow = false →
    exec (.pcieLinkUp g w l) s = .next (s.modHif (fun h => { h with linkDown := false, linkGen := g.val, refused := l, linkWidth := if bit s.sys.straps 2 then 8 else w.val }))) ∧
  (∀ (s : State) (down : Bool), ∃ t, exec (.hifReset down) s = .next t ∧
      t = { s with hif := t.hif, evt := t.evt } ∧ t.hif.ready = false ∧ t.hif.rings = {} ∧ t.hif.eq = {} ∧
    t.hif.inflight = [] ∧ t.hif.epoch = s.hif.epoch ∧ t.hif.discard = s.hif.discard ∧
    (s.hif.ready = true → t.evt.seq = 0 ∧ t.evt.backlog = [] ∧ t.evt.lost = 0) ∧ (s.hif.ready = false → t.evt = s.evt) ∧
    t.hif.linkDown = (down || s.hif.linkDown)) ∧
  (∀ s : State, s.hif.ready = false → s.hif.fwAuth = true → s.sys.memDone = true → s.hif.linkDown = false →
    s.sys.fallbackDue = false → (s.sys.restarting = false ∨ s.sys.slotBad = false) →
    exec .hifReadyReturn s = .next (((s.modHif (fun h => { h with ready := true, epoch := (h.epoch + 1) % 256, rings := {}, eq := {} })).modEvt
      (fun e => { e with threshold := [], suppress := [], maskNext := none })).modSys (fun y => { y with restarting := false }))) ∧
  (∀ (s : State) (x : Rec), s.evt.heldError = none → s.evt.backlog = [x] → 2 ≤ s.hif.eq.freeEntries → s.evt.lost = 0 →
    exec .eventBacklogDrain s = .next ((s.modEvt (fun e => { e with backlog := [] })).writeRecord x)) ∧
  (∀ (s : State) (r : Fin 4) (t0 : Nat), (s.ring r.val).irqEn = true → (s.ring r.val).irqFirst = some t0 →
    (s.ring r.val).coalTime ≠ 0 → t0 + 200 * (s.ring r.val).coalTime ≤ s.tick →
    exec (.coalesceTimeout ⟨r.val, by omega⟩) s = .next (s.modHif (fun h => { h with coalDue := h.coalDue ++ [r.val] }))) ∧
  (∀ (s : State) (r : Fin 4), (s.ring r.val).irqEn = true → s.hif.coalDue = [r.val] →
    s.expireCoals = ((s.modHif (fun h => { h with coalDue := [] })).modRing r.val (fun g => { g with irqCount := 0, irqFirst := none })).triggerVector
      (s.ring r.val).vector) ∧
  (∀ (s : State) (t0 : Nat), s.hif.eq.irqEn = true → s.hif.eq.irqFirst = some t0 → s.hif.eq.coalTime ≠ 0 →
    t0 + 200 * s.hif.eq.coalTime ≤ s.tick →
    exec (.coalesceTimeout 4) s = .next (s.modHif (fun h => { h with coalDue := h.coalDue ++ [4] }))) ∧
  (∀ s : State, s.hif.eq.irqEn = true → s.hif.coalDue = [4] →
    s.expireCoals = (s.modHif (fun h => { h with coalDue := [], eq := { h.eq with irqCount := 0, irqFirst := none } })).triggerVector s.hif.eq.vector)

/-- R54: SYS_IDENTIFY answers the part number, stepping, firmware version of the image that runs and device number; SYS_HEALTH the failed blocks,
corrected errors, a temperature (a free value, log entry 4), the role (OUT reads 0) and the uptime in seconds; neither changes anything else.
R31, R32, R54: SYS_REG_READ answers a register's value and changes nothing; SYS_REG_WRITE changes the bits of its mask. Shown on GPIO_OUT
(0x0000_4004) and on a scratch register (0x0000_1100 + 4 k). BAR2 mirrors the Rim window, with its status at 0x400; a 64-bit host read returns
two consecutive registers of one tick, and a read past the end of its BAR is malformed. R52: SYS_EVENT_MASK replaces the whole mask, for events
of ticks after its commit. -/
def Obligations.IdentityHealthRegistersAndMask : Prop :=
  (∀ (s : State) (r : Fin 4) (c : Cmd), s.atOnce r 0x0101 c →
    exec (.sysIdentify r) s = .next ((s.begun r c (.ok [])).complete c.id Status.ok
      ([0x21, 0] ++ leBytes 1 Config.stepping ++ [u8 s.sys.runHeader 8] ++ leBytes 2 (u16 s.sys.runHeader 10)
        ++ leBytes 2 (u16 s.sys.runHeader 12) ++ leBytes 8 Config.deviceNumber))) ∧
  (∀ (s : State) (r : Fin 4) (c : Cmd), s.atOnce r 0x0102 c →
    exec (.sysHealth r) s = .next (({ s.begun r c (.ok []) with free := s.free + 1 }).complete c.id Status.ok
      (leBytes 4 s.sys.failed ++ leBytes 4 s.sys.ceCount ++ leBytes 2 (Config.freeNat s.free)
        ++ [if s.twn.role = Role.out then 0 else s.twn.role.num, 0] ++ leBytes 4 (s.tick / 200000000)))) ∧
  (∀ (s : State) (r : Fin 4) (c : Cmd), s.atOnce r 0x0103 c → u32 c.packet 8 = 0x4004 →
    exec (.sysRegRead r) s = .next ((s.begun r c (.ok [])).complete c.id Status.ok (leBytes 4 s.gpio.out.toNat))) ∧
  (∀ (s : State) (r : Fin 4) (c : Cmd) (k : Fin 32), s.atOnce r 0x0103 c → u32 c.packet 8 = 0x1100 + 4 * k.val →
    exec (.sysRegRead r) s = .next ((s.begun r c (.ok [])).complete c.id Status.ok (leBytes 4 (s.sys.scratch.get 0 k.val).toNat))) ∧
  (∀ (s : State) (r : Fin 4) (c : Cmd), s.atOnce r 0x0104 c → u32 c.packet 8 = 0x4004 →
    exec (.sysRegWrite r) s = .next (((s.begun r c (.ok [])).modGpio (fun g => { g with out := (g.out &&& ~~~(BitVec.ofNat 32 (u32 c.packet 16))) ||| (BitVec.ofNat 32 (u32 c.packet 12) &&& BitVec.ofNat 32 (u32 c.packet 16)) })).complete
        c.id Status.ok [])) ∧
  (∀ (s : State) (k : Fin 256), s.hostRead32 true (4 * k.val) = s.rim.window.getD k.val 0) ∧
  (∀ s : State, s.hostRead32 true 0x400 = s.rim.status) ∧
  (∀ (s : State) (bar2 : Bool) (k : Nat) (at_ : Nat → State), at_ 0 = s → 8 * k + 8 ≤ barSize bar2 → s.hostRead32 bar2 (8 * k) < 2 ^ 32 →
    s.hostRead32 bar2 (8 * k + 4) < 2 ^ 32 → hostRead bar2 at_ (8 * k) [15, 15] = some (leBytes 8 (s.hostRead64 bar2 (8 * k)))) ∧
  (∀ (bar2 : Bool) (at_ : Nat → State) (off : Nat) (ens : List (Fin 16)), barSize bar2 < off / 4 * 4 + 4 * ens.length →
    hostRead bar2 at_ off ens = none) ∧
  (∀ (s : State) (r : Fin 4) (c : Cmd), s.atOnce r 0x0105 c →
    (∀ i < 8, suppressible (u16 c.packet (24 + 2 * i)) = true) →
    ∃ t, exec (.sysEventMask r) s = .next t ∧
      t = { s with hif := t.hif, evt := t.evt } ∧ t.tick = s.tick ∧
      t.evt.threshold = s.maskNow.1 ∧ t.evt.suppress = s.maskNow.2 ∧
      t.evt.maskNext = some { val := ((List.range 16).map (fun i => min 3 (u8 c.packet (8 + i))), ((List.range 8).map (fun i => u16 c.packet (24 + 2 * i))).filter (· != 0)), tick := s.tick } ∧
      t.evt.seq = s.evt.seq)

/-- R414, R430: SYS_FW_UPDATE of an authentic image erases the slot and runs on, and any other image is turned away with its reason; with the
image programmed, by pages and the header last, and read back the slot holds it and the command completes; after a failed read-back its header is
erased again and the command completes with AUTH_FAILED, reason 7. With FLASH_4B the 4-byte forms of the commands are used. The block size of the
erase is the model's (log entry 163). -/
def Obligations.FirmwareUpdateProgramsTheOtherSlot : Prop :=
  (∀ (s : State) (r : Fin 4) (c : Cmd) (b : List Byte), s.atOnce r 0x0106 c → u8 c.packet 21 = 0 → u64 c.packet 8 % 64 = 0 →
    256 ≤ u32 c.packet 16 → payloadLenOk (u32 c.packet 16 - 256) = true → u8 c.packet 20 = 1 → s.sys.imageRun = 0 →
    s.sys.fwJob = none → b.length = u32 c.packet 16 → u32 b 20 + 256 = u32 c.packet 16 →
    exec (.sysFwUpdate r (.ok b)) s = .next (if s.imageReason b = 0 then (((s.begun r c (.ok b)).emitAll (s.flashErase 1)).modSys (fun y => { y with slot1 := List.replicate 256 255, fwJob := some { cmd := c.id, slot := 1, image := b } })).setPhase c.id .running
    else (s.begun r c (.ok b)).complete c.id Status.authFailed ([s.imageReason b, 1, 0, 0] ++ leBytes 4 (u32 b 16) ++ zeros 8))) ∧
  (∀ (s : State) (j : FwJob), s.sys.fwJob = some j → j.slot = 1 →
    exec (.fwUpdateDone true) s = .next ((((s.modSys (fun y => { y with fwJob := none })).emitAll (s.flashProgram 1 j.image)).modSys
      (fun y => { y with slot1 := j.image })).complete j.cmd Status.ok ([0, 1, 0, 0] ++ leBytes 4 (u32 j.image 16) ++ zeros 8))) ∧
  (∀ (s : State) (j : FwJob), s.sys.fwJob = some j →
    exec (.fwUpdateDone false) s = .next ((((s.modSys (fun y => { y with fwJob := none })).emitAll (s.flashProgram j.slot j.image)).emitAll
      (s.flashWrite 0x20 (0x100000 * (j.slot + 1)) [])).complete j.cmd Status.authFailed ([7, j.slot, 0, 0] ++ leBytes 4 (u32 j.image 16) ++ zeros 8))) ∧
  (∀ (s : State) (addr : Nat) (data : List Byte), s.flashWrite 0x02 addr data =
    [.flash 0x06 0 0 [], .flash (if bit s.sys.straps 3 then 0x12 else 0x02) addr 0 data, .flash 0x05 0 1 []])

/-- R416 to R418: SYS_ENTER_DORMANT with nothing printing, no axis active, the permit disarmed and no partner starts the way down; 200 ticks
later the outputs go off, 1 ms after the completion PWR_ON falls and the device is held in reset, WAKE_IN crossings of the chosen direction that
last 10 µs are counted, and PWR_ON rises with the WAKE_N-th, no earlier than 50 ms after it fell. R401, R402, R406, R418, R419, R443: every reset
of the device clears all but the always-on domain, flash, fuses and pins, adds its cause, and holds the device until reset release; the scratch
registers and both firmware slots survive, save at VBAT's own reset. A reset pin resets from 1 µs on and never below 100 ns; rails that come up
after all of groups 1 to 4 were absent reset it, and others only come into range. R402, R404 to R406, R435: the straps are sampled when both
reset pins are released, a PLL locks after that, and reset release waits for every rail, the root PLL and, after a brownout, for 1 ms in range;
the kind reported is the cause of the lowest value, and ticks count from 0. The JTAG reset changes nothing of the block but for what was written
into the flash while SYS_RESET_N was asserted. -/
def Obligations.DormantAndResetHoldAndRelease : Prop :=
  (∀ (s : State) (r : Fin 4) (c : Cmd), s.atOnce r 0x0107 c → u8 c.packet 8 ≤ 7 → u8 c.packet 9 ≤ 1 → u8 c.packet 10 ≠ 0 →
    s.anyLive = false → s.fir.runs = false → s.axisActive = false → (s.twn.armA || s.twn.armB || s.twn.armC) = false →
    s.hasShadow = false →
    exec (.sysEnterDormant r) s = .next (((s.begun r c (.ok [])).modSys (fun y => { y with dormant := .entering s.tick, wakeThr := u8 c.packet 8, wakeFalling := u8 c.packet 9 % 2 = 1, wakeN := u8 c.packet 10 })).complete c.id Status.ok [])) ∧
  (∀ (s : State) (t0 : Nat), s.sys.dormant = .entering t0 → t0 + 200 ≤ s.tick →
    ∃ t, exec .dormantOutputsOff s = .next t ∧
      t = { s with out := t.out, sys := t.sys, hif := t.hif, evt := t.evt, fir := t.fir } ∧ t.sys.dormant = .outputsOff t0 ∧ t.running = false ∧ t.fireEn = false ∧
      t.roleLead = false ∧ (∀ o : Out, (t.emit o).out = t.out) ∧
      t.fir.haltDrive = false ∧ t.hif.ready = false ∧ t.hif.linkDown = true ∧ t.sys.pwrOn = s.sys.pwrOn) ∧
  (∀ (s : State) (t0 : Nat), s.sys.dormant = .outputsOff t0 → t0 + 200000 ≤ s.tick →
    ∃ t, exec .pwrOnFall s = .next t ∧
      t = { s.cleared with sys := t.sys, out := t.out } ∧ t.sys.dormant = .asleep s.tick ∧ t.sys.pwrOn = false ∧ t.sys.wakeEvents = 0 ∧
      t.sys.wakeN = s.sys.wakeN ∧ t.sys.scratch = s.sys.scratch ∧ t.sys.held = true ∧ t.hif = {} ∧ t.pgq = {}) ∧
  (∀ (s : State) (t0 : Nat) (f : Bool) (n : Nat), s.sys.dormant = .asleep t0 → f = s.sys.wakeFalling → 10 ≤ n →
    exec (.wakeCrossing f n) s = .next (s.modSys (fun y => { y with wakeEvents := min (2 ^ 16 - 1) (y.wakeEvents + 1) }))) ∧
  (∀ (s : State) (f : Bool) (n : Nat), n < 10 → exec (.wakeCrossing f n) s = .next s) ∧
  (∀ (s : State) (t0 : Nat), s.sys.dormant = .asleep t0 → s.sys.wakeN ≤ s.sys.wakeEvents → t0 + 10000000 ≤ s.tick →
    exec .wakePwrOn s = .next (s.modSys (fun y => { y with pwrOn := true, dormant := .awake, causes := y.causes ++ [4] }))) ∧
  (∀ (s : State) (ns : Nat), 1000 ≤ ns → ∃ t, exec (.perstAssert ns) s = .next t ∧
      t = { s.cleared with sys := t.sys, out := t.out } ∧ t.sys.held = true ∧ t.sys.perstLow = true ∧ t.sys.causes = s.sys.causes ++ [5] ∧
    t.sys.scratch = s.sys.scratch ∧ t.sys.slot0 = s.sys.slot0 ∧ t.twn.role = .elect ∧ t.twn.permit = false ∧ t.pgq = {} ∧ t.geo = {}) ∧
  (∀ (s : State) (ns : Nat), ns < 100 → exec (.perstAssert ns) s = .next s ∧ exec (.sysResetAssert ns) s = .next s) ∧
  (∀ (s : State) (ns : Nat), 1000 ≤ ns → ∃ t, exec (.sysResetAssert ns) s = .next t ∧
      t = { s.cleared with sys := t.sys, out := t.out } ∧ t.sys.held = true ∧ t.sys.sysResetLow = true ∧
    t.sys.causes = s.sys.causes ++ [6] ∧ t.sys.scratch = s.sys.scratch ∧ t.sys.slot1 = s.sys.slot1 ∧ t.hif = {} ∧ t.fir = {}) ∧
  (∀ s : State, ∃ t, exec .vbatPor s = .next t ∧
      t = { s.cleared with sys := t.sys, out := t.out } ∧ t.sys.held = true ∧ t.sys.causes = [1] ∧ t.sys.scratch = {} ∧ t.sys.wakeN = 0 ∧
    t.sys.pwrOn = true ∧ t.sys.dormant = .awake ∧ t.sys.slot0 = s.sys.slot0 ∧ t.sys.rollback = s.sys.rollback) ∧
  (∀ s : State, s.asleep = false → s.sys.causes.contains 4 = false → s.sys.railsOk = 1 → ∃ t, exec (.powerUp 1022) s = .next t ∧
      t = { s.cleared with sys := t.sys, out := t.out } ∧
    t.sys.held = true ∧ t.sys.railsOk = 1023 ∧ t.sys.causes = s.sys.causes ++ [2] ∧ t.mot = {}) ∧
  (∀ s : State, s.asleep = false → s.sys.railsOk = 769 → ∃ t, exec (.powerUp 254) s = .next t ∧
      t = { s with sys := t.sys } ∧ t.sys.railsOk = 1023 ∧
    t.sys.causes = s.sys.causes ∧ ∀ (free pin : Nat), s.pinLevel free pin = false) ∧
  (∀ (s : State) (rail : Fin 10), s.sys.held = false → s.asleep = false → rail.val ≠ 0 → ∃ t, exec (.railLost rail) s = .next t ∧
      t = { s.cleared with sys := t.sys, out := t.out } ∧
    t.sys.held = true ∧ t.sys.causes = s.sys.causes ++ [3] ∧ t.sys.railLostAt = some s.tick ∧ t.sys.railsLost = 2 ^ rail.val) ∧
  (∀ (s : State) (t0 : Nat), s.sys.held = false → s.sys.rootLostAt = some t0 → t0 + 8000 ≤ s.tick →
    ∃ t, exec .clockReset s = .next t ∧
      t = { s.cleared with sys := t.sys, out := t.out } ∧ t.sys.held = true ∧ t.sys.causes = s.sys.causes ++ [7] ∧ t.enc = {}) ∧
  (∀ (s : State) (st : Fin 16), s.sys.sysResetLow = true → s.asleep = false →
    exec (.resetPinsReleased st) s = .next (s.modSys (fun y => { y with perstLow := false, sysResetLow := false, straps := st.val }))) ∧
  (∀ s : State, s.sys.perstLow = false → s.sys.sysResetLow = false → s.asleep = false → bit s.sys.pllLock 0 = false →
    exec (.pllLock 0) s = .next (s.modSys (fun y => { y with pllLock := y.pllLock + 1, rootLostAt := none }))) ∧
  (∀ s : State, s.sys.held = true → s.sys.perstLow = false → s.sys.sysResetLow = false → bit s.sys.pllLock 0 = true → s.asleep = false →
    s.sys.railsOk = 1023 → s.sys.railLostAt = none → ∀ k, k ∈ s.sys.causes → k ≤ 7 → (∀ j ∈ s.sys.causes, k ≤ j) →
    ∃ t, exec .resetRelease s = .next t ∧
      t = { s with tick := 0, sys := t.sys } ∧ t.tick = 0 ∧ t.sys.held = false ∧ t.sys.kind = k ∧ t.sys.causes = [] ∧ t.sys.railsOk = 1023) ∧
  (∀ s : State, s.sys.railsOk ≠ 1023 → exec .resetRelease s = .next s) ∧
  (∀ (s : State) (l : List (Nat × List Byte)), s.sys.sysResetLow = false ∨ l = [] → exec (.jtagTrst l) s = .next s) ∧
  (∀ (s : State) (b : List Byte), s.sys.sysResetLow = true → b.length = 256 → s.sys.slot0.length = 256 →
    exec (.jtagTrst [(0x100000, b)]) s = .next (s.modSys (fun y => { y with slot0 := b })))

/-- R404: the loss of a PLL's lock is shown and latched; the SerDes PLL's takes the block locks of the Chezatin link, which trains again unless
it is off; the Ethernet PLL's takes both ports down, and an instance that follows through one loses its master (R360). R409 to R413: the boot ROM
reads slot 0 and, when that fails, slot 1, runs the first that passes its checks, and recovery when neither does; memory training sets what was
trained and failed of the channels that the board block names, none of them when its CRC is bad, and HIF_READY rises when the link is up; no
channel trained marks the memory block failed. Which channels a board block names is an opaque function of it (log entry 164). R387, R407: the
watchdog first acts under R387, each time on a lead, and its restart counts, drops the rings and HIF_READY, tells whether the slot that was
booted passes again, and lets a flash update at work run on. -/
def Obligations.PllLossBootAndWatchdog : Prop :=
  (∀ s : State, bit s.sys.pllLock 1 = true → bit s.sys.pllLoss 1 = false →
    exec (.pllLockLoss 1) s = .next (s.modSys (fun y => { y with pllLock := y.pllLock - 2, pllLoss := y.pllLoss + 2 }))) ∧
  (∀ s : State, bit s.sys.pllLock 2 = true → bit s.sys.pllLoss 2 = false → (∀ l < 64, (s.lane l).locked = false) →
    exec (.pllLockLoss 2) s = .next ((s.modSys (fun y => { y with pllLock := y.pllLock - 4, pllLoss := y.pllLoss + 4, serLostAt := some s.tick })).modTwn
      (fun t => { t with locks := {}, link := if t.link = .off then .off else .train }))) ∧
  (∀ s : State, bit s.sys.pllLock 3 = true → bit s.sys.pllLoss 3 = false →
    (∀ n < 2, (s.inst n).following = false ∧ ∀ p < 2, (s.inst n).uses p = false) →
    exec (.pllLockLoss 3) s = .next (((s.modSys (fun y => { y with pllLock := y.pllLock - 8, pllLoss := y.pllLoss + 8 })).modPtpPort 0
      (fun g => { g with linkUp := false, delayReq := none, pdelayReq := none, pdelayResp := none, asked := none, again := [] })).modPtpPort 1
      (fun g => { g with linkUp := false, delayReq := none, pdelayReq := none, pdelayResp := none, asked := none, again := [] }))) ∧
  (∀ s : State, bit s.sys.pllLock 3 = true → ∃ t, exec (.pllLockLoss 3) s = .next t ∧
      t = { s with out := t.out, sys := t.sys, hif := t.hif, evt := t.evt, tim := t.tim } ∧ (t.ptpPort 0).linkUp = false ∧
    (t.ptpPort 1).linkUp = false) ∧
  (∀ s : State, s.sys.held = false → s.hif.fwAuth = false →
    (∃ t, exec (.bootImageAuthenticated 1) s = .next t ∧
      t = { s with out := t.out, sys := t.sys, hif := t.hif, evt := t.evt } ∧ t.sys.reason0 = 1 ∧ t.sys.imageRun = if s.imageReason s.sys.slot1 = 0 then 1 else 2) ∧
    ∃ t, exec (.bootImageAuthenticated 0) s = .next t ∧
      t = { s with out := t.out, sys := t.sys, hif := t.hif, evt := t.evt } ∧ t.hif.fwAuth = true ∧ t.sys.reason0 = s.imageReason s.sys.slot0 ∧
      (s.imageReason s.sys.slot0 = 0 →
        t = ((s.emit (s.flashRead 0 s.sys.slot0)).modSys (fun y => { y with reason0 := 0, reason1 := 0, imageRun := 0, fwAuthAt := some s.tick, fallbackDue := false, memDone := false, runHeader := y.slot0.take 256 })).modHif (fun h => { h with fwAuth := true, fwFallback := false })) ∧
      (s.imageReason s.sys.slot0 ≠ 0 → s.imageReason s.sys.slot1 = 0 →
        t = (((s.emit (s.flashRead 0 s.sys.slot0)).emit (s.flashRead 1 s.sys.slot1)).modSys (fun y => { y with reason0 := s.imageReason s.sys.slot0, reason1 := 0, imageRun := 1, fwAuthAt := some s.tick, fallbackDue := true, memDone := false, runHeader := y.slot1.take 256 })).modHif
            (fun h => { h with fwAuth := true, fwFallback := true })) ∧
      (s.imageReason s.sys.slot0 ≠ 0 → s.imageReason s.sys.slot1 ≠ 0 →
        t.sys.imageRun = 2 ∧ t.sys.runHeader = [] ∧ t.hif.fwFallback = true ∧ t.hif.ready = (!s.hif.linkDown || s.hif.ready))) ∧
  (∀ (s u : State) (a : Fin 16) (ok : Nat), s.hif.fwAuth = true → s.sys.memDone = false → s.hif.linkDown = true → s.sys.boardOk = true →
    ok = maskOf 4 (fun c => bit s.sys.namedChannels c && bit a.val c) →
    u = s.modSys (fun y => { y with memDone := true, boardBad := false, memTrained := ok, memGib := y.boardGib ok, memFailed := maskOf 4 (fun c => bit s.sys.namedChannels c && !bit a.val c) }) →
    exec (.dramTrainingDone a) s = .next (if ok = 0 then u.blockFailed 0 else u)) ∧
  (∀ (s : State) (a : Fin 16), s.hif.fwAuth = true → s.sys.memDone = false → s.hif.linkDown = true → s.sys.boardOk = false →
    bit s.sys.failed 0 = false →
    exec (.dramTrainingDone a) s = .next (s.modSys (fun y => { y with memDone := true, boardBad := true, memTrained := 0, memGib := 0, memFailed := 0, failed := y.failed + 1 }))) ∧
  (∀ s : State, s.running = true → s.hif.fwAuth = true →
    ∃ t, exec .watchdogRestart s = .next t ∧
      t = { s with out := t.out, sys := t.sys, hif := t.hif, evt := t.evt, twn := t.twn, outbox := t.outbox } ∧ t.sys.wdog = min (2 ^ 16 - 1) (s.sys.wdog + 1) ∧ t.sys.restarting = true ∧
      t.sys.fwJob = s.sys.fwJob ∧ t.hif.ready = false ∧ t.hif.rings = {} ∧ t.hif.inflight = [] ∧ t.sys.slotBad = !s.bootedOk ∧
      t.twn.healthy = (s.twn.healthy && bit s.twn.faults 4))

/-- R19: a corrected SRAM error counts and is reported at WARN or below; a double-bit error marks the store's block failed. -/
def Obligations.SramErrorsAreReported : Prop :=
  (∀ (s : State) (st : Fin 14) (w : Nat) (b : Fin 72) (e : Fin 65), s.sys.held = false →
    exec (.sramEccError st w b false e) s =
      .next ((s.modSys (fun y => { y with ceCount := min (2 ^ 32 - 1) (y.ceCount + 1) })).raise 0x0110 0
        ([st.val, b.val, 0, 0] ++ leBytes 4 w ++ leBytes 4 (min (2 ^ 32 - 1) (s.sys.ceCount + 1)) ++ zeros 4))) ∧
  (∀ (s : State) (w : Nat) (b : Fin 72), s.sys.held = false → bit s.sys.failed 8 = false → 
    exec (.sramEccError 7 w b true 64) s =
      .next ((s.modSys (fun y => { y with failed := y.failed + 256 })).raise 0x0111 0
        ([7, 0, 0, 0] ++ leBytes 4 w ++ leBytes 4 (s.sys.failed + 256) ++ zeros 4)))

/-- R421, R424, R425: a read cycle returns the window's word or the status, and RIM_D is released otherwise; RIM_CONFIG with ENABLE 0 waits for
the next planning tick; a PLC write within the first 64 words is counted while writes are enabled and readable from the next tick on, and is
discarded and counted otherwise. R427, R429: GNG_CONFIG sets address, receiver, polarities and delay while pacing is stopped; 16 K28.5 characters
give the receiver lock while RX_EN is set, and 4 violations within 256 characters take it; each violation is counted. R431: a transfer of an idle
I²C master starts, and of one that reads a colour sensor waits behind it; a write while a host transfer is under way is discarded and shown; the
end gives the byte read and whether it was acknowledged. R432, R433: GPIO_CONFIG sets a free pin's mode; a write of GPIO_OUT changes the bits of
its mask, which the pins show in the next tick; GPIO_IN takes the bits of a sample that agree with the sample before; a PWM pin begins a pulse of
duty × period / 2^16 ticks with each period, in which loop outputs published by then are seen (R338). -/
def Obligations.PortsAndPins : Prop :=
  (∀ (s : State) (a : Fin 512), s.running = true → s.rimData false true a =
    some (if a.val < 256 then s.rim.window.getD a.val 0 else if a.val = 256 then s.rim.status else 0)) ∧
  (∀ (s : State) (cs we : Bool) (a : Fin 512), cs = true ∨ we = false ∨ s.running = false → s.rimData cs we a = none) ∧
  (∀ (s : State) (r : Fin 4) (c : Cmd) (d : HostRead), s.atOnce r 0x1001 c → u8 c.packet 8 = 2 → u8 c.packet 9 ≤ 12 → u64 c.packet 16 = 0 →
    exec (.rimConfig r d) s = .next (((s.begun r c d).modRim (fun m => { m with next := some { val := (false, true, u8 c.packet 9, []), tick := s.tick } })).complete c.id Status.ok [])) ∧
  (∀ (s : State) (a : Fin 512) (v : BitVec 32), s.running = true → s.rim.writesEn = true → a.val < 64 →
    exec (.rimWrite a v) s = .next (s.modRim (fun m => { m with inboxNext := m.inboxNext ++ [(a.val, v)], accepted := (m.accepted + 1) % 2 ^ 16 }))) ∧
  (∀ (s : State) (a : Nat) (v : BitVec 32), s.rim.windowNext = none → s.rim.inboxNext = [(a, v)] →
    s.tickRim = s.modRim (fun m => { m with inbox := m.inbox.set 0 a v, inboxNext := [] })) ∧
  (∀ (s : State) (a : Fin 512) (v : BitVec 32), s.running = true → (s.rim.writesEn = false ∨ 64 ≤ a.val) →
    exec (.rimWrite a v) s = .next (s.modRim (fun m => { m with discarded := min (2 ^ 16 - 1) (m.discarded + 1) }))) ∧
  (∀ (s : State) (r : Fin 4) (c : Cmd), s.atOnce r 0x1002 c → u8 c.packet 8 ≤ 15 → u8 c.packet 9 = 1 → u32 c.packet 12 ≤ 2 ^ 20 →
    s.fir.runs = false →
    exec (.gngConfig r) s = .next (((s.begun r c (.ok [])).modGng (fun g => { g with dev := u8 c.packet 8, rxEn := true, txInv := false, rxInv := false, linkDelay := u32 c.packet 12, kRun := 0 })).complete c.id Status.ok [])) ∧
  (∀ (s : State) (l : List (Fin 3)), s.gng.rxEn = false → exec (.gongRxLock l) s = .next s) ∧
  (∀ (s : State) (l : List (Fin 3)), s.gng.rxEn = true → s.gng.codeErr < 2 ^ 16 →
    ∃ g, exec (.gongRxLock l) s = .next { s with gng := g } ∧ g.codeErr = min (2 ^ 16 - 1) (s.gng.codeErr + l.count 2)) ∧
  (∀ s : State, s.gng.rxEn = true → s.gng.rxLock = false → s.gng.kRun = 0 →
    exec (.gongRxLock (List.replicate 16 1)) s = .next (s.modGng (fun g => { g with rxLock := true, kRun := 0, faultAges := [] }))) ∧
  (∀ (s : State) (n : Fin 253), s.gng.rxEn = true → s.gng.rxLock = true → s.gng.faultAges = [] →
    ∃ g, exec (.gongRxLock ([2] ++ List.replicate n.val 0 ++ [2, 2, 2])) s = .next { s with gng := g } ∧ g.rxLock = false) ∧
  (∀ (s : State) (m : Fin 2) (v : BitVec 32), s.running = true → (s.i2cM m).jobs = [] →
    exec (.i2cXfer m v) s = .next ((s.setI2cM m { s.i2cM m with jobs := [.host v], done := false, nack := false }).emit (.i2c m v.toNat))) ∧
  (∀ (s : State) (m : Fin 2) (v : BitVec 32) (k a g : Nat) (old : Bool), s.running = true → (s.i2cM m).jobs = [.sensor k a g old] →
    exec (.i2cXfer m v) s = .next (s.setI2cM m { s.i2cM m with jobs := [.sensor k a g old, .host v], done := false, nack := false })) ∧
  (∀ (s : State) (m : Fin 2) (v w : BitVec 32) (rest : List I2cJob), s.running = true → (s.i2cM m).jobs = .host w :: rest →
    exec (.i2cXfer m v) s = .next (s.setI2cM m { s.i2cM m with discard := true })) ∧
  (∀ (s : State) (m : Fin 2) (w : BitVec 32) (d : Fin 256) (nack : Bool), (s.i2cM m).jobs = [.host w] →
    exec (.i2cTransferDone m d nack) s = .next (s.setI2cM m { s.i2cM m with jobs := [], done := true, nack := nack, data := if bit w.toNat 7 = true ∧ nack = false then d.val else (s.i2cM m).data })) ∧
  (∀ (s : State) (r : Fin 4) (c : Cmd), s.atOnce r 0x1003 c → u8 c.packet 8 ≤ 31 → u8 c.packet 9 < 3 → u8 c.packet 10 = 1 →
    s.pinHeld (u8 c.packet 8) = false → (s.pin (u8 c.packet 8)).mode ≠ 3 →
    exec (.gpioConfig r) s = .next (((s.begun r c (.ok [])).setPin (u8 c.packet 8) { s.pin (u8 c.packet 8) with mode := u8 c.packet 9, leadOnly := true, period := u32 c.packet 12, dutyCfg := u16 c.packet 16, pwmAt := none }).complete c.id Status.ok [])) ∧
  (∀ (g : Gpio) (x y : BitVec 32), g.seen = some y →
    g.sample x = { g with level := (g.level &&& (x ^^^ y)) ||| (x &&& ~~~(x ^^^ y)), seen := some x }) ∧
  (∀ (s : State) (v m : BitVec 32), s.running = true →
    exec (.gpioOutWrite v m) s = .next (s.modGpio (fun g => { g with out := (g.out &&& ~~~m) ||| (v &&& m) }))) ∧
  (∀ (s s0 : State) (pin : Fin 32), s = s0.publishDue → s.running = true → (s.pin pin).mode = 3 → (s.pin pin).leadOnly = false →
    s.pinHeld pin = false → (s.pin pin).pwmAt = none → s.pinLoop pin = false → s.sys.dormant = .awake →
    exec (.gpioPwmPeriodStart pin) s0 = .next ((s.setPin pin { s.pin pin with duty := (s.pin pin).dutyCfg, pwmAt := some s.tick }).emit
      (.gpioPwm pin ((s.pin pin).dutyCfg * (s.pin pin).period / 65536))))

/-- R45, R55, R218, R380: a waiting command that is due, and is not of the mirrored class, commits with its own effect; an unknown opcode
completes with BAD_OPCODE and changes nothing else; a mirrored command commits on the lead when its pair tick has come, or alone when no ACK has
come in 8,000 ticks, which leaves the shadow out of step, and on the shadow in its pair tick, with the stamp of the lead and no completion. -/
def Obligations.DeferredCommandsCommit : Prop :=
  (∀ (s t : State) (c : Cmd) (n : Nat) (o : OpInfo) (eff : Effect) (res : List Byte), firstStarted s.boundaryDue = some (n, c) →
    opInfo (pktOpcode c.packet) = some o → opClass o c.packet ≠ .mirrored → effectOf (pktOpcode c.packet) = some eff →
    eff c s = (t, .done Status.ok res) →
    exec .atBoundaryCommit s = .next (t.complete c.id Status.ok res)) ∧
  (∀ (s : State) (r : Fin 4) (c : Cmd), s.turnRing = some r.val → s.startable r.val = some c → opInfo (pktOpcode c.packet) = none →
    exec (.unknownOpcode r) s = .next ((s.served r.val).complete c.id Status.badOpcode [])) ∧
  (∀ (s t : State) (tag t0 sent : Nat) (stamp : Option Nat) (c : Cmd) (eff : Effect) (res : List Byte),
    s.mirroring tag = some (c, sent, some t0) →
    t0 ≤ s.pairTick → effectOf (pktOpcode c.packet) = some eff → eff c s = (t, .done Status.ok res) →
    exec (.mirroredCommit tag stamp) s = .next (t.complete c.id Status.ok res)) ∧
  (∀ (s t : State) (tag t0 : Nat) (stamp : Option Nat) (m : Mirrored) (eff : Effect) (st : Nat) (res : List Byte), s.mirroring tag = none →
    s.twn.mirrored = [m] → m.tag = tag → m.commit = some t0 → t0 ≤ s.pairTick → effectOf (pktOpcode m.packet) = some eff →
    eff { id := 0, ring := 0, packet := m.packet, host := m.host } ((s.modTwn (fun w => { w with mirrored := [] })).modSub
      (fun u => { u with leadStamp := stamp })) = (t, .done st res) →
    exec (.mirroredCommit tag stamp) s = .next (t.modSub (fun u => { u with leadStamp := none }))) ∧
  (∀ (s t : State) (tag sent : Nat) (c : Cmd) (eff : Effect) (res : List Byte), s.mirroring tag = some (c, sent, none) →
    sent + 8000 ≤ s.tick → Instr.ackRecordRx tag ∉ s.pending → effectOf (pktOpcode c.packet) = some eff →
    eff c (s.modTwn Twn.goAlone) = (t, .done Status.ok res) →
    exec (.ackTimeout tag) s = .next (t.complete c.id Status.ok res))

/-- R61, R63, R70, R71: the staging commands change only their part of the staged set. -/
def Obligations.StagingChangesTheStagedSet : Prop :=
  (∀ (s : State) (r : Fin 4) (c : Cmd), s.atOnce r 0x0201 c → u8 c.packet 8 ≤ 15 → u8 c.packet 9 ≠ 0 →
    exec (.geoHeadclass r) s = .next (((s.begun r c (.ok [])).modGeo (fun g => { g with staged := { g.staged with classes := g.staged.classes.set {} (u8 c.packet 8) { bits := u8 c.packet 9, dies := u8 c.packet 10, rows := u8 c.packet 11, nozzles := u16 c.packet 12, spare := u8 c.packet 14, minPeriod := u32 c.packet 16, spareOf := u32 c.packet 20, rowOff := (List.range 8).map (fun i => u32 c.packet (24 + 4 * i)), raw := (pad 64 c.packet).drop 8 } } })).complete c.id Status.ok [])) ∧
  (∀ (s : State) (r : Fin 4) (c : Cmd), s.atOnce r 0x0202 c → u8 c.packet 8 ≤ 63 → u8 c.packet 9 ≤ 7 → u8 c.packet 10 ≤ 15 →
    u8 c.packet 11 ≤ 1 → u32 c.packet 12 < 2 ^ 24 → u8 c.packet 24 ≤ 1 →
    exec (.geoHead r) s = .next (((s.begun r c (.ok [])).modGeo (fun g => { g with staged := { g.staged with heads := g.staged.heads.set {} (8 * u8 c.packet 8 + u8 c.packet 9) { cls := u8 c.packet 10, disabled := bit (u8 c.packet 11) 0, webLines := u32 c.packet 12, webFrac := u16 c.packet 16, crossPos := u32 c.packet 20, crossDir := u8 c.packet 24, raw := (pad 64 c.packet).drop 8 } } })).complete c.id Status.ok [])) ∧
  (∀ (s : State) (r : Fin 4) (c : Cmd) (b : List Byte), s.atOnce r 0x0203 c → tableParamsBad c.packet = false →
    u32 c.packet 16 ≤ s.geo.staged.runs.length → u8 c.packet 24 = 0 →
    exec (.geoRuns r (.ok b)) s = .next (((s.begun r c (.ok b)).modGeo (fun g => { g with staged := { g.staged with runs := g.staged.runs.take (u32 c.packet 16) ++ entriesOf 16 (u32 c.packet 20) b ++ g.staged.runs.drop (u32 c.packet 16 + u32 c.packet 20) } })).complete c.id Status.ok [])) ∧
  (∀ (s : State) (r : Fin 4) (c : Cmd) (b : List Byte), s.atOnce r 0x0204 c → tableParamsBad c.packet = false →
    u32 c.packet 16 ≤ s.geo.staged.excs.length → u8 c.packet 24 = 1 →
    exec (.geoExceptions r (.ok b)) s = .next (((s.begun r c (.ok b)).modGeo (fun g => { g with staged := { g.staged with excs := g.staged.excs.take (u32 c.packet 16) ++ entriesOf 8 (u32 c.packet 20) b } })).complete c.id Status.ok []))

/-- R72 to R74: GEO_COMMIT of a set that passes every check makes it the pending generation while a page is queued, and with VALIDATE only
answers; a set that fails keeps everything and names the check; a pending generation becomes active, and in force for lines, in a tick after its
commit once no page is QUEUED or PRINTING. -/
def Obligations.GenerationsAreCommittedAndActivated : Prop :=
  (∀ (s : State) (r : Fin 4) (c : Cmd), s.atOnce r 0x0205 c → u8 c.packet 8 = 0 → s.geoCheck s.geo.staged = none → s.anyLive = true →
    exec (.geoCommit r) s = .next ((((s.begun r c (.ok [])).modGeo (fun g => { g with gens := g.gens ++ [{ serial := g.lastSerial + 1, set := g.staged, crc := g.staged.crc }], pending := g.lastSerial + 1, pendingTick := s.tick, lastSerial := g.lastSerial + 1 })).modMal (fun m => { m with cursors := s.geo.staged.readers.foldl addCursor m.cursors })).complete
        c.id Status.ok (leBytes 2 (genNumber (s.geo.lastSerial + 1)) ++ [0, 0] ++ leBytes 4 0 ++ leBytes 4 s.geo.staged.crc ++ zeros 4))) ∧
  (∀ (s : State) (r : Fin 4) (c : Cmd), s.atOnce r 0x0205 c → u8 c.packet 8 = 1 → s.geoCheck s.geo.staged = none →
    exec (.geoCommit r) s = .next ((s.begun r c (.ok [])).complete c.id Status.ok
      (leBytes 2 0 ++ [0, 0] ++ leBytes 4 0 ++ leBytes 4 s.geo.staged.crc ++ zeros 4))) ∧
  (∀ (s : State) (r : Fin 4) (c : Cmd) (n st kind index : Nat), s.atOnce r 0x0205 c → u8 c.packet 8 ≤ 1 →
    s.geoCheck s.geo.staged = some (n, st, kind, index) → st ≠ Status.ok →
    exec (.geoCommit r) s = .next ((s.begun r c (.ok [])).complete c.id st
      (leBytes 2 0 ++ [n, kind] ++ leBytes 4 index ++ leBytes 4 s.geo.staged.crc ++ zeros 4))) ∧
  (∀ s : State, s.geo.pending ≠ 0 → s.geo.pendingTick < s.tick → s.anyLive = false →
    ∃ t, exec .generationActivate s = .next t ∧
      t = { s with out := t.out, hif := t.hif, evt := t.evt, geo := t.geo, mal := t.mal, sub := t.sub, fir := t.fir, stk := t.stk } ∧ t.geo.active = s.geo.pending ∧ t.geo.pending = 0 ∧ t.fir.gen = s.geo.pending ∧
      t.geo.staged = s.geo.staged)

/-- R82 to R86: PAGE_OPEN starts a context afresh in LOADING; PAGE_ADD_TILES appends the tiles its entries name; a tile that arrives is kept when
every HOST tile before it has been pulled, and waits its turn otherwise. R88, R89, R93, R117: PAGE_CLOSE stages the page with the newest
generation and completes when verification ends; a tile is decoded once; a page that passes every check becomes VERIFIED with its floor and cost
record, and its PAGE_CLOSE answers them. -/
def Obligations.PagesAreOpenedLoadedAndVerified : Prop :=
  (∀ (s : State) (r : Fin 4) (c : Cmd), s.atOnce r 0x0301 c → u32 c.packet 8 ≠ 0 → u32 c.packet 8 ≤ 4261412864 → u8 c.packet 16 ≤ 3 →
    (s.ctx (pktPage c.packet)).state.held = false → s.referenced (pktPage c.packet) = false →
    ∃ t, exec (.pageOpen r) s = .next t ∧
      t = { s with out := t.out, hif := t.hif, evt := t.evt, pgq := t.pgq, fir := t.fir } ∧ t.ctx (pktPage c.packet) = { state := .loading, lines := u32 c.packet 8, period := u32 c.packet 12, strict := bit (u8 c.packet 16) 0, slowOk := bit (u8 c.packet 16) 1 } ∧
      t.fir.noSlipMap.get false (pktPage c.packet) = false ∧ t.pgq.queue = s.pgq.queue ∧
      (∀ q : Fin 256, q.val ≠ pktPage c.packet → t.ctx q.val = if (s.ctx q.val).behind = pktPage c.packet then { s.ctx q.val with behind := 0 }
        else s.ctx q.val)) ∧
  (∀ (s : State) (r : Fin 4) (c : Cmd) (b : List Byte) (ts : List Tile), s.atOnce r 0x0302 c → u64 c.packet 8 % 16 = 0 →
    u8 c.packet 16 ≤ 63 → u16 c.packet 17 ≤ 511 → u32 c.packet 24 ≠ 0 → u32 c.packet 24 ≤ 65536 →
    (s.ctx (pktPage c.packet)).state = .loading →
    u32 c.packet 20 + u32 c.packet 24 ≤ (s.ctx (pktPage c.packet)).rowCount → (s.ctx (pktPage c.packet)).tiles = [] →
    s.parseTiles (pktPage c.packet) (u8 c.packet 16) (u16 c.packet 17) (pktTag c.packet) (u32 c.packet 20)
      (entriesOf 16 (u32 c.packet 24) b) = some ts →
    s.pageDram + s.stkDram + sumNat (ts.map Tile.len) ≤ s.sys.memGib * 2 ^ 30 →
    exec (.pageAddTiles r (.ok b)) s = .next (((s.begun r c (.ok b)).modCtx (pktPage c.packet) (fun x => { x with tiles := x.tiles ++ ts })).complete
      c.id Status.ok [])) ∧
  (∀ (s : State) (ctx : Fin 256) (i : Nat) (t : Tile) (b : List Byte), (s.ctx ctx).tiles[i]? = some t → (s.ctx ctx).state = .loading →
    t.isHost = true → t.bytes = none → t.readFail = none →
    (s.ctx ctx).pulledTo i = true →
    exec (.tileArrival ctx i (.ok b)) s = .next (s.modCtx ctx (fun x => { x with tiles := modAt (fun t => { t with bytes := some (pad t.len b) }) i x.tiles }))) ∧
  (∀ (s : State) (ctx : Fin 256) (i : Nat) (d : HostRead), (s.ctx ctx).pulledTo i = false → exec (.tileArrival ctx i d) s = .next s) ∧
  (∀ (s : State) (r : Fin 4) (c : Cmd), s.atOnce r 0x0303 c → (s.ctx (pktPage c.packet)).state = .loading →
    exec (.pageClose r) s = .next ((((s.begun r c (.ok [])).modCtx (pktPage c.packet) (fun x => { x with gen := s.geo.lastSerial, closeCmd := some c.id })).changePage (pktPage c.packet) .staged 0).setPhase c.id .running)) ∧
  (∀ (s : State) (ctx : Fin 256) (i : Nat) (t : Tile) (b : List Byte), (s.ctx ctx).tiles[i]? = some t → (s.ctx ctx).state = .staged →
    t.bytes = some b → t.decoded = false → tileCont b = false → t.row = 0 → (s.ctx ctx).stripOrder t = true →
    ∃ u, exec (.verifyTileDecode ctx i) s = .next u ∧
      u = { s with pgq := u.pgq, dec := u.dec } ∧
      (u.ctx ctx).tiles = modAt (fun x => { x with decoded := true, reason := (decodeTile b (repackImage 1 (tileBits b) [])).reason, offset := (decodeTile b (repackImage 1 (tileBits b) [])).offset, lcyc := (decodeTile b (repackImage 1 (tileBits b) [])).lcyc, image := (decodeTile b (repackImage 1 (tileBits b) [])).image (tileBits b), depth := tileBits b }) i (s.ctx ctx).tiles ∧
      u.dec.verified = min (2 ^ 32 - 1) (s.dec.verified + 1) ∧ (u.ctx ctx).state = .staged ∧
      (∀ q : Fin 256, q ≠ ctx → u.ctx q.val = s.ctx q.val)) ∧
  (∀ (s : State) (ctx : Fin 256) (x : Ctx), (s.ctx ctx).state = .staged → (s.ctx ctx).waitsPred = false →
    (s.ctx ctx).tiles.all Tile.settled = true → (s.ctx ctx).pred = 0 → (s.ctx ctx).succ = 0 → s.genStale (s.ctx ctx).gen = false →
    s.tileCheck ctx (s.setOf (s.ctx ctx).gen) = none → s.judgeBudget ctx (s.setOf (s.ctx ctx).gen) = (x, true) →
    ∃ t, exec (.verificationEnd ctx) s = .next t ∧
      t = { s with out := t.out, hif := t.hif, evt := t.evt, pgq := t.pgq, dec := t.dec } ∧ (t.ctx ctx).state = .verified ∧ (t.ctx ctx).cause = 0 ∧ (t.ctx ctx).floor = x.floor ∧
      (t.ctx ctx).cmax = x.cmax ∧ (t.ctx ctx).cmaxWin = x.cmaxWin ∧ (t.ctx ctx).costs = x.costs ∧ (t.ctx ctx).closeCmd = none ∧
      t.hif.inflight = (match (s.ctx ctx).closeCmd with
        | some k => s.hif.inflight.map (Cmd.completed k Status.ok x.closeResults) | none => s.hif.inflight) ∧
      (∀ q : Fin 256, q ≠ ctx → t.ctx q.val = s.ctx q.val))

/-- R94, R96, R98, R102: PAGE_QUEUE with AT puts a VERIFIED page at its START; PAGE_CHAIN links two segments that are loading; PAGE_ABORT ends a
page that is not printing; PAGE_QUERY answers and changes nothing. -/
def Obligations.PagesAreQueuedChainedAndEnded : Prop :=
  (∀ (s : State) (r : Fin 4) (c : Cmd), s.atOnce r 0x0304 c → u8 c.packet 8 = 1 → u32 c.packet 12 = 0 → u48 c.packet 16 % 16 = 0 →
    s.pressLine + 64 ≤ u48 c.packet 16 → (s.ctx (pktPage c.packet)).state = .verified → (s.ctx (pktPage c.packet)).pred = 0 →
    (s.ctx (pktPage c.packet)).succ = 0 → s.geo.active ≤ (s.ctx (pktPage c.packet)).gen → s.genStale (s.ctx (pktPage c.packet)).gen = false →
    s.anyLive = false → s.partnerLacks (pktPage c.packet) = false →
    ∃ t, exec (.pageQueue r) s = .next t ∧
      t = { s with out := t.out, hif := t.hif, evt := t.evt, pgq := t.pgq, mal := t.mal } ∧ (t.ctx (pktPage c.packet)).state = .queued ∧
      (t.ctx (pktPage c.packet)).start = some (u48 c.packet 16) ∧ (t.ctx (pktPage c.packet)).startKind = .placed ∧
      t.pgq.queue = s.pgq.queue ++ [pktPage c.packet] ∧
      t.hif.inflight = (s.begun r c (.ok [])).hif.inflight.map (Cmd.completed c.id Status.ok []) ∧
      (∀ q : Fin 256, q.val ≠ pktPage c.packet → t.ctx q.val = s.ctx q.val)) ∧
  (∀ (s : State) (r : Fin 4) (c : Cmd), s.atOnce r 0x0307 c → u8 c.packet 8 ≠ 0 → u8 c.packet 8 ≠ pktPage c.packet →
    (s.ctx (u8 c.packet 8)).state = .loading → (s.ctx (u8 c.packet 8)).succ = 0 → (s.ctx (u8 c.packet 8)).abortAt = none →
    s.pgq.ctxs.entries.all (fun e => !(e.2.live && e.2.behind == u8 c.packet 8)) →
    (s.ctx (pktPage c.packet)).state = .loading → (s.ctx (pktPage c.packet)).pred = 0 → (s.ctx (pktPage c.packet)).succ = 0 →
    s.partnerLacks (pktPage c.packet) = false →
    ∃ t, exec (.pageChain r) s = .next t ∧
      t = { s with hif := t.hif, pgq := t.pgq } ∧ (t.ctx (u8 c.packet 8)).succ = pktPage c.packet ∧
      (t.ctx (pktPage c.packet)).pred = u8 c.packet 8 ∧ (t.ctx (pktPage c.packet)).state = .loading ∧ t.pgq.queue = s.pgq.queue ∧
      t.hif.inflight = (s.begun r c (.ok [])).hif.inflight.map (Cmd.completed c.id Status.ok []) ∧
      (∀ q : Fin 256, q.val ≠ pktPage c.packet → q.val ≠ u8 c.packet 8 → t.ctx q.val = s.ctx q.val)) ∧
  (∀ (s : State) (r : Fin 4) (c : Cmd), s.atOnce r 0x0305 c → (s.ctx (pktPage c.packet)).state = .verified →
    (s.ctx (pktPage c.packet)).pred = 0 → (s.ctx (pktPage c.packet)).succ = 0 → (s.ctx (pktPage c.packet)).closeCmd = none →
    ∃ t, exec (.pageAbort r) s = .next t ∧
      t = { s with out := t.out, hif := t.hif, evt := t.evt, geo := t.geo, pgq := t.pgq, mal := t.mal, stk := t.stk } ∧ (t.ctx (pktPage c.packet)).state = .aborted ∧ (t.ctx (pktPage c.packet)).cause = 4 ∧
      t.pgq.queue = s.pgq.queue.filter (· ≠ pktPage c.packet) ∧ t.hif.inflight = (s.begun r c (.ok [])).hif.inflight.map (Cmd.completed c.id Status.ok []) ∧
      (∀ q : Fin 256, q.val ≠ pktPage c.packet → t.ctx q.val = s.ctx q.val)) ∧
  (∀ (s : State) (r : Fin 4) (c : Cmd), s.atOnce r 0x0306 c →
    exec (.pageQuery r) s = .next ((s.begun r c (.ok [])).complete c.id Status.ok
      ([(s.ctx (pktPage c.packet)).state.num, (s.ctx (pktPage c.packet)).cause] ++ leBytes 2 (genNumber (s.ctx (pktPage c.packet)).gen)
        ++ leBytes 4 (s.ctx (pktPage c.packet)).floor ++ leBytes 4 (s.ctx (pktPage c.packet)).cmax
        ++ [(s.ctx (pktPage c.packet)).succ, min (s.ctx (pktPage c.packet)).breaks 255]
        ++ leBytes 2 (min (s.ctx (pktPage c.packet)).toPull 65535))))

/-- R121, R123, R126, R127: a closed stream opens with its kind and effort, or from a good save image; a save of an idle open stream waits for
its write, which then completes it; an idle stream closes; an image that is not good is refused. R121, R122, R124, R125: a compression or
decompression of an open stream reads its input and waits for a unit; a compressor's block is written, extends the stream's history and completes
the command with its length and the CRC-32C of the input. -/
def Obligations.StreamsAndTheirBlocks : Prop :=
  (∀ (s : State) (r : Fin 4) (c : Cmd), s.atOnce r 0x0F01 c → u8 c.packet 8 ≤ 15 → u8 c.packet 9 = 0 → u8 c.packet 10 ≤ 3 →
    (s.stream (u8 c.packet 8)).state = .closed →
    exec (.cmpOpen r) s = .next (((s.begun r c (.ok [])).setStream (u8 c.packet 8) { state := .compress, effort := u8 c.packet 10 }).complete
      c.id Status.ok [])) ∧
  (∀ (s : State) (r : Fin 4) (c : Cmd), s.atOnce r 0x0F04 c → u8 c.packet 8 ≤ 15 → u64 c.packet 16 % 64 = 0 →
    (s.stream (u8 c.packet 8)).state = .compress → s.cmp.active (u8 c.packet 8) = false →
    exec (.cmpSave r) s = .next (((s.begun r c (.ok [])).modCmp (fun m => { m with saves := m.saves ++ [{ cmd := c.id, stream := u8 c.packet 8, addr := u64 c.packet 16, image := saveImage (s.stream (u8 c.packet 8)) }] })).setPhase c.id .running)) ∧
  (∀ (s : State) (k : Fin 16) (x : CmpSave), s.cmp.saves = [x] → x.stream = k.val → s.hif.linkDown = false →
    exec (.cmpSaveDone k) s = .next (((s.modCmp (fun m => { m with saves := [] })).emit (.host x.addr x.image)).complete x.cmd Status.ok [])) ∧
  (∀ (s : State) (r : Fin 4) (c : Cmd) (b : List Byte), s.atOnce r 0x0F05 c → u8 c.packet 8 ≤ 15 → u64 c.packet 16 % 64 = 0 →
    (s.stream (u8 c.packet 8)).state = .closed → b.length = 32768 →
    exec (.cmpRestore r (.ok b)) s = .next (match loadImage b with
      | some t => ((s.begun r c (.ok b)).setStream (u8 c.packet 8) t).complete c.id Status.ok []
      | none => (s.begun r c (.ok b)).complete c.id Status.badParam [])) ∧
  (∀ (s : State) (r : Fin 4) (c : Cmd), s.atOnce r 0x0F06 c → u8 c.packet 8 ≤ 15 → (s.stream (u8 c.packet 8)).state = .decompress →
    s.cmp.active (u8 c.packet 8) = false →
    exec (.cmpClose r) s = .next (((s.begun r c (.ok [])).setStream (u8 c.packet 8) {}).complete c.id Status.ok [])) ∧
  (∀ (s : State) (r : Fin 4) (c : Cmd) (b : List Byte), s.atOnce r 0x0F02 c → u8 c.packet 8 ≤ 15 → u8 c.packet 9 = 0 →
    0 < u32 c.packet 12 → u32 c.packet 12 ≤ 65536 → u32 c.packet 12 + 16 ≤ u32 c.packet 32 → b.length = u32 c.packet 12 →
    (s.stream (u8 c.packet 8)).state = .compress → s.cmp.inService ≠ 0 →
    exec (.cmpCompress r (.ok b)) s = .next (((s.begun r c (.ok b)).modCmp (fun m => ({ m with jobs := m.jobs ++ [{ cmd := some c.id, stream := u8 c.packet 8, decompress := false, unit := none, input := b, outAddr := u64 c.packet 24, outLocal := false, outCap := u32 c.packet 32, fresh := false }] } : Cmp).fillAll)).setPhase c.id .running)) ∧
  (∀ (s : State) (r : Fin 4) (c : Cmd) (b : List Byte), s.atOnce r 0x0F03 c → u8 c.packet 8 ≤ 15 → u8 c.packet 9 = 0 →
    14 ≤ u32 c.packet 12 → u32 c.packet 12 ≤ 65552 → b.length = u32 c.packet 12 → (s.stream (u8 c.packet 8)).state = .decompress →
    exec (.cmpDecompress r (.ok b)) s = .next (((s.begun r c (.ok b)).modCmp (fun m => ({ m with jobs := m.jobs ++ [{ cmd := some c.id, stream := u8 c.packet 8, decompress := true, unit := none, input := b, outAddr := u64 c.packet 24, outLocal := false, outCap := u32 c.packet 32, fresh := false }] } : Cmp).fillAll)).setPhase c.id .running)) ∧
  (∀ (s : State) (u : Fin 4) (j : CmpJob) (id : Nat), s.cmp.jobs = [j] → j.unit = some u.val → j.decompress = false → j.cmd = some id →
    j.outLocal = false → s.hif.linkDown = false → j.fresh = true →
    s.sys.dormant = .awake →
    ∃ t b, exec (.cmpBlockDone u false) s = .next t ∧ b = compressBlock (s.stream j.stream).effort false [] j.input ∧
      t = { s with out := t.out, hif := t.hif, evt := t.evt, cmp := t.cmp } ∧ t.cmp.jobs = [] ∧
      t.stream j.stream = { s.stream j.stream with hist := j.input.reverse.take serviceWin, fresh := false, blocks := (s.stream j.stream).blocks + 1, bytesIn := (s.stream j.stream).bytesIn + j.input.length, bytesOut := (s.stream j.stream).bytesOut + b.length } ∧
      t.hif.inflight = s.hif.inflight.map (Cmd.completed id Status.ok (leBytes 4 b.length ++ leBytes 4 (crc32c j.input) ++ zeros 8)) ∧
      Out.host j.outAddr b ∈ t.out)

/-- R120, R122, R124: whatever block a compressor writes decodes to its input on the same history, and is at most 16 bytes longer than it. -/
def Obligations.CompressedBlocksDecodeToTheirInput : Prop :=
  ∀ (effort : Nat) (cont : Bool) (hist input : List Byte), input ≠ [] → input.length ≤ 65536 → (∀ b ∈ input, b < 256) →
    decodeBlock (compressBlock effort cont hist input) hist = .ok input ∧ (compressBlock effort cont hist input).length ≤ input.length + 16

/-- R135, R137, R140, R144, R146, R404: beats whose slots are free enter their queues, and idle engines take from them; an engine at work on a
line puts its segment into the lane's ring, counts its clocks and goes on to the next line; while every DRAM access fails it puts none there,
moves no cursor and keeps the line as owed; a finished beat is counted and leaves. R100, R150: an engine that the host takes offline while it
holds no beat leaves service with cause 1, and one whose beat overruns the watchdog with cause 3 and its block marked failed, unless the beat
ends in that tick (R20); it then holds no beat. -/
def Obligations.EnginesPrepareBeatsAndLeave : Prop :=
  (∀ (s : State) (b : Beat), s.mal.formed = [b] → s.slotFree (laneOfDie b.die) (b.x + 15) = true → (s.laneRing (laneOfDie b.die)).depth1 = false →
    exec .beatRelease s = .next ((s.modMal (fun m => { m with formed := [], queued := m.queued ++ [b] })).assignBeats)) ∧
  (∀ (s : State) (e : Fin 64) (k : Nat) (b : Beat) (fl : List Nat), s.pickContext (s.engine e) = some (k, b) →
    s.activeReaders b b.line = [] →
    (match s.fir.lastLine with | some l => l < b.x + b.line | none => True) → s.stk.enabled = false →
    exec (.segmentWrite e fl) s = .next ((((s.modLaneRing (laneOfDie b.die) (fun g => g.put (b.x + b.line) { die := b.die, levels := (s.lineLevels b [] b.line).list (s.beatNozzles b) })).countLost b (b.x + b.line) (s.lineLevels b [] b.line)).modEngine e
        (fun g => { (g.setCtx k (some { b with line := b.line + 1, clocks := b.clocks + s.lineClocks b b.line [] })) with cur := k, busy := g.busy + s.lineClocks b b.line [] + (if b.line = 0 then b.clocks else 0) })).assignBeats)) ∧
  (∀ (s : State) (e : Fin 64) (k : Nat) (b : Beat) (fl : List Nat), s.pickContext (s.engine e) = some (k, b) → s.memLost = true →
    s.activeReaders b b.line ≠ [] → (match s.fir.lastLine with | some l => l < b.x + b.line | none => True) →
    ∃ t : State, exec (.segmentWrite e fl) s = .next t.assignBeats ∧
      t = { s with out := t.out, hif := t.hif, evt := t.evt, mal := t.mal, sub := t.sub } ∧ t.mal.rings = s.mal.rings ∧ t.mal.cursors = s.mal.cursors ∧
      t.mal.missed = s.mal.missed ++ [(b.x + b.line, { b with line := b.line + 1, clocks := b.clocks + s.lineClocks b b.line (s.readSteps b b.line fl), ecc := true })] ∧
      (∀ q : Fin 64, q ≠ e → t.engine q = s.engine q)) ∧
  (∀ (s : State) (e : Fin 64) (b : Beat), (s.engine e).cur = 0 → (s.engine e).ctx0 = some b → 16 ≤ b.line → (s.engine e).offline = false →
    exec (.engineBeatDone e) s = .next ((s.modEngine e (fun g => { g with ctx0 := none, beats := min (2 ^ 32 - 1) (g.beats + 1), overs := if b.cost < b.clocks then min (2 ^ 32 - 1) (g.overs + 1) else g.overs })).assignBeats)) ∧
  (∀ (s : State) (e : Fin 64), (s.engine e).outCause = 0 → (s.engine e).ctx0 = none → (s.engine e).ctx1 = none →
    ∃ t, exec (.engineOffline e true) s = .next t ∧
      t = { s with out := t.out, hif := t.hif, evt := t.evt, pgq := t.pgq, mal := t.mal } ∧ (t.engine e).offline = true ∧ (t.engine e).outCause = 1 ∧ (t.engine e).ctx0 = none ∧
      t.mal.queued = s.mal.queued ∧
      (∀ q : Fin 64, q ≠ e → t.engine q = s.engine q)) ∧
  (∀ (s : State) (e : Fin 64) (b : Beat), s.inService e = true → (s.engine e).ctx0 = some b → 2 * b.cost + 4096 < 6 * b.ran →
    s.arrives (· == .engineBeatDone e) = false →
    ∃ t, exec (.engineWatchdog e) s = .next t ∧
      t = { s with out := t.out, sys := t.sys, hif := t.hif, evt := t.evt, pgq := t.pgq, mal := t.mal } ∧ (t.engine e).outCause = 3 ∧ (t.engine e).ctx0 = none ∧ (t.engine e).ctx1 = none ∧
      bit t.sys.failed 4 = true)

/-- R217, R220 to R223: on the device whose command it is, the SUB commands change the defect and level-map tables for lines from 80 past the
next multiple of 16 on, and answer; SUB_QUERY of a die answers and changes nothing. -/
def Obligations.SubstitutionTablesChange : Prop :=
  (∀ (s : State) (r : Fin 4) (c : Cmd) (n : Nat) (d : HostRead), s.atOnce r 0x0401 c → u64 c.packet 8 = 0 → u32 c.packet 16 = 1 → u8 c.packet 20 = 0 →
    zeroRange c.packet 28 56 = true → u32 c.packet 24 = n + 131 * 2 ^ 21 → n < 2 ^ 21 → nozState s.sub.cur n ≠ stDead →
    s.sub.leadStamp = none →
    ∃ t, exec (.subDefects r d) s = .next t ∧
      t = { s with out := t.out, hif := t.hif, evt := t.evt, sub := t.sub, stk := t.stk } ∧ t.sub.cur = { s.sub.cur with defects := s.sub.cur.defects.set 0 n stBlocked } ∧
      t.sub.effectLine = (s.pressLine / 16 + 1) * 16 + 80 ∧ 
      (∀ x ∈ t.hif.inflight, x.id = c.id → x.completing = true) ∧ t.stk.retest = s.stk.retest.filter (fun x => x.1 != n)) ∧
  (∀ (s : State) (r : Fin 4) (c : Cmd), s.atOnce r 0x0402 c → u8 c.packet 8 ≤ 15 → u8 c.packet 9 ≤ 15 →
    (s.activeSet.classAt (u8 c.packet 8)).bits = 0 → u8 c.packet 16 = 0 → (∀ i < 16, u8 c.packet (16 + i) < 16) →
    (List.range 16).map (fun i => u8 c.packet (16 + i)) ≠ identityMap → s.sub.leadStamp = none →
    ∃ t m, exec (.subLevelmap r) s = .next t ∧ m = (List.range 16).map (fun i => u8 c.packet (16 + i)) ∧
      t = { s with out := t.out, hif := t.hif, evt := t.evt, sub := t.sub } ∧
      t.sub.cur = { s.sub.cur with maps := s.sub.cur.maps.set [] (16 * u8 c.packet 8 + u8 c.packet 9) m } ∧
      t.sub.lastStamp = s.pressLine ∧ t.sub.effectLine = (s.pressLine / 16 + 1) * 16 + 80 ∧
      t.sub.planAt ((s.pressLine / 16 + 1) * 16 + 80) = t.sub.cur) ∧
  (∀ (s : State) (r : Fin 4) (c : Cmd), s.atOnce r 0x0403 c → u8 c.packet 8 ≤ 15 → u8 c.packet 9 < 4 → s.sub.leadStamp = none →
    ∃ t, exec (.subPolicy r) s = .next t ∧
      t = { s with out := t.out, hif := t.hif, evt := t.evt, sub := t.sub } ∧ t.sub.cur = { s.sub.cur with policy := s.sub.cur.policy.set 0 (u8 c.packet 8) (u8 c.packet 9) } ∧
      t.sub.effectLine = (s.pressLine / 16 + 1) * 16 + 80) ∧
  (∀ (s : State) (r : Fin 4) (c : Cmd), s.atOnce r 0x0404 c → u8 c.packet 8 = 0 → u16 c.packet 12 ≤ 1023 →
    zeroRange c.packet 16 32 = true →
    exec (.subQuery r) s = .next ((s.begun r c (.ok [])).complete c.id Status.ok (subDieResults (u16 c.packet 12) s)))

/-- R152, R153, R155, R156, R172 to R176: a good configuration is taken while pacing is stopped, and NOSLIP then tells whether the slip encoder's
fault stands; RATIO_ONLY waits for a line boundary; the role is taken in STOPPED; a follower with a heard master starts at the line after its
last, with Q at 0, E0 at the slip encoder's count and the high-water mark at 0; an immediate stop ends pacing; a query answers the status, last
line, floor and period. -/
def Obligations.PacingIsConfiguredStartedAndStopped : Prop :=
  (∀ (s : State) (r : Fin 4) (c : Cmd), s.atOnce r 0x0501 c → paceBad c.packet = false → bit (u8 c.packet 11) 1 = false →
    s.fir.state = .stopped →
    ∀ u, u = (s.begun r c (.ok [])).modFir (fun f => { f with cfg := parsePace c.packet, cfgDone := true, ratioNext := none, trim := 0, c := 0, capped := f.capped && (parsePace c.packet).source == f.cfg.source }) →
    exec (.paceConfig r) s = .next ((u.modFir (fun f => { f with noSlip := u.slipFaulty })).complete c.id Status.ok [])) ∧
  (∀ (s : State) (r : Fin 4) (c : Cmd), s.atOnce r 0x0501 c → paceBad c.packet = false → bit (u8 c.packet 11) 1 = true →
    s.fir.state ≠ .halted → s.fir.ratioNext = none →
    exec (.paceConfig r) s = .next (((s.begun r c (.ok [])).modFir (fun f => { f with ratioNext := some ⟨s.fir.cfg.withRatio (parsePace c.packet), s.tick⟩ })).complete c.id Status.ok [])) ∧
  (∀ (s : State) (r : Fin 4) (c : Cmd), s.atOnce r 0x0504 c → u8 c.packet 8 ≤ 2 → zeroRange c.packet 9 64 = true → s.fir.state = .stopped →
    exec (.paceRole r) s = .next (((s.begun r c (.ok [])).modFir (fun f => { f with role := u8 c.packet 8 })).complete c.id Status.ok [])) ∧
  (∀ (s : State) (r : Fin 4) (c : Cmd) (l : Nat) (ch : Chan), s.atOnce r 0x0502 c → u16 c.packet 14 = 0 → zeroRange c.packet 25 64 = true →
    u64 c.packet 16 ≥ s.fir.cfg.pitch → u8 c.packet 24 = 0 → s.fir.role = 2 → s.fir.cfg.source = 3 → s.fir.cfg.scanning = false →
    s.fir.state = .stopped → s.fir.cfgDone = true → s.geo.active ≠ 0 → s.sourceAbsent = false → s.latencyShort = false →
    s.gng.otherLow = false → s.fir.stopWait = [] → s.fir.lastLine = some l → s.slipChan = some ch →
    ∃ t, exec (.paceStart r) s = .next t ∧
      t = { s with hif := t.hif, fir := t.fir } ∧ t.fir.state = .running ∧ t.fir.paced = true ∧ t.fir.q = 0 ∧ t.fir.e0 = ch.eh ∧ t.fir.hwm = 0 ∧
      t.fir.nextLine = l + 1 ∧ t.fir.haltDrive = false ∧ t.fir.cfg = s.fir.cfg) ∧
  (∀ (s : State) (r : Fin 4) (c : Cmd), s.atOnce r 0x0503 c → u8 c.packet 8 = 0 → u8 c.packet 9 = 0 → zeroRange c.packet 10 16 = true →
    zeroRange c.packet 22 64 = true → s.fir.state = .running → s.fir.paced = true → s.fir.role ≠ 1 → s.fir.stopWait = [] →
    ∃ t, exec (.paceStop r) s = .next t ∧
      t = { s with hif := t.hif, fir := t.fir, twn := t.twn } ∧ t.fir.state = .stopped ∧ t.fir.paced = false ∧ t.fir.nextLine = s.fir.nextLine ∧
      t.fir.lastLine = s.fir.lastLine ∧ t.fir.q = s.fir.q) ∧
  (∀ (s : State) (r : Fin 4) (c : Cmd), s.atOnce r 0x0505 c →
    exec (.paceQuery r) s = .next ((s.begun r c (.ok [])).complete c.id Status.ok
      (leBytes 2 s.firStatus ++ leBytes 6 (s.fir.lastLine.getD 0) ++ leBytes 4 s.fir.floor ++ leBytes 4 s.fir.per)))

/-- R21, R151, R153, R157, R158, R165, R166: what wins over a trigger in its tick acts first (`winnersFirst`); a line that is due within FIRE_LAT
is triggered with T(L) and PER(L) of R158 (an acting role: a shadow keeps what its FIR predicts (R382), and a new lead waits for the record of a
line it predicted, (R389)); a rise of PACE_STEP that two equal samples accept moves Q by R_EFF (narrowed with a free rounding, log entry 4) in
the sense PACE_DIR held over the 4 ticks before it, and samples that move no level do nothing; falling back by more than BACKTOL enters retreat,
once; a carriage a pitch before its first due point arms the pass; in HOLD a line is triggered once per floor, on a shadow predicted (the model's
choice, log entry 117). -/
def Obligations.LinesAreTriggeredWhenDue : Prop :=
  (∀ (s₀ s : State) (v : Int) (w d : Nat), s = s₀.winnersFirst → s.awaitsRecord = false → s.testsLines = true → s.fir.retreated = false → s.fallsBack = false →
    s.fir.trigTick ≠ some s.tick → s.paceSpeed = (v, w) → 0 < s.sigma * v → s.sigma * (s.duePoint s.fir.nextLine - s.fir.q) = d →
    (d : Int) * w ≤ s.sigma * v * s.fir.cfg.fireLat * 4294967296 →
    exec .lineTrigger s₀ = .next (State.writeNotes (s.trigger s.fir.nextLine
      (24 * (s.pairTick : Int) + max (24 * ((s.fir.cfg.fireLat : Int) - 1)) ((24 * (d : Int) * w).fdiv (s.sigma * v * 4294967296)))
      (min (2 ^ 32 - 1) (roundFree (24 * s.fir.cfg.pitch * w) (s.sigma * v * 4294967296).toNat).toNat) false false
      (s.fir.cfg.scanning && s.fir.nextLine == s.fir.passStart) (s.lineReverse s.fir.nextLine)))) ∧
  (∀ (s₀ s : State), s = s₀.winnersFirst → s.twn.role = .shadow → s.twn.predTick = none → ∀ (t : Int) (per : Nat), s.dueNow = some (t, per) →
    exec .lineTrigger s₀ = .next (s.modTwn (fun w => { w with predTick := some s.tick, predDue := t, predPer := per })).writeNotes) ∧
  (∀ (s : State) (x : List (Fin 4)) (fwd : Bool), s.fir.stepLevel = false → filterLine 2 false (x.map (fun y => bit y.val 0)) = true →
    paceDir x = some fwd → s.fir.cfg.source = 2 → s.fir.paced = true → s.fir.between = true → s.fir.lastEdge = none →
    ∃ t, exec (.paceStepEdge x) s = .next t ∧
      t = { s with fir := t.fir } ∧ t.fir.stepLevel = true ∧
      t.fir.q = s.fir.q + roundFree ((if (fwd != s.fir.cfg.dirInvert) then 1 else -1) * s.rEff) 2147483648 ∧
      t.fir.lastEdge = some s.tick ∧ t.fir.planSteps = s.fir.planSteps + (if (fwd != s.fir.cfg.dirInvert) then 1 else -1) ∧
      t.fir.hwm = s.fir.hwm) ∧
  (∀ (s : State) (x : List (Fin 4)), filterLine 2 s.fir.stepLevel (x.map (fun y => bit y.val 0)) = s.fir.stepLevel →
    exec (.paceStepEdge x) s = .next s) ∧
  (∀ (s₀ s : State), s = s₀.winnersFirst → s.testsLines = true → s.fir.retreated = false → s.sigma * s.fir.q < s.fir.hwm - (s.fir.cfg.backTol : Int) * 4294967296 →
    exec .retreat s₀ = .next ((s.modFir (fun f => { f with retreated := true, retreats := satAdd 32 f.retreats 1 })).raise 0x0502 0
      (leBytes 6 s.fir.nextLine ++ [b2n (s.lineReverse s.fir.nextLine), 0] ++ leInt 8 (s.fir.hwm.fdiv 4294967296)))) ∧
  (∀ (s : State), s.fir.paced = true → s.fir.between = true → s.fir.holding = false → s.fir.state = .hold → s.fir.cfg.source < 3 →
    (s.fir.cfg.pitch : Int) ≤ s.sigma * s.duePoint s.fir.passStart - s.sigma * s.fir.q →
    exec .passArm s = .next (s.modFir (fun f => { f with between := false, hwm := s.sigma * s.fir.q, retreated := false, state := .running }))) ∧
  (∀ (s₀ s : State), s = s₀.winnersFirst → s.fir.paced = true → s.fir.holding = true → s.fir.cfg.source < 3 → s.fir.trigTick ≠ some s.tick →
    s.awaitsRecord = false →
    s.floorAt s.fir.nextLine ≤ 24 * (s.tick - s.fir.holdTick) →
    exec .holdTrigger s₀ = .next (State.writeNotes ((s.modFir (fun x => { x with holdTick := s.tick })).trigger s.fir.nextLine 0
      (s.floorAt s.fir.nextLine) false true false false))) ∧
  (∀ (s₀ s : State), s = s₀.winnersFirst → s.fir.paced = true → s.fir.holding = true → s.fir.cfg.source < 3 → s.fir.trigTick ≠ some s.tick →
    s.twn.role = .shadow → s.twn.predTick = none → s.floorAt s.fir.nextLine ≤ 24 * (s.tick - s.fir.holdTick) →
    exec .holdTrigger s₀ = .next (s.modTwn (fun w => { w with predTick := some s.tick, predDue := 0, predPer := s.floorAt s.fir.nextLine, predFlags := some 64 })).writeNotes)

/-- R161: a line whose due instant is at least the floor after the last fire instant fires on it; a nearer one is held to T_LAST + P while that
lies before T(L) + PER(L), and is dropped otherwise, also when the two are equal; the first line fires. The counters count held and dropped
lines, and only a line that fires moves T_LAST. -/
def Obligations.LinesFireAreHeldOrDropped : Prop :=
  ∀ (s : State) (t l : Int) (per p : Nat), s.fir.state ≠ .halted → s.gongLow = false → s.fir.tLast = some l →
    (p ≤ t - l → s.lineFate t per p false false = .fired t ∧ (s.countFate (.fired t)).fir.tLast = some t) ∧
    (t - l < p → l + p < t + per → s.lineFate t per p false false = .held (l + p) ∧
      (s.countFate (.held (l + p))).fir.tLast = some (l + p) ∧ (s.countFate (.held (l + p))).fir.held = min (2 ^ 32 - 1) (s.fir.held + 1)) ∧
    (t - l < p → t + per ≤ l + p → s.lineFate t per p false false = .dropped 0 ∧ (s.countFate (.dropped 0)).fir.tLast = some l ∧
      (s.countFate (.dropped 0)).fir.drops = min (2 ^ 32 - 1) (s.fir.drops + 1))

/-- R160, R161, R166, R171: whichever line is triggered, its index becomes the last one, the next index follows it, the period and the floor in
force are kept, and a dropped, held or halted line keeps its index all the same. A line after which nothing waits for a stop leaves pacing on. -/
def Obligations.EachLineIndexIsTriggeredOnce : Prop :=
  ∀ (s : State) (line per : Nat) (due : Int) (drop hold start rev : Bool),
    (s.trigger line due per drop hold start rev).fir.lastLine = some line ∧
    (s.trigger line due per drop hold start rev).fir.nextLine = line + 1 ∧
    (s.trigger line due per drop hold start rev).fir.per = per ∧
    (s.trigger line due per drop hold start rev).tick = s.tick ∧
    (s.trigger line due per drop hold start rev).pending = s.pending ∧
    (s.fir.stopWait = [] → (s.trigger line due per drop hold start rev).fir.paced = s.fir.paced)

/-- R21, R167 to R170: what wins over a trigger in its tick acts first. A follower takes the line of a good frame at the instant its due field
gives, less the link delay, with the flags of byte 1 (a first line of a pass leaves HOLD), counts the lines a gap has skipped, and its shadow
keeps it as its own prediction (R382, the model's choice, log entry 117); a frame that is not 17 characters, or comes while the receiver is off
or unlocked, is ignored; one with a bad CRC is counted and drops; a STOP frame stops a follower as PACE_STOP does; any other good frame is noted.
A master that has sent no frame for 1,000 ticks sends IDLE. A follower that hears no good frame for 4,000 ticks, nor in this one (R20), raises
GONG_LOST, stops and drives GONG_HALT_N. R171, R428: the second of two agreeing samples of GONG_HALT_N recognises its assertion, by another
device or by this one: FIR is in HALTED, HALT_ASSERTED names who drives the line and why, and the pacing axis stops; the line returns high when
two samples find it high and no device drives it, and stays low while this device drives it; fewer agreeing samples change nothing, nor does an
assertion already recognised. -/
def Obligations.GongFramesAndHalt : Prop :=
  (∀ (s₀ s : State) (a : Nat) (b : List Byte), s = s₀.winnersFirst → (s.gng.rxEn = false ∨ s.gng.rxLock = false ∨ b.length ≠ 17) →
    exec (.gongFrameRx a b) s₀ = .next s.writeNotes) ∧
  (∀ (s₀ s : State) (a : Nat) (b : List Byte), s = s₀.winnersFirst → s.gng.rxEn = true → s.gng.rxLock = true → b.length = 17 →
    crc8 ((b.drop 1).take 15) ≠ u8 b 16 →
    exec (.gongFrameRx a b) s₀ = .next (s.modFir (fun f => { f with gongCrc := min (2 ^ 16 - 1) (f.gongCrc + 1) })).writeNotes) ∧
  (∀ (s₀ s : State) (a gap : Nat) (b : List Byte), s = s₀.winnersFirst → s.gng.rxEn = true → s.gng.rxLock = true → b.length = 17 →
    crc8 ((b.drop 1).take 15) = u8 b 16 → u8 b 1 % 16 = 1 → s.fir.role = 2 → s.fir.paced = true → s.fir.cfg.source = 3 →
    (∀ l, s.fir.lastLine = some l → l < u48 b 2) → ((∀ t, s.fir.trigTick = some t → t ≤ s.fir.startTick) → gap = 0) →
    (∀ t, s.fir.trigTick = some t → s.fir.startTick < t → gap = u48 b 2 - s.fir.nextLine) →
    ∀ u, u = s.modFir (fun f => { f with goodFrameAt := some s.tick, goodLine := u48 b 2, goodSeq := u8 b 15, nextLine := u48 b 2, gongMissed := min (2 ^ 16 - 1) (f.gongMissed + gap), passStart := if bit (u8 b 1) 5 then u48 b 2 else f.passStart, firstDir := if bit (u8 b 1) 5 then b2n (bit (u8 b 1) 4) else f.firstDir, passNo := if bit (u8 b 1) 5 then 0 else f.passNo, between := !bit (u8 b 1) 5 && f.between, holding := !bit (u8 b 1) 5 && f.holding, state := if bit (u8 b 1) 5 then (if f.state = .halted then .halted else .running) else f.state }) →
    (s.awaitsRecord = false → exec (.gongFrameRx a b) s₀ = .next (State.writeNotes (u.trigger (u48 b 2) ((a : Int) + u24 b 8 - s.gng.linkDelay) (u32 b 11)
      (bit (u8 b 1) 7) (bit (u8 b 1) 6) (bit (u8 b 1) 5) (bit (u8 b 1) 4)))) ∧
    (s.twn.role = .shadow → s.twn.predTick = none → exec (.gongFrameRx a b) s₀ = .next (u.modTwn (fun w => { w with predTick := some s.tick, predDue := (a : Int) + u24 b 8 - s.gng.linkDelay, predPer := u32 b 11, predFlags := some (u8 b 1) })).writeNotes) ∧
    (s.twn.role = .shadow → s.twn.predTick ≠ none → exec (.gongFrameRx a b) s₀ = .next u.writeNotes)) ∧
  (∀ (s₀ s : State) (a : Nat) (b : List Byte), s = s₀.winnersFirst → s.gng.rxEn = true → s.gng.rxLock = true → b.length = 17 →
    crc8 ((b.drop 1).take 15) = u8 b 16 →
    ∀ u, u = s.modFir (fun f => { f with goodFrameAt := some s.tick, goodLine := u48 b 2, goodSeq := u8 b 15 }) →
    (u8 b 1 % 16 = 3 → s.fir.role = 2 → (s.fir.paced = true ∨ s.fir.state = .halted) →
      exec (.gongFrameRx a b) s₀ = .next u.stopNow.writeNotes ∧ u.stopNow.fir.paced = false ∧ u.stopNow.fir.state = .stopped ∧
        u.stopNow.fir.goodFrameAt = some s.tick ∧ u.stopNow.fir.nextLine = s.fir.nextLine ∧ u.stopNow.fir.lastLine = s.fir.lastLine) ∧
    ((s.fir.role ≠ 2 ∨ (u8 b 1 % 16 ≠ 1 ∧ u8 b 1 % 16 ≠ 3) ∨ (u8 b 1 % 16 = 3 ∧ s.fir.paced = false ∧ s.fir.state ≠ .halted) ∨
      (u8 b 1 % 16 = 1 ∧ (s.fir.paced = false ∨ s.fir.cfg.source ≠ 3 ∨ ∃ l, s.fir.lastLine = some l ∧ u48 b 2 ≤ l))) →
      exec (.gongFrameRx a b) s₀ = .next u.writeNotes)) ∧
  (∀ (s : State), s.fir.role = 1 → (∀ t, s.fir.gongSentAt = some t → t + 1085 ≤ s.tick) → (s.fir.gongSentAt = none → 1000 ≤ s.tick) →
    ∀ u, u = s.modFir (fun f => { f with gongSentAt := some s.tick, gongSeq := wrapAdd 8 f.gongSeq 1 }) →
    exec .gongIdleSend s = .next (if s.twn.role.acting then u.emit (.gong (gongFrame 2 (s.fir.lastLine.getD 0) 0 0 s.fir.gongSeq)) else u)) ∧
  (∀ (s : State), s.fir.role ≠ 1 ∨ (∃ t, s.fir.gongSentAt = some t ∧ s.tick < t + 1085) ∨ (s.fir.gongSentAt = none ∧ s.tick < 1000) →
    exec .gongIdleSend s = .next s) ∧
  (∀ (s : State), s.fir.role = 2 → s.fir.paced = true → (∀ t, s.fir.goodFrameAt = some t → t + 4000 ≤ s.tick) → s.gongArrives = false →
    ∀ u, u = (s.raise 0x0504 0 (leBytes 6 s.fir.goodLine ++ [s.fir.goodSeq] ++ zeros 9)).stopPacing →
    exec .gongLost s = .next (u.driveHalt 0) ∧ (u.driveHalt 0).fir.paced = false ∧ (u.driveHalt 0).fir.haltDrive = true ∧
      (s.fir.haltDrive = false → (u.driveHalt 0).fir.haltCause = 0) ∧ (u.driveHalt 0).fir.lastLine = s.fir.lastLine) ∧
  (∀ (s : State), s.fir.role ≠ 2 ∨ s.fir.paced = false ∨ (∃ t, s.fir.goodFrameAt = some t ∧ s.tick < t + 4000) ∨ s.gongArrives = true →
    exec .gongLost s = .next s) ∧
  (∀ (s : State) (rest : List Bool), s.gng.haltLevel = true ∨ s.fir.state ≠ .halted →
    ∀ u, u = (if s.haltPending then s else s.modGng (fun g => { g with otherLow := true })) →
    ∀ w, w = ((u.modGng (fun g => { g with haltLevel := false, seenOther := false })).modFir (fun f => { f with state := .halted })).raise
      0x0505 0 ([b2n s.fir.haltDrive, if s.fir.haltDrive then s.fir.haltCause else 3] ++ leBytes 6 (s.fir.lastLine.getD 0) ++ zeros 8) →
    (s.pacingAxis = none → exec (.gongHalt (false :: false :: rest)) s = .next w) ∧
    (∀ x, s.pacingAxis = some x → exec (.gongHalt (false :: false :: rest)) s = .next (w.stopAxis x 0 none))) ∧
  (∀ (s : State) (b : List Bool), filterLine 2 true b = true → exec (.gongHalt b) s = .next s) ∧
  (∀ (s : State) (b : List Bool), s.gng.haltLevel = false → s.fir.state = .halted → filterLine 2 true b = false →
    exec (.gongHalt b) s = .next (s.modGng (fun g => { g with otherLow := true }))) ∧
  (∀ (s : State) (rest : List Bool), exec (.gongHaltRelease (true :: true :: rest)) s = .next (s.modGng (fun g => { g with otherLow := false, haltLevel := if s.fir.haltDrive then g.haltLevel else true, seenOther := if s.fir.haltDrive then g.seenOther else false }))) ∧
  (∀ (s : State) (b : List Bool), filterLine 2 false b = false → exec (.gongHaltRelease b) s = .next s)

/-- R183, R205 to R207: SNR_LANE_ENABLE, where no named lane is in bring-up, writes TX_PRESET and AUTO_RETRAIN into every named lane, sends those
that are OFF or FAILED into TRAIN and leaves the others as they are; it waits while a named lane is not UP, and answers at once otherwise;
SNR_LANE_DISABLE puts every named lane in OFF, whatever its state; SNR_QUERY answers state, cause, hub lane, port, delay, setup and bound. R20,
R179, R181 to R184, R186: the 64th valid sync header in a row gives block lock and takes a lane from TRAIN to ALIGN, and the 16th invalid one of
64 takes the lock; in ALIGN an AM is kept, and one that lies 16,384 blocks behind it with the right identity takes the lane on to TIME, a wrong
identity to FAILED with cause 3; an AM position without an AM is counted and breaks the sequence; 10 ms short of UP in any state of bring-up, and
not coming up in this tick, fails it with cause 4; a downstream AM takes the next AM_SEQ and its departure is kept. -/
def Obligations.LanesComeUpAndAnswer : Prop :=
  (∀ (s : State) (r : Fin 4) (c : Cmd) (m : Nat), s.atOnce r 0x0601 c → u64 c.packet 8 = m → u8 c.packet 16 ≤ 10 → u8 c.packet 17 ≤ 3 →
    u8 c.packet 18 ≤ 2 → (∀ l : Fin 64, bit m l = true → (s.lane l).state.bringup = false) →
    (∃ l : Fin 64, bit m l = true ∧ (s.lane l).state ≠ .up) →
    ∃ t, exec (.snrLaneEnable r) s = .next t ∧
      t = { s with hif := t.hif, snr := t.snr } ∧
      (∀ l : Fin 64, bit m l = true → (t.lane l).txPreset = u8 c.packet 16 ∧ (t.lane l).autoRetrain = bit (u8 c.packet 17) 0) ∧
      (∀ l : Fin 64, bit m l = true → (s.lane l).state = .off ∨ (s.lane l).state = .failed →
        (t.lane l).state = .train ∧ (t.lane l).trainAt = s.tick ∧ (t.lane l).cause = 0 ∧ (t.lane l).locked = false ∧
        (t.lane l).wantPort = u8 c.packet 18 ∧ (t.lane l).ignoreId = bit (u8 c.packet 17) 1 ∧
        (t.lane l).ctl = u8 c.packet 16 + 16 * b2n (s.lane l).txInv + 32 * b2n (s.lane l).rxInv + 64 * b2n (bit (u8 c.packet 17) 0)) ∧
      (∀ l : Fin 64, bit m l = true → (s.lane l).state = .up →
        t.lane l = { s.lane l with txPreset := u8 c.packet 16, autoRetrain := bit (u8 c.packet 17) 0 }) ∧
      (∀ l : Fin 64, bit m l = false → t.lane l = s.lane l) ∧
      t.snr.waits = s.snr.waits ++ [{ cmd := c.id, lanes := m }]) ∧
  (∀ (s : State) (r : Fin 4) (c : Cmd) (m : Nat), s.atOnce r 0x0601 c → u64 c.packet 8 = m → u8 c.packet 16 ≤ 10 → u8 c.packet 17 ≤ 3 →
    u8 c.packet 18 ≤ 2 → (∀ l : Fin 64, bit m l = true → (s.lane l).state = .up) →
    ∃ u : State, exec (.snrLaneEnable r) s = .next (u.complete c.id Status.ok (leBytes 8 m ++ zeros 8)) ∧
      u = { s with hif := u.hif, snr := u.snr } ∧
      (∀ l : Fin 64, u.lane l = if bit m l then { s.lane l with txPreset := u8 c.packet 16, autoRetrain := bit (u8 c.packet 17) 0 } else s.lane l) ∧
      u.snr.waits = s.snr.waits) ∧
  (∀ (s : State) (r : Fin 4) (c : Cmd) (m : Nat), s.atOnce r 0x0602 c → u64 c.packet 8 = m → s.snr.waits = [] →
    ∃ t, exec (.snrLaneDisable r) s = .next t ∧
      t = { s with out := t.out, hif := t.hif, evt := t.evt, snr := t.snr } ∧
      (∀ l : Fin 64, bit m l = true → (t.lane l).state = .off ∧ (t.lane l).cause = 0 ∧ (t.lane l).locked = false) ∧
      (∀ l : Fin 64, bit m l = false → t.lane l = s.lane l)) ∧
  (∀ (s : State) (r : Fin 4) (c : Cmd), s.atOnce r 0x0605 c → u8 c.packet 8 ≤ 63 →
    exec (.snrQuery r) s = .next ((s.begun r c (.ok [])).complete c.id Status.ok
      ([(s.lane (u8 c.packet 8)).state.num, (s.lane (u8 c.packet 8)).cause, (s.lane (u8 c.packet 8)).hubLane, (s.lane (u8 c.packet 8)).port]
        ++ leBytes 4 (s.lane (u8 c.packet 8)).delayAvg ++ leBytes 2 (s.lane (u8 c.packet 8)).hubSetup ++ [0, 0]
        ++ leBytes 4 (s.lane (u8 c.packet 8)).bound))) ∧
  (∀ (s : State) (k : Fin 64) (n : Nat), (s.lane k).state = .train → (s.lane k).locked = false → (s.lane k).hdrRun + n = 64 → 0 < n →
    exec (.snrBlockLock k (List.replicate n true)) s = .next (s.setLane k { s.lane k with locked := true, hdrRun := 0, hdrWin := [], state := .align })) ∧
  (∀ (s : State) (k : Fin 64), (s.lane k).state.bringup = true → (s.lane k).locked = true →
    16 ≤ (((false :: (s.lane k).hdrWin).take 64).filter (· == false)).length →
    exec (.snrBlockLock k [false]) s = .next (s.setLane k { s.lane k with locked := false, hdrRun := 0, hdrWin := [], amAt := none, syncErr := min (2 ^ 16 - 1) ((s.lane k).syncErr + 1), syncUp := min (2 ^ 32 - 1) ((s.lane k).syncUp + 1), lockLoss := min (2 ^ 16 - 1) ((s.lane k).lockLoss + 1) })) ∧
  (∀ (s : State) (k : Fin 64) (b : List Bool), ((s.lane k).state = .off ∨ (s.lane k).state = .failed) →
    exec (.snrBlockLock k b) s = .next s) ∧
  (∀ (s : State) (k : Fin 64) (am turn : List Byte) (uis : Nat), (s.lane k).locked = true → (s.lane k).state = .align →
    (∀ t, (s.lane k).amAt = some t → ¬(t < uis ∧ (uis - t + 33) / 66 = 16384)) → u8 am 0 = 0x4B →
    exec (.upstreamAm k am turn uis) s = .next (s.setLane k { s.lane k with port := b2n (bit (u8 am 1) 6), hubLane := u8 am 2, hubSetup := u16 am 4 % 4096, missed := 0, amAt := some uis })) ∧
  (∀ (s : State) (k : Fin 64) (am turn : List Byte) (t uis : Nat), (s.lane k).locked = true → (s.lane k).state = .align →
    (s.lane k).amAt = some t → t < uis → (uis - t + 33) / 66 = 16384 →
    u8 am 0 = 0x4B → u8 am 1 % 64 = k.val → u8 am 2 = k.val → (s.lane k).wantPort = 2 → (s.lane k).departs.get 0 (u8 turn 4) = 0 →
    exec (.upstreamAm k am turn uis) s = .next (s.setLane k { s.lane k with port := b2n (bit (u8 am 1) 6), hubLane := k.val, hubSetup := u16 am 4 % 4096, missed := 0, state := .time })) ∧
  (∀ (s : State) (k : Fin 64) (am turn : List Byte) (t uis : Nat), (s.lane k).locked = true → (s.lane k).state = .align →
    (s.lane k).amAt = some t → t < uis → (uis - t + 33) / 66 = 16384 →
    u8 am 0 = 0x4B → u8 am 1 % 64 ≠ k.val → s.snr.waits = [] →
    ∃ t, exec (.upstreamAm k am turn uis) s = .next t ∧
      t = { s with out := t.out, hif := t.hif, evt := t.evt, snr := t.snr } ∧ (t.lane k).state = .failed ∧ (t.lane k).cause = 3 ∧ (t.lane k).locked = false ∧
      (∀ q : Fin 64, q ≠ k → t.lane q = s.lane q)) ∧
  (∀ (s : State) (k : Fin 64), (s.lane k).state = .align →
    exec (.amMissed k) s = .next (s.setLane k { s.lane k with amErr := min (2 ^ 16 - 1) ((s.lane k).amErr + 1), missed := (s.lane k).missed + 1, amAt := none })) ∧
  (∀ (s : State) (k : Fin 64), (s.lane k).state.bringup = true → (s.lane k).trainAt + 2000000 ≤ s.tick → s.comesUp k = false →
    s.snr.waits = [] →
    ∃ t, exec (.laneBringupTimeout k) s = .next t ∧
      t = { s with out := t.out, hif := t.hif, evt := t.evt, snr := t.snr } ∧ (t.lane k).state = .failed ∧ (t.lane k).cause = 4 ∧
      (∀ l : Fin 64, l ≠ k → t.lane l = s.lane l)) ∧
  (∀ (s : State) (k : Fin 64) (uis : Nat), (s.lane k).state = .align →
    exec (.downstreamAm k uis) s = .next ((s.setLane k { s.lane k with amSeq := wrapAdd 8 (s.lane k).amSeq 1, departs := (s.lane k).departs.set 0 (s.lane k).amSeq (uis + 1) }).emit (.am k.val ([0x4B, k.val + 64 * b2n s.isShadow +
        128 * b2n s.twn.twin, s.twn.epoch, s.gng.dev, (s.lane k).amSeq, 0x53, 0x4E, 0x52] ++ List.replicate 8 0xFF))))

/-- R20, R194, R201 to R204: a head message leaves for the hub of a lane in UP when its wire is free and no line frame waits, or waits, and runs
on; the hub's good reply with its TAG completes it, and a bad one is counted; without a reply, also in this tick, it completes at its timeout
with HUB_NO_REPLY; head status is kept by slot and a change of state reported; an eye scan of a lane in UP starts, and when all its points are
counted its record is written and it completes. R199, R200: a hub's comparison report is counted by its KIND for the lane; the first one of a
record's time gives its KIND and LINE; while a record was written in the last 1,024 lines no other is written, and the counts wait for it. -/
def Obligations.HubsAnswerAndReport : Prop :=
  (∀ (s : State) (r : Fin 4) (c : Cmd), s.atOnce r 0x0604 c → u8 c.packet 8 ≤ 63 → 0 < u8 c.packet 9 → u8 c.packet 9 ≤ 40 → 0 < u8 c.packet 10 →
    u64 c.packet 16 % 8 = 0 → (s.lane (u8 c.packet 8)).state = .up → (s.lane (u8 c.packet 8)).msg = none →
    ∀ (m : List Byte), m = messageBytes (s.lane (u8 c.packet 8)).msgTag ((c.packet.drop 24).take (u8 c.packet 9)) →
    ((s.lane (u8 c.packet 8)).wireFree s.tick = true → (s.lane (u8 c.packet 8)).txWait = [] →
      exec (.snrHeadMsg r) s = .next ((((s.begun r c (.ok [])).modLane (u8 c.packet 8) (fun l => { l with msgTag := wrapAdd 8 l.msgTag 1, wire := some (.message m, s.tick + (TxItem.message m).ticks), msg := some { cmd := c.id, tag := l.msgTag, deadline := s.tick + 200000 * u8 c.packet 10, replyAddr := u64 c.packet 16 } })).emit
          (.hubMsg (u8 c.packet 8) m)).setPhase c.id .running)) ∧
    ((s.lane (u8 c.packet 8)).wireFree s.tick = false ∨ (s.lane (u8 c.packet 8)).txWait ≠ [] →
      exec (.snrHeadMsg r) s = .next (((s.begun r c (.ok [])).modLane (u8 c.packet 8) (fun l => { l with msgTag := wrapAdd 8 l.msgTag 1, msgWait := some m, msg := some { cmd := c.id, tag := l.msgTag, deadline := s.tick + 200000 * u8 c.packet 10, replyAddr := u64 c.packet 16 } })).setPhase
          c.id .running))) ∧
  (∀ (s : State) (k : Fin 64) (b x : List Byte) (m : HeadMsg), (s.lane k).state = .up → (s.lane k).msg = some m →
    messagePayload b = some x → u8 b 2 = m.tag → m.replyAddr = 0 →
    exec (.hubReply k b) s = .next ((s.setLane k { s.lane k with msg := none, msgWait := none }).complete m.cmd Status.ok
      (x.length :: x.take 15))) ∧
  (∀ (s : State) (k : Fin 64) (b : List Byte), (s.lane k).state = .up → u8 b 0 = 0x55 → messagePayload b = none →
    exec (.hubReply k b) s = .next (s.setLane k { s.lane k with msgErr := min (2 ^ 16 - 1) ((s.lane k).msgErr + 1) })) ∧
  (∀ (s : State) (k : Fin 64) (m : HeadMsg), (s.lane k).msg = some m → m.deadline ≤ s.tick →
    (∀ b, Instr.hubReply k b ∈ s.pending → (s.lane k).replyOf b = none) →
    exec (.headMsgTimeout k) s = .next ((s.setLane k { s.lane k with msg := none, msgWait := none }).complete m.cmd Status.hubNoReply [])) ∧
  (∀ (s : State) (k : Fin 64) (b : List Byte), (s.lane k).locked = true → (s.lane k).listens = true → u8 b 0 = 0x33 → u8 b 1 ≤ 7 →
    ((s.lane k).heads.get {} (u8 b 1)).state = u8 b 2 →
    exec (.statusBlock k b) s = .next (s.setLane k { s.lane k with heads := (s.lane k).heads.set {} (u8 b 1) { state := u8 b 2, temp := u16 b 3, fault := u16 b 5 } })) ∧
  (∀ (s : State) (r : Fin 4) (c : Cmd), s.atOnce r 0x0603 c → u8 c.packet 8 ≤ 63 → scanStepOk (u8 c.packet 9) = true →
    scanStepOk (u8 c.packet 10) = true → 20 ≤ u8 c.packet 11 → u8 c.packet 11 ≤ 36 → u64 c.packet 16 % 8 = 0 →
    32 + 4 * (64 / u8 c.packet 9) * (128 / u8 c.packet 10) ≤ u32 c.packet 24 → (s.lane (u8 c.packet 8)).state = .up →
    (s.lane (u8 c.packet 8)).scan = none → s.scansActive ≤ 3 →
    exec (.snrEyeScan r) s = .next (((s.begun r c (.ok [])).modLane (u8 c.packet 8) (fun l => { l with scan := some { cmd := c.id, phStep := u8 c.packet 9, vStep := u8 c.packet 10, dwell := u8 c.packet 11, addr := u64 c.packet 16, start := s.nowNs } })).setPhase
        c.id .running)) ∧
  (∀ (s : State) (k : Fin 64) (n : List Nat) (x : EyeScan), (s.lane k).scan = some x → x.cut = false → s.hif.linkDown = false → s.sys.dormant = .awake →
    n.length = 64 / x.phStep * (128 / x.vStep) →
    ∃ t b, exec (.eyeScanDone k n) s = .next t ∧
      t = { s with out := t.out, hif := t.hif, evt := t.evt, snr := t.snr } ∧ (t.lane k).scan = none ∧ Out.host x.addr b ∈ t.out ∧
      b.take 8 = [k.val, x.phStep, x.vStep, x.dwell, 64 / x.phStep, 128 / x.vStep, 0, 0] ∧ b.length = 32 + 4 * n.length ∧
      (∀ q : Fin 64, q ≠ k → t.lane q = s.lane q)) ∧
  (∀ (s : State) (k : Fin 64) (b : List Byte) (l : Nat), (s.lane k).locked = true → (s.lane k).listens = true → u8 b 0 = 0x5A → 1 ≤ u8 b 1 % 8 → u8 b 1 % 8 ≤ 4 →
    (s.lane k).cmpRec.last = some l → s.fir.lastLine.getD 0 ≤ l + 1024 →
    ∃ t, exec (.cmpReport k b) s = .next t ∧
      t = { s with out := t.out, hif := t.hif, evt := t.evt, snr := t.snr, twn := t.twn } ∧
      (t.lane k).cmp1 = min (2 ^ 16 - 1) ((s.lane k).cmp1 + b2n (u8 b 1 % 8 == 1)) ∧
      (t.lane k).cmp2 = min (2 ^ 16 - 1) ((s.lane k).cmp2 + b2n (u8 b 1 % 8 == 2)) ∧
      (t.lane k).cmp3 = min (2 ^ 16 - 1) ((s.lane k).cmp3 + b2n (u8 b 1 % 8 == 3)) ∧
      (t.lane k).cmp4 = min (2 ^ 16 - 1) ((s.lane k).cmp4 + b2n (u8 b 1 % 8 == 4)) ∧
      (t.lane k).cmpSince = modAt (fun n => min (2 ^ 16 - 1) (n + 1)) (u8 b 1 % 8 - 1) (s.lane k).cmpSince ∧
      (t.lane k).cmpKind = (if (s.lane k).cmpSince.all (· == 0) then u8 b 1 % 8 else (s.lane k).cmpKind) ∧
      (t.lane k).cmpLine = (if (s.lane k).cmpSince.all (· == 0) then u48 b 2 else (s.lane k).cmpLine) ∧
      (t.lane k).cmpRec = (s.lane k).cmpRec ∧ (∀ j : Fin 64, j ≠ k → t.lane j = s.lane j))

/-- R226, R229, R238, R239: a port is set up while none of its units is started; a descriptor is taken for a stopped unit; coefficients are
staged for the unit's next FS; outputs without a stream are staged for it. R236, R245, R246: a described unit of an enabled port starts when the
pipeline round fits, with frame numbers from 0; a stop is taken up and waits for the frame in progress; a stop of a stopped unit lets its streams
go and answers its last frame at once. -/
def Obligations.CamerasAreConfiguredAndRun : Prop :=
  (∀ (s : State) (r : Fin 4) (c : Cmd), s.atOnce r 0x0701 c → u8 c.packet 8 < 4 → [0, 1, 2, 4].contains (u8 c.packet 9) = true → u8 c.packet 10 ≤ 2 →
    80 ≤ u32 c.packet 12 → u32 c.packet 12 ≤ 4500 → u8 c.packet 17 < 32 → s.portStarted (u8 c.packet 8) = false →
    exec (.camPort r) s = .next (((s.begun r c (.ok [])).modCamPort (u8 c.packet 8) (fun q => { q with lanes := u8 c.packet 9, speed := u8 c.packet 10, rate := u32 c.packet 12, laneMap := u8 c.packet 16, polarity := u8 c.packet 17, deskewed := false })).complete
        c.id Status.ok [])) ∧
  (∀ (s : State) (p : Fin 4), (s.camPort p).lanes ≠ 0 →
    exec (.csiDeskewDone p) s = .next (s.modCamPort p (fun q => { q with deskewed := true }))) ∧
  (∀ (s : State) (r : Fin 4) (c : Cmd), s.atOnce r 0x0702 c → descBad c.packet = false → (s.camUnit (u8 c.packet 8)).started = none →
    exec (.camSensorDesc r) s = .next (((s.begun r c (.ok [])).modCamUnit (u8 c.packet 8) (fun u => { u with desc := some (parseDesc c.packet) })).complete c.id Status.ok [])) ∧
  (∀ (s : State) (r : Fin 4) (c : Cmd) (b : List Byte), s.atOnce r 0x0704 c → u8 c.packet 8 < 16 → u64 c.packet 16 % 64 = 0 → pipeBad b = false →
    exec (.camPipe r (.ok b)) s = .next (((s.begun r c (.ok b)).modCamUnit (u8 c.packet 8) (fun x => { x with pipeNext := x.pipeNext ++ [⟨parsePipe b, s.tick⟩] })).complete c.id Status.ok [])) ∧
  (∀ (s : State) (r : Fin 4) (c : Cmd) (d : SensorDesc), s.atOnce r 0x0705 c → outsBad c.packet = false → bit (u8 c.packet 9) 1 = false →
    bit (u8 c.packet 9) 2 = false → (s.camUnit (u8 c.packet 8)).desc = some d → (parseOuts c.packet).misfits d = false →
    (∀ k : Fin 16, k.val ≠ u8 c.packet 8 → bit (s.camUnit k).outsComing.enable 2 = false) →
    (s.camUnit (u8 c.packet 8)).started ≠ none →
    exec (.camOutputs r) s = .next (((s.begun r c (.ok [])).modCamUnit (u8 c.packet 8) (fun x => { x with outsNext := x.outsNext ++ [⟨parseOuts c.packet, s.tick⟩] })).complete c.id Status.ok [])) ∧
  (∀ (s : State) (r : Fin 4) (c : Cmd) (d : SensorDesc), s.atOnce r 0x0706 c → u8 c.packet 8 < 16 → (s.camUnit (u8 c.packet 8)).desc = some d →
    s.portOn (u8 c.packet 8) = true → (s.camUnit (u8 c.packet 8)).started = none → s.startedDescs = [] → d.clocks ≤ 3 * d.minLine →
    bit (s.camUnit (u8 c.packet 8)).outsComing.enable 1 = false →
    ∃ t, exec (.camStart r) s = .next t ∧
      t = { s with hif := t.hif, cmp := t.cmp, cam := t.cam } ∧ (t.camUnit (u8 c.packet 8)).started = some s.tick ∧ (t.camUnit (u8 c.packet 8)).nextFrame = 0 ∧
      (t.camUnit (u8 c.packet 8)).open_ = none ∧ (t.camUnit (u8 c.packet 8)).expCur = 0 ∧ (t.camUnit (u8 c.packet 8)).desc = some d ∧
      t.cam.ports = s.cam.ports ∧
      (∀ q : Fin 16, q.val ≠ u8 c.packet 8 → t.camUnit q = s.camUnit q)) ∧
  (∀ (s : State) (r : Fin 4) (c : Cmd), s.atOnce r 0x0707 c → u8 c.packet 8 < 16 → (s.camUnit (u8 c.packet 8)).started ≠ none →
    (s.camUnit (u8 c.packet 8)).stopping = false →
    exec (.camStop r) s = .next (((s.begun r c (.ok [])).modCamUnit (u8 c.packet 8) (fun x => { x with stopping := true, stopTick := s.tick, stopHeld := x.open_.isSome, stopCmds := x.stopCmds ++ [c.id] })).setPhase c.id .running)) ∧
  (∀ (s : State) (r : Fin 4) (c : Cmd), s.atOnce r 0x0707 c → u8 c.packet 8 < 16 → (s.camUnit (u8 c.packet 8)).started = none →
    exec (.camStop r) s = .next (((s.begun r c (.ok [])).releaseStreams (u8 c.packet 8) []).complete c.id Status.ok (leBytes 4 (s.camUnit (u8 c.packet 8)).lastFrame ++ zeros 12)))

/-- R20, R225, R228, R233 to R235: an FS of a started unit opens its next frame with its tick, time and press line, and closes a frame still open
as damaged. The port counts what its packets suffered, in a frame and outside one. A line goes into a slot of its unit with a channel per row,
fitted to WIDTH, and damages its frame when packets or rows are wrong (what padding holds is free); a surplus line is discarded and damages the
frame; one that finds both slots taken, none of them freed in its tick, truncates it. The pipeline reads the line of the unit in service, or of
the next in turn, into its frame and frees the slot. An FE closes the frame, damaged when lines are missing; without one, also in this tick, it
closes at FRAME_TO. R20, R230 to R232, R240 to R244: exposure settings of a started unit wait under the next EXPSET, one command at a time; they
time out 1 s after their commit when no FS has come, also in this tick. A transfer that ends well leaves its set one write shorter, and the last
one completes the command with the frames K and C, of an FS in its tick the frame that it opens; a NACK ends the set, drops its other writes and
completes with CCI_NACK; the master's next transfer starts. A closed frame whose lines are all served is delivered: its outputs are written, STK
takes it, and a stop that waits for it ends; with no enabled output only the frame ends, and with the frame record alone that is written. -/
def Obligations.FramesAndExposures : Prop :=
  (∀ (s : State) (u : Fin 16) (t0 : Nat), (s.camUnit u).started = some t0 → s.portOn u = true → t0 < s.tick →
    ((s.camUnit u).stopping = false ∨ (s.camUnit u).stopTick = s.tick) →
    ∃ t f, exec (.frameStart u) s = .next t ∧
      t = { s with out := t.out, hif := t.hif, evt := t.evt, cmp := t.cmp, cam := t.cam, stk := t.stk } ∧ (t.camUnit u).open_ = some f ∧ f.no = (s.camUnit u).nextFrame ∧ f.fsTick = s.tick ∧
      f.fsLine = s.lineNow ∧ f.got = 0 ∧ f.served = 0 ∧ f.damaged = false ∧ (t.camUnit u).nextFrame = (s.camUnit u).nextFrame + 1 ∧
      (t.camUnit u).dead = false ∧ (t.camUnit u).started = some t0 ∧
      (∀ g, (s.camUnit u).open_ = some g → (t.camUnit u).lastFrame = g.no % 2 ^ 32 ∧ (t.camUnit u).closed = (s.camUnit u).closed ++ [{ g with damaged := true, closeTick := s.tick, closeTime := s.stampIn g.timeB, closeLine := s.lineNow }]) ∧
      (∀ q : Fin 16, q ≠ u → t.camUnit q = s.camUnit q)) ∧
  (∀ (s : State) (u : Fin 16) (t0 : Nat), (s.camUnit u).started = some t0 → s.portOn u = true → t0 < s.tick → (s.camUnit u).open_ = none →
    (s.camUnit u).stopping = false → (s.camUnit u).pipeNext = [] → (s.camUnit u).outsNext = [] → (s.camUnit u).exps = [] →
    s.stk.mapNext.get none u = none →
    exec (.frameStart u) s = .next (s.modCamUnit u (fun c => { c with nextFrame := c.nextFrame + 1, dead := false, open_ := some { no := c.nextFrame, fsTick := s.tick, fsTime := s.nowNs, timeB := s.hif.timeB, pipe := c.pipe, outs := c.outs, fsLine := s.lineNow, expset := c.expCur, mixed := false, width := (c.desc.map (fun d => d.width)).getD 0, stripH := (c.desc.map (fun d => d.stripH)).getD 0, dt := (c.desc.map (fun d => d.dt)).getD 0, coded := bit c.outs.enable 1 && c.held.contains c.outs.codeStream }, expShown := c.expCur }))) ∧
  (∀ (s : State) (u : Fin 16), ((s.camUnit u).started = none ∨ s.portOn u = false ∨ ∃ t0, (s.camUnit u).started = some t0 ∧ s.tick ≤ t0) →
    exec (.frameStart u) s = .next s) ∧
  (∀ (s : State) (u : Fin 16) (rows : List (List Nat)) (e : Fin 4) (n m k : Nat), s.portOn u = false →
    exec (.lineArrival u rows e n m k) s = .next s) ∧
  (∀ (s : State) (u : Fin 16) (rows : List (List Nat)) (e : Fin 4) (n m k : Nat), s.portOn u = true →
    ((s.camUnit u).open_ = none ∨ (s.camUnit u).desc = none) →
    exec (.lineArrival u rows e n m k) s = .next (s.modCamPort (u.val / 4) (fun p => { p with crcErr := min (2 ^ 16 - 1) (p.crcErr + e), eccCorr := min (2 ^ 16 - 1) (p.eccCorr + n), eccUncorr := min (2 ^ 16 - 1) (p.eccUncorr + m), dtDiscard := min (2 ^ 16 - 1) (p.dtDiscard + k) }))) ∧
  (∀ (s : State) (u : Fin 16) (e : Fin 4) (n m k : Nat) (f : Frame), s.portOn u = true → (s.camUnit u).open_ = some f → (s.camUnit u).desc ≠ none →
    exec (.lineArrival u [] e n m k) s = .next ((s.modCamPort (u.val / 4) (fun p => p.count e n m k)).setCamUnit u { s.camUnit u with open_ := some { f with damaged := f.damaged || e.val ≠ 0, crcErr := min (2 ^ 16 - 1) (f.crcErr + e) } })) ∧
  (∀ (s : State) (u : Fin 16) (rows : List (List Nat)) (e : Fin 4) (n m k : Nat) (f : Frame) (d : SensorDesc), s.portOn u = true →
    (s.camUnit u).open_ = some f → (s.camUnit u).desc = some d → rows ≠ [] →
    (d.stripH ≤ f.got → ∃ t, exec (.lineArrival u rows e n m k) s = .next t ∧
      t = { s with cam := t.cam } ∧ (t.camUnit u).slots = (s.camUnit u).slots ∧
      (t.camUnit u).open_ = some { f with damaged := true, crcErr := min (2 ^ 16 - 1) (f.crcErr + e) } ∧
      t.camPort (u.val / 4) = (s.camPort (u.val / 4)).count e n m k ∧
      (∀ q : Fin 16, q ≠ u → t.camUnit q = s.camUnit q)) ∧
    (f.got < d.stripH → 2 ≤ (s.camUnit u).slots.length → s.slotFrees u = false →
      ∃ t, exec (.lineArrival u rows e n m k) s = .next t ∧
      t = { s with out := t.out, hif := t.hif, evt := t.evt, cam := t.cam } ∧ (t.camUnit u).open_ = none ∧ (t.camUnit u).dead = true ∧
        (t.camUnit u).truncs = min (2 ^ 16 - 1) ((s.camUnit u).truncs + 1) ∧ (t.camUnit u).lastFrame = f.no % 2 ^ 32 ∧
        (t.camUnit u).closed = (s.camUnit u).closed ++ [{ f with trunc := true, closeTick := s.tick, closeTime := s.stampIn f.timeB, closeLine := s.lineNow }] ∧ (t.camUnit u).slots = (s.camUnit u).slots.filter (fun l => l.frame ≠ f.fsTick) ∧
      (∀ q : Fin 16, q ≠ u → t.camUnit q = s.camUnit q)) ∧
    (f.got < d.stripH → ((s.camUnit u).slots.length < 2 ∨ s.slotFrees u = true) →
      ∀ odd, odd = (e.val ≠ 0 || rows.length ≠ 3 || rows.any (fun r => r.length ≠ d.width)) →
      ∃ t ch, exec (.lineArrival u rows e n m k) s = .next t ∧
      t = { s with free := t.free, cam := t.cam } ∧ (t.camUnit u).slots = (s.camUnit u).slots ++ [{ frame := f.fsTick, chans := ch }] ∧
        ch.length = 3 ∧ (∀ r ∈ ch, r.length = d.width) ∧ (t.camUnit u).open_ = some { f with got := f.got + 1, crcErr := min (2 ^ 16 - 1) (f.crcErr + e), damaged := f.damaged || odd } ∧
        t.camPort (u.val / 4) = (s.camPort (u.val / 4)).count e n m k ∧ t.free = (if odd then s.free + 1 else s.free) ∧
      (∀ q : Fin 16, q ≠ u → t.camUnit q = s.camUnit q))) ∧
  (∀ (s : State) (u : Nat) (l : CamLine) (rest : List CamLine), s.readUnit = some u → (s.camUnit u).slots = l :: rest →
    ∃ t, exec .pipelineLine s = .next t ∧
      t = { s with cam := t.cam } ∧ (t.camUnit u).slots = rest ∧ t.cam.lastServed = u ∧
      (t.camUnit u).open_ = (s.camUnit u).open_.map (fun f => if f.fsTick = l.frame then f.serve l else f) ∧
      (t.camUnit u).closed = (s.camUnit u).closed.map (fun f => if f.fsTick = l.frame then f.serve l else f) ∧
      (∀ v, v ≠ u → t.camUnit v = s.camUnit v) ∧ t.cam.serving = t.nextCamera.map (fun v => (v, s.tick, false)) ∧ t.cam.ports = s.cam.ports) ∧
  (∀ (s : State), s.readUnit = none → exec .pipelineLine s = .next s) ∧
  (∀ (s : State) (u : Fin 16) (f : Frame) (d : SensorDesc), (s.camUnit u).open_ = some f → (s.camUnit u).desc = some d →
    exec (.frameEnd u) s = .next (s.modCamUnit u (fun c => { c with open_ := none, lastFrame := f.no % 2 ^ 32, closed := c.closed ++ [{ f with damaged := f.damaged || decide (f.got < d.stripH), closeTick := s.tick, closeTime := s.stampIn f.timeB, closeLine := s.lineNow }] }))) ∧
  (∀ (s : State) (u : Fin 16), (s.camUnit u).open_ = none → exec (.frameEnd u) s = .next s ∧ exec (.frameTimeout u) s = .next s) ∧
  (∀ (s : State) (u : Fin 16) (f : Frame) (d : SensorDesc), (s.camUnit u).open_ = some f → (s.camUnit u).desc = some d →
    (f.fsTick + d.frameTo * 200 ≤ s.tick → Instr.frameEnd u ∉ s.pending →
      exec (.frameTimeout u) s = .next ((s.modCamUnit u (fun c => { c with open_ := none, lastFrame := f.no % 2 ^ 32, timeouts := min (2 ^ 16 - 1) (c.timeouts + 1), closed := c.closed ++ [{ f with timeout := true, closeTick := s.tick, closeTime := s.stampIn f.timeB, closeLine := s.lineNow }] })).raise 0x0702 u (leBytes 4 f.no ++ leBytes 2 f.served ++ leBytes 2 f.expset
            ++ leBytes 6 f.fsLine ++ [0, 0]))) ∧
    (s.tick < f.fsTick + d.frameTo * 200 ∨ Instr.frameEnd u ∈ s.pending → exec (.frameTimeout u) s = .next s)) ∧
  (∀ (s : State) (r : Fin 4) (c : Cmd), s.atOnce r 0x0703 c → u8 c.packet 8 < 16 → (s.camUnit (u8 c.packet 8)).started ≠ none →
    (∀ e ∈ (s.camUnit (u8 c.packet 8)).exps, e.cmd = none) →
    exec (.camSetExposure r) s = .next ((((s.begun r c (.ok [])).modCamUnit (u8 c.packet 8) (fun x => { x with expNext := if x.expNext = 65535 then 1 else x.expNext + 1, exps := x.exps ++ [{ id := x.expNext, cmd := some c.id, values := (List.range 4).map (fun k => u32 c.packet (16 + 4 * k)), commit := s.tick, order := s.cam.expOrder }] })).modCam (fun m => { m with expOrder := m.expOrder + 1 })).setPhase
          c.id .running)) ∧
  (∀ (s : State) (r : Fin 4) (c : Cmd), s.atOnce r 0x0703 c → u8 c.packet 8 < 16 →
    ((s.camUnit (u8 c.packet 8)).started = none →
      exec (.camSetExposure r) s = .next ((s.begun r c (.ok [])).complete c.id Status.notReady [])) ∧
    ((s.camUnit (u8 c.packet 8)).started ≠ none → (∃ e ∈ (s.camUnit (u8 c.packet 8)).exps, e.cmd ≠ none) →
      exec (.camSetExposure r) s = .next ((s.begun r c (.ok [])).complete c.id Status.busy []))) ∧
  (∀ (s : State) (u : Fin 16) (e : ExpSet), (s.camUnit u).exps.find? (fun e => e.frameK.isNone && e.cmd.isSome) = some e →
    (e.commit + 200000000 ≤ s.tick → s.fsArrives u = false →
      exec (.exposureLatchTimeout u) s = .next ((s.modCamUnit u (fun c => { c with exps := c.exps.filter (fun x => x.id ≠ e.id) })).completeOpt e.cmd Status.timeout [])) ∧
    (s.tick < e.commit + 200000000 ∨ s.fsArrives u = true → exec (.exposureLatchTimeout u) s = .next s)) ∧
  (∀ (s : State) (u : Fin 16), (∀ e ∈ (s.camUnit u).exps, e.frameK ≠ none ∨ e.cmd = none) → exec (.exposureLatchTimeout u) s = .next s) ∧
  (∀ (s : State) (p : Fin 4) (nack : Bool), (s.camPort p).cci = [] → exec (.cciTransferDone p nack) s = .next s) ∧
  (∀ (s : State) (p : Fin 4) (x : CciXfer) (rest : List CciXfer) (e : ExpSet) (d : SensorDesc) (k cl : Nat), (s.camPort p).cci = x :: rest →
    (s.camUnit x.unit).exps.find? (fun e => e.id == x.expset) = some e → e.frameK = some k → (s.camUnit x.unit).desc = some d →
    cl = (s.camUnit x.unit).nextFrame + b2n (s.fsOpens x.unit) - 1 + max d.delay 1 →
    ∀ v, v = s.modCamPort p (fun q => { q with cci := rest }) → ∀ w, w = (match rest with | y :: _ => v.emit (.cci p.val y) | [] => v) →
    (2 ≤ e.left → exec (.cciTransferDone p false) s = .next (w.setExp x.unit { e with left := e.left - 1 })) ∧
    (e.left ≤ 1 → exec (.cciTransferDone p false) s = .next ((w.setExp x.unit { e with left := 0, clean := some cl, cmd := none }).completeOpt
      e.cmd Status.ok (leBytes 2 e.id ++ [0, 0] ++ leBytes 4 k ++ leBytes 4 cl ++ leBytes 4 (cl - (k + d.delay)))))) ∧
  (∀ (s : State) (p : Fin 4) (x : CciXfer) (rest left : List CciXfer) (e : ExpSet), (s.camPort p).cci = x :: rest →
    (s.camUnit x.unit).exps.find? (fun e => e.id == x.expset) = some e →
    left = rest.filter (fun y => !(y.unit == x.unit && y.expset == x.expset)) →
    ∀ v, v = s.modCamPort p (fun q => { q with cci := left }) → ∀ w, w = (match left with | y :: _ => v.emit (.cci p.val y) | [] => v) →
    exec (.cciTransferDone p true) s = .next ((w.setExp x.unit { e with nacked := true, left := 0, cmd := none }).completeOpt e.cmd
      Status.cciNack [])) ∧
  (∀ (s : State) (u : Fin 16), (s.camUnit u).ready = none → exec (.frameOutputDelivery u) s = .next s) ∧
  (∀ (s : State) (u : Fin 16) (f : Frame), (s.camUnit u).ready = some f →
    ∀ v, v = ((if f.served = 0 then s.drawn else s).deliverOutputs u f (f.profile s.draw)).modCamUnit u (fun c => { c with closed := c.closed.drop 1 }) →
    exec (.frameOutputDelivery u) s = .next (State.endCamStop false (v.stkFrame u f (f.profile s.draw)) u) ∧
      (v.camUnit u).closed = (s.camUnit u).closed.drop 1) ∧
  (∀ (s : State) (u : Fin 16) (f : Frame), (s.camUnit u).ready = some f → f.served ≠ 0 → f.wantsCode = false → s.stkMap u = none → (s.camUnit u).stopping = false →
    (f.outs.enable = 0 → exec (.frameOutputDelivery u) s = .next (s.modCamUnit u (fun c => { c with closed := c.closed.drop 1 }))) ∧
    (f.outs.enable = 16 → exec (.frameOutputDelivery u) s = .next ((s.emit (.host (f.outs.recAddr + f.no % 2 ^ f.outs.recLog2 * 64)
      (f.record u false [] (2 ^ 64 - 1)))).modCamUnit u (fun c => { c with closed := c.closed.drop 1 }))))

/-- R237: whatever its coefficients, a pixel of three channels below 4,096 leaves the pipeline with 8-bit display values and 12-bit absorbances.
-/
def Obligations.PipelineValuesStayInRange : Prop :=
  ∀ (p : PipeCoef) (tap : Nat) (u : List Nat),
    (∀ x ∈ (pipePixel p tap u).1, x ≤ 255) ∧ (∀ x ∈ (pipePixel p tap u).2, x ≤ 4095) ∧
    (pipePixel p tap u).1.length = 3 ∧ (pipePixel p tap u).2.length = 3

/-- R8, R12, R249, R254, R262 to R264: a map is taken while STK is disabled and apart from the other units' columns; STK is enabled with the
table of its K values; a query answers a column; a column test goes to the queue with its set, and its column awaits it; a nozzle test that names
another device's nozzle is refused. R20, R248, R256, R260, R263: while STK works, the next step that has a place in a gap gets it and its gap's
pages, and otherwise none does; a test whose timeout expires with a step unplaced, and not placed in that tick (R20), completes its command with
NO_PAGE_GAP and keeps the placed steps. -/
def Obligations.StreakDetectionRuns : Prop :=
  (∀ (s : State) (r : Fin 4) (c : Cmd), s.atOnce r 0x0802 c → u8 c.packet 8 < 16 → u8 c.packet 9 = 0 → 0 < u16 c.packet 12 →
    u16 c.packet 12 ≤ 16384 → u16 c.packet 10 + u16 c.packet 12 ≤ 65536 → 16384 ≤ (i32 c.packet 20).natAbs → (i32 c.packet 20).natAbs ≤ 64 * 65536 →
    s.stk.enabled = false → s.stk.maps = {} →
    exec (.stkMap r) s = .next (((s.begun r c (.ok [])).modStk (fun k => { k with maps := k.maps.set none (u8 c.packet 8) (some { base := u16 c.packet 10, cols := u16 c.packet 12, col0 := i32 c.packet 16, cpp := i32 c.packet 20, camDist := u32 c.packet 24, rowOff := [u16 c.packet 28, u16 c.packet 30, u16 c.packet 32] }), mapNext := k.mapNext.set none (u8 c.packet 8) none })).complete
        c.id Status.ok [])) ∧
  (∀ (s : State) (r : Fin 4) (c : Cmd) (b : List Byte), s.atOnce r 0x0801 c → stkBad c.packet = false → bit (u8 c.packet 8) 0 = true →
    bit (u8 c.packet 8) 4 = false → s.stk.enabled = false → s.fir.cfg.scanning = false → s.unmapped = false → s.mapMisfit (u8 c.packet 24) = false →
    stkTableBad b = false → s.pageDram + s.stk.ringBytes (u8 c.packet 24) ≤ s.sys.memGib * 2 ^ 30 →
    ∃ t, exec (.stkConfig r (.ok b)) s = .next t ∧
      t = { s with hif := t.hif, stk := t.stk } ∧ t.stk.enabled = true ∧ t.stk.cfg = parseStk c.packet b ∧ t.stk.cols = {} ∧ t.stk.maps = s.stk.maps ∧
      t.stk.predFrom = ceil16 (s.fir.lastLine.getD 0 + 80)) ∧
  (∀ (s : State) (r : Fin 4) (c : Cmd), s.atOnce r 0x0804 c →
    exec (.stkQuery r) s = .next ((s.begun r c (.ok [])).complete c.id Status.ok ([min 255 (s.stkCol (u16 c.packet 16)).count,
      (s.stkCol (u16 c.packet 16)).state + 4 * (s.stkCol (u16 c.packet 16)).channel] ++ (List.range 3).flatMap (fun ch =>
        leInt 2 ((s.stkCol (u16 c.packet 16)).e.getD ch 0)) ++ leBytes 2 (s.stkCol (u16 c.packet 16)).test ++ [min 255 s.stk.queued, 0]
          ++ leBytes 4 s.stk.retest.length))) ∧
  (∀ (s : State) (r : Fin 4) (c : Cmd) (u : Nat) (m : StkMap), s.atOnce r 0x0803 c → ladderBad c.packet = false → u8 c.packet 8 = 1 →
    s.fir.cfg.scanning = false → s.stk.enabled = true → s.unitOfColumn (u16 c.packet 16) = some (u, u16 c.packet 16 - m.base) → s.stkMap u = some m →
    s.stk.tests = [] → s.testSet m (u16 c.packet 16 - m.base) (u8 c.packet 9) ((List.range 3).map (fun k => if k = u8 c.packet 9 then (1 : Int) else 0)) ≠ [] →
    ∃ t x, exec (.stkLadder r) s = .next t ∧
      t = { s with hif := t.hif, stk := t.stk } ∧ t.stk.tests = [x] ∧ x.id = s.stk.nextTest ∧ x.cause = 1 ∧ x.cmd = some c.id ∧
      x.channel = u8 c.packet 9 ∧ x.unit = u ∧ x.column = u16 c.packet 16 ∧ (∀ p ∈ x.steps, p.u = none ∧ p.verdict = none) ∧
      x.deadline = some (s.tick + u8 c.packet 12 * 200000000) ∧ x.ofColumn = true ∧
      t.stkCol (u16 c.packet 16) = (s.stkCol (u16 c.packet 16)).await x.id) ∧
  (∀ (s : State) (r : Fin 4) (c : Cmd) (k : Nat), s.atOnce r 0x0803 c → ladderBad c.packet = false → u8 c.packet 8 = 0 → k < u16 c.packet 18 →
    u32 c.packet (20 + 4 * k) / 2 ^ 21 ≠ s.gng.dev →
    exec (.stkLadder r) s = .next ((s.begun r c (.ok [])).complete c.id Status.badParam [])) ∧
  (∀ (s : State) (t : LTest) (p : Step) (a b u : Nat), s.stkActive = true → s.placeable = some (t, p, a, b, u) →
    exec .ladderStepPlace s = .next (s.placeStep t.id p (a, b, u))) ∧
  (∀ (s : State), s.stk.enabled = false ∨ s.fir.cfg.scanning = true ∨ s.fir.paced = false ∨ s.twn.role.acting = false →
    exec .ladderStepPlace s = .next s) ∧
  (∀ (s : State) (t : LTest) (p : Step) (id d : Nat), s.stk.tests = [t] → t.steps = [p] → p.u = none → p.verdict = none → t.cmd = some id →
    t.deadline = some d → d ≤ s.tick → s.arrives (· == .ladderStepPlace) = false →
    ∃ x, exec (.ladderTimeout t.id) s = .next x ∧
      x = { s with out := x.out, hif := x.hif, evt := x.evt, stk := x.stk } ∧ x.stk.tests = [] ∧ x.hif.inflight = s.hif.inflight.map (Cmd.completed id Status.noPageGap []))

/-- R257: the verdict of a step rises with what it reads: at PASS / 128 or more GOOD, from FAIL / 128 on WEAK, below that DEAD. -/
def Obligations.VerdictsFollowTheirLimits : Prop :=
  ∀ (c : StkCfg) (x : Rat), c.fail < c.pass →
    (verdictOf c x = 0 ↔ (c.pass : Rat) ≤ 128 * x) ∧ (verdictOf c x = 1 ↔ (c.fail : Rat) ≤ 128 * x ∧ 128 * x < c.pass) ∧
    (verdictOf c x = 2 ↔ 128 * x < c.fail)

/-- R267, R268, R277, R279 to R282: configuration and limits of an axis at rest wait for its planning tick, and a configuration with ENABLE takes
an axis out of FAULT; a sine table of axes 2 to 15 is staged; a profile is stored; a move and a stop wait for the planning tick and run on; a
query answers position, velocity and the status of the last planning tick. R269, R270, R283, R286: a planning tick that is due does the planning-
tick work of every block once; an active hard limit is seen by the next planning tick; a decided microstep resolution takes effect where the
output angle agrees; a PWM period starts when the last has ended, under the period that is ready. -/
def Obligations.AxesAreCommandedAndFollowTheirClock : Prop :=
  (∀ (s : State) (r : Fin 4) (c : Cmd), s.atOnce r 0x0901 c → u8 c.packet 8 < 16 → u8 c.packet 9 < 32 →
    (parseAxis c.packet).ok (u8 c.packet 8) = true → zeroRange c.packet 52 64 = true → (s.axis (u8 c.packet 8)).moves = false →
    exec (.motAxis r) s = .next (((s.begun r c (.ok [])).modAxis (u8 c.packet 8) (fun a => { a with cfgNext := some ⟨parseAxis c.packet, s.tick⟩, busLow := a.busLow && !(parseAxis c.packet).enable, state := if (parseAxis c.packet).enable ∧ a.state = .fault then .rest else a.state })).complete c.id Status.ok [])) ∧
  (∀ (s : State) (r : Fin 4) (c : Cmd) (b : List Byte), s.atOnce r 0x0902 c → 2 ≤ u8 c.packet 8 → u8 c.packet 8 < 16 → u64 c.packet 16 % 64 = 0 →
    zeroRange c.packet 9 16 = true → zeroRange c.packet 24 64 = true → crc32c (b.take 512) = u32 b 512 →
    exec (.motSine r (.ok b)) s = .next (((s.begun r c (.ok b)).modAxis (u8 c.packet 8) (fun a => { a with sineNext := some ⟨sineEntries b, s.tick⟩ })).complete c.id Status.ok [])) ∧
  (∀ (s : State) (r : Fin 4) (c : Cmd) (b : List Byte), s.atOnce r 0x0903 c → u8 c.packet 8 < 16 → u8 c.packet 9 < 8 → 0 < u8 c.packet 10 →
    u8 c.packet 10 ≤ 64 → u64 c.packet 16 % 16 = 0 → zeroRange c.packet 11 16 = true → zeroRange c.packet 24 64 = true →
    (s.axis (u8 c.packet 8)).usesProfile (u8 c.packet 9) = false → (∀ g ∈ parseSegs (u8 c.packet 10) b, g.dur ≠ 0 ∧ g.dur ≤ 2 ^ 24) →
    exec (.motProfile r (.ok b)) s = .next (((s.begun r c (.ok b)).modAxis (u8 c.packet 8) (fun a => { a with profiles := a.profiles.set [] (u8 c.packet 9) (parseSegs (u8 c.packet 10) b) })).complete c.id Status.ok [])) ∧
  (∀ (s : State) (r : Fin 4) (c : Cmd), s.atOnce r 0x0904 c → moveBad c.packet = false → u8 c.packet 9 = 0 →
    (s.axis (u8 c.packet 8)).cfgComing.enable = true → (s.axis (u8 c.packet 8)).limSet = true →
    (s.axis (u8 c.packet 8)).limComing.minPos ≤ i64 c.packet 16 → i64 c.packet 16 ≤ (s.axis (u8 c.packet 8)).limComing.maxPos →
    s.limitActive (u8 c.packet 8) false = false → s.limitActive (u8 c.packet 8) true = false → (s.axis (u8 c.packet 8)).state ≠ .fault →
    s.gongLow = false →
    exec (.motMove r) s = .next (((s.begun r c (.ok [])).modAxis (u8 c.packet 8) (fun a => { a with goalNext := a.goalNext ++ [⟨{ goal := .position (i64 c.packet 16), kind := 1, cmd := some c.id, set := none }, s.tick⟩] })).setPhase c.id .running)) ∧
  (∀ (s : State) (r : Fin 4) (c : Cmd), s.atOnce r 0x0905 c → u8 c.packet 8 < 16 → u8 c.packet 9 < 4 → (parseLimits c.packet).ok = true →
    zeroRange c.packet 48 64 = true → (s.axis (u8 c.packet 8)).goal = .none → (s.axis (u8 c.packet 8)).goalNext = [] → i64 c.packet 32 ≤ (s.axis (u8 c.packet 8)).p →
    (s.axis (u8 c.packet 8)).p ≤ i64 c.packet 40 →
    exec (.motLimits r) s = .next (((s.begun r c (.ok [])).modAxis (u8 c.packet 8) (fun a => { a with limNext := some ⟨parseLimits c.packet, s.tick⟩, limSet := true })).complete c.id Status.ok [])) ∧
  (∀ (s : State) (r : Fin 4) (c : Cmd), s.atOnce r 0x0906 c → u8 c.packet 8 < 16 → u8 c.packet 9 ≤ 2 → zeroRange c.packet 10 64 = true →
    exec (.motStop r) s = .next (((s.begun r c (.ok [])).modAxis (u8 c.packet 8) (fun a => { a with goalNext := a.goalNext ++ [⟨{ goal := .stop (u8 c.packet 9 == 1) (u8 c.packet 9 == 2), kind := 0, cmd := none }, s.tick⟩], stopCmds := a.stopCmds ++ [c.id] })).setPhase
        c.id .running)) ∧
  (∀ (s : State) (r : Fin 4) (c : Cmd), s.atOnce r 0x0907 c → u8 c.packet 8 < 16 → zeroRange c.packet 9 64 = true →
    exec (.motQuery r) s = .next ((s.begun r c (.ok [])).complete c.id Status.ok (leInt 8 (s.axis (u8 c.packet 8)).p
      ++ leInt 4 (s.axis (u8 c.packet 8)).v ++ leBytes 4 (s.axis (u8 c.packet 8)).shown))) ∧
  (∀ (s : State), s.running = true → s.pairTick % 4000 = 0 → s.mot.lastPlan ≠ some s.tick →
    exec .planningTick s = .next (((((((s.planTime s.tick).publishDue.planFir.planMotion s.tick).planFeedback s.tick).planAdc s.tick).planLed s.tick).planTimeWork s.tick).planRim
      s.tick)) ∧
  (∀ (s : State), s.mot.lastPlan = some s.tick → exec .planningTick s = .next s) ∧
  (∀ (s : State) (x : Fin 16) (pos : Bool), s.limitActive x pos = true →
    exec (.limitSwitch x pos) s = .next (s.modAxis x (fun a => { a with limPosSeen := a.limPosSeen || pos, limNegSeen := a.limNegSeen || !pos }))) ∧
  (∀ (s : State) (x : Fin 16) (m : Nat), (s.axis x).resNext = some m → (s.axis x).planTick < s.tick →
    (s.axis x).angleAt x m s.tick = (s.axis x).angleAt x (s.axis x).res s.tick →
    exec (.microstepResolutionChange x) s = .next (s.setAxis x { s.axis x with res := m, resNext := none })) ∧
  (∀ (s : State), s.mot.pwmAt = none → s.sys.held = false → (∀ x < 16, (s.axis x).energised = false) →
    ∃ t, exec .pwmPeriodStart s = .next t ∧
      t = { s with mot := t.mot } ∧ t.mot.pwmAt = some s.tick ∧ t.mot.period = s.mot.periodReady.getD s.mot.period ∧
      t.mot.periodReady = none ∧ (∀ x < 16, (t.axis x).p = (s.axis x).p ∧ (t.axis x).dutyA = 0))

/-- R271, R275, R280: whatever the free jerk of a planning tick within which the trajectory changes its jerk (log entry 71), the plan towards a
position, a velocity or a controlled stop keeps within ±JERK on an axis that may run both ways, and keeps an acceleration that is within ACCEL
and DECEL there; on a no-reverse axis that does not move backwards, no plan has a speed of the barred sign anywhere in its planning tick (at each
part n / m of it; the axis may rest at once instead, the model's choice, log entry 155). -/
def Obligations.JerkStaysWithinItsLimit : Prop :=
  ∀ (a : Axis) (x vlim : Int) (b : Axis), (b = a.planPosition x vlim ∨ b = a.planVelocity x vlim ∨ b = a.planStop false) →
    (a.cfg.barred = 0 → -(a.lim.jerk : Int) ≤ b.j ∧ b.j ≤ a.lim.jerk) ∧
    (a.cfg.barred = 0 → a.accMin ≤ 256 * a.a → 256 * a.a ≤ a.accMax → a.accMin ≤ 256 * a.a + b.j ∧ 256 * a.a + b.j ≤ a.accMax) ∧
    (a.cfg.barred * a.v ≤ 0 → ∀ n m : Nat, n ≤ m → a.cfg.barred * (2 * 65536 * b.v * m * m + 2 * 256 * b.a * n * m + b.j * n * n) ≤ 0)

/-- R303, R305, R307 to R311: ENC_CONFIG waits for the planning tick and marks the channel configured; ENC_SET sets count, EH and POS_VALID at
once; a probe is armed and waits; a compare list is loaded, and its output idles at the list's level from the next tick; a query answers what the
last planning tick held. -/
def Obligations.FeedbackIsConfigured : Prop :=
  (∀ (s : State) (r : Fin 4) (c : Cmd), s.atOnce r 0x0A01 c → encBad c.packet = false → u8 c.packet 9 = 0 → bit (u8 c.packet 11) 4 = false →
    s.chanInUse (u8 c.packet 8) = false →
    exec (.encConfig r) s = .next (((s.begun r c (.ok [])).modChan (u8 c.packet 8) (fun x => { x with cfgNext := some ⟨parseEnc c.packet, s.tick⟩, configured := true })).complete c.id Status.ok [])) ∧
  (∀ (s : State) (r : Fin 4) (c : Cmd), s.atOnce r 0x0A02 c → u8 c.packet 8 < 8 → u8 c.packet 9 = 0 → zeroRange c.packet 10 16 = true →
    zeroRange c.packet 24 64 = true → (s.chan (u8 c.packet 8)).cfg.wrap = false → (s.chan (u8 c.packet 8)).cfg.cntMin ≤ i64 c.packet 16 →
    i64 c.packet 16 ≤ (s.chan (u8 c.packet 8)).cfg.cntMax →
    ∃ t, exec (.encSet r) s = .next t ∧
      t = { s with hif := t.hif, enc := t.enc } ∧ (t.chan (u8 c.packet 8)).count = i64 c.packet 16 ∧ (t.chan (u8 c.packet 8)).eh = i64 c.packet 16 ∧
      (t.chan (u8 c.packet 8)).posValid = true ∧ (t.chan (u8 c.packet 8)).iRef = none ∧ (t.chan (u8 c.packet 8)).sat = false ∧
      (t.chan (u8 c.packet 8)).cfg = (s.chan (u8 c.packet 8)).cfg ∧ (∀ k : Fin 8, k.val ≠ u8 c.packet 8 → t.chan k = s.chan k)) ∧
  (∀ (s : State) (r : Fin 4) (c : Cmd), s.atOnce r 0x0A03 c → u8 c.packet 8 < 4 → u8 c.packet 9 < 8 → u8 c.packet 10 ≤ 2 → u8 c.packet 11 = 0 →
    0 < u32 c.packet 12 → u32 c.packet 12 ≤ 65535 → zeroRange c.packet 16 64 = true → (s.probe (u8 c.packet 8)).armed = false →
    exec (.encProbe r) s = .next (((s.begun r c (.ok [])).modProbe (u8 c.packet 8) (fun q => { q with armed := true, chan := u8 c.packet 9, edge := u8 c.packet 10, cmd := c.id, deadline := some (s.tick + u32 c.packet 12 * 200000) })).setPhase c.id .running)) ∧
  (∀ (s : State) (r : Fin 4) (c : Cmd) (b : List Byte) (es : List (Int × Nat)), s.atOnce r 0x0A04 c → u8 c.packet 8 < 8 → u8 c.packet 9 < 8 →
    u8 c.packet 10 < 4 → u8 c.packet 11 = 0 → u16 c.packet 12 ≠ 0 → zeroRange c.packet 24 64 = true → 0 < u16 c.packet 14 → u16 c.packet 14 ≤ 256 →
    u64 c.packet 16 % 8 = 0 → (s.chan (u8 c.packet 9)).posValid = true → parseCompare (u16 c.packet 14) b = some es →
    (s.cmpr (u8 c.packet 8)).listNext = none →
    exec (.encCompare r (.ok b)) s = .next ((((s.begun r c (.ok b)).modCmpr (u8 c.packet 8) (fun o => { o with listNext := some ⟨{ chan := u8 c.packet 9, entries := es, cycle := bit (u8 c.packet 10) 0, activeLow := bit (u8 c.packet 10) 1, width := u16 c.packet 12 }, s.tick⟩ })).emit (.idle (u8 c.packet 8) (s.tick + 1) (bit (u8 c.packet 10) 1))).complete c.id Status.ok [])) ∧
  (∀ (s : State) (r : Fin 4) (c : Cmd), s.atOnce r 0x0A05 c → u8 c.packet 8 < 8 → zeroRange c.packet 9 64 = true →
    exec (.encQuery r) s = .next ((s.begun r c (.ok [])).complete c.id Status.ok (leInt 8 (s.chan (u8 c.packet 8)).planCount
      ++ leInt 4 (s.chan (u8 c.packet 8)).v ++ leBytes 4 (s.chan (u8 c.packet 8)).planStatus)))

/-- R290 to R292, R294, R295, R300, R301: once as many samples as FILT_N asks for agree, a forward step of an incremental channel counts up by
one, EH with it; a step backward counts down and leaves EH inside the hysteresis; a change of both lines is a transition error and moves nothing;
the first good frame of an SSI channel, taken once its last bit has been sampled, gives the absolute count, and a frame that has not begun gives
nothing. Stated for a channel without WRAP, INVERT or correction, away from its limits. R20, R290, R293, R297, R303, R305, R306, R309: an
AUTO_CLEAR channel leaves its fault after 4,096 good edges; the first index edge gives I_REF; an armed probe latches, at the second agreeing
sample, the count and the time of the tick before and completes its command, or times out with PROBE_MISSED when its edge does not come in that
tick either; a compare pulse ends; a switch input takes its level after the two samples of its filter and DEBOUNCE further ticks. -/
def Obligations.ChannelsCountAndEventsArrive : Prop :=
  (∀ (s : State) (k : Fin 8) (b : List (Fin 4)), (s.chan k).cfg.ssi = false → s.sys.held = false → (s.chan k).lines = 0 →
    (s.chan k).cfg.invert = false → (s.chan k).cfg.wrap = false →
    (s.chan k).corr = none → (s.chan k).setAt = none → (s.chan k).reverse = false → (s.chan k).count = (s.chan k).eh →
    (s.chan k).cfg.cntMin ≤ (s.chan k).count - 1 → (s.chan k).count + 1 ≤ (s.chan k).cfg.cntMax → 2 ≤ (s.chan k).cfg.hyst →
    (filterPair (s.chan k).cfg.filtN 0 b = 1 → ∃ t, exec (.encoderEdge k b) s = .next t ∧
      t = { s with enc := t.enc } ∧ (t.chan k).count = (s.chan k).count + 1 ∧ (t.chan k).eh = (s.chan k).count + 1 ∧ (t.chan k).lines = 1 ∧
      (t.chan k).edges = (s.chan k).edges + 1 ∧ (t.chan k).reverse = false ∧ (∀ l : Fin 8, l ≠ k → t.chan l = s.chan l)) ∧
    (filterPair (s.chan k).cfg.filtN 0 b = 2 → ∃ t, exec (.encoderEdge k b) s = .next t ∧
      t = { s with enc := t.enc } ∧ (t.chan k).count = (s.chan k).count - 1 ∧ (t.chan k).eh = (s.chan k).count ∧ (t.chan k).lines = 2 ∧
      (t.chan k).reverse = false ∧ (∀ l : Fin 8, l ≠ k → t.chan l = s.chan l))) ∧
  (∀ (s : State) (k : Fin 8) (b : List (Fin 4)), (s.chan k).cfg.ssi = false → s.sys.held = false → (s.chan k).lines = 0 →
    (s.chan k).fault = false → (s.chan k).errAt = [] → filterPair (s.chan k).cfg.filtN 0 b = 3 →
    ∃ t, exec (.encoderEdge k b) s = .next t ∧
      t = { s with out := t.out, hif := t.hif, evt := t.evt, enc := t.enc } ∧ (t.chan k).count = (s.chan k).count ∧ (t.chan k).eh = (s.chan k).eh ∧ (t.chan k).lines = 3 ∧
      (t.chan k).trans = min (2 ^ 16 - 1) ((s.chan k).trans + 1) ∧ (t.chan k).fault = false ∧
      (∀ q : Fin 8, q ≠ k → t.chan q = s.chan q)) ∧
  (∀ (s : State) (k : Fin 8) (b : List (Fin 4)), (s.chan k).cfg.ssi = true ∨ s.sys.held = true →
    exec (.encoderEdge k b) s = .next (s.setChan k { s.chan k with lines := filterPair (s.chan k).cfg.filtN (s.chan k).lines b })) ∧
  (∀ (s : State) (k : Fin 8) (data : Nat) (p e l : Bool), (s.chan k).ssiFrame = none → exec (.ssiFrameDone k data p e l) s = .next s) ∧
  (∀ (s : State) (k : Fin 8) (data start : Nat), (s.chan k).ssiFrame = some start → (s.chan k).cfg.ssiSampledBy start s.tick = true →
    (s.chan k).setAt = none → (s.chan k).reverse = false → (s.chan k).eh ≤ data → (s.chan k).cfg.ssiFmt = 0 → (s.chan k).cfg.wrap = false →
    (s.chan k).ssiLast = none → data < 2 ^ (s.chan k).cfg.ssiBits →
    ∃ t, exec (.ssiFrameDone k data false false false) s = .next t ∧
      t = { s with enc := t.enc } ∧ (t.chan k).count = data ∧ (t.chan k).eh = data ∧ (t.chan k).posValid = true ∧
      (t.chan k).ssiLast = some data ∧ (∀ l : Fin 8, l ≠ k → t.chan l = s.chan l)) ∧
  (∀ (s : State) (k : Fin 8), (s.chan k).fault = true → (s.chan k).cfg.autoClear = true → 4096 ≤ (s.chan k).clean →
    exec (.encoderFaultAutoClear k) s = .next (s.setChan k { s.chan k with fault := false, errAt := [], clean := 0 })) ∧
  (∀ (s : State) (k : Fin 8) (b : List Bool), (s.chan k).cfg.indexEn = true → s.sys.held = false → (s.chan k).setArmed = none →
    (s.chan k).cfg.linesRev ≠ 0 → (s.chan k).iRef = none →
    (s.chan k).isIndex (filterLine (s.chan k).cfg.filtN (s.chan k).z b) = true →
    ∃ t, exec (.indexPulse k b) s = .next t ∧
      t = { s with enc := t.enc } ∧ (t.chan k).z = (!(s.chan k).z) ∧ (t.chan k).iRef = some (s.chan k).count ∧ (t.chan k).indexes = wrapAdd 16 (s.chan k).indexes 1 ∧
      (t.chan k).count = (s.chan k).count ∧
      (∀ q : Fin 8, q ≠ k → t.chan q = s.chan q)) ∧
  (∀ (s : State) (p : Fin 4) (b : List Bool), (s.probe p).armed = true → (s.probe p).level = false → (s.probe p).edge = 0 → (s.chan (s.probe p).chan).changedAt = none →
    s.twn.role = .alone →
    exec (.probeLatch p (true :: true :: b)) s = .next ((s.setProbe p { s.probe p with level := true, armed := false, deadline := none }).complete (s.probe p).cmd
      Status.ok (leInt 6 (s.chan (s.probe p).chan).count ++ [b2n (s.chan (s.probe p).chan).posValid + 2, 0] ++ leBytes 8 s.tim.past))) ∧
  (∀ (s : State) (p : Fin 4) (d : Nat), (s.probe p).armed = true → (s.probe p).deadline = some d → d ≤ s.tick → s.probeArrives p = false →
    exec (.probeTimeout p) s = .next ((s.setProbe p { s.probe p with armed := false, deadline := none }).complete (s.probe p).cmd
      Status.probeMissed [])) ∧
  (∀ (s : State) (o : Fin 8) (a b : Nat), (s.cmpr o).pulse = some (a, b) → b ≤ s.tick →
    exec (.comparePulseEnd o) s = .next (s.modCmpr o (fun c => { c with pulse := none }))) ∧
  (∀ (s : State) (w : Fin 16) (b : List Bool),
    exec (.switchChange w b) s = .next (s.modSwitchIn w (fun x => { x with level := debounceLine 2 (s.switchCtl w).1 x.level b }))) ∧
  (∀ (s : State) (w : Fin 16) (l : Bool) (b : List Bool), (s.switchIn w).level = !l → (∀ x ∈ b, x = l) →
    (b.length < 2 + (s.switchCtl w).1 → exec (.switchChange w b) s = .next (s.modSwitchIn w (fun x => { x with level := !l }))) ∧
    (2 + (s.switchCtl w).1 ≤ b.length → exec (.switchChange w b) s = .next (s.modSwitchIn w (fun x => { x with level := l }))))

/-- R326, R330 to R334: changes of a loop's configuration, sections, mode and setpoint, and of an ADC, wait in commit order for their boundary; a
query answers Y, working setpoint, U and status. R27, R313 to R321, R384: an ADC result at its offset of the planning tick gives the input its
slot sampled its value and validity; at an evaluation instant a loop with a measurement takes it, and one with none keeps its output and is
marked; 800 ticks later its output is published; a control cycle boundary is done once, after the planning tick and the evaluations of its tick
(a device without a shadow). -/
def Obligations.LoopsChangeAndRun : Prop :=
  (∀ (s : State) (r : Fin 4) (c : Cmd), s.atOnce r 0x0B01 c → u8 c.packet 8 < 48 → u8 c.packet 9 < 16 → (parseLoop c.packet).ok = true →
    s.loadWith (u8 c.packet 8) (parseLoop c.packet) (s.loop (u8 c.packet 8)).secsComing.length ≤ 1024 →
    s.targetTaken (u8 c.packet 8) (parseLoop c.packet) = false → (s.loop (u8 c.packet 8)).cfgComing.enable = false →
    (s.loop (u8 c.packet 8)).secsComing ≠ [] →
    exec (.cleLoop r) s = .next (((s.begun r c (.ok [])).modLoop (u8 c.packet 8) (fun l => { l with changes := l.changes ++ [⟨.config (parseLoop c.packet), s.tick⟩] })).complete c.id Status.ok [])) ∧
  (∀ (s : State) (r : Fin 4) (c : Cmd) (b : List Byte) (ts : List Section), s.atOnce r 0x0B02 c → u8 c.packet 8 < 48 → 0 < u8 c.packet 9 →
    u8 c.packet 9 ≤ 8 → u8 c.packet 10 < 2 → u64 c.packet 16 % 8 = 0 →
    s.loadWith (u8 c.packet 8) (s.loop (u8 c.packet 8)).cfgComing (u8 c.packet 9) ≤ 1024 → parseSections (u8 c.packet 9) b = some ts →
    exec (.cleSections r (.ok b)) s = .next (((s.begun r c (.ok b)).modLoop (u8 c.packet 8) (fun l => { l with changes := l.changes ++ [⟨.sections ts (u8 c.packet 10 == 1), s.tick⟩] })).complete c.id Status.ok [])) ∧
  (∀ (s : State) (r : Fin 4) (c : Cmd), s.atOnce r 0x0B03 c → u8 c.packet 8 < 48 → u8 c.packet 9 < 2 →
    exec (.cleMode r) s = .next (((s.begun r c (.ok [])).modLoop (u8 c.packet 8) (fun l => { l with changes := l.changes ++ [⟨.mode (u8 c.packet 9 == 1) (i32 c.packet 12), s.tick⟩] })).complete c.id Status.ok [])) ∧
  (∀ (s : State) (r : Fin 4) (c : Cmd), s.atOnce r 0x0B04 c → u8 c.packet 8 < 48 → u8 c.packet 9 < 2 →
    (∀ k < 48, (s.loop k).cfgComing.target ≠ (4, u8 c.packet 8, 0)) →
    exec (.cleSetpoint r) s = .next (((s.begun r c (.ok [])).modLoop (u8 c.packet 8) (fun l => { l with changes := l.changes ++ [⟨.setpoint (i32 c.packet 12) (u8 c.packet 9 == 1), s.tick⟩] })).complete c.id Status.ok [])) ∧
  (∀ (s : State) (r : Fin 4) (c : Cmd), s.atOnce r 0x0B05 c → u8 c.packet 8 < 48 →
    exec (.cleQuery r) s = .next ((s.begun r c (.ok [])).complete c.id Status.ok (leInt 4 (s.loop (u8 c.packet 8)).y
      ++ leInt 4 (s.loop (u8 c.packet 8)).rw ++ leInt 4 (s.loop (u8 c.packet 8)).u ++ leBytes 4 (s.loop (u8 c.packet 8)).status))) ∧
  (∀ (s : State) (r : Fin 4) (c : Cmd), s.atOnce r 0x0B10 c → u8 c.packet 8 = 1 → u8 c.packet 9 < 32 → u8 c.packet 10 ≤ 4 → u8 c.packet 11 = 0 →
    zeroRange c.packet 14 16 = true → zeroRange c.packet 24 64 = true → u16 c.packet 20 ≤ u16 c.packet 22 →
    exec (.adcConfig r (.ok [])) s = .next (((s.begun r c (.ok [])).modCle (fun m => { m with adcNext := m.adcNext ++ [⟨.input (u8 c.packet 9) (u8 c.packet 10) (u16 c.packet 12) (i32 c.packet 16) (u16 c.packet 20) (u16 c.packet 22), s.tick⟩] })).complete c.id Status.ok [])) ∧
  (∀ (s : State) (a : Fin 2) (slot : Fin 40) (code : Fin 65536) (n : Nat), s.sampledInput a slot = n → n < 32 →
    s.pairTick % 4000 = 100 * (slot.val + 1) % 4000 → (s.adcIn n).lin = 0 → s.cle.loops = {} →
    ∃ t, exec (.adcResult a slot code) s = .next t ∧
      t = { s with cle := t.cle } ∧ (t.adcIn n).value = (((code.val : Int) - (s.adcIn n).offset) * (s.adcIn n).gain).fdiv 65536 ∧
      (t.adcIn n).code = code.val ∧ (t.adcIn n).valid = (decide ((s.adcIn n).lo ≤ code.val) && decide (code.val ≤ (s.adcIn n).hi)) ∧
      (∀ k, k ≠ n → t.adcIn k = s.adcIn k)) ∧
  (∀ (s : State) (l : Fin 48), s.running = true → (s.loop l).changes = [] → (s.loop l).cfg.enable = true → (s.loop l).cfg.rate = 0 →
    (s.loop l).cfg.phase = 0 → (s.loop l).cfg.permit = false → (s.loop l).cfg.srcKind = 0 → (s.loop l).cfg.outKind = 0 →
    (s.loop l).window = [] → s.pairTick % 4000 = 0 → (s.loop l).evalAt ≠ some s.pairTick → s.twn.role = .alone → (s.loop l).clamped = false →
    s.publishDue = s →
    ∃ t, exec (.loopEvaluation l) s = .next t ∧
      t = { s with cle := t.cle, copyOwn := t.copyOwn } ∧ (t.loop l).u = (s.loop l).u ∧ (t.loop l).bad = true ∧ (t.loop l).evalAt = some s.pairTick ∧
      (t.loop l).pubs = (s.loop l).pubs ++ [(s.tick, (s.loop l).u, (s.loop l).tempOk)] ∧
      (∀ q : Fin 48, q ≠ l → t.loop q = s.loop q)) ∧
  (∀ (s : State) (l : Fin 48) (y : Int), s.running = true → (s.loop l).changes = [] → (s.loop l).cfg.enable = true →
    (s.loop l).cfg.instant s.pairTick = some s.pairTick → (s.loop l).cfg.permit = false → (s.loop l).evalAt ≠ some s.pairTick →
    s.twn.role ≠ .shadow → s.publishDue = s → s.lampReady (s.loop l).cfg s.tick = true → s.ownMeasure (s.loop l) s.tick = some y →
    ∃ t, exec (.loopEvaluation l) s = .next t ∧
      t = { s with out := t.out, hif := t.hif, evt := t.evt, cle := t.cle, copyOwn := t.copyOwn } ∧ (t.loop l).y = y ∧ (t.loop l).bad = false ∧ (t.loop l).evalAt = some s.pairTick ∧
      (t.loop l).u = (({ s.loop l with r := (s.loop l).rOut.getD (s.loop l).r } : Loop).evaluate y).u ∧
      (t.loop l).pubs = (s.loop l).pubs ++ [(s.tick, (t.loop l).u, (s.loop l).tempOk)] ∧
      (∀ q : Fin 48, q ≠ l → t.loop q = s.loop q)) ∧
  (∀ (s : State) (l : Fin 48) (at_ : Nat) (u : Int) (ok : Bool) (rest : List (Nat × Int × Bool)), (s.loop l).pubs = (at_, u, ok) :: rest →
    at_ + 800 ≤ s.tick → (s.loop l).cfg.outKind = 3 → (s.loop l).cfg.permit = false → (s.loop l).cfg.enable = true → s.cle.permit = true →
    (∀ e ∈ s.cle.loops.entries, e.2.cfg.permit = false) →
    ∃ t, exec (.loopPublish l) s = .next t ∧
      t = { s with cle := t.cle, gpio := t.gpio } ∧ (t.loop l).uPub = u ∧ (t.loop l).pubs = rest ∧
      (t.pin (s.loop l).cfg.outIndex).dutyLoop = some (max 0 (min 65535 u)).toNat ∧
      (∀ q : Fin 48, q ≠ l → t.loop q = s.loop q)) ∧
  (∀ (s u : State), s.running = true → s.pairTick % 20000 = 0 → s.twn.lastCycle ≠ some s.pairTick →
    u = (List.range 48).foldl State.evaluateLoopDue (if s.planDue then s.planBlocks s.tick else s) →
    (u.twn.role = .alone ∨ u.twn.role = .lead ∧ u.hasShadow = false) →
    exec .controlCycleEnd s = .next ((u.modTwn (fun t => { t with lastCycle := some u.pairTick })).modSub (fun x => { x with verdicts := [] }))) ∧
  (∀ (s : State), s.running = false ∨ s.pairTick % 20000 ≠ 0 ∨ s.twn.lastCycle = some s.pairTick → exec .controlCycleEnd s = .next s)

/-- R321: whatever the section, its states and its output stay within the loop's number format, and the loop's output within OUT_MIN and OUT_MAX
when SLEW is 0. -/
def Obligations.LoopArithmeticSaturates : Prop :=
  (∀ (t : Section) (x : Int), (-(2 ^ 39 - 1) ≤ (t.run x).2 ∧ (t.run x).2 ≤ 2 ^ 39 - 1) ∧
    (-(2 ^ 39 - 1) ≤ (t.run x).1.s1 ∧ (t.run x).1.s1 ≤ 2 ^ 39 - 1) ∧ (-(2 ^ 39 - 1) ≤ (t.run x).1.s2 ∧ (t.run x).1.s2 ≤ 2 ^ 39 - 1)) ∧
  (∀ (c : LoopCfg) (prev u : Int), c.slew = 0 → c.outMin ≤ c.outMax → c.outMin ≤ c.limit prev u ∧ c.limit prev u ≤ c.outMax)

/-- R338, R340, R346 to R349: chain and matrix configurations that fit their frame time, levels given in the packet, and a colour sensor's
configuration wait for their frame start, scan start or planning tick. R337, R339, R340, R345, R431: not before its time has passed, a frame's
latch ends it, counts it and keeps it for the return check, and a first frame is not checked; a matrix slot sends the next line's levels and
counts itself; a colour reading that runs on a master frees it and is kept in its byte order (the sensor is busy while another waits), a NACK
leaves the last one, and a reading of a configuration that is no longer in force is dropped. -/
def Obligations.LightIsConfiguredAndRuns : Prop :=
  (∀ (s : State) (r : Fin 4) (c : Cmd), s.atOnce r 0x0C01 c → chainBad c.packet = false →
    chainFits (parseChain c.packet) (s.chain (u8 c.packet 8)).mtxComing = true → s.namedBeyond (u8 c.packet 8)
      ((parseChain c.packet).ndrv * 16 * max 1 (s.chain (u8 c.packet 8)).mtxComing.lines) = false →
    exec (.ledChain r) s = .next (((s.begun r c (.ok [])).modChain (u8 c.packet 8) (fun x => { x with cfgNext := some ⟨parseChain c.packet, s.tick⟩ })).complete c.id Status.ok [])) ∧
  (∀ (s : State) (r : Fin 4) (c : Cmd), s.atOnce r 0x0C02 c → u8 c.packet 8 < 8 → u8 c.packet 9 = 0 → u8 c.packet 10 ≤ 26 → u8 c.packet 11 ≤ 31 →
    u8 c.packet 12 < 2 → u8 c.packet 13 = 0 → (u8 c.packet 11 < u8 c.packet 10 ∨ u8 c.packet 10 + 5 ≤ u8 c.packet 11) → s.zoneNames (u8 c.packet 8) = false →
    exec (.ledMatrix r) s = .next (((s.begun r c (.ok [])).modChain (u8 c.packet 8) (fun x => { x with mtxNext := some ⟨parseMatrix c.packet, s.tick⟩ })).complete c.id Status.ok [])) ∧
  (∀ (s : State) (r : Fin 4) (c : Cmd), s.atOnce r 0x0C03 c → u8 c.packet 8 < 8 → 0 < u16 c.packet 12 → u16 c.packet 12 ≤ 16 → u64 c.packet 16 = 0 →
    zeroRange c.packet (24 + 2 * u16 c.packet 12) 56 = true → (s.chain (u8 c.packet 8)).state ≠ .fault →
    u16 c.packet 10 + u16 c.packet 12 ≤ (s.chain (u8 c.packet 8)).channels → s.loopDrives (u8 c.packet 8) (u16 c.packet 10) (u16 c.packet 12) = false →
    exec (.ledLevels r (.ok [])) s = .next (((s.begun r c (.ok [])).modChain (u8 c.packet 8) (fun x => { x with levelsNext := x.levelsNext ++ [⟨(List.range (u16 c.packet 12)).map (fun i => (u16 c.packet 10 + i, u16 c.packet (24 + 2 * i))), s.tick⟩] })).complete c.id Status.ok [])) ∧
  (∀ (s : State) (r : Fin 4) (c : Cmd), s.atOnce r 0x0C04 c → u8 c.packet 8 = 1 → u8 c.packet 9 < 8 → u8 c.packet 10 ≤ 1 → u8 c.packet 11 < 128 →
    u8 c.packet 13 < 2 → 0 < u16 c.packet 14 → u16 c.packet 14 ≤ 4096 → zeroRange c.packet 16 64 = true →
    exec (.ledZones r) s = .next (((s.begun r c (.ok [])).modColour (u8 c.packet 9) (fun x => { x with next := some ⟨[u8 c.packet 10, u8 c.packet 11, u8 c.packet 12, u8 c.packet 13, u16 c.packet 14], s.tick⟩ })).complete c.id Status.ok [])) ∧
  (∀ (s : State) (k : Fin 8) (out ret : List Nat), (s.chain k).sending = some out → (s.chain k).sendEnd ≤ s.tick → (s.chain k).prev = none → (s.chain k).mtx.lines = 0 →
    s.chainZones k = [] →
    exec (.ledFrameDone k ret) s = .next (s.setChain k { s.chain k with sending := none, prev := some out, frames := wrapAdd 32 (s.chain k).frames 1 })) ∧
  (∀ (s : State) (k : Fin 8) (ret : List Nat), (s.chain k).sending = none ∨ s.tick < (s.chain k).sendEnd → exec (.ledFrameDone k ret) s = .next s) ∧
  (∀ (s : State) (k : Fin 8), (s.chain k).mtx.lines = 2 → (s.chain k).state = .matrix → (s.chain k).slot = 0 → s.tick = (s.chain k).scanAt →
    (s.chain k).scan ≠ [] →
    ∃ t, exec (.matrixSlotStart k) s = .next t ∧
      t = { s with led := t.led, gpio := t.gpio } ∧ (t.chain k).slot = 1 ∧ (t.chain k).slotAt = some s.tick ∧
      (t.chain k).frames = wrapAdd 32 (s.chain k).frames 1 ∧
      (t.chain k).sending = some ((s.chain k).scan.getD 1 (List.replicate ((s.chain k).cfg.ndrv * 16) 0)) ∧
      (t.chain k).sendEnd = s.tick + ((s.chain k).mtx.blank + (s.chain k).cfg.ndrv * 256 * (s.chain k).cfg.clkDiv) ∧
      (∀ q : Fin 8, q ≠ k → t.chain q = s.chain q)) ∧
  (∀ (s : State) (k : Fin 8) (b : List Byte) (m : Nat), s.readingOn k = some (m, false) → (s.colour k).bigEndian = false →
    exec (.colourSensorReadDone k b false) s = .next ((s.endI2c m).setColour k { s.colour k with busy := ((s.endI2c m).i2cM m).waitsFor k, nacked := false, comps := [u16 b 0, u16 b 2, u16 b 4, u16 b 6], lastDone := some (s.pairTick / 4000) })) ∧
  (∀ (s : State) (k : Fin 8) (b : List Byte) (n : Bool), (s.readingOn k = none → exec (.colourSensorReadDone k b n) s = .next s) ∧
    (∀ m, s.readingOn k = some (m, true) → exec (.colourSensorReadDone k b n) s = .next (s.endI2c m))) ∧
  (∀ (s : State) (k : Fin 8) (b : List Byte) (m : Nat), s.readingOn k = some (m, false) →
    exec (.colourSensorReadDone k b true) s = .next ((s.endI2c m).setColour k { s.colour k with busy := ((s.endI2c m).i2cM m).waitsFor k, nacked := true, nacks := min (2 ^ 16 - 1) ((s.colour k).nacks + 1) }))

/-- R361, R364 to R368: port and domain parameters and an adjustment of a MANUAL instance wait for the planning tick; selecting the primary that
already runs completes at once, selecting another waits for its switch; a query answers time, offset and states. R20, R355 to R360, R363, R368: a
frame that is no message of an enabled instance is discarded and counted; a one-step Sync of the followed master feeds the servo with its offset,
a two-step one waits for its Follow_Up; a Delay_Resp to the port's own request gives the path delay; an event message leaves with its stamp and
is counted, a one-step one at its planned boundary, or, when it misses that, not at all and is counted as late; a followed master that has sent
no Sync for three intervals, nor in this tick, is lost; a link that comes up is counted as up; a switch whose residue is 0 ends. The layouts of
frames are presumed (log entry 158). -/
def Obligations.TimeIsConfiguredAndPtpRuns : Prop :=
  (∀ (s : State) (r : Fin 4) (c : Cmd), s.atOnce r 0x0D01 c → u8 c.packet 8 ≤ 1 → u8 c.packet 9 ≤ 2 → u8 c.packet 10 < 8 →
    -7 ≤ i8 c.packet 11 → i8 c.packet 11 ≤ 5 →
    exec (.timPort r) s = .next (((s.begun r c (.ok [])).modPtpPort (u8 c.packet 8) (fun x => { x with cfgNext := some ⟨parsePort c.packet, s.tick⟩ })).complete c.id Status.ok [])) ∧
  (∀ (s : State) (r : Fin 4) (c : Cmd), s.atOnce r 0x0D02 c → u8 c.packet 8 ≤ 1 → (parseDomain c.packet).ok = true →
    ((parseDomain c.packet).mode = 2 → (s.inst (1 - u8 c.packet 8)).cfgComing.mode = 2 → (parseDomain c.packet).domain ≠ (s.inst (1 - u8 c.packet 8)).cfgComing.domain) →
    exec (.timDomain r) s = .next (((s.begun r c (.ok [])).modInst (u8 c.packet 8) (fun i => { i with cfgNext := some ⟨parseDomain c.packet, s.tick⟩ })).complete c.id Status.ok [])) ∧
  (∀ (s : State) (r : Fin 4) (c : Cmd), s.atOnce r 0x0D03 c → u8 c.packet 8 ≤ 1 → u8 c.packet 9 = 0 → (s.inst (u8 c.packet 8)).state = .manual →
    1 ≤ u32 c.packet 28 → u32 c.packet 28 ≤ 500000 → -549755813 ≤ i32 c.packet 24 → i32 c.packet 24 ≤ 549755813 →
    exec (.timAdjust r) s = .next (((s.begun r c (.ok [])).modInst (u8 c.packet 8) (fun i => { i with adjNext := i.adjNext ++ [⟨.step (i64 c.packet 16 * 65536), s.tick⟩] })).complete c.id Status.ok [])) ∧
  (∀ (s : State) (r : Fin 4) (c : Cmd), s.atOnce r 0x0D04 c → u8 c.packet 8 ≤ 1 → s.switchBusy = false →
    exec (.timSelect r) s = .next (if u8 c.packet 8 = s.tim.primary then (s.begun r c (.ok [])).complete c.id Status.ok []
      else if (s.inst (u8 c.packet 8)).selectable then ((s.begun r c (.ok [])).modTim (fun t => { t with switchNext := some ⟨u8 c.packet 8, some c.id, s.tick⟩ })).setPhase c.id .running
      else (s.begun r c (.ok [])).complete c.id Status.domainUnlocked [])) ∧
  (∀ (s : State) (r : Fin 4) (c : Cmd), s.atOnce r 0x0D05 c → u8 c.packet 8 ≤ 1 →
    exec (.timQuery r) s = .next ((s.begun r c (.ok [])).complete c.id Status.ok (s.timResults (u8 c.packet 8)))) ∧
  (∀ (s : State) (p : Fin 2) (tap : Fin 24) (f : List Byte), (s.ptpPort p).works = true → s.ptpMessage p f = none →
    exec (.ptpSyncRx p tap f) s = .next (s.modPtpPort p (fun g => { g with discard := min (2 ^ 16 - 1) (g.discard + 1) })) ∧
    exec (.ptpMessageRx p tap f) s = .next (s.modPtpPort p (fun g => { g with discard := min (2 ^ 16 - 1) (g.discard + 1) }))) ∧
  (∀ (s u : State) (p : Fin 2) (tap : Fin 24) (f : List Byte) (n : Nat) (m : PtpMsg) (gap : Int), (s.ptpPort p).works = true →
    s.ptpMessage p f = some (n, m) → m.kind = 0 → (s.inst n).fromMaster p m = true → m.twoStep = false →
    gap = (s.inst n).time s.tick tap - (((s.ptpPort p).cfg.rxLat : Int) * 65536).fdiv 1000 - 65536 * m.time - m.corr - ((s.ptpPort p).cfg.asym * 65536).fdiv 1000 →
    u = s.modPtpPort p (fun g => { g with accepted := min (2 ^ 16 - 1) (g.accepted + 1) }) →
    exec (.ptpSyncRx p tap f) s = .next (u.setInst n ({ s.inst n with lastSync := s.tick, gap := some gap, syncWait := none }.servo
      (gap - (s.inst n).delays.getD p 0) s.tick).showSlave)) ∧
  (∀ (s u : State) (p : Fin 2) (tap : Fin 24) (f : List Byte) (n : Nat) (m : PtpMsg), (s.ptpPort p).works = true →
    s.ptpMessage p f = some (n, m) → m.kind = 0 → (s.inst n).fromMaster p m = true → m.twoStep = true →
    u = s.modPtpPort p (fun g => { g with accepted := min (2 ^ 16 - 1) (g.accepted + 1) }) →
    exec (.ptpSyncRx p tap f) s = .next (u.setInst n { s.inst n with lastSync := s.tick, syncWait := some { inst := n, seq := m.seq, source := m.source, stamp := (s.inst n).time s.tick tap - (((s.ptpPort p).cfg.rxLat : Int) * 65536).fdiv 1000, corr := m.corr } })) ∧
  (∀ (s u : State) (p : Fin 2) (tap : Fin 24) (f : List Byte) (n : Nat) (m : PtpMsg) (q : PtpWait) (gap : Int), (s.ptpPort p).works = true →
    s.ptpMessage p f = some (n, m) → m.kind = 9 → (s.ptpPort p).cfg.p2p = false → (s.ptpPort p).delayReq = some q → (s.inst n).gap = some gap →
    q.inst = n → q.seq = m.seq → m.asker = (s.inst n).identity p → (s.inst n).fromMaster p m = true →
    u = s.modPtpPort p (fun g => { g with accepted := min (2 ^ 16 - 1) (g.accepted + 1) }) →
    exec (.ptpMessageRx p tap f) s = .next ((u.modPtpPort p (fun g => { g with delayReq := none })).measurePath p n
      (gap + 65536 * m.time - m.corr - q.stamp))) ∧
  (∀ (s u : State) (p : Fin 2) (f : List Byte) (n : Nat) (m : PtpMsg) (t : Nat) (tap : Fin 24) (miss : Bool) (x : Int), s.ptpMessage p f = some (n, m) →
    s.ptpSends p n m.kind = true → (s.ptpPort p).cfg.sourced f = true →
    m.twoStep = (!(s.ptpPort p).cfg.oneStep && (m.kind == 0 || m.kind == 3)) →
    ((s.ptpPort p).cfg.schedules m.kind = false ∧ s.tick ≤ t) ∨ ((s.ptpPort p).cfg.schedules m.kind = true ∧ miss = false ∧
      24 * (s.tick + 8) ≤ 24 * t + tap.val ∧ 24 * t + tap.val < 24 * (s.tick + 8) + (s.ptpPort p).cfg.blockTaps) →
    x = (s.inst n).time t tap + (((s.ptpPort p).cfg.txLat : Int) * 65536).fdiv 1000 →
    u = s.modPtpPort p (fun g => { g with sent := min (2 ^ 16 - 1) (g.sent + 1) }) →
    exec (.ptpTx p f t tap miss) s = .next ((u.emit (.ptp p ((s.ptpPort p).cfg.finish f ((s.ptpPort p).written m.kind x f)) t tap)).afterDeparture
      p n m x)) ∧
  (∀ (s : State) (p : Fin 2) (f : List Byte) (n : Nat) (m : PtpMsg) (t : Nat) (tap : Fin 24), s.ptpMessage p f = some (n, m) →
    s.ptpSends p n m.kind = true → (s.ptpPort p).cfg.sourced f = true → m.twoStep = false → (s.ptpPort p).cfg.schedules m.kind = true →
    exec (.ptpTx p f t tap true) s = .next (s.modPtpPort p (fun g => { g with late := min (2 ^ 16 - 1) (g.late + 1), again := g.again ++ [{ inst := n, frame := f, due := s.tick + s.resendAfter p n m.kind }] }))) ∧
  (∀ (s : State) (n : Fin 2), (s.inst n).following = true → (s.inst n).lastSync + intervalTicks 3 (s.inst n).cfg.logSync ≤ s.tick →
    s.ptpArrives n 1 = false →
    ∃ t, exec (.ptpMasterLost n 1) s = .next t ∧
      t = { s with out := t.out, hif := t.hif, evt := t.evt, tim := t.tim } ∧ (t.inst n).state = .holdover ∧ (t.inst n).lockRow = 0 ∧ (t.inst n).base = (s.inst n).base ∧
      (t.inst n).rate = (s.inst n).rate ∧ t.tim.ports = s.tim.ports) ∧
  (∀ (s : State) (p : Fin 2), bit s.sys.pllLock 3 = true → (s.inst 0).cfg.mode ≠ 2 → (s.inst 1).cfg.mode ≠ 2 →
    ∃ t, exec (.ethLinkUp p) s = .next t ∧
      t = { s with tim := t.tim } ∧ (t.ptpPort p).linkUp = true ∧ (∀ n, t.inst n = s.inst n) ∧
      (∀ q : Fin 2, q ≠ p → t.ptpPort q = s.ptpPort q)) ∧
  (∀ (s : State) (id : Nat), s.tim.switching = true → s.residueAt s.tick = 0 → s.tim.switchCmd = some id →
    exec .switchSlewDone s = .next ((s.modTim (fun t => { t with switching := false, residue := 0, switchCmd := none })).complete id Status.ok []))

/-- R353: anchoring an instance's time afresh at a tick leaves the time of that tick as it was. -/
def Obligations.ReanchoringKeepsTheTime : Prop :=
  ∀ (i : Inst) (p : Nat), (i.reanchor p).time p 0 = i.time p 0

/-- R389, R392, R394 to R397: TWN_CONFIG in an acting role keeps role and permit and sets its flags; a lead with a fit shadow decides the
exchange at a cycle boundary, and starts a proof test with its lowest test; a query answers role, partner, epoch, status, offset, copy and clean
seconds. R179, R187, R372, R373, R376 to R378: a tap is sent on its pair tick with the next number; a tap with a bad CRC is counted and breaks
its path's row; a good one restarts a path that runs; a path silent for 6,000 ticks is lost unless a tap arrives in that tick (R20); 64 valid
sync headers in a row on the last lane of four (R179) move the link to ALIGN, 16 invalid of 64 blocks back to TRAIN; sixteen accepted delay
measurements (R187), with the lanes mapped by their AMs and deskewed, move it to UP with the offset; an election window without a fit tap ends in
LEAD with the next epoch. -/
def Obligations.TwinCommandsTapsAndLink : Prop :=
  (∀ (s : State) (r : Fin 4) (c : Cmd), s.atOnce r 0x0E01 c → u8 c.packet 8 = 0xFF → u8 c.packet 9 = 2 → u8 c.packet 10 ≤ 10 →
    exec (.twnConfig r) s = .next (((s.begun r c (.ok [])).modTwn (fun t => { t with txPreset := u8 c.packet 10, noRevert := true })).complete
      c.id Status.ok [])) ∧
  (∀ (s : State) (r : Fin 4) (c : Cmd), s.atOnce r 0x0E02 c → u8 c.packet 8 = 1 → s.twn.role = .lead → s.twn.partner = 2 → s.twn.absent = false →
    s.partnerFit = true → s.twn.exchange = none → s.twn.link = .up →
    exec (.twnHandover r) s = .next ((((s.begun r c (.ok [])).modTwn (fun t => { t with exchange := some { h := s.cycleAhead, cause := 3, cmd := some c.id } })).sendTwin (.handover s.cycleAhead)).setPhase c.id .running)) ∧
  (∀ (s : State) (r : Fin 4) (c : Cmd), s.atOnce r 0x0E03 c → u8 c.packet 8 = 8 → s.twn.role = .lead → s.twn.partner = 2 → s.twn.absent = false →
    s.partnerFit = true → s.twn.proof = none →
    exec (.twnProofTest r) s = .next (((s.begun r c (.ok [])).modTwn (fun t => { t with proof := some { cmd := c.id, tests := 8, test := 3, count := 0, tapLost := false, startLine := s.fir.lastLine.getD 0 } })).setPhase c.id .running)) ∧
  (∀ (s : State) (r : Fin 4) (c : Cmd), s.atOnce r 0x0E04 c →
    exec (.twnQuery r) s = .next ((s.begun r c (.ok [])).complete c.id Status.ok ([s.twn.role.num, if s.twn.absent then 0xFF else s.twn.partner,
      s.twn.epoch, s.twnStatus % 256] ++ leBytes 4 s.twnOffset ++ leBytes 4 s.twnCopy ++ leBytes 4 s.cleanSeconds))) ∧
  (∀ (s : State), s.running = true → s.hif.fwAuth = true → s.sys.imageRun ≠ 2 → s.pairTick % 2000 = 0 → s.twn.lastTap ≠ some s.pairTick →
    s.twn.role = .alone → s.twn.proof = none → s.twn.link = .off →
    exec .tapSend s = .next ((s.emit (.tapPin s.tapWord)).modTwn (fun t => { t with tapSeq := wrapAdd 8 t.tapSeq 1, lastTap := some s.pairTick }))) ∧
  (∀ (s : State) (w : BitVec 32), s.running = true → s.hif.fwAuth = true → tapCrc (w.toNat % 2 ^ 24) ≠ w.toNat / 2 ^ 24 →
    exec (.tapReceived true w) s = .next (s.modTwn (fun t => { t with badTaps := min (2 ^ 16 - 1) (t.badTaps + 1), pin := { t.pin with row := 0 } }))) ∧
  (∀ (s : State) (w : BitVec 32), s.running = true → s.hif.fwAuth = true → tapCrc (w.toNat % 2 ^ 24) = w.toNat / 2 ^ 24 → s.twn.role = .alone →
    s.twn.proof = none → s.twn.pin.ok = true →
    ∃ t, exec (.tapReceived true w) s = .next t ∧
      t = { s with out := t.out, hif := t.hif, evt := t.evt, twn := t.twn } ∧ t.twn.partner = w.toNat % 8 ∧ t.twn.pin.lastTap = some s.tick ∧ t.twn.pin.ok = true ∧
      t.twn.absent = false ∧ t.twn.role = .alone ∧ t.twn.permit = s.twn.permit) ∧
  (∀ (s : State) (x : Nat), s.running = true → s.twn.pin.ok = true → s.twn.pin.lastTap = some x → x + 6000 ≤ s.tick → s.twn.inband.ok = true →
    s.tapArrives (fun q _ => q == true) = false →
    ∃ t, exec (.tapPathLost true) s = .next t ∧
      t = { s with out := t.out, hif := t.hif, evt := t.evt, twn := t.twn } ∧ t.twn.pin.ok = false ∧ t.twn.inband = s.twn.inband ∧ t.twn.absent = false ∧ t.twn.role = s.twn.role) ∧
  (∀ (s : State) (k : Fin 4) (n : Nat), s.twn.link = .train → (∀ j : Fin 4, j ≠ k → (s.twn.locks.get {} j.val).locked = true) →
    (s.twn.locks.get {} k.val).locked = false → (s.twn.locks.get {} k.val).run + n = 64 → 0 < n →
    exec (.chezatinBlockLock k (List.replicate n true)) s = .next (s.modTwn (fun t => { t with locks := t.locks.set {} k.val { locked := true }, link := .align }))) ∧
  (∀ (s : State) (k : Fin 4), s.twn.link ≠ .off → (s.twn.locks.get {} k.val).locked = true →
    15 ≤ (((s.twn.locks.get {} k.val).win.take 63).filter (· == false)).length →
    exec (.chezatinBlockLock k [false]) s = .next (s.modTwn (fun t => { t with locks := t.locks.set {} k.val { locked := false }, link := .train }))) ∧
  (∀ (s : State) (ams : List (List Byte × Nat)) (lanes : List Nat) (turns : List (Nat × Nat)) (o : Int) (p : Fin 24), s.twn.link = .align →
    s.twn.allLocked = true → s.twn.role ≠ .shadow → deskewed ams = some lanes → 16 ≤ (turns.foldl takeDelay []).length →
    exec (.chezatinLinkUp ams turns o p) s = .next (s.modTwn (fun t => { t with link := .up, delays := turns.foldl takeDelay [], laneMap := lanes, linkOffTicks := o, linkOffTaps := p }))) ∧
  (∀ (s : State) (x : Nat), s.sys.fwAuthAt = some x → s.twn.role = .elect → s.running = true → s.sys.imageRun ≠ 2 → s.pref = true →
    x + 60000000 ≤ s.tick → s.twn.heardFit = false → s.tapArrives (fun _ w => w % 8 == 1 || bit w 3) = false →
    s.twn.healthy = true →
    ∃ t, exec .electionTimeout s = .next t ∧
      t = { s with out := t.out, hif := t.hif, evt := t.evt, twn := t.twn } ∧ t.twn.role = .lead ∧ t.twn.epoch = (match s.twn.partnerEpoch with
      | some e => wrapAdd 8 e 1
      | none => 1) ∧ t.twn.permit = s.twn.permit)

/-- R21, R218, R374, R380, R382, R384, R385, R389: after what wins over it in its tick, a shadow, and for 64 ticks after an exchange the new
lead, triggers the line that a LINE record names, counts a record of a line already triggered, and triggers by itself 128 ticks after its
prediction (one that a hold floor or a Gong frame gave: the model's choice, log entry 117); it takes the lead's inputs, stores a CHANGE and
acknowledges it, and learns its commit tick; an acknowledged lead names the tick 128 ticks ahead; a snapshot equal to its own completes the copy,
with the verdicts of the lead's cycle in the tables (R218). -/
def Obligations.RecordsOfThePairArrive : Prop :=
  (∀ (s₀ s : State) (b : List Byte), s = s₀.winnersFirst → s.running = true → s.twn.link = .up →
    (s.twn.role = .shadow ∨ (s.twn.role = .lead ∧ s.tick < s.twn.lateUntil)) → s.fir.paced = true → s.fir.nextLine ≤ u48 b 0 →
    exec (.lineRecordRx b) s₀ = .next (((({ s with copySince := s.copySince ++ [(s.pairTick, TwinRec.line b)] }).modFir (fun f => { (if f.role = 2 then f.gongPass (u48 b 0) (bit (u8 b 18) 5) (bit (u8 b 18) 4) else f) with nextLine := u48 b 0, holdTick := if bit (u8 b 18) 6 then s.tick else f.holdTick })).trigger (u48 b 0) (i64 b 6) (u32 b 14) (bit (u8 b 18) 7) (bit (u8 b 18) 6) (bit (u8 b 18) 5) (bit (u8 b 18) 4)).writeNotes)) ∧
  (∀ (s₀ s : State) (b : List Byte), s = s₀.winnersFirst → s.running = true → s.twn.link = .up →
    (s.twn.role = .shadow ∨ (s.twn.role = .lead ∧ s.tick < s.twn.lateUntil)) → s.fir.paced = true → u48 b 0 < s.fir.nextLine →
    exec (.lineRecordRx b) s₀ = .next (({ s with copySince := s.copySince ++ [(s.pairTick, TwinRec.line b)] }).modTwn (fun t => { t with lateLines := min (2 ^ 12 - 1) (t.lateLines + 1) })).writeNotes) ∧
  (∀ (s₀ s : State) (x : Nat), s = s₀.winnersFirst → s.twn.predTick = some x → s.twn.predFlags = none → s.twn.role = .shadow → s.running = true →
    s.fir.paced = true → x + 128 ≤ s.tick → s.lineArrives = false →
    exec .shadowLineTimeout s₀ = .next (s.trigger s.fir.nextLine s.twn.predDue s.twn.predPer false false
      (s.fir.cfg.scanning && s.fir.nextLine == s.fir.passStart) (s.lineReverse s.fir.nextLine)).writeNotes) ∧
  (∀ (s₀ s : State) (x g : Nat), s = s₀.winnersFirst → s.twn.predTick = some x → s.twn.predFlags = some g → s.twn.role = .shadow → s.running = true →
    s.fir.paced = true → x + 128 ≤ s.tick → s.lineArrives = false →
    exec .shadowLineTimeout s₀ = .next ((s.modFir (fun f => { f with holdTick := if bit g 6 then s.tick else f.holdTick })).trigger
      s.fir.nextLine s.twn.predDue s.twn.predPer (bit g 7) (bit g 6) (bit g 5) (bit g 4)).writeNotes) ∧
  (∀ (s : State) (k : Fin 8) (n : Int) (m : Nat), s.running = true → s.twn.link = .up → s.twn.role = .shadow →
    ∃ t, exec (.inputRecordRx { counts := [(k.val, n)], switches := m, probes := [], adc := [], colours := [] }) s = .next t ∧
      t = { s with enc := t.enc, led := t.led, copySince := t.copySince } ∧
      (t.seenChan k).count = n ∧ (∀ w : Fin 16, (t.switchIn w).level = bit m w)) ∧
  (∀ (s : State) (tag : Nat) (p : List Byte) (d : HostRead), s.running = true → s.twn.link = .up → s.twn.role = .shadow → p.length = 64 →
    s.twn.mirrored = [] →
    exec (.changeRecordRx tag p d) s = .next ((s.modTwn (fun t => { t with mirrored := [{ tag := tag, packet := p, host := d }] })).sendTwin
      (.ack tag))) ∧
  (∀ (s : State) (tag n : Nat) (c : Cmd), s.mirroring tag = some (c, n, none) → s.running = true → s.twn.link = .up →
    exec (.ackRecordRx tag) s = .next ((s.setPhase c.id (.mirroring tag n (some (s.pairTick + 128)))).sendTwin (.commit tag (s.pairTick + 128)))) ∧
  (∀ (s : State) (tag n : Nat) (m : Mirrored), s.running = true → s.twn.link = .up → s.twn.mirrored = [m] → m.tag = tag →
    exec (.commitRecordRx tag n) s = .next (s.modTwn (fun t => { t with mirrored := [{ m with commit := some n }] }))) ∧
  (∀ (s : State) (x : Snapshot), s.running = true → s.twn.link = .up → s.twn.role = .shadow → s.copyOwn = some x → s.twn.copyAt = some x.tick →
    s.twn.offTicks = 0 → x.lone = false → (copyDiffers 0 x x).all (fun d => !d) = true → x.subDigest = (s.takeVerdicts x.verdicts).sub.atCopy.digest →
    exec (.copyComplete x) s = .next ((s.takeVerdicts x.verdicts).modTwn (fun t => { t with fixes := satAdd 12 t.fixes 0, copyAt := none, missedRow := 0, voterOut := x.voter.map driveRow, digestsOk := true, digestBad := t.digestBad.filter (fun i => x.livePages.contains i) })))

/-- R374, R386 to R389: a HEALTH record is kept; a declared fault makes a lead without a fit shadow unhealthy, and it retains the lead; a shadow
that hears RELINQUISH takes over with the next epoch; a lead that relinquished is OUT 2,000 ticks later; a partner clean for 10 s is healthy
again; a HANDOVER record is noted; a preferred shadow clean for 10 s is given the lead at a cycle boundary; channels that have disagreed for less
than 2,000 ticks are no fault; at H the lead becomes SHADOW and the shadow takes the lead. -/
def Obligations.RolesChangeHands : Prop :=
  (∀ (s : State) (h : Health), s.running = true → s.twn.link = .up → s.twn.role = .lead → s.twn.proof = none → h.mismatch = s.twn.health.mismatch →
    exec (.healthRecordRx h) s = .next (s.modTwn (fun t => { t with health := h }))) ∧
  (∀ (s : State) (x : Nat), s.twn.disagreeAt = some x → s.tick < x + 2000 → exec (.selfDiagnosisFault 5 []) s = .next s) ∧
  (∀ (s : State) (b : List Bool), s.running = true → s.twn.faults = 0 → s.twn.faultCause = 0 → s.twn.role = .lead → s.twn.absent = true → s.twn.outAt = none →
    ∃ t, exec (.selfDiagnosisFault 4 b) s = .next t ∧
      t = { s with out := t.out, hif := t.hif, evt := t.evt, twn := t.twn } ∧ t.twn.healthy = false ∧ t.twn.faultCause = 4 ∧ t.twn.role = .lead ∧ t.twn.outAt = none) ∧
  (∀ (s : State), s.running = true → s.twn.link = .up → s.twn.role = .shadow → s.twn.healthy = true → s.twn.inStep = true → s.enc.chans = {} →
    s.twn.proof = none →
    ∃ t, exec .relinquishReceived s = .next t ∧
      t = { s with out := t.out, hif := t.hif, evt := t.evt, twn := t.twn } ∧ t.twn.role = .lead ∧ t.twn.epoch = wrapAdd 8 s.twn.epoch 1 ∧ t.twn.permit = s.twn.permit ∧
      t.twn.armA = s.twn.armA) ∧
  (∀ (s : State) (x : Nat), s.twn.outAt = some x → s.twn.role = .lead → x ≤ s.tick → s.twn.proof = none →
    ∃ t, exec .relinquishOut s = .next t ∧
      t = { s with out := t.out, hif := t.hif, evt := t.evt, twn := t.twn } ∧ t.twn.role = .out ∧ t.fireEn = false) ∧
  (∀ (s : State) (x : Nat), s.twn.mismatchAt = some x → s.twn.partnerHealthy = false → x + 2000000000 ≤ s.tick →
    exec .partnerHealthRestore s = .next (s.modTwn (fun t => { t with partnerHealthy := true, mismatchAt := none, mismatchLines := [] }))) ∧
  (∀ (s : State) (n : Nat), s.running = true → s.twn.link = .up → s.twn.role = .shadow → s.twn.cleanAt = none →
    exec (.handoverRecordRx n) s = .next (s.modTwn (fun t => { t with exchange := some { h := n, cause := 3, cmd := none } }))) ∧
  (∀ (s : State) (x : Nat), s.twn.cleanAt = some x → s.twn.role = .lead → s.running = true → s.cleanOk = true → s.twn.exchange = none →
    s.twn.outAt = none → x + 2000000000 ≤ s.tick → s.anyLive = false → s.twn.link = .up →
    exec .takeBack s = .next ((s.modTwn (fun t => { t with exchange := some { h := s.cycleAhead, cause := 4, cmd := none } })).sendTwin
      (.handover s.cycleAhead))) ∧
  (∀ (s : State) (x : Exchange), s.twn.exchange = some x → x.atPage = false → x.h ≤ s.pairTick → s.twn.role = .lead → s.twn.partner = 2 →
    s.twn.absent = false → s.partnerFit = true → s.twn.proof = none → s.twn.link = .up →
    ∃ t, exec .roleExchange s = .next t ∧
      t = { s with out := t.out, hif := t.hif, evt := t.evt, twn := t.twn, copyOwn := t.copyOwn, copySince := t.copySince } ∧ t.twn.role = .shadow ∧ t.twn.epoch = wrapAdd 8 s.twn.epoch 1 ∧ t.twn.inStep = true ∧
      t.twn.permit = s.twn.permit) ∧
  (∀ (s : State) (x : Exchange), s.twn.exchange = some x → x.atPage = false → x.h ≤ s.pairTick → s.twn.role = .shadow → s.twn.healthy = true → s.twn.inStep = true →
    s.enc.chans = {} → s.twn.proof = none →
    ∃ t, exec .roleExchange s = .next t ∧
      t = { s with out := t.out, hif := t.hif, evt := t.evt, twn := t.twn } ∧ t.twn.role = .lead ∧ t.twn.epoch = wrapAdd 8 s.twn.epoch 1 ∧ t.twn.inStep = true ∧
      t.twn.permit = s.twn.permit)

/-- R390, R391: a level that an input has not yet held for its channel's response (1 tick, 2 AON clocks, 10 µs; log entry 134) changes nothing;
with all three inputs, the loops' permit and ARM given, the third input's fall leaves the permit with two channels and DISAGREE; a second fall
withdraws it, which clears ARM and counts the withdrawal (no page PRINTING, no proof test). -/
def Obligations.PermitInputsAreVoted : Prop :=
  (∀ (s : State) (n : Nat), s.sys.held = false → 2000 ≤ n → s.permitChannels = 7 → s.twn.permit = true → s.twn.disagree = false →
    ∃ t, exec (.permitInputChange 2 false n) s = .next t ∧
      t = { s with out := t.out, hif := t.hif, evt := t.evt, twn := t.twn } ∧ t.twn.permit = true ∧ t.twn.disagree = true ∧ t.twn.disagreeAt = some (s.twn.disagreeAt.getD s.tick) ∧
      t.twn.armA = true ∧ t.twn.withdrawals = s.twn.withdrawals) ∧
  (∀ (s : State) (k : Fin 3) (l : Bool) (n : Nat), s.sys.held = true ∨ n < permitResponse k.val → exec (.permitInputChange k l n) s = .next s) ∧
  (∀ (s : State) (n : Nat), s.sys.held = false → 16 ≤ n → s.permitChannels = 3 → s.twn.permit = true → s.anyPrinting = false → s.twn.proof = none →
    ∃ t, exec (.permitInputChange 1 false n) s = .next t ∧
      t = { s with out := t.out, hif := t.hif, evt := t.evt, twn := t.twn } ∧ t.twn.permit = false ∧ t.fireEn = false ∧ t.twn.armA = false ∧ t.twn.armB = false ∧
      t.twn.armC = false ∧ t.twn.withdrawals = min (2 ^ 16 - 1) (s.twn.withdrawals + 1))

/-- After reset (R33 to R35, R352, R375, R390 to R392, R404, R459): the tick count, the queue and the trace are empty, no ring is enabled,
HIF_READY is 0, the role is ELECT, pacing is stopped, the permit is not given and agrees with its channels, FIRE_EN is low, every lane is OFF,
every axis disabled. -/
def Obligations.ResetState : Prop :=
  State.reset.tick = 0 ∧ State.reset.pending = [] ∧ State.reset.out = [] ∧ State.reset.hif.ready = false ∧
  (∀ r, (State.reset.ring r).enable = false ∧ (State.reset.ring r).head = 0 ∧ (State.reset.ring r).tail = 0) ∧ State.reset.hif.eq.enable = false ∧
  State.reset.twn.role = .elect ∧ State.reset.fir.state = .stopped ∧ State.reset.twn.permit = false ∧ State.reset.VoteOk ∧
  State.reset.fireEn = false ∧ (∀ l, (State.reset.lane l).state = .off) ∧ (∀ x, (State.reset.axis x).state = .disabled) ∧
  (∀ k, (State.reset.ctx k).state = .free) ∧ State.reset.geo.active = 0 ∧ State.reset.stk.enabled = false

/-- R391 as an invariant: in every state, if the voted permit and DISAGREE are those of the table for the outputs of the three channels, then
they are after every step, whichever command it takes and also when a tick passes. -/
def Obligations.EveryStepKeepsTheVote : Prop :=
  ∀ s t : State, s.VoteOk → step s = .next t → t.VoteOk

/-- The queue is served one command at a time and in order: a step removes the command at the front and leaves every other one waiting; nothing
the machine does adds or removes a waiting command (the queue is the model's own, log entry 2). -/
def Obligations.EveryStepTakesOneCommand : Prop :=
  ∀ s t : State, step s = .next t → t.pending = s.pending.tail

/-- R391: the voter's table: the permit is given when two channels or all three permit, and DISAGREE rises unless all three agree; so in a state
that agrees with the table FIRE_EN is high only while two channels permit, and with it two of the inputs, CLE_PERMIT and two copies of ARM. -/
def Obligations.FireNeedsTwoChannels : Prop :=
  (∀ a b c : Bool, voteTable (b2n a + 2 * b2n b + 4 * b2n c) = ((a && b) || (a && c) || (b && c), !(a == b && b == c))) ∧
  (∀ s : State, s.VoteOk → s.fireEn = true → s.twoPermit = true ∧ s.cle.permit = true ∧
    2 ≤ b2n s.twn.in0 + b2n s.twn.in1 + b2n s.twn.in2 ∧ 2 ≤ b2n s.twn.armA + b2n s.twn.armB + b2n s.twn.armC)

/-- R393: FIRE_EN carries the permit in LEAD, SHADOW and ALONE, and is low in ELECT, OUT, reset and DORMANT; a change of role leaves the permit
and counts no withdrawal, whatever the level of FIRE_EN; a withdrawal while a page is PRINTING drives GONG_HALT_N, in every role. -/
def Obligations.FireEnFollowsPermitAndRole : Prop :=
  (∀ s : State, s.sys.held = false → s.sys.dormant = .awake → (s.twn.role = .lead ∨ s.twn.role = .shadow ∨ s.twn.role = .alone) →
    s.fireEn = s.twn.permit) ∧
  (∀ s : State, (s.twn.role = .elect ∨ s.twn.role = .out ∨ s.sys.held = true ∨ (∃ x, s.sys.dormant = .outputsOff x ∨ s.sys.dormant = .asleep x)) → s.fireEn = false) ∧
  (∀ (s : State) (r : Role) (cause : Nat), (s.setRole r cause).twn.permit = s.twn.permit ∧ (s.setRole r cause).twn.withdrawals = s.twn.withdrawals) ∧
  (∀ s : State, s.twn.permit = true → (voteTable s.permitChannels).1 = false → s.anyPrinting = true →
    s.vote.fir.haltDrive = true ∧ s.vote.twn.permit = false ∧ s.vote.twn.withdrawals = min (2 ^ 16 - 1) (s.twn.withdrawals + 1))

/-- R39: byte 7 bit 0 of a completion and byte 2 bit 7 of an event record are the ring's PHASE; enabling a ring sets it to 1 with the write index
at 0; a write moves the index by one, and when the index wraps to 0 the PHASE is inverted, else kept. -/
def Obligations.PhaseInvertsAtEachWrap : Prop :=
  (∀ (tag st ring : Nat) (phase b : Bool) (ns : Nat) (res : List Byte), bit (u8 (completionBytes tag st ring phase b ns res) 7) 0 = phase) ∧
  (∀ (r : Rec) (phase : Bool), r.sev < 16 → bit (u8 (r.encode phase) 2) 7 = phase) ∧
  (∀ (s : State) (r tag st : Nat) (res : List Byte), ((s.writeCompletion r tag st res).ring r).cqWrite = ((s.ring r).cqWrite + 1) % 2 ^ (s.ring r).cqLog2 ∧
    ((s.writeCompletion r tag st res).ring r).phase = (if ((s.ring r).cqWrite + 1) % 2 ^ (s.ring r).cqLog2 = 0 then !(s.ring r).phase else (s.ring r).phase) ∧
    (s.sys.dormant = .awake → (s.writeCompletion r tag st res).out = s.out ++ [.host ((s.ring r).cqBase + 32 * (s.ring r).cqWrite)
      (completionBytes tag st r (s.ring r).phase s.hif.timeB s.nowNs res)])) ∧
  (∀ (s : State) (x : Rec), (s.writeRecord x).hif.eq.write = (s.hif.eq.write + 1) % 2 ^ s.hif.eq.log2 ∧
    (s.writeRecord x).hif.eq.phase = (if (s.hif.eq.write + 1) % 2 ^ s.hif.eq.log2 = 0 then !s.hif.eq.phase else s.hif.eq.phase) ∧
    (s.sys.dormant = .awake → (s.writeRecord x).out = s.out ++ [.host (s.hif.eq.base + 32 * s.hif.eq.write) (x.encode s.hif.eq.phase)])) ∧
  (∀ (s : State) (r : Fin 4) (v : BitVec 32), s.hif.ready = true → (s.ring r.val).enable = false → bit v.toNat 0 = true → (s.ring r.val).sqBase % 4096 = 0 →
    (s.ring r.val).cqBase % 4096 = 0 → sizeOk (bits v.toNat 5 1) = true → sizeOk (s.ring r.val).cqLog2 = true →
    ∃ t, exec (.ringPairEnable r v) s = .next t ∧
      t = { s with hif := t.hif } ∧ (t.ring r.val).phase = true ∧ (t.ring r.val).cqWrite = 0) ∧
  (∀ (s : State) (v : BitVec 32), s.hif.ready = true → s.hif.eq.enable = false → bit v.toNat 5 = true → s.hif.eq.base % 4096 = 0 →
    sizeOk (bits v.toNat 4 0) = true → ∃ t, exec (.eventRingEnable v) s = .next t ∧
      t = { s with hif := t.hif } ∧ t.hif.eq.phase = true ∧ t.hif.eq.write = 0)

/-- R49, R50: a completion and an event record are 32 bytes, and each field reads back from its place. -/
def Obligations.CompletionsAndRecordsReadBack : Prop :=
  (∀ (tag st ring : Nat) (phase b : Bool) (ns : Nat) (res : List Byte), tag < 2 ^ 32 → st < 2 ^ 16 → ns < 2 ^ 64 → res.length ≤ 16 →
    (completionBytes tag st ring phase b ns res).length = 32 ∧ u32 (completionBytes tag st ring phase b ns res) 0 = tag ∧
    u16 (completionBytes tag st ring phase b ns res) 4 = st ∧ u8 (completionBytes tag st ring phase b ns res) 6 = ring ∧
    u8 (completionBytes tag st ring phase b ns res) 7 = b2n phase + 2 * b2n b ∧ u64 (completionBytes tag st ring phase b ns res) 8 = ns ∧
    (completionBytes tag st ring phase b ns res).drop 16 = res ++ List.replicate (16 - res.length) 0) ∧
  (∀ (r : Rec) (phase : Bool), r.code < 2 ^ 16 → r.unit < 256 → r.seq < 2 ^ 32 → r.time < 2 ^ 64 → r.args.length ≤ 16 →
    (r.encode phase).length = 32 ∧ u16 (r.encode phase) 0 = r.code ∧ u8 (r.encode phase) 2 = r.sev + 16 * b2n r.timeB + 128 * b2n phase ∧
    u8 (r.encode phase) 3 = r.unit ∧ u32 (r.encode phase) 4 = r.seq ∧ u64 (r.encode phase) 8 = r.time ∧
    (r.encode phase).drop 16 = r.args ++ List.replicate (16 - r.args.length) 0)

/-- R167, R377: every field of a Gong frame reads back from its place and its CRC is good, at every value the frame holds; a tap word carries a
good CRC over the role, flags, epoch and sequence it was made of, and a tap spoiled for the proof test (R394) does not. -/
def Obligations.GongFramesAndTapsReadBack : Prop :=
  (∀ (flags line due per seq : Nat), flags < 256 → line < 2 ^ 48 → due < 2 ^ 24 → per < 2 ^ 32 → seq < 256 →
    (gongFrame flags line due per seq).length = 17 ∧ u8 (gongFrame flags line due per seq) 0 = 0xFB ∧ u8 (gongFrame flags line due per seq) 1 = flags ∧
    u48 (gongFrame flags line due per seq) 2 = line ∧ u24 (gongFrame flags line due per seq) 8 = due ∧
    u32 (gongFrame flags line due per seq) 11 = per ∧ u8 (gongFrame flags line due per seq) 15 = seq ∧
    u8 (gongFrame flags line due per seq) 16 = crc8 (((gongFrame flags line due per seq).drop 1).take 15) ∧
    u8 (gongFrame flags line due per seq) 16 < 256) ∧
  (∀ s : State, s.tapWord < 2 ^ 32 ∧ tapCrc (s.tapWord % 2 ^ 24) = s.tapWord / 2 ^ 24 ∧ s.tapWord % 8 = s.twn.role.num ∧ bit s.tapWord 3 = s.pref ∧
    bit s.tapWord 4 = s.twn.outAt.isSome ∧ bit s.tapWord 5 = s.twn.healthy ∧ bit s.tapWord 6 = s.twn.inStep ∧ bits s.tapWord 15 8 = s.twn.epoch % 256 ∧
    bits s.tapWord 23 16 = s.twn.tapSeq % 256 ∧ tapCrc (spoilTap true s.tapWord % 2 ^ 24) ≠ spoilTap true s.tapWord / 2 ^ 24)

/-- R106: drop k of a packed group of n drops of BITS bits (1, 2 or 4) occupies bits [(k × BITS) mod 8 + BITS − 1 : (k × BITS) mod 8] of byte
floor(k × BITS / 8); the group takes ceil(n × BITS / 8) bytes; the unused high bits of its last byte are 0, and what a reader finds there makes
no difference. -/
def Obligations.PackedDropsKeepTheirPlaces : Prop :=
  ∀ (w : Nat) (xs : List Nat), (w = 1 ∨ w = 2 ∨ w = 4) → (∀ x ∈ xs, x < 2 ^ w) →
    (packSyms w xs).length = (xs.length * w + 7) / 8 ∧
    (∀ k < xs.length, bits (u8 (packSyms w xs) (k * w / 8)) (k * w % 8 + w - 1) (k * w % 8) = xs.getD k 0) ∧
    (xs.length * w % 8 ≠ 0 → u8 (packSyms w xs) (xs.length * w / 8) < 2 ^ (xs.length * w % 8)) ∧
    unpackSyms w xs.length (packSyms w xs) = xs ∧
    (∀ bs bs' : List Byte, leNat bs % 2 ^ (xs.length * w) = leNat bs' % 2 ^ (xs.length * w) → unpackSyms w xs.length bs = unpackSyms w xs.length bs')

/-- R159: the fire instant of a row with fraction F lies F × PER / 65,536 taps after T_FIRE in a forward pass, and (65,536 − F) × PER / 65,536 in
a reverse pass when F > 0, rounded to the nearest tap with halves up, and at T_FIRE in a reverse pass when F is 0; T_FIRE is T(L), or the later
instant T_LAST + P of a held line. -/
def Obligations.RowsFireAtTheirInstants : Prop :=
  (∀ per f : Nat, f < 65536 →
    2 * (65536 * rowDelay per f false) ≤ 2 * (f * per) + 65536 ∧ 2 * (f * per) + 65536 < 2 * (65536 * (rowDelay per f false + 1)) ∧
    rowDelay per 0 true = 0 ∧ (0 < f → 2 * (65536 * rowDelay per f true) ≤ 2 * ((65536 - f) * per) + 65536 ∧
      2 * ((65536 - f) * per) + 65536 < 2 * (65536 * (rowDelay per f true + 1)))) ∧
  (∀ (line per : Nat) (t : Int) (a b : Bool), (LineFate.fired t).info line per false false a b = { line := line, tFire := t, per := per, passStart := a, reverse := b } ∧
    (LineFate.held t).info line per false false a b = { line := line, tFire := t, per := per, held := true, passStart := a, reverse := b }) ∧
  (∀ (s : State) (t l : Int) (per p : Nat), s.fir.tLast = some l → t - l < p → s.lineFate t per p false false = .held (l + p) → t < l + p)

/-- R21 to R24, R46, R127: a command joins a queue in the order of classes, unit indices and block bases and keeps it so, loses none that waits,
and stands behind those of its own place that came before it; permit and role changes go before line triggers, then planning ticks, loops,
commits, exposures, and the backlog's records; completions of one tick go by ring and start order, a CMP_CLOSE behind the blocks of its stream
(R127) (the place of what R21 does not list is the model's choice, log entry 129). -/
def Obligations.TiesFollowTheirOrder : Prop :=
  (∀ (s : State) (i : Instr), inTieOrder s.keyOf s.pending → inTieOrder s.keyOf (s.arrive i).pending) ∧
  (∀ (s : State) (i : Instr), (s.arrive i).pending.Perm (i :: s.pending) ∧ s.arrive i = { s with pending := (s.arrive i).pending }) ∧
  (∀ (key : Instr → TieKey) (i : Instr) (q : List Instr), inTieOrder key q → ∃ a b, q = a ++ b ∧ joinQueue key i q = a ++ i :: b ∧
    (∀ x ∈ a, (key x).le (key i) = true) ∧ (∀ x ∈ b, (key x).le (key i) = false)) ∧
  (∀ (k : Fin 3) (l : Bool) (n : Nat) (m : Fin 48) (r : Fin 4) (u : Fin 16), m ≠ 0 → inTieOrder tieKey [.permitInputChange k l n, .lineTrigger, .planningTick, .loopEvaluation 0,
    .controlCycleEnd, .loopEvaluation m, .pageQueue r, .frameStart u, .eventBacklogDrain]) ∧
  (∀ (s : State) (x y : Instr) (q : List Instr), s.pending = x :: q → inTieOrder s.keyOf s.pending → (s.keyOf x).le (s.keyOf y) = false →
    (s.arrive y).pending = y :: x :: q) ∧
  (∀ l : List Cmd, (completionOrder l).Perm l ∧ (completionOrder l).Pairwise (fun a b => a.closes b = false) ∧
    ((∀ c ∈ l, pktOpcode c.packet ≠ 0x0F06) → (completionOrder l).Pairwise (fun a b => a.before b = true)))

/-- What an event record or a completion changes (R46, R47, R49 to R53): only what is sent, the host interface and, for an event, the event
block. Reaching a completion point sends nothing yet; at the end of the tick every command that has reached it is written and released. -/
def Obligations.RecordsTouchOnlyTheHostInterface : Prop :=
  (∀ (s : State) (code sev unit : Nat) (args : List Byte), s.raiseAt code sev unit args = { s with out := (s.raiseAt code sev unit args).out, hif := (s.raiseAt code sev unit args).hif, evt := (s.raiseAt code sev unit args).evt } ∧ s.out <+: (s.raiseAt code sev unit args).out ∧
    (s.raiseAt code sev unit args).hif.inflight = s.hif.inflight ∧ (s.raiseAt code sev unit args).hif.rings = s.hif.rings) ∧
  (∀ (s : State) (id st : Nat) (res : List Byte), s.complete id st res = { s with hif := (s.complete id st res).hif } ∧
    (s.complete id st res).hif.inflight = s.hif.inflight.map (Cmd.completed id st res) ∧ (s.complete id st res).hif.eq = s.hif.eq) ∧
  (∀ s : State, s.writeCompletions = { s with out := s.writeCompletions.out, hif := s.writeCompletions.hif } ∧
    s.out <+: s.writeCompletions.out ∧ s.writeCompletions.hif.eq = s.hif.eq ∧
    (∀ c ∈ s.writeCompletions.hif.inflight, c ∈ s.hif.inflight ∧ c.completing = false))

/-- R114, R167, R193: the CRCs have the check values that the spec gives for the nine ASCII bytes of 123456789. -/
def Obligations.CrcsHaveTheirCheckValues : Prop :=
  crc32c [0x31, 0x32, 0x33, 0x34, 0x35, 0x36, 0x37, 0x38, 0x39] = 0xE3069283 ∧ crc8 [0x31, 0x32, 0x33, 0x34, 0x35, 0x36, 0x37, 0x38, 0x39] = 0xF4 ∧
  crc16 [0x31, 0x32, 0x33, 0x34, 0x35, 0x36, 0x37, 0x38, 0x39] = 0x29B1
end

