-- ==== Sys2Proof/Laws/Table.lean ====
section
/-! SUPPORT. Sparse tables: a read after a write, and the canonical form. -/
namespace Sys2Proof.Table
variable {α : Type}

theorem find_erase_self (d : α) (i : Nat) : ∀ l : List (Nat × α), find d i (erase i l) = d
  | [] => rfl
  | (j, w) :: rest => by
    by_cases h : j = i
    · simp [erase, h, find_erase_self d i rest]
    · simp [erase, h, find, find_erase_self d i rest]

theorem find_erase_ne (d : α) {i k : Nat} (hk : k ≠ i) : ∀ l : List (Nat × α), find d k (erase i l) = find d k l
  | [] => rfl
  | (j, w) :: rest => by
    by_cases h : j = i
    · subst h; simp [erase, find, Ne.symm hk, find_erase_ne d hk rest]
    · simp [erase, h, find, find_erase_ne d hk rest]

theorem find_place_self (d : α) (i : Nat) (v : α) : ∀ l : List (Nat × α), find d i (place i v (erase i l)) = v
  | [] => by simp [erase, place, find]
  | (j, w) :: rest => by
    by_cases h : j = i
    · simp [erase, h, find_place_self d i v rest]
    · by_cases h' : i < j
      · simp [erase, h, place, h', find]
      · simp [erase, h, place, h', find, find_place_self d i v rest]

theorem find_place_ne (d : α) {i k : Nat} (hk : k ≠ i) (v : α) : ∀ l : List (Nat × α), find d k (place i v l) = find d k l
  | [] => by simp [place, find, Ne.symm hk]
  | (j, w) :: rest => by
    by_cases h : i < j
    · simp [place, h, find, Ne.symm hk]
    · simp [place, h, find, find_place_ne d hk v rest]

/-- What was written is read back. -/
@[simp] theorem get_set_self [DecidableEq α] (d : α) (t : Table α) (i : Nat) (v : α) : (t.set d i v).get d i = v := by
  unfold get set
  by_cases h : v = d
  · simp [h, find_erase_self]
  · simp [h, find_place_self]

/-- A write leaves every other index. -/
@[simp] theorem get_set_ne [DecidableEq α] (d : α) (t : Table α) {i k : Nat} (hk : k ≠ i) (v : α) : (t.set d i v).get d k = t.get d k := by
  unfold get set
  by_cases h : v = d
  · simp [h, find_erase_ne d hk]
  · simp [h, find_place_ne d hk, find_erase_ne d hk]

theorem rising_mono {n m : Nat} (h : m ≤ n) : ∀ {l : List (Nat × α)}, rising n l = true → rising m l = true
  | [], _ => rfl
  | (j, _) :: rest, hr => by
    simp only [rising, Bool.and_eq_true, decide_eq_true_eq] at hr ⊢
    exact ⟨Nat.le_trans h hr.1, hr.2⟩

theorem rising_erase (i : Nat) : ∀ {n : Nat} {l : List (Nat × α)}, rising n l = true → rising n (erase i l) = true
  | _, [], _ => rfl
  | n, (j, _) :: rest, hr => by
    simp only [rising, Bool.and_eq_true, decide_eq_true_eq] at hr
    by_cases h : j = i
    · simpa [erase, h] using rising_erase i (rising_mono (by omega) hr.2)
    · simp [erase, h, rising, hr.1, rising_erase i hr.2]

theorem rising_place {i : Nat} {v : α} : ∀ {n : Nat} {l : List (Nat × α)}, n ≤ i → rising n l = true → (∀ e ∈ l, e.1 ≠ i) →
    rising n (place i v l) = true
  | _, [], hn, _, _ => by simp [place, rising, hn]
  | n, (j, w) :: rest, hn, hr, hi => by
    simp only [rising, Bool.and_eq_true, decide_eq_true_eq] at hr
    have hj : j ≠ i := hi (j, w) (List.mem_cons_self ..)
    by_cases h : i < j
    · simp only [place, h, if_true, rising, Bool.and_eq_true, decide_eq_true_eq]
      exact ⟨hn, by omega, hr.2⟩
    · simp only [place, h, if_false, rising, Bool.and_eq_true, decide_eq_true_eq]
      exact ⟨hr.1, rising_place (by omega) hr.2 (fun e he => hi e (List.mem_cons_of_mem _ he))⟩

theorem mem_erase {i : Nat} {e : Nat × α} : ∀ {l : List (Nat × α)}, e ∈ erase i l → e ∈ l ∧ e.1 ≠ i
  | (j, w) :: rest, h => by
    by_cases hj : j = i
    · simp only [erase, hj, if_true] at h
      exact ⟨List.mem_cons_of_mem _ (mem_erase h).1, (mem_erase h).2⟩
    · simp only [erase, hj, if_false, List.mem_cons] at h
      rcases h with h | h
      · exact ⟨by simp [h], by simp [h, hj]⟩
      · exact ⟨List.mem_cons_of_mem _ (mem_erase h).1, (mem_erase h).2⟩

theorem mem_place {i : Nat} {v : α} {e : Nat × α} : ∀ {l : List (Nat × α)}, e ∈ place i v l → e = (i, v) ∨ e ∈ l
  | [], h => by simpa [place] using h
  | (j, w) :: rest, h => by
    by_cases hj : i < j
    · simpa [place, hj] using h
    · simp only [place, hj, if_false, List.mem_cons] at h
      rcases h with h | h
      · exact Or.inr (by simp [h])
      · exact (mem_place h).imp id (List.mem_cons_of_mem _)

/-- A write keeps the canonical form. -/
theorem set_wf [DecidableEq α] {d : α} {t : Table α} (h : t.wf d = true) (i : Nat) (v : α) : (t.set d i v).wf d = true := by
  simp only [wf, Bool.and_eq_true, List.all_eq_true, decide_eq_true_eq] at h ⊢
  by_cases hv : v = d
  · simp only [set, hv, if_true]
    exact ⟨rising_erase i h.1, fun e he => h.2 e (mem_erase he).1⟩
  · simp only [set, hv, if_false]
    refine ⟨rising_place (Nat.zero_le _) (rising_erase i h.1) (fun e he => (mem_erase he).2), fun e he => ?_⟩
    rcases mem_place he with rfl | he
    · exact hv
    · exact h.2 e (mem_erase he).1

theorem erase_erase (i : Nat) : ∀ l : List (Nat × α), erase i (erase i l) = erase i l
  | [] => rfl
  | (j, w) :: rest => by
    by_cases h : j = i
    · simp [erase, h, erase_erase i rest]
    · simp [erase, h, erase_erase i rest]

theorem erase_place (i : Nat) (v : α) : ∀ l : List (Nat × α), erase i (place i v l) = erase i l
  | [] => by simp [place, erase]
  | (j, w) :: rest => by
    by_cases h : i < j
    · simp [place, h, erase]
    · simp [place, h, erase, erase_place i v rest]

/-- The later of two writes of one index stands. -/
@[simp] theorem set_set [DecidableEq α] (d : α) (t : Table α) (i : Nat) (v w : α) : (t.set d i v).set d i w = t.set d i w := by
  unfold set
  by_cases h : v = d
  · simp [h, erase_erase]
  · simp [h, erase_place, erase_erase]

end Sys2Proof.Table
end

