-- ==== Sys2Proof/Laws/State.lean ====
section
/-! SUPPORT. One lemma for each field and each update of one block or one unit of the state. -/
namespace Sys2Proof.Machine

/-! One block. -/

@[simp] theorem State.modSys_tick (s : State) (f : Sys → Sys) : (s.modSys f).tick = s.tick := rfl
@[simp] theorem State.modSys_pending (s : State) (f : Sys → Sys) : (s.modSys f).pending = s.pending := rfl
@[simp] theorem State.modSys_out (s : State) (f : Sys → Sys) : (s.modSys f).out = s.out := rfl
@[simp] theorem State.modSys_free (s : State) (f : Sys → Sys) : (s.modSys f).free = s.free := rfl
@[simp] theorem State.modSys_sys (s : State) (f : Sys → Sys) : (s.modSys f).sys = f s.sys := rfl
@[simp] theorem State.modSys_hif (s : State) (f : Sys → Sys) : (s.modSys f).hif = s.hif := rfl
@[simp] theorem State.modSys_evt (s : State) (f : Sys → Sys) : (s.modSys f).evt = s.evt := rfl
@[simp] theorem State.modSys_geo (s : State) (f : Sys → Sys) : (s.modSys f).geo = s.geo := rfl
@[simp] theorem State.modSys_pgq (s : State) (f : Sys → Sys) : (s.modSys f).pgq = s.pgq := rfl
@[simp] theorem State.modSys_dec (s : State) (f : Sys → Sys) : (s.modSys f).dec = s.dec := rfl
@[simp] theorem State.modSys_cmp (s : State) (f : Sys → Sys) : (s.modSys f).cmp = s.cmp := rfl
@[simp] theorem State.modSys_mal (s : State) (f : Sys → Sys) : (s.modSys f).mal = s.mal := rfl
@[simp] theorem State.modSys_sub (s : State) (f : Sys → Sys) : (s.modSys f).sub = s.sub := rfl
@[simp] theorem State.modSys_fir (s : State) (f : Sys → Sys) : (s.modSys f).fir = s.fir := rfl
@[simp] theorem State.modSys_snr (s : State) (f : Sys → Sys) : (s.modSys f).snr = s.snr := rfl
@[simp] theorem State.modSys_cam (s : State) (f : Sys → Sys) : (s.modSys f).cam = s.cam := rfl
@[simp] theorem State.modSys_stk (s : State) (f : Sys → Sys) : (s.modSys f).stk = s.stk := rfl
@[simp] theorem State.modSys_mot (s : State) (f : Sys → Sys) : (s.modSys f).mot = s.mot := rfl
@[simp] theorem State.modSys_enc (s : State) (f : Sys → Sys) : (s.modSys f).enc = s.enc := rfl
@[simp] theorem State.modSys_cle (s : State) (f : Sys → Sys) : (s.modSys f).cle = s.cle := rfl
@[simp] theorem State.modSys_led (s : State) (f : Sys → Sys) : (s.modSys f).led = s.led := rfl
@[simp] theorem State.modSys_tim (s : State) (f : Sys → Sys) : (s.modSys f).tim = s.tim := rfl
@[simp] theorem State.modSys_twn (s : State) (f : Sys → Sys) : (s.modSys f).twn = s.twn := rfl
@[simp] theorem State.modSys_rim (s : State) (f : Sys → Sys) : (s.modSys f).rim = s.rim := rfl
@[simp] theorem State.modSys_gng (s : State) (f : Sys → Sys) : (s.modSys f).gng = s.gng := rfl
@[simp] theorem State.modSys_gpio (s : State) (f : Sys → Sys) : (s.modSys f).gpio = s.gpio := rfl
@[simp] theorem State.modSys_i2c (s : State) (f : Sys → Sys) : (s.modSys f).i2c = s.i2c := rfl
@[simp] theorem State.modSys_copyOwn (s : State) (f : Sys → Sys) : (s.modSys f).copyOwn = s.copyOwn := rfl
@[simp] theorem State.modSys_copySince (s : State) (f : Sys → Sys) : (s.modSys f).copySince = s.copySince := rfl
@[simp] theorem State.modSys_dram (s : State) (f : Sys → Sys) : (s.modSys f).dram = s.dram := rfl

@[simp] theorem State.modHif_tick (s : State) (f : Hif → Hif) : (s.modHif f).tick = s.tick := rfl
@[simp] theorem State.modHif_pending (s : State) (f : Hif → Hif) : (s.modHif f).pending = s.pending := rfl
@[simp] theorem State.modHif_out (s : State) (f : Hif → Hif) : (s.modHif f).out = s.out := rfl
@[simp] theorem State.modHif_free (s : State) (f : Hif → Hif) : (s.modHif f).free = s.free := rfl
@[simp] theorem State.modHif_sys (s : State) (f : Hif → Hif) : (s.modHif f).sys = s.sys := rfl
@[simp] theorem State.modHif_hif (s : State) (f : Hif → Hif) : (s.modHif f).hif = f s.hif := rfl
@[simp] theorem State.modHif_evt (s : State) (f : Hif → Hif) : (s.modHif f).evt = s.evt := rfl
@[simp] theorem State.modHif_geo (s : State) (f : Hif → Hif) : (s.modHif f).geo = s.geo := rfl
@[simp] theorem State.modHif_pgq (s : State) (f : Hif → Hif) : (s.modHif f).pgq = s.pgq := rfl
@[simp] theorem State.modHif_dec (s : State) (f : Hif → Hif) : (s.modHif f).dec = s.dec := rfl
@[simp] theorem State.modHif_cmp (s : State) (f : Hif → Hif) : (s.modHif f).cmp = s.cmp := rfl
@[simp] theorem State.modHif_mal (s : State) (f : Hif → Hif) : (s.modHif f).mal = s.mal := rfl
@[simp] theorem State.modHif_sub (s : State) (f : Hif → Hif) : (s.modHif f).sub = s.sub := rfl
@[simp] theorem State.modHif_fir (s : State) (f : Hif → Hif) : (s.modHif f).fir = s.fir := rfl
@[simp] theorem State.modHif_snr (s : State) (f : Hif → Hif) : (s.modHif f).snr = s.snr := rfl
@[simp] theorem State.modHif_cam (s : State) (f : Hif → Hif) : (s.modHif f).cam = s.cam := rfl
@[simp] theorem State.modHif_stk (s : State) (f : Hif → Hif) : (s.modHif f).stk = s.stk := rfl
@[simp] theorem State.modHif_mot (s : State) (f : Hif → Hif) : (s.modHif f).mot = s.mot := rfl
@[simp] theorem State.modHif_enc (s : State) (f : Hif → Hif) : (s.modHif f).enc = s.enc := rfl
@[simp] theorem State.modHif_cle (s : State) (f : Hif → Hif) : (s.modHif f).cle = s.cle := rfl
@[simp] theorem State.modHif_led (s : State) (f : Hif → Hif) : (s.modHif f).led = s.led := rfl
@[simp] theorem State.modHif_tim (s : State) (f : Hif → Hif) : (s.modHif f).tim = s.tim := rfl
@[simp] theorem State.modHif_twn (s : State) (f : Hif → Hif) : (s.modHif f).twn = s.twn := rfl
@[simp] theorem State.modHif_rim (s : State) (f : Hif → Hif) : (s.modHif f).rim = s.rim := rfl
@[simp] theorem State.modHif_gng (s : State) (f : Hif → Hif) : (s.modHif f).gng = s.gng := rfl
@[simp] theorem State.modHif_gpio (s : State) (f : Hif → Hif) : (s.modHif f).gpio = s.gpio := rfl
@[simp] theorem State.modHif_i2c (s : State) (f : Hif → Hif) : (s.modHif f).i2c = s.i2c := rfl
@[simp] theorem State.modHif_copyOwn (s : State) (f : Hif → Hif) : (s.modHif f).copyOwn = s.copyOwn := rfl
@[simp] theorem State.modHif_copySince (s : State) (f : Hif → Hif) : (s.modHif f).copySince = s.copySince := rfl
@[simp] theorem State.modHif_dram (s : State) (f : Hif → Hif) : (s.modHif f).dram = s.dram := rfl

@[simp] theorem State.modEvt_tick (s : State) (f : Evt → Evt) : (s.modEvt f).tick = s.tick := rfl
@[simp] theorem State.modEvt_pending (s : State) (f : Evt → Evt) : (s.modEvt f).pending = s.pending := rfl
@[simp] theorem State.modEvt_out (s : State) (f : Evt → Evt) : (s.modEvt f).out = s.out := rfl
@[simp] theorem State.modEvt_free (s : State) (f : Evt → Evt) : (s.modEvt f).free = s.free := rfl
@[simp] theorem State.modEvt_sys (s : State) (f : Evt → Evt) : (s.modEvt f).sys = s.sys := rfl
@[simp] theorem State.modEvt_hif (s : State) (f : Evt → Evt) : (s.modEvt f).hif = s.hif := rfl
@[simp] theorem State.modEvt_evt (s : State) (f : Evt → Evt) : (s.modEvt f).evt = f s.evt := rfl
@[simp] theorem State.modEvt_geo (s : State) (f : Evt → Evt) : (s.modEvt f).geo = s.geo := rfl
@[simp] theorem State.modEvt_pgq (s : State) (f : Evt → Evt) : (s.modEvt f).pgq = s.pgq := rfl
@[simp] theorem State.modEvt_dec (s : State) (f : Evt → Evt) : (s.modEvt f).dec = s.dec := rfl
@[simp] theorem State.modEvt_cmp (s : State) (f : Evt → Evt) : (s.modEvt f).cmp = s.cmp := rfl
@[simp] theorem State.modEvt_mal (s : State) (f : Evt → Evt) : (s.modEvt f).mal = s.mal := rfl
@[simp] theorem State.modEvt_sub (s : State) (f : Evt → Evt) : (s.modEvt f).sub = s.sub := rfl
@[simp] theorem State.modEvt_fir (s : State) (f : Evt → Evt) : (s.modEvt f).fir = s.fir := rfl
@[simp] theorem State.modEvt_snr (s : State) (f : Evt → Evt) : (s.modEvt f).snr = s.snr := rfl
@[simp] theorem State.modEvt_cam (s : State) (f : Evt → Evt) : (s.modEvt f).cam = s.cam := rfl
@[simp] theorem State.modEvt_stk (s : State) (f : Evt → Evt) : (s.modEvt f).stk = s.stk := rfl
@[simp] theorem State.modEvt_mot (s : State) (f : Evt → Evt) : (s.modEvt f).mot = s.mot := rfl
@[simp] theorem State.modEvt_enc (s : State) (f : Evt → Evt) : (s.modEvt f).enc = s.enc := rfl
@[simp] theorem State.modEvt_cle (s : State) (f : Evt → Evt) : (s.modEvt f).cle = s.cle := rfl
@[simp] theorem State.modEvt_led (s : State) (f : Evt → Evt) : (s.modEvt f).led = s.led := rfl
@[simp] theorem State.modEvt_tim (s : State) (f : Evt → Evt) : (s.modEvt f).tim = s.tim := rfl
@[simp] theorem State.modEvt_twn (s : State) (f : Evt → Evt) : (s.modEvt f).twn = s.twn := rfl
@[simp] theorem State.modEvt_rim (s : State) (f : Evt → Evt) : (s.modEvt f).rim = s.rim := rfl
@[simp] theorem State.modEvt_gng (s : State) (f : Evt → Evt) : (s.modEvt f).gng = s.gng := rfl
@[simp] theorem State.modEvt_gpio (s : State) (f : Evt → Evt) : (s.modEvt f).gpio = s.gpio := rfl
@[simp] theorem State.modEvt_i2c (s : State) (f : Evt → Evt) : (s.modEvt f).i2c = s.i2c := rfl
@[simp] theorem State.modEvt_copyOwn (s : State) (f : Evt → Evt) : (s.modEvt f).copyOwn = s.copyOwn := rfl
@[simp] theorem State.modEvt_copySince (s : State) (f : Evt → Evt) : (s.modEvt f).copySince = s.copySince := rfl
@[simp] theorem State.modEvt_dram (s : State) (f : Evt → Evt) : (s.modEvt f).dram = s.dram := rfl

@[simp] theorem State.modGeo_tick (s : State) (f : Geo → Geo) : (s.modGeo f).tick = s.tick := rfl
@[simp] theorem State.modGeo_pending (s : State) (f : Geo → Geo) : (s.modGeo f).pending = s.pending := rfl
@[simp] theorem State.modGeo_out (s : State) (f : Geo → Geo) : (s.modGeo f).out = s.out := rfl
@[simp] theorem State.modGeo_free (s : State) (f : Geo → Geo) : (s.modGeo f).free = s.free := rfl
@[simp] theorem State.modGeo_sys (s : State) (f : Geo → Geo) : (s.modGeo f).sys = s.sys := rfl
@[simp] theorem State.modGeo_hif (s : State) (f : Geo → Geo) : (s.modGeo f).hif = s.hif := rfl
@[simp] theorem State.modGeo_evt (s : State) (f : Geo → Geo) : (s.modGeo f).evt = s.evt := rfl
@[simp] theorem State.modGeo_geo (s : State) (f : Geo → Geo) : (s.modGeo f).geo = f s.geo := rfl
@[simp] theorem State.modGeo_pgq (s : State) (f : Geo → Geo) : (s.modGeo f).pgq = s.pgq := rfl
@[simp] theorem State.modGeo_dec (s : State) (f : Geo → Geo) : (s.modGeo f).dec = s.dec := rfl
@[simp] theorem State.modGeo_cmp (s : State) (f : Geo → Geo) : (s.modGeo f).cmp = s.cmp := rfl
@[simp] theorem State.modGeo_mal (s : State) (f : Geo → Geo) : (s.modGeo f).mal = s.mal := rfl
@[simp] theorem State.modGeo_sub (s : State) (f : Geo → Geo) : (s.modGeo f).sub = s.sub := rfl
@[simp] theorem State.modGeo_fir (s : State) (f : Geo → Geo) : (s.modGeo f).fir = s.fir := rfl
@[simp] theorem State.modGeo_snr (s : State) (f : Geo → Geo) : (s.modGeo f).snr = s.snr := rfl
@[simp] theorem State.modGeo_cam (s : State) (f : Geo → Geo) : (s.modGeo f).cam = s.cam := rfl
@[simp] theorem State.modGeo_stk (s : State) (f : Geo → Geo) : (s.modGeo f).stk = s.stk := rfl
@[simp] theorem State.modGeo_mot (s : State) (f : Geo → Geo) : (s.modGeo f).mot = s.mot := rfl
@[simp] theorem State.modGeo_enc (s : State) (f : Geo → Geo) : (s.modGeo f).enc = s.enc := rfl
@[simp] theorem State.modGeo_cle (s : State) (f : Geo → Geo) : (s.modGeo f).cle = s.cle := rfl
@[simp] theorem State.modGeo_led (s : State) (f : Geo → Geo) : (s.modGeo f).led = s.led := rfl
@[simp] theorem State.modGeo_tim (s : State) (f : Geo → Geo) : (s.modGeo f).tim = s.tim := rfl
@[simp] theorem State.modGeo_twn (s : State) (f : Geo → Geo) : (s.modGeo f).twn = s.twn := rfl
@[simp] theorem State.modGeo_rim (s : State) (f : Geo → Geo) : (s.modGeo f).rim = s.rim := rfl
@[simp] theorem State.modGeo_gng (s : State) (f : Geo → Geo) : (s.modGeo f).gng = s.gng := rfl
@[simp] theorem State.modGeo_gpio (s : State) (f : Geo → Geo) : (s.modGeo f).gpio = s.gpio := rfl
@[simp] theorem State.modGeo_i2c (s : State) (f : Geo → Geo) : (s.modGeo f).i2c = s.i2c := rfl
@[simp] theorem State.modGeo_copyOwn (s : State) (f : Geo → Geo) : (s.modGeo f).copyOwn = s.copyOwn := rfl
@[simp] theorem State.modGeo_copySince (s : State) (f : Geo → Geo) : (s.modGeo f).copySince = s.copySince := rfl
@[simp] theorem State.modGeo_dram (s : State) (f : Geo → Geo) : (s.modGeo f).dram = s.dram := rfl

@[simp] theorem State.modPgq_tick (s : State) (f : Pgq → Pgq) : (s.modPgq f).tick = s.tick := rfl
@[simp] theorem State.modPgq_pending (s : State) (f : Pgq → Pgq) : (s.modPgq f).pending = s.pending := rfl
@[simp] theorem State.modPgq_out (s : State) (f : Pgq → Pgq) : (s.modPgq f).out = s.out := rfl
@[simp] theorem State.modPgq_free (s : State) (f : Pgq → Pgq) : (s.modPgq f).free = s.free := rfl
@[simp] theorem State.modPgq_sys (s : State) (f : Pgq → Pgq) : (s.modPgq f).sys = s.sys := rfl
@[simp] theorem State.modPgq_hif (s : State) (f : Pgq → Pgq) : (s.modPgq f).hif = s.hif := rfl
@[simp] theorem State.modPgq_evt (s : State) (f : Pgq → Pgq) : (s.modPgq f).evt = s.evt := rfl
@[simp] theorem State.modPgq_geo (s : State) (f : Pgq → Pgq) : (s.modPgq f).geo = s.geo := rfl
@[simp] theorem State.modPgq_pgq (s : State) (f : Pgq → Pgq) : (s.modPgq f).pgq = f s.pgq := rfl
@[simp] theorem State.modPgq_dec (s : State) (f : Pgq → Pgq) : (s.modPgq f).dec = s.dec := rfl
@[simp] theorem State.modPgq_cmp (s : State) (f : Pgq → Pgq) : (s.modPgq f).cmp = s.cmp := rfl
@[simp] theorem State.modPgq_mal (s : State) (f : Pgq → Pgq) : (s.modPgq f).mal = s.mal := rfl
@[simp] theorem State.modPgq_sub (s : State) (f : Pgq → Pgq) : (s.modPgq f).sub = s.sub := rfl
@[simp] theorem State.modPgq_fir (s : State) (f : Pgq → Pgq) : (s.modPgq f).fir = s.fir := rfl
@[simp] theorem State.modPgq_snr (s : State) (f : Pgq → Pgq) : (s.modPgq f).snr = s.snr := rfl
@[simp] theorem State.modPgq_cam (s : State) (f : Pgq → Pgq) : (s.modPgq f).cam = s.cam := rfl
@[simp] theorem State.modPgq_stk (s : State) (f : Pgq → Pgq) : (s.modPgq f).stk = s.stk := rfl
@[simp] theorem State.modPgq_mot (s : State) (f : Pgq → Pgq) : (s.modPgq f).mot = s.mot := rfl
@[simp] theorem State.modPgq_enc (s : State) (f : Pgq → Pgq) : (s.modPgq f).enc = s.enc := rfl
@[simp] theorem State.modPgq_cle (s : State) (f : Pgq → Pgq) : (s.modPgq f).cle = s.cle := rfl
@[simp] theorem State.modPgq_led (s : State) (f : Pgq → Pgq) : (s.modPgq f).led = s.led := rfl
@[simp] theorem State.modPgq_tim (s : State) (f : Pgq → Pgq) : (s.modPgq f).tim = s.tim := rfl
@[simp] theorem State.modPgq_twn (s : State) (f : Pgq → Pgq) : (s.modPgq f).twn = s.twn := rfl
@[simp] theorem State.modPgq_rim (s : State) (f : Pgq → Pgq) : (s.modPgq f).rim = s.rim := rfl
@[simp] theorem State.modPgq_gng (s : State) (f : Pgq → Pgq) : (s.modPgq f).gng = s.gng := rfl
@[simp] theorem State.modPgq_gpio (s : State) (f : Pgq → Pgq) : (s.modPgq f).gpio = s.gpio := rfl
@[simp] theorem State.modPgq_i2c (s : State) (f : Pgq → Pgq) : (s.modPgq f).i2c = s.i2c := rfl
@[simp] theorem State.modPgq_copyOwn (s : State) (f : Pgq → Pgq) : (s.modPgq f).copyOwn = s.copyOwn := rfl
@[simp] theorem State.modPgq_copySince (s : State) (f : Pgq → Pgq) : (s.modPgq f).copySince = s.copySince := rfl
@[simp] theorem State.modPgq_dram (s : State) (f : Pgq → Pgq) : (s.modPgq f).dram = s.dram := rfl

@[simp] theorem State.modDec_tick (s : State) (f : Dec → Dec) : (s.modDec f).tick = s.tick := rfl
@[simp] theorem State.modDec_pending (s : State) (f : Dec → Dec) : (s.modDec f).pending = s.pending := rfl
@[simp] theorem State.modDec_out (s : State) (f : Dec → Dec) : (s.modDec f).out = s.out := rfl
@[simp] theorem State.modDec_free (s : State) (f : Dec → Dec) : (s.modDec f).free = s.free := rfl
@[simp] theorem State.modDec_sys (s : State) (f : Dec → Dec) : (s.modDec f).sys = s.sys := rfl
@[simp] theorem State.modDec_hif (s : State) (f : Dec → Dec) : (s.modDec f).hif = s.hif := rfl
@[simp] theorem State.modDec_evt (s : State) (f : Dec → Dec) : (s.modDec f).evt = s.evt := rfl
@[simp] theorem State.modDec_geo (s : State) (f : Dec → Dec) : (s.modDec f).geo = s.geo := rfl
@[simp] theorem State.modDec_pgq (s : State) (f : Dec → Dec) : (s.modDec f).pgq = s.pgq := rfl
@[simp] theorem State.modDec_dec (s : State) (f : Dec → Dec) : (s.modDec f).dec = f s.dec := rfl
@[simp] theorem State.modDec_cmp (s : State) (f : Dec → Dec) : (s.modDec f).cmp = s.cmp := rfl
@[simp] theorem State.modDec_mal (s : State) (f : Dec → Dec) : (s.modDec f).mal = s.mal := rfl
@[simp] theorem State.modDec_sub (s : State) (f : Dec → Dec) : (s.modDec f).sub = s.sub := rfl
@[simp] theorem State.modDec_fir (s : State) (f : Dec → Dec) : (s.modDec f).fir = s.fir := rfl
@[simp] theorem State.modDec_snr (s : State) (f : Dec → Dec) : (s.modDec f).snr = s.snr := rfl
@[simp] theorem State.modDec_cam (s : State) (f : Dec → Dec) : (s.modDec f).cam = s.cam := rfl
@[simp] theorem State.modDec_stk (s : State) (f : Dec → Dec) : (s.modDec f).stk = s.stk := rfl
@[simp] theorem State.modDec_mot (s : State) (f : Dec → Dec) : (s.modDec f).mot = s.mot := rfl
@[simp] theorem State.modDec_enc (s : State) (f : Dec → Dec) : (s.modDec f).enc = s.enc := rfl
@[simp] theorem State.modDec_cle (s : State) (f : Dec → Dec) : (s.modDec f).cle = s.cle := rfl
@[simp] theorem State.modDec_led (s : State) (f : Dec → Dec) : (s.modDec f).led = s.led := rfl
@[simp] theorem State.modDec_tim (s : State) (f : Dec → Dec) : (s.modDec f).tim = s.tim := rfl
@[simp] theorem State.modDec_twn (s : State) (f : Dec → Dec) : (s.modDec f).twn = s.twn := rfl
@[simp] theorem State.modDec_rim (s : State) (f : Dec → Dec) : (s.modDec f).rim = s.rim := rfl
@[simp] theorem State.modDec_gng (s : State) (f : Dec → Dec) : (s.modDec f).gng = s.gng := rfl
@[simp] theorem State.modDec_gpio (s : State) (f : Dec → Dec) : (s.modDec f).gpio = s.gpio := rfl
@[simp] theorem State.modDec_i2c (s : State) (f : Dec → Dec) : (s.modDec f).i2c = s.i2c := rfl
@[simp] theorem State.modDec_copyOwn (s : State) (f : Dec → Dec) : (s.modDec f).copyOwn = s.copyOwn := rfl
@[simp] theorem State.modDec_copySince (s : State) (f : Dec → Dec) : (s.modDec f).copySince = s.copySince := rfl
@[simp] theorem State.modDec_dram (s : State) (f : Dec → Dec) : (s.modDec f).dram = s.dram := rfl

@[simp] theorem State.modCmp_tick (s : State) (f : Cmp → Cmp) : (s.modCmp f).tick = s.tick := rfl
@[simp] theorem State.modCmp_pending (s : State) (f : Cmp → Cmp) : (s.modCmp f).pending = s.pending := rfl
@[simp] theorem State.modCmp_out (s : State) (f : Cmp → Cmp) : (s.modCmp f).out = s.out := rfl
@[simp] theorem State.modCmp_free (s : State) (f : Cmp → Cmp) : (s.modCmp f).free = s.free := rfl
@[simp] theorem State.modCmp_sys (s : State) (f : Cmp → Cmp) : (s.modCmp f).sys = s.sys := rfl
@[simp] theorem State.modCmp_hif (s : State) (f : Cmp → Cmp) : (s.modCmp f).hif = s.hif := rfl
@[simp] theorem State.modCmp_evt (s : State) (f : Cmp → Cmp) : (s.modCmp f).evt = s.evt := rfl
@[simp] theorem State.modCmp_geo (s : State) (f : Cmp → Cmp) : (s.modCmp f).geo = s.geo := rfl
@[simp] theorem State.modCmp_pgq (s : State) (f : Cmp → Cmp) : (s.modCmp f).pgq = s.pgq := rfl
@[simp] theorem State.modCmp_dec (s : State) (f : Cmp → Cmp) : (s.modCmp f).dec = s.dec := rfl
@[simp] theorem State.modCmp_cmp (s : State) (f : Cmp → Cmp) : (s.modCmp f).cmp = f s.cmp := rfl
@[simp] theorem State.modCmp_mal (s : State) (f : Cmp → Cmp) : (s.modCmp f).mal = s.mal := rfl
@[simp] theorem State.modCmp_sub (s : State) (f : Cmp → Cmp) : (s.modCmp f).sub = s.sub := rfl
@[simp] theorem State.modCmp_fir (s : State) (f : Cmp → Cmp) : (s.modCmp f).fir = s.fir := rfl
@[simp] theorem State.modCmp_snr (s : State) (f : Cmp → Cmp) : (s.modCmp f).snr = s.snr := rfl
@[simp] theorem State.modCmp_cam (s : State) (f : Cmp → Cmp) : (s.modCmp f).cam = s.cam := rfl
@[simp] theorem State.modCmp_stk (s : State) (f : Cmp → Cmp) : (s.modCmp f).stk = s.stk := rfl
@[simp] theorem State.modCmp_mot (s : State) (f : Cmp → Cmp) : (s.modCmp f).mot = s.mot := rfl
@[simp] theorem State.modCmp_enc (s : State) (f : Cmp → Cmp) : (s.modCmp f).enc = s.enc := rfl
@[simp] theorem State.modCmp_cle (s : State) (f : Cmp → Cmp) : (s.modCmp f).cle = s.cle := rfl
@[simp] theorem State.modCmp_led (s : State) (f : Cmp → Cmp) : (s.modCmp f).led = s.led := rfl
@[simp] theorem State.modCmp_tim (s : State) (f : Cmp → Cmp) : (s.modCmp f).tim = s.tim := rfl
@[simp] theorem State.modCmp_twn (s : State) (f : Cmp → Cmp) : (s.modCmp f).twn = s.twn := rfl
@[simp] theorem State.modCmp_rim (s : State) (f : Cmp → Cmp) : (s.modCmp f).rim = s.rim := rfl
@[simp] theorem State.modCmp_gng (s : State) (f : Cmp → Cmp) : (s.modCmp f).gng = s.gng := rfl
@[simp] theorem State.modCmp_gpio (s : State) (f : Cmp → Cmp) : (s.modCmp f).gpio = s.gpio := rfl
@[simp] theorem State.modCmp_i2c (s : State) (f : Cmp → Cmp) : (s.modCmp f).i2c = s.i2c := rfl
@[simp] theorem State.modCmp_copyOwn (s : State) (f : Cmp → Cmp) : (s.modCmp f).copyOwn = s.copyOwn := rfl
@[simp] theorem State.modCmp_copySince (s : State) (f : Cmp → Cmp) : (s.modCmp f).copySince = s.copySince := rfl
@[simp] theorem State.modCmp_dram (s : State) (f : Cmp → Cmp) : (s.modCmp f).dram = s.dram := rfl

@[simp] theorem State.modMal_tick (s : State) (f : Mal → Mal) : (s.modMal f).tick = s.tick := rfl
@[simp] theorem State.modMal_pending (s : State) (f : Mal → Mal) : (s.modMal f).pending = s.pending := rfl
@[simp] theorem State.modMal_out (s : State) (f : Mal → Mal) : (s.modMal f).out = s.out := rfl
@[simp] theorem State.modMal_free (s : State) (f : Mal → Mal) : (s.modMal f).free = s.free := rfl
@[simp] theorem State.modMal_sys (s : State) (f : Mal → Mal) : (s.modMal f).sys = s.sys := rfl
@[simp] theorem State.modMal_hif (s : State) (f : Mal → Mal) : (s.modMal f).hif = s.hif := rfl
@[simp] theorem State.modMal_evt (s : State) (f : Mal → Mal) : (s.modMal f).evt = s.evt := rfl
@[simp] theorem State.modMal_geo (s : State) (f : Mal → Mal) : (s.modMal f).geo = s.geo := rfl
@[simp] theorem State.modMal_pgq (s : State) (f : Mal → Mal) : (s.modMal f).pgq = s.pgq := rfl
@[simp] theorem State.modMal_dec (s : State) (f : Mal → Mal) : (s.modMal f).dec = s.dec := rfl
@[simp] theorem State.modMal_cmp (s : State) (f : Mal → Mal) : (s.modMal f).cmp = s.cmp := rfl
@[simp] theorem State.modMal_mal (s : State) (f : Mal → Mal) : (s.modMal f).mal = f s.mal := rfl
@[simp] theorem State.modMal_sub (s : State) (f : Mal → Mal) : (s.modMal f).sub = s.sub := rfl
@[simp] theorem State.modMal_fir (s : State) (f : Mal → Mal) : (s.modMal f).fir = s.fir := rfl
@[simp] theorem State.modMal_snr (s : State) (f : Mal → Mal) : (s.modMal f).snr = s.snr := rfl
@[simp] theorem State.modMal_cam (s : State) (f : Mal → Mal) : (s.modMal f).cam = s.cam := rfl
@[simp] theorem State.modMal_stk (s : State) (f : Mal → Mal) : (s.modMal f).stk = s.stk := rfl
@[simp] theorem State.modMal_mot (s : State) (f : Mal → Mal) : (s.modMal f).mot = s.mot := rfl
@[simp] theorem State.modMal_enc (s : State) (f : Mal → Mal) : (s.modMal f).enc = s.enc := rfl
@[simp] theorem State.modMal_cle (s : State) (f : Mal → Mal) : (s.modMal f).cle = s.cle := rfl
@[simp] theorem State.modMal_led (s : State) (f : Mal → Mal) : (s.modMal f).led = s.led := rfl
@[simp] theorem State.modMal_tim (s : State) (f : Mal → Mal) : (s.modMal f).tim = s.tim := rfl
@[simp] theorem State.modMal_twn (s : State) (f : Mal → Mal) : (s.modMal f).twn = s.twn := rfl
@[simp] theorem State.modMal_rim (s : State) (f : Mal → Mal) : (s.modMal f).rim = s.rim := rfl
@[simp] theorem State.modMal_gng (s : State) (f : Mal → Mal) : (s.modMal f).gng = s.gng := rfl
@[simp] theorem State.modMal_gpio (s : State) (f : Mal → Mal) : (s.modMal f).gpio = s.gpio := rfl
@[simp] theorem State.modMal_i2c (s : State) (f : Mal → Mal) : (s.modMal f).i2c = s.i2c := rfl
@[simp] theorem State.modMal_copyOwn (s : State) (f : Mal → Mal) : (s.modMal f).copyOwn = s.copyOwn := rfl
@[simp] theorem State.modMal_copySince (s : State) (f : Mal → Mal) : (s.modMal f).copySince = s.copySince := rfl
@[simp] theorem State.modMal_dram (s : State) (f : Mal → Mal) : (s.modMal f).dram = s.dram := rfl

@[simp] theorem State.modSub_tick (s : State) (f : Sub → Sub) : (s.modSub f).tick = s.tick := rfl
@[simp] theorem State.modSub_pending (s : State) (f : Sub → Sub) : (s.modSub f).pending = s.pending := rfl
@[simp] theorem State.modSub_out (s : State) (f : Sub → Sub) : (s.modSub f).out = s.out := rfl
@[simp] theorem State.modSub_free (s : State) (f : Sub → Sub) : (s.modSub f).free = s.free := rfl
@[simp] theorem State.modSub_sys (s : State) (f : Sub → Sub) : (s.modSub f).sys = s.sys := rfl
@[simp] theorem State.modSub_hif (s : State) (f : Sub → Sub) : (s.modSub f).hif = s.hif := rfl
@[simp] theorem State.modSub_evt (s : State) (f : Sub → Sub) : (s.modSub f).evt = s.evt := rfl
@[simp] theorem State.modSub_geo (s : State) (f : Sub → Sub) : (s.modSub f).geo = s.geo := rfl
@[simp] theorem State.modSub_pgq (s : State) (f : Sub → Sub) : (s.modSub f).pgq = s.pgq := rfl
@[simp] theorem State.modSub_dec (s : State) (f : Sub → Sub) : (s.modSub f).dec = s.dec := rfl
@[simp] theorem State.modSub_cmp (s : State) (f : Sub → Sub) : (s.modSub f).cmp = s.cmp := rfl
@[simp] theorem State.modSub_mal (s : State) (f : Sub → Sub) : (s.modSub f).mal = s.mal := rfl
@[simp] theorem State.modSub_sub (s : State) (f : Sub → Sub) : (s.modSub f).sub = f s.sub := rfl
@[simp] theorem State.modSub_fir (s : State) (f : Sub → Sub) : (s.modSub f).fir = s.fir := rfl
@[simp] theorem State.modSub_snr (s : State) (f : Sub → Sub) : (s.modSub f).snr = s.snr := rfl
@[simp] theorem State.modSub_cam (s : State) (f : Sub → Sub) : (s.modSub f).cam = s.cam := rfl
@[simp] theorem State.modSub_stk (s : State) (f : Sub → Sub) : (s.modSub f).stk = s.stk := rfl
@[simp] theorem State.modSub_mot (s : State) (f : Sub → Sub) : (s.modSub f).mot = s.mot := rfl
@[simp] theorem State.modSub_enc (s : State) (f : Sub → Sub) : (s.modSub f).enc = s.enc := rfl
@[simp] theorem State.modSub_cle (s : State) (f : Sub → Sub) : (s.modSub f).cle = s.cle := rfl
@[simp] theorem State.modSub_led (s : State) (f : Sub → Sub) : (s.modSub f).led = s.led := rfl
@[simp] theorem State.modSub_tim (s : State) (f : Sub → Sub) : (s.modSub f).tim = s.tim := rfl
@[simp] theorem State.modSub_twn (s : State) (f : Sub → Sub) : (s.modSub f).twn = s.twn := rfl
@[simp] theorem State.modSub_rim (s : State) (f : Sub → Sub) : (s.modSub f).rim = s.rim := rfl
@[simp] theorem State.modSub_gng (s : State) (f : Sub → Sub) : (s.modSub f).gng = s.gng := rfl
@[simp] theorem State.modSub_gpio (s : State) (f : Sub → Sub) : (s.modSub f).gpio = s.gpio := rfl
@[simp] theorem State.modSub_i2c (s : State) (f : Sub → Sub) : (s.modSub f).i2c = s.i2c := rfl
@[simp] theorem State.modSub_copyOwn (s : State) (f : Sub → Sub) : (s.modSub f).copyOwn = s.copyOwn := rfl
@[simp] theorem State.modSub_copySince (s : State) (f : Sub → Sub) : (s.modSub f).copySince = s.copySince := rfl
@[simp] theorem State.modSub_dram (s : State) (f : Sub → Sub) : (s.modSub f).dram = s.dram := rfl

@[simp] theorem State.modFir_tick (s : State) (f : Fir → Fir) : (s.modFir f).tick = s.tick := rfl
@[simp] theorem State.modFir_pending (s : State) (f : Fir → Fir) : (s.modFir f).pending = s.pending := rfl
@[simp] theorem State.modFir_out (s : State) (f : Fir → Fir) : (s.modFir f).out = s.out := rfl
@[simp] theorem State.modFir_free (s : State) (f : Fir → Fir) : (s.modFir f).free = s.free := rfl
@[simp] theorem State.modFir_sys (s : State) (f : Fir → Fir) : (s.modFir f).sys = s.sys := rfl
@[simp] theorem State.modFir_hif (s : State) (f : Fir → Fir) : (s.modFir f).hif = s.hif := rfl
@[simp] theorem State.modFir_evt (s : State) (f : Fir → Fir) : (s.modFir f).evt = s.evt := rfl
@[simp] theorem State.modFir_geo (s : State) (f : Fir → Fir) : (s.modFir f).geo = s.geo := rfl
@[simp] theorem State.modFir_pgq (s : State) (f : Fir → Fir) : (s.modFir f).pgq = s.pgq := rfl
@[simp] theorem State.modFir_dec (s : State) (f : Fir → Fir) : (s.modFir f).dec = s.dec := rfl
@[simp] theorem State.modFir_cmp (s : State) (f : Fir → Fir) : (s.modFir f).cmp = s.cmp := rfl
@[simp] theorem State.modFir_mal (s : State) (f : Fir → Fir) : (s.modFir f).mal = s.mal := rfl
@[simp] theorem State.modFir_sub (s : State) (f : Fir → Fir) : (s.modFir f).sub = s.sub := rfl
@[simp] theorem State.modFir_fir (s : State) (f : Fir → Fir) : (s.modFir f).fir = f s.fir := rfl
@[simp] theorem State.modFir_snr (s : State) (f : Fir → Fir) : (s.modFir f).snr = s.snr := rfl
@[simp] theorem State.modFir_cam (s : State) (f : Fir → Fir) : (s.modFir f).cam = s.cam := rfl
@[simp] theorem State.modFir_stk (s : State) (f : Fir → Fir) : (s.modFir f).stk = s.stk := rfl
@[simp] theorem State.modFir_mot (s : State) (f : Fir → Fir) : (s.modFir f).mot = s.mot := rfl
@[simp] theorem State.modFir_enc (s : State) (f : Fir → Fir) : (s.modFir f).enc = s.enc := rfl
@[simp] theorem State.modFir_cle (s : State) (f : Fir → Fir) : (s.modFir f).cle = s.cle := rfl
@[simp] theorem State.modFir_led (s : State) (f : Fir → Fir) : (s.modFir f).led = s.led := rfl
@[simp] theorem State.modFir_tim (s : State) (f : Fir → Fir) : (s.modFir f).tim = s.tim := rfl
@[simp] theorem State.modFir_twn (s : State) (f : Fir → Fir) : (s.modFir f).twn = s.twn := rfl
@[simp] theorem State.modFir_rim (s : State) (f : Fir → Fir) : (s.modFir f).rim = s.rim := rfl
@[simp] theorem State.modFir_gng (s : State) (f : Fir → Fir) : (s.modFir f).gng = s.gng := rfl
@[simp] theorem State.modFir_gpio (s : State) (f : Fir → Fir) : (s.modFir f).gpio = s.gpio := rfl
@[simp] theorem State.modFir_i2c (s : State) (f : Fir → Fir) : (s.modFir f).i2c = s.i2c := rfl
@[simp] theorem State.modFir_copyOwn (s : State) (f : Fir → Fir) : (s.modFir f).copyOwn = s.copyOwn := rfl
@[simp] theorem State.modFir_copySince (s : State) (f : Fir → Fir) : (s.modFir f).copySince = s.copySince := rfl
@[simp] theorem State.modFir_dram (s : State) (f : Fir → Fir) : (s.modFir f).dram = s.dram := rfl

@[simp] theorem State.modSnr_tick (s : State) (f : Snr → Snr) : (s.modSnr f).tick = s.tick := rfl
@[simp] theorem State.modSnr_pending (s : State) (f : Snr → Snr) : (s.modSnr f).pending = s.pending := rfl
@[simp] theorem State.modSnr_out (s : State) (f : Snr → Snr) : (s.modSnr f).out = s.out := rfl
@[simp] theorem State.modSnr_free (s : State) (f : Snr → Snr) : (s.modSnr f).free = s.free := rfl
@[simp] theorem State.modSnr_sys (s : State) (f : Snr → Snr) : (s.modSnr f).sys = s.sys := rfl
@[simp] theorem State.modSnr_hif (s : State) (f : Snr → Snr) : (s.modSnr f).hif = s.hif := rfl
@[simp] theorem State.modSnr_evt (s : State) (f : Snr → Snr) : (s.modSnr f).evt = s.evt := rfl
@[simp] theorem State.modSnr_geo (s : State) (f : Snr → Snr) : (s.modSnr f).geo = s.geo := rfl
@[simp] theorem State.modSnr_pgq (s : State) (f : Snr → Snr) : (s.modSnr f).pgq = s.pgq := rfl
@[simp] theorem State.modSnr_dec (s : State) (f : Snr → Snr) : (s.modSnr f).dec = s.dec := rfl
@[simp] theorem State.modSnr_cmp (s : State) (f : Snr → Snr) : (s.modSnr f).cmp = s.cmp := rfl
@[simp] theorem State.modSnr_mal (s : State) (f : Snr → Snr) : (s.modSnr f).mal = s.mal := rfl
@[simp] theorem State.modSnr_sub (s : State) (f : Snr → Snr) : (s.modSnr f).sub = s.sub := rfl
@[simp] theorem State.modSnr_fir (s : State) (f : Snr → Snr) : (s.modSnr f).fir = s.fir := rfl
@[simp] theorem State.modSnr_snr (s : State) (f : Snr → Snr) : (s.modSnr f).snr = f s.snr := rfl
@[simp] theorem State.modSnr_cam (s : State) (f : Snr → Snr) : (s.modSnr f).cam = s.cam := rfl
@[simp] theorem State.modSnr_stk (s : State) (f : Snr → Snr) : (s.modSnr f).stk = s.stk := rfl
@[simp] theorem State.modSnr_mot (s : State) (f : Snr → Snr) : (s.modSnr f).mot = s.mot := rfl
@[simp] theorem State.modSnr_enc (s : State) (f : Snr → Snr) : (s.modSnr f).enc = s.enc := rfl
@[simp] theorem State.modSnr_cle (s : State) (f : Snr → Snr) : (s.modSnr f).cle = s.cle := rfl
@[simp] theorem State.modSnr_led (s : State) (f : Snr → Snr) : (s.modSnr f).led = s.led := rfl
@[simp] theorem State.modSnr_tim (s : State) (f : Snr → Snr) : (s.modSnr f).tim = s.tim := rfl
@[simp] theorem State.modSnr_twn (s : State) (f : Snr → Snr) : (s.modSnr f).twn = s.twn := rfl
@[simp] theorem State.modSnr_rim (s : State) (f : Snr → Snr) : (s.modSnr f).rim = s.rim := rfl
@[simp] theorem State.modSnr_gng (s : State) (f : Snr → Snr) : (s.modSnr f).gng = s.gng := rfl
@[simp] theorem State.modSnr_gpio (s : State) (f : Snr → Snr) : (s.modSnr f).gpio = s.gpio := rfl
@[simp] theorem State.modSnr_i2c (s : State) (f : Snr → Snr) : (s.modSnr f).i2c = s.i2c := rfl
@[simp] theorem State.modSnr_copyOwn (s : State) (f : Snr → Snr) : (s.modSnr f).copyOwn = s.copyOwn := rfl
@[simp] theorem State.modSnr_copySince (s : State) (f : Snr → Snr) : (s.modSnr f).copySince = s.copySince := rfl
@[simp] theorem State.modSnr_dram (s : State) (f : Snr → Snr) : (s.modSnr f).dram = s.dram := rfl

@[simp] theorem State.modCam_tick (s : State) (f : Cam → Cam) : (s.modCam f).tick = s.tick := rfl
@[simp] theorem State.modCam_pending (s : State) (f : Cam → Cam) : (s.modCam f).pending = s.pending := rfl
@[simp] theorem State.modCam_out (s : State) (f : Cam → Cam) : (s.modCam f).out = s.out := rfl
@[simp] theorem State.modCam_free (s : State) (f : Cam → Cam) : (s.modCam f).free = s.free := rfl
@[simp] theorem State.modCam_sys (s : State) (f : Cam → Cam) : (s.modCam f).sys = s.sys := rfl
@[simp] theorem State.modCam_hif (s : State) (f : Cam → Cam) : (s.modCam f).hif = s.hif := rfl
@[simp] theorem State.modCam_evt (s : State) (f : Cam → Cam) : (s.modCam f).evt = s.evt := rfl
@[simp] theorem State.modCam_geo (s : State) (f : Cam → Cam) : (s.modCam f).geo = s.geo := rfl
@[simp] theorem State.modCam_pgq (s : State) (f : Cam → Cam) : (s.modCam f).pgq = s.pgq := rfl
@[simp] theorem State.modCam_dec (s : State) (f : Cam → Cam) : (s.modCam f).dec = s.dec := rfl
@[simp] theorem State.modCam_cmp (s : State) (f : Cam → Cam) : (s.modCam f).cmp = s.cmp := rfl
@[simp] theorem State.modCam_mal (s : State) (f : Cam → Cam) : (s.modCam f).mal = s.mal := rfl
@[simp] theorem State.modCam_sub (s : State) (f : Cam → Cam) : (s.modCam f).sub = s.sub := rfl
@[simp] theorem State.modCam_fir (s : State) (f : Cam → Cam) : (s.modCam f).fir = s.fir := rfl
@[simp] theorem State.modCam_snr (s : State) (f : Cam → Cam) : (s.modCam f).snr = s.snr := rfl
@[simp] theorem State.modCam_cam (s : State) (f : Cam → Cam) : (s.modCam f).cam = f s.cam := rfl
@[simp] theorem State.modCam_stk (s : State) (f : Cam → Cam) : (s.modCam f).stk = s.stk := rfl
@[simp] theorem State.modCam_mot (s : State) (f : Cam → Cam) : (s.modCam f).mot = s.mot := rfl
@[simp] theorem State.modCam_enc (s : State) (f : Cam → Cam) : (s.modCam f).enc = s.enc := rfl
@[simp] theorem State.modCam_cle (s : State) (f : Cam → Cam) : (s.modCam f).cle = s.cle := rfl
@[simp] theorem State.modCam_led (s : State) (f : Cam → Cam) : (s.modCam f).led = s.led := rfl
@[simp] theorem State.modCam_tim (s : State) (f : Cam → Cam) : (s.modCam f).tim = s.tim := rfl
@[simp] theorem State.modCam_twn (s : State) (f : Cam → Cam) : (s.modCam f).twn = s.twn := rfl
@[simp] theorem State.modCam_rim (s : State) (f : Cam → Cam) : (s.modCam f).rim = s.rim := rfl
@[simp] theorem State.modCam_gng (s : State) (f : Cam → Cam) : (s.modCam f).gng = s.gng := rfl
@[simp] theorem State.modCam_gpio (s : State) (f : Cam → Cam) : (s.modCam f).gpio = s.gpio := rfl
@[simp] theorem State.modCam_i2c (s : State) (f : Cam → Cam) : (s.modCam f).i2c = s.i2c := rfl
@[simp] theorem State.modCam_copyOwn (s : State) (f : Cam → Cam) : (s.modCam f).copyOwn = s.copyOwn := rfl
@[simp] theorem State.modCam_copySince (s : State) (f : Cam → Cam) : (s.modCam f).copySince = s.copySince := rfl
@[simp] theorem State.modCam_dram (s : State) (f : Cam → Cam) : (s.modCam f).dram = s.dram := rfl

@[simp] theorem State.modStk_tick (s : State) (f : Stk → Stk) : (s.modStk f).tick = s.tick := rfl
@[simp] theorem State.modStk_pending (s : State) (f : Stk → Stk) : (s.modStk f).pending = s.pending := rfl
@[simp] theorem State.modStk_out (s : State) (f : Stk → Stk) : (s.modStk f).out = s.out := rfl
@[simp] theorem State.modStk_free (s : State) (f : Stk → Stk) : (s.modStk f).free = s.free := rfl
@[simp] theorem State.modStk_sys (s : State) (f : Stk → Stk) : (s.modStk f).sys = s.sys := rfl
@[simp] theorem State.modStk_hif (s : State) (f : Stk → Stk) : (s.modStk f).hif = s.hif := rfl
@[simp] theorem State.modStk_evt (s : State) (f : Stk → Stk) : (s.modStk f).evt = s.evt := rfl
@[simp] theorem State.modStk_geo (s : State) (f : Stk → Stk) : (s.modStk f).geo = s.geo := rfl
@[simp] theorem State.modStk_pgq (s : State) (f : Stk → Stk) : (s.modStk f).pgq = s.pgq := rfl
@[simp] theorem State.modStk_dec (s : State) (f : Stk → Stk) : (s.modStk f).dec = s.dec := rfl
@[simp] theorem State.modStk_cmp (s : State) (f : Stk → Stk) : (s.modStk f).cmp = s.cmp := rfl
@[simp] theorem State.modStk_mal (s : State) (f : Stk → Stk) : (s.modStk f).mal = s.mal := rfl
@[simp] theorem State.modStk_sub (s : State) (f : Stk → Stk) : (s.modStk f).sub = s.sub := rfl
@[simp] theorem State.modStk_fir (s : State) (f : Stk → Stk) : (s.modStk f).fir = s.fir := rfl
@[simp] theorem State.modStk_snr (s : State) (f : Stk → Stk) : (s.modStk f).snr = s.snr := rfl
@[simp] theorem State.modStk_cam (s : State) (f : Stk → Stk) : (s.modStk f).cam = s.cam := rfl
@[simp] theorem State.modStk_stk (s : State) (f : Stk → Stk) : (s.modStk f).stk = f s.stk := rfl
@[simp] theorem State.modStk_mot (s : State) (f : Stk → Stk) : (s.modStk f).mot = s.mot := rfl
@[simp] theorem State.modStk_enc (s : State) (f : Stk → Stk) : (s.modStk f).enc = s.enc := rfl
@[simp] theorem State.modStk_cle (s : State) (f : Stk → Stk) : (s.modStk f).cle = s.cle := rfl
@[simp] theorem State.modStk_led (s : State) (f : Stk → Stk) : (s.modStk f).led = s.led := rfl
@[simp] theorem State.modStk_tim (s : State) (f : Stk → Stk) : (s.modStk f).tim = s.tim := rfl
@[simp] theorem State.modStk_twn (s : State) (f : Stk → Stk) : (s.modStk f).twn = s.twn := rfl
@[simp] theorem State.modStk_rim (s : State) (f : Stk → Stk) : (s.modStk f).rim = s.rim := rfl
@[simp] theorem State.modStk_gng (s : State) (f : Stk → Stk) : (s.modStk f).gng = s.gng := rfl
@[simp] theorem State.modStk_gpio (s : State) (f : Stk → Stk) : (s.modStk f).gpio = s.gpio := rfl
@[simp] theorem State.modStk_i2c (s : State) (f : Stk → Stk) : (s.modStk f).i2c = s.i2c := rfl
@[simp] theorem State.modStk_copyOwn (s : State) (f : Stk → Stk) : (s.modStk f).copyOwn = s.copyOwn := rfl
@[simp] theorem State.modStk_copySince (s : State) (f : Stk → Stk) : (s.modStk f).copySince = s.copySince := rfl
@[simp] theorem State.modStk_dram (s : State) (f : Stk → Stk) : (s.modStk f).dram = s.dram := rfl

@[simp] theorem State.modMot_tick (s : State) (f : Mot → Mot) : (s.modMot f).tick = s.tick := rfl
@[simp] theorem State.modMot_pending (s : State) (f : Mot → Mot) : (s.modMot f).pending = s.pending := rfl
@[simp] theorem State.modMot_out (s : State) (f : Mot → Mot) : (s.modMot f).out = s.out := rfl
@[simp] theorem State.modMot_free (s : State) (f : Mot → Mot) : (s.modMot f).free = s.free := rfl
@[simp] theorem State.modMot_sys (s : State) (f : Mot → Mot) : (s.modMot f).sys = s.sys := rfl
@[simp] theorem State.modMot_hif (s : State) (f : Mot → Mot) : (s.modMot f).hif = s.hif := rfl
@[simp] theorem State.modMot_evt (s : State) (f : Mot → Mot) : (s.modMot f).evt = s.evt := rfl
@[simp] theorem State.modMot_geo (s : State) (f : Mot → Mot) : (s.modMot f).geo = s.geo := rfl
@[simp] theorem State.modMot_pgq (s : State) (f : Mot → Mot) : (s.modMot f).pgq = s.pgq := rfl
@[simp] theorem State.modMot_dec (s : State) (f : Mot → Mot) : (s.modMot f).dec = s.dec := rfl
@[simp] theorem State.modMot_cmp (s : State) (f : Mot → Mot) : (s.modMot f).cmp = s.cmp := rfl
@[simp] theorem State.modMot_mal (s : State) (f : Mot → Mot) : (s.modMot f).mal = s.mal := rfl
@[simp] theorem State.modMot_sub (s : State) (f : Mot → Mot) : (s.modMot f).sub = s.sub := rfl
@[simp] theorem State.modMot_fir (s : State) (f : Mot → Mot) : (s.modMot f).fir = s.fir := rfl
@[simp] theorem State.modMot_snr (s : State) (f : Mot → Mot) : (s.modMot f).snr = s.snr := rfl
@[simp] theorem State.modMot_cam (s : State) (f : Mot → Mot) : (s.modMot f).cam = s.cam := rfl
@[simp] theorem State.modMot_stk (s : State) (f : Mot → Mot) : (s.modMot f).stk = s.stk := rfl
@[simp] theorem State.modMot_mot (s : State) (f : Mot → Mot) : (s.modMot f).mot = f s.mot := rfl
@[simp] theorem State.modMot_enc (s : State) (f : Mot → Mot) : (s.modMot f).enc = s.enc := rfl
@[simp] theorem State.modMot_cle (s : State) (f : Mot → Mot) : (s.modMot f).cle = s.cle := rfl
@[simp] theorem State.modMot_led (s : State) (f : Mot → Mot) : (s.modMot f).led = s.led := rfl
@[simp] theorem State.modMot_tim (s : State) (f : Mot → Mot) : (s.modMot f).tim = s.tim := rfl
@[simp] theorem State.modMot_twn (s : State) (f : Mot → Mot) : (s.modMot f).twn = s.twn := rfl
@[simp] theorem State.modMot_rim (s : State) (f : Mot → Mot) : (s.modMot f).rim = s.rim := rfl
@[simp] theorem State.modMot_gng (s : State) (f : Mot → Mot) : (s.modMot f).gng = s.gng := rfl
@[simp] theorem State.modMot_gpio (s : State) (f : Mot → Mot) : (s.modMot f).gpio = s.gpio := rfl
@[simp] theorem State.modMot_i2c (s : State) (f : Mot → Mot) : (s.modMot f).i2c = s.i2c := rfl
@[simp] theorem State.modMot_copyOwn (s : State) (f : Mot → Mot) : (s.modMot f).copyOwn = s.copyOwn := rfl
@[simp] theorem State.modMot_copySince (s : State) (f : Mot → Mot) : (s.modMot f).copySince = s.copySince := rfl
@[simp] theorem State.modMot_dram (s : State) (f : Mot → Mot) : (s.modMot f).dram = s.dram := rfl

@[simp] theorem State.modEnc_tick (s : State) (f : Enc → Enc) : (s.modEnc f).tick = s.tick := rfl
@[simp] theorem State.modEnc_pending (s : State) (f : Enc → Enc) : (s.modEnc f).pending = s.pending := rfl
@[simp] theorem State.modEnc_out (s : State) (f : Enc → Enc) : (s.modEnc f).out = s.out := rfl
@[simp] theorem State.modEnc_free (s : State) (f : Enc → Enc) : (s.modEnc f).free = s.free := rfl
@[simp] theorem State.modEnc_sys (s : State) (f : Enc → Enc) : (s.modEnc f).sys = s.sys := rfl
@[simp] theorem State.modEnc_hif (s : State) (f : Enc → Enc) : (s.modEnc f).hif = s.hif := rfl
@[simp] theorem State.modEnc_evt (s : State) (f : Enc → Enc) : (s.modEnc f).evt = s.evt := rfl
@[simp] theorem State.modEnc_geo (s : State) (f : Enc → Enc) : (s.modEnc f).geo = s.geo := rfl
@[simp] theorem State.modEnc_pgq (s : State) (f : Enc → Enc) : (s.modEnc f).pgq = s.pgq := rfl
@[simp] theorem State.modEnc_dec (s : State) (f : Enc → Enc) : (s.modEnc f).dec = s.dec := rfl
@[simp] theorem State.modEnc_cmp (s : State) (f : Enc → Enc) : (s.modEnc f).cmp = s.cmp := rfl
@[simp] theorem State.modEnc_mal (s : State) (f : Enc → Enc) : (s.modEnc f).mal = s.mal := rfl
@[simp] theorem State.modEnc_sub (s : State) (f : Enc → Enc) : (s.modEnc f).sub = s.sub := rfl
@[simp] theorem State.modEnc_fir (s : State) (f : Enc → Enc) : (s.modEnc f).fir = s.fir := rfl
@[simp] theorem State.modEnc_snr (s : State) (f : Enc → Enc) : (s.modEnc f).snr = s.snr := rfl
@[simp] theorem State.modEnc_cam (s : State) (f : Enc → Enc) : (s.modEnc f).cam = s.cam := rfl
@[simp] theorem State.modEnc_stk (s : State) (f : Enc → Enc) : (s.modEnc f).stk = s.stk := rfl
@[simp] theorem State.modEnc_mot (s : State) (f : Enc → Enc) : (s.modEnc f).mot = s.mot := rfl
@[simp] theorem State.modEnc_enc (s : State) (f : Enc → Enc) : (s.modEnc f).enc = f s.enc := rfl
@[simp] theorem State.modEnc_cle (s : State) (f : Enc → Enc) : (s.modEnc f).cle = s.cle := rfl
@[simp] theorem State.modEnc_led (s : State) (f : Enc → Enc) : (s.modEnc f).led = s.led := rfl
@[simp] theorem State.modEnc_tim (s : State) (f : Enc → Enc) : (s.modEnc f).tim = s.tim := rfl
@[simp] theorem State.modEnc_twn (s : State) (f : Enc → Enc) : (s.modEnc f).twn = s.twn := rfl
@[simp] theorem State.modEnc_rim (s : State) (f : Enc → Enc) : (s.modEnc f).rim = s.rim := rfl
@[simp] theorem State.modEnc_gng (s : State) (f : Enc → Enc) : (s.modEnc f).gng = s.gng := rfl
@[simp] theorem State.modEnc_gpio (s : State) (f : Enc → Enc) : (s.modEnc f).gpio = s.gpio := rfl
@[simp] theorem State.modEnc_i2c (s : State) (f : Enc → Enc) : (s.modEnc f).i2c = s.i2c := rfl
@[simp] theorem State.modEnc_copyOwn (s : State) (f : Enc → Enc) : (s.modEnc f).copyOwn = s.copyOwn := rfl
@[simp] theorem State.modEnc_copySince (s : State) (f : Enc → Enc) : (s.modEnc f).copySince = s.copySince := rfl
@[simp] theorem State.modEnc_dram (s : State) (f : Enc → Enc) : (s.modEnc f).dram = s.dram := rfl

@[simp] theorem State.modCle_tick (s : State) (f : Cle → Cle) : (s.modCle f).tick = s.tick := rfl
@[simp] theorem State.modCle_pending (s : State) (f : Cle → Cle) : (s.modCle f).pending = s.pending := rfl
@[simp] theorem State.modCle_out (s : State) (f : Cle → Cle) : (s.modCle f).out = s.out := rfl
@[simp] theorem State.modCle_free (s : State) (f : Cle → Cle) : (s.modCle f).free = s.free := rfl
@[simp] theorem State.modCle_sys (s : State) (f : Cle → Cle) : (s.modCle f).sys = s.sys := rfl
@[simp] theorem State.modCle_hif (s : State) (f : Cle → Cle) : (s.modCle f).hif = s.hif := rfl
@[simp] theorem State.modCle_evt (s : State) (f : Cle → Cle) : (s.modCle f).evt = s.evt := rfl
@[simp] theorem State.modCle_geo (s : State) (f : Cle → Cle) : (s.modCle f).geo = s.geo := rfl
@[simp] theorem State.modCle_pgq (s : State) (f : Cle → Cle) : (s.modCle f).pgq = s.pgq := rfl
@[simp] theorem State.modCle_dec (s : State) (f : Cle → Cle) : (s.modCle f).dec = s.dec := rfl
@[simp] theorem State.modCle_cmp (s : State) (f : Cle → Cle) : (s.modCle f).cmp = s.cmp := rfl
@[simp] theorem State.modCle_mal (s : State) (f : Cle → Cle) : (s.modCle f).mal = s.mal := rfl
@[simp] theorem State.modCle_sub (s : State) (f : Cle → Cle) : (s.modCle f).sub = s.sub := rfl
@[simp] theorem State.modCle_fir (s : State) (f : Cle → Cle) : (s.modCle f).fir = s.fir := rfl
@[simp] theorem State.modCle_snr (s : State) (f : Cle → Cle) : (s.modCle f).snr = s.snr := rfl
@[simp] theorem State.modCle_cam (s : State) (f : Cle → Cle) : (s.modCle f).cam = s.cam := rfl
@[simp] theorem State.modCle_stk (s : State) (f : Cle → Cle) : (s.modCle f).stk = s.stk := rfl
@[simp] theorem State.modCle_mot (s : State) (f : Cle → Cle) : (s.modCle f).mot = s.mot := rfl
@[simp] theorem State.modCle_enc (s : State) (f : Cle → Cle) : (s.modCle f).enc = s.enc := rfl
@[simp] theorem State.modCle_cle (s : State) (f : Cle → Cle) : (s.modCle f).cle = f s.cle := rfl
@[simp] theorem State.modCle_led (s : State) (f : Cle → Cle) : (s.modCle f).led = s.led := rfl
@[simp] theorem State.modCle_tim (s : State) (f : Cle → Cle) : (s.modCle f).tim = s.tim := rfl
@[simp] theorem State.modCle_twn (s : State) (f : Cle → Cle) : (s.modCle f).twn = s.twn := rfl
@[simp] theorem State.modCle_rim (s : State) (f : Cle → Cle) : (s.modCle f).rim = s.rim := rfl
@[simp] theorem State.modCle_gng (s : State) (f : Cle → Cle) : (s.modCle f).gng = s.gng := rfl
@[simp] theorem State.modCle_gpio (s : State) (f : Cle → Cle) : (s.modCle f).gpio = s.gpio := rfl
@[simp] theorem State.modCle_i2c (s : State) (f : Cle → Cle) : (s.modCle f).i2c = s.i2c := rfl
@[simp] theorem State.modCle_copyOwn (s : State) (f : Cle → Cle) : (s.modCle f).copyOwn = s.copyOwn := rfl
@[simp] theorem State.modCle_copySince (s : State) (f : Cle → Cle) : (s.modCle f).copySince = s.copySince := rfl
@[simp] theorem State.modCle_dram (s : State) (f : Cle → Cle) : (s.modCle f).dram = s.dram := rfl

@[simp] theorem State.modLed_tick (s : State) (f : Led → Led) : (s.modLed f).tick = s.tick := rfl
@[simp] theorem State.modLed_pending (s : State) (f : Led → Led) : (s.modLed f).pending = s.pending := rfl
@[simp] theorem State.modLed_out (s : State) (f : Led → Led) : (s.modLed f).out = s.out := rfl
@[simp] theorem State.modLed_free (s : State) (f : Led → Led) : (s.modLed f).free = s.free := rfl
@[simp] theorem State.modLed_sys (s : State) (f : Led → Led) : (s.modLed f).sys = s.sys := rfl
@[simp] theorem State.modLed_hif (s : State) (f : Led → Led) : (s.modLed f).hif = s.hif := rfl
@[simp] theorem State.modLed_evt (s : State) (f : Led → Led) : (s.modLed f).evt = s.evt := rfl
@[simp] theorem State.modLed_geo (s : State) (f : Led → Led) : (s.modLed f).geo = s.geo := rfl
@[simp] theorem State.modLed_pgq (s : State) (f : Led → Led) : (s.modLed f).pgq = s.pgq := rfl
@[simp] theorem State.modLed_dec (s : State) (f : Led → Led) : (s.modLed f).dec = s.dec := rfl
@[simp] theorem State.modLed_cmp (s : State) (f : Led → Led) : (s.modLed f).cmp = s.cmp := rfl
@[simp] theorem State.modLed_mal (s : State) (f : Led → Led) : (s.modLed f).mal = s.mal := rfl
@[simp] theorem State.modLed_sub (s : State) (f : Led → Led) : (s.modLed f).sub = s.sub := rfl
@[simp] theorem State.modLed_fir (s : State) (f : Led → Led) : (s.modLed f).fir = s.fir := rfl
@[simp] theorem State.modLed_snr (s : State) (f : Led → Led) : (s.modLed f).snr = s.snr := rfl
@[simp] theorem State.modLed_cam (s : State) (f : Led → Led) : (s.modLed f).cam = s.cam := rfl
@[simp] theorem State.modLed_stk (s : State) (f : Led → Led) : (s.modLed f).stk = s.stk := rfl
@[simp] theorem State.modLed_mot (s : State) (f : Led → Led) : (s.modLed f).mot = s.mot := rfl
@[simp] theorem State.modLed_enc (s : State) (f : Led → Led) : (s.modLed f).enc = s.enc := rfl
@[simp] theorem State.modLed_cle (s : State) (f : Led → Led) : (s.modLed f).cle = s.cle := rfl
@[simp] theorem State.modLed_led (s : State) (f : Led → Led) : (s.modLed f).led = f s.led := rfl
@[simp] theorem State.modLed_tim (s : State) (f : Led → Led) : (s.modLed f).tim = s.tim := rfl
@[simp] theorem State.modLed_twn (s : State) (f : Led → Led) : (s.modLed f).twn = s.twn := rfl
@[simp] theorem State.modLed_rim (s : State) (f : Led → Led) : (s.modLed f).rim = s.rim := rfl
@[simp] theorem State.modLed_gng (s : State) (f : Led → Led) : (s.modLed f).gng = s.gng := rfl
@[simp] theorem State.modLed_gpio (s : State) (f : Led → Led) : (s.modLed f).gpio = s.gpio := rfl
@[simp] theorem State.modLed_i2c (s : State) (f : Led → Led) : (s.modLed f).i2c = s.i2c := rfl
@[simp] theorem State.modLed_copyOwn (s : State) (f : Led → Led) : (s.modLed f).copyOwn = s.copyOwn := rfl
@[simp] theorem State.modLed_copySince (s : State) (f : Led → Led) : (s.modLed f).copySince = s.copySince := rfl
@[simp] theorem State.modLed_dram (s : State) (f : Led → Led) : (s.modLed f).dram = s.dram := rfl

@[simp] theorem State.modTim_tick (s : State) (f : Tim → Tim) : (s.modTim f).tick = s.tick := rfl
@[simp] theorem State.modTim_pending (s : State) (f : Tim → Tim) : (s.modTim f).pending = s.pending := rfl
@[simp] theorem State.modTim_out (s : State) (f : Tim → Tim) : (s.modTim f).out = s.out := rfl
@[simp] theorem State.modTim_free (s : State) (f : Tim → Tim) : (s.modTim f).free = s.free := rfl
@[simp] theorem State.modTim_sys (s : State) (f : Tim → Tim) : (s.modTim f).sys = s.sys := rfl
@[simp] theorem State.modTim_hif (s : State) (f : Tim → Tim) : (s.modTim f).hif = s.hif := rfl
@[simp] theorem State.modTim_evt (s : State) (f : Tim → Tim) : (s.modTim f).evt = s.evt := rfl
@[simp] theorem State.modTim_geo (s : State) (f : Tim → Tim) : (s.modTim f).geo = s.geo := rfl
@[simp] theorem State.modTim_pgq (s : State) (f : Tim → Tim) : (s.modTim f).pgq = s.pgq := rfl
@[simp] theorem State.modTim_dec (s : State) (f : Tim → Tim) : (s.modTim f).dec = s.dec := rfl
@[simp] theorem State.modTim_cmp (s : State) (f : Tim → Tim) : (s.modTim f).cmp = s.cmp := rfl
@[simp] theorem State.modTim_mal (s : State) (f : Tim → Tim) : (s.modTim f).mal = s.mal := rfl
@[simp] theorem State.modTim_sub (s : State) (f : Tim → Tim) : (s.modTim f).sub = s.sub := rfl
@[simp] theorem State.modTim_fir (s : State) (f : Tim → Tim) : (s.modTim f).fir = s.fir := rfl
@[simp] theorem State.modTim_snr (s : State) (f : Tim → Tim) : (s.modTim f).snr = s.snr := rfl
@[simp] theorem State.modTim_cam (s : State) (f : Tim → Tim) : (s.modTim f).cam = s.cam := rfl
@[simp] theorem State.modTim_stk (s : State) (f : Tim → Tim) : (s.modTim f).stk = s.stk := rfl
@[simp] theorem State.modTim_mot (s : State) (f : Tim → Tim) : (s.modTim f).mot = s.mot := rfl
@[simp] theorem State.modTim_enc (s : State) (f : Tim → Tim) : (s.modTim f).enc = s.enc := rfl
@[simp] theorem State.modTim_cle (s : State) (f : Tim → Tim) : (s.modTim f).cle = s.cle := rfl
@[simp] theorem State.modTim_led (s : State) (f : Tim → Tim) : (s.modTim f).led = s.led := rfl
@[simp] theorem State.modTim_tim (s : State) (f : Tim → Tim) : (s.modTim f).tim = f s.tim := rfl
@[simp] theorem State.modTim_twn (s : State) (f : Tim → Tim) : (s.modTim f).twn = s.twn := rfl
@[simp] theorem State.modTim_rim (s : State) (f : Tim → Tim) : (s.modTim f).rim = s.rim := rfl
@[simp] theorem State.modTim_gng (s : State) (f : Tim → Tim) : (s.modTim f).gng = s.gng := rfl
@[simp] theorem State.modTim_gpio (s : State) (f : Tim → Tim) : (s.modTim f).gpio = s.gpio := rfl
@[simp] theorem State.modTim_i2c (s : State) (f : Tim → Tim) : (s.modTim f).i2c = s.i2c := rfl
@[simp] theorem State.modTim_copyOwn (s : State) (f : Tim → Tim) : (s.modTim f).copyOwn = s.copyOwn := rfl
@[simp] theorem State.modTim_copySince (s : State) (f : Tim → Tim) : (s.modTim f).copySince = s.copySince := rfl
@[simp] theorem State.modTim_dram (s : State) (f : Tim → Tim) : (s.modTim f).dram = s.dram := rfl

@[simp] theorem State.modTwn_tick (s : State) (f : Twn → Twn) : (s.modTwn f).tick = s.tick := rfl
@[simp] theorem State.modTwn_pending (s : State) (f : Twn → Twn) : (s.modTwn f).pending = s.pending := rfl
@[simp] theorem State.modTwn_out (s : State) (f : Twn → Twn) : (s.modTwn f).out = s.out := rfl
@[simp] theorem State.modTwn_free (s : State) (f : Twn → Twn) : (s.modTwn f).free = s.free := rfl
@[simp] theorem State.modTwn_sys (s : State) (f : Twn → Twn) : (s.modTwn f).sys = s.sys := rfl
@[simp] theorem State.modTwn_hif (s : State) (f : Twn → Twn) : (s.modTwn f).hif = s.hif := rfl
@[simp] theorem State.modTwn_evt (s : State) (f : Twn → Twn) : (s.modTwn f).evt = s.evt := rfl
@[simp] theorem State.modTwn_geo (s : State) (f : Twn → Twn) : (s.modTwn f).geo = s.geo := rfl
@[simp] theorem State.modTwn_pgq (s : State) (f : Twn → Twn) : (s.modTwn f).pgq = s.pgq := rfl
@[simp] theorem State.modTwn_dec (s : State) (f : Twn → Twn) : (s.modTwn f).dec = s.dec := rfl
@[simp] theorem State.modTwn_cmp (s : State) (f : Twn → Twn) : (s.modTwn f).cmp = s.cmp := rfl
@[simp] theorem State.modTwn_mal (s : State) (f : Twn → Twn) : (s.modTwn f).mal = s.mal := rfl
@[simp] theorem State.modTwn_sub (s : State) (f : Twn → Twn) : (s.modTwn f).sub = s.sub := rfl
@[simp] theorem State.modTwn_fir (s : State) (f : Twn → Twn) : (s.modTwn f).fir = s.fir := rfl
@[simp] theorem State.modTwn_snr (s : State) (f : Twn → Twn) : (s.modTwn f).snr = s.snr := rfl
@[simp] theorem State.modTwn_cam (s : State) (f : Twn → Twn) : (s.modTwn f).cam = s.cam := rfl
@[simp] theorem State.modTwn_stk (s : State) (f : Twn → Twn) : (s.modTwn f).stk = s.stk := rfl
@[simp] theorem State.modTwn_mot (s : State) (f : Twn → Twn) : (s.modTwn f).mot = s.mot := rfl
@[simp] theorem State.modTwn_enc (s : State) (f : Twn → Twn) : (s.modTwn f).enc = s.enc := rfl
@[simp] theorem State.modTwn_cle (s : State) (f : Twn → Twn) : (s.modTwn f).cle = s.cle := rfl
@[simp] theorem State.modTwn_led (s : State) (f : Twn → Twn) : (s.modTwn f).led = s.led := rfl
@[simp] theorem State.modTwn_tim (s : State) (f : Twn → Twn) : (s.modTwn f).tim = s.tim := rfl
@[simp] theorem State.modTwn_twn (s : State) (f : Twn → Twn) : (s.modTwn f).twn = f s.twn := rfl
@[simp] theorem State.modTwn_rim (s : State) (f : Twn → Twn) : (s.modTwn f).rim = s.rim := rfl
@[simp] theorem State.modTwn_gng (s : State) (f : Twn → Twn) : (s.modTwn f).gng = s.gng := rfl
@[simp] theorem State.modTwn_gpio (s : State) (f : Twn → Twn) : (s.modTwn f).gpio = s.gpio := rfl
@[simp] theorem State.modTwn_i2c (s : State) (f : Twn → Twn) : (s.modTwn f).i2c = s.i2c := rfl
@[simp] theorem State.modTwn_copyOwn (s : State) (f : Twn → Twn) : (s.modTwn f).copyOwn = s.copyOwn := rfl
@[simp] theorem State.modTwn_copySince (s : State) (f : Twn → Twn) : (s.modTwn f).copySince = s.copySince := rfl
@[simp] theorem State.modTwn_dram (s : State) (f : Twn → Twn) : (s.modTwn f).dram = s.dram := rfl

@[simp] theorem State.modRim_tick (s : State) (f : Rim → Rim) : (s.modRim f).tick = s.tick := rfl
@[simp] theorem State.modRim_pending (s : State) (f : Rim → Rim) : (s.modRim f).pending = s.pending := rfl
@[simp] theorem State.modRim_out (s : State) (f : Rim → Rim) : (s.modRim f).out = s.out := rfl
@[simp] theorem State.modRim_free (s : State) (f : Rim → Rim) : (s.modRim f).free = s.free := rfl
@[simp] theorem State.modRim_sys (s : State) (f : Rim → Rim) : (s.modRim f).sys = s.sys := rfl
@[simp] theorem State.modRim_hif (s : State) (f : Rim → Rim) : (s.modRim f).hif = s.hif := rfl
@[simp] theorem State.modRim_evt (s : State) (f : Rim → Rim) : (s.modRim f).evt = s.evt := rfl
@[simp] theorem State.modRim_geo (s : State) (f : Rim → Rim) : (s.modRim f).geo = s.geo := rfl
@[simp] theorem State.modRim_pgq (s : State) (f : Rim → Rim) : (s.modRim f).pgq = s.pgq := rfl
@[simp] theorem State.modRim_dec (s : State) (f : Rim → Rim) : (s.modRim f).dec = s.dec := rfl
@[simp] theorem State.modRim_cmp (s : State) (f : Rim → Rim) : (s.modRim f).cmp = s.cmp := rfl
@[simp] theorem State.modRim_mal (s : State) (f : Rim → Rim) : (s.modRim f).mal = s.mal := rfl
@[simp] theorem State.modRim_sub (s : State) (f : Rim → Rim) : (s.modRim f).sub = s.sub := rfl
@[simp] theorem State.modRim_fir (s : State) (f : Rim → Rim) : (s.modRim f).fir = s.fir := rfl
@[simp] theorem State.modRim_snr (s : State) (f : Rim → Rim) : (s.modRim f).snr = s.snr := rfl
@[simp] theorem State.modRim_cam (s : State) (f : Rim → Rim) : (s.modRim f).cam = s.cam := rfl
@[simp] theorem State.modRim_stk (s : State) (f : Rim → Rim) : (s.modRim f).stk = s.stk := rfl
@[simp] theorem State.modRim_mot (s : State) (f : Rim → Rim) : (s.modRim f).mot = s.mot := rfl
@[simp] theorem State.modRim_enc (s : State) (f : Rim → Rim) : (s.modRim f).enc = s.enc := rfl
@[simp] theorem State.modRim_cle (s : State) (f : Rim → Rim) : (s.modRim f).cle = s.cle := rfl
@[simp] theorem State.modRim_led (s : State) (f : Rim → Rim) : (s.modRim f).led = s.led := rfl
@[simp] theorem State.modRim_tim (s : State) (f : Rim → Rim) : (s.modRim f).tim = s.tim := rfl
@[simp] theorem State.modRim_twn (s : State) (f : Rim → Rim) : (s.modRim f).twn = s.twn := rfl
@[simp] theorem State.modRim_rim (s : State) (f : Rim → Rim) : (s.modRim f).rim = f s.rim := rfl
@[simp] theorem State.modRim_gng (s : State) (f : Rim → Rim) : (s.modRim f).gng = s.gng := rfl
@[simp] theorem State.modRim_gpio (s : State) (f : Rim → Rim) : (s.modRim f).gpio = s.gpio := rfl
@[simp] theorem State.modRim_i2c (s : State) (f : Rim → Rim) : (s.modRim f).i2c = s.i2c := rfl
@[simp] theorem State.modRim_copyOwn (s : State) (f : Rim → Rim) : (s.modRim f).copyOwn = s.copyOwn := rfl
@[simp] theorem State.modRim_copySince (s : State) (f : Rim → Rim) : (s.modRim f).copySince = s.copySince := rfl
@[simp] theorem State.modRim_dram (s : State) (f : Rim → Rim) : (s.modRim f).dram = s.dram := rfl

@[simp] theorem State.modGng_tick (s : State) (f : Gng → Gng) : (s.modGng f).tick = s.tick := rfl
@[simp] theorem State.modGng_pending (s : State) (f : Gng → Gng) : (s.modGng f).pending = s.pending := rfl
@[simp] theorem State.modGng_out (s : State) (f : Gng → Gng) : (s.modGng f).out = s.out := rfl
@[simp] theorem State.modGng_free (s : State) (f : Gng → Gng) : (s.modGng f).free = s.free := rfl
@[simp] theorem State.modGng_sys (s : State) (f : Gng → Gng) : (s.modGng f).sys = s.sys := rfl
@[simp] theorem State.modGng_hif (s : State) (f : Gng → Gng) : (s.modGng f).hif = s.hif := rfl
@[simp] theorem State.modGng_evt (s : State) (f : Gng → Gng) : (s.modGng f).evt = s.evt := rfl
@[simp] theorem State.modGng_geo (s : State) (f : Gng → Gng) : (s.modGng f).geo = s.geo := rfl
@[simp] theorem State.modGng_pgq (s : State) (f : Gng → Gng) : (s.modGng f).pgq = s.pgq := rfl
@[simp] theorem State.modGng_dec (s : State) (f : Gng → Gng) : (s.modGng f).dec = s.dec := rfl
@[simp] theorem State.modGng_cmp (s : State) (f : Gng → Gng) : (s.modGng f).cmp = s.cmp := rfl
@[simp] theorem State.modGng_mal (s : State) (f : Gng → Gng) : (s.modGng f).mal = s.mal := rfl
@[simp] theorem State.modGng_sub (s : State) (f : Gng → Gng) : (s.modGng f).sub = s.sub := rfl
@[simp] theorem State.modGng_fir (s : State) (f : Gng → Gng) : (s.modGng f).fir = s.fir := rfl
@[simp] theorem State.modGng_snr (s : State) (f : Gng → Gng) : (s.modGng f).snr = s.snr := rfl
@[simp] theorem State.modGng_cam (s : State) (f : Gng → Gng) : (s.modGng f).cam = s.cam := rfl
@[simp] theorem State.modGng_stk (s : State) (f : Gng → Gng) : (s.modGng f).stk = s.stk := rfl
@[simp] theorem State.modGng_mot (s : State) (f : Gng → Gng) : (s.modGng f).mot = s.mot := rfl
@[simp] theorem State.modGng_enc (s : State) (f : Gng → Gng) : (s.modGng f).enc = s.enc := rfl
@[simp] theorem State.modGng_cle (s : State) (f : Gng → Gng) : (s.modGng f).cle = s.cle := rfl
@[simp] theorem State.modGng_led (s : State) (f : Gng → Gng) : (s.modGng f).led = s.led := rfl
@[simp] theorem State.modGng_tim (s : State) (f : Gng → Gng) : (s.modGng f).tim = s.tim := rfl
@[simp] theorem State.modGng_twn (s : State) (f : Gng → Gng) : (s.modGng f).twn = s.twn := rfl
@[simp] theorem State.modGng_rim (s : State) (f : Gng → Gng) : (s.modGng f).rim = s.rim := rfl
@[simp] theorem State.modGng_gng (s : State) (f : Gng → Gng) : (s.modGng f).gng = f s.gng := rfl
@[simp] theorem State.modGng_gpio (s : State) (f : Gng → Gng) : (s.modGng f).gpio = s.gpio := rfl
@[simp] theorem State.modGng_i2c (s : State) (f : Gng → Gng) : (s.modGng f).i2c = s.i2c := rfl
@[simp] theorem State.modGng_copyOwn (s : State) (f : Gng → Gng) : (s.modGng f).copyOwn = s.copyOwn := rfl
@[simp] theorem State.modGng_copySince (s : State) (f : Gng → Gng) : (s.modGng f).copySince = s.copySince := rfl
@[simp] theorem State.modGng_dram (s : State) (f : Gng → Gng) : (s.modGng f).dram = s.dram := rfl

@[simp] theorem State.modGpio_tick (s : State) (f : Gpio → Gpio) : (s.modGpio f).tick = s.tick := rfl
@[simp] theorem State.modGpio_pending (s : State) (f : Gpio → Gpio) : (s.modGpio f).pending = s.pending := rfl
@[simp] theorem State.modGpio_out (s : State) (f : Gpio → Gpio) : (s.modGpio f).out = s.out := rfl
@[simp] theorem State.modGpio_free (s : State) (f : Gpio → Gpio) : (s.modGpio f).free = s.free := rfl
@[simp] theorem State.modGpio_sys (s : State) (f : Gpio → Gpio) : (s.modGpio f).sys = s.sys := rfl
@[simp] theorem State.modGpio_hif (s : State) (f : Gpio → Gpio) : (s.modGpio f).hif = s.hif := rfl
@[simp] theorem State.modGpio_evt (s : State) (f : Gpio → Gpio) : (s.modGpio f).evt = s.evt := rfl
@[simp] theorem State.modGpio_geo (s : State) (f : Gpio → Gpio) : (s.modGpio f).geo = s.geo := rfl
@[simp] theorem State.modGpio_pgq (s : State) (f : Gpio → Gpio) : (s.modGpio f).pgq = s.pgq := rfl
@[simp] theorem State.modGpio_dec (s : State) (f : Gpio → Gpio) : (s.modGpio f).dec = s.dec := rfl
@[simp] theorem State.modGpio_cmp (s : State) (f : Gpio → Gpio) : (s.modGpio f).cmp = s.cmp := rfl
@[simp] theorem State.modGpio_mal (s : State) (f : Gpio → Gpio) : (s.modGpio f).mal = s.mal := rfl
@[simp] theorem State.modGpio_sub (s : State) (f : Gpio → Gpio) : (s.modGpio f).sub = s.sub := rfl
@[simp] theorem State.modGpio_fir (s : State) (f : Gpio → Gpio) : (s.modGpio f).fir = s.fir := rfl
@[simp] theorem State.modGpio_snr (s : State) (f : Gpio → Gpio) : (s.modGpio f).snr = s.snr := rfl
@[simp] theorem State.modGpio_cam (s : State) (f : Gpio → Gpio) : (s.modGpio f).cam = s.cam := rfl
@[simp] theorem State.modGpio_stk (s : State) (f : Gpio → Gpio) : (s.modGpio f).stk = s.stk := rfl
@[simp] theorem State.modGpio_mot (s : State) (f : Gpio → Gpio) : (s.modGpio f).mot = s.mot := rfl
@[simp] theorem State.modGpio_enc (s : State) (f : Gpio → Gpio) : (s.modGpio f).enc = s.enc := rfl
@[simp] theorem State.modGpio_cle (s : State) (f : Gpio → Gpio) : (s.modGpio f).cle = s.cle := rfl
@[simp] theorem State.modGpio_led (s : State) (f : Gpio → Gpio) : (s.modGpio f).led = s.led := rfl
@[simp] theorem State.modGpio_tim (s : State) (f : Gpio → Gpio) : (s.modGpio f).tim = s.tim := rfl
@[simp] theorem State.modGpio_twn (s : State) (f : Gpio → Gpio) : (s.modGpio f).twn = s.twn := rfl
@[simp] theorem State.modGpio_rim (s : State) (f : Gpio → Gpio) : (s.modGpio f).rim = s.rim := rfl
@[simp] theorem State.modGpio_gng (s : State) (f : Gpio → Gpio) : (s.modGpio f).gng = s.gng := rfl
@[simp] theorem State.modGpio_gpio (s : State) (f : Gpio → Gpio) : (s.modGpio f).gpio = f s.gpio := rfl
@[simp] theorem State.modGpio_i2c (s : State) (f : Gpio → Gpio) : (s.modGpio f).i2c = s.i2c := rfl
@[simp] theorem State.modGpio_copyOwn (s : State) (f : Gpio → Gpio) : (s.modGpio f).copyOwn = s.copyOwn := rfl
@[simp] theorem State.modGpio_copySince (s : State) (f : Gpio → Gpio) : (s.modGpio f).copySince = s.copySince := rfl
@[simp] theorem State.modGpio_dram (s : State) (f : Gpio → Gpio) : (s.modGpio f).dram = s.dram := rfl

@[simp] theorem State.modI2c_tick (s : State) (f : Table I2cM → Table I2cM) : (s.modI2c f).tick = s.tick := rfl
@[simp] theorem State.modI2c_pending (s : State) (f : Table I2cM → Table I2cM) : (s.modI2c f).pending = s.pending := rfl
@[simp] theorem State.modI2c_out (s : State) (f : Table I2cM → Table I2cM) : (s.modI2c f).out = s.out := rfl
@[simp] theorem State.modI2c_free (s : State) (f : Table I2cM → Table I2cM) : (s.modI2c f).free = s.free := rfl
@[simp] theorem State.modI2c_sys (s : State) (f : Table I2cM → Table I2cM) : (s.modI2c f).sys = s.sys := rfl
@[simp] theorem State.modI2c_hif (s : State) (f : Table I2cM → Table I2cM) : (s.modI2c f).hif = s.hif := rfl
@[simp] theorem State.modI2c_evt (s : State) (f : Table I2cM → Table I2cM) : (s.modI2c f).evt = s.evt := rfl
@[simp] theorem State.modI2c_geo (s : State) (f : Table I2cM → Table I2cM) : (s.modI2c f).geo = s.geo := rfl
@[simp] theorem State.modI2c_pgq (s : State) (f : Table I2cM → Table I2cM) : (s.modI2c f).pgq = s.pgq := rfl
@[simp] theorem State.modI2c_dec (s : State) (f : Table I2cM → Table I2cM) : (s.modI2c f).dec = s.dec := rfl
@[simp] theorem State.modI2c_cmp (s : State) (f : Table I2cM → Table I2cM) : (s.modI2c f).cmp = s.cmp := rfl
@[simp] theorem State.modI2c_mal (s : State) (f : Table I2cM → Table I2cM) : (s.modI2c f).mal = s.mal := rfl
@[simp] theorem State.modI2c_sub (s : State) (f : Table I2cM → Table I2cM) : (s.modI2c f).sub = s.sub := rfl
@[simp] theorem State.modI2c_fir (s : State) (f : Table I2cM → Table I2cM) : (s.modI2c f).fir = s.fir := rfl
@[simp] theorem State.modI2c_snr (s : State) (f : Table I2cM → Table I2cM) : (s.modI2c f).snr = s.snr := rfl
@[simp] theorem State.modI2c_cam (s : State) (f : Table I2cM → Table I2cM) : (s.modI2c f).cam = s.cam := rfl
@[simp] theorem State.modI2c_stk (s : State) (f : Table I2cM → Table I2cM) : (s.modI2c f).stk = s.stk := rfl
@[simp] theorem State.modI2c_mot (s : State) (f : Table I2cM → Table I2cM) : (s.modI2c f).mot = s.mot := rfl
@[simp] theorem State.modI2c_enc (s : State) (f : Table I2cM → Table I2cM) : (s.modI2c f).enc = s.enc := rfl
@[simp] theorem State.modI2c_cle (s : State) (f : Table I2cM → Table I2cM) : (s.modI2c f).cle = s.cle := rfl
@[simp] theorem State.modI2c_led (s : State) (f : Table I2cM → Table I2cM) : (s.modI2c f).led = s.led := rfl
@[simp] theorem State.modI2c_tim (s : State) (f : Table I2cM → Table I2cM) : (s.modI2c f).tim = s.tim := rfl
@[simp] theorem State.modI2c_twn (s : State) (f : Table I2cM → Table I2cM) : (s.modI2c f).twn = s.twn := rfl
@[simp] theorem State.modI2c_rim (s : State) (f : Table I2cM → Table I2cM) : (s.modI2c f).rim = s.rim := rfl
@[simp] theorem State.modI2c_gng (s : State) (f : Table I2cM → Table I2cM) : (s.modI2c f).gng = s.gng := rfl
@[simp] theorem State.modI2c_gpio (s : State) (f : Table I2cM → Table I2cM) : (s.modI2c f).gpio = s.gpio := rfl
@[simp] theorem State.modI2c_i2c (s : State) (f : Table I2cM → Table I2cM) : (s.modI2c f).i2c = f s.i2c := rfl
@[simp] theorem State.modI2c_copyOwn (s : State) (f : Table I2cM → Table I2cM) : (s.modI2c f).copyOwn = s.copyOwn := rfl
@[simp] theorem State.modI2c_copySince (s : State) (f : Table I2cM → Table I2cM) : (s.modI2c f).copySince = s.copySince := rfl
@[simp] theorem State.modI2c_dram (s : State) (f : Table I2cM → Table I2cM) : (s.modI2c f).dram = s.dram := rfl

/-! Sending, and drawing a free value. -/

@[simp] theorem State.emit_tick (s : State) (o : Out) : (s.emit o).tick = s.tick := rfl
@[simp] theorem State.emit_pending (s : State) (o : Out) : (s.emit o).pending = s.pending := rfl
@[simp] theorem State.emit_out (s : State) (o : Out) : (s.emit o).out = s.out ++ s.leaves o := rfl

/-- An item leaves unless the outputs are off on the way to DORMANT (R417). -/
theorem State.leaves_awake (s : State) (o : Out) (h : s.sys.dormant = .awake) : s.leaves o = [o] := by simp [State.leaves, h]

/-- Nothing leaves once the outputs are off (R417, R441). -/
theorem State.leaves_off (s : State) (o : Out) (t : Nat) (h : s.sys.dormant = .outputsOff t) : s.leaves o = [] := by simp [State.leaves, h]
@[simp] theorem State.emit_free (s : State) (o : Out) : (s.emit o).free = s.free := rfl
@[simp] theorem State.emit_sys (s : State) (o : Out) : (s.emit o).sys = s.sys := rfl
@[simp] theorem State.emit_hif (s : State) (o : Out) : (s.emit o).hif = s.hif := rfl
@[simp] theorem State.emit_evt (s : State) (o : Out) : (s.emit o).evt = s.evt := rfl
@[simp] theorem State.emit_geo (s : State) (o : Out) : (s.emit o).geo = s.geo := rfl
@[simp] theorem State.emit_pgq (s : State) (o : Out) : (s.emit o).pgq = s.pgq := rfl
@[simp] theorem State.emit_dec (s : State) (o : Out) : (s.emit o).dec = s.dec := rfl
@[simp] theorem State.emit_cmp (s : State) (o : Out) : (s.emit o).cmp = s.cmp := rfl
@[simp] theorem State.emit_mal (s : State) (o : Out) : (s.emit o).mal = s.mal := rfl
@[simp] theorem State.emit_sub (s : State) (o : Out) : (s.emit o).sub = s.sub := rfl
@[simp] theorem State.emit_fir (s : State) (o : Out) : (s.emit o).fir = s.fir := rfl
@[simp] theorem State.emit_snr (s : State) (o : Out) : (s.emit o).snr = s.snr := rfl
@[simp] theorem State.emit_cam (s : State) (o : Out) : (s.emit o).cam = s.cam := rfl
@[simp] theorem State.emit_stk (s : State) (o : Out) : (s.emit o).stk = s.stk := rfl
@[simp] theorem State.emit_mot (s : State) (o : Out) : (s.emit o).mot = s.mot := rfl
@[simp] theorem State.emit_enc (s : State) (o : Out) : (s.emit o).enc = s.enc := rfl
@[simp] theorem State.emit_cle (s : State) (o : Out) : (s.emit o).cle = s.cle := rfl
@[simp] theorem State.emit_led (s : State) (o : Out) : (s.emit o).led = s.led := rfl
@[simp] theorem State.emit_tim (s : State) (o : Out) : (s.emit o).tim = s.tim := rfl
@[simp] theorem State.emit_twn (s : State) (o : Out) : (s.emit o).twn = s.twn := rfl
@[simp] theorem State.emit_rim (s : State) (o : Out) : (s.emit o).rim = s.rim := rfl
@[simp] theorem State.emit_gng (s : State) (o : Out) : (s.emit o).gng = s.gng := rfl
@[simp] theorem State.emit_gpio (s : State) (o : Out) : (s.emit o).gpio = s.gpio := rfl
@[simp] theorem State.emit_i2c (s : State) (o : Out) : (s.emit o).i2c = s.i2c := rfl
@[simp] theorem State.emit_copyOwn (s : State) (o : Out) : (s.emit o).copyOwn = s.copyOwn := rfl
@[simp] theorem State.emit_copySince (s : State) (o : Out) : (s.emit o).copySince = s.copySince := rfl
@[simp] theorem State.emit_dram (s : State) (o : Out) : (s.emit o).dram = s.dram := rfl
@[simp] theorem State.drawn_tick (s : State) : s.drawn.tick = s.tick := rfl
@[simp] theorem State.drawn_pending (s : State) : s.drawn.pending = s.pending := rfl
@[simp] theorem State.drawn_out (s : State) : s.drawn.out = s.out := rfl
@[simp] theorem State.drawn_free (s : State) : s.drawn.free = s.free + 1 := rfl
@[simp] theorem State.drawn_sys (s : State) : s.drawn.sys = s.sys := rfl
@[simp] theorem State.drawn_hif (s : State) : s.drawn.hif = s.hif := rfl
@[simp] theorem State.drawn_evt (s : State) : s.drawn.evt = s.evt := rfl
@[simp] theorem State.drawn_geo (s : State) : s.drawn.geo = s.geo := rfl
@[simp] theorem State.drawn_pgq (s : State) : s.drawn.pgq = s.pgq := rfl
@[simp] theorem State.drawn_dec (s : State) : s.drawn.dec = s.dec := rfl
@[simp] theorem State.drawn_cmp (s : State) : s.drawn.cmp = s.cmp := rfl
@[simp] theorem State.drawn_mal (s : State) : s.drawn.mal = s.mal := rfl
@[simp] theorem State.drawn_sub (s : State) : s.drawn.sub = s.sub := rfl
@[simp] theorem State.drawn_fir (s : State) : s.drawn.fir = s.fir := rfl
@[simp] theorem State.drawn_snr (s : State) : s.drawn.snr = s.snr := rfl
@[simp] theorem State.drawn_cam (s : State) : s.drawn.cam = s.cam := rfl
@[simp] theorem State.drawn_stk (s : State) : s.drawn.stk = s.stk := rfl
@[simp] theorem State.drawn_mot (s : State) : s.drawn.mot = s.mot := rfl
@[simp] theorem State.drawn_enc (s : State) : s.drawn.enc = s.enc := rfl
@[simp] theorem State.drawn_cle (s : State) : s.drawn.cle = s.cle := rfl
@[simp] theorem State.drawn_led (s : State) : s.drawn.led = s.led := rfl
@[simp] theorem State.drawn_tim (s : State) : s.drawn.tim = s.tim := rfl
@[simp] theorem State.drawn_twn (s : State) : s.drawn.twn = s.twn := rfl
@[simp] theorem State.drawn_rim (s : State) : s.drawn.rim = s.rim := rfl
@[simp] theorem State.drawn_gng (s : State) : s.drawn.gng = s.gng := rfl
@[simp] theorem State.drawn_gpio (s : State) : s.drawn.gpio = s.gpio := rfl
@[simp] theorem State.drawn_i2c (s : State) : s.drawn.i2c = s.i2c := rfl
@[simp] theorem State.drawn_copyOwn (s : State) : s.drawn.copyOwn = s.copyOwn := rfl
@[simp] theorem State.drawn_copySince (s : State) : s.drawn.copySince = s.copySince := rfl
@[simp] theorem State.drawn_dram (s : State) : s.drawn.dram = s.dram := rfl

/-! One unit. -/

@[simp] theorem State.setRing_tick (s : State) (i : Nat) (v : Ring) : (s.setRing i v).tick = s.tick := rfl
@[simp] theorem State.modRing_tick (s : State) (i : Nat) (f : Ring → Ring) : (s.modRing i f).tick = s.tick := rfl
@[simp] theorem State.setRing_pending (s : State) (i : Nat) (v : Ring) : (s.setRing i v).pending = s.pending := rfl
@[simp] theorem State.modRing_pending (s : State) (i : Nat) (f : Ring → Ring) : (s.modRing i f).pending = s.pending := rfl
@[simp] theorem State.setRing_out (s : State) (i : Nat) (v : Ring) : (s.setRing i v).out = s.out := rfl
@[simp] theorem State.modRing_out (s : State) (i : Nat) (f : Ring → Ring) : (s.modRing i f).out = s.out := rfl
@[simp] theorem State.setRing_free (s : State) (i : Nat) (v : Ring) : (s.setRing i v).free = s.free := rfl
@[simp] theorem State.modRing_free (s : State) (i : Nat) (f : Ring → Ring) : (s.modRing i f).free = s.free := rfl
@[simp] theorem State.setRing_sys (s : State) (i : Nat) (v : Ring) : (s.setRing i v).sys = s.sys := rfl
@[simp] theorem State.modRing_sys (s : State) (i : Nat) (f : Ring → Ring) : (s.modRing i f).sys = s.sys := rfl
@[simp] theorem State.setRing_evt (s : State) (i : Nat) (v : Ring) : (s.setRing i v).evt = s.evt := rfl
@[simp] theorem State.modRing_evt (s : State) (i : Nat) (f : Ring → Ring) : (s.modRing i f).evt = s.evt := rfl
@[simp] theorem State.setRing_geo (s : State) (i : Nat) (v : Ring) : (s.setRing i v).geo = s.geo := rfl
@[simp] theorem State.modRing_geo (s : State) (i : Nat) (f : Ring → Ring) : (s.modRing i f).geo = s.geo := rfl
@[simp] theorem State.setRing_pgq (s : State) (i : Nat) (v : Ring) : (s.setRing i v).pgq = s.pgq := rfl
@[simp] theorem State.modRing_pgq (s : State) (i : Nat) (f : Ring → Ring) : (s.modRing i f).pgq = s.pgq := rfl
@[simp] theorem State.setRing_dec (s : State) (i : Nat) (v : Ring) : (s.setRing i v).dec = s.dec := rfl
@[simp] theorem State.modRing_dec (s : State) (i : Nat) (f : Ring → Ring) : (s.modRing i f).dec = s.dec := rfl
@[simp] theorem State.setRing_cmp (s : State) (i : Nat) (v : Ring) : (s.setRing i v).cmp = s.cmp := rfl
@[simp] theorem State.modRing_cmp (s : State) (i : Nat) (f : Ring → Ring) : (s.modRing i f).cmp = s.cmp := rfl
@[simp] theorem State.setRing_mal (s : State) (i : Nat) (v : Ring) : (s.setRing i v).mal = s.mal := rfl
@[simp] theorem State.modRing_mal (s : State) (i : Nat) (f : Ring → Ring) : (s.modRing i f).mal = s.mal := rfl
@[simp] theorem State.setRing_sub (s : State) (i : Nat) (v : Ring) : (s.setRing i v).sub = s.sub := rfl
@[simp] theorem State.modRing_sub (s : State) (i : Nat) (f : Ring → Ring) : (s.modRing i f).sub = s.sub := rfl
@[simp] theorem State.setRing_fir (s : State) (i : Nat) (v : Ring) : (s.setRing i v).fir = s.fir := rfl
@[simp] theorem State.modRing_fir (s : State) (i : Nat) (f : Ring → Ring) : (s.modRing i f).fir = s.fir := rfl
@[simp] theorem State.setRing_snr (s : State) (i : Nat) (v : Ring) : (s.setRing i v).snr = s.snr := rfl
@[simp] theorem State.modRing_snr (s : State) (i : Nat) (f : Ring → Ring) : (s.modRing i f).snr = s.snr := rfl
@[simp] theorem State.setRing_cam (s : State) (i : Nat) (v : Ring) : (s.setRing i v).cam = s.cam := rfl
@[simp] theorem State.modRing_cam (s : State) (i : Nat) (f : Ring → Ring) : (s.modRing i f).cam = s.cam := rfl
@[simp] theorem State.setRing_stk (s : State) (i : Nat) (v : Ring) : (s.setRing i v).stk = s.stk := rfl
@[simp] theorem State.modRing_stk (s : State) (i : Nat) (f : Ring → Ring) : (s.modRing i f).stk = s.stk := rfl
@[simp] theorem State.setRing_mot (s : State) (i : Nat) (v : Ring) : (s.setRing i v).mot = s.mot := rfl
@[simp] theorem State.modRing_mot (s : State) (i : Nat) (f : Ring → Ring) : (s.modRing i f).mot = s.mot := rfl
@[simp] theorem State.setRing_enc (s : State) (i : Nat) (v : Ring) : (s.setRing i v).enc = s.enc := rfl
@[simp] theorem State.modRing_enc (s : State) (i : Nat) (f : Ring → Ring) : (s.modRing i f).enc = s.enc := rfl
@[simp] theorem State.setRing_cle (s : State) (i : Nat) (v : Ring) : (s.setRing i v).cle = s.cle := rfl
@[simp] theorem State.modRing_cle (s : State) (i : Nat) (f : Ring → Ring) : (s.modRing i f).cle = s.cle := rfl
@[simp] theorem State.setRing_led (s : State) (i : Nat) (v : Ring) : (s.setRing i v).led = s.led := rfl
@[simp] theorem State.modRing_led (s : State) (i : Nat) (f : Ring → Ring) : (s.modRing i f).led = s.led := rfl
@[simp] theorem State.setRing_tim (s : State) (i : Nat) (v : Ring) : (s.setRing i v).tim = s.tim := rfl
@[simp] theorem State.modRing_tim (s : State) (i : Nat) (f : Ring → Ring) : (s.modRing i f).tim = s.tim := rfl
@[simp] theorem State.setRing_twn (s : State) (i : Nat) (v : Ring) : (s.setRing i v).twn = s.twn := rfl
@[simp] theorem State.modRing_twn (s : State) (i : Nat) (f : Ring → Ring) : (s.modRing i f).twn = s.twn := rfl
@[simp] theorem State.setRing_rim (s : State) (i : Nat) (v : Ring) : (s.setRing i v).rim = s.rim := rfl
@[simp] theorem State.modRing_rim (s : State) (i : Nat) (f : Ring → Ring) : (s.modRing i f).rim = s.rim := rfl
@[simp] theorem State.setRing_gng (s : State) (i : Nat) (v : Ring) : (s.setRing i v).gng = s.gng := rfl
@[simp] theorem State.modRing_gng (s : State) (i : Nat) (f : Ring → Ring) : (s.modRing i f).gng = s.gng := rfl
@[simp] theorem State.setRing_gpio (s : State) (i : Nat) (v : Ring) : (s.setRing i v).gpio = s.gpio := rfl
@[simp] theorem State.modRing_gpio (s : State) (i : Nat) (f : Ring → Ring) : (s.modRing i f).gpio = s.gpio := rfl
@[simp] theorem State.setRing_i2c (s : State) (i : Nat) (v : Ring) : (s.setRing i v).i2c = s.i2c := rfl
@[simp] theorem State.modRing_i2c (s : State) (i : Nat) (f : Ring → Ring) : (s.modRing i f).i2c = s.i2c := rfl
@[simp] theorem State.setRing_copyOwn (s : State) (i : Nat) (v : Ring) : (s.setRing i v).copyOwn = s.copyOwn := rfl
@[simp] theorem State.modRing_copyOwn (s : State) (i : Nat) (f : Ring → Ring) : (s.modRing i f).copyOwn = s.copyOwn := rfl
@[simp] theorem State.setRing_copySince (s : State) (i : Nat) (v : Ring) : (s.setRing i v).copySince = s.copySince := rfl
@[simp] theorem State.modRing_copySince (s : State) (i : Nat) (f : Ring → Ring) : (s.modRing i f).copySince = s.copySince := rfl
@[simp] theorem State.setRing_dram (s : State) (i : Nat) (v : Ring) : (s.setRing i v).dram = s.dram := rfl
@[simp] theorem State.modRing_dram (s : State) (i : Nat) (f : Ring → Ring) : (s.modRing i f).dram = s.dram := rfl
@[simp] theorem State.ring_setRing (s : State) (i : Nat) (v : Ring) : (s.setRing i v).ring i = v := by
  simp [State.ring, State.setRing]
@[simp] theorem State.ring_setRing_ne (s : State) {i k : Nat} (h : k ≠ i) (v : Ring) : (s.setRing i v).ring k = s.ring k := by
  simp [State.ring, State.setRing, h]
@[simp] theorem State.ring_modRing (s : State) (i : Nat) (f : Ring → Ring) : (s.modRing i f).ring i = f (s.ring i) := by
  simp [State.modRing]

@[simp] theorem State.setMsixEntry_tick (s : State) (i : Nat) (v : MsixEntry) : (s.setMsixEntry i v).tick = s.tick := rfl
@[simp] theorem State.modMsixEntry_tick (s : State) (i : Nat) (f : MsixEntry → MsixEntry) : (s.modMsixEntry i f).tick = s.tick := rfl
@[simp] theorem State.setMsixEntry_pending (s : State) (i : Nat) (v : MsixEntry) : (s.setMsixEntry i v).pending = s.pending := rfl
@[simp] theorem State.modMsixEntry_pending (s : State) (i : Nat) (f : MsixEntry → MsixEntry) : (s.modMsixEntry i f).pending = s.pending := rfl
@[simp] theorem State.setMsixEntry_out (s : State) (i : Nat) (v : MsixEntry) : (s.setMsixEntry i v).out = s.out := rfl
@[simp] theorem State.modMsixEntry_out (s : State) (i : Nat) (f : MsixEntry → MsixEntry) : (s.modMsixEntry i f).out = s.out := rfl
@[simp] theorem State.setMsixEntry_free (s : State) (i : Nat) (v : MsixEntry) : (s.setMsixEntry i v).free = s.free := rfl
@[simp] theorem State.modMsixEntry_free (s : State) (i : Nat) (f : MsixEntry → MsixEntry) : (s.modMsixEntry i f).free = s.free := rfl
@[simp] theorem State.setMsixEntry_sys (s : State) (i : Nat) (v : MsixEntry) : (s.setMsixEntry i v).sys = s.sys := rfl
@[simp] theorem State.modMsixEntry_sys (s : State) (i : Nat) (f : MsixEntry → MsixEntry) : (s.modMsixEntry i f).sys = s.sys := rfl
@[simp] theorem State.setMsixEntry_evt (s : State) (i : Nat) (v : MsixEntry) : (s.setMsixEntry i v).evt = s.evt := rfl
@[simp] theorem State.modMsixEntry_evt (s : State) (i : Nat) (f : MsixEntry → MsixEntry) : (s.modMsixEntry i f).evt = s.evt := rfl
@[simp] theorem State.setMsixEntry_geo (s : State) (i : Nat) (v : MsixEntry) : (s.setMsixEntry i v).geo = s.geo := rfl
@[simp] theorem State.modMsixEntry_geo (s : State) (i : Nat) (f : MsixEntry → MsixEntry) : (s.modMsixEntry i f).geo = s.geo := rfl
@[simp] theorem State.setMsixEntry_pgq (s : State) (i : Nat) (v : MsixEntry) : (s.setMsixEntry i v).pgq = s.pgq := rfl
@[simp] theorem State.modMsixEntry_pgq (s : State) (i : Nat) (f : MsixEntry → MsixEntry) : (s.modMsixEntry i f).pgq = s.pgq := rfl
@[simp] theorem State.setMsixEntry_dec (s : State) (i : Nat) (v : MsixEntry) : (s.setMsixEntry i v).dec = s.dec := rfl
@[simp] theorem State.modMsixEntry_dec (s : State) (i : Nat) (f : MsixEntry → MsixEntry) : (s.modMsixEntry i f).dec = s.dec := rfl
@[simp] theorem State.setMsixEntry_cmp (s : State) (i : Nat) (v : MsixEntry) : (s.setMsixEntry i v).cmp = s.cmp := rfl
@[simp] theorem State.modMsixEntry_cmp (s : State) (i : Nat) (f : MsixEntry → MsixEntry) : (s.modMsixEntry i f).cmp = s.cmp := rfl
@[simp] theorem State.setMsixEntry_mal (s : State) (i : Nat) (v : MsixEntry) : (s.setMsixEntry i v).mal = s.mal := rfl
@[simp] theorem State.modMsixEntry_mal (s : State) (i : Nat) (f : MsixEntry → MsixEntry) : (s.modMsixEntry i f).mal = s.mal := rfl
@[simp] theorem State.setMsixEntry_sub (s : State) (i : Nat) (v : MsixEntry) : (s.setMsixEntry i v).sub = s.sub := rfl
@[simp] theorem State.modMsixEntry_sub (s : State) (i : Nat) (f : MsixEntry → MsixEntry) : (s.modMsixEntry i f).sub = s.sub := rfl
@[simp] theorem State.setMsixEntry_fir (s : State) (i : Nat) (v : MsixEntry) : (s.setMsixEntry i v).fir = s.fir := rfl
@[simp] theorem State.modMsixEntry_fir (s : State) (i : Nat) (f : MsixEntry → MsixEntry) : (s.modMsixEntry i f).fir = s.fir := rfl
@[simp] theorem State.setMsixEntry_snr (s : State) (i : Nat) (v : MsixEntry) : (s.setMsixEntry i v).snr = s.snr := rfl
@[simp] theorem State.modMsixEntry_snr (s : State) (i : Nat) (f : MsixEntry → MsixEntry) : (s.modMsixEntry i f).snr = s.snr := rfl
@[simp] theorem State.setMsixEntry_cam (s : State) (i : Nat) (v : MsixEntry) : (s.setMsixEntry i v).cam = s.cam := rfl
@[simp] theorem State.modMsixEntry_cam (s : State) (i : Nat) (f : MsixEntry → MsixEntry) : (s.modMsixEntry i f).cam = s.cam := rfl
@[simp] theorem State.setMsixEntry_stk (s : State) (i : Nat) (v : MsixEntry) : (s.setMsixEntry i v).stk = s.stk := rfl
@[simp] theorem State.modMsixEntry_stk (s : State) (i : Nat) (f : MsixEntry → MsixEntry) : (s.modMsixEntry i f).stk = s.stk := rfl
@[simp] theorem State.setMsixEntry_mot (s : State) (i : Nat) (v : MsixEntry) : (s.setMsixEntry i v).mot = s.mot := rfl
@[simp] theorem State.modMsixEntry_mot (s : State) (i : Nat) (f : MsixEntry → MsixEntry) : (s.modMsixEntry i f).mot = s.mot := rfl
@[simp] theorem State.setMsixEntry_enc (s : State) (i : Nat) (v : MsixEntry) : (s.setMsixEntry i v).enc = s.enc := rfl
@[simp] theorem State.modMsixEntry_enc (s : State) (i : Nat) (f : MsixEntry → MsixEntry) : (s.modMsixEntry i f).enc = s.enc := rfl
@[simp] theorem State.setMsixEntry_cle (s : State) (i : Nat) (v : MsixEntry) : (s.setMsixEntry i v).cle = s.cle := rfl
@[simp] theorem State.modMsixEntry_cle (s : State) (i : Nat) (f : MsixEntry → MsixEntry) : (s.modMsixEntry i f).cle = s.cle := rfl
@[simp] theorem State.setMsixEntry_led (s : State) (i : Nat) (v : MsixEntry) : (s.setMsixEntry i v).led = s.led := rfl
@[simp] theorem State.modMsixEntry_led (s : State) (i : Nat) (f : MsixEntry → MsixEntry) : (s.modMsixEntry i f).led = s.led := rfl
@[simp] theorem State.setMsixEntry_tim (s : State) (i : Nat) (v : MsixEntry) : (s.setMsixEntry i v).tim = s.tim := rfl
@[simp] theorem State.modMsixEntry_tim (s : State) (i : Nat) (f : MsixEntry → MsixEntry) : (s.modMsixEntry i f).tim = s.tim := rfl
@[simp] theorem State.setMsixEntry_twn (s : State) (i : Nat) (v : MsixEntry) : (s.setMsixEntry i v).twn = s.twn := rfl
@[simp] theorem State.modMsixEntry_twn (s : State) (i : Nat) (f : MsixEntry → MsixEntry) : (s.modMsixEntry i f).twn = s.twn := rfl
@[simp] theorem State.setMsixEntry_rim (s : State) (i : Nat) (v : MsixEntry) : (s.setMsixEntry i v).rim = s.rim := rfl
@[simp] theorem State.modMsixEntry_rim (s : State) (i : Nat) (f : MsixEntry → MsixEntry) : (s.modMsixEntry i f).rim = s.rim := rfl
@[simp] theorem State.setMsixEntry_gng (s : State) (i : Nat) (v : MsixEntry) : (s.setMsixEntry i v).gng = s.gng := rfl
@[simp] theorem State.modMsixEntry_gng (s : State) (i : Nat) (f : MsixEntry → MsixEntry) : (s.modMsixEntry i f).gng = s.gng := rfl
@[simp] theorem State.setMsixEntry_gpio (s : State) (i : Nat) (v : MsixEntry) : (s.setMsixEntry i v).gpio = s.gpio := rfl
@[simp] theorem State.modMsixEntry_gpio (s : State) (i : Nat) (f : MsixEntry → MsixEntry) : (s.modMsixEntry i f).gpio = s.gpio := rfl
@[simp] theorem State.setMsixEntry_i2c (s : State) (i : Nat) (v : MsixEntry) : (s.setMsixEntry i v).i2c = s.i2c := rfl
@[simp] theorem State.modMsixEntry_i2c (s : State) (i : Nat) (f : MsixEntry → MsixEntry) : (s.modMsixEntry i f).i2c = s.i2c := rfl
@[simp] theorem State.setMsixEntry_copyOwn (s : State) (i : Nat) (v : MsixEntry) : (s.setMsixEntry i v).copyOwn = s.copyOwn := rfl
@[simp] theorem State.modMsixEntry_copyOwn (s : State) (i : Nat) (f : MsixEntry → MsixEntry) : (s.modMsixEntry i f).copyOwn = s.copyOwn := rfl
@[simp] theorem State.setMsixEntry_copySince (s : State) (i : Nat) (v : MsixEntry) : (s.setMsixEntry i v).copySince = s.copySince := rfl
@[simp] theorem State.modMsixEntry_copySince (s : State) (i : Nat) (f : MsixEntry → MsixEntry) : (s.modMsixEntry i f).copySince = s.copySince := rfl
@[simp] theorem State.setMsixEntry_dram (s : State) (i : Nat) (v : MsixEntry) : (s.setMsixEntry i v).dram = s.dram := rfl
@[simp] theorem State.modMsixEntry_dram (s : State) (i : Nat) (f : MsixEntry → MsixEntry) : (s.modMsixEntry i f).dram = s.dram := rfl
@[simp] theorem State.msixEntry_setMsixEntry (s : State) (i : Nat) (v : MsixEntry) : (s.setMsixEntry i v).msixEntry i = v := by
  simp [State.msixEntry, State.setMsixEntry]
@[simp] theorem State.msixEntry_setMsixEntry_ne (s : State) {i k : Nat} (h : k ≠ i) (v : MsixEntry) : (s.setMsixEntry i v).msixEntry k = s.msixEntry k := by
  simp [State.msixEntry, State.setMsixEntry, h]
@[simp] theorem State.msixEntry_modMsixEntry (s : State) (i : Nat) (f : MsixEntry → MsixEntry) : (s.modMsixEntry i f).msixEntry i = f (s.msixEntry i) := by
  simp [State.modMsixEntry]

@[simp] theorem State.setCtx_tick (s : State) (i : Nat) (v : Ctx) : (s.setCtx i v).tick = s.tick := rfl
@[simp] theorem State.modCtx_tick (s : State) (i : Nat) (f : Ctx → Ctx) : (s.modCtx i f).tick = s.tick := rfl
@[simp] theorem State.setCtx_pending (s : State) (i : Nat) (v : Ctx) : (s.setCtx i v).pending = s.pending := rfl
@[simp] theorem State.modCtx_pending (s : State) (i : Nat) (f : Ctx → Ctx) : (s.modCtx i f).pending = s.pending := rfl
@[simp] theorem State.setCtx_out (s : State) (i : Nat) (v : Ctx) : (s.setCtx i v).out = s.out := rfl
@[simp] theorem State.modCtx_out (s : State) (i : Nat) (f : Ctx → Ctx) : (s.modCtx i f).out = s.out := rfl
@[simp] theorem State.setCtx_free (s : State) (i : Nat) (v : Ctx) : (s.setCtx i v).free = s.free := rfl
@[simp] theorem State.modCtx_free (s : State) (i : Nat) (f : Ctx → Ctx) : (s.modCtx i f).free = s.free := rfl
@[simp] theorem State.setCtx_sys (s : State) (i : Nat) (v : Ctx) : (s.setCtx i v).sys = s.sys := rfl
@[simp] theorem State.modCtx_sys (s : State) (i : Nat) (f : Ctx → Ctx) : (s.modCtx i f).sys = s.sys := rfl
@[simp] theorem State.setCtx_hif (s : State) (i : Nat) (v : Ctx) : (s.setCtx i v).hif = s.hif := rfl
@[simp] theorem State.modCtx_hif (s : State) (i : Nat) (f : Ctx → Ctx) : (s.modCtx i f).hif = s.hif := rfl
@[simp] theorem State.setCtx_evt (s : State) (i : Nat) (v : Ctx) : (s.setCtx i v).evt = s.evt := rfl
@[simp] theorem State.modCtx_evt (s : State) (i : Nat) (f : Ctx → Ctx) : (s.modCtx i f).evt = s.evt := rfl
@[simp] theorem State.setCtx_geo (s : State) (i : Nat) (v : Ctx) : (s.setCtx i v).geo = s.geo := rfl
@[simp] theorem State.modCtx_geo (s : State) (i : Nat) (f : Ctx → Ctx) : (s.modCtx i f).geo = s.geo := rfl
@[simp] theorem State.setCtx_dec (s : State) (i : Nat) (v : Ctx) : (s.setCtx i v).dec = s.dec := rfl
@[simp] theorem State.modCtx_dec (s : State) (i : Nat) (f : Ctx → Ctx) : (s.modCtx i f).dec = s.dec := rfl
@[simp] theorem State.setCtx_cmp (s : State) (i : Nat) (v : Ctx) : (s.setCtx i v).cmp = s.cmp := rfl
@[simp] theorem State.modCtx_cmp (s : State) (i : Nat) (f : Ctx → Ctx) : (s.modCtx i f).cmp = s.cmp := rfl
@[simp] theorem State.setCtx_mal (s : State) (i : Nat) (v : Ctx) : (s.setCtx i v).mal = s.mal := rfl
@[simp] theorem State.modCtx_mal (s : State) (i : Nat) (f : Ctx → Ctx) : (s.modCtx i f).mal = s.mal := rfl
@[simp] theorem State.setCtx_sub (s : State) (i : Nat) (v : Ctx) : (s.setCtx i v).sub = s.sub := rfl
@[simp] theorem State.modCtx_sub (s : State) (i : Nat) (f : Ctx → Ctx) : (s.modCtx i f).sub = s.sub := rfl
@[simp] theorem State.setCtx_fir (s : State) (i : Nat) (v : Ctx) : (s.setCtx i v).fir = s.fir := rfl
@[simp] theorem State.modCtx_fir (s : State) (i : Nat) (f : Ctx → Ctx) : (s.modCtx i f).fir = s.fir := rfl
@[simp] theorem State.setCtx_snr (s : State) (i : Nat) (v : Ctx) : (s.setCtx i v).snr = s.snr := rfl
@[simp] theorem State.modCtx_snr (s : State) (i : Nat) (f : Ctx → Ctx) : (s.modCtx i f).snr = s.snr := rfl
@[simp] theorem State.setCtx_cam (s : State) (i : Nat) (v : Ctx) : (s.setCtx i v).cam = s.cam := rfl
@[simp] theorem State.modCtx_cam (s : State) (i : Nat) (f : Ctx → Ctx) : (s.modCtx i f).cam = s.cam := rfl
@[simp] theorem State.setCtx_stk (s : State) (i : Nat) (v : Ctx) : (s.setCtx i v).stk = s.stk := rfl
@[simp] theorem State.modCtx_stk (s : State) (i : Nat) (f : Ctx → Ctx) : (s.modCtx i f).stk = s.stk := rfl
@[simp] theorem State.setCtx_mot (s : State) (i : Nat) (v : Ctx) : (s.setCtx i v).mot = s.mot := rfl
@[simp] theorem State.modCtx_mot (s : State) (i : Nat) (f : Ctx → Ctx) : (s.modCtx i f).mot = s.mot := rfl
@[simp] theorem State.setCtx_enc (s : State) (i : Nat) (v : Ctx) : (s.setCtx i v).enc = s.enc := rfl
@[simp] theorem State.modCtx_enc (s : State) (i : Nat) (f : Ctx → Ctx) : (s.modCtx i f).enc = s.enc := rfl
@[simp] theorem State.setCtx_cle (s : State) (i : Nat) (v : Ctx) : (s.setCtx i v).cle = s.cle := rfl
@[simp] theorem State.modCtx_cle (s : State) (i : Nat) (f : Ctx → Ctx) : (s.modCtx i f).cle = s.cle := rfl
@[simp] theorem State.setCtx_led (s : State) (i : Nat) (v : Ctx) : (s.setCtx i v).led = s.led := rfl
@[simp] theorem State.modCtx_led (s : State) (i : Nat) (f : Ctx → Ctx) : (s.modCtx i f).led = s.led := rfl
@[simp] theorem State.setCtx_tim (s : State) (i : Nat) (v : Ctx) : (s.setCtx i v).tim = s.tim := rfl
@[simp] theorem State.modCtx_tim (s : State) (i : Nat) (f : Ctx → Ctx) : (s.modCtx i f).tim = s.tim := rfl
@[simp] theorem State.setCtx_twn (s : State) (i : Nat) (v : Ctx) : (s.setCtx i v).twn = s.twn := rfl
@[simp] theorem State.modCtx_twn (s : State) (i : Nat) (f : Ctx → Ctx) : (s.modCtx i f).twn = s.twn := rfl
@[simp] theorem State.setCtx_rim (s : State) (i : Nat) (v : Ctx) : (s.setCtx i v).rim = s.rim := rfl
@[simp] theorem State.modCtx_rim (s : State) (i : Nat) (f : Ctx → Ctx) : (s.modCtx i f).rim = s.rim := rfl
@[simp] theorem State.setCtx_gng (s : State) (i : Nat) (v : Ctx) : (s.setCtx i v).gng = s.gng := rfl
@[simp] theorem State.modCtx_gng (s : State) (i : Nat) (f : Ctx → Ctx) : (s.modCtx i f).gng = s.gng := rfl
@[simp] theorem State.setCtx_gpio (s : State) (i : Nat) (v : Ctx) : (s.setCtx i v).gpio = s.gpio := rfl
@[simp] theorem State.modCtx_gpio (s : State) (i : Nat) (f : Ctx → Ctx) : (s.modCtx i f).gpio = s.gpio := rfl
@[simp] theorem State.setCtx_i2c (s : State) (i : Nat) (v : Ctx) : (s.setCtx i v).i2c = s.i2c := rfl
@[simp] theorem State.modCtx_i2c (s : State) (i : Nat) (f : Ctx → Ctx) : (s.modCtx i f).i2c = s.i2c := rfl
@[simp] theorem State.setCtx_copyOwn (s : State) (i : Nat) (v : Ctx) : (s.setCtx i v).copyOwn = s.copyOwn := rfl
@[simp] theorem State.modCtx_copyOwn (s : State) (i : Nat) (f : Ctx → Ctx) : (s.modCtx i f).copyOwn = s.copyOwn := rfl
@[simp] theorem State.setCtx_copySince (s : State) (i : Nat) (v : Ctx) : (s.setCtx i v).copySince = s.copySince := rfl
@[simp] theorem State.modCtx_copySince (s : State) (i : Nat) (f : Ctx → Ctx) : (s.modCtx i f).copySince = s.copySince := rfl
@[simp] theorem State.setCtx_dram (s : State) (i : Nat) (v : Ctx) : (s.setCtx i v).dram = s.dram := rfl
@[simp] theorem State.modCtx_dram (s : State) (i : Nat) (f : Ctx → Ctx) : (s.modCtx i f).dram = s.dram := rfl
@[simp] theorem State.ctx_setCtx (s : State) (i : Nat) (v : Ctx) : (s.setCtx i v).ctx i = v := by
  simp [State.ctx, State.setCtx]
@[simp] theorem State.ctx_setCtx_ne (s : State) {i k : Nat} (h : k ≠ i) (v : Ctx) : (s.setCtx i v).ctx k = s.ctx k := by
  simp [State.ctx, State.setCtx, h]
@[simp] theorem State.ctx_modCtx (s : State) (i : Nat) (f : Ctx → Ctx) : (s.modCtx i f).ctx i = f (s.ctx i) := by
  simp [State.modCtx]

@[simp] theorem State.setStream_tick (s : State) (i : Nat) (v : Stream) : (s.setStream i v).tick = s.tick := rfl
@[simp] theorem State.modStream_tick (s : State) (i : Nat) (f : Stream → Stream) : (s.modStream i f).tick = s.tick := rfl
@[simp] theorem State.setStream_pending (s : State) (i : Nat) (v : Stream) : (s.setStream i v).pending = s.pending := rfl
@[simp] theorem State.modStream_pending (s : State) (i : Nat) (f : Stream → Stream) : (s.modStream i f).pending = s.pending := rfl
@[simp] theorem State.setStream_out (s : State) (i : Nat) (v : Stream) : (s.setStream i v).out = s.out := rfl
@[simp] theorem State.modStream_out (s : State) (i : Nat) (f : Stream → Stream) : (s.modStream i f).out = s.out := rfl
@[simp] theorem State.setStream_free (s : State) (i : Nat) (v : Stream) : (s.setStream i v).free = s.free := rfl
@[simp] theorem State.modStream_free (s : State) (i : Nat) (f : Stream → Stream) : (s.modStream i f).free = s.free := rfl
@[simp] theorem State.setStream_sys (s : State) (i : Nat) (v : Stream) : (s.setStream i v).sys = s.sys := rfl
@[simp] theorem State.modStream_sys (s : State) (i : Nat) (f : Stream → Stream) : (s.modStream i f).sys = s.sys := rfl
@[simp] theorem State.setStream_hif (s : State) (i : Nat) (v : Stream) : (s.setStream i v).hif = s.hif := rfl
@[simp] theorem State.modStream_hif (s : State) (i : Nat) (f : Stream → Stream) : (s.modStream i f).hif = s.hif := rfl
@[simp] theorem State.setStream_evt (s : State) (i : Nat) (v : Stream) : (s.setStream i v).evt = s.evt := rfl
@[simp] theorem State.modStream_evt (s : State) (i : Nat) (f : Stream → Stream) : (s.modStream i f).evt = s.evt := rfl
@[simp] theorem State.setStream_geo (s : State) (i : Nat) (v : Stream) : (s.setStream i v).geo = s.geo := rfl
@[simp] theorem State.modStream_geo (s : State) (i : Nat) (f : Stream → Stream) : (s.modStream i f).geo = s.geo := rfl
@[simp] theorem State.setStream_pgq (s : State) (i : Nat) (v : Stream) : (s.setStream i v).pgq = s.pgq := rfl
@[simp] theorem State.modStream_pgq (s : State) (i : Nat) (f : Stream → Stream) : (s.modStream i f).pgq = s.pgq := rfl
@[simp] theorem State.setStream_dec (s : State) (i : Nat) (v : Stream) : (s.setStream i v).dec = s.dec := rfl
@[simp] theorem State.modStream_dec (s : State) (i : Nat) (f : Stream → Stream) : (s.modStream i f).dec = s.dec := rfl
@[simp] theorem State.setStream_mal (s : State) (i : Nat) (v : Stream) : (s.setStream i v).mal = s.mal := rfl
@[simp] theorem State.modStream_mal (s : State) (i : Nat) (f : Stream → Stream) : (s.modStream i f).mal = s.mal := rfl
@[simp] theorem State.setStream_sub (s : State) (i : Nat) (v : Stream) : (s.setStream i v).sub = s.sub := rfl
@[simp] theorem State.modStream_sub (s : State) (i : Nat) (f : Stream → Stream) : (s.modStream i f).sub = s.sub := rfl
@[simp] theorem State.setStream_fir (s : State) (i : Nat) (v : Stream) : (s.setStream i v).fir = s.fir := rfl
@[simp] theorem State.modStream_fir (s : State) (i : Nat) (f : Stream → Stream) : (s.modStream i f).fir = s.fir := rfl
@[simp] theorem State.setStream_snr (s : State) (i : Nat) (v : Stream) : (s.setStream i v).snr = s.snr := rfl
@[simp] theorem State.modStream_snr (s : State) (i : Nat) (f : Stream → Stream) : (s.modStream i f).snr = s.snr := rfl
@[simp] theorem State.setStream_cam (s : State) (i : Nat) (v : Stream) : (s.setStream i v).cam = s.cam := rfl
@[simp] theorem State.modStream_cam (s : State) (i : Nat) (f : Stream → Stream) : (s.modStream i f).cam = s.cam := rfl
@[simp] theorem State.setStream_stk (s : State) (i : Nat) (v : Stream) : (s.setStream i v).stk = s.stk := rfl
@[simp] theorem State.modStream_stk (s : State) (i : Nat) (f : Stream → Stream) : (s.modStream i f).stk = s.stk := rfl
@[simp] theorem State.setStream_mot (s : State) (i : Nat) (v : Stream) : (s.setStream i v).mot = s.mot := rfl
@[simp] theorem State.modStream_mot (s : State) (i : Nat) (f : Stream → Stream) : (s.modStream i f).mot = s.mot := rfl
@[simp] theorem State.setStream_enc (s : State) (i : Nat) (v : Stream) : (s.setStream i v).enc = s.enc := rfl
@[simp] theorem State.modStream_enc (s : State) (i : Nat) (f : Stream → Stream) : (s.modStream i f).enc = s.enc := rfl
@[simp] theorem State.setStream_cle (s : State) (i : Nat) (v : Stream) : (s.setStream i v).cle = s.cle := rfl
@[simp] theorem State.modStream_cle (s : State) (i : Nat) (f : Stream → Stream) : (s.modStream i f).cle = s.cle := rfl
@[simp] theorem State.setStream_led (s : State) (i : Nat) (v : Stream) : (s.setStream i v).led = s.led := rfl
@[simp] theorem State.modStream_led (s : State) (i : Nat) (f : Stream → Stream) : (s.modStream i f).led = s.led := rfl
@[simp] theorem State.setStream_tim (s : State) (i : Nat) (v : Stream) : (s.setStream i v).tim = s.tim := rfl
@[simp] theorem State.modStream_tim (s : State) (i : Nat) (f : Stream → Stream) : (s.modStream i f).tim = s.tim := rfl
@[simp] theorem State.setStream_twn (s : State) (i : Nat) (v : Stream) : (s.setStream i v).twn = s.twn := rfl
@[simp] theorem State.modStream_twn (s : State) (i : Nat) (f : Stream → Stream) : (s.modStream i f).twn = s.twn := rfl
@[simp] theorem State.setStream_rim (s : State) (i : Nat) (v : Stream) : (s.setStream i v).rim = s.rim := rfl
@[simp] theorem State.modStream_rim (s : State) (i : Nat) (f : Stream → Stream) : (s.modStream i f).rim = s.rim := rfl
@[simp] theorem State.setStream_gng (s : State) (i : Nat) (v : Stream) : (s.setStream i v).gng = s.gng := rfl
@[simp] theorem State.modStream_gng (s : State) (i : Nat) (f : Stream → Stream) : (s.modStream i f).gng = s.gng := rfl
@[simp] theorem State.setStream_gpio (s : State) (i : Nat) (v : Stream) : (s.setStream i v).gpio = s.gpio := rfl
@[simp] theorem State.modStream_gpio (s : State) (i : Nat) (f : Stream → Stream) : (s.modStream i f).gpio = s.gpio := rfl
@[simp] theorem State.setStream_i2c (s : State) (i : Nat) (v : Stream) : (s.setStream i v).i2c = s.i2c := rfl
@[simp] theorem State.modStream_i2c (s : State) (i : Nat) (f : Stream → Stream) : (s.modStream i f).i2c = s.i2c := rfl
@[simp] theorem State.setStream_copyOwn (s : State) (i : Nat) (v : Stream) : (s.setStream i v).copyOwn = s.copyOwn := rfl
@[simp] theorem State.modStream_copyOwn (s : State) (i : Nat) (f : Stream → Stream) : (s.modStream i f).copyOwn = s.copyOwn := rfl
@[simp] theorem State.setStream_copySince (s : State) (i : Nat) (v : Stream) : (s.setStream i v).copySince = s.copySince := rfl
@[simp] theorem State.modStream_copySince (s : State) (i : Nat) (f : Stream → Stream) : (s.modStream i f).copySince = s.copySince := rfl
@[simp] theorem State.setStream_dram (s : State) (i : Nat) (v : Stream) : (s.setStream i v).dram = s.dram := rfl
@[simp] theorem State.modStream_dram (s : State) (i : Nat) (f : Stream → Stream) : (s.modStream i f).dram = s.dram := rfl
@[simp] theorem State.stream_setStream (s : State) (i : Nat) (v : Stream) : (s.setStream i v).stream i = v := by
  simp [State.stream, State.setStream]
@[simp] theorem State.stream_setStream_ne (s : State) {i k : Nat} (h : k ≠ i) (v : Stream) : (s.setStream i v).stream k = s.stream k := by
  simp [State.stream, State.setStream, h]
@[simp] theorem State.stream_modStream (s : State) (i : Nat) (f : Stream → Stream) : (s.modStream i f).stream i = f (s.stream i) := by
  simp [State.modStream]

@[simp] theorem State.setEngine_tick (s : State) (i : Nat) (v : Engine) : (s.setEngine i v).tick = s.tick := rfl
@[simp] theorem State.modEngine_tick (s : State) (i : Nat) (f : Engine → Engine) : (s.modEngine i f).tick = s.tick := rfl
@[simp] theorem State.setEngine_pending (s : State) (i : Nat) (v : Engine) : (s.setEngine i v).pending = s.pending := rfl
@[simp] theorem State.modEngine_pending (s : State) (i : Nat) (f : Engine → Engine) : (s.modEngine i f).pending = s.pending := rfl
@[simp] theorem State.setEngine_out (s : State) (i : Nat) (v : Engine) : (s.setEngine i v).out = s.out := rfl
@[simp] theorem State.modEngine_out (s : State) (i : Nat) (f : Engine → Engine) : (s.modEngine i f).out = s.out := rfl
@[simp] theorem State.setEngine_free (s : State) (i : Nat) (v : Engine) : (s.setEngine i v).free = s.free := rfl
@[simp] theorem State.modEngine_free (s : State) (i : Nat) (f : Engine → Engine) : (s.modEngine i f).free = s.free := rfl
@[simp] theorem State.setEngine_sys (s : State) (i : Nat) (v : Engine) : (s.setEngine i v).sys = s.sys := rfl
@[simp] theorem State.modEngine_sys (s : State) (i : Nat) (f : Engine → Engine) : (s.modEngine i f).sys = s.sys := rfl
@[simp] theorem State.setEngine_hif (s : State) (i : Nat) (v : Engine) : (s.setEngine i v).hif = s.hif := rfl
@[simp] theorem State.modEngine_hif (s : State) (i : Nat) (f : Engine → Engine) : (s.modEngine i f).hif = s.hif := rfl
@[simp] theorem State.setEngine_evt (s : State) (i : Nat) (v : Engine) : (s.setEngine i v).evt = s.evt := rfl
@[simp] theorem State.modEngine_evt (s : State) (i : Nat) (f : Engine → Engine) : (s.modEngine i f).evt = s.evt := rfl
@[simp] theorem State.setEngine_geo (s : State) (i : Nat) (v : Engine) : (s.setEngine i v).geo = s.geo := rfl
@[simp] theorem State.modEngine_geo (s : State) (i : Nat) (f : Engine → Engine) : (s.modEngine i f).geo = s.geo := rfl
@[simp] theorem State.setEngine_pgq (s : State) (i : Nat) (v : Engine) : (s.setEngine i v).pgq = s.pgq := rfl
@[simp] theorem State.modEngine_pgq (s : State) (i : Nat) (f : Engine → Engine) : (s.modEngine i f).pgq = s.pgq := rfl
@[simp] theorem State.setEngine_dec (s : State) (i : Nat) (v : Engine) : (s.setEngine i v).dec = s.dec := rfl
@[simp] theorem State.modEngine_dec (s : State) (i : Nat) (f : Engine → Engine) : (s.modEngine i f).dec = s.dec := rfl
@[simp] theorem State.setEngine_cmp (s : State) (i : Nat) (v : Engine) : (s.setEngine i v).cmp = s.cmp := rfl
@[simp] theorem State.modEngine_cmp (s : State) (i : Nat) (f : Engine → Engine) : (s.modEngine i f).cmp = s.cmp := rfl
@[simp] theorem State.setEngine_sub (s : State) (i : Nat) (v : Engine) : (s.setEngine i v).sub = s.sub := rfl
@[simp] theorem State.modEngine_sub (s : State) (i : Nat) (f : Engine → Engine) : (s.modEngine i f).sub = s.sub := rfl
@[simp] theorem State.setEngine_fir (s : State) (i : Nat) (v : Engine) : (s.setEngine i v).fir = s.fir := rfl
@[simp] theorem State.modEngine_fir (s : State) (i : Nat) (f : Engine → Engine) : (s.modEngine i f).fir = s.fir := rfl
@[simp] theorem State.setEngine_snr (s : State) (i : Nat) (v : Engine) : (s.setEngine i v).snr = s.snr := rfl
@[simp] theorem State.modEngine_snr (s : State) (i : Nat) (f : Engine → Engine) : (s.modEngine i f).snr = s.snr := rfl
@[simp] theorem State.setEngine_cam (s : State) (i : Nat) (v : Engine) : (s.setEngine i v).cam = s.cam := rfl
@[simp] theorem State.modEngine_cam (s : State) (i : Nat) (f : Engine → Engine) : (s.modEngine i f).cam = s.cam := rfl
@[simp] theorem State.setEngine_stk (s : State) (i : Nat) (v : Engine) : (s.setEngine i v).stk = s.stk := rfl
@[simp] theorem State.modEngine_stk (s : State) (i : Nat) (f : Engine → Engine) : (s.modEngine i f).stk = s.stk := rfl
@[simp] theorem State.setEngine_mot (s : State) (i : Nat) (v : Engine) : (s.setEngine i v).mot = s.mot := rfl
@[simp] theorem State.modEngine_mot (s : State) (i : Nat) (f : Engine → Engine) : (s.modEngine i f).mot = s.mot := rfl
@[simp] theorem State.setEngine_enc (s : State) (i : Nat) (v : Engine) : (s.setEngine i v).enc = s.enc := rfl
@[simp] theorem State.modEngine_enc (s : State) (i : Nat) (f : Engine → Engine) : (s.modEngine i f).enc = s.enc := rfl
@[simp] theorem State.setEngine_cle (s : State) (i : Nat) (v : Engine) : (s.setEngine i v).cle = s.cle := rfl
@[simp] theorem State.modEngine_cle (s : State) (i : Nat) (f : Engine → Engine) : (s.modEngine i f).cle = s.cle := rfl
@[simp] theorem State.setEngine_led (s : State) (i : Nat) (v : Engine) : (s.setEngine i v).led = s.led := rfl
@[simp] theorem State.modEngine_led (s : State) (i : Nat) (f : Engine → Engine) : (s.modEngine i f).led = s.led := rfl
@[simp] theorem State.setEngine_tim (s : State) (i : Nat) (v : Engine) : (s.setEngine i v).tim = s.tim := rfl
@[simp] theorem State.modEngine_tim (s : State) (i : Nat) (f : Engine → Engine) : (s.modEngine i f).tim = s.tim := rfl
@[simp] theorem State.setEngine_twn (s : State) (i : Nat) (v : Engine) : (s.setEngine i v).twn = s.twn := rfl
@[simp] theorem State.modEngine_twn (s : State) (i : Nat) (f : Engine → Engine) : (s.modEngine i f).twn = s.twn := rfl
@[simp] theorem State.setEngine_rim (s : State) (i : Nat) (v : Engine) : (s.setEngine i v).rim = s.rim := rfl
@[simp] theorem State.modEngine_rim (s : State) (i : Nat) (f : Engine → Engine) : (s.modEngine i f).rim = s.rim := rfl
@[simp] theorem State.setEngine_gng (s : State) (i : Nat) (v : Engine) : (s.setEngine i v).gng = s.gng := rfl
@[simp] theorem State.modEngine_gng (s : State) (i : Nat) (f : Engine → Engine) : (s.modEngine i f).gng = s.gng := rfl
@[simp] theorem State.setEngine_gpio (s : State) (i : Nat) (v : Engine) : (s.setEngine i v).gpio = s.gpio := rfl
@[simp] theorem State.modEngine_gpio (s : State) (i : Nat) (f : Engine → Engine) : (s.modEngine i f).gpio = s.gpio := rfl
@[simp] theorem State.setEngine_i2c (s : State) (i : Nat) (v : Engine) : (s.setEngine i v).i2c = s.i2c := rfl
@[simp] theorem State.modEngine_i2c (s : State) (i : Nat) (f : Engine → Engine) : (s.modEngine i f).i2c = s.i2c := rfl
@[simp] theorem State.setEngine_copyOwn (s : State) (i : Nat) (v : Engine) : (s.setEngine i v).copyOwn = s.copyOwn := rfl
@[simp] theorem State.modEngine_copyOwn (s : State) (i : Nat) (f : Engine → Engine) : (s.modEngine i f).copyOwn = s.copyOwn := rfl
@[simp] theorem State.setEngine_copySince (s : State) (i : Nat) (v : Engine) : (s.setEngine i v).copySince = s.copySince := rfl
@[simp] theorem State.modEngine_copySince (s : State) (i : Nat) (f : Engine → Engine) : (s.modEngine i f).copySince = s.copySince := rfl
@[simp] theorem State.setEngine_dram (s : State) (i : Nat) (v : Engine) : (s.setEngine i v).dram = s.dram := rfl
@[simp] theorem State.modEngine_dram (s : State) (i : Nat) (f : Engine → Engine) : (s.modEngine i f).dram = s.dram := rfl
@[simp] theorem State.engine_setEngine (s : State) (i : Nat) (v : Engine) : (s.setEngine i v).engine i = v := by
  simp [State.engine, State.setEngine]
@[simp] theorem State.engine_setEngine_ne (s : State) {i k : Nat} (h : k ≠ i) (v : Engine) : (s.setEngine i v).engine k = s.engine k := by
  simp [State.engine, State.setEngine, h]
@[simp] theorem State.engine_modEngine (s : State) (i : Nat) (f : Engine → Engine) : (s.modEngine i f).engine i = f (s.engine i) := by
  simp [State.modEngine]

@[simp] theorem State.setLaneRing_tick (s : State) (i : Nat) (v : LaneRing) : (s.setLaneRing i v).tick = s.tick := rfl
@[simp] theorem State.modLaneRing_tick (s : State) (i : Nat) (f : LaneRing → LaneRing) : (s.modLaneRing i f).tick = s.tick := rfl
@[simp] theorem State.setLaneRing_pending (s : State) (i : Nat) (v : LaneRing) : (s.setLaneRing i v).pending = s.pending := rfl
@[simp] theorem State.modLaneRing_pending (s : State) (i : Nat) (f : LaneRing → LaneRing) : (s.modLaneRing i f).pending = s.pending := rfl
@[simp] theorem State.setLaneRing_out (s : State) (i : Nat) (v : LaneRing) : (s.setLaneRing i v).out = s.out := rfl
@[simp] theorem State.modLaneRing_out (s : State) (i : Nat) (f : LaneRing → LaneRing) : (s.modLaneRing i f).out = s.out := rfl
@[simp] theorem State.setLaneRing_free (s : State) (i : Nat) (v : LaneRing) : (s.setLaneRing i v).free = s.free := rfl
@[simp] theorem State.modLaneRing_free (s : State) (i : Nat) (f : LaneRing → LaneRing) : (s.modLaneRing i f).free = s.free := rfl
@[simp] theorem State.setLaneRing_sys (s : State) (i : Nat) (v : LaneRing) : (s.setLaneRing i v).sys = s.sys := rfl
@[simp] theorem State.modLaneRing_sys (s : State) (i : Nat) (f : LaneRing → LaneRing) : (s.modLaneRing i f).sys = s.sys := rfl
@[simp] theorem State.setLaneRing_hif (s : State) (i : Nat) (v : LaneRing) : (s.setLaneRing i v).hif = s.hif := rfl
@[simp] theorem State.modLaneRing_hif (s : State) (i : Nat) (f : LaneRing → LaneRing) : (s.modLaneRing i f).hif = s.hif := rfl
@[simp] theorem State.setLaneRing_evt (s : State) (i : Nat) (v : LaneRing) : (s.setLaneRing i v).evt = s.evt := rfl
@[simp] theorem State.modLaneRing_evt (s : State) (i : Nat) (f : LaneRing → LaneRing) : (s.modLaneRing i f).evt = s.evt := rfl
@[simp] theorem State.setLaneRing_geo (s : State) (i : Nat) (v : LaneRing) : (s.setLaneRing i v).geo = s.geo := rfl
@[simp] theorem State.modLaneRing_geo (s : State) (i : Nat) (f : LaneRing → LaneRing) : (s.modLaneRing i f).geo = s.geo := rfl
@[simp] theorem State.setLaneRing_pgq (s : State) (i : Nat) (v : LaneRing) : (s.setLaneRing i v).pgq = s.pgq := rfl
@[simp] theorem State.modLaneRing_pgq (s : State) (i : Nat) (f : LaneRing → LaneRing) : (s.modLaneRing i f).pgq = s.pgq := rfl
@[simp] theorem State.setLaneRing_dec (s : State) (i : Nat) (v : LaneRing) : (s.setLaneRing i v).dec = s.dec := rfl
@[simp] theorem State.modLaneRing_dec (s : State) (i : Nat) (f : LaneRing → LaneRing) : (s.modLaneRing i f).dec = s.dec := rfl
@[simp] theorem State.setLaneRing_cmp (s : State) (i : Nat) (v : LaneRing) : (s.setLaneRing i v).cmp = s.cmp := rfl
@[simp] theorem State.modLaneRing_cmp (s : State) (i : Nat) (f : LaneRing → LaneRing) : (s.modLaneRing i f).cmp = s.cmp := rfl
@[simp] theorem State.setLaneRing_sub (s : State) (i : Nat) (v : LaneRing) : (s.setLaneRing i v).sub = s.sub := rfl
@[simp] theorem State.modLaneRing_sub (s : State) (i : Nat) (f : LaneRing → LaneRing) : (s.modLaneRing i f).sub = s.sub := rfl
@[simp] theorem State.setLaneRing_fir (s : State) (i : Nat) (v : LaneRing) : (s.setLaneRing i v).fir = s.fir := rfl
@[simp] theorem State.modLaneRing_fir (s : State) (i : Nat) (f : LaneRing → LaneRing) : (s.modLaneRing i f).fir = s.fir := rfl
@[simp] theorem State.setLaneRing_snr (s : State) (i : Nat) (v : LaneRing) : (s.setLaneRing i v).snr = s.snr := rfl
@[simp] theorem State.modLaneRing_snr (s : State) (i : Nat) (f : LaneRing → LaneRing) : (s.modLaneRing i f).snr = s.snr := rfl
@[simp] theorem State.setLaneRing_cam (s : State) (i : Nat) (v : LaneRing) : (s.setLaneRing i v).cam = s.cam := rfl
@[simp] theorem State.modLaneRing_cam (s : State) (i : Nat) (f : LaneRing → LaneRing) : (s.modLaneRing i f).cam = s.cam := rfl
@[simp] theorem State.setLaneRing_stk (s : State) (i : Nat) (v : LaneRing) : (s.setLaneRing i v).stk = s.stk := rfl
@[simp] theorem State.modLaneRing_stk (s : State) (i : Nat) (f : LaneRing → LaneRing) : (s.modLaneRing i f).stk = s.stk := rfl
@[simp] theorem State.setLaneRing_mot (s : State) (i : Nat) (v : LaneRing) : (s.setLaneRing i v).mot = s.mot := rfl
@[simp] theorem State.modLaneRing_mot (s : State) (i : Nat) (f : LaneRing → LaneRing) : (s.modLaneRing i f).mot = s.mot := rfl
@[simp] theorem State.setLaneRing_enc (s : State) (i : Nat) (v : LaneRing) : (s.setLaneRing i v).enc = s.enc := rfl
@[simp] theorem State.modLaneRing_enc (s : State) (i : Nat) (f : LaneRing → LaneRing) : (s.modLaneRing i f).enc = s.enc := rfl
@[simp] theorem State.setLaneRing_cle (s : State) (i : Nat) (v : LaneRing) : (s.setLaneRing i v).cle = s.cle := rfl
@[simp] theorem State.modLaneRing_cle (s : State) (i : Nat) (f : LaneRing → LaneRing) : (s.modLaneRing i f).cle = s.cle := rfl
@[simp] theorem State.setLaneRing_led (s : State) (i : Nat) (v : LaneRing) : (s.setLaneRing i v).led = s.led := rfl
@[simp] theorem State.modLaneRing_led (s : State) (i : Nat) (f : LaneRing → LaneRing) : (s.modLaneRing i f).led = s.led := rfl
@[simp] theorem State.setLaneRing_tim (s : State) (i : Nat) (v : LaneRing) : (s.setLaneRing i v).tim = s.tim := rfl
@[simp] theorem State.modLaneRing_tim (s : State) (i : Nat) (f : LaneRing → LaneRing) : (s.modLaneRing i f).tim = s.tim := rfl
@[simp] theorem State.setLaneRing_twn (s : State) (i : Nat) (v : LaneRing) : (s.setLaneRing i v).twn = s.twn := rfl
@[simp] theorem State.modLaneRing_twn (s : State) (i : Nat) (f : LaneRing → LaneRing) : (s.modLaneRing i f).twn = s.twn := rfl
@[simp] theorem State.setLaneRing_rim (s : State) (i : Nat) (v : LaneRing) : (s.setLaneRing i v).rim = s.rim := rfl
@[simp] theorem State.modLaneRing_rim (s : State) (i : Nat) (f : LaneRing → LaneRing) : (s.modLaneRing i f).rim = s.rim := rfl
@[simp] theorem State.setLaneRing_gng (s : State) (i : Nat) (v : LaneRing) : (s.setLaneRing i v).gng = s.gng := rfl
@[simp] theorem State.modLaneRing_gng (s : State) (i : Nat) (f : LaneRing → LaneRing) : (s.modLaneRing i f).gng = s.gng := rfl
@[simp] theorem State.setLaneRing_gpio (s : State) (i : Nat) (v : LaneRing) : (s.setLaneRing i v).gpio = s.gpio := rfl
@[simp] theorem State.modLaneRing_gpio (s : State) (i : Nat) (f : LaneRing → LaneRing) : (s.modLaneRing i f).gpio = s.gpio := rfl
@[simp] theorem State.setLaneRing_i2c (s : State) (i : Nat) (v : LaneRing) : (s.setLaneRing i v).i2c = s.i2c := rfl
@[simp] theorem State.modLaneRing_i2c (s : State) (i : Nat) (f : LaneRing → LaneRing) : (s.modLaneRing i f).i2c = s.i2c := rfl
@[simp] theorem State.setLaneRing_copyOwn (s : State) (i : Nat) (v : LaneRing) : (s.setLaneRing i v).copyOwn = s.copyOwn := rfl
@[simp] theorem State.modLaneRing_copyOwn (s : State) (i : Nat) (f : LaneRing → LaneRing) : (s.modLaneRing i f).copyOwn = s.copyOwn := rfl
@[simp] theorem State.setLaneRing_copySince (s : State) (i : Nat) (v : LaneRing) : (s.setLaneRing i v).copySince = s.copySince := rfl
@[simp] theorem State.modLaneRing_copySince (s : State) (i : Nat) (f : LaneRing → LaneRing) : (s.modLaneRing i f).copySince = s.copySince := rfl
@[simp] theorem State.setLaneRing_dram (s : State) (i : Nat) (v : LaneRing) : (s.setLaneRing i v).dram = s.dram := rfl
@[simp] theorem State.modLaneRing_dram (s : State) (i : Nat) (f : LaneRing → LaneRing) : (s.modLaneRing i f).dram = s.dram := rfl
@[simp] theorem State.laneRing_setLaneRing (s : State) (i : Nat) (v : LaneRing) : (s.setLaneRing i v).laneRing i = v := by
  simp [State.laneRing, State.setLaneRing]
@[simp] theorem State.laneRing_setLaneRing_ne (s : State) {i k : Nat} (h : k ≠ i) (v : LaneRing) : (s.setLaneRing i v).laneRing k = s.laneRing k := by
  simp [State.laneRing, State.setLaneRing, h]
@[simp] theorem State.laneRing_modLaneRing (s : State) (i : Nat) (f : LaneRing → LaneRing) : (s.modLaneRing i f).laneRing i = f (s.laneRing i) := by
  simp [State.modLaneRing]

@[simp] theorem State.setLane_tick (s : State) (i : Nat) (v : Lane) : (s.setLane i v).tick = s.tick := rfl
@[simp] theorem State.modLane_tick (s : State) (i : Nat) (f : Lane → Lane) : (s.modLane i f).tick = s.tick := rfl
@[simp] theorem State.setLane_pending (s : State) (i : Nat) (v : Lane) : (s.setLane i v).pending = s.pending := rfl
@[simp] theorem State.modLane_pending (s : State) (i : Nat) (f : Lane → Lane) : (s.modLane i f).pending = s.pending := rfl
@[simp] theorem State.setLane_out (s : State) (i : Nat) (v : Lane) : (s.setLane i v).out = s.out := rfl
@[simp] theorem State.modLane_out (s : State) (i : Nat) (f : Lane → Lane) : (s.modLane i f).out = s.out := rfl
@[simp] theorem State.setLane_free (s : State) (i : Nat) (v : Lane) : (s.setLane i v).free = s.free := rfl
@[simp] theorem State.modLane_free (s : State) (i : Nat) (f : Lane → Lane) : (s.modLane i f).free = s.free := rfl
@[simp] theorem State.setLane_sys (s : State) (i : Nat) (v : Lane) : (s.setLane i v).sys = s.sys := rfl
@[simp] theorem State.modLane_sys (s : State) (i : Nat) (f : Lane → Lane) : (s.modLane i f).sys = s.sys := rfl
@[simp] theorem State.setLane_hif (s : State) (i : Nat) (v : Lane) : (s.setLane i v).hif = s.hif := rfl
@[simp] theorem State.modLane_hif (s : State) (i : Nat) (f : Lane → Lane) : (s.modLane i f).hif = s.hif := rfl
@[simp] theorem State.setLane_evt (s : State) (i : Nat) (v : Lane) : (s.setLane i v).evt = s.evt := rfl
@[simp] theorem State.modLane_evt (s : State) (i : Nat) (f : Lane → Lane) : (s.modLane i f).evt = s.evt := rfl
@[simp] theorem State.setLane_geo (s : State) (i : Nat) (v : Lane) : (s.setLane i v).geo = s.geo := rfl
@[simp] theorem State.modLane_geo (s : State) (i : Nat) (f : Lane → Lane) : (s.modLane i f).geo = s.geo := rfl
@[simp] theorem State.setLane_pgq (s : State) (i : Nat) (v : Lane) : (s.setLane i v).pgq = s.pgq := rfl
@[simp] theorem State.modLane_pgq (s : State) (i : Nat) (f : Lane → Lane) : (s.modLane i f).pgq = s.pgq := rfl
@[simp] theorem State.setLane_dec (s : State) (i : Nat) (v : Lane) : (s.setLane i v).dec = s.dec := rfl
@[simp] theorem State.modLane_dec (s : State) (i : Nat) (f : Lane → Lane) : (s.modLane i f).dec = s.dec := rfl
@[simp] theorem State.setLane_cmp (s : State) (i : Nat) (v : Lane) : (s.setLane i v).cmp = s.cmp := rfl
@[simp] theorem State.modLane_cmp (s : State) (i : Nat) (f : Lane → Lane) : (s.modLane i f).cmp = s.cmp := rfl
@[simp] theorem State.setLane_mal (s : State) (i : Nat) (v : Lane) : (s.setLane i v).mal = s.mal := rfl
@[simp] theorem State.modLane_mal (s : State) (i : Nat) (f : Lane → Lane) : (s.modLane i f).mal = s.mal := rfl
@[simp] theorem State.setLane_sub (s : State) (i : Nat) (v : Lane) : (s.setLane i v).sub = s.sub := rfl
@[simp] theorem State.modLane_sub (s : State) (i : Nat) (f : Lane → Lane) : (s.modLane i f).sub = s.sub := rfl
@[simp] theorem State.setLane_fir (s : State) (i : Nat) (v : Lane) : (s.setLane i v).fir = s.fir := rfl
@[simp] theorem State.modLane_fir (s : State) (i : Nat) (f : Lane → Lane) : (s.modLane i f).fir = s.fir := rfl
@[simp] theorem State.setLane_cam (s : State) (i : Nat) (v : Lane) : (s.setLane i v).cam = s.cam := rfl
@[simp] theorem State.modLane_cam (s : State) (i : Nat) (f : Lane → Lane) : (s.modLane i f).cam = s.cam := rfl
@[simp] theorem State.setLane_stk (s : State) (i : Nat) (v : Lane) : (s.setLane i v).stk = s.stk := rfl
@[simp] theorem State.modLane_stk (s : State) (i : Nat) (f : Lane → Lane) : (s.modLane i f).stk = s.stk := rfl
@[simp] theorem State.setLane_mot (s : State) (i : Nat) (v : Lane) : (s.setLane i v).mot = s.mot := rfl
@[simp] theorem State.modLane_mot (s : State) (i : Nat) (f : Lane → Lane) : (s.modLane i f).mot = s.mot := rfl
@[simp] theorem State.setLane_enc (s : State) (i : Nat) (v : Lane) : (s.setLane i v).enc = s.enc := rfl
@[simp] theorem State.modLane_enc (s : State) (i : Nat) (f : Lane → Lane) : (s.modLane i f).enc = s.enc := rfl
@[simp] theorem State.setLane_cle (s : State) (i : Nat) (v : Lane) : (s.setLane i v).cle = s.cle := rfl
@[simp] theorem State.modLane_cle (s : State) (i : Nat) (f : Lane → Lane) : (s.modLane i f).cle = s.cle := rfl
@[simp] theorem State.setLane_led (s : State) (i : Nat) (v : Lane) : (s.setLane i v).led = s.led := rfl
@[simp] theorem State.modLane_led (s : State) (i : Nat) (f : Lane → Lane) : (s.modLane i f).led = s.led := rfl
@[simp] theorem State.setLane_tim (s : State) (i : Nat) (v : Lane) : (s.setLane i v).tim = s.tim := rfl
@[simp] theorem State.modLane_tim (s : State) (i : Nat) (f : Lane → Lane) : (s.modLane i f).tim = s.tim := rfl
@[simp] theorem State.setLane_twn (s : State) (i : Nat) (v : Lane) : (s.setLane i v).twn = s.twn := rfl
@[simp] theorem State.modLane_twn (s : State) (i : Nat) (f : Lane → Lane) : (s.modLane i f).twn = s.twn := rfl
@[simp] theorem State.setLane_rim (s : State) (i : Nat) (v : Lane) : (s.setLane i v).rim = s.rim := rfl
@[simp] theorem State.modLane_rim (s : State) (i : Nat) (f : Lane → Lane) : (s.modLane i f).rim = s.rim := rfl
@[simp] theorem State.setLane_gng (s : State) (i : Nat) (v : Lane) : (s.setLane i v).gng = s.gng := rfl
@[simp] theorem State.modLane_gng (s : State) (i : Nat) (f : Lane → Lane) : (s.modLane i f).gng = s.gng := rfl
@[simp] theorem State.setLane_gpio (s : State) (i : Nat) (v : Lane) : (s.setLane i v).gpio = s.gpio := rfl
@[simp] theorem State.modLane_gpio (s : State) (i : Nat) (f : Lane → Lane) : (s.modLane i f).gpio = s.gpio := rfl
@[simp] theorem State.setLane_i2c (s : State) (i : Nat) (v : Lane) : (s.setLane i v).i2c = s.i2c := rfl
@[simp] theorem State.modLane_i2c (s : State) (i : Nat) (f : Lane → Lane) : (s.modLane i f).i2c = s.i2c := rfl
@[simp] theorem State.setLane_copyOwn (s : State) (i : Nat) (v : Lane) : (s.setLane i v).copyOwn = s.copyOwn := rfl
@[simp] theorem State.modLane_copyOwn (s : State) (i : Nat) (f : Lane → Lane) : (s.modLane i f).copyOwn = s.copyOwn := rfl
@[simp] theorem State.setLane_copySince (s : State) (i : Nat) (v : Lane) : (s.setLane i v).copySince = s.copySince := rfl
@[simp] theorem State.modLane_copySince (s : State) (i : Nat) (f : Lane → Lane) : (s.modLane i f).copySince = s.copySince := rfl
@[simp] theorem State.setLane_dram (s : State) (i : Nat) (v : Lane) : (s.setLane i v).dram = s.dram := rfl
@[simp] theorem State.modLane_dram (s : State) (i : Nat) (f : Lane → Lane) : (s.modLane i f).dram = s.dram := rfl
@[simp] theorem State.lane_setLane (s : State) (i : Nat) (v : Lane) : (s.setLane i v).lane i = v := by
  simp [State.lane, State.setLane]
@[simp] theorem State.lane_setLane_ne (s : State) {i k : Nat} (h : k ≠ i) (v : Lane) : (s.setLane i v).lane k = s.lane k := by
  simp [State.lane, State.setLane, h]
@[simp] theorem State.lane_modLane (s : State) (i : Nat) (f : Lane → Lane) : (s.modLane i f).lane i = f (s.lane i) := by
  simp [State.modLane]

@[simp] theorem State.setCamPort_tick (s : State) (i : Nat) (v : CamPort) : (s.setCamPort i v).tick = s.tick := rfl
@[simp] theorem State.modCamPort_tick (s : State) (i : Nat) (f : CamPort → CamPort) : (s.modCamPort i f).tick = s.tick := rfl
@[simp] theorem State.setCamPort_pending (s : State) (i : Nat) (v : CamPort) : (s.setCamPort i v).pending = s.pending := rfl
@[simp] theorem State.modCamPort_pending (s : State) (i : Nat) (f : CamPort → CamPort) : (s.modCamPort i f).pending = s.pending := rfl
@[simp] theorem State.setCamPort_out (s : State) (i : Nat) (v : CamPort) : (s.setCamPort i v).out = s.out := rfl
@[simp] theorem State.modCamPort_out (s : State) (i : Nat) (f : CamPort → CamPort) : (s.modCamPort i f).out = s.out := rfl
@[simp] theorem State.setCamPort_free (s : State) (i : Nat) (v : CamPort) : (s.setCamPort i v).free = s.free := rfl
@[simp] theorem State.modCamPort_free (s : State) (i : Nat) (f : CamPort → CamPort) : (s.modCamPort i f).free = s.free := rfl
@[simp] theorem State.setCamPort_sys (s : State) (i : Nat) (v : CamPort) : (s.setCamPort i v).sys = s.sys := rfl
@[simp] theorem State.modCamPort_sys (s : State) (i : Nat) (f : CamPort → CamPort) : (s.modCamPort i f).sys = s.sys := rfl
@[simp] theorem State.setCamPort_hif (s : State) (i : Nat) (v : CamPort) : (s.setCamPort i v).hif = s.hif := rfl
@[simp] theorem State.modCamPort_hif (s : State) (i : Nat) (f : CamPort → CamPort) : (s.modCamPort i f).hif = s.hif := rfl
@[simp] theorem State.setCamPort_evt (s : State) (i : Nat) (v : CamPort) : (s.setCamPort i v).evt = s.evt := rfl
@[simp] theorem State.modCamPort_evt (s : State) (i : Nat) (f : CamPort → CamPort) : (s.modCamPort i f).evt = s.evt := rfl
@[simp] theorem State.setCamPort_geo (s : State) (i : Nat) (v : CamPort) : (s.setCamPort i v).geo = s.geo := rfl
@[simp] theorem State.modCamPort_geo (s : State) (i : Nat) (f : CamPort → CamPort) : (s.modCamPort i f).geo = s.geo := rfl
@[simp] theorem State.setCamPort_pgq (s : State) (i : Nat) (v : CamPort) : (s.setCamPort i v).pgq = s.pgq := rfl
@[simp] theorem State.modCamPort_pgq (s : State) (i : Nat) (f : CamPort → CamPort) : (s.modCamPort i f).pgq = s.pgq := rfl
@[simp] theorem State.setCamPort_dec (s : State) (i : Nat) (v : CamPort) : (s.setCamPort i v).dec = s.dec := rfl
@[simp] theorem State.modCamPort_dec (s : State) (i : Nat) (f : CamPort → CamPort) : (s.modCamPort i f).dec = s.dec := rfl
@[simp] theorem State.setCamPort_cmp (s : State) (i : Nat) (v : CamPort) : (s.setCamPort i v).cmp = s.cmp := rfl
@[simp] theorem State.modCamPort_cmp (s : State) (i : Nat) (f : CamPort → CamPort) : (s.modCamPort i f).cmp = s.cmp := rfl
@[simp] theorem State.setCamPort_mal (s : State) (i : Nat) (v : CamPort) : (s.setCamPort i v).mal = s.mal := rfl
@[simp] theorem State.modCamPort_mal (s : State) (i : Nat) (f : CamPort → CamPort) : (s.modCamPort i f).mal = s.mal := rfl
@[simp] theorem State.setCamPort_sub (s : State) (i : Nat) (v : CamPort) : (s.setCamPort i v).sub = s.sub := rfl
@[simp] theorem State.modCamPort_sub (s : State) (i : Nat) (f : CamPort → CamPort) : (s.modCamPort i f).sub = s.sub := rfl
@[simp] theorem State.setCamPort_fir (s : State) (i : Nat) (v : CamPort) : (s.setCamPort i v).fir = s.fir := rfl
@[simp] theorem State.modCamPort_fir (s : State) (i : Nat) (f : CamPort → CamPort) : (s.modCamPort i f).fir = s.fir := rfl
@[simp] theorem State.setCamPort_snr (s : State) (i : Nat) (v : CamPort) : (s.setCamPort i v).snr = s.snr := rfl
@[simp] theorem State.modCamPort_snr (s : State) (i : Nat) (f : CamPort → CamPort) : (s.modCamPort i f).snr = s.snr := rfl
@[simp] theorem State.setCamPort_stk (s : State) (i : Nat) (v : CamPort) : (s.setCamPort i v).stk = s.stk := rfl
@[simp] theorem State.modCamPort_stk (s : State) (i : Nat) (f : CamPort → CamPort) : (s.modCamPort i f).stk = s.stk := rfl
@[simp] theorem State.setCamPort_mot (s : State) (i : Nat) (v : CamPort) : (s.setCamPort i v).mot = s.mot := rfl
@[simp] theorem State.modCamPort_mot (s : State) (i : Nat) (f : CamPort → CamPort) : (s.modCamPort i f).mot = s.mot := rfl
@[simp] theorem State.setCamPort_enc (s : State) (i : Nat) (v : CamPort) : (s.setCamPort i v).enc = s.enc := rfl
@[simp] theorem State.modCamPort_enc (s : State) (i : Nat) (f : CamPort → CamPort) : (s.modCamPort i f).enc = s.enc := rfl
@[simp] theorem State.setCamPort_cle (s : State) (i : Nat) (v : CamPort) : (s.setCamPort i v).cle = s.cle := rfl
@[simp] theorem State.modCamPort_cle (s : State) (i : Nat) (f : CamPort → CamPort) : (s.modCamPort i f).cle = s.cle := rfl
@[simp] theorem State.setCamPort_led (s : State) (i : Nat) (v : CamPort) : (s.setCamPort i v).led = s.led := rfl
@[simp] theorem State.modCamPort_led (s : State) (i : Nat) (f : CamPort → CamPort) : (s.modCamPort i f).led = s.led := rfl
@[simp] theorem State.setCamPort_tim (s : State) (i : Nat) (v : CamPort) : (s.setCamPort i v).tim = s.tim := rfl
@[simp] theorem State.modCamPort_tim (s : State) (i : Nat) (f : CamPort → CamPort) : (s.modCamPort i f).tim = s.tim := rfl
@[simp] theorem State.setCamPort_twn (s : State) (i : Nat) (v : CamPort) : (s.setCamPort i v).twn = s.twn := rfl
@[simp] theorem State.modCamPort_twn (s : State) (i : Nat) (f : CamPort → CamPort) : (s.modCamPort i f).twn = s.twn := rfl
@[simp] theorem State.setCamPort_rim (s : State) (i : Nat) (v : CamPort) : (s.setCamPort i v).rim = s.rim := rfl
@[simp] theorem State.modCamPort_rim (s : State) (i : Nat) (f : CamPort → CamPort) : (s.modCamPort i f).rim = s.rim := rfl
@[simp] theorem State.setCamPort_gng (s : State) (i : Nat) (v : CamPort) : (s.setCamPort i v).gng = s.gng := rfl
@[simp] theorem State.modCamPort_gng (s : State) (i : Nat) (f : CamPort → CamPort) : (s.modCamPort i f).gng = s.gng := rfl
@[simp] theorem State.setCamPort_gpio (s : State) (i : Nat) (v : CamPort) : (s.setCamPort i v).gpio = s.gpio := rfl
@[simp] theorem State.modCamPort_gpio (s : State) (i : Nat) (f : CamPort → CamPort) : (s.modCamPort i f).gpio = s.gpio := rfl
@[simp] theorem State.setCamPort_i2c (s : State) (i : Nat) (v : CamPort) : (s.setCamPort i v).i2c = s.i2c := rfl
@[simp] theorem State.modCamPort_i2c (s : State) (i : Nat) (f : CamPort → CamPort) : (s.modCamPort i f).i2c = s.i2c := rfl
@[simp] theorem State.setCamPort_copyOwn (s : State) (i : Nat) (v : CamPort) : (s.setCamPort i v).copyOwn = s.copyOwn := rfl
@[simp] theorem State.modCamPort_copyOwn (s : State) (i : Nat) (f : CamPort → CamPort) : (s.modCamPort i f).copyOwn = s.copyOwn := rfl
@[simp] theorem State.setCamPort_copySince (s : State) (i : Nat) (v : CamPort) : (s.setCamPort i v).copySince = s.copySince := rfl
@[simp] theorem State.modCamPort_copySince (s : State) (i : Nat) (f : CamPort → CamPort) : (s.modCamPort i f).copySince = s.copySince := rfl
@[simp] theorem State.setCamPort_dram (s : State) (i : Nat) (v : CamPort) : (s.setCamPort i v).dram = s.dram := rfl
@[simp] theorem State.modCamPort_dram (s : State) (i : Nat) (f : CamPort → CamPort) : (s.modCamPort i f).dram = s.dram := rfl
@[simp] theorem State.camPort_setCamPort (s : State) (i : Nat) (v : CamPort) : (s.setCamPort i v).camPort i = v := by
  simp [State.camPort, State.setCamPort]
@[simp] theorem State.camPort_setCamPort_ne (s : State) {i k : Nat} (h : k ≠ i) (v : CamPort) : (s.setCamPort i v).camPort k = s.camPort k := by
  simp [State.camPort, State.setCamPort, h]
@[simp] theorem State.camPort_modCamPort (s : State) (i : Nat) (f : CamPort → CamPort) : (s.modCamPort i f).camPort i = f (s.camPort i) := by
  simp [State.modCamPort]

@[simp] theorem State.setCamUnit_tick (s : State) (i : Nat) (v : CamUnit) : (s.setCamUnit i v).tick = s.tick := rfl
@[simp] theorem State.modCamUnit_tick (s : State) (i : Nat) (f : CamUnit → CamUnit) : (s.modCamUnit i f).tick = s.tick := rfl
@[simp] theorem State.setCamUnit_pending (s : State) (i : Nat) (v : CamUnit) : (s.setCamUnit i v).pending = s.pending := rfl
@[simp] theorem State.modCamUnit_pending (s : State) (i : Nat) (f : CamUnit → CamUnit) : (s.modCamUnit i f).pending = s.pending := rfl
@[simp] theorem State.setCamUnit_out (s : State) (i : Nat) (v : CamUnit) : (s.setCamUnit i v).out = s.out := rfl
@[simp] theorem State.modCamUnit_out (s : State) (i : Nat) (f : CamUnit → CamUnit) : (s.modCamUnit i f).out = s.out := rfl
@[simp] theorem State.setCamUnit_free (s : State) (i : Nat) (v : CamUnit) : (s.setCamUnit i v).free = s.free := rfl
@[simp] theorem State.modCamUnit_free (s : State) (i : Nat) (f : CamUnit → CamUnit) : (s.modCamUnit i f).free = s.free := rfl
@[simp] theorem State.setCamUnit_sys (s : State) (i : Nat) (v : CamUnit) : (s.setCamUnit i v).sys = s.sys := rfl
@[simp] theorem State.modCamUnit_sys (s : State) (i : Nat) (f : CamUnit → CamUnit) : (s.modCamUnit i f).sys = s.sys := rfl
@[simp] theorem State.setCamUnit_hif (s : State) (i : Nat) (v : CamUnit) : (s.setCamUnit i v).hif = s.hif := rfl
@[simp] theorem State.modCamUnit_hif (s : State) (i : Nat) (f : CamUnit → CamUnit) : (s.modCamUnit i f).hif = s.hif := rfl
@[simp] theorem State.setCamUnit_evt (s : State) (i : Nat) (v : CamUnit) : (s.setCamUnit i v).evt = s.evt := rfl
@[simp] theorem State.modCamUnit_evt (s : State) (i : Nat) (f : CamUnit → CamUnit) : (s.modCamUnit i f).evt = s.evt := rfl
@[simp] theorem State.setCamUnit_geo (s : State) (i : Nat) (v : CamUnit) : (s.setCamUnit i v).geo = s.geo := rfl
@[simp] theorem State.modCamUnit_geo (s : State) (i : Nat) (f : CamUnit → CamUnit) : (s.modCamUnit i f).geo = s.geo := rfl
@[simp] theorem State.setCamUnit_pgq (s : State) (i : Nat) (v : CamUnit) : (s.setCamUnit i v).pgq = s.pgq := rfl
@[simp] theorem State.modCamUnit_pgq (s : State) (i : Nat) (f : CamUnit → CamUnit) : (s.modCamUnit i f).pgq = s.pgq := rfl
@[simp] theorem State.setCamUnit_dec (s : State) (i : Nat) (v : CamUnit) : (s.setCamUnit i v).dec = s.dec := rfl
@[simp] theorem State.modCamUnit_dec (s : State) (i : Nat) (f : CamUnit → CamUnit) : (s.modCamUnit i f).dec = s.dec := rfl
@[simp] theorem State.setCamUnit_cmp (s : State) (i : Nat) (v : CamUnit) : (s.setCamUnit i v).cmp = s.cmp := rfl
@[simp] theorem State.modCamUnit_cmp (s : State) (i : Nat) (f : CamUnit → CamUnit) : (s.modCamUnit i f).cmp = s.cmp := rfl
@[simp] theorem State.setCamUnit_mal (s : State) (i : Nat) (v : CamUnit) : (s.setCamUnit i v).mal = s.mal := rfl
@[simp] theorem State.modCamUnit_mal (s : State) (i : Nat) (f : CamUnit → CamUnit) : (s.modCamUnit i f).mal = s.mal := rfl
@[simp] theorem State.setCamUnit_sub (s : State) (i : Nat) (v : CamUnit) : (s.setCamUnit i v).sub = s.sub := rfl
@[simp] theorem State.modCamUnit_sub (s : State) (i : Nat) (f : CamUnit → CamUnit) : (s.modCamUnit i f).sub = s.sub := rfl
@[simp] theorem State.setCamUnit_fir (s : State) (i : Nat) (v : CamUnit) : (s.setCamUnit i v).fir = s.fir := rfl
@[simp] theorem State.modCamUnit_fir (s : State) (i : Nat) (f : CamUnit → CamUnit) : (s.modCamUnit i f).fir = s.fir := rfl
@[simp] theorem State.setCamUnit_snr (s : State) (i : Nat) (v : CamUnit) : (s.setCamUnit i v).snr = s.snr := rfl
@[simp] theorem State.modCamUnit_snr (s : State) (i : Nat) (f : CamUnit → CamUnit) : (s.modCamUnit i f).snr = s.snr := rfl
@[simp] theorem State.setCamUnit_stk (s : State) (i : Nat) (v : CamUnit) : (s.setCamUnit i v).stk = s.stk := rfl
@[simp] theorem State.modCamUnit_stk (s : State) (i : Nat) (f : CamUnit → CamUnit) : (s.modCamUnit i f).stk = s.stk := rfl
@[simp] theorem State.setCamUnit_mot (s : State) (i : Nat) (v : CamUnit) : (s.setCamUnit i v).mot = s.mot := rfl
@[simp] theorem State.modCamUnit_mot (s : State) (i : Nat) (f : CamUnit → CamUnit) : (s.modCamUnit i f).mot = s.mot := rfl
@[simp] theorem State.setCamUnit_enc (s : State) (i : Nat) (v : CamUnit) : (s.setCamUnit i v).enc = s.enc := rfl
@[simp] theorem State.modCamUnit_enc (s : State) (i : Nat) (f : CamUnit → CamUnit) : (s.modCamUnit i f).enc = s.enc := rfl
@[simp] theorem State.setCamUnit_cle (s : State) (i : Nat) (v : CamUnit) : (s.setCamUnit i v).cle = s.cle := rfl
@[simp] theorem State.modCamUnit_cle (s : State) (i : Nat) (f : CamUnit → CamUnit) : (s.modCamUnit i f).cle = s.cle := rfl
@[simp] theorem State.setCamUnit_led (s : State) (i : Nat) (v : CamUnit) : (s.setCamUnit i v).led = s.led := rfl
@[simp] theorem State.modCamUnit_led (s : State) (i : Nat) (f : CamUnit → CamUnit) : (s.modCamUnit i f).led = s.led := rfl
@[simp] theorem State.setCamUnit_tim (s : State) (i : Nat) (v : CamUnit) : (s.setCamUnit i v).tim = s.tim := rfl
@[simp] theorem State.modCamUnit_tim (s : State) (i : Nat) (f : CamUnit → CamUnit) : (s.modCamUnit i f).tim = s.tim := rfl
@[simp] theorem State.setCamUnit_twn (s : State) (i : Nat) (v : CamUnit) : (s.setCamUnit i v).twn = s.twn := rfl
@[simp] theorem State.modCamUnit_twn (s : State) (i : Nat) (f : CamUnit → CamUnit) : (s.modCamUnit i f).twn = s.twn := rfl
@[simp] theorem State.setCamUnit_rim (s : State) (i : Nat) (v : CamUnit) : (s.setCamUnit i v).rim = s.rim := rfl
@[simp] theorem State.modCamUnit_rim (s : State) (i : Nat) (f : CamUnit → CamUnit) : (s.modCamUnit i f).rim = s.rim := rfl
@[simp] theorem State.setCamUnit_gng (s : State) (i : Nat) (v : CamUnit) : (s.setCamUnit i v).gng = s.gng := rfl
@[simp] theorem State.modCamUnit_gng (s : State) (i : Nat) (f : CamUnit → CamUnit) : (s.modCamUnit i f).gng = s.gng := rfl
@[simp] theorem State.setCamUnit_gpio (s : State) (i : Nat) (v : CamUnit) : (s.setCamUnit i v).gpio = s.gpio := rfl
@[simp] theorem State.modCamUnit_gpio (s : State) (i : Nat) (f : CamUnit → CamUnit) : (s.modCamUnit i f).gpio = s.gpio := rfl
@[simp] theorem State.setCamUnit_i2c (s : State) (i : Nat) (v : CamUnit) : (s.setCamUnit i v).i2c = s.i2c := rfl
@[simp] theorem State.modCamUnit_i2c (s : State) (i : Nat) (f : CamUnit → CamUnit) : (s.modCamUnit i f).i2c = s.i2c := rfl
@[simp] theorem State.setCamUnit_copyOwn (s : State) (i : Nat) (v : CamUnit) : (s.setCamUnit i v).copyOwn = s.copyOwn := rfl
@[simp] theorem State.modCamUnit_copyOwn (s : State) (i : Nat) (f : CamUnit → CamUnit) : (s.modCamUnit i f).copyOwn = s.copyOwn := rfl
@[simp] theorem State.setCamUnit_copySince (s : State) (i : Nat) (v : CamUnit) : (s.setCamUnit i v).copySince = s.copySince := rfl
@[simp] theorem State.modCamUnit_copySince (s : State) (i : Nat) (f : CamUnit → CamUnit) : (s.modCamUnit i f).copySince = s.copySince := rfl
@[simp] theorem State.setCamUnit_dram (s : State) (i : Nat) (v : CamUnit) : (s.setCamUnit i v).dram = s.dram := rfl
@[simp] theorem State.modCamUnit_dram (s : State) (i : Nat) (f : CamUnit → CamUnit) : (s.modCamUnit i f).dram = s.dram := rfl
@[simp] theorem State.camUnit_setCamUnit (s : State) (i : Nat) (v : CamUnit) : (s.setCamUnit i v).camUnit i = v := by
  simp [State.camUnit, State.setCamUnit]
@[simp] theorem State.camUnit_setCamUnit_ne (s : State) {i k : Nat} (h : k ≠ i) (v : CamUnit) : (s.setCamUnit i v).camUnit k = s.camUnit k := by
  simp [State.camUnit, State.setCamUnit, h]
@[simp] theorem State.camUnit_modCamUnit (s : State) (i : Nat) (f : CamUnit → CamUnit) : (s.modCamUnit i f).camUnit i = f (s.camUnit i) := by
  simp [State.modCamUnit]

@[simp] theorem State.setStkCol_tick (s : State) (i : Nat) (v : StkCol) : (s.setStkCol i v).tick = s.tick := rfl
@[simp] theorem State.modStkCol_tick (s : State) (i : Nat) (f : StkCol → StkCol) : (s.modStkCol i f).tick = s.tick := rfl
@[simp] theorem State.setStkCol_pending (s : State) (i : Nat) (v : StkCol) : (s.setStkCol i v).pending = s.pending := rfl
@[simp] theorem State.modStkCol_pending (s : State) (i : Nat) (f : StkCol → StkCol) : (s.modStkCol i f).pending = s.pending := rfl
@[simp] theorem State.setStkCol_out (s : State) (i : Nat) (v : StkCol) : (s.setStkCol i v).out = s.out := rfl
@[simp] theorem State.modStkCol_out (s : State) (i : Nat) (f : StkCol → StkCol) : (s.modStkCol i f).out = s.out := rfl
@[simp] theorem State.setStkCol_free (s : State) (i : Nat) (v : StkCol) : (s.setStkCol i v).free = s.free := rfl
@[simp] theorem State.modStkCol_free (s : State) (i : Nat) (f : StkCol → StkCol) : (s.modStkCol i f).free = s.free := rfl
@[simp] theorem State.setStkCol_sys (s : State) (i : Nat) (v : StkCol) : (s.setStkCol i v).sys = s.sys := rfl
@[simp] theorem State.modStkCol_sys (s : State) (i : Nat) (f : StkCol → StkCol) : (s.modStkCol i f).sys = s.sys := rfl
@[simp] theorem State.setStkCol_hif (s : State) (i : Nat) (v : StkCol) : (s.setStkCol i v).hif = s.hif := rfl
@[simp] theorem State.modStkCol_hif (s : State) (i : Nat) (f : StkCol → StkCol) : (s.modStkCol i f).hif = s.hif := rfl
@[simp] theorem State.setStkCol_evt (s : State) (i : Nat) (v : StkCol) : (s.setStkCol i v).evt = s.evt := rfl
@[simp] theorem State.modStkCol_evt (s : State) (i : Nat) (f : StkCol → StkCol) : (s.modStkCol i f).evt = s.evt := rfl
@[simp] theorem State.setStkCol_geo (s : State) (i : Nat) (v : StkCol) : (s.setStkCol i v).geo = s.geo := rfl
@[simp] theorem State.modStkCol_geo (s : State) (i : Nat) (f : StkCol → StkCol) : (s.modStkCol i f).geo = s.geo := rfl
@[simp] theorem State.setStkCol_pgq (s : State) (i : Nat) (v : StkCol) : (s.setStkCol i v).pgq = s.pgq := rfl
@[simp] theorem State.modStkCol_pgq (s : State) (i : Nat) (f : StkCol → StkCol) : (s.modStkCol i f).pgq = s.pgq := rfl
@[simp] theorem State.setStkCol_dec (s : State) (i : Nat) (v : StkCol) : (s.setStkCol i v).dec = s.dec := rfl
@[simp] theorem State.modStkCol_dec (s : State) (i : Nat) (f : StkCol → StkCol) : (s.modStkCol i f).dec = s.dec := rfl
@[simp] theorem State.setStkCol_cmp (s : State) (i : Nat) (v : StkCol) : (s.setStkCol i v).cmp = s.cmp := rfl
@[simp] theorem State.modStkCol_cmp (s : State) (i : Nat) (f : StkCol → StkCol) : (s.modStkCol i f).cmp = s.cmp := rfl
@[simp] theorem State.setStkCol_mal (s : State) (i : Nat) (v : StkCol) : (s.setStkCol i v).mal = s.mal := rfl
@[simp] theorem State.modStkCol_mal (s : State) (i : Nat) (f : StkCol → StkCol) : (s.modStkCol i f).mal = s.mal := rfl
@[simp] theorem State.setStkCol_sub (s : State) (i : Nat) (v : StkCol) : (s.setStkCol i v).sub = s.sub := rfl
@[simp] theorem State.modStkCol_sub (s : State) (i : Nat) (f : StkCol → StkCol) : (s.modStkCol i f).sub = s.sub := rfl
@[simp] theorem State.setStkCol_fir (s : State) (i : Nat) (v : StkCol) : (s.setStkCol i v).fir = s.fir := rfl
@[simp] theorem State.modStkCol_fir (s : State) (i : Nat) (f : StkCol → StkCol) : (s.modStkCol i f).fir = s.fir := rfl
@[simp] theorem State.setStkCol_snr (s : State) (i : Nat) (v : StkCol) : (s.setStkCol i v).snr = s.snr := rfl
@[simp] theorem State.modStkCol_snr (s : State) (i : Nat) (f : StkCol → StkCol) : (s.modStkCol i f).snr = s.snr := rfl
@[simp] theorem State.setStkCol_cam (s : State) (i : Nat) (v : StkCol) : (s.setStkCol i v).cam = s.cam := rfl
@[simp] theorem State.modStkCol_cam (s : State) (i : Nat) (f : StkCol → StkCol) : (s.modStkCol i f).cam = s.cam := rfl
@[simp] theorem State.setStkCol_mot (s : State) (i : Nat) (v : StkCol) : (s.setStkCol i v).mot = s.mot := rfl
@[simp] theorem State.modStkCol_mot (s : State) (i : Nat) (f : StkCol → StkCol) : (s.modStkCol i f).mot = s.mot := rfl
@[simp] theorem State.setStkCol_enc (s : State) (i : Nat) (v : StkCol) : (s.setStkCol i v).enc = s.enc := rfl
@[simp] theorem State.modStkCol_enc (s : State) (i : Nat) (f : StkCol → StkCol) : (s.modStkCol i f).enc = s.enc := rfl
@[simp] theorem State.setStkCol_cle (s : State) (i : Nat) (v : StkCol) : (s.setStkCol i v).cle = s.cle := rfl
@[simp] theorem State.modStkCol_cle (s : State) (i : Nat) (f : StkCol → StkCol) : (s.modStkCol i f).cle = s.cle := rfl
@[simp] theorem State.setStkCol_led (s : State) (i : Nat) (v : StkCol) : (s.setStkCol i v).led = s.led := rfl
@[simp] theorem State.modStkCol_led (s : State) (i : Nat) (f : StkCol → StkCol) : (s.modStkCol i f).led = s.led := rfl
@[simp] theorem State.setStkCol_tim (s : State) (i : Nat) (v : StkCol) : (s.setStkCol i v).tim = s.tim := rfl
@[simp] theorem State.modStkCol_tim (s : State) (i : Nat) (f : StkCol → StkCol) : (s.modStkCol i f).tim = s.tim := rfl
@[simp] theorem State.setStkCol_twn (s : State) (i : Nat) (v : StkCol) : (s.setStkCol i v).twn = s.twn := rfl
@[simp] theorem State.modStkCol_twn (s : State) (i : Nat) (f : StkCol → StkCol) : (s.modStkCol i f).twn = s.twn := rfl
@[simp] theorem State.setStkCol_rim (s : State) (i : Nat) (v : StkCol) : (s.setStkCol i v).rim = s.rim := rfl
@[simp] theorem State.modStkCol_rim (s : State) (i : Nat) (f : StkCol → StkCol) : (s.modStkCol i f).rim = s.rim := rfl
@[simp] theorem State.setStkCol_gng (s : State) (i : Nat) (v : StkCol) : (s.setStkCol i v).gng = s.gng := rfl
@[simp] theorem State.modStkCol_gng (s : State) (i : Nat) (f : StkCol → StkCol) : (s.modStkCol i f).gng = s.gng := rfl
@[simp] theorem State.setStkCol_gpio (s : State) (i : Nat) (v : StkCol) : (s.setStkCol i v).gpio = s.gpio := rfl
@[simp] theorem State.modStkCol_gpio (s : State) (i : Nat) (f : StkCol → StkCol) : (s.modStkCol i f).gpio = s.gpio := rfl
@[simp] theorem State.setStkCol_i2c (s : State) (i : Nat) (v : StkCol) : (s.setStkCol i v).i2c = s.i2c := rfl
@[simp] theorem State.modStkCol_i2c (s : State) (i : Nat) (f : StkCol → StkCol) : (s.modStkCol i f).i2c = s.i2c := rfl
@[simp] theorem State.setStkCol_copyOwn (s : State) (i : Nat) (v : StkCol) : (s.setStkCol i v).copyOwn = s.copyOwn := rfl
@[simp] theorem State.modStkCol_copyOwn (s : State) (i : Nat) (f : StkCol → StkCol) : (s.modStkCol i f).copyOwn = s.copyOwn := rfl
@[simp] theorem State.setStkCol_copySince (s : State) (i : Nat) (v : StkCol) : (s.setStkCol i v).copySince = s.copySince := rfl
@[simp] theorem State.modStkCol_copySince (s : State) (i : Nat) (f : StkCol → StkCol) : (s.modStkCol i f).copySince = s.copySince := rfl
@[simp] theorem State.setStkCol_dram (s : State) (i : Nat) (v : StkCol) : (s.setStkCol i v).dram = s.dram := rfl
@[simp] theorem State.modStkCol_dram (s : State) (i : Nat) (f : StkCol → StkCol) : (s.modStkCol i f).dram = s.dram := rfl
@[simp] theorem State.stkCol_setStkCol (s : State) (i : Nat) (v : StkCol) : (s.setStkCol i v).stkCol i = v := by
  simp [State.stkCol, State.setStkCol]
@[simp] theorem State.stkCol_setStkCol_ne (s : State) {i k : Nat} (h : k ≠ i) (v : StkCol) : (s.setStkCol i v).stkCol k = s.stkCol k := by
  simp [State.stkCol, State.setStkCol, h]
@[simp] theorem State.stkCol_modStkCol (s : State) (i : Nat) (f : StkCol → StkCol) : (s.modStkCol i f).stkCol i = f (s.stkCol i) := by
  simp [State.modStkCol]

@[simp] theorem State.setAxis_tick (s : State) (i : Nat) (v : Axis) : (s.setAxis i v).tick = s.tick := rfl
@[simp] theorem State.modAxis_tick (s : State) (i : Nat) (f : Axis → Axis) : (s.modAxis i f).tick = s.tick := rfl
@[simp] theorem State.setAxis_pending (s : State) (i : Nat) (v : Axis) : (s.setAxis i v).pending = s.pending := rfl
@[simp] theorem State.modAxis_pending (s : State) (i : Nat) (f : Axis → Axis) : (s.modAxis i f).pending = s.pending := rfl
@[simp] theorem State.setAxis_out (s : State) (i : Nat) (v : Axis) : (s.setAxis i v).out = s.out := rfl
@[simp] theorem State.modAxis_out (s : State) (i : Nat) (f : Axis → Axis) : (s.modAxis i f).out = s.out := rfl
@[simp] theorem State.setAxis_free (s : State) (i : Nat) (v : Axis) : (s.setAxis i v).free = s.free := rfl
@[simp] theorem State.modAxis_free (s : State) (i : Nat) (f : Axis → Axis) : (s.modAxis i f).free = s.free := rfl
@[simp] theorem State.setAxis_sys (s : State) (i : Nat) (v : Axis) : (s.setAxis i v).sys = s.sys := rfl
@[simp] theorem State.modAxis_sys (s : State) (i : Nat) (f : Axis → Axis) : (s.modAxis i f).sys = s.sys := rfl
@[simp] theorem State.setAxis_hif (s : State) (i : Nat) (v : Axis) : (s.setAxis i v).hif = s.hif := rfl
@[simp] theorem State.modAxis_hif (s : State) (i : Nat) (f : Axis → Axis) : (s.modAxis i f).hif = s.hif := rfl
@[simp] theorem State.setAxis_evt (s : State) (i : Nat) (v : Axis) : (s.setAxis i v).evt = s.evt := rfl
@[simp] theorem State.modAxis_evt (s : State) (i : Nat) (f : Axis → Axis) : (s.modAxis i f).evt = s.evt := rfl
@[simp] theorem State.setAxis_geo (s : State) (i : Nat) (v : Axis) : (s.setAxis i v).geo = s.geo := rfl
@[simp] theorem State.modAxis_geo (s : State) (i : Nat) (f : Axis → Axis) : (s.modAxis i f).geo = s.geo := rfl
@[simp] theorem State.setAxis_pgq (s : State) (i : Nat) (v : Axis) : (s.setAxis i v).pgq = s.pgq := rfl
@[simp] theorem State.modAxis_pgq (s : State) (i : Nat) (f : Axis → Axis) : (s.modAxis i f).pgq = s.pgq := rfl
@[simp] theorem State.setAxis_dec (s : State) (i : Nat) (v : Axis) : (s.setAxis i v).dec = s.dec := rfl
@[simp] theorem State.modAxis_dec (s : State) (i : Nat) (f : Axis → Axis) : (s.modAxis i f).dec = s.dec := rfl
@[simp] theorem State.setAxis_cmp (s : State) (i : Nat) (v : Axis) : (s.setAxis i v).cmp = s.cmp := rfl
@[simp] theorem State.modAxis_cmp (s : State) (i : Nat) (f : Axis → Axis) : (s.modAxis i f).cmp = s.cmp := rfl
@[simp] theorem State.setAxis_mal (s : State) (i : Nat) (v : Axis) : (s.setAxis i v).mal = s.mal := rfl
@[simp] theorem State.modAxis_mal (s : State) (i : Nat) (f : Axis → Axis) : (s.modAxis i f).mal = s.mal := rfl
@[simp] theorem State.setAxis_sub (s : State) (i : Nat) (v : Axis) : (s.setAxis i v).sub = s.sub := rfl
@[simp] theorem State.modAxis_sub (s : State) (i : Nat) (f : Axis → Axis) : (s.modAxis i f).sub = s.sub := rfl
@[simp] theorem State.setAxis_fir (s : State) (i : Nat) (v : Axis) : (s.setAxis i v).fir = s.fir := rfl
@[simp] theorem State.modAxis_fir (s : State) (i : Nat) (f : Axis → Axis) : (s.modAxis i f).fir = s.fir := rfl
@[simp] theorem State.setAxis_snr (s : State) (i : Nat) (v : Axis) : (s.setAxis i v).snr = s.snr := rfl
@[simp] theorem State.modAxis_snr (s : State) (i : Nat) (f : Axis → Axis) : (s.modAxis i f).snr = s.snr := rfl
@[simp] theorem State.setAxis_cam (s : State) (i : Nat) (v : Axis) : (s.setAxis i v).cam = s.cam := rfl
@[simp] theorem State.modAxis_cam (s : State) (i : Nat) (f : Axis → Axis) : (s.modAxis i f).cam = s.cam := rfl
@[simp] theorem State.setAxis_stk (s : State) (i : Nat) (v : Axis) : (s.setAxis i v).stk = s.stk := rfl
@[simp] theorem State.modAxis_stk (s : State) (i : Nat) (f : Axis → Axis) : (s.modAxis i f).stk = s.stk := rfl
@[simp] theorem State.setAxis_enc (s : State) (i : Nat) (v : Axis) : (s.setAxis i v).enc = s.enc := rfl
@[simp] theorem State.modAxis_enc (s : State) (i : Nat) (f : Axis → Axis) : (s.modAxis i f).enc = s.enc := rfl
@[simp] theorem State.setAxis_cle (s : State) (i : Nat) (v : Axis) : (s.setAxis i v).cle = s.cle := rfl
@[simp] theorem State.modAxis_cle (s : State) (i : Nat) (f : Axis → Axis) : (s.modAxis i f).cle = s.cle := rfl
@[simp] theorem State.setAxis_led (s : State) (i : Nat) (v : Axis) : (s.setAxis i v).led = s.led := rfl
@[simp] theorem State.modAxis_led (s : State) (i : Nat) (f : Axis → Axis) : (s.modAxis i f).led = s.led := rfl
@[simp] theorem State.setAxis_tim (s : State) (i : Nat) (v : Axis) : (s.setAxis i v).tim = s.tim := rfl
@[simp] theorem State.modAxis_tim (s : State) (i : Nat) (f : Axis → Axis) : (s.modAxis i f).tim = s.tim := rfl
@[simp] theorem State.setAxis_twn (s : State) (i : Nat) (v : Axis) : (s.setAxis i v).twn = s.twn := rfl
@[simp] theorem State.modAxis_twn (s : State) (i : Nat) (f : Axis → Axis) : (s.modAxis i f).twn = s.twn := rfl
@[simp] theorem State.setAxis_rim (s : State) (i : Nat) (v : Axis) : (s.setAxis i v).rim = s.rim := rfl
@[simp] theorem State.modAxis_rim (s : State) (i : Nat) (f : Axis → Axis) : (s.modAxis i f).rim = s.rim := rfl
@[simp] theorem State.setAxis_gng (s : State) (i : Nat) (v : Axis) : (s.setAxis i v).gng = s.gng := rfl
@[simp] theorem State.modAxis_gng (s : State) (i : Nat) (f : Axis → Axis) : (s.modAxis i f).gng = s.gng := rfl
@[simp] theorem State.setAxis_gpio (s : State) (i : Nat) (v : Axis) : (s.setAxis i v).gpio = s.gpio := rfl
@[simp] theorem State.modAxis_gpio (s : State) (i : Nat) (f : Axis → Axis) : (s.modAxis i f).gpio = s.gpio := rfl
@[simp] theorem State.setAxis_i2c (s : State) (i : Nat) (v : Axis) : (s.setAxis i v).i2c = s.i2c := rfl
@[simp] theorem State.modAxis_i2c (s : State) (i : Nat) (f : Axis → Axis) : (s.modAxis i f).i2c = s.i2c := rfl
@[simp] theorem State.setAxis_copyOwn (s : State) (i : Nat) (v : Axis) : (s.setAxis i v).copyOwn = s.copyOwn := rfl
@[simp] theorem State.modAxis_copyOwn (s : State) (i : Nat) (f : Axis → Axis) : (s.modAxis i f).copyOwn = s.copyOwn := rfl
@[simp] theorem State.setAxis_copySince (s : State) (i : Nat) (v : Axis) : (s.setAxis i v).copySince = s.copySince := rfl
@[simp] theorem State.modAxis_copySince (s : State) (i : Nat) (f : Axis → Axis) : (s.modAxis i f).copySince = s.copySince := rfl
@[simp] theorem State.setAxis_dram (s : State) (i : Nat) (v : Axis) : (s.setAxis i v).dram = s.dram := rfl
@[simp] theorem State.modAxis_dram (s : State) (i : Nat) (f : Axis → Axis) : (s.modAxis i f).dram = s.dram := rfl
@[simp] theorem State.axis_setAxis (s : State) (i : Nat) (v : Axis) : (s.setAxis i v).axis i = v := by
  simp [State.axis, State.setAxis]
@[simp] theorem State.axis_setAxis_ne (s : State) {i k : Nat} (h : k ≠ i) (v : Axis) : (s.setAxis i v).axis k = s.axis k := by
  simp [State.axis, State.setAxis, h]
@[simp] theorem State.axis_modAxis (s : State) (i : Nat) (f : Axis → Axis) : (s.modAxis i f).axis i = f (s.axis i) := by
  simp [State.modAxis]

@[simp] theorem State.setChan_tick (s : State) (i : Nat) (v : Chan) : (s.setChan i v).tick = s.tick := rfl
@[simp] theorem State.modChan_tick (s : State) (i : Nat) (f : Chan → Chan) : (s.modChan i f).tick = s.tick := rfl
@[simp] theorem State.setChan_pending (s : State) (i : Nat) (v : Chan) : (s.setChan i v).pending = s.pending := rfl
@[simp] theorem State.modChan_pending (s : State) (i : Nat) (f : Chan → Chan) : (s.modChan i f).pending = s.pending := rfl
@[simp] theorem State.setChan_out (s : State) (i : Nat) (v : Chan) : (s.setChan i v).out = s.out := rfl
@[simp] theorem State.modChan_out (s : State) (i : Nat) (f : Chan → Chan) : (s.modChan i f).out = s.out := rfl
@[simp] theorem State.setChan_free (s : State) (i : Nat) (v : Chan) : (s.setChan i v).free = s.free := rfl
@[simp] theorem State.modChan_free (s : State) (i : Nat) (f : Chan → Chan) : (s.modChan i f).free = s.free := rfl
@[simp] theorem State.setChan_sys (s : State) (i : Nat) (v : Chan) : (s.setChan i v).sys = s.sys := rfl
@[simp] theorem State.modChan_sys (s : State) (i : Nat) (f : Chan → Chan) : (s.modChan i f).sys = s.sys := rfl
@[simp] theorem State.setChan_hif (s : State) (i : Nat) (v : Chan) : (s.setChan i v).hif = s.hif := rfl
@[simp] theorem State.modChan_hif (s : State) (i : Nat) (f : Chan → Chan) : (s.modChan i f).hif = s.hif := rfl
@[simp] theorem State.setChan_evt (s : State) (i : Nat) (v : Chan) : (s.setChan i v).evt = s.evt := rfl
@[simp] theorem State.modChan_evt (s : State) (i : Nat) (f : Chan → Chan) : (s.modChan i f).evt = s.evt := rfl
@[simp] theorem State.setChan_geo (s : State) (i : Nat) (v : Chan) : (s.setChan i v).geo = s.geo := rfl
@[simp] theorem State.modChan_geo (s : State) (i : Nat) (f : Chan → Chan) : (s.modChan i f).geo = s.geo := rfl
@[simp] theorem State.setChan_pgq (s : State) (i : Nat) (v : Chan) : (s.setChan i v).pgq = s.pgq := rfl
@[simp] theorem State.modChan_pgq (s : State) (i : Nat) (f : Chan → Chan) : (s.modChan i f).pgq = s.pgq := rfl
@[simp] theorem State.setChan_dec (s : State) (i : Nat) (v : Chan) : (s.setChan i v).dec = s.dec := rfl
@[simp] theorem State.modChan_dec (s : State) (i : Nat) (f : Chan → Chan) : (s.modChan i f).dec = s.dec := rfl
@[simp] theorem State.setChan_cmp (s : State) (i : Nat) (v : Chan) : (s.setChan i v).cmp = s.cmp := rfl
@[simp] theorem State.modChan_cmp (s : State) (i : Nat) (f : Chan → Chan) : (s.modChan i f).cmp = s.cmp := rfl
@[simp] theorem State.setChan_mal (s : State) (i : Nat) (v : Chan) : (s.setChan i v).mal = s.mal := rfl
@[simp] theorem State.modChan_mal (s : State) (i : Nat) (f : Chan → Chan) : (s.modChan i f).mal = s.mal := rfl
@[simp] theorem State.setChan_sub (s : State) (i : Nat) (v : Chan) : (s.setChan i v).sub = s.sub := rfl
@[simp] theorem State.modChan_sub (s : State) (i : Nat) (f : Chan → Chan) : (s.modChan i f).sub = s.sub := rfl
@[simp] theorem State.setChan_fir (s : State) (i : Nat) (v : Chan) : (s.setChan i v).fir = s.fir := rfl
@[simp] theorem State.modChan_fir (s : State) (i : Nat) (f : Chan → Chan) : (s.modChan i f).fir = s.fir := rfl
@[simp] theorem State.setChan_snr (s : State) (i : Nat) (v : Chan) : (s.setChan i v).snr = s.snr := rfl
@[simp] theorem State.modChan_snr (s : State) (i : Nat) (f : Chan → Chan) : (s.modChan i f).snr = s.snr := rfl
@[simp] theorem State.setChan_cam (s : State) (i : Nat) (v : Chan) : (s.setChan i v).cam = s.cam := rfl
@[simp] theorem State.modChan_cam (s : State) (i : Nat) (f : Chan → Chan) : (s.modChan i f).cam = s.cam := rfl
@[simp] theorem State.setChan_stk (s : State) (i : Nat) (v : Chan) : (s.setChan i v).stk = s.stk := rfl
@[simp] theorem State.modChan_stk (s : State) (i : Nat) (f : Chan → Chan) : (s.modChan i f).stk = s.stk := rfl
@[simp] theorem State.setChan_mot (s : State) (i : Nat) (v : Chan) : (s.setChan i v).mot = s.mot := rfl
@[simp] theorem State.modChan_mot (s : State) (i : Nat) (f : Chan → Chan) : (s.modChan i f).mot = s.mot := rfl
@[simp] theorem State.setChan_cle (s : State) (i : Nat) (v : Chan) : (s.setChan i v).cle = s.cle := rfl
@[simp] theorem State.modChan_cle (s : State) (i : Nat) (f : Chan → Chan) : (s.modChan i f).cle = s.cle := rfl
@[simp] theorem State.setChan_led (s : State) (i : Nat) (v : Chan) : (s.setChan i v).led = s.led := rfl
@[simp] theorem State.modChan_led (s : State) (i : Nat) (f : Chan → Chan) : (s.modChan i f).led = s.led := rfl
@[simp] theorem State.setChan_tim (s : State) (i : Nat) (v : Chan) : (s.setChan i v).tim = s.tim := rfl
@[simp] theorem State.modChan_tim (s : State) (i : Nat) (f : Chan → Chan) : (s.modChan i f).tim = s.tim := rfl
@[simp] theorem State.setChan_twn (s : State) (i : Nat) (v : Chan) : (s.setChan i v).twn = s.twn := rfl
@[simp] theorem State.modChan_twn (s : State) (i : Nat) (f : Chan → Chan) : (s.modChan i f).twn = s.twn := rfl
@[simp] theorem State.setChan_rim (s : State) (i : Nat) (v : Chan) : (s.setChan i v).rim = s.rim := rfl
@[simp] theorem State.modChan_rim (s : State) (i : Nat) (f : Chan → Chan) : (s.modChan i f).rim = s.rim := rfl
@[simp] theorem State.setChan_gng (s : State) (i : Nat) (v : Chan) : (s.setChan i v).gng = s.gng := rfl
@[simp] theorem State.modChan_gng (s : State) (i : Nat) (f : Chan → Chan) : (s.modChan i f).gng = s.gng := rfl
@[simp] theorem State.setChan_gpio (s : State) (i : Nat) (v : Chan) : (s.setChan i v).gpio = s.gpio := rfl
@[simp] theorem State.modChan_gpio (s : State) (i : Nat) (f : Chan → Chan) : (s.modChan i f).gpio = s.gpio := rfl
@[simp] theorem State.setChan_i2c (s : State) (i : Nat) (v : Chan) : (s.setChan i v).i2c = s.i2c := rfl
@[simp] theorem State.modChan_i2c (s : State) (i : Nat) (f : Chan → Chan) : (s.modChan i f).i2c = s.i2c := rfl
@[simp] theorem State.setChan_copyOwn (s : State) (i : Nat) (v : Chan) : (s.setChan i v).copyOwn = s.copyOwn := rfl
@[simp] theorem State.modChan_copyOwn (s : State) (i : Nat) (f : Chan → Chan) : (s.modChan i f).copyOwn = s.copyOwn := rfl
@[simp] theorem State.setChan_copySince (s : State) (i : Nat) (v : Chan) : (s.setChan i v).copySince = s.copySince := rfl
@[simp] theorem State.modChan_copySince (s : State) (i : Nat) (f : Chan → Chan) : (s.modChan i f).copySince = s.copySince := rfl
@[simp] theorem State.setChan_dram (s : State) (i : Nat) (v : Chan) : (s.setChan i v).dram = s.dram := rfl
@[simp] theorem State.modChan_dram (s : State) (i : Nat) (f : Chan → Chan) : (s.modChan i f).dram = s.dram := rfl
@[simp] theorem State.chan_setChan (s : State) (i : Nat) (v : Chan) : (s.setChan i v).chan i = v := by
  simp [State.chan, State.setChan]
@[simp] theorem State.chan_setChan_ne (s : State) {i k : Nat} (h : k ≠ i) (v : Chan) : (s.setChan i v).chan k = s.chan k := by
  simp [State.chan, State.setChan, h]
@[simp] theorem State.chan_modChan (s : State) (i : Nat) (f : Chan → Chan) : (s.modChan i f).chan i = f (s.chan i) := by
  simp [State.modChan]

@[simp] theorem State.setProbe_tick (s : State) (i : Nat) (v : Probe) : (s.setProbe i v).tick = s.tick := rfl
@[simp] theorem State.modProbe_tick (s : State) (i : Nat) (f : Probe → Probe) : (s.modProbe i f).tick = s.tick := rfl
@[simp] theorem State.setProbe_pending (s : State) (i : Nat) (v : Probe) : (s.setProbe i v).pending = s.pending := rfl
@[simp] theorem State.modProbe_pending (s : State) (i : Nat) (f : Probe → Probe) : (s.modProbe i f).pending = s.pending := rfl
@[simp] theorem State.setProbe_out (s : State) (i : Nat) (v : Probe) : (s.setProbe i v).out = s.out := rfl
@[simp] theorem State.modProbe_out (s : State) (i : Nat) (f : Probe → Probe) : (s.modProbe i f).out = s.out := rfl
@[simp] theorem State.setProbe_free (s : State) (i : Nat) (v : Probe) : (s.setProbe i v).free = s.free := rfl
@[simp] theorem State.modProbe_free (s : State) (i : Nat) (f : Probe → Probe) : (s.modProbe i f).free = s.free := rfl
@[simp] theorem State.setProbe_sys (s : State) (i : Nat) (v : Probe) : (s.setProbe i v).sys = s.sys := rfl
@[simp] theorem State.modProbe_sys (s : State) (i : Nat) (f : Probe → Probe) : (s.modProbe i f).sys = s.sys := rfl
@[simp] theorem State.setProbe_hif (s : State) (i : Nat) (v : Probe) : (s.setProbe i v).hif = s.hif := rfl
@[simp] theorem State.modProbe_hif (s : State) (i : Nat) (f : Probe → Probe) : (s.modProbe i f).hif = s.hif := rfl
@[simp] theorem State.setProbe_evt (s : State) (i : Nat) (v : Probe) : (s.setProbe i v).evt = s.evt := rfl
@[simp] theorem State.modProbe_evt (s : State) (i : Nat) (f : Probe → Probe) : (s.modProbe i f).evt = s.evt := rfl
@[simp] theorem State.setProbe_geo (s : State) (i : Nat) (v : Probe) : (s.setProbe i v).geo = s.geo := rfl
@[simp] theorem State.modProbe_geo (s : State) (i : Nat) (f : Probe → Probe) : (s.modProbe i f).geo = s.geo := rfl
@[simp] theorem State.setProbe_pgq (s : State) (i : Nat) (v : Probe) : (s.setProbe i v).pgq = s.pgq := rfl
@[simp] theorem State.modProbe_pgq (s : State) (i : Nat) (f : Probe → Probe) : (s.modProbe i f).pgq = s.pgq := rfl
@[simp] theorem State.setProbe_dec (s : State) (i : Nat) (v : Probe) : (s.setProbe i v).dec = s.dec := rfl
@[simp] theorem State.modProbe_dec (s : State) (i : Nat) (f : Probe → Probe) : (s.modProbe i f).dec = s.dec := rfl
@[simp] theorem State.setProbe_cmp (s : State) (i : Nat) (v : Probe) : (s.setProbe i v).cmp = s.cmp := rfl
@[simp] theorem State.modProbe_cmp (s : State) (i : Nat) (f : Probe → Probe) : (s.modProbe i f).cmp = s.cmp := rfl
@[simp] theorem State.setProbe_mal (s : State) (i : Nat) (v : Probe) : (s.setProbe i v).mal = s.mal := rfl
@[simp] theorem State.modProbe_mal (s : State) (i : Nat) (f : Probe → Probe) : (s.modProbe i f).mal = s.mal := rfl
@[simp] theorem State.setProbe_sub (s : State) (i : Nat) (v : Probe) : (s.setProbe i v).sub = s.sub := rfl
@[simp] theorem State.modProbe_sub (s : State) (i : Nat) (f : Probe → Probe) : (s.modProbe i f).sub = s.sub := rfl
@[simp] theorem State.setProbe_fir (s : State) (i : Nat) (v : Probe) : (s.setProbe i v).fir = s.fir := rfl
@[simp] theorem State.modProbe_fir (s : State) (i : Nat) (f : Probe → Probe) : (s.modProbe i f).fir = s.fir := rfl
@[simp] theorem State.setProbe_snr (s : State) (i : Nat) (v : Probe) : (s.setProbe i v).snr = s.snr := rfl
@[simp] theorem State.modProbe_snr (s : State) (i : Nat) (f : Probe → Probe) : (s.modProbe i f).snr = s.snr := rfl
@[simp] theorem State.setProbe_cam (s : State) (i : Nat) (v : Probe) : (s.setProbe i v).cam = s.cam := rfl
@[simp] theorem State.modProbe_cam (s : State) (i : Nat) (f : Probe → Probe) : (s.modProbe i f).cam = s.cam := rfl
@[simp] theorem State.setProbe_stk (s : State) (i : Nat) (v : Probe) : (s.setProbe i v).stk = s.stk := rfl
@[simp] theorem State.modProbe_stk (s : State) (i : Nat) (f : Probe → Probe) : (s.modProbe i f).stk = s.stk := rfl
@[simp] theorem State.setProbe_mot (s : State) (i : Nat) (v : Probe) : (s.setProbe i v).mot = s.mot := rfl
@[simp] theorem State.modProbe_mot (s : State) (i : Nat) (f : Probe → Probe) : (s.modProbe i f).mot = s.mot := rfl
@[simp] theorem State.setProbe_cle (s : State) (i : Nat) (v : Probe) : (s.setProbe i v).cle = s.cle := rfl
@[simp] theorem State.modProbe_cle (s : State) (i : Nat) (f : Probe → Probe) : (s.modProbe i f).cle = s.cle := rfl
@[simp] theorem State.setProbe_led (s : State) (i : Nat) (v : Probe) : (s.setProbe i v).led = s.led := rfl
@[simp] theorem State.modProbe_led (s : State) (i : Nat) (f : Probe → Probe) : (s.modProbe i f).led = s.led := rfl
@[simp] theorem State.setProbe_tim (s : State) (i : Nat) (v : Probe) : (s.setProbe i v).tim = s.tim := rfl
@[simp] theorem State.modProbe_tim (s : State) (i : Nat) (f : Probe → Probe) : (s.modProbe i f).tim = s.tim := rfl
@[simp] theorem State.setProbe_twn (s : State) (i : Nat) (v : Probe) : (s.setProbe i v).twn = s.twn := rfl
@[simp] theorem State.modProbe_twn (s : State) (i : Nat) (f : Probe → Probe) : (s.modProbe i f).twn = s.twn := rfl
@[simp] theorem State.setProbe_rim (s : State) (i : Nat) (v : Probe) : (s.setProbe i v).rim = s.rim := rfl
@[simp] theorem State.modProbe_rim (s : State) (i : Nat) (f : Probe → Probe) : (s.modProbe i f).rim = s.rim := rfl
@[simp] theorem State.setProbe_gng (s : State) (i : Nat) (v : Probe) : (s.setProbe i v).gng = s.gng := rfl
@[simp] theorem State.modProbe_gng (s : State) (i : Nat) (f : Probe → Probe) : (s.modProbe i f).gng = s.gng := rfl
@[simp] theorem State.setProbe_gpio (s : State) (i : Nat) (v : Probe) : (s.setProbe i v).gpio = s.gpio := rfl
@[simp] theorem State.modProbe_gpio (s : State) (i : Nat) (f : Probe → Probe) : (s.modProbe i f).gpio = s.gpio := rfl
@[simp] theorem State.setProbe_i2c (s : State) (i : Nat) (v : Probe) : (s.setProbe i v).i2c = s.i2c := rfl
@[simp] theorem State.modProbe_i2c (s : State) (i : Nat) (f : Probe → Probe) : (s.modProbe i f).i2c = s.i2c := rfl
@[simp] theorem State.setProbe_copyOwn (s : State) (i : Nat) (v : Probe) : (s.setProbe i v).copyOwn = s.copyOwn := rfl
@[simp] theorem State.modProbe_copyOwn (s : State) (i : Nat) (f : Probe → Probe) : (s.modProbe i f).copyOwn = s.copyOwn := rfl
@[simp] theorem State.setProbe_copySince (s : State) (i : Nat) (v : Probe) : (s.setProbe i v).copySince = s.copySince := rfl
@[simp] theorem State.modProbe_copySince (s : State) (i : Nat) (f : Probe → Probe) : (s.modProbe i f).copySince = s.copySince := rfl
@[simp] theorem State.setProbe_dram (s : State) (i : Nat) (v : Probe) : (s.setProbe i v).dram = s.dram := rfl
@[simp] theorem State.modProbe_dram (s : State) (i : Nat) (f : Probe → Probe) : (s.modProbe i f).dram = s.dram := rfl
@[simp] theorem State.probe_setProbe (s : State) (i : Nat) (v : Probe) : (s.setProbe i v).probe i = v := by
  simp [State.probe, State.setProbe]
@[simp] theorem State.probe_setProbe_ne (s : State) {i k : Nat} (h : k ≠ i) (v : Probe) : (s.setProbe i v).probe k = s.probe k := by
  simp [State.probe, State.setProbe, h]
@[simp] theorem State.probe_modProbe (s : State) (i : Nat) (f : Probe → Probe) : (s.modProbe i f).probe i = f (s.probe i) := by
  simp [State.modProbe]

@[simp] theorem State.setCmpr_tick (s : State) (i : Nat) (v : Cmpr) : (s.setCmpr i v).tick = s.tick := rfl
@[simp] theorem State.modCmpr_tick (s : State) (i : Nat) (f : Cmpr → Cmpr) : (s.modCmpr i f).tick = s.tick := rfl
@[simp] theorem State.setCmpr_pending (s : State) (i : Nat) (v : Cmpr) : (s.setCmpr i v).pending = s.pending := rfl
@[simp] theorem State.modCmpr_pending (s : State) (i : Nat) (f : Cmpr → Cmpr) : (s.modCmpr i f).pending = s.pending := rfl
@[simp] theorem State.setCmpr_out (s : State) (i : Nat) (v : Cmpr) : (s.setCmpr i v).out = s.out := rfl
@[simp] theorem State.modCmpr_out (s : State) (i : Nat) (f : Cmpr → Cmpr) : (s.modCmpr i f).out = s.out := rfl
@[simp] theorem State.setCmpr_free (s : State) (i : Nat) (v : Cmpr) : (s.setCmpr i v).free = s.free := rfl
@[simp] theorem State.modCmpr_free (s : State) (i : Nat) (f : Cmpr → Cmpr) : (s.modCmpr i f).free = s.free := rfl
@[simp] theorem State.setCmpr_sys (s : State) (i : Nat) (v : Cmpr) : (s.setCmpr i v).sys = s.sys := rfl
@[simp] theorem State.modCmpr_sys (s : State) (i : Nat) (f : Cmpr → Cmpr) : (s.modCmpr i f).sys = s.sys := rfl
@[simp] theorem State.setCmpr_hif (s : State) (i : Nat) (v : Cmpr) : (s.setCmpr i v).hif = s.hif := rfl
@[simp] theorem State.modCmpr_hif (s : State) (i : Nat) (f : Cmpr → Cmpr) : (s.modCmpr i f).hif = s.hif := rfl
@[simp] theorem State.setCmpr_evt (s : State) (i : Nat) (v : Cmpr) : (s.setCmpr i v).evt = s.evt := rfl
@[simp] theorem State.modCmpr_evt (s : State) (i : Nat) (f : Cmpr → Cmpr) : (s.modCmpr i f).evt = s.evt := rfl
@[simp] theorem State.setCmpr_geo (s : State) (i : Nat) (v : Cmpr) : (s.setCmpr i v).geo = s.geo := rfl
@[simp] theorem State.modCmpr_geo (s : State) (i : Nat) (f : Cmpr → Cmpr) : (s.modCmpr i f).geo = s.geo := rfl
@[simp] theorem State.setCmpr_pgq (s : State) (i : Nat) (v : Cmpr) : (s.setCmpr i v).pgq = s.pgq := rfl
@[simp] theorem State.modCmpr_pgq (s : State) (i : Nat) (f : Cmpr → Cmpr) : (s.modCmpr i f).pgq = s.pgq := rfl
@[simp] theorem State.setCmpr_dec (s : State) (i : Nat) (v : Cmpr) : (s.setCmpr i v).dec = s.dec := rfl
@[simp] theorem State.modCmpr_dec (s : State) (i : Nat) (f : Cmpr → Cmpr) : (s.modCmpr i f).dec = s.dec := rfl
@[simp] theorem State.setCmpr_cmp (s : State) (i : Nat) (v : Cmpr) : (s.setCmpr i v).cmp = s.cmp := rfl
@[simp] theorem State.modCmpr_cmp (s : State) (i : Nat) (f : Cmpr → Cmpr) : (s.modCmpr i f).cmp = s.cmp := rfl
@[simp] theorem State.setCmpr_mal (s : State) (i : Nat) (v : Cmpr) : (s.setCmpr i v).mal = s.mal := rfl
@[simp] theorem State.modCmpr_mal (s : State) (i : Nat) (f : Cmpr → Cmpr) : (s.modCmpr i f).mal = s.mal := rfl
@[simp] theorem State.setCmpr_sub (s : State) (i : Nat) (v : Cmpr) : (s.setCmpr i v).sub = s.sub := rfl
@[simp] theorem State.modCmpr_sub (s : State) (i : Nat) (f : Cmpr → Cmpr) : (s.modCmpr i f).sub = s.sub := rfl
@[simp] theorem State.setCmpr_fir (s : State) (i : Nat) (v : Cmpr) : (s.setCmpr i v).fir = s.fir := rfl
@[simp] theorem State.modCmpr_fir (s : State) (i : Nat) (f : Cmpr → Cmpr) : (s.modCmpr i f).fir = s.fir := rfl
@[simp] theorem State.setCmpr_snr (s : State) (i : Nat) (v : Cmpr) : (s.setCmpr i v).snr = s.snr := rfl
@[simp] theorem State.modCmpr_snr (s : State) (i : Nat) (f : Cmpr → Cmpr) : (s.modCmpr i f).snr = s.snr := rfl
@[simp] theorem State.setCmpr_cam (s : State) (i : Nat) (v : Cmpr) : (s.setCmpr i v).cam = s.cam := rfl
@[simp] theorem State.modCmpr_cam (s : State) (i : Nat) (f : Cmpr → Cmpr) : (s.modCmpr i f).cam = s.cam := rfl
@[simp] theorem State.setCmpr_stk (s : State) (i : Nat) (v : Cmpr) : (s.setCmpr i v).stk = s.stk := rfl
@[simp] theorem State.modCmpr_stk (s : State) (i : Nat) (f : Cmpr → Cmpr) : (s.modCmpr i f).stk = s.stk := rfl
@[simp] theorem State.setCmpr_mot (s : State) (i : Nat) (v : Cmpr) : (s.setCmpr i v).mot = s.mot := rfl
@[simp] theorem State.modCmpr_mot (s : State) (i : Nat) (f : Cmpr → Cmpr) : (s.modCmpr i f).mot = s.mot := rfl
@[simp] theorem State.setCmpr_cle (s : State) (i : Nat) (v : Cmpr) : (s.setCmpr i v).cle = s.cle := rfl
@[simp] theorem State.modCmpr_cle (s : State) (i : Nat) (f : Cmpr → Cmpr) : (s.modCmpr i f).cle = s.cle := rfl
@[simp] theorem State.setCmpr_led (s : State) (i : Nat) (v : Cmpr) : (s.setCmpr i v).led = s.led := rfl
@[simp] theorem State.modCmpr_led (s : State) (i : Nat) (f : Cmpr → Cmpr) : (s.modCmpr i f).led = s.led := rfl
@[simp] theorem State.setCmpr_tim (s : State) (i : Nat) (v : Cmpr) : (s.setCmpr i v).tim = s.tim := rfl
@[simp] theorem State.modCmpr_tim (s : State) (i : Nat) (f : Cmpr → Cmpr) : (s.modCmpr i f).tim = s.tim := rfl
@[simp] theorem State.setCmpr_twn (s : State) (i : Nat) (v : Cmpr) : (s.setCmpr i v).twn = s.twn := rfl
@[simp] theorem State.modCmpr_twn (s : State) (i : Nat) (f : Cmpr → Cmpr) : (s.modCmpr i f).twn = s.twn := rfl
@[simp] theorem State.setCmpr_rim (s : State) (i : Nat) (v : Cmpr) : (s.setCmpr i v).rim = s.rim := rfl
@[simp] theorem State.modCmpr_rim (s : State) (i : Nat) (f : Cmpr → Cmpr) : (s.modCmpr i f).rim = s.rim := rfl
@[simp] theorem State.setCmpr_gng (s : State) (i : Nat) (v : Cmpr) : (s.setCmpr i v).gng = s.gng := rfl
@[simp] theorem State.modCmpr_gng (s : State) (i : Nat) (f : Cmpr → Cmpr) : (s.modCmpr i f).gng = s.gng := rfl
@[simp] theorem State.setCmpr_gpio (s : State) (i : Nat) (v : Cmpr) : (s.setCmpr i v).gpio = s.gpio := rfl
@[simp] theorem State.modCmpr_gpio (s : State) (i : Nat) (f : Cmpr → Cmpr) : (s.modCmpr i f).gpio = s.gpio := rfl
@[simp] theorem State.setCmpr_i2c (s : State) (i : Nat) (v : Cmpr) : (s.setCmpr i v).i2c = s.i2c := rfl
@[simp] theorem State.modCmpr_i2c (s : State) (i : Nat) (f : Cmpr → Cmpr) : (s.modCmpr i f).i2c = s.i2c := rfl
@[simp] theorem State.setCmpr_copyOwn (s : State) (i : Nat) (v : Cmpr) : (s.setCmpr i v).copyOwn = s.copyOwn := rfl
@[simp] theorem State.modCmpr_copyOwn (s : State) (i : Nat) (f : Cmpr → Cmpr) : (s.modCmpr i f).copyOwn = s.copyOwn := rfl
@[simp] theorem State.setCmpr_copySince (s : State) (i : Nat) (v : Cmpr) : (s.setCmpr i v).copySince = s.copySince := rfl
@[simp] theorem State.modCmpr_copySince (s : State) (i : Nat) (f : Cmpr → Cmpr) : (s.modCmpr i f).copySince = s.copySince := rfl
@[simp] theorem State.setCmpr_dram (s : State) (i : Nat) (v : Cmpr) : (s.setCmpr i v).dram = s.dram := rfl
@[simp] theorem State.modCmpr_dram (s : State) (i : Nat) (f : Cmpr → Cmpr) : (s.modCmpr i f).dram = s.dram := rfl
@[simp] theorem State.cmpr_setCmpr (s : State) (i : Nat) (v : Cmpr) : (s.setCmpr i v).cmpr i = v := by
  simp [State.cmpr, State.setCmpr]
@[simp] theorem State.cmpr_setCmpr_ne (s : State) {i k : Nat} (h : k ≠ i) (v : Cmpr) : (s.setCmpr i v).cmpr k = s.cmpr k := by
  simp [State.cmpr, State.setCmpr, h]
@[simp] theorem State.cmpr_modCmpr (s : State) (i : Nat) (f : Cmpr → Cmpr) : (s.modCmpr i f).cmpr i = f (s.cmpr i) := by
  simp [State.modCmpr]

@[simp] theorem State.setSwitchIn_tick (s : State) (i : Nat) (v : Switch) : (s.setSwitchIn i v).tick = s.tick := rfl
@[simp] theorem State.modSwitchIn_tick (s : State) (i : Nat) (f : Switch → Switch) : (s.modSwitchIn i f).tick = s.tick := rfl
@[simp] theorem State.setSwitchIn_pending (s : State) (i : Nat) (v : Switch) : (s.setSwitchIn i v).pending = s.pending := rfl
@[simp] theorem State.modSwitchIn_pending (s : State) (i : Nat) (f : Switch → Switch) : (s.modSwitchIn i f).pending = s.pending := rfl
@[simp] theorem State.setSwitchIn_out (s : State) (i : Nat) (v : Switch) : (s.setSwitchIn i v).out = s.out := rfl
@[simp] theorem State.modSwitchIn_out (s : State) (i : Nat) (f : Switch → Switch) : (s.modSwitchIn i f).out = s.out := rfl
@[simp] theorem State.setSwitchIn_free (s : State) (i : Nat) (v : Switch) : (s.setSwitchIn i v).free = s.free := rfl
@[simp] theorem State.modSwitchIn_free (s : State) (i : Nat) (f : Switch → Switch) : (s.modSwitchIn i f).free = s.free := rfl
@[simp] theorem State.setSwitchIn_sys (s : State) (i : Nat) (v : Switch) : (s.setSwitchIn i v).sys = s.sys := rfl
@[simp] theorem State.modSwitchIn_sys (s : State) (i : Nat) (f : Switch → Switch) : (s.modSwitchIn i f).sys = s.sys := rfl
@[simp] theorem State.setSwitchIn_hif (s : State) (i : Nat) (v : Switch) : (s.setSwitchIn i v).hif = s.hif := rfl
@[simp] theorem State.modSwitchIn_hif (s : State) (i : Nat) (f : Switch → Switch) : (s.modSwitchIn i f).hif = s.hif := rfl
@[simp] theorem State.setSwitchIn_evt (s : State) (i : Nat) (v : Switch) : (s.setSwitchIn i v).evt = s.evt := rfl
@[simp] theorem State.modSwitchIn_evt (s : State) (i : Nat) (f : Switch → Switch) : (s.modSwitchIn i f).evt = s.evt := rfl
@[simp] theorem State.setSwitchIn_geo (s : State) (i : Nat) (v : Switch) : (s.setSwitchIn i v).geo = s.geo := rfl
@[simp] theorem State.modSwitchIn_geo (s : State) (i : Nat) (f : Switch → Switch) : (s.modSwitchIn i f).geo = s.geo := rfl
@[simp] theorem State.setSwitchIn_pgq (s : State) (i : Nat) (v : Switch) : (s.setSwitchIn i v).pgq = s.pgq := rfl
@[simp] theorem State.modSwitchIn_pgq (s : State) (i : Nat) (f : Switch → Switch) : (s.modSwitchIn i f).pgq = s.pgq := rfl
@[simp] theorem State.setSwitchIn_dec (s : State) (i : Nat) (v : Switch) : (s.setSwitchIn i v).dec = s.dec := rfl
@[simp] theorem State.modSwitchIn_dec (s : State) (i : Nat) (f : Switch → Switch) : (s.modSwitchIn i f).dec = s.dec := rfl
@[simp] theorem State.setSwitchIn_cmp (s : State) (i : Nat) (v : Switch) : (s.setSwitchIn i v).cmp = s.cmp := rfl
@[simp] theorem State.modSwitchIn_cmp (s : State) (i : Nat) (f : Switch → Switch) : (s.modSwitchIn i f).cmp = s.cmp := rfl
@[simp] theorem State.setSwitchIn_mal (s : State) (i : Nat) (v : Switch) : (s.setSwitchIn i v).mal = s.mal := rfl
@[simp] theorem State.modSwitchIn_mal (s : State) (i : Nat) (f : Switch → Switch) : (s.modSwitchIn i f).mal = s.mal := rfl
@[simp] theorem State.setSwitchIn_sub (s : State) (i : Nat) (v : Switch) : (s.setSwitchIn i v).sub = s.sub := rfl
@[simp] theorem State.modSwitchIn_sub (s : State) (i : Nat) (f : Switch → Switch) : (s.modSwitchIn i f).sub = s.sub := rfl
@[simp] theorem State.setSwitchIn_fir (s : State) (i : Nat) (v : Switch) : (s.setSwitchIn i v).fir = s.fir := rfl
@[simp] theorem State.modSwitchIn_fir (s : State) (i : Nat) (f : Switch → Switch) : (s.modSwitchIn i f).fir = s.fir := rfl
@[simp] theorem State.setSwitchIn_snr (s : State) (i : Nat) (v : Switch) : (s.setSwitchIn i v).snr = s.snr := rfl
@[simp] theorem State.modSwitchIn_snr (s : State) (i : Nat) (f : Switch → Switch) : (s.modSwitchIn i f).snr = s.snr := rfl
@[simp] theorem State.setSwitchIn_cam (s : State) (i : Nat) (v : Switch) : (s.setSwitchIn i v).cam = s.cam := rfl
@[simp] theorem State.modSwitchIn_cam (s : State) (i : Nat) (f : Switch → Switch) : (s.modSwitchIn i f).cam = s.cam := rfl
@[simp] theorem State.setSwitchIn_stk (s : State) (i : Nat) (v : Switch) : (s.setSwitchIn i v).stk = s.stk := rfl
@[simp] theorem State.modSwitchIn_stk (s : State) (i : Nat) (f : Switch → Switch) : (s.modSwitchIn i f).stk = s.stk := rfl
@[simp] theorem State.setSwitchIn_mot (s : State) (i : Nat) (v : Switch) : (s.setSwitchIn i v).mot = s.mot := rfl
@[simp] theorem State.modSwitchIn_mot (s : State) (i : Nat) (f : Switch → Switch) : (s.modSwitchIn i f).mot = s.mot := rfl
@[simp] theorem State.setSwitchIn_cle (s : State) (i : Nat) (v : Switch) : (s.setSwitchIn i v).cle = s.cle := rfl
@[simp] theorem State.modSwitchIn_cle (s : State) (i : Nat) (f : Switch → Switch) : (s.modSwitchIn i f).cle = s.cle := rfl
@[simp] theorem State.setSwitchIn_led (s : State) (i : Nat) (v : Switch) : (s.setSwitchIn i v).led = s.led := rfl
@[simp] theorem State.modSwitchIn_led (s : State) (i : Nat) (f : Switch → Switch) : (s.modSwitchIn i f).led = s.led := rfl
@[simp] theorem State.setSwitchIn_tim (s : State) (i : Nat) (v : Switch) : (s.setSwitchIn i v).tim = s.tim := rfl
@[simp] theorem State.modSwitchIn_tim (s : State) (i : Nat) (f : Switch → Switch) : (s.modSwitchIn i f).tim = s.tim := rfl
@[simp] theorem State.setSwitchIn_twn (s : State) (i : Nat) (v : Switch) : (s.setSwitchIn i v).twn = s.twn := rfl
@[simp] theorem State.modSwitchIn_twn (s : State) (i : Nat) (f : Switch → Switch) : (s.modSwitchIn i f).twn = s.twn := rfl
@[simp] theorem State.setSwitchIn_rim (s : State) (i : Nat) (v : Switch) : (s.setSwitchIn i v).rim = s.rim := rfl
@[simp] theorem State.modSwitchIn_rim (s : State) (i : Nat) (f : Switch → Switch) : (s.modSwitchIn i f).rim = s.rim := rfl
@[simp] theorem State.setSwitchIn_gng (s : State) (i : Nat) (v : Switch) : (s.setSwitchIn i v).gng = s.gng := rfl
@[simp] theorem State.modSwitchIn_gng (s : State) (i : Nat) (f : Switch → Switch) : (s.modSwitchIn i f).gng = s.gng := rfl
@[simp] theorem State.setSwitchIn_gpio (s : State) (i : Nat) (v : Switch) : (s.setSwitchIn i v).gpio = s.gpio := rfl
@[simp] theorem State.modSwitchIn_gpio (s : State) (i : Nat) (f : Switch → Switch) : (s.modSwitchIn i f).gpio = s.gpio := rfl
@[simp] theorem State.setSwitchIn_i2c (s : State) (i : Nat) (v : Switch) : (s.setSwitchIn i v).i2c = s.i2c := rfl
@[simp] theorem State.modSwitchIn_i2c (s : State) (i : Nat) (f : Switch → Switch) : (s.modSwitchIn i f).i2c = s.i2c := rfl
@[simp] theorem State.setSwitchIn_copyOwn (s : State) (i : Nat) (v : Switch) : (s.setSwitchIn i v).copyOwn = s.copyOwn := rfl
@[simp] theorem State.modSwitchIn_copyOwn (s : State) (i : Nat) (f : Switch → Switch) : (s.modSwitchIn i f).copyOwn = s.copyOwn := rfl
@[simp] theorem State.setSwitchIn_copySince (s : State) (i : Nat) (v : Switch) : (s.setSwitchIn i v).copySince = s.copySince := rfl
@[simp] theorem State.modSwitchIn_copySince (s : State) (i : Nat) (f : Switch → Switch) : (s.modSwitchIn i f).copySince = s.copySince := rfl
@[simp] theorem State.setSwitchIn_dram (s : State) (i : Nat) (v : Switch) : (s.setSwitchIn i v).dram = s.dram := rfl
@[simp] theorem State.modSwitchIn_dram (s : State) (i : Nat) (f : Switch → Switch) : (s.modSwitchIn i f).dram = s.dram := rfl
@[simp] theorem State.switchIn_setSwitchIn (s : State) (i : Nat) (v : Switch) : (s.setSwitchIn i v).switchIn i = v := by
  simp [State.switchIn, State.setSwitchIn]
@[simp] theorem State.switchIn_setSwitchIn_ne (s : State) {i k : Nat} (h : k ≠ i) (v : Switch) : (s.setSwitchIn i v).switchIn k = s.switchIn k := by
  simp [State.switchIn, State.setSwitchIn, h]
@[simp] theorem State.switchIn_modSwitchIn (s : State) (i : Nat) (f : Switch → Switch) : (s.modSwitchIn i f).switchIn i = f (s.switchIn i) := by
  simp [State.modSwitchIn]

@[simp] theorem State.setAdcIn_tick (s : State) (i : Nat) (v : AdcIn) : (s.setAdcIn i v).tick = s.tick := rfl
@[simp] theorem State.modAdcIn_tick (s : State) (i : Nat) (f : AdcIn → AdcIn) : (s.modAdcIn i f).tick = s.tick := rfl
@[simp] theorem State.setAdcIn_pending (s : State) (i : Nat) (v : AdcIn) : (s.setAdcIn i v).pending = s.pending := rfl
@[simp] theorem State.modAdcIn_pending (s : State) (i : Nat) (f : AdcIn → AdcIn) : (s.modAdcIn i f).pending = s.pending := rfl
@[simp] theorem State.setAdcIn_out (s : State) (i : Nat) (v : AdcIn) : (s.setAdcIn i v).out = s.out := rfl
@[simp] theorem State.modAdcIn_out (s : State) (i : Nat) (f : AdcIn → AdcIn) : (s.modAdcIn i f).out = s.out := rfl
@[simp] theorem State.setAdcIn_free (s : State) (i : Nat) (v : AdcIn) : (s.setAdcIn i v).free = s.free := rfl
@[simp] theorem State.modAdcIn_free (s : State) (i : Nat) (f : AdcIn → AdcIn) : (s.modAdcIn i f).free = s.free := rfl
@[simp] theorem State.setAdcIn_sys (s : State) (i : Nat) (v : AdcIn) : (s.setAdcIn i v).sys = s.sys := rfl
@[simp] theorem State.modAdcIn_sys (s : State) (i : Nat) (f : AdcIn → AdcIn) : (s.modAdcIn i f).sys = s.sys := rfl
@[simp] theorem State.setAdcIn_hif (s : State) (i : Nat) (v : AdcIn) : (s.setAdcIn i v).hif = s.hif := rfl
@[simp] theorem State.modAdcIn_hif (s : State) (i : Nat) (f : AdcIn → AdcIn) : (s.modAdcIn i f).hif = s.hif := rfl
@[simp] theorem State.setAdcIn_evt (s : State) (i : Nat) (v : AdcIn) : (s.setAdcIn i v).evt = s.evt := rfl
@[simp] theorem State.modAdcIn_evt (s : State) (i : Nat) (f : AdcIn → AdcIn) : (s.modAdcIn i f).evt = s.evt := rfl
@[simp] theorem State.setAdcIn_geo (s : State) (i : Nat) (v : AdcIn) : (s.setAdcIn i v).geo = s.geo := rfl
@[simp] theorem State.modAdcIn_geo (s : State) (i : Nat) (f : AdcIn → AdcIn) : (s.modAdcIn i f).geo = s.geo := rfl
@[simp] theorem State.setAdcIn_pgq (s : State) (i : Nat) (v : AdcIn) : (s.setAdcIn i v).pgq = s.pgq := rfl
@[simp] theorem State.modAdcIn_pgq (s : State) (i : Nat) (f : AdcIn → AdcIn) : (s.modAdcIn i f).pgq = s.pgq := rfl
@[simp] theorem State.setAdcIn_dec (s : State) (i : Nat) (v : AdcIn) : (s.setAdcIn i v).dec = s.dec := rfl
@[simp] theorem State.modAdcIn_dec (s : State) (i : Nat) (f : AdcIn → AdcIn) : (s.modAdcIn i f).dec = s.dec := rfl
@[simp] theorem State.setAdcIn_cmp (s : State) (i : Nat) (v : AdcIn) : (s.setAdcIn i v).cmp = s.cmp := rfl
@[simp] theorem State.modAdcIn_cmp (s : State) (i : Nat) (f : AdcIn → AdcIn) : (s.modAdcIn i f).cmp = s.cmp := rfl
@[simp] theorem State.setAdcIn_mal (s : State) (i : Nat) (v : AdcIn) : (s.setAdcIn i v).mal = s.mal := rfl
@[simp] theorem State.modAdcIn_mal (s : State) (i : Nat) (f : AdcIn → AdcIn) : (s.modAdcIn i f).mal = s.mal := rfl
@[simp] theorem State.setAdcIn_sub (s : State) (i : Nat) (v : AdcIn) : (s.setAdcIn i v).sub = s.sub := rfl
@[simp] theorem State.modAdcIn_sub (s : State) (i : Nat) (f : AdcIn → AdcIn) : (s.modAdcIn i f).sub = s.sub := rfl
@[simp] theorem State.setAdcIn_fir (s : State) (i : Nat) (v : AdcIn) : (s.setAdcIn i v).fir = s.fir := rfl
@[simp] theorem State.modAdcIn_fir (s : State) (i : Nat) (f : AdcIn → AdcIn) : (s.modAdcIn i f).fir = s.fir := rfl
@[simp] theorem State.setAdcIn_snr (s : State) (i : Nat) (v : AdcIn) : (s.setAdcIn i v).snr = s.snr := rfl
@[simp] theorem State.modAdcIn_snr (s : State) (i : Nat) (f : AdcIn → AdcIn) : (s.modAdcIn i f).snr = s.snr := rfl
@[simp] theorem State.setAdcIn_cam (s : State) (i : Nat) (v : AdcIn) : (s.setAdcIn i v).cam = s.cam := rfl
@[simp] theorem State.modAdcIn_cam (s : State) (i : Nat) (f : AdcIn → AdcIn) : (s.modAdcIn i f).cam = s.cam := rfl
@[simp] theorem State.setAdcIn_stk (s : State) (i : Nat) (v : AdcIn) : (s.setAdcIn i v).stk = s.stk := rfl
@[simp] theorem State.modAdcIn_stk (s : State) (i : Nat) (f : AdcIn → AdcIn) : (s.modAdcIn i f).stk = s.stk := rfl
@[simp] theorem State.setAdcIn_mot (s : State) (i : Nat) (v : AdcIn) : (s.setAdcIn i v).mot = s.mot := rfl
@[simp] theorem State.modAdcIn_mot (s : State) (i : Nat) (f : AdcIn → AdcIn) : (s.modAdcIn i f).mot = s.mot := rfl
@[simp] theorem State.setAdcIn_enc (s : State) (i : Nat) (v : AdcIn) : (s.setAdcIn i v).enc = s.enc := rfl
@[simp] theorem State.modAdcIn_enc (s : State) (i : Nat) (f : AdcIn → AdcIn) : (s.modAdcIn i f).enc = s.enc := rfl
@[simp] theorem State.setAdcIn_led (s : State) (i : Nat) (v : AdcIn) : (s.setAdcIn i v).led = s.led := rfl
@[simp] theorem State.modAdcIn_led (s : State) (i : Nat) (f : AdcIn → AdcIn) : (s.modAdcIn i f).led = s.led := rfl
@[simp] theorem State.setAdcIn_tim (s : State) (i : Nat) (v : AdcIn) : (s.setAdcIn i v).tim = s.tim := rfl
@[simp] theorem State.modAdcIn_tim (s : State) (i : Nat) (f : AdcIn → AdcIn) : (s.modAdcIn i f).tim = s.tim := rfl
@[simp] theorem State.setAdcIn_twn (s : State) (i : Nat) (v : AdcIn) : (s.setAdcIn i v).twn = s.twn := rfl
@[simp] theorem State.modAdcIn_twn (s : State) (i : Nat) (f : AdcIn → AdcIn) : (s.modAdcIn i f).twn = s.twn := rfl
@[simp] theorem State.setAdcIn_rim (s : State) (i : Nat) (v : AdcIn) : (s.setAdcIn i v).rim = s.rim := rfl
@[simp] theorem State.modAdcIn_rim (s : State) (i : Nat) (f : AdcIn → AdcIn) : (s.modAdcIn i f).rim = s.rim := rfl
@[simp] theorem State.setAdcIn_gng (s : State) (i : Nat) (v : AdcIn) : (s.setAdcIn i v).gng = s.gng := rfl
@[simp] theorem State.modAdcIn_gng (s : State) (i : Nat) (f : AdcIn → AdcIn) : (s.modAdcIn i f).gng = s.gng := rfl
@[simp] theorem State.setAdcIn_gpio (s : State) (i : Nat) (v : AdcIn) : (s.setAdcIn i v).gpio = s.gpio := rfl
@[simp] theorem State.modAdcIn_gpio (s : State) (i : Nat) (f : AdcIn → AdcIn) : (s.modAdcIn i f).gpio = s.gpio := rfl
@[simp] theorem State.setAdcIn_i2c (s : State) (i : Nat) (v : AdcIn) : (s.setAdcIn i v).i2c = s.i2c := rfl
@[simp] theorem State.modAdcIn_i2c (s : State) (i : Nat) (f : AdcIn → AdcIn) : (s.modAdcIn i f).i2c = s.i2c := rfl
@[simp] theorem State.setAdcIn_copyOwn (s : State) (i : Nat) (v : AdcIn) : (s.setAdcIn i v).copyOwn = s.copyOwn := rfl
@[simp] theorem State.modAdcIn_copyOwn (s : State) (i : Nat) (f : AdcIn → AdcIn) : (s.modAdcIn i f).copyOwn = s.copyOwn := rfl
@[simp] theorem State.setAdcIn_copySince (s : State) (i : Nat) (v : AdcIn) : (s.setAdcIn i v).copySince = s.copySince := rfl
@[simp] theorem State.modAdcIn_copySince (s : State) (i : Nat) (f : AdcIn → AdcIn) : (s.modAdcIn i f).copySince = s.copySince := rfl
@[simp] theorem State.setAdcIn_dram (s : State) (i : Nat) (v : AdcIn) : (s.setAdcIn i v).dram = s.dram := rfl
@[simp] theorem State.modAdcIn_dram (s : State) (i : Nat) (f : AdcIn → AdcIn) : (s.modAdcIn i f).dram = s.dram := rfl
@[simp] theorem State.adcIn_setAdcIn (s : State) (i : Nat) (v : AdcIn) : (s.setAdcIn i v).adcIn i = v := by
  simp [State.adcIn, State.setAdcIn]
@[simp] theorem State.adcIn_setAdcIn_ne (s : State) {i k : Nat} (h : k ≠ i) (v : AdcIn) : (s.setAdcIn i v).adcIn k = s.adcIn k := by
  simp [State.adcIn, State.setAdcIn, h]
@[simp] theorem State.adcIn_modAdcIn (s : State) (i : Nat) (f : AdcIn → AdcIn) : (s.modAdcIn i f).adcIn i = f (s.adcIn i) := by
  simp [State.modAdcIn]

@[simp] theorem State.setLoop_tick (s : State) (i : Nat) (v : Loop) : (s.setLoop i v).tick = s.tick := rfl
@[simp] theorem State.modLoop_tick (s : State) (i : Nat) (f : Loop → Loop) : (s.modLoop i f).tick = s.tick := rfl
@[simp] theorem State.setLoop_pending (s : State) (i : Nat) (v : Loop) : (s.setLoop i v).pending = s.pending := rfl
@[simp] theorem State.modLoop_pending (s : State) (i : Nat) (f : Loop → Loop) : (s.modLoop i f).pending = s.pending := rfl
@[simp] theorem State.setLoop_out (s : State) (i : Nat) (v : Loop) : (s.setLoop i v).out = s.out := rfl
@[simp] theorem State.modLoop_out (s : State) (i : Nat) (f : Loop → Loop) : (s.modLoop i f).out = s.out := rfl
@[simp] theorem State.setLoop_free (s : State) (i : Nat) (v : Loop) : (s.setLoop i v).free = s.free := rfl
@[simp] theorem State.modLoop_free (s : State) (i : Nat) (f : Loop → Loop) : (s.modLoop i f).free = s.free := rfl
@[simp] theorem State.setLoop_sys (s : State) (i : Nat) (v : Loop) : (s.setLoop i v).sys = s.sys := rfl
@[simp] theorem State.modLoop_sys (s : State) (i : Nat) (f : Loop → Loop) : (s.modLoop i f).sys = s.sys := rfl
@[simp] theorem State.setLoop_hif (s : State) (i : Nat) (v : Loop) : (s.setLoop i v).hif = s.hif := rfl
@[simp] theorem State.modLoop_hif (s : State) (i : Nat) (f : Loop → Loop) : (s.modLoop i f).hif = s.hif := rfl
@[simp] theorem State.setLoop_evt (s : State) (i : Nat) (v : Loop) : (s.setLoop i v).evt = s.evt := rfl
@[simp] theorem State.modLoop_evt (s : State) (i : Nat) (f : Loop → Loop) : (s.modLoop i f).evt = s.evt := rfl
@[simp] theorem State.setLoop_geo (s : State) (i : Nat) (v : Loop) : (s.setLoop i v).geo = s.geo := rfl
@[simp] theorem State.modLoop_geo (s : State) (i : Nat) (f : Loop → Loop) : (s.modLoop i f).geo = s.geo := rfl
@[simp] theorem State.setLoop_pgq (s : State) (i : Nat) (v : Loop) : (s.setLoop i v).pgq = s.pgq := rfl
@[simp] theorem State.modLoop_pgq (s : State) (i : Nat) (f : Loop → Loop) : (s.modLoop i f).pgq = s.pgq := rfl
@[simp] theorem State.setLoop_dec (s : State) (i : Nat) (v : Loop) : (s.setLoop i v).dec = s.dec := rfl
@[simp] theorem State.modLoop_dec (s : State) (i : Nat) (f : Loop → Loop) : (s.modLoop i f).dec = s.dec := rfl
@[simp] theorem State.setLoop_cmp (s : State) (i : Nat) (v : Loop) : (s.setLoop i v).cmp = s.cmp := rfl
@[simp] theorem State.modLoop_cmp (s : State) (i : Nat) (f : Loop → Loop) : (s.modLoop i f).cmp = s.cmp := rfl
@[simp] theorem State.setLoop_mal (s : State) (i : Nat) (v : Loop) : (s.setLoop i v).mal = s.mal := rfl
@[simp] theorem State.modLoop_mal (s : State) (i : Nat) (f : Loop → Loop) : (s.modLoop i f).mal = s.mal := rfl
@[simp] theorem State.setLoop_sub (s : State) (i : Nat) (v : Loop) : (s.setLoop i v).sub = s.sub := rfl
@[simp] theorem State.modLoop_sub (s : State) (i : Nat) (f : Loop → Loop) : (s.modLoop i f).sub = s.sub := rfl
@[simp] theorem State.setLoop_fir (s : State) (i : Nat) (v : Loop) : (s.setLoop i v).fir = s.fir := rfl
@[simp] theorem State.modLoop_fir (s : State) (i : Nat) (f : Loop → Loop) : (s.modLoop i f).fir = s.fir := rfl
@[simp] theorem State.setLoop_snr (s : State) (i : Nat) (v : Loop) : (s.setLoop i v).snr = s.snr := rfl
@[simp] theorem State.modLoop_snr (s : State) (i : Nat) (f : Loop → Loop) : (s.modLoop i f).snr = s.snr := rfl
@[simp] theorem State.setLoop_cam (s : State) (i : Nat) (v : Loop) : (s.setLoop i v).cam = s.cam := rfl
@[simp] theorem State.modLoop_cam (s : State) (i : Nat) (f : Loop → Loop) : (s.modLoop i f).cam = s.cam := rfl
@[simp] theorem State.setLoop_stk (s : State) (i : Nat) (v : Loop) : (s.setLoop i v).stk = s.stk := rfl
@[simp] theorem State.modLoop_stk (s : State) (i : Nat) (f : Loop → Loop) : (s.modLoop i f).stk = s.stk := rfl
@[simp] theorem State.setLoop_mot (s : State) (i : Nat) (v : Loop) : (s.setLoop i v).mot = s.mot := rfl
@[simp] theorem State.modLoop_mot (s : State) (i : Nat) (f : Loop → Loop) : (s.modLoop i f).mot = s.mot := rfl
@[simp] theorem State.setLoop_enc (s : State) (i : Nat) (v : Loop) : (s.setLoop i v).enc = s.enc := rfl
@[simp] theorem State.modLoop_enc (s : State) (i : Nat) (f : Loop → Loop) : (s.modLoop i f).enc = s.enc := rfl
@[simp] theorem State.setLoop_led (s : State) (i : Nat) (v : Loop) : (s.setLoop i v).led = s.led := rfl
@[simp] theorem State.modLoop_led (s : State) (i : Nat) (f : Loop → Loop) : (s.modLoop i f).led = s.led := rfl
@[simp] theorem State.setLoop_tim (s : State) (i : Nat) (v : Loop) : (s.setLoop i v).tim = s.tim := rfl
@[simp] theorem State.modLoop_tim (s : State) (i : Nat) (f : Loop → Loop) : (s.modLoop i f).tim = s.tim := rfl
@[simp] theorem State.setLoop_twn (s : State) (i : Nat) (v : Loop) : (s.setLoop i v).twn = s.twn := rfl
@[simp] theorem State.modLoop_twn (s : State) (i : Nat) (f : Loop → Loop) : (s.modLoop i f).twn = s.twn := rfl
@[simp] theorem State.setLoop_rim (s : State) (i : Nat) (v : Loop) : (s.setLoop i v).rim = s.rim := rfl
@[simp] theorem State.modLoop_rim (s : State) (i : Nat) (f : Loop → Loop) : (s.modLoop i f).rim = s.rim := rfl
@[simp] theorem State.setLoop_gng (s : State) (i : Nat) (v : Loop) : (s.setLoop i v).gng = s.gng := rfl
@[simp] theorem State.modLoop_gng (s : State) (i : Nat) (f : Loop → Loop) : (s.modLoop i f).gng = s.gng := rfl
@[simp] theorem State.setLoop_gpio (s : State) (i : Nat) (v : Loop) : (s.setLoop i v).gpio = s.gpio := rfl
@[simp] theorem State.modLoop_gpio (s : State) (i : Nat) (f : Loop → Loop) : (s.modLoop i f).gpio = s.gpio := rfl
@[simp] theorem State.setLoop_i2c (s : State) (i : Nat) (v : Loop) : (s.setLoop i v).i2c = s.i2c := rfl
@[simp] theorem State.modLoop_i2c (s : State) (i : Nat) (f : Loop → Loop) : (s.modLoop i f).i2c = s.i2c := rfl
@[simp] theorem State.setLoop_copyOwn (s : State) (i : Nat) (v : Loop) : (s.setLoop i v).copyOwn = s.copyOwn := rfl
@[simp] theorem State.modLoop_copyOwn (s : State) (i : Nat) (f : Loop → Loop) : (s.modLoop i f).copyOwn = s.copyOwn := rfl
@[simp] theorem State.setLoop_copySince (s : State) (i : Nat) (v : Loop) : (s.setLoop i v).copySince = s.copySince := rfl
@[simp] theorem State.modLoop_copySince (s : State) (i : Nat) (f : Loop → Loop) : (s.modLoop i f).copySince = s.copySince := rfl
@[simp] theorem State.setLoop_dram (s : State) (i : Nat) (v : Loop) : (s.setLoop i v).dram = s.dram := rfl
@[simp] theorem State.modLoop_dram (s : State) (i : Nat) (f : Loop → Loop) : (s.modLoop i f).dram = s.dram := rfl
@[simp] theorem State.loop_setLoop (s : State) (i : Nat) (v : Loop) : (s.setLoop i v).loop i = v := by
  simp [State.loop, State.setLoop]
@[simp] theorem State.loop_setLoop_ne (s : State) {i k : Nat} (h : k ≠ i) (v : Loop) : (s.setLoop i v).loop k = s.loop k := by
  simp [State.loop, State.setLoop, h]
@[simp] theorem State.loop_modLoop (s : State) (i : Nat) (f : Loop → Loop) : (s.modLoop i f).loop i = f (s.loop i) := by
  simp [State.modLoop]

@[simp] theorem State.setChain_tick (s : State) (i : Nat) (v : Chain) : (s.setChain i v).tick = s.tick := rfl
@[simp] theorem State.modChain_tick (s : State) (i : Nat) (f : Chain → Chain) : (s.modChain i f).tick = s.tick := rfl
@[simp] theorem State.setChain_pending (s : State) (i : Nat) (v : Chain) : (s.setChain i v).pending = s.pending := rfl
@[simp] theorem State.modChain_pending (s : State) (i : Nat) (f : Chain → Chain) : (s.modChain i f).pending = s.pending := rfl
@[simp] theorem State.setChain_out (s : State) (i : Nat) (v : Chain) : (s.setChain i v).out = s.out := rfl
@[simp] theorem State.modChain_out (s : State) (i : Nat) (f : Chain → Chain) : (s.modChain i f).out = s.out := rfl
@[simp] theorem State.setChain_free (s : State) (i : Nat) (v : Chain) : (s.setChain i v).free = s.free := rfl
@[simp] theorem State.modChain_free (s : State) (i : Nat) (f : Chain → Chain) : (s.modChain i f).free = s.free := rfl
@[simp] theorem State.setChain_sys (s : State) (i : Nat) (v : Chain) : (s.setChain i v).sys = s.sys := rfl
@[simp] theorem State.modChain_sys (s : State) (i : Nat) (f : Chain → Chain) : (s.modChain i f).sys = s.sys := rfl
@[simp] theorem State.setChain_hif (s : State) (i : Nat) (v : Chain) : (s.setChain i v).hif = s.hif := rfl
@[simp] theorem State.modChain_hif (s : State) (i : Nat) (f : Chain → Chain) : (s.modChain i f).hif = s.hif := rfl
@[simp] theorem State.setChain_evt (s : State) (i : Nat) (v : Chain) : (s.setChain i v).evt = s.evt := rfl
@[simp] theorem State.modChain_evt (s : State) (i : Nat) (f : Chain → Chain) : (s.modChain i f).evt = s.evt := rfl
@[simp] theorem State.setChain_geo (s : State) (i : Nat) (v : Chain) : (s.setChain i v).geo = s.geo := rfl
@[simp] theorem State.modChain_geo (s : State) (i : Nat) (f : Chain → Chain) : (s.modChain i f).geo = s.geo := rfl
@[simp] theorem State.setChain_pgq (s : State) (i : Nat) (v : Chain) : (s.setChain i v).pgq = s.pgq := rfl
@[simp] theorem State.modChain_pgq (s : State) (i : Nat) (f : Chain → Chain) : (s.modChain i f).pgq = s.pgq := rfl
@[simp] theorem State.setChain_dec (s : State) (i : Nat) (v : Chain) : (s.setChain i v).dec = s.dec := rfl
@[simp] theorem State.modChain_dec (s : State) (i : Nat) (f : Chain → Chain) : (s.modChain i f).dec = s.dec := rfl
@[simp] theorem State.setChain_cmp (s : State) (i : Nat) (v : Chain) : (s.setChain i v).cmp = s.cmp := rfl
@[simp] theorem State.modChain_cmp (s : State) (i : Nat) (f : Chain → Chain) : (s.modChain i f).cmp = s.cmp := rfl
@[simp] theorem State.setChain_mal (s : State) (i : Nat) (v : Chain) : (s.setChain i v).mal = s.mal := rfl
@[simp] theorem State.modChain_mal (s : State) (i : Nat) (f : Chain → Chain) : (s.modChain i f).mal = s.mal := rfl
@[simp] theorem State.setChain_sub (s : State) (i : Nat) (v : Chain) : (s.setChain i v).sub = s.sub := rfl
@[simp] theorem State.modChain_sub (s : State) (i : Nat) (f : Chain → Chain) : (s.modChain i f).sub = s.sub := rfl
@[simp] theorem State.setChain_fir (s : State) (i : Nat) (v : Chain) : (s.setChain i v).fir = s.fir := rfl
@[simp] theorem State.modChain_fir (s : State) (i : Nat) (f : Chain → Chain) : (s.modChain i f).fir = s.fir := rfl
@[simp] theorem State.setChain_snr (s : State) (i : Nat) (v : Chain) : (s.setChain i v).snr = s.snr := rfl
@[simp] theorem State.modChain_snr (s : State) (i : Nat) (f : Chain → Chain) : (s.modChain i f).snr = s.snr := rfl
@[simp] theorem State.setChain_cam (s : State) (i : Nat) (v : Chain) : (s.setChain i v).cam = s.cam := rfl
@[simp] theorem State.modChain_cam (s : State) (i : Nat) (f : Chain → Chain) : (s.modChain i f).cam = s.cam := rfl
@[simp] theorem State.setChain_stk (s : State) (i : Nat) (v : Chain) : (s.setChain i v).stk = s.stk := rfl
@[simp] theorem State.modChain_stk (s : State) (i : Nat) (f : Chain → Chain) : (s.modChain i f).stk = s.stk := rfl
@[simp] theorem State.setChain_mot (s : State) (i : Nat) (v : Chain) : (s.setChain i v).mot = s.mot := rfl
@[simp] theorem State.modChain_mot (s : State) (i : Nat) (f : Chain → Chain) : (s.modChain i f).mot = s.mot := rfl
@[simp] theorem State.setChain_enc (s : State) (i : Nat) (v : Chain) : (s.setChain i v).enc = s.enc := rfl
@[simp] theorem State.modChain_enc (s : State) (i : Nat) (f : Chain → Chain) : (s.modChain i f).enc = s.enc := rfl
@[simp] theorem State.setChain_cle (s : State) (i : Nat) (v : Chain) : (s.setChain i v).cle = s.cle := rfl
@[simp] theorem State.modChain_cle (s : State) (i : Nat) (f : Chain → Chain) : (s.modChain i f).cle = s.cle := rfl
@[simp] theorem State.setChain_tim (s : State) (i : Nat) (v : Chain) : (s.setChain i v).tim = s.tim := rfl
@[simp] theorem State.modChain_tim (s : State) (i : Nat) (f : Chain → Chain) : (s.modChain i f).tim = s.tim := rfl
@[simp] theorem State.setChain_twn (s : State) (i : Nat) (v : Chain) : (s.setChain i v).twn = s.twn := rfl
@[simp] theorem State.modChain_twn (s : State) (i : Nat) (f : Chain → Chain) : (s.modChain i f).twn = s.twn := rfl
@[simp] theorem State.setChain_rim (s : State) (i : Nat) (v : Chain) : (s.setChain i v).rim = s.rim := rfl
@[simp] theorem State.modChain_rim (s : State) (i : Nat) (f : Chain → Chain) : (s.modChain i f).rim = s.rim := rfl
@[simp] theorem State.setChain_gng (s : State) (i : Nat) (v : Chain) : (s.setChain i v).gng = s.gng := rfl
@[simp] theorem State.modChain_gng (s : State) (i : Nat) (f : Chain → Chain) : (s.modChain i f).gng = s.gng := rfl
@[simp] theorem State.setChain_gpio (s : State) (i : Nat) (v : Chain) : (s.setChain i v).gpio = s.gpio := rfl
@[simp] theorem State.modChain_gpio (s : State) (i : Nat) (f : Chain → Chain) : (s.modChain i f).gpio = s.gpio := rfl
@[simp] theorem State.setChain_i2c (s : State) (i : Nat) (v : Chain) : (s.setChain i v).i2c = s.i2c := rfl
@[simp] theorem State.modChain_i2c (s : State) (i : Nat) (f : Chain → Chain) : (s.modChain i f).i2c = s.i2c := rfl
@[simp] theorem State.setChain_copyOwn (s : State) (i : Nat) (v : Chain) : (s.setChain i v).copyOwn = s.copyOwn := rfl
@[simp] theorem State.modChain_copyOwn (s : State) (i : Nat) (f : Chain → Chain) : (s.modChain i f).copyOwn = s.copyOwn := rfl
@[simp] theorem State.setChain_copySince (s : State) (i : Nat) (v : Chain) : (s.setChain i v).copySince = s.copySince := rfl
@[simp] theorem State.modChain_copySince (s : State) (i : Nat) (f : Chain → Chain) : (s.modChain i f).copySince = s.copySince := rfl
@[simp] theorem State.setChain_dram (s : State) (i : Nat) (v : Chain) : (s.setChain i v).dram = s.dram := rfl
@[simp] theorem State.modChain_dram (s : State) (i : Nat) (f : Chain → Chain) : (s.modChain i f).dram = s.dram := rfl
@[simp] theorem State.chain_setChain (s : State) (i : Nat) (v : Chain) : (s.setChain i v).chain i = v := by
  simp [State.chain, State.setChain]
@[simp] theorem State.chain_setChain_ne (s : State) {i k : Nat} (h : k ≠ i) (v : Chain) : (s.setChain i v).chain k = s.chain k := by
  simp [State.chain, State.setChain, h]
@[simp] theorem State.chain_modChain (s : State) (i : Nat) (f : Chain → Chain) : (s.modChain i f).chain i = f (s.chain i) := by
  simp [State.modChain]

@[simp] theorem State.setZone_tick (s : State) (i : Nat) (v : Zone) : (s.setZone i v).tick = s.tick := rfl
@[simp] theorem State.modZone_tick (s : State) (i : Nat) (f : Zone → Zone) : (s.modZone i f).tick = s.tick := rfl
@[simp] theorem State.setZone_pending (s : State) (i : Nat) (v : Zone) : (s.setZone i v).pending = s.pending := rfl
@[simp] theorem State.modZone_pending (s : State) (i : Nat) (f : Zone → Zone) : (s.modZone i f).pending = s.pending := rfl
@[simp] theorem State.setZone_out (s : State) (i : Nat) (v : Zone) : (s.setZone i v).out = s.out := rfl
@[simp] theorem State.modZone_out (s : State) (i : Nat) (f : Zone → Zone) : (s.modZone i f).out = s.out := rfl
@[simp] theorem State.setZone_free (s : State) (i : Nat) (v : Zone) : (s.setZone i v).free = s.free := rfl
@[simp] theorem State.modZone_free (s : State) (i : Nat) (f : Zone → Zone) : (s.modZone i f).free = s.free := rfl
@[simp] theorem State.setZone_sys (s : State) (i : Nat) (v : Zone) : (s.setZone i v).sys = s.sys := rfl
@[simp] theorem State.modZone_sys (s : State) (i : Nat) (f : Zone → Zone) : (s.modZone i f).sys = s.sys := rfl
@[simp] theorem State.setZone_hif (s : State) (i : Nat) (v : Zone) : (s.setZone i v).hif = s.hif := rfl
@[simp] theorem State.modZone_hif (s : State) (i : Nat) (f : Zone → Zone) : (s.modZone i f).hif = s.hif := rfl
@[simp] theorem State.setZone_evt (s : State) (i : Nat) (v : Zone) : (s.setZone i v).evt = s.evt := rfl
@[simp] theorem State.modZone_evt (s : State) (i : Nat) (f : Zone → Zone) : (s.modZone i f).evt = s.evt := rfl
@[simp] theorem State.setZone_geo (s : State) (i : Nat) (v : Zone) : (s.setZone i v).geo = s.geo := rfl
@[simp] theorem State.modZone_geo (s : State) (i : Nat) (f : Zone → Zone) : (s.modZone i f).geo = s.geo := rfl
@[simp] theorem State.setZone_pgq (s : State) (i : Nat) (v : Zone) : (s.setZone i v).pgq = s.pgq := rfl
@[simp] theorem State.modZone_pgq (s : State) (i : Nat) (f : Zone → Zone) : (s.modZone i f).pgq = s.pgq := rfl
@[simp] theorem State.setZone_dec (s : State) (i : Nat) (v : Zone) : (s.setZone i v).dec = s.dec := rfl
@[simp] theorem State.modZone_dec (s : State) (i : Nat) (f : Zone → Zone) : (s.modZone i f).dec = s.dec := rfl
@[simp] theorem State.setZone_cmp (s : State) (i : Nat) (v : Zone) : (s.setZone i v).cmp = s.cmp := rfl
@[simp] theorem State.modZone_cmp (s : State) (i : Nat) (f : Zone → Zone) : (s.modZone i f).cmp = s.cmp := rfl
@[simp] theorem State.setZone_mal (s : State) (i : Nat) (v : Zone) : (s.setZone i v).mal = s.mal := rfl
@[simp] theorem State.modZone_mal (s : State) (i : Nat) (f : Zone → Zone) : (s.modZone i f).mal = s.mal := rfl
@[simp] theorem State.setZone_sub (s : State) (i : Nat) (v : Zone) : (s.setZone i v).sub = s.sub := rfl
@[simp] theorem State.modZone_sub (s : State) (i : Nat) (f : Zone → Zone) : (s.modZone i f).sub = s.sub := rfl
@[simp] theorem State.setZone_fir (s : State) (i : Nat) (v : Zone) : (s.setZone i v).fir = s.fir := rfl
@[simp] theorem State.modZone_fir (s : State) (i : Nat) (f : Zone → Zone) : (s.modZone i f).fir = s.fir := rfl
@[simp] theorem State.setZone_snr (s : State) (i : Nat) (v : Zone) : (s.setZone i v).snr = s.snr := rfl
@[simp] theorem State.modZone_snr (s : State) (i : Nat) (f : Zone → Zone) : (s.modZone i f).snr = s.snr := rfl
@[simp] theorem State.setZone_cam (s : State) (i : Nat) (v : Zone) : (s.setZone i v).cam = s.cam := rfl
@[simp] theorem State.modZone_cam (s : State) (i : Nat) (f : Zone → Zone) : (s.modZone i f).cam = s.cam := rfl
@[simp] theorem State.setZone_stk (s : State) (i : Nat) (v : Zone) : (s.setZone i v).stk = s.stk := rfl
@[simp] theorem State.modZone_stk (s : State) (i : Nat) (f : Zone → Zone) : (s.modZone i f).stk = s.stk := rfl
@[simp] theorem State.setZone_mot (s : State) (i : Nat) (v : Zone) : (s.setZone i v).mot = s.mot := rfl
@[simp] theorem State.modZone_mot (s : State) (i : Nat) (f : Zone → Zone) : (s.modZone i f).mot = s.mot := rfl
@[simp] theorem State.setZone_enc (s : State) (i : Nat) (v : Zone) : (s.setZone i v).enc = s.enc := rfl
@[simp] theorem State.modZone_enc (s : State) (i : Nat) (f : Zone → Zone) : (s.modZone i f).enc = s.enc := rfl
@[simp] theorem State.setZone_cle (s : State) (i : Nat) (v : Zone) : (s.setZone i v).cle = s.cle := rfl
@[simp] theorem State.modZone_cle (s : State) (i : Nat) (f : Zone → Zone) : (s.modZone i f).cle = s.cle := rfl
@[simp] theorem State.setZone_tim (s : State) (i : Nat) (v : Zone) : (s.setZone i v).tim = s.tim := rfl
@[simp] theorem State.modZone_tim (s : State) (i : Nat) (f : Zone → Zone) : (s.modZone i f).tim = s.tim := rfl
@[simp] theorem State.setZone_twn (s : State) (i : Nat) (v : Zone) : (s.setZone i v).twn = s.twn := rfl
@[simp] theorem State.modZone_twn (s : State) (i : Nat) (f : Zone → Zone) : (s.modZone i f).twn = s.twn := rfl
@[simp] theorem State.setZone_rim (s : State) (i : Nat) (v : Zone) : (s.setZone i v).rim = s.rim := rfl
@[simp] theorem State.modZone_rim (s : State) (i : Nat) (f : Zone → Zone) : (s.modZone i f).rim = s.rim := rfl
@[simp] theorem State.setZone_gng (s : State) (i : Nat) (v : Zone) : (s.setZone i v).gng = s.gng := rfl
@[simp] theorem State.modZone_gng (s : State) (i : Nat) (f : Zone → Zone) : (s.modZone i f).gng = s.gng := rfl
@[simp] theorem State.setZone_gpio (s : State) (i : Nat) (v : Zone) : (s.setZone i v).gpio = s.gpio := rfl
@[simp] theorem State.modZone_gpio (s : State) (i : Nat) (f : Zone → Zone) : (s.modZone i f).gpio = s.gpio := rfl
@[simp] theorem State.setZone_i2c (s : State) (i : Nat) (v : Zone) : (s.setZone i v).i2c = s.i2c := rfl
@[simp] theorem State.modZone_i2c (s : State) (i : Nat) (f : Zone → Zone) : (s.modZone i f).i2c = s.i2c := rfl
@[simp] theorem State.setZone_copyOwn (s : State) (i : Nat) (v : Zone) : (s.setZone i v).copyOwn = s.copyOwn := rfl
@[simp] theorem State.modZone_copyOwn (s : State) (i : Nat) (f : Zone → Zone) : (s.modZone i f).copyOwn = s.copyOwn := rfl
@[simp] theorem State.setZone_copySince (s : State) (i : Nat) (v : Zone) : (s.setZone i v).copySince = s.copySince := rfl
@[simp] theorem State.modZone_copySince (s : State) (i : Nat) (f : Zone → Zone) : (s.modZone i f).copySince = s.copySince := rfl
@[simp] theorem State.setZone_dram (s : State) (i : Nat) (v : Zone) : (s.setZone i v).dram = s.dram := rfl
@[simp] theorem State.modZone_dram (s : State) (i : Nat) (f : Zone → Zone) : (s.modZone i f).dram = s.dram := rfl
@[simp] theorem State.zone_setZone (s : State) (i : Nat) (v : Zone) : (s.setZone i v).zone i = v := by
  simp [State.zone, State.setZone]
@[simp] theorem State.zone_setZone_ne (s : State) {i k : Nat} (h : k ≠ i) (v : Zone) : (s.setZone i v).zone k = s.zone k := by
  simp [State.zone, State.setZone, h]
@[simp] theorem State.zone_modZone (s : State) (i : Nat) (f : Zone → Zone) : (s.modZone i f).zone i = f (s.zone i) := by
  simp [State.modZone]

@[simp] theorem State.setColour_tick (s : State) (i : Nat) (v : Colour) : (s.setColour i v).tick = s.tick := rfl
@[simp] theorem State.modColour_tick (s : State) (i : Nat) (f : Colour → Colour) : (s.modColour i f).tick = s.tick := rfl
@[simp] theorem State.setColour_pending (s : State) (i : Nat) (v : Colour) : (s.setColour i v).pending = s.pending := rfl
@[simp] theorem State.modColour_pending (s : State) (i : Nat) (f : Colour → Colour) : (s.modColour i f).pending = s.pending := rfl
@[simp] theorem State.setColour_out (s : State) (i : Nat) (v : Colour) : (s.setColour i v).out = s.out := rfl
@[simp] theorem State.modColour_out (s : State) (i : Nat) (f : Colour → Colour) : (s.modColour i f).out = s.out := rfl
@[simp] theorem State.setColour_free (s : State) (i : Nat) (v : Colour) : (s.setColour i v).free = s.free := rfl
@[simp] theorem State.modColour_free (s : State) (i : Nat) (f : Colour → Colour) : (s.modColour i f).free = s.free := rfl
@[simp] theorem State.setColour_sys (s : State) (i : Nat) (v : Colour) : (s.setColour i v).sys = s.sys := rfl
@[simp] theorem State.modColour_sys (s : State) (i : Nat) (f : Colour → Colour) : (s.modColour i f).sys = s.sys := rfl
@[simp] theorem State.setColour_hif (s : State) (i : Nat) (v : Colour) : (s.setColour i v).hif = s.hif := rfl
@[simp] theorem State.modColour_hif (s : State) (i : Nat) (f : Colour → Colour) : (s.modColour i f).hif = s.hif := rfl
@[simp] theorem State.setColour_evt (s : State) (i : Nat) (v : Colour) : (s.setColour i v).evt = s.evt := rfl
@[simp] theorem State.modColour_evt (s : State) (i : Nat) (f : Colour → Colour) : (s.modColour i f).evt = s.evt := rfl
@[simp] theorem State.setColour_geo (s : State) (i : Nat) (v : Colour) : (s.setColour i v).geo = s.geo := rfl
@[simp] theorem State.modColour_geo (s : State) (i : Nat) (f : Colour → Colour) : (s.modColour i f).geo = s.geo := rfl
@[simp] theorem State.setColour_pgq (s : State) (i : Nat) (v : Colour) : (s.setColour i v).pgq = s.pgq := rfl
@[simp] theorem State.modColour_pgq (s : State) (i : Nat) (f : Colour → Colour) : (s.modColour i f).pgq = s.pgq := rfl
@[simp] theorem State.setColour_dec (s : State) (i : Nat) (v : Colour) : (s.setColour i v).dec = s.dec := rfl
@[simp] theorem State.modColour_dec (s : State) (i : Nat) (f : Colour → Colour) : (s.modColour i f).dec = s.dec := rfl
@[simp] theorem State.setColour_cmp (s : State) (i : Nat) (v : Colour) : (s.setColour i v).cmp = s.cmp := rfl
@[simp] theorem State.modColour_cmp (s : State) (i : Nat) (f : Colour → Colour) : (s.modColour i f).cmp = s.cmp := rfl
@[simp] theorem State.setColour_mal (s : State) (i : Nat) (v : Colour) : (s.setColour i v).mal = s.mal := rfl
@[simp] theorem State.modColour_mal (s : State) (i : Nat) (f : Colour → Colour) : (s.modColour i f).mal = s.mal := rfl
@[simp] theorem State.setColour_sub (s : State) (i : Nat) (v : Colour) : (s.setColour i v).sub = s.sub := rfl
@[simp] theorem State.modColour_sub (s : State) (i : Nat) (f : Colour → Colour) : (s.modColour i f).sub = s.sub := rfl
@[simp] theorem State.setColour_fir (s : State) (i : Nat) (v : Colour) : (s.setColour i v).fir = s.fir := rfl
@[simp] theorem State.modColour_fir (s : State) (i : Nat) (f : Colour → Colour) : (s.modColour i f).fir = s.fir := rfl
@[simp] theorem State.setColour_snr (s : State) (i : Nat) (v : Colour) : (s.setColour i v).snr = s.snr := rfl
@[simp] theorem State.modColour_snr (s : State) (i : Nat) (f : Colour → Colour) : (s.modColour i f).snr = s.snr := rfl
@[simp] theorem State.setColour_cam (s : State) (i : Nat) (v : Colour) : (s.setColour i v).cam = s.cam := rfl
@[simp] theorem State.modColour_cam (s : State) (i : Nat) (f : Colour → Colour) : (s.modColour i f).cam = s.cam := rfl
@[simp] theorem State.setColour_stk (s : State) (i : Nat) (v : Colour) : (s.setColour i v).stk = s.stk := rfl
@[simp] theorem State.modColour_stk (s : State) (i : Nat) (f : Colour → Colour) : (s.modColour i f).stk = s.stk := rfl
@[simp] theorem State.setColour_mot (s : State) (i : Nat) (v : Colour) : (s.setColour i v).mot = s.mot := rfl
@[simp] theorem State.modColour_mot (s : State) (i : Nat) (f : Colour → Colour) : (s.modColour i f).mot = s.mot := rfl
@[simp] theorem State.setColour_enc (s : State) (i : Nat) (v : Colour) : (s.setColour i v).enc = s.enc := rfl
@[simp] theorem State.modColour_enc (s : State) (i : Nat) (f : Colour → Colour) : (s.modColour i f).enc = s.enc := rfl
@[simp] theorem State.setColour_cle (s : State) (i : Nat) (v : Colour) : (s.setColour i v).cle = s.cle := rfl
@[simp] theorem State.modColour_cle (s : State) (i : Nat) (f : Colour → Colour) : (s.modColour i f).cle = s.cle := rfl
@[simp] theorem State.setColour_tim (s : State) (i : Nat) (v : Colour) : (s.setColour i v).tim = s.tim := rfl
@[simp] theorem State.modColour_tim (s : State) (i : Nat) (f : Colour → Colour) : (s.modColour i f).tim = s.tim := rfl
@[simp] theorem State.setColour_twn (s : State) (i : Nat) (v : Colour) : (s.setColour i v).twn = s.twn := rfl
@[simp] theorem State.modColour_twn (s : State) (i : Nat) (f : Colour → Colour) : (s.modColour i f).twn = s.twn := rfl
@[simp] theorem State.setColour_rim (s : State) (i : Nat) (v : Colour) : (s.setColour i v).rim = s.rim := rfl
@[simp] theorem State.modColour_rim (s : State) (i : Nat) (f : Colour → Colour) : (s.modColour i f).rim = s.rim := rfl
@[simp] theorem State.setColour_gng (s : State) (i : Nat) (v : Colour) : (s.setColour i v).gng = s.gng := rfl
@[simp] theorem State.modColour_gng (s : State) (i : Nat) (f : Colour → Colour) : (s.modColour i f).gng = s.gng := rfl
@[simp] theorem State.setColour_gpio (s : State) (i : Nat) (v : Colour) : (s.setColour i v).gpio = s.gpio := rfl
@[simp] theorem State.modColour_gpio (s : State) (i : Nat) (f : Colour → Colour) : (s.modColour i f).gpio = s.gpio := rfl
@[simp] theorem State.setColour_i2c (s : State) (i : Nat) (v : Colour) : (s.setColour i v).i2c = s.i2c := rfl
@[simp] theorem State.modColour_i2c (s : State) (i : Nat) (f : Colour → Colour) : (s.modColour i f).i2c = s.i2c := rfl
@[simp] theorem State.setColour_copyOwn (s : State) (i : Nat) (v : Colour) : (s.setColour i v).copyOwn = s.copyOwn := rfl
@[simp] theorem State.modColour_copyOwn (s : State) (i : Nat) (f : Colour → Colour) : (s.modColour i f).copyOwn = s.copyOwn := rfl
@[simp] theorem State.setColour_copySince (s : State) (i : Nat) (v : Colour) : (s.setColour i v).copySince = s.copySince := rfl
@[simp] theorem State.modColour_copySince (s : State) (i : Nat) (f : Colour → Colour) : (s.modColour i f).copySince = s.copySince := rfl
@[simp] theorem State.setColour_dram (s : State) (i : Nat) (v : Colour) : (s.setColour i v).dram = s.dram := rfl
@[simp] theorem State.modColour_dram (s : State) (i : Nat) (f : Colour → Colour) : (s.modColour i f).dram = s.dram := rfl
@[simp] theorem State.colour_setColour (s : State) (i : Nat) (v : Colour) : (s.setColour i v).colour i = v := by
  simp [State.colour, State.setColour]
@[simp] theorem State.colour_setColour_ne (s : State) {i k : Nat} (h : k ≠ i) (v : Colour) : (s.setColour i v).colour k = s.colour k := by
  simp [State.colour, State.setColour, h]
@[simp] theorem State.colour_modColour (s : State) (i : Nat) (f : Colour → Colour) : (s.modColour i f).colour i = f (s.colour i) := by
  simp [State.modColour]

@[simp] theorem State.setInst_tick (s : State) (i : Nat) (v : Inst) : (s.setInst i v).tick = s.tick := rfl
@[simp] theorem State.modInst_tick (s : State) (i : Nat) (f : Inst → Inst) : (s.modInst i f).tick = s.tick := rfl
@[simp] theorem State.setInst_pending (s : State) (i : Nat) (v : Inst) : (s.setInst i v).pending = s.pending := rfl
@[simp] theorem State.modInst_pending (s : State) (i : Nat) (f : Inst → Inst) : (s.modInst i f).pending = s.pending := rfl
@[simp] theorem State.setInst_out (s : State) (i : Nat) (v : Inst) : (s.setInst i v).out = s.out := rfl
@[simp] theorem State.modInst_out (s : State) (i : Nat) (f : Inst → Inst) : (s.modInst i f).out = s.out := rfl
@[simp] theorem State.setInst_free (s : State) (i : Nat) (v : Inst) : (s.setInst i v).free = s.free := rfl
@[simp] theorem State.modInst_free (s : State) (i : Nat) (f : Inst → Inst) : (s.modInst i f).free = s.free := rfl
@[simp] theorem State.setInst_sys (s : State) (i : Nat) (v : Inst) : (s.setInst i v).sys = s.sys := rfl
@[simp] theorem State.modInst_sys (s : State) (i : Nat) (f : Inst → Inst) : (s.modInst i f).sys = s.sys := rfl
@[simp] theorem State.setInst_hif (s : State) (i : Nat) (v : Inst) : (s.setInst i v).hif = s.hif := rfl
@[simp] theorem State.modInst_hif (s : State) (i : Nat) (f : Inst → Inst) : (s.modInst i f).hif = s.hif := rfl
@[simp] theorem State.setInst_evt (s : State) (i : Nat) (v : Inst) : (s.setInst i v).evt = s.evt := rfl
@[simp] theorem State.modInst_evt (s : State) (i : Nat) (f : Inst → Inst) : (s.modInst i f).evt = s.evt := rfl
@[simp] theorem State.setInst_geo (s : State) (i : Nat) (v : Inst) : (s.setInst i v).geo = s.geo := rfl
@[simp] theorem State.modInst_geo (s : State) (i : Nat) (f : Inst → Inst) : (s.modInst i f).geo = s.geo := rfl
@[simp] theorem State.setInst_pgq (s : State) (i : Nat) (v : Inst) : (s.setInst i v).pgq = s.pgq := rfl
@[simp] theorem State.modInst_pgq (s : State) (i : Nat) (f : Inst → Inst) : (s.modInst i f).pgq = s.pgq := rfl
@[simp] theorem State.setInst_dec (s : State) (i : Nat) (v : Inst) : (s.setInst i v).dec = s.dec := rfl
@[simp] theorem State.modInst_dec (s : State) (i : Nat) (f : Inst → Inst) : (s.modInst i f).dec = s.dec := rfl
@[simp] theorem State.setInst_cmp (s : State) (i : Nat) (v : Inst) : (s.setInst i v).cmp = s.cmp := rfl
@[simp] theorem State.modInst_cmp (s : State) (i : Nat) (f : Inst → Inst) : (s.modInst i f).cmp = s.cmp := rfl
@[simp] theorem State.setInst_mal (s : State) (i : Nat) (v : Inst) : (s.setInst i v).mal = s.mal := rfl
@[simp] theorem State.modInst_mal (s : State) (i : Nat) (f : Inst → Inst) : (s.modInst i f).mal = s.mal := rfl
@[simp] theorem State.setInst_sub (s : State) (i : Nat) (v : Inst) : (s.setInst i v).sub = s.sub := rfl
@[simp] theorem State.modInst_sub (s : State) (i : Nat) (f : Inst → Inst) : (s.modInst i f).sub = s.sub := rfl
@[simp] theorem State.setInst_fir (s : State) (i : Nat) (v : Inst) : (s.setInst i v).fir = s.fir := rfl
@[simp] theorem State.modInst_fir (s : State) (i : Nat) (f : Inst → Inst) : (s.modInst i f).fir = s.fir := rfl
@[simp] theorem State.setInst_snr (s : State) (i : Nat) (v : Inst) : (s.setInst i v).snr = s.snr := rfl
@[simp] theorem State.modInst_snr (s : State) (i : Nat) (f : Inst → Inst) : (s.modInst i f).snr = s.snr := rfl
@[simp] theorem State.setInst_cam (s : State) (i : Nat) (v : Inst) : (s.setInst i v).cam = s.cam := rfl
@[simp] theorem State.modInst_cam (s : State) (i : Nat) (f : Inst → Inst) : (s.modInst i f).cam = s.cam := rfl
@[simp] theorem State.setInst_stk (s : State) (i : Nat) (v : Inst) : (s.setInst i v).stk = s.stk := rfl
@[simp] theorem State.modInst_stk (s : State) (i : Nat) (f : Inst → Inst) : (s.modInst i f).stk = s.stk := rfl
@[simp] theorem State.setInst_mot (s : State) (i : Nat) (v : Inst) : (s.setInst i v).mot = s.mot := rfl
@[simp] theorem State.modInst_mot (s : State) (i : Nat) (f : Inst → Inst) : (s.modInst i f).mot = s.mot := rfl
@[simp] theorem State.setInst_enc (s : State) (i : Nat) (v : Inst) : (s.setInst i v).enc = s.enc := rfl
@[simp] theorem State.modInst_enc (s : State) (i : Nat) (f : Inst → Inst) : (s.modInst i f).enc = s.enc := rfl
@[simp] theorem State.setInst_cle (s : State) (i : Nat) (v : Inst) : (s.setInst i v).cle = s.cle := rfl
@[simp] theorem State.modInst_cle (s : State) (i : Nat) (f : Inst → Inst) : (s.modInst i f).cle = s.cle := rfl
@[simp] theorem State.setInst_led (s : State) (i : Nat) (v : Inst) : (s.setInst i v).led = s.led := rfl
@[simp] theorem State.modInst_led (s : State) (i : Nat) (f : Inst → Inst) : (s.modInst i f).led = s.led := rfl
@[simp] theorem State.setInst_twn (s : State) (i : Nat) (v : Inst) : (s.setInst i v).twn = s.twn := rfl
@[simp] theorem State.modInst_twn (s : State) (i : Nat) (f : Inst → Inst) : (s.modInst i f).twn = s.twn := rfl
@[simp] theorem State.setInst_rim (s : State) (i : Nat) (v : Inst) : (s.setInst i v).rim = s.rim := rfl
@[simp] theorem State.modInst_rim (s : State) (i : Nat) (f : Inst → Inst) : (s.modInst i f).rim = s.rim := rfl
@[simp] theorem State.setInst_gng (s : State) (i : Nat) (v : Inst) : (s.setInst i v).gng = s.gng := rfl
@[simp] theorem State.modInst_gng (s : State) (i : Nat) (f : Inst → Inst) : (s.modInst i f).gng = s.gng := rfl
@[simp] theorem State.setInst_gpio (s : State) (i : Nat) (v : Inst) : (s.setInst i v).gpio = s.gpio := rfl
@[simp] theorem State.modInst_gpio (s : State) (i : Nat) (f : Inst → Inst) : (s.modInst i f).gpio = s.gpio := rfl
@[simp] theorem State.setInst_i2c (s : State) (i : Nat) (v : Inst) : (s.setInst i v).i2c = s.i2c := rfl
@[simp] theorem State.modInst_i2c (s : State) (i : Nat) (f : Inst → Inst) : (s.modInst i f).i2c = s.i2c := rfl
@[simp] theorem State.setInst_copyOwn (s : State) (i : Nat) (v : Inst) : (s.setInst i v).copyOwn = s.copyOwn := rfl
@[simp] theorem State.modInst_copyOwn (s : State) (i : Nat) (f : Inst → Inst) : (s.modInst i f).copyOwn = s.copyOwn := rfl
@[simp] theorem State.setInst_copySince (s : State) (i : Nat) (v : Inst) : (s.setInst i v).copySince = s.copySince := rfl
@[simp] theorem State.modInst_copySince (s : State) (i : Nat) (f : Inst → Inst) : (s.modInst i f).copySince = s.copySince := rfl
@[simp] theorem State.setInst_dram (s : State) (i : Nat) (v : Inst) : (s.setInst i v).dram = s.dram := rfl
@[simp] theorem State.modInst_dram (s : State) (i : Nat) (f : Inst → Inst) : (s.modInst i f).dram = s.dram := rfl
@[simp] theorem State.inst_setInst (s : State) (i : Nat) (v : Inst) : (s.setInst i v).inst i = v := by
  simp [State.inst, State.setInst]
@[simp] theorem State.inst_setInst_ne (s : State) {i k : Nat} (h : k ≠ i) (v : Inst) : (s.setInst i v).inst k = s.inst k := by
  simp [State.inst, State.setInst, h]
@[simp] theorem State.inst_modInst (s : State) (i : Nat) (f : Inst → Inst) : (s.modInst i f).inst i = f (s.inst i) := by
  simp [State.modInst]

@[simp] theorem State.setPtpPort_tick (s : State) (i : Nat) (v : TPort) : (s.setPtpPort i v).tick = s.tick := rfl
@[simp] theorem State.modPtpPort_tick (s : State) (i : Nat) (f : TPort → TPort) : (s.modPtpPort i f).tick = s.tick := rfl
@[simp] theorem State.setPtpPort_pending (s : State) (i : Nat) (v : TPort) : (s.setPtpPort i v).pending = s.pending := rfl
@[simp] theorem State.modPtpPort_pending (s : State) (i : Nat) (f : TPort → TPort) : (s.modPtpPort i f).pending = s.pending := rfl
@[simp] theorem State.setPtpPort_out (s : State) (i : Nat) (v : TPort) : (s.setPtpPort i v).out = s.out := rfl
@[simp] theorem State.modPtpPort_out (s : State) (i : Nat) (f : TPort → TPort) : (s.modPtpPort i f).out = s.out := rfl
@[simp] theorem State.setPtpPort_free (s : State) (i : Nat) (v : TPort) : (s.setPtpPort i v).free = s.free := rfl
@[simp] theorem State.modPtpPort_free (s : State) (i : Nat) (f : TPort → TPort) : (s.modPtpPort i f).free = s.free := rfl
@[simp] theorem State.setPtpPort_sys (s : State) (i : Nat) (v : TPort) : (s.setPtpPort i v).sys = s.sys := rfl
@[simp] theorem State.modPtpPort_sys (s : State) (i : Nat) (f : TPort → TPort) : (s.modPtpPort i f).sys = s.sys := rfl
@[simp] theorem State.setPtpPort_hif (s : State) (i : Nat) (v : TPort) : (s.setPtpPort i v).hif = s.hif := rfl
@[simp] theorem State.modPtpPort_hif (s : State) (i : Nat) (f : TPort → TPort) : (s.modPtpPort i f).hif = s.hif := rfl
@[simp] theorem State.setPtpPort_evt (s : State) (i : Nat) (v : TPort) : (s.setPtpPort i v).evt = s.evt := rfl
@[simp] theorem State.modPtpPort_evt (s : State) (i : Nat) (f : TPort → TPort) : (s.modPtpPort i f).evt = s.evt := rfl
@[simp] theorem State.setPtpPort_geo (s : State) (i : Nat) (v : TPort) : (s.setPtpPort i v).geo = s.geo := rfl
@[simp] theorem State.modPtpPort_geo (s : State) (i : Nat) (f : TPort → TPort) : (s.modPtpPort i f).geo = s.geo := rfl
@[simp] theorem State.setPtpPort_pgq (s : State) (i : Nat) (v : TPort) : (s.setPtpPort i v).pgq = s.pgq := rfl
@[simp] theorem State.modPtpPort_pgq (s : State) (i : Nat) (f : TPort → TPort) : (s.modPtpPort i f).pgq = s.pgq := rfl
@[simp] theorem State.setPtpPort_dec (s : State) (i : Nat) (v : TPort) : (s.setPtpPort i v).dec = s.dec := rfl
@[simp] theorem State.modPtpPort_dec (s : State) (i : Nat) (f : TPort → TPort) : (s.modPtpPort i f).dec = s.dec := rfl
@[simp] theorem State.setPtpPort_cmp (s : State) (i : Nat) (v : TPort) : (s.setPtpPort i v).cmp = s.cmp := rfl
@[simp] theorem State.modPtpPort_cmp (s : State) (i : Nat) (f : TPort → TPort) : (s.modPtpPort i f).cmp = s.cmp := rfl
@[simp] theorem State.setPtpPort_mal (s : State) (i : Nat) (v : TPort) : (s.setPtpPort i v).mal = s.mal := rfl
@[simp] theorem State.modPtpPort_mal (s : State) (i : Nat) (f : TPort → TPort) : (s.modPtpPort i f).mal = s.mal := rfl
@[simp] theorem State.setPtpPort_sub (s : State) (i : Nat) (v : TPort) : (s.setPtpPort i v).sub = s.sub := rfl
@[simp] theorem State.modPtpPort_sub (s : State) (i : Nat) (f : TPort → TPort) : (s.modPtpPort i f).sub = s.sub := rfl
@[simp] theorem State.setPtpPort_fir (s : State) (i : Nat) (v : TPort) : (s.setPtpPort i v).fir = s.fir := rfl
@[simp] theorem State.modPtpPort_fir (s : State) (i : Nat) (f : TPort → TPort) : (s.modPtpPort i f).fir = s.fir := rfl
@[simp] theorem State.setPtpPort_snr (s : State) (i : Nat) (v : TPort) : (s.setPtpPort i v).snr = s.snr := rfl
@[simp] theorem State.modPtpPort_snr (s : State) (i : Nat) (f : TPort → TPort) : (s.modPtpPort i f).snr = s.snr := rfl
@[simp] theorem State.setPtpPort_cam (s : State) (i : Nat) (v : TPort) : (s.setPtpPort i v).cam = s.cam := rfl
@[simp] theorem State.modPtpPort_cam (s : State) (i : Nat) (f : TPort → TPort) : (s.modPtpPort i f).cam = s.cam := rfl
@[simp] theorem State.setPtpPort_stk (s : State) (i : Nat) (v : TPort) : (s.setPtpPort i v).stk = s.stk := rfl
@[simp] theorem State.modPtpPort_stk (s : State) (i : Nat) (f : TPort → TPort) : (s.modPtpPort i f).stk = s.stk := rfl
@[simp] theorem State.setPtpPort_mot (s : State) (i : Nat) (v : TPort) : (s.setPtpPort i v).mot = s.mot := rfl
@[simp] theorem State.modPtpPort_mot (s : State) (i : Nat) (f : TPort → TPort) : (s.modPtpPort i f).mot = s.mot := rfl
@[simp] theorem State.setPtpPort_enc (s : State) (i : Nat) (v : TPort) : (s.setPtpPort i v).enc = s.enc := rfl
@[simp] theorem State.modPtpPort_enc (s : State) (i : Nat) (f : TPort → TPort) : (s.modPtpPort i f).enc = s.enc := rfl
@[simp] theorem State.setPtpPort_cle (s : State) (i : Nat) (v : TPort) : (s.setPtpPort i v).cle = s.cle := rfl
@[simp] theorem State.modPtpPort_cle (s : State) (i : Nat) (f : TPort → TPort) : (s.modPtpPort i f).cle = s.cle := rfl
@[simp] theorem State.setPtpPort_led (s : State) (i : Nat) (v : TPort) : (s.setPtpPort i v).led = s.led := rfl
@[simp] theorem State.modPtpPort_led (s : State) (i : Nat) (f : TPort → TPort) : (s.modPtpPort i f).led = s.led := rfl
@[simp] theorem State.setPtpPort_twn (s : State) (i : Nat) (v : TPort) : (s.setPtpPort i v).twn = s.twn := rfl
@[simp] theorem State.modPtpPort_twn (s : State) (i : Nat) (f : TPort → TPort) : (s.modPtpPort i f).twn = s.twn := rfl
@[simp] theorem State.setPtpPort_rim (s : State) (i : Nat) (v : TPort) : (s.setPtpPort i v).rim = s.rim := rfl
@[simp] theorem State.modPtpPort_rim (s : State) (i : Nat) (f : TPort → TPort) : (s.modPtpPort i f).rim = s.rim := rfl
@[simp] theorem State.setPtpPort_gng (s : State) (i : Nat) (v : TPort) : (s.setPtpPort i v).gng = s.gng := rfl
@[simp] theorem State.modPtpPort_gng (s : State) (i : Nat) (f : TPort → TPort) : (s.modPtpPort i f).gng = s.gng := rfl
@[simp] theorem State.setPtpPort_gpio (s : State) (i : Nat) (v : TPort) : (s.setPtpPort i v).gpio = s.gpio := rfl
@[simp] theorem State.modPtpPort_gpio (s : State) (i : Nat) (f : TPort → TPort) : (s.modPtpPort i f).gpio = s.gpio := rfl
@[simp] theorem State.setPtpPort_i2c (s : State) (i : Nat) (v : TPort) : (s.setPtpPort i v).i2c = s.i2c := rfl
@[simp] theorem State.modPtpPort_i2c (s : State) (i : Nat) (f : TPort → TPort) : (s.modPtpPort i f).i2c = s.i2c := rfl
@[simp] theorem State.setPtpPort_copyOwn (s : State) (i : Nat) (v : TPort) : (s.setPtpPort i v).copyOwn = s.copyOwn := rfl
@[simp] theorem State.modPtpPort_copyOwn (s : State) (i : Nat) (f : TPort → TPort) : (s.modPtpPort i f).copyOwn = s.copyOwn := rfl
@[simp] theorem State.setPtpPort_copySince (s : State) (i : Nat) (v : TPort) : (s.setPtpPort i v).copySince = s.copySince := rfl
@[simp] theorem State.modPtpPort_copySince (s : State) (i : Nat) (f : TPort → TPort) : (s.modPtpPort i f).copySince = s.copySince := rfl
@[simp] theorem State.setPtpPort_dram (s : State) (i : Nat) (v : TPort) : (s.setPtpPort i v).dram = s.dram := rfl
@[simp] theorem State.modPtpPort_dram (s : State) (i : Nat) (f : TPort → TPort) : (s.modPtpPort i f).dram = s.dram := rfl
@[simp] theorem State.ptpPort_setPtpPort (s : State) (i : Nat) (v : TPort) : (s.setPtpPort i v).ptpPort i = v := by
  simp [State.ptpPort, State.setPtpPort]
@[simp] theorem State.ptpPort_setPtpPort_ne (s : State) {i k : Nat} (h : k ≠ i) (v : TPort) : (s.setPtpPort i v).ptpPort k = s.ptpPort k := by
  simp [State.ptpPort, State.setPtpPort, h]
@[simp] theorem State.ptpPort_modPtpPort (s : State) (i : Nat) (f : TPort → TPort) : (s.modPtpPort i f).ptpPort i = f (s.ptpPort i) := by
  simp [State.modPtpPort]

@[simp] theorem State.setPin_tick (s : State) (i : Nat) (v : Pin) : (s.setPin i v).tick = s.tick := rfl
@[simp] theorem State.modPin_tick (s : State) (i : Nat) (f : Pin → Pin) : (s.modPin i f).tick = s.tick := rfl
@[simp] theorem State.setPin_pending (s : State) (i : Nat) (v : Pin) : (s.setPin i v).pending = s.pending := rfl
@[simp] theorem State.modPin_pending (s : State) (i : Nat) (f : Pin → Pin) : (s.modPin i f).pending = s.pending := rfl
@[simp] theorem State.setPin_out (s : State) (i : Nat) (v : Pin) : (s.setPin i v).out = s.out := rfl
@[simp] theorem State.modPin_out (s : State) (i : Nat) (f : Pin → Pin) : (s.modPin i f).out = s.out := rfl
@[simp] theorem State.setPin_free (s : State) (i : Nat) (v : Pin) : (s.setPin i v).free = s.free := rfl
@[simp] theorem State.modPin_free (s : State) (i : Nat) (f : Pin → Pin) : (s.modPin i f).free = s.free := rfl
@[simp] theorem State.setPin_sys (s : State) (i : Nat) (v : Pin) : (s.setPin i v).sys = s.sys := rfl
@[simp] theorem State.modPin_sys (s : State) (i : Nat) (f : Pin → Pin) : (s.modPin i f).sys = s.sys := rfl
@[simp] theorem State.setPin_hif (s : State) (i : Nat) (v : Pin) : (s.setPin i v).hif = s.hif := rfl
@[simp] theorem State.modPin_hif (s : State) (i : Nat) (f : Pin → Pin) : (s.modPin i f).hif = s.hif := rfl
@[simp] theorem State.setPin_evt (s : State) (i : Nat) (v : Pin) : (s.setPin i v).evt = s.evt := rfl
@[simp] theorem State.modPin_evt (s : State) (i : Nat) (f : Pin → Pin) : (s.modPin i f).evt = s.evt := rfl
@[simp] theorem State.setPin_geo (s : State) (i : Nat) (v : Pin) : (s.setPin i v).geo = s.geo := rfl
@[simp] theorem State.modPin_geo (s : State) (i : Nat) (f : Pin → Pin) : (s.modPin i f).geo = s.geo := rfl
@[simp] theorem State.setPin_pgq (s : State) (i : Nat) (v : Pin) : (s.setPin i v).pgq = s.pgq := rfl
@[simp] theorem State.modPin_pgq (s : State) (i : Nat) (f : Pin → Pin) : (s.modPin i f).pgq = s.pgq := rfl
@[simp] theorem State.setPin_dec (s : State) (i : Nat) (v : Pin) : (s.setPin i v).dec = s.dec := rfl
@[simp] theorem State.modPin_dec (s : State) (i : Nat) (f : Pin → Pin) : (s.modPin i f).dec = s.dec := rfl
@[simp] theorem State.setPin_cmp (s : State) (i : Nat) (v : Pin) : (s.setPin i v).cmp = s.cmp := rfl
@[simp] theorem State.modPin_cmp (s : State) (i : Nat) (f : Pin → Pin) : (s.modPin i f).cmp = s.cmp := rfl
@[simp] theorem State.setPin_mal (s : State) (i : Nat) (v : Pin) : (s.setPin i v).mal = s.mal := rfl
@[simp] theorem State.modPin_mal (s : State) (i : Nat) (f : Pin → Pin) : (s.modPin i f).mal = s.mal := rfl
@[simp] theorem State.setPin_sub (s : State) (i : Nat) (v : Pin) : (s.setPin i v).sub = s.sub := rfl
@[simp] theorem State.modPin_sub (s : State) (i : Nat) (f : Pin → Pin) : (s.modPin i f).sub = s.sub := rfl
@[simp] theorem State.setPin_fir (s : State) (i : Nat) (v : Pin) : (s.setPin i v).fir = s.fir := rfl
@[simp] theorem State.modPin_fir (s : State) (i : Nat) (f : Pin → Pin) : (s.modPin i f).fir = s.fir := rfl
@[simp] theorem State.setPin_snr (s : State) (i : Nat) (v : Pin) : (s.setPin i v).snr = s.snr := rfl
@[simp] theorem State.modPin_snr (s : State) (i : Nat) (f : Pin → Pin) : (s.modPin i f).snr = s.snr := rfl
@[simp] theorem State.setPin_cam (s : State) (i : Nat) (v : Pin) : (s.setPin i v).cam = s.cam := rfl
@[simp] theorem State.modPin_cam (s : State) (i : Nat) (f : Pin → Pin) : (s.modPin i f).cam = s.cam := rfl
@[simp] theorem State.setPin_stk (s : State) (i : Nat) (v : Pin) : (s.setPin i v).stk = s.stk := rfl
@[simp] theorem State.modPin_stk (s : State) (i : Nat) (f : Pin → Pin) : (s.modPin i f).stk = s.stk := rfl
@[simp] theorem State.setPin_mot (s : State) (i : Nat) (v : Pin) : (s.setPin i v).mot = s.mot := rfl
@[simp] theorem State.modPin_mot (s : State) (i : Nat) (f : Pin → Pin) : (s.modPin i f).mot = s.mot := rfl
@[simp] theorem State.setPin_enc (s : State) (i : Nat) (v : Pin) : (s.setPin i v).enc = s.enc := rfl
@[simp] theorem State.modPin_enc (s : State) (i : Nat) (f : Pin → Pin) : (s.modPin i f).enc = s.enc := rfl
@[simp] theorem State.setPin_cle (s : State) (i : Nat) (v : Pin) : (s.setPin i v).cle = s.cle := rfl
@[simp] theorem State.modPin_cle (s : State) (i : Nat) (f : Pin → Pin) : (s.modPin i f).cle = s.cle := rfl
@[simp] theorem State.setPin_led (s : State) (i : Nat) (v : Pin) : (s.setPin i v).led = s.led := rfl
@[simp] theorem State.modPin_led (s : State) (i : Nat) (f : Pin → Pin) : (s.modPin i f).led = s.led := rfl
@[simp] theorem State.setPin_tim (s : State) (i : Nat) (v : Pin) : (s.setPin i v).tim = s.tim := rfl
@[simp] theorem State.modPin_tim (s : State) (i : Nat) (f : Pin → Pin) : (s.modPin i f).tim = s.tim := rfl
@[simp] theorem State.setPin_twn (s : State) (i : Nat) (v : Pin) : (s.setPin i v).twn = s.twn := rfl
@[simp] theorem State.modPin_twn (s : State) (i : Nat) (f : Pin → Pin) : (s.modPin i f).twn = s.twn := rfl
@[simp] theorem State.setPin_rim (s : State) (i : Nat) (v : Pin) : (s.setPin i v).rim = s.rim := rfl
@[simp] theorem State.modPin_rim (s : State) (i : Nat) (f : Pin → Pin) : (s.modPin i f).rim = s.rim := rfl
@[simp] theorem State.setPin_gng (s : State) (i : Nat) (v : Pin) : (s.setPin i v).gng = s.gng := rfl
@[simp] theorem State.modPin_gng (s : State) (i : Nat) (f : Pin → Pin) : (s.modPin i f).gng = s.gng := rfl
@[simp] theorem State.setPin_i2c (s : State) (i : Nat) (v : Pin) : (s.setPin i v).i2c = s.i2c := rfl
@[simp] theorem State.modPin_i2c (s : State) (i : Nat) (f : Pin → Pin) : (s.modPin i f).i2c = s.i2c := rfl
@[simp] theorem State.setPin_copyOwn (s : State) (i : Nat) (v : Pin) : (s.setPin i v).copyOwn = s.copyOwn := rfl
@[simp] theorem State.modPin_copyOwn (s : State) (i : Nat) (f : Pin → Pin) : (s.modPin i f).copyOwn = s.copyOwn := rfl
@[simp] theorem State.setPin_copySince (s : State) (i : Nat) (v : Pin) : (s.setPin i v).copySince = s.copySince := rfl
@[simp] theorem State.modPin_copySince (s : State) (i : Nat) (f : Pin → Pin) : (s.modPin i f).copySince = s.copySince := rfl
@[simp] theorem State.setPin_dram (s : State) (i : Nat) (v : Pin) : (s.setPin i v).dram = s.dram := rfl
@[simp] theorem State.modPin_dram (s : State) (i : Nat) (f : Pin → Pin) : (s.modPin i f).dram = s.dram := rfl
@[simp] theorem State.pin_setPin (s : State) (i : Nat) (v : Pin) : (s.setPin i v).pin i = v := by
  simp [State.pin, State.setPin]
@[simp] theorem State.pin_setPin_ne (s : State) {i k : Nat} (h : k ≠ i) (v : Pin) : (s.setPin i v).pin k = s.pin k := by
  simp [State.pin, State.setPin, h]
@[simp] theorem State.pin_modPin (s : State) (i : Nat) (f : Pin → Pin) : (s.modPin i f).pin i = f (s.pin i) := by
  simp [State.modPin]

/-! The later of two writes of one unit stands. -/

@[simp] theorem State.setRing_setRing (s : State) (i : Nat) (v w : Ring) : (s.setRing i v).setRing i w = s.setRing i w := by
  simp [State.setRing]
@[simp] theorem State.setMsixEntry_setMsixEntry (s : State) (i : Nat) (v w : MsixEntry) : (s.setMsixEntry i v).setMsixEntry i w = s.setMsixEntry i w := by
  simp [State.setMsixEntry]
@[simp] theorem State.setCtx_setCtx (s : State) (i : Nat) (v w : Ctx) : (s.setCtx i v).setCtx i w = s.setCtx i w := by
  simp [State.setCtx]
@[simp] theorem State.setStream_setStream (s : State) (i : Nat) (v w : Stream) : (s.setStream i v).setStream i w = s.setStream i w := by
  simp [State.setStream]
@[simp] theorem State.setEngine_setEngine (s : State) (i : Nat) (v w : Engine) : (s.setEngine i v).setEngine i w = s.setEngine i w := by
  simp [State.setEngine]
@[simp] theorem State.setLaneRing_setLaneRing (s : State) (i : Nat) (v w : LaneRing) : (s.setLaneRing i v).setLaneRing i w = s.setLaneRing i w := by
  simp [State.setLaneRing]
@[simp] theorem State.setLane_setLane (s : State) (i : Nat) (v w : Lane) : (s.setLane i v).setLane i w = s.setLane i w := by
  simp [State.setLane]
@[simp] theorem State.setCamPort_setCamPort (s : State) (i : Nat) (v w : CamPort) : (s.setCamPort i v).setCamPort i w = s.setCamPort i w := by
  simp [State.setCamPort]
@[simp] theorem State.setCamUnit_setCamUnit (s : State) (i : Nat) (v w : CamUnit) : (s.setCamUnit i v).setCamUnit i w = s.setCamUnit i w := by
  simp [State.setCamUnit]
@[simp] theorem State.setStkCol_setStkCol (s : State) (i : Nat) (v w : StkCol) : (s.setStkCol i v).setStkCol i w = s.setStkCol i w := by
  simp [State.setStkCol]
@[simp] theorem State.setAxis_setAxis (s : State) (i : Nat) (v w : Axis) : (s.setAxis i v).setAxis i w = s.setAxis i w := by
  simp [State.setAxis]
@[simp] theorem State.setChan_setChan (s : State) (i : Nat) (v w : Chan) : (s.setChan i v).setChan i w = s.setChan i w := by
  simp [State.setChan]
@[simp] theorem State.setProbe_setProbe (s : State) (i : Nat) (v w : Probe) : (s.setProbe i v).setProbe i w = s.setProbe i w := by
  simp [State.setProbe]
@[simp] theorem State.setCmpr_setCmpr (s : State) (i : Nat) (v w : Cmpr) : (s.setCmpr i v).setCmpr i w = s.setCmpr i w := by
  simp [State.setCmpr]
@[simp] theorem State.setSwitchIn_setSwitchIn (s : State) (i : Nat) (v w : Switch) : (s.setSwitchIn i v).setSwitchIn i w = s.setSwitchIn i w := by
  simp [State.setSwitchIn]
@[simp] theorem State.setAdcIn_setAdcIn (s : State) (i : Nat) (v w : AdcIn) : (s.setAdcIn i v).setAdcIn i w = s.setAdcIn i w := by
  simp [State.setAdcIn]
@[simp] theorem State.setLoop_setLoop (s : State) (i : Nat) (v w : Loop) : (s.setLoop i v).setLoop i w = s.setLoop i w := by
  simp [State.setLoop]
@[simp] theorem State.setChain_setChain (s : State) (i : Nat) (v w : Chain) : (s.setChain i v).setChain i w = s.setChain i w := by
  simp [State.setChain]
@[simp] theorem State.setZone_setZone (s : State) (i : Nat) (v w : Zone) : (s.setZone i v).setZone i w = s.setZone i w := by
  simp [State.setZone]
@[simp] theorem State.setColour_setColour (s : State) (i : Nat) (v w : Colour) : (s.setColour i v).setColour i w = s.setColour i w := by
  simp [State.setColour]
@[simp] theorem State.setInst_setInst (s : State) (i : Nat) (v w : Inst) : (s.setInst i v).setInst i w = s.setInst i w := by
  simp [State.setInst]
@[simp] theorem State.setPtpPort_setPtpPort (s : State) (i : Nat) (v w : TPort) : (s.setPtpPort i v).setPtpPort i w = s.setPtpPort i w := by
  simp [State.setPtpPort]
@[simp] theorem State.setPin_setPin (s : State) (i : Nat) (v w : Pin) : (s.setPin i v).setPin i w = s.setPin i w := by
  simp [State.setPin]
@[simp] theorem State.setI2cM_setI2cM (s : State) (i : Nat) (v w : I2cM) : (s.setI2cM i v).setI2cM i w = s.setI2cM i w := by
  simp [State.setI2cM]

end Sys2Proof.Machine
end

