-- ==== Sys2Proof/Laws/Commands.lean ====
section
/-! SUPPORT. What the shared start of a command does. -/
namespace Sys2Proof.Machine

/-- A command that commits at once ends as its effect on the state it commits in says. -/
theorem startCommand_atOnce {s : State} {r code : Nat} {c : Cmd} (h : s.atOnce r code c = true) (d : HostRead) (eff : Effect) :
    startCommand code r d eff s = settle c.id (eff { c with host := d } (s.begun r c d)) := by
  unfold State.atOnce at h
  cases ho : opInfo code with
  | none => simp [ho] at h
  | some o =>
    simp only [ho, Bool.and_eq_true, decide_eq_true_eq, beq_iff_eq, bne_iff_ne, Bool.not_eq_true'] at h
    obtain ⟨⟨⟨⟨h1, h2⟩, h3⟩, h4⟩, ⟨⟨h5, h6⟩, h7⟩, h8⟩ := h
    have hl : (s.begun r c d).anyLive = s.anyLive := rfl
    have hp : (s.begun r c d).paired = s.paired := rfl
    unfold startCommand
    simp only [h1, h2, ho, h3, ne_eq, not_true_eq_false, if_false]
    show runCommand { c with host := d } o eff (s.begun r c d) = _
    unfold runCommand
    have e4 : ((s.begun r c d).sys.imageRun = 2) = False := eq_false h4
    have e6 : (s.begun r c d).twn.role = s.twn.role := rfl
    rw [if_neg (by simp [h5]), if_neg (by simp [e6, h6]), if_neg (by simp [e4])]
    simp only [hl, hp, h7, h8, Bool.or_self, Bool.and_false, Bool.not_false, Bool.and_true, Bool.false_eq_true, if_false]
    split
    · rfl
    · unfold commitOrMirror
      rw [if_neg (by
        rw [hp]; intro x
        simp [x.1, x.2] at h8)]

/-! A command in progress differs from the state it started in by the host interface alone. -/

@[simp] theorem State.begun_outbox (s : State) (r : Nat) (c : Cmd) (d : HostRead) : (s.begun r c d).outbox = s.outbox := rfl
@[simp] theorem State.begun_tick (s : State) (r : Nat) (c : Cmd) (d : HostRead) : (s.begun r c d).tick = s.tick := rfl
@[simp] theorem State.begun_pending (s : State) (r : Nat) (c : Cmd) (d : HostRead) : (s.begun r c d).pending = s.pending := rfl
@[simp] theorem State.begun_out (s : State) (r : Nat) (c : Cmd) (d : HostRead) : (s.begun r c d).out = s.out := rfl
@[simp] theorem State.begun_free (s : State) (r : Nat) (c : Cmd) (d : HostRead) : (s.begun r c d).free = s.free := rfl
@[simp] theorem State.begun_sys (s : State) (r : Nat) (c : Cmd) (d : HostRead) : (s.begun r c d).sys = s.sys := rfl
@[simp] theorem State.begun_evt (s : State) (r : Nat) (c : Cmd) (d : HostRead) : (s.begun r c d).evt = s.evt := rfl
@[simp] theorem State.begun_geo (s : State) (r : Nat) (c : Cmd) (d : HostRead) : (s.begun r c d).geo = s.geo := rfl
@[simp] theorem State.begun_pgq (s : State) (r : Nat) (c : Cmd) (d : HostRead) : (s.begun r c d).pgq = s.pgq := rfl
@[simp] theorem State.begun_dec (s : State) (r : Nat) (c : Cmd) (d : HostRead) : (s.begun r c d).dec = s.dec := rfl
@[simp] theorem State.begun_cmp (s : State) (r : Nat) (c : Cmd) (d : HostRead) : (s.begun r c d).cmp = s.cmp := rfl
@[simp] theorem State.begun_mal (s : State) (r : Nat) (c : Cmd) (d : HostRead) : (s.begun r c d).mal = s.mal := rfl
@[simp] theorem State.begun_sub (s : State) (r : Nat) (c : Cmd) (d : HostRead) : (s.begun r c d).sub = s.sub := rfl
@[simp] theorem State.begun_fir (s : State) (r : Nat) (c : Cmd) (d : HostRead) : (s.begun r c d).fir = s.fir := rfl
@[simp] theorem State.begun_snr (s : State) (r : Nat) (c : Cmd) (d : HostRead) : (s.begun r c d).snr = s.snr := rfl
@[simp] theorem State.begun_cam (s : State) (r : Nat) (c : Cmd) (d : HostRead) : (s.begun r c d).cam = s.cam := rfl
@[simp] theorem State.begun_stk (s : State) (r : Nat) (c : Cmd) (d : HostRead) : (s.begun r c d).stk = s.stk := rfl
@[simp] theorem State.begun_mot (s : State) (r : Nat) (c : Cmd) (d : HostRead) : (s.begun r c d).mot = s.mot := rfl
@[simp] theorem State.begun_enc (s : State) (r : Nat) (c : Cmd) (d : HostRead) : (s.begun r c d).enc = s.enc := rfl
@[simp] theorem State.begun_cle (s : State) (r : Nat) (c : Cmd) (d : HostRead) : (s.begun r c d).cle = s.cle := rfl
@[simp] theorem State.begun_led (s : State) (r : Nat) (c : Cmd) (d : HostRead) : (s.begun r c d).led = s.led := rfl
@[simp] theorem State.begun_tim (s : State) (r : Nat) (c : Cmd) (d : HostRead) : (s.begun r c d).tim = s.tim := rfl
@[simp] theorem State.begun_twn (s : State) (r : Nat) (c : Cmd) (d : HostRead) : (s.begun r c d).twn = s.twn := rfl
@[simp] theorem State.begun_rim (s : State) (r : Nat) (c : Cmd) (d : HostRead) : (s.begun r c d).rim = s.rim := rfl
@[simp] theorem State.begun_gng (s : State) (r : Nat) (c : Cmd) (d : HostRead) : (s.begun r c d).gng = s.gng := rfl
@[simp] theorem State.begun_gpio (s : State) (r : Nat) (c : Cmd) (d : HostRead) : (s.begun r c d).gpio = s.gpio := rfl
@[simp] theorem State.begun_i2c (s : State) (r : Nat) (c : Cmd) (d : HostRead) : (s.begun r c d).i2c = s.i2c := rfl
@[simp] theorem State.begun_copyOwn (s : State) (r : Nat) (c : Cmd) (d : HostRead) : (s.begun r c d).copyOwn = s.copyOwn := rfl
@[simp] theorem State.begun_copySince (s : State) (r : Nat) (c : Cmd) (d : HostRead) : (s.begun r c d).copySince = s.copySince := rfl
@[simp] theorem State.begun_dram (s : State) (r : Nat) (c : Cmd) (d : HostRead) : (s.begun r c d).dram = s.dram := rfl
@[simp] theorem State.begun_hif_ready (s : State) (r : Nat) (c : Cmd) (d : HostRead) : (s.begun r c d).hif.ready = s.hif.ready := rfl
@[simp] theorem State.begun_hif_linkDown (s : State) (r : Nat) (c : Cmd) (d : HostRead) : (s.begun r c d).hif.linkDown = s.hif.linkDown := rfl
@[simp] theorem State.begun_hif_timeB (s : State) (r : Nat) (c : Cmd) (d : HostRead) : (s.begun r c d).hif.timeB = s.hif.timeB := rfl
@[simp] theorem State.begun_hif_rings (s : State) (r : Nat) (c : Cmd) (d : HostRead) : (s.begun r c d).hif.rings = s.hif.rings := rfl
@[simp] theorem State.begun_hif_eq (s : State) (r : Nat) (c : Cmd) (d : HostRead) : (s.begun r c d).hif.eq = s.hif.eq := rfl
@[simp] theorem State.begun_hif_msix (s : State) (r : Nat) (c : Cmd) (d : HostRead) : (s.begun r c d).hif.msix = s.hif.msix := rfl
@[simp] theorem State.begun_hif_pba (s : State) (r : Nat) (c : Cmd) (d : HostRead) : (s.begun r c d).hif.pba = s.hif.pba := rfl
@[simp] theorem State.begun_hif_msixDue (s : State) (r : Nat) (c : Cmd) (d : HostRead) : (s.begun r c d).hif.msixDue = s.hif.msixDue := rfl
@[simp] theorem State.begun_hif_gone (s : State) (r : Nat) (c : Cmd) (d : HostRead) : (s.begun r c d).hif.gone = s.hif.gone := rfl
@[simp] theorem State.begun_hif_epoch (s : State) (r : Nat) (c : Cmd) (d : HostRead) : (s.begun r c d).hif.epoch = s.hif.epoch := rfl
@[simp] theorem State.begun_hif_fwAuth (s : State) (r : Nat) (c : Cmd) (d : HostRead) : (s.begun r c d).hif.fwAuth = s.hif.fwAuth := rfl
@[simp] theorem State.begun_hif_nextId (s : State) (r : Nat) (c : Cmd) (d : HostRead) : (s.begun r c d).hif.nextId = s.hif.nextId := rfl

/-- A command that commits at once does not run in recovery. -/
theorem State.atOnce_image {s : State} {r code : Nat} {c : Cmd} (h : s.atOnce r code c = true) : s.sys.imageRun ≠ 2 := by
  unfold State.atOnce at h
  simp only [Bool.and_eq_true, bne_iff_ne] at h
  exact h.1.2

/-- Its packet has the opcode. -/
theorem State.atOnce_opcode {s : State} {r code : Nat} {c : Cmd} (h : s.atOnce r code c = true) : pktOpcode c.packet = code := by
  unfold State.atOnce at h
  simp only [Bool.and_eq_true, beq_iff_eq] at h
  exact h.1.1.2

end Sys2Proof.Machine
end

