-- ==== Sys2Proof/Laws/Ops.lean ====
section
/-! SUPPORT. What the operations that every block shares change (R39, R49 to R53, R459): the trace, the host
interface and the event block, and no other part of the state. -/
namespace Sys2Proof.Machine

/-! Each operation, once. -/

theorem State.triggerVector_eq (s : State) (v : Nat) :
    s.triggerVector v = s.modHif (fun h => { h with msixDue := if h.msixDue.contains v then h.msixDue else h.msixDue ++ [v] }) := by
  unfold State.triggerVector State.modHif
  split
  · rename_i h; simp only [h, if_true]
  · rename_i h; simp only [if_neg h]

theorem State.countEvent_eq (s : State) (sev : Nat) :
    ∃ g m, s.countEvent sev = s.modHif (fun h => { h with eq := g, msixDue := m }) := by
  unfold State.countEvent
  simp only [State.triggerVector_eq]
  (repeat' split) <;> exact ⟨_, _, rfl⟩

theorem State.countCompletion_eq (s : State) (r : Nat) :
    ∃ g m, s.countCompletion r = s.modHif (fun h => { h with rings := g, msixDue := m }) := by
  unfold State.countCompletion
  simp only [State.triggerVector_eq]
  (repeat' split) <;> exact ⟨_, _, rfl⟩

theorem State.noteWrite_eq (s : State) (u i a n : Nat) :
    ∃ w, s.noteWrite u i a n = s.modHif (fun h => { h with failedWrites := w }) := ⟨_, rfl⟩

/-- A completion entry touches the trace and its ring (R39, R49). -/
theorem State.writeCompletion_eq (s : State) (r tag st : Nat) (res : List Byte) :
    ∃ o g m w, s.writeCompletion r tag st res =
      { s with out := s.out ++ o, hif := { s.hif with rings := g, msixDue := m, failedWrites := w } } := by
  obtain ⟨w, hw⟩ := State.noteWrite_eq (s.emit (.host ((s.ring r).cqBase + 32 * (s.ring r).cqWrite)
    (completionBytes tag st r (s.ring r).phase s.hif.timeB s.nowNs res))) r (s.ring r).cqWrite ((s.ring r).cqBase + 32 * (s.ring r).cqWrite) 32
  unfold State.writeCompletion
  simp only [hw]
  obtain ⟨g, m, h⟩ := State.countCompletion_eq (((s.emit (.host ((s.ring r).cqBase + 32 * (s.ring r).cqWrite)
    (completionBytes tag st r (s.ring r).phase s.hif.timeB s.nowNs res))).modHif (fun h => { h with failedWrites := w })).setRing r { s.ring r with
      cqWrite := ((s.ring r).cqWrite + 1) % 2 ^ (s.ring r).cqLog2,
      phase := if ((s.ring r).cqWrite + 1) % 2 ^ (s.ring r).cqLog2 = 0 then !(s.ring r).phase else (s.ring r).phase }) r
  exact ⟨_, g, m, w, h⟩

/-- Reaching a completion point changes the command's phase and nothing else; what was discarded is forgotten (R41, R49). -/
theorem State.complete_eq (s : State) (id st : Nat) (res : List Byte) :
    ∃ n, s.complete id st res = s.modHif (fun h => { h with inflight := h.inflight.map (Cmd.completed id st res), gone := n }) := ⟨_, rfl⟩

/-- A command that completes has reached its completion point (R41, R49). -/
theorem State.complete_completing {s : State} {id st : Nat} {res : List Byte} {c : Cmd} (hc : c ∈ s.hif.inflight) (hi : c.id = id) :
    ∃ d ∈ (s.complete id st res).hif.inflight, d.id = id ∧ d.completing = true := by
  refine ⟨Cmd.completed id st res c, List.mem_map.2 ⟨c, hc, rfl⟩, ?_⟩
  unfold Cmd.completed
  split
  · exact ⟨hi, rfl⟩
  · rename_i h; refine ⟨hi, ?_⟩; simpa [hi] using h

theorem State.completeOpt_eq (s : State) (id : Option Nat) (st : Nat) (res : List Byte) :
    ∃ i n, s.completeOpt id st res = s.modHif (fun h => { h with inflight := i, gone := n }) := by
  cases id with
  | none => exact ⟨_, _, rfl⟩
  | some i => exact ⟨_, _, rfl⟩

theorem State.completeAll_eq (l : List (Nat × Nat × List Byte)) : ∀ s : State,
    ∃ i n, s.completeAll l = s.modHif (fun h => { h with inflight := i, gone := n }) := by
  unfold State.completeAll
  induction l with
  | nil => exact fun s => ⟨_, _, rfl⟩
  | cons x l ih =>
    intro s
    obtain ⟨i, n, e⟩ := ih (s.complete x.1 x.2.1 x.2.2)
    exact ⟨i, n, by rw [List.foldl_cons, e]; rfl⟩

/-- Writing a record touches the trace and the event ring (R39, R50). -/
theorem State.writeRecord_eq (s : State) (r : Rec) :
    ∃ o g m w, s.writeRecord r = { s with out := s.out ++ o, hif := { s.hif with eq := g, msixDue := m, failedWrites := w } } := by
  obtain ⟨w, hw⟩ := State.noteWrite_eq (s.emit (.host (s.hif.eq.base + 32 * s.hif.eq.write) (r.encode s.hif.eq.phase))) 4 s.hif.eq.write
    (s.hif.eq.base + 32 * s.hif.eq.write) 32
  unfold State.writeRecord
  simp only [hw]
  obtain ⟨g, m, h⟩ := State.countEvent_eq (((s.emit (.host (s.hif.eq.base + 32 * s.hif.eq.write) (r.encode s.hif.eq.phase))).modHif (fun h => { h with failedWrites := w })).modHif (fun h => { h with eq := { s.hif.eq with
      write := (s.hif.eq.write + 1) % 2 ^ s.hif.eq.log2,
      phase := if (s.hif.eq.write + 1) % 2 ^ s.hif.eq.log2 = 0 then !s.hif.eq.phase else s.hif.eq.phase } })) r.sev
  exact ⟨_, g, m, w, h⟩

theorem State.drainBacklog_eq : ∀ (n : Nat) (s : State),
    ∃ o g m w e, s.drainBacklog n = { s with out := s.out ++ o, hif := { s.hif with eq := g, msixDue := m, failedWrites := w }, evt := e }
  | 0, s => ⟨[], s.hif.eq, s.hif.msixDue, s.hif.failedWrites, s.evt, by simp [State.drainBacklog]⟩
  | n + 1, s => by
    unfold State.drainBacklog
    split
    · exact ⟨[], s.hif.eq, s.hif.msixDue, s.hif.failedWrites, s.evt, by simp⟩
    · rename_i r rest hb
      split
      · obtain ⟨o, g, m, w, h⟩ := State.writeRecord_eq (s.modEvt (fun e => { e with backlog := rest })) r
        obtain ⟨o', g', m', w', e', h'⟩ := State.drainBacklog_eq n ((s.modEvt (fun e => { e with backlog := rest })).writeRecord r)
        exact ⟨o ++ o', g', m', w', e', by rw [h', h]; simp [State.modEvt]⟩
      · exact ⟨[], s.hif.eq, s.hif.msixDue, s.hif.failedWrites, s.evt, by simp⟩

/-- The state after a change of what is sent, of the event ring with its vector, and of the event block. -/
def State.withEvents (s : State) (o : List Out) (g : EventRing) (m : List Nat) (w : List (Nat × Nat × Nat)) (e : Evt) : State :=
  { s with out := s.out ++ o, hif := { s.hif with eq := g, msixDue := m, failedWrites := w }, evt := e }

theorem State.withEvents_self (s : State) : s.withEvents [] s.hif.eq s.hif.msixDue s.hif.failedWrites s.evt = s := by simp [State.withEvents]

theorem State.withEvents_withEvents (s : State) (o o' : List Out) (g g' : EventRing) (m m' : List Nat) (w w' : List (Nat × Nat × Nat))
    (e e' : Evt) : (s.withEvents o g m w e).withEvents o' g' m' w' e' = s.withEvents (o ++ o') g' m' w' e' := by simp [State.withEvents]

theorem State.modEvt_writeRecord_eq (s : State) (f : Evt → Evt) (r : Rec) :
    ∃ o g m w e, (s.modEvt f).writeRecord r = s.withEvents o g m w e := by
  obtain ⟨o, g, m, w, h⟩ := State.writeRecord_eq (s.modEvt f) r
  exact ⟨o, g, m, w, f s.evt, by rw [h]; rfl⟩

theorem State.drainHeld_eq (s : State) : ∃ o g m w e, (match s.evt.heldError with
    | some r => if 2 ≤ s.hif.eq.freeEntries then (s.modEvt (fun e => { e with heldError := none })).writeRecord r else s
    | none => s) = s.withEvents o g m w e := by
  split
  · split
    · exact State.modEvt_writeRecord_eq ..
    · exact ⟨_, _, _, _, _, s.withEvents_self.symm⟩
  · exact ⟨_, _, _, _, _, s.withEvents_self.symm⟩

theorem State.drainRest_eq {b a : State} (hb : b = a) (p : State → Bool) (f : State → Evt → Evt) (r : State → Rec) : ∃ o g m w e,
    (let s := b.drainBacklog b.evt.backlog.length; if p s then (s.modEvt (f s)).writeRecord (r s) else s) = a.withEvents o g m w e := by
  subst hb
  obtain ⟨o2, g2, m2, w2, e2, h2⟩ := State.drainBacklog_eq b.evt.backlog.length b
  change b.drainBacklog b.evt.backlog.length = b.withEvents o2 g2 m2 w2 e2 at h2
  simp only [h2]
  split
  · obtain ⟨o3, g3, m3, w3, e3, h3⟩ := State.modEvt_writeRecord_eq (b.withEvents o2 g2 m2 w2 e2) (f (b.withEvents o2 g2 m2 w2 e2)) (r (b.withEvents o2 g2 m2 w2 e2))
    exact ⟨_, _, _, _, _, by rw [h3, State.withEvents_withEvents]⟩
  · exact ⟨_, _, _, _, _, rfl⟩

theorem State.drainEvents_eq (s : State) : ∃ o g m w e, s.drainEvents = s.withEvents o g m w e := by
  obtain ⟨o1, g1, m1, w1, e1, h1⟩ := State.drainHeld_eq s
  obtain ⟨o2, g2, m2, w2, e2, h2⟩ := State.drainRest_eq h1
    (fun s => s.evt.backlog.isEmpty && s.evt.heldError.isNone && decide (0 < s.evt.lost) && decide (2 ≤ s.hif.eq.freeEntries))
    (fun s => fun e => { e with seq := wrapAdd 32 s.evt.seq 1, lost := 0 })
    (fun s => { code := 0x0101, sev := Sev.warn, unit := 0, seq := s.evt.seq, time := s.nowNs, timeB := s.hif.timeB, args := leBytes 4 s.evt.lost ++ leBytes 4 s.evt.lostFirst ++ leBytes 4 s.evt.lostLast ++ zeros 4 })
  have h3 : s.drainEvents = (s.withEvents o1 g1 m1 w1 e1).withEvents o2 g2 m2 w2 e2 := by
    rw [← h2]; rfl
  exact ⟨_, _, _, _, _, h3.trans (State.withEvents_withEvents ..)⟩

theorem State.placeRecord_eq (s : State) (r : Rec) : ∃ o g m w e, s.placeRecord r = s.withEvents o g m w e := by
  unfold State.placeRecord
  (repeat' split)
  · obtain ⟨o, g, m, w, h⟩ := State.writeRecord_eq s r
    exact ⟨o, g, m, w, s.evt, by rw [h]; rfl⟩
  · exact ⟨[], _, s.hif.msixDue, s.hif.failedWrites, _, by simp [State.loseRecord, State.withEvents, State.modHif, State.modEvt]; exact ⟨rfl, rfl⟩⟩
  · exact ⟨[], s.hif.eq, s.hif.msixDue, s.hif.failedWrites, _, by simp [State.withEvents, State.modEvt]; rfl⟩
  · exact ⟨[], _, s.hif.msixDue, s.hif.failedWrites, _, by simp [State.loseRecord, State.withEvents, State.modHif, State.modEvt]; exact ⟨rfl, rfl⟩⟩

/-- What raising an event changes (R50 to R52). -/
theorem State.raiseAt_eq (s : State) (code sev unit : Nat) (args : List Byte) :
    ∃ o g m w e, s.raiseAt code sev unit args = s.withEvents o g m w e := by
  unfold State.raiseAt
  (repeat' split)
  · exact ⟨_, _, _, _, _, s.withEvents_self.symm⟩
  · exact ⟨_, _, _, _, _, s.withEvents_self.symm⟩
  · obtain ⟨o1, g1, m1, w1, e1, h1⟩ := State.drainEvents_eq s
    obtain ⟨o, g, m, w, e, h⟩ := State.placeRecord_eq ((s.withEvents o1 g1 m1 w1 e1).modEvt (fun e => { e with seq := wrapAdd 32 e.seq 1 }))
      ((s.withEvents o1 g1 m1 w1 e1).newRecord code sev unit args)
    exact ⟨o1 ++ o, g, m, w, e, by simp only [h1]; rw [h]; simp [State.withEvents, State.modEvt]⟩

theorem State.raise_eq (s : State) (code unit : Nat) (args : List Byte) :
    ∃ o g m w e, s.raise code unit args = s.withEvents o g m w e := State.raiseAt_eq ..

/-- A failed read changes nothing but the non-fatal class of the errors reported (R29). -/
theorem State.reportRead_eq (s : State) (cause : Nat) : ∃ b, s.reportRead cause = s.modHif (fun h => { h with aerNonfatal := b }) := by
  unfold State.reportRead
  split
  · exact ⟨true, rfl⟩
  · exact ⟨s.hif.aerNonfatal, rfl⟩

/-- A failed read may report a non-fatal error (R29), and raises DMA_ERROR. -/
theorem State.dmaError_eq (s : State) (c : Cmd) (cause addr : Nat) :
    ∃ o g m w e, s.dmaError c cause addr = (s.reportRead cause).withEvents o g m w e := State.raise_eq ..

theorem State.ringError_eq (s : State) (unit cause value index addr : Nat) :
    ∃ o g m w e, s.ringError unit cause value index addr = s.withEvents o g m w e := State.raise_eq ..

theorem State.writeResults_eq (s : State) (id : Option Nat) (addr : Nat) (bytes : List Byte) :
    ∃ o g m w e, s.writeResults id addr bytes = s.withEvents o g m w e := by
  unfold State.writeResults
  (repeat' split)
  · exact ⟨s.leaves (.host addr bytes), s.hif.eq, s.hif.msixDue, s.hif.failedWrites, s.evt, rfl⟩
  · exact State.dmaError_eq s _ 4 addr
  · exact ⟨_, _, _, _, _, s.withEvents_self.symm⟩

/-- A ring pair that fails stops with its cause, and its commands leave (R38, R59, R459). -/
theorem State.failRing_eq (s : State) (r cause value index addr : Nat) : ∃ o g m w e, s.failRing r cause value index addr =
    ((s.stopRing r).modRing r (fun g => { g with stopped := true, error := true, errCause := cause })).withEvents o g m w e := by
  unfold State.failRing
  exact State.ringError_eq ..

/-- A record joins those that leave when the tick ends (R373, R374). -/
theorem State.sendTwin_eq (s : State) (r : TwinRec) : ∃ o, s.sendTwin r = { s with outbox := o } := by
  unfold State.sendTwin
  split
  · exact ⟨_, rfl⟩
  · exact ⟨s.outbox, rfl⟩

theorem State.foldEmit_eq (l : List TwinRec) : ∀ s : State, l.foldl (fun s r => s.emit (.twin r)) s = { s with out := s.out ++ l.flatMap (fun r => s.leaves (.twin r)) } := by
  induction l with
  | nil => intro s; simp
  | cons x l ih =>
    intro s
    rw [List.foldl_cons, ih, List.flatMap_cons, ← List.append_assoc]
    rfl

/-- The records of a tick leave, taps and LINE records first (R374). -/
theorem State.sendRecords_eq (s : State) : s.sendRecords =
    { s with out := s.out ++ (s.outbox.filter TwinRec.ahead ++ s.outbox.filter (fun r => !r.ahead)).flatMap (fun r => s.leaves (.twin r)), outbox := [] } := by
  unfold State.sendRecords
  simp only []
  split
  · rename_i h; simp [h]; rw [← h]
  · rw [State.foldEmit_eq]; rfl

/-! Sampled inputs. -/

/-- A filtered line keeps its value unless its last `n` samples agree on the other (R290, R428). -/
theorem filterLine_eq_or {n : Nat} {old : Bool} {samples : List Bool} (h : filterLine n old samples ≠ old) :
    n ≤ samples.length ∧ ∀ x ∈ samples.take n, x = !old := by
  unfold filterLine at h
  cases samples with
  | nil => exact absurd rfl h
  | cons v rest =>
    simp only [] at h
    split at h
    · rename_i hc
      simp only [Bool.and_eq_true, decide_eq_true_eq, List.all_eq_true, beq_iff_eq] at hc
      refine ⟨hc.1, fun x hx => ?_⟩
      rw [hc.2 x hx]; cases v <;> cases old <;> simp_all
    · exact absurd rfl h

/-! raiseAt -/

@[simp] theorem State.raiseAt_outbox (s : State) (code sev unit : Nat) (args : List Byte) : (s.raiseAt code sev unit args).outbox = s.outbox := by
  obtain ⟨_, _, _, _, _, h⟩ := State.raiseAt_eq s code sev unit args; rw [h]; rfl
@[simp] theorem State.raiseAt_tick (s : State) (code sev unit : Nat) (args : List Byte) : (s.raiseAt code sev unit args).tick = s.tick := by
  obtain ⟨_, _, _, _, _, h⟩ := State.raiseAt_eq s code sev unit args; rw [h]; rfl
@[simp] theorem State.raiseAt_pending (s : State) (code sev unit : Nat) (args : List Byte) : (s.raiseAt code sev unit args).pending = s.pending := by
  obtain ⟨_, _, _, _, _, h⟩ := State.raiseAt_eq s code sev unit args; rw [h]; rfl
@[simp] theorem State.raiseAt_free (s : State) (code sev unit : Nat) (args : List Byte) : (s.raiseAt code sev unit args).free = s.free := by
  obtain ⟨_, _, _, _, _, h⟩ := State.raiseAt_eq s code sev unit args; rw [h]; rfl
@[simp] theorem State.raiseAt_sys (s : State) (code sev unit : Nat) (args : List Byte) : (s.raiseAt code sev unit args).sys = s.sys := by
  obtain ⟨_, _, _, _, _, h⟩ := State.raiseAt_eq s code sev unit args; rw [h]; rfl
@[simp] theorem State.raiseAt_geo (s : State) (code sev unit : Nat) (args : List Byte) : (s.raiseAt code sev unit args).geo = s.geo := by
  obtain ⟨_, _, _, _, _, h⟩ := State.raiseAt_eq s code sev unit args; rw [h]; rfl
@[simp] theorem State.raiseAt_pgq (s : State) (code sev unit : Nat) (args : List Byte) : (s.raiseAt code sev unit args).pgq = s.pgq := by
  obtain ⟨_, _, _, _, _, h⟩ := State.raiseAt_eq s code sev unit args; rw [h]; rfl
@[simp] theorem State.raiseAt_dec (s : State) (code sev unit : Nat) (args : List Byte) : (s.raiseAt code sev unit args).dec = s.dec := by
  obtain ⟨_, _, _, _, _, h⟩ := State.raiseAt_eq s code sev unit args; rw [h]; rfl
@[simp] theorem State.raiseAt_cmp (s : State) (code sev unit : Nat) (args : List Byte) : (s.raiseAt code sev unit args).cmp = s.cmp := by
  obtain ⟨_, _, _, _, _, h⟩ := State.raiseAt_eq s code sev unit args; rw [h]; rfl
@[simp] theorem State.raiseAt_mal (s : State) (code sev unit : Nat) (args : List Byte) : (s.raiseAt code sev unit args).mal = s.mal := by
  obtain ⟨_, _, _, _, _, h⟩ := State.raiseAt_eq s code sev unit args; rw [h]; rfl
@[simp] theorem State.raiseAt_sub (s : State) (code sev unit : Nat) (args : List Byte) : (s.raiseAt code sev unit args).sub = s.sub := by
  obtain ⟨_, _, _, _, _, h⟩ := State.raiseAt_eq s code sev unit args; rw [h]; rfl
@[simp] theorem State.raiseAt_fir (s : State) (code sev unit : Nat) (args : List Byte) : (s.raiseAt code sev unit args).fir = s.fir := by
  obtain ⟨_, _, _, _, _, h⟩ := State.raiseAt_eq s code sev unit args; rw [h]; rfl
@[simp] theorem State.raiseAt_snr (s : State) (code sev unit : Nat) (args : List Byte) : (s.raiseAt code sev unit args).snr = s.snr := by
  obtain ⟨_, _, _, _, _, h⟩ := State.raiseAt_eq s code sev unit args; rw [h]; rfl
@[simp] theorem State.raiseAt_cam (s : State) (code sev unit : Nat) (args : List Byte) : (s.raiseAt code sev unit args).cam = s.cam := by
  obtain ⟨_, _, _, _, _, h⟩ := State.raiseAt_eq s code sev unit args; rw [h]; rfl
@[simp] theorem State.raiseAt_stk (s : State) (code sev unit : Nat) (args : List Byte) : (s.raiseAt code sev unit args).stk = s.stk := by
  obtain ⟨_, _, _, _, _, h⟩ := State.raiseAt_eq s code sev unit args; rw [h]; rfl
@[simp] theorem State.raiseAt_mot (s : State) (code sev unit : Nat) (args : List Byte) : (s.raiseAt code sev unit args).mot = s.mot := by
  obtain ⟨_, _, _, _, _, h⟩ := State.raiseAt_eq s code sev unit args; rw [h]; rfl
@[simp] theorem State.raiseAt_enc (s : State) (code sev unit : Nat) (args : List Byte) : (s.raiseAt code sev unit args).enc = s.enc := by
  obtain ⟨_, _, _, _, _, h⟩ := State.raiseAt_eq s code sev unit args; rw [h]; rfl
@[simp] theorem State.raiseAt_cle (s : State) (code sev unit : Nat) (args : List Byte) : (s.raiseAt code sev unit args).cle = s.cle := by
  obtain ⟨_, _, _, _, _, h⟩ := State.raiseAt_eq s code sev unit args; rw [h]; rfl
@[simp] theorem State.raiseAt_led (s : State) (code sev unit : Nat) (args : List Byte) : (s.raiseAt code sev unit args).led = s.led := by
  obtain ⟨_, _, _, _, _, h⟩ := State.raiseAt_eq s code sev unit args; rw [h]; rfl
@[simp] theorem State.raiseAt_tim (s : State) (code sev unit : Nat) (args : List Byte) : (s.raiseAt code sev unit args).tim = s.tim := by
  obtain ⟨_, _, _, _, _, h⟩ := State.raiseAt_eq s code sev unit args; rw [h]; rfl
@[simp] theorem State.raiseAt_twn (s : State) (code sev unit : Nat) (args : List Byte) : (s.raiseAt code sev unit args).twn = s.twn := by
  obtain ⟨_, _, _, _, _, h⟩ := State.raiseAt_eq s code sev unit args; rw [h]; rfl
@[simp] theorem State.raiseAt_rim (s : State) (code sev unit : Nat) (args : List Byte) : (s.raiseAt code sev unit args).rim = s.rim := by
  obtain ⟨_, _, _, _, _, h⟩ := State.raiseAt_eq s code sev unit args; rw [h]; rfl
@[simp] theorem State.raiseAt_gng (s : State) (code sev unit : Nat) (args : List Byte) : (s.raiseAt code sev unit args).gng = s.gng := by
  obtain ⟨_, _, _, _, _, h⟩ := State.raiseAt_eq s code sev unit args; rw [h]; rfl
@[simp] theorem State.raiseAt_gpio (s : State) (code sev unit : Nat) (args : List Byte) : (s.raiseAt code sev unit args).gpio = s.gpio := by
  obtain ⟨_, _, _, _, _, h⟩ := State.raiseAt_eq s code sev unit args; rw [h]; rfl
@[simp] theorem State.raiseAt_i2c (s : State) (code sev unit : Nat) (args : List Byte) : (s.raiseAt code sev unit args).i2c = s.i2c := by
  obtain ⟨_, _, _, _, _, h⟩ := State.raiseAt_eq s code sev unit args; rw [h]; rfl
@[simp] theorem State.raiseAt_copyOwn (s : State) (code sev unit : Nat) (args : List Byte) : (s.raiseAt code sev unit args).copyOwn = s.copyOwn := by
  obtain ⟨_, _, _, _, _, h⟩ := State.raiseAt_eq s code sev unit args; rw [h]; rfl
@[simp] theorem State.raiseAt_copySince (s : State) (code sev unit : Nat) (args : List Byte) : (s.raiseAt code sev unit args).copySince = s.copySince := by
  obtain ⟨_, _, _, _, _, h⟩ := State.raiseAt_eq s code sev unit args; rw [h]; rfl
@[simp] theorem State.raiseAt_dram (s : State) (code sev unit : Nat) (args : List Byte) : (s.raiseAt code sev unit args).dram = s.dram := by
  obtain ⟨_, _, _, _, _, h⟩ := State.raiseAt_eq s code sev unit args; rw [h]; rfl
@[simp] theorem State.raiseAt_hif_turnTick (s : State) (code sev unit : Nat) (args : List Byte) : (s.raiseAt code sev unit args).hif.turnTick = s.hif.turnTick := by
  obtain ⟨_, _, _, _, _, h⟩ := State.raiseAt_eq s code sev unit args; rw [h]; rfl
@[simp] theorem State.raiseAt_hif_refused (s : State) (code sev unit : Nat) (args : List Byte) : (s.raiseAt code sev unit args).hif.refused = s.hif.refused := by
  obtain ⟨_, _, _, _, _, h⟩ := State.raiseAt_eq s code sev unit args; rw [h]; rfl
@[simp] theorem State.raiseAt_hif_ready (s : State) (code sev unit : Nat) (args : List Byte) : (s.raiseAt code sev unit args).hif.ready = s.hif.ready := by
  obtain ⟨_, _, _, _, _, h⟩ := State.raiseAt_eq s code sev unit args; rw [h]; rfl
@[simp] theorem State.raiseAt_hif_timeB (s : State) (code sev unit : Nat) (args : List Byte) : (s.raiseAt code sev unit args).hif.timeB = s.hif.timeB := by
  obtain ⟨_, _, _, _, _, h⟩ := State.raiseAt_eq s code sev unit args; rw [h]; rfl
@[simp] theorem State.raiseAt_hif_linkDown (s : State) (code sev unit : Nat) (args : List Byte) : (s.raiseAt code sev unit args).hif.linkDown = s.hif.linkDown := by
  obtain ⟨_, _, _, _, _, h⟩ := State.raiseAt_eq s code sev unit args; rw [h]; rfl
@[simp] theorem State.raiseAt_hif_fwAuth (s : State) (code sev unit : Nat) (args : List Byte) : (s.raiseAt code sev unit args).hif.fwAuth = s.hif.fwAuth := by
  obtain ⟨_, _, _, _, _, h⟩ := State.raiseAt_eq s code sev unit args; rw [h]; rfl
@[simp] theorem State.raiseAt_hif_fwFallback (s : State) (code sev unit : Nat) (args : List Byte) : (s.raiseAt code sev unit args).hif.fwFallback = s.hif.fwFallback := by
  obtain ⟨_, _, _, _, _, h⟩ := State.raiseAt_eq s code sev unit args; rw [h]; rfl
@[simp] theorem State.raiseAt_hif_linkGen (s : State) (code sev unit : Nat) (args : List Byte) : (s.raiseAt code sev unit args).hif.linkGen = s.hif.linkGen := by
  obtain ⟨_, _, _, _, _, h⟩ := State.raiseAt_eq s code sev unit args; rw [h]; rfl
@[simp] theorem State.raiseAt_hif_linkWidth (s : State) (code sev unit : Nat) (args : List Byte) : (s.raiseAt code sev unit args).hif.linkWidth = s.hif.linkWidth := by
  obtain ⟨_, _, _, _, _, h⟩ := State.raiseAt_eq s code sev unit args; rw [h]; rfl
@[simp] theorem State.raiseAt_hif_epoch (s : State) (code sev unit : Nat) (args : List Byte) : (s.raiseAt code sev unit args).hif.epoch = s.hif.epoch := by
  obtain ⟨_, _, _, _, _, h⟩ := State.raiseAt_eq s code sev unit args; rw [h]; rfl
@[simp] theorem State.raiseAt_hif_discard (s : State) (code sev unit : Nat) (args : List Byte) : (s.raiseAt code sev unit args).hif.discard = s.hif.discard := by
  obtain ⟨_, _, _, _, _, h⟩ := State.raiseAt_eq s code sev unit args; rw [h]; rfl
@[simp] theorem State.raiseAt_hif_nextId (s : State) (code sev unit : Nat) (args : List Byte) : (s.raiseAt code sev unit args).hif.nextId = s.hif.nextId := by
  obtain ⟨_, _, _, _, _, h⟩ := State.raiseAt_eq s code sev unit args; rw [h]; rfl
@[simp] theorem State.raiseAt_hif_nextStart (s : State) (code sev unit : Nat) (args : List Byte) : (s.raiseAt code sev unit args).hif.nextStart = s.hif.nextStart := by
  obtain ⟨_, _, _, _, _, h⟩ := State.raiseAt_eq s code sev unit args; rw [h]; rfl
@[simp] theorem State.raiseAt_hif_turn (s : State) (code sev unit : Nat) (args : List Byte) : (s.raiseAt code sev unit args).hif.turn = s.hif.turn := by
  obtain ⟨_, _, _, _, _, h⟩ := State.raiseAt_eq s code sev unit args; rw [h]; rfl
@[simp] theorem State.raiseAt_hif_msix (s : State) (code sev unit : Nat) (args : List Byte) : (s.raiseAt code sev unit args).hif.msix = s.hif.msix := by
  obtain ⟨_, _, _, _, _, h⟩ := State.raiseAt_eq s code sev unit args; rw [h]; rfl
@[simp] theorem State.raiseAt_hif_inflight (s : State) (code sev unit : Nat) (args : List Byte) : (s.raiseAt code sev unit args).hif.inflight = s.hif.inflight := by
  obtain ⟨_, _, _, _, _, h⟩ := State.raiseAt_eq s code sev unit args; rw [h]; rfl
@[simp] theorem State.raiseAt_hif_gone (s : State) (code sev unit : Nat) (args : List Byte) : (s.raiseAt code sev unit args).hif.gone = s.hif.gone := by
  obtain ⟨_, _, _, _, _, h⟩ := State.raiseAt_eq s code sev unit args; rw [h]; rfl
@[simp] theorem State.raiseAt_hif_rings (s : State) (code sev unit : Nat) (args : List Byte) : (s.raiseAt code sev unit args).hif.rings = s.hif.rings := by
  obtain ⟨_, _, _, _, _, h⟩ := State.raiseAt_eq s code sev unit args; rw [h]; rfl
@[simp] theorem State.raiseAt_hif_pba (s : State) (code sev unit : Nat) (args : List Byte) : (s.raiseAt code sev unit args).hif.pba = s.hif.pba := by
  obtain ⟨_, _, _, _, _, h⟩ := State.raiseAt_eq s code sev unit args; rw [h]; rfl

/-! raise -/

@[simp] theorem State.raise_outbox (s : State) (code unit : Nat) (args : List Byte) : (s.raise code unit args).outbox = s.outbox := by
  obtain ⟨_, _, _, _, _, h⟩ := State.raise_eq s code unit args; rw [h]; rfl
@[simp] theorem State.raise_tick (s : State) (code unit : Nat) (args : List Byte) : (s.raise code unit args).tick = s.tick := by
  obtain ⟨_, _, _, _, _, h⟩ := State.raise_eq s code unit args; rw [h]; rfl
@[simp] theorem State.raise_pending (s : State) (code unit : Nat) (args : List Byte) : (s.raise code unit args).pending = s.pending := by
  obtain ⟨_, _, _, _, _, h⟩ := State.raise_eq s code unit args; rw [h]; rfl
@[simp] theorem State.raise_free (s : State) (code unit : Nat) (args : List Byte) : (s.raise code unit args).free = s.free := by
  obtain ⟨_, _, _, _, _, h⟩ := State.raise_eq s code unit args; rw [h]; rfl
@[simp] theorem State.raise_sys (s : State) (code unit : Nat) (args : List Byte) : (s.raise code unit args).sys = s.sys := by
  obtain ⟨_, _, _, _, _, h⟩ := State.raise_eq s code unit args; rw [h]; rfl
@[simp] theorem State.raise_geo (s : State) (code unit : Nat) (args : List Byte) : (s.raise code unit args).geo = s.geo := by
  obtain ⟨_, _, _, _, _, h⟩ := State.raise_eq s code unit args; rw [h]; rfl
@[simp] theorem State.raise_pgq (s : State) (code unit : Nat) (args : List Byte) : (s.raise code unit args).pgq = s.pgq := by
  obtain ⟨_, _, _, _, _, h⟩ := State.raise_eq s code unit args; rw [h]; rfl
@[simp] theorem State.raise_dec (s : State) (code unit : Nat) (args : List Byte) : (s.raise code unit args).dec = s.dec := by
  obtain ⟨_, _, _, _, _, h⟩ := State.raise_eq s code unit args; rw [h]; rfl
@[simp] theorem State.raise_cmp (s : State) (code unit : Nat) (args : List Byte) : (s.raise code unit args).cmp = s.cmp := by
  obtain ⟨_, _, _, _, _, h⟩ := State.raise_eq s code unit args; rw [h]; rfl
@[simp] theorem State.raise_mal (s : State) (code unit : Nat) (args : List Byte) : (s.raise code unit args).mal = s.mal := by
  obtain ⟨_, _, _, _, _, h⟩ := State.raise_eq s code unit args; rw [h]; rfl
@[simp] theorem State.raise_sub (s : State) (code unit : Nat) (args : List Byte) : (s.raise code unit args).sub = s.sub := by
  obtain ⟨_, _, _, _, _, h⟩ := State.raise_eq s code unit args; rw [h]; rfl
@[simp] theorem State.raise_fir (s : State) (code unit : Nat) (args : List Byte) : (s.raise code unit args).fir = s.fir := by
  obtain ⟨_, _, _, _, _, h⟩ := State.raise_eq s code unit args; rw [h]; rfl
@[simp] theorem State.raise_snr (s : State) (code unit : Nat) (args : List Byte) : (s.raise code unit args).snr = s.snr := by
  obtain ⟨_, _, _, _, _, h⟩ := State.raise_eq s code unit args; rw [h]; rfl
@[simp] theorem State.raise_cam (s : State) (code unit : Nat) (args : List Byte) : (s.raise code unit args).cam = s.cam := by
  obtain ⟨_, _, _, _, _, h⟩ := State.raise_eq s code unit args; rw [h]; rfl
@[simp] theorem State.raise_stk (s : State) (code unit : Nat) (args : List Byte) : (s.raise code unit args).stk = s.stk := by
  obtain ⟨_, _, _, _, _, h⟩ := State.raise_eq s code unit args; rw [h]; rfl
@[simp] theorem State.raise_mot (s : State) (code unit : Nat) (args : List Byte) : (s.raise code unit args).mot = s.mot := by
  obtain ⟨_, _, _, _, _, h⟩ := State.raise_eq s code unit args; rw [h]; rfl
@[simp] theorem State.raise_enc (s : State) (code unit : Nat) (args : List Byte) : (s.raise code unit args).enc = s.enc := by
  obtain ⟨_, _, _, _, _, h⟩ := State.raise_eq s code unit args; rw [h]; rfl
@[simp] theorem State.raise_cle (s : State) (code unit : Nat) (args : List Byte) : (s.raise code unit args).cle = s.cle := by
  obtain ⟨_, _, _, _, _, h⟩ := State.raise_eq s code unit args; rw [h]; rfl
@[simp] theorem State.raise_led (s : State) (code unit : Nat) (args : List Byte) : (s.raise code unit args).led = s.led := by
  obtain ⟨_, _, _, _, _, h⟩ := State.raise_eq s code unit args; rw [h]; rfl
@[simp] theorem State.raise_tim (s : State) (code unit : Nat) (args : List Byte) : (s.raise code unit args).tim = s.tim := by
  obtain ⟨_, _, _, _, _, h⟩ := State.raise_eq s code unit args; rw [h]; rfl
@[simp] theorem State.raise_twn (s : State) (code unit : Nat) (args : List Byte) : (s.raise code unit args).twn = s.twn := by
  obtain ⟨_, _, _, _, _, h⟩ := State.raise_eq s code unit args; rw [h]; rfl
@[simp] theorem State.raise_rim (s : State) (code unit : Nat) (args : List Byte) : (s.raise code unit args).rim = s.rim := by
  obtain ⟨_, _, _, _, _, h⟩ := State.raise_eq s code unit args; rw [h]; rfl
@[simp] theorem State.raise_gng (s : State) (code unit : Nat) (args : List Byte) : (s.raise code unit args).gng = s.gng := by
  obtain ⟨_, _, _, _, _, h⟩ := State.raise_eq s code unit args; rw [h]; rfl
@[simp] theorem State.raise_gpio (s : State) (code unit : Nat) (args : List Byte) : (s.raise code unit args).gpio = s.gpio := by
  obtain ⟨_, _, _, _, _, h⟩ := State.raise_eq s code unit args; rw [h]; rfl
@[simp] theorem State.raise_i2c (s : State) (code unit : Nat) (args : List Byte) : (s.raise code unit args).i2c = s.i2c := by
  obtain ⟨_, _, _, _, _, h⟩ := State.raise_eq s code unit args; rw [h]; rfl
@[simp] theorem State.raise_copyOwn (s : State) (code unit : Nat) (args : List Byte) : (s.raise code unit args).copyOwn = s.copyOwn := by
  obtain ⟨_, _, _, _, _, h⟩ := State.raise_eq s code unit args; rw [h]; rfl
@[simp] theorem State.raise_copySince (s : State) (code unit : Nat) (args : List Byte) : (s.raise code unit args).copySince = s.copySince := by
  obtain ⟨_, _, _, _, _, h⟩ := State.raise_eq s code unit args; rw [h]; rfl
@[simp] theorem State.raise_dram (s : State) (code unit : Nat) (args : List Byte) : (s.raise code unit args).dram = s.dram := by
  obtain ⟨_, _, _, _, _, h⟩ := State.raise_eq s code unit args; rw [h]; rfl
@[simp] theorem State.raise_hif_turnTick (s : State) (code unit : Nat) (args : List Byte) : (s.raise code unit args).hif.turnTick = s.hif.turnTick := by
  obtain ⟨_, _, _, _, _, h⟩ := State.raise_eq s code unit args; rw [h]; rfl
@[simp] theorem State.raise_hif_refused (s : State) (code unit : Nat) (args : List Byte) : (s.raise code unit args).hif.refused = s.hif.refused := by
  obtain ⟨_, _, _, _, _, h⟩ := State.raise_eq s code unit args; rw [h]; rfl
@[simp] theorem State.raise_hif_ready (s : State) (code unit : Nat) (args : List Byte) : (s.raise code unit args).hif.ready = s.hif.ready := by
  obtain ⟨_, _, _, _, _, h⟩ := State.raise_eq s code unit args; rw [h]; rfl
@[simp] theorem State.raise_hif_timeB (s : State) (code unit : Nat) (args : List Byte) : (s.raise code unit args).hif.timeB = s.hif.timeB := by
  obtain ⟨_, _, _, _, _, h⟩ := State.raise_eq s code unit args; rw [h]; rfl
@[simp] theorem State.raise_hif_linkDown (s : State) (code unit : Nat) (args : List Byte) : (s.raise code unit args).hif.linkDown = s.hif.linkDown := by
  obtain ⟨_, _, _, _, _, h⟩ := State.raise_eq s code unit args; rw [h]; rfl
@[simp] theorem State.raise_hif_fwAuth (s : State) (code unit : Nat) (args : List Byte) : (s.raise code unit args).hif.fwAuth = s.hif.fwAuth := by
  obtain ⟨_, _, _, _, _, h⟩ := State.raise_eq s code unit args; rw [h]; rfl
@[simp] theorem State.raise_hif_fwFallback (s : State) (code unit : Nat) (args : List Byte) : (s.raise code unit args).hif.fwFallback = s.hif.fwFallback := by
  obtain ⟨_, _, _, _, _, h⟩ := State.raise_eq s code unit args; rw [h]; rfl
@[simp] theorem State.raise_hif_linkGen (s : State) (code unit : Nat) (args : List Byte) : (s.raise code unit args).hif.linkGen = s.hif.linkGen := by
  obtain ⟨_, _, _, _, _, h⟩ := State.raise_eq s code unit args; rw [h]; rfl
@[simp] theorem State.raise_hif_linkWidth (s : State) (code unit : Nat) (args : List Byte) : (s.raise code unit args).hif.linkWidth = s.hif.linkWidth := by
  obtain ⟨_, _, _, _, _, h⟩ := State.raise_eq s code unit args; rw [h]; rfl
@[simp] theorem State.raise_hif_epoch (s : State) (code unit : Nat) (args : List Byte) : (s.raise code unit args).hif.epoch = s.hif.epoch := by
  obtain ⟨_, _, _, _, _, h⟩ := State.raise_eq s code unit args; rw [h]; rfl
@[simp] theorem State.raise_hif_discard (s : State) (code unit : Nat) (args : List Byte) : (s.raise code unit args).hif.discard = s.hif.discard := by
  obtain ⟨_, _, _, _, _, h⟩ := State.raise_eq s code unit args; rw [h]; rfl
@[simp] theorem State.raise_hif_nextId (s : State) (code unit : Nat) (args : List Byte) : (s.raise code unit args).hif.nextId = s.hif.nextId := by
  obtain ⟨_, _, _, _, _, h⟩ := State.raise_eq s code unit args; rw [h]; rfl
@[simp] theorem State.raise_hif_nextStart (s : State) (code unit : Nat) (args : List Byte) : (s.raise code unit args).hif.nextStart = s.hif.nextStart := by
  obtain ⟨_, _, _, _, _, h⟩ := State.raise_eq s code unit args; rw [h]; rfl
@[simp] theorem State.raise_hif_turn (s : State) (code unit : Nat) (args : List Byte) : (s.raise code unit args).hif.turn = s.hif.turn := by
  obtain ⟨_, _, _, _, _, h⟩ := State.raise_eq s code unit args; rw [h]; rfl
@[simp] theorem State.raise_hif_msix (s : State) (code unit : Nat) (args : List Byte) : (s.raise code unit args).hif.msix = s.hif.msix := by
  obtain ⟨_, _, _, _, _, h⟩ := State.raise_eq s code unit args; rw [h]; rfl
@[simp] theorem State.raise_hif_inflight (s : State) (code unit : Nat) (args : List Byte) : (s.raise code unit args).hif.inflight = s.hif.inflight := by
  obtain ⟨_, _, _, _, _, h⟩ := State.raise_eq s code unit args; rw [h]; rfl
@[simp] theorem State.raise_hif_gone (s : State) (code unit : Nat) (args : List Byte) : (s.raise code unit args).hif.gone = s.hif.gone := by
  obtain ⟨_, _, _, _, _, h⟩ := State.raise_eq s code unit args; rw [h]; rfl
@[simp] theorem State.raise_hif_rings (s : State) (code unit : Nat) (args : List Byte) : (s.raise code unit args).hif.rings = s.hif.rings := by
  obtain ⟨_, _, _, _, _, h⟩ := State.raise_eq s code unit args; rw [h]; rfl
@[simp] theorem State.raise_hif_pba (s : State) (code unit : Nat) (args : List Byte) : (s.raise code unit args).hif.pba = s.hif.pba := by
  obtain ⟨_, _, _, _, _, h⟩ := State.raise_eq s code unit args; rw [h]; rfl

/-! dmaError -/

@[simp] theorem State.dmaError_outbox (s : State) (c : Cmd) (cause addr : Nat) : (s.dmaError c cause addr).outbox = s.outbox := by
  obtain ⟨_, _, _, _, _, h⟩ := State.dmaError_eq s c cause addr; obtain ⟨_, hr⟩ := State.reportRead_eq s cause; rw [h, hr]; rfl
@[simp] theorem State.dmaError_tick (s : State) (c : Cmd) (cause addr : Nat) : (s.dmaError c cause addr).tick = s.tick := by
  obtain ⟨_, _, _, _, _, h⟩ := State.dmaError_eq s c cause addr; obtain ⟨_, hr⟩ := State.reportRead_eq s cause; rw [h, hr]; rfl
@[simp] theorem State.dmaError_pending (s : State) (c : Cmd) (cause addr : Nat) : (s.dmaError c cause addr).pending = s.pending := by
  obtain ⟨_, _, _, _, _, h⟩ := State.dmaError_eq s c cause addr; obtain ⟨_, hr⟩ := State.reportRead_eq s cause; rw [h, hr]; rfl
@[simp] theorem State.dmaError_free (s : State) (c : Cmd) (cause addr : Nat) : (s.dmaError c cause addr).free = s.free := by
  obtain ⟨_, _, _, _, _, h⟩ := State.dmaError_eq s c cause addr; obtain ⟨_, hr⟩ := State.reportRead_eq s cause; rw [h, hr]; rfl
@[simp] theorem State.dmaError_sys (s : State) (c : Cmd) (cause addr : Nat) : (s.dmaError c cause addr).sys = s.sys := by
  obtain ⟨_, _, _, _, _, h⟩ := State.dmaError_eq s c cause addr; obtain ⟨_, hr⟩ := State.reportRead_eq s cause; rw [h, hr]; rfl
@[simp] theorem State.dmaError_geo (s : State) (c : Cmd) (cause addr : Nat) : (s.dmaError c cause addr).geo = s.geo := by
  obtain ⟨_, _, _, _, _, h⟩ := State.dmaError_eq s c cause addr; obtain ⟨_, hr⟩ := State.reportRead_eq s cause; rw [h, hr]; rfl
@[simp] theorem State.dmaError_pgq (s : State) (c : Cmd) (cause addr : Nat) : (s.dmaError c cause addr).pgq = s.pgq := by
  obtain ⟨_, _, _, _, _, h⟩ := State.dmaError_eq s c cause addr; obtain ⟨_, hr⟩ := State.reportRead_eq s cause; rw [h, hr]; rfl
@[simp] theorem State.dmaError_dec (s : State) (c : Cmd) (cause addr : Nat) : (s.dmaError c cause addr).dec = s.dec := by
  obtain ⟨_, _, _, _, _, h⟩ := State.dmaError_eq s c cause addr; obtain ⟨_, hr⟩ := State.reportRead_eq s cause; rw [h, hr]; rfl
@[simp] theorem State.dmaError_cmp (s : State) (c : Cmd) (cause addr : Nat) : (s.dmaError c cause addr).cmp = s.cmp := by
  obtain ⟨_, _, _, _, _, h⟩ := State.dmaError_eq s c cause addr; obtain ⟨_, hr⟩ := State.reportRead_eq s cause; rw [h, hr]; rfl
@[simp] theorem State.dmaError_mal (s : State) (c : Cmd) (cause addr : Nat) : (s.dmaError c cause addr).mal = s.mal := by
  obtain ⟨_, _, _, _, _, h⟩ := State.dmaError_eq s c cause addr; obtain ⟨_, hr⟩ := State.reportRead_eq s cause; rw [h, hr]; rfl
@[simp] theorem State.dmaError_sub (s : State) (c : Cmd) (cause addr : Nat) : (s.dmaError c cause addr).sub = s.sub := by
  obtain ⟨_, _, _, _, _, h⟩ := State.dmaError_eq s c cause addr; obtain ⟨_, hr⟩ := State.reportRead_eq s cause; rw [h, hr]; rfl
@[simp] theorem State.dmaError_fir (s : State) (c : Cmd) (cause addr : Nat) : (s.dmaError c cause addr).fir = s.fir := by
  obtain ⟨_, _, _, _, _, h⟩ := State.dmaError_eq s c cause addr; obtain ⟨_, hr⟩ := State.reportRead_eq s cause; rw [h, hr]; rfl
@[simp] theorem State.dmaError_snr (s : State) (c : Cmd) (cause addr : Nat) : (s.dmaError c cause addr).snr = s.snr := by
  obtain ⟨_, _, _, _, _, h⟩ := State.dmaError_eq s c cause addr; obtain ⟨_, hr⟩ := State.reportRead_eq s cause; rw [h, hr]; rfl
@[simp] theorem State.dmaError_cam (s : State) (c : Cmd) (cause addr : Nat) : (s.dmaError c cause addr).cam = s.cam := by
  obtain ⟨_, _, _, _, _, h⟩ := State.dmaError_eq s c cause addr; obtain ⟨_, hr⟩ := State.reportRead_eq s cause; rw [h, hr]; rfl
@[simp] theorem State.dmaError_stk (s : State) (c : Cmd) (cause addr : Nat) : (s.dmaError c cause addr).stk = s.stk := by
  obtain ⟨_, _, _, _, _, h⟩ := State.dmaError_eq s c cause addr; obtain ⟨_, hr⟩ := State.reportRead_eq s cause; rw [h, hr]; rfl
@[simp] theorem State.dmaError_mot (s : State) (c : Cmd) (cause addr : Nat) : (s.dmaError c cause addr).mot = s.mot := by
  obtain ⟨_, _, _, _, _, h⟩ := State.dmaError_eq s c cause addr; obtain ⟨_, hr⟩ := State.reportRead_eq s cause; rw [h, hr]; rfl
@[simp] theorem State.dmaError_enc (s : State) (c : Cmd) (cause addr : Nat) : (s.dmaError c cause addr).enc = s.enc := by
  obtain ⟨_, _, _, _, _, h⟩ := State.dmaError_eq s c cause addr; obtain ⟨_, hr⟩ := State.reportRead_eq s cause; rw [h, hr]; rfl
@[simp] theorem State.dmaError_cle (s : State) (c : Cmd) (cause addr : Nat) : (s.dmaError c cause addr).cle = s.cle := by
  obtain ⟨_, _, _, _, _, h⟩ := State.dmaError_eq s c cause addr; obtain ⟨_, hr⟩ := State.reportRead_eq s cause; rw [h, hr]; rfl
@[simp] theorem State.dmaError_led (s : State) (c : Cmd) (cause addr : Nat) : (s.dmaError c cause addr).led = s.led := by
  obtain ⟨_, _, _, _, _, h⟩ := State.dmaError_eq s c cause addr; obtain ⟨_, hr⟩ := State.reportRead_eq s cause; rw [h, hr]; rfl
@[simp] theorem State.dmaError_tim (s : State) (c : Cmd) (cause addr : Nat) : (s.dmaError c cause addr).tim = s.tim := by
  obtain ⟨_, _, _, _, _, h⟩ := State.dmaError_eq s c cause addr; obtain ⟨_, hr⟩ := State.reportRead_eq s cause; rw [h, hr]; rfl
@[simp] theorem State.dmaError_twn (s : State) (c : Cmd) (cause addr : Nat) : (s.dmaError c cause addr).twn = s.twn := by
  obtain ⟨_, _, _, _, _, h⟩ := State.dmaError_eq s c cause addr; obtain ⟨_, hr⟩ := State.reportRead_eq s cause; rw [h, hr]; rfl
@[simp] theorem State.dmaError_rim (s : State) (c : Cmd) (cause addr : Nat) : (s.dmaError c cause addr).rim = s.rim := by
  obtain ⟨_, _, _, _, _, h⟩ := State.dmaError_eq s c cause addr; obtain ⟨_, hr⟩ := State.reportRead_eq s cause; rw [h, hr]; rfl
@[simp] theorem State.dmaError_gng (s : State) (c : Cmd) (cause addr : Nat) : (s.dmaError c cause addr).gng = s.gng := by
  obtain ⟨_, _, _, _, _, h⟩ := State.dmaError_eq s c cause addr; obtain ⟨_, hr⟩ := State.reportRead_eq s cause; rw [h, hr]; rfl
@[simp] theorem State.dmaError_gpio (s : State) (c : Cmd) (cause addr : Nat) : (s.dmaError c cause addr).gpio = s.gpio := by
  obtain ⟨_, _, _, _, _, h⟩ := State.dmaError_eq s c cause addr; obtain ⟨_, hr⟩ := State.reportRead_eq s cause; rw [h, hr]; rfl
@[simp] theorem State.dmaError_i2c (s : State) (c : Cmd) (cause addr : Nat) : (s.dmaError c cause addr).i2c = s.i2c := by
  obtain ⟨_, _, _, _, _, h⟩ := State.dmaError_eq s c cause addr; obtain ⟨_, hr⟩ := State.reportRead_eq s cause; rw [h, hr]; rfl
@[simp] theorem State.dmaError_copyOwn (s : State) (c : Cmd) (cause addr : Nat) : (s.dmaError c cause addr).copyOwn = s.copyOwn := by
  obtain ⟨_, _, _, _, _, h⟩ := State.dmaError_eq s c cause addr; obtain ⟨_, hr⟩ := State.reportRead_eq s cause; rw [h, hr]; rfl
@[simp] theorem State.dmaError_copySince (s : State) (c : Cmd) (cause addr : Nat) : (s.dmaError c cause addr).copySince = s.copySince := by
  obtain ⟨_, _, _, _, _, h⟩ := State.dmaError_eq s c cause addr; obtain ⟨_, hr⟩ := State.reportRead_eq s cause; rw [h, hr]; rfl
@[simp] theorem State.dmaError_dram (s : State) (c : Cmd) (cause addr : Nat) : (s.dmaError c cause addr).dram = s.dram := by
  obtain ⟨_, _, _, _, _, h⟩ := State.dmaError_eq s c cause addr; obtain ⟨_, hr⟩ := State.reportRead_eq s cause; rw [h, hr]; rfl
@[simp] theorem State.dmaError_hif_ready (s : State) (c : Cmd) (cause addr : Nat) : (s.dmaError c cause addr).hif.ready = s.hif.ready := by
  obtain ⟨_, _, _, _, _, h⟩ := State.dmaError_eq s c cause addr; obtain ⟨_, hr⟩ := State.reportRead_eq s cause; rw [h, hr]; rfl
@[simp] theorem State.dmaError_hif_timeB (s : State) (c : Cmd) (cause addr : Nat) : (s.dmaError c cause addr).hif.timeB = s.hif.timeB := by
  obtain ⟨_, _, _, _, _, h⟩ := State.dmaError_eq s c cause addr; obtain ⟨_, hr⟩ := State.reportRead_eq s cause; rw [h, hr]; rfl
@[simp] theorem State.dmaError_hif_linkDown (s : State) (c : Cmd) (cause addr : Nat) : (s.dmaError c cause addr).hif.linkDown = s.hif.linkDown := by
  obtain ⟨_, _, _, _, _, h⟩ := State.dmaError_eq s c cause addr; obtain ⟨_, hr⟩ := State.reportRead_eq s cause; rw [h, hr]; rfl
@[simp] theorem State.dmaError_hif_inflight (s : State) (c : Cmd) (cause addr : Nat) : (s.dmaError c cause addr).hif.inflight = s.hif.inflight := by
  obtain ⟨_, _, _, _, _, h⟩ := State.dmaError_eq s c cause addr; obtain ⟨_, hr⟩ := State.reportRead_eq s cause; rw [h, hr]; rfl
@[simp] theorem State.dmaError_hif_rings (s : State) (c : Cmd) (cause addr : Nat) : (s.dmaError c cause addr).hif.rings = s.hif.rings := by
  obtain ⟨_, _, _, _, _, h⟩ := State.dmaError_eq s c cause addr; obtain ⟨_, hr⟩ := State.reportRead_eq s cause; rw [h, hr]; rfl

/-! writeResults -/

@[simp] theorem State.writeResults_outbox (s : State) (id : Option Nat) (addr : Nat) (bytes : List Byte) : (s.writeResults id addr bytes).outbox = s.outbox := by
  obtain ⟨_, _, _, _, _, h⟩ := State.writeResults_eq s id addr bytes; rw [h]; rfl
@[simp] theorem State.writeResults_tick (s : State) (id : Option Nat) (addr : Nat) (bytes : List Byte) : (s.writeResults id addr bytes).tick = s.tick := by
  obtain ⟨_, _, _, _, _, h⟩ := State.writeResults_eq s id addr bytes; rw [h]; rfl
@[simp] theorem State.writeResults_pending (s : State) (id : Option Nat) (addr : Nat) (bytes : List Byte) : (s.writeResults id addr bytes).pending = s.pending := by
  obtain ⟨_, _, _, _, _, h⟩ := State.writeResults_eq s id addr bytes; rw [h]; rfl
@[simp] theorem State.writeResults_free (s : State) (id : Option Nat) (addr : Nat) (bytes : List Byte) : (s.writeResults id addr bytes).free = s.free := by
  obtain ⟨_, _, _, _, _, h⟩ := State.writeResults_eq s id addr bytes; rw [h]; rfl
@[simp] theorem State.writeResults_sys (s : State) (id : Option Nat) (addr : Nat) (bytes : List Byte) : (s.writeResults id addr bytes).sys = s.sys := by
  obtain ⟨_, _, _, _, _, h⟩ := State.writeResults_eq s id addr bytes; rw [h]; rfl
@[simp] theorem State.writeResults_geo (s : State) (id : Option Nat) (addr : Nat) (bytes : List Byte) : (s.writeResults id addr bytes).geo = s.geo := by
  obtain ⟨_, _, _, _, _, h⟩ := State.writeResults_eq s id addr bytes; rw [h]; rfl
@[simp] theorem State.writeResults_pgq (s : State) (id : Option Nat) (addr : Nat) (bytes : List Byte) : (s.writeResults id addr bytes).pgq = s.pgq := by
  obtain ⟨_, _, _, _, _, h⟩ := State.writeResults_eq s id addr bytes; rw [h]; rfl
@[simp] theorem State.writeResults_dec (s : State) (id : Option Nat) (addr : Nat) (bytes : List Byte) : (s.writeResults id addr bytes).dec = s.dec := by
  obtain ⟨_, _, _, _, _, h⟩ := State.writeResults_eq s id addr bytes; rw [h]; rfl
@[simp] theorem State.writeResults_cmp (s : State) (id : Option Nat) (addr : Nat) (bytes : List Byte) : (s.writeResults id addr bytes).cmp = s.cmp := by
  obtain ⟨_, _, _, _, _, h⟩ := State.writeResults_eq s id addr bytes; rw [h]; rfl
@[simp] theorem State.writeResults_mal (s : State) (id : Option Nat) (addr : Nat) (bytes : List Byte) : (s.writeResults id addr bytes).mal = s.mal := by
  obtain ⟨_, _, _, _, _, h⟩ := State.writeResults_eq s id addr bytes; rw [h]; rfl
@[simp] theorem State.writeResults_sub (s : State) (id : Option Nat) (addr : Nat) (bytes : List Byte) : (s.writeResults id addr bytes).sub = s.sub := by
  obtain ⟨_, _, _, _, _, h⟩ := State.writeResults_eq s id addr bytes; rw [h]; rfl
@[simp] theorem State.writeResults_fir (s : State) (id : Option Nat) (addr : Nat) (bytes : List Byte) : (s.writeResults id addr bytes).fir = s.fir := by
  obtain ⟨_, _, _, _, _, h⟩ := State.writeResults_eq s id addr bytes; rw [h]; rfl
@[simp] theorem State.writeResults_snr (s : State) (id : Option Nat) (addr : Nat) (bytes : List Byte) : (s.writeResults id addr bytes).snr = s.snr := by
  obtain ⟨_, _, _, _, _, h⟩ := State.writeResults_eq s id addr bytes; rw [h]; rfl
@[simp] theorem State.writeResults_cam (s : State) (id : Option Nat) (addr : Nat) (bytes : List Byte) : (s.writeResults id addr bytes).cam = s.cam := by
  obtain ⟨_, _, _, _, _, h⟩ := State.writeResults_eq s id addr bytes; rw [h]; rfl
@[simp] theorem State.writeResults_stk (s : State) (id : Option Nat) (addr : Nat) (bytes : List Byte) : (s.writeResults id addr bytes).stk = s.stk := by
  obtain ⟨_, _, _, _, _, h⟩ := State.writeResults_eq s id addr bytes; rw [h]; rfl
@[simp] theorem State.writeResults_mot (s : State) (id : Option Nat) (addr : Nat) (bytes : List Byte) : (s.writeResults id addr bytes).mot = s.mot := by
  obtain ⟨_, _, _, _, _, h⟩ := State.writeResults_eq s id addr bytes; rw [h]; rfl
@[simp] theorem State.writeResults_enc (s : State) (id : Option Nat) (addr : Nat) (bytes : List Byte) : (s.writeResults id addr bytes).enc = s.enc := by
  obtain ⟨_, _, _, _, _, h⟩ := State.writeResults_eq s id addr bytes; rw [h]; rfl
@[simp] theorem State.writeResults_cle (s : State) (id : Option Nat) (addr : Nat) (bytes : List Byte) : (s.writeResults id addr bytes).cle = s.cle := by
  obtain ⟨_, _, _, _, _, h⟩ := State.writeResults_eq s id addr bytes; rw [h]; rfl
@[simp] theorem State.writeResults_led (s : State) (id : Option Nat) (addr : Nat) (bytes : List Byte) : (s.writeResults id addr bytes).led = s.led := by
  obtain ⟨_, _, _, _, _, h⟩ := State.writeResults_eq s id addr bytes; rw [h]; rfl
@[simp] theorem State.writeResults_tim (s : State) (id : Option Nat) (addr : Nat) (bytes : List Byte) : (s.writeResults id addr bytes).tim = s.tim := by
  obtain ⟨_, _, _, _, _, h⟩ := State.writeResults_eq s id addr bytes; rw [h]; rfl
@[simp] theorem State.writeResults_twn (s : State) (id : Option Nat) (addr : Nat) (bytes : List Byte) : (s.writeResults id addr bytes).twn = s.twn := by
  obtain ⟨_, _, _, _, _, h⟩ := State.writeResults_eq s id addr bytes; rw [h]; rfl
@[simp] theorem State.writeResults_rim (s : State) (id : Option Nat) (addr : Nat) (bytes : List Byte) : (s.writeResults id addr bytes).rim = s.rim := by
  obtain ⟨_, _, _, _, _, h⟩ := State.writeResults_eq s id addr bytes; rw [h]; rfl
@[simp] theorem State.writeResults_gng (s : State) (id : Option Nat) (addr : Nat) (bytes : List Byte) : (s.writeResults id addr bytes).gng = s.gng := by
  obtain ⟨_, _, _, _, _, h⟩ := State.writeResults_eq s id addr bytes; rw [h]; rfl
@[simp] theorem State.writeResults_gpio (s : State) (id : Option Nat) (addr : Nat) (bytes : List Byte) : (s.writeResults id addr bytes).gpio = s.gpio := by
  obtain ⟨_, _, _, _, _, h⟩ := State.writeResults_eq s id addr bytes; rw [h]; rfl
@[simp] theorem State.writeResults_i2c (s : State) (id : Option Nat) (addr : Nat) (bytes : List Byte) : (s.writeResults id addr bytes).i2c = s.i2c := by
  obtain ⟨_, _, _, _, _, h⟩ := State.writeResults_eq s id addr bytes; rw [h]; rfl
@[simp] theorem State.writeResults_copyOwn (s : State) (id : Option Nat) (addr : Nat) (bytes : List Byte) : (s.writeResults id addr bytes).copyOwn = s.copyOwn := by
  obtain ⟨_, _, _, _, _, h⟩ := State.writeResults_eq s id addr bytes; rw [h]; rfl
@[simp] theorem State.writeResults_copySince (s : State) (id : Option Nat) (addr : Nat) (bytes : List Byte) : (s.writeResults id addr bytes).copySince = s.copySince := by
  obtain ⟨_, _, _, _, _, h⟩ := State.writeResults_eq s id addr bytes; rw [h]; rfl
@[simp] theorem State.writeResults_dram (s : State) (id : Option Nat) (addr : Nat) (bytes : List Byte) : (s.writeResults id addr bytes).dram = s.dram := by
  obtain ⟨_, _, _, _, _, h⟩ := State.writeResults_eq s id addr bytes; rw [h]; rfl
@[simp] theorem State.writeResults_hif_ready (s : State) (id : Option Nat) (addr : Nat) (bytes : List Byte) : (s.writeResults id addr bytes).hif.ready = s.hif.ready := by
  obtain ⟨_, _, _, _, _, h⟩ := State.writeResults_eq s id addr bytes; rw [h]; rfl
@[simp] theorem State.writeResults_hif_timeB (s : State) (id : Option Nat) (addr : Nat) (bytes : List Byte) : (s.writeResults id addr bytes).hif.timeB = s.hif.timeB := by
  obtain ⟨_, _, _, _, _, h⟩ := State.writeResults_eq s id addr bytes; rw [h]; rfl
@[simp] theorem State.writeResults_hif_linkDown (s : State) (id : Option Nat) (addr : Nat) (bytes : List Byte) : (s.writeResults id addr bytes).hif.linkDown = s.hif.linkDown := by
  obtain ⟨_, _, _, _, _, h⟩ := State.writeResults_eq s id addr bytes; rw [h]; rfl
@[simp] theorem State.writeResults_hif_inflight (s : State) (id : Option Nat) (addr : Nat) (bytes : List Byte) : (s.writeResults id addr bytes).hif.inflight = s.hif.inflight := by
  obtain ⟨_, _, _, _, _, h⟩ := State.writeResults_eq s id addr bytes; rw [h]; rfl
@[simp] theorem State.writeResults_hif_rings (s : State) (id : Option Nat) (addr : Nat) (bytes : List Byte) : (s.writeResults id addr bytes).hif.rings = s.hif.rings := by
  obtain ⟨_, _, _, _, _, h⟩ := State.writeResults_eq s id addr bytes; rw [h]; rfl

/-! drainEvents -/

@[simp] theorem State.drainEvents_outbox (s : State)  : (s.drainEvents ).outbox = s.outbox := by
  obtain ⟨_, _, _, _, _, h⟩ := State.drainEvents_eq s; rw [h]; rfl
@[simp] theorem State.drainEvents_tick (s : State)  : (s.drainEvents ).tick = s.tick := by
  obtain ⟨_, _, _, _, _, h⟩ := State.drainEvents_eq s; rw [h]; rfl
@[simp] theorem State.drainEvents_pending (s : State)  : (s.drainEvents ).pending = s.pending := by
  obtain ⟨_, _, _, _, _, h⟩ := State.drainEvents_eq s; rw [h]; rfl
@[simp] theorem State.drainEvents_free (s : State)  : (s.drainEvents ).free = s.free := by
  obtain ⟨_, _, _, _, _, h⟩ := State.drainEvents_eq s; rw [h]; rfl
@[simp] theorem State.drainEvents_sys (s : State)  : (s.drainEvents ).sys = s.sys := by
  obtain ⟨_, _, _, _, _, h⟩ := State.drainEvents_eq s; rw [h]; rfl
@[simp] theorem State.drainEvents_geo (s : State)  : (s.drainEvents ).geo = s.geo := by
  obtain ⟨_, _, _, _, _, h⟩ := State.drainEvents_eq s; rw [h]; rfl
@[simp] theorem State.drainEvents_pgq (s : State)  : (s.drainEvents ).pgq = s.pgq := by
  obtain ⟨_, _, _, _, _, h⟩ := State.drainEvents_eq s; rw [h]; rfl
@[simp] theorem State.drainEvents_dec (s : State)  : (s.drainEvents ).dec = s.dec := by
  obtain ⟨_, _, _, _, _, h⟩ := State.drainEvents_eq s; rw [h]; rfl
@[simp] theorem State.drainEvents_cmp (s : State)  : (s.drainEvents ).cmp = s.cmp := by
  obtain ⟨_, _, _, _, _, h⟩ := State.drainEvents_eq s; rw [h]; rfl
@[simp] theorem State.drainEvents_mal (s : State)  : (s.drainEvents ).mal = s.mal := by
  obtain ⟨_, _, _, _, _, h⟩ := State.drainEvents_eq s; rw [h]; rfl
@[simp] theorem State.drainEvents_sub (s : State)  : (s.drainEvents ).sub = s.sub := by
  obtain ⟨_, _, _, _, _, h⟩ := State.drainEvents_eq s; rw [h]; rfl
@[simp] theorem State.drainEvents_fir (s : State)  : (s.drainEvents ).fir = s.fir := by
  obtain ⟨_, _, _, _, _, h⟩ := State.drainEvents_eq s; rw [h]; rfl
@[simp] theorem State.drainEvents_snr (s : State)  : (s.drainEvents ).snr = s.snr := by
  obtain ⟨_, _, _, _, _, h⟩ := State.drainEvents_eq s; rw [h]; rfl
@[simp] theorem State.drainEvents_cam (s : State)  : (s.drainEvents ).cam = s.cam := by
  obtain ⟨_, _, _, _, _, h⟩ := State.drainEvents_eq s; rw [h]; rfl
@[simp] theorem State.drainEvents_stk (s : State)  : (s.drainEvents ).stk = s.stk := by
  obtain ⟨_, _, _, _, _, h⟩ := State.drainEvents_eq s; rw [h]; rfl
@[simp] theorem State.drainEvents_mot (s : State)  : (s.drainEvents ).mot = s.mot := by
  obtain ⟨_, _, _, _, _, h⟩ := State.drainEvents_eq s; rw [h]; rfl
@[simp] theorem State.drainEvents_enc (s : State)  : (s.drainEvents ).enc = s.enc := by
  obtain ⟨_, _, _, _, _, h⟩ := State.drainEvents_eq s; rw [h]; rfl
@[simp] theorem State.drainEvents_cle (s : State)  : (s.drainEvents ).cle = s.cle := by
  obtain ⟨_, _, _, _, _, h⟩ := State.drainEvents_eq s; rw [h]; rfl
@[simp] theorem State.drainEvents_led (s : State)  : (s.drainEvents ).led = s.led := by
  obtain ⟨_, _, _, _, _, h⟩ := State.drainEvents_eq s; rw [h]; rfl
@[simp] theorem State.drainEvents_tim (s : State)  : (s.drainEvents ).tim = s.tim := by
  obtain ⟨_, _, _, _, _, h⟩ := State.drainEvents_eq s; rw [h]; rfl
@[simp] theorem State.drainEvents_twn (s : State)  : (s.drainEvents ).twn = s.twn := by
  obtain ⟨_, _, _, _, _, h⟩ := State.drainEvents_eq s; rw [h]; rfl
@[simp] theorem State.drainEvents_rim (s : State)  : (s.drainEvents ).rim = s.rim := by
  obtain ⟨_, _, _, _, _, h⟩ := State.drainEvents_eq s; rw [h]; rfl
@[simp] theorem State.drainEvents_gng (s : State)  : (s.drainEvents ).gng = s.gng := by
  obtain ⟨_, _, _, _, _, h⟩ := State.drainEvents_eq s; rw [h]; rfl
@[simp] theorem State.drainEvents_gpio (s : State)  : (s.drainEvents ).gpio = s.gpio := by
  obtain ⟨_, _, _, _, _, h⟩ := State.drainEvents_eq s; rw [h]; rfl
@[simp] theorem State.drainEvents_i2c (s : State)  : (s.drainEvents ).i2c = s.i2c := by
  obtain ⟨_, _, _, _, _, h⟩ := State.drainEvents_eq s; rw [h]; rfl
@[simp] theorem State.drainEvents_copyOwn (s : State)  : (s.drainEvents ).copyOwn = s.copyOwn := by
  obtain ⟨_, _, _, _, _, h⟩ := State.drainEvents_eq s; rw [h]; rfl
@[simp] theorem State.drainEvents_copySince (s : State)  : (s.drainEvents ).copySince = s.copySince := by
  obtain ⟨_, _, _, _, _, h⟩ := State.drainEvents_eq s; rw [h]; rfl
@[simp] theorem State.drainEvents_dram (s : State)  : (s.drainEvents ).dram = s.dram := by
  obtain ⟨_, _, _, _, _, h⟩ := State.drainEvents_eq s; rw [h]; rfl
@[simp] theorem State.drainEvents_hif_ready (s : State)  : (s.drainEvents ).hif.ready = s.hif.ready := by
  obtain ⟨_, _, _, _, _, h⟩ := State.drainEvents_eq s; rw [h]; rfl
@[simp] theorem State.drainEvents_hif_timeB (s : State)  : (s.drainEvents ).hif.timeB = s.hif.timeB := by
  obtain ⟨_, _, _, _, _, h⟩ := State.drainEvents_eq s; rw [h]; rfl
@[simp] theorem State.drainEvents_hif_linkDown (s : State)  : (s.drainEvents ).hif.linkDown = s.hif.linkDown := by
  obtain ⟨_, _, _, _, _, h⟩ := State.drainEvents_eq s; rw [h]; rfl
@[simp] theorem State.drainEvents_hif_inflight (s : State)  : (s.drainEvents ).hif.inflight = s.hif.inflight := by
  obtain ⟨_, _, _, _, _, h⟩ := State.drainEvents_eq s; rw [h]; rfl
@[simp] theorem State.drainEvents_hif_rings (s : State)  : (s.drainEvents ).hif.rings = s.hif.rings := by
  obtain ⟨_, _, _, _, _, h⟩ := State.drainEvents_eq s; rw [h]; rfl

/-! failRing -/

@[simp] theorem State.failRing_outbox (s : State) (r cause value index addr : Nat) : (s.failRing r cause value index addr).outbox = s.outbox := by
  obtain ⟨_, _, _, _, _, h⟩ := State.failRing_eq s r cause value index addr; rw [h]; rfl
@[simp] theorem State.failRing_tick (s : State) (r cause value index addr : Nat) : (s.failRing r cause value index addr).tick = s.tick := by
  obtain ⟨_, _, _, _, _, h⟩ := State.failRing_eq s r cause value index addr; rw [h]; rfl
@[simp] theorem State.failRing_pending (s : State) (r cause value index addr : Nat) : (s.failRing r cause value index addr).pending = s.pending := by
  obtain ⟨_, _, _, _, _, h⟩ := State.failRing_eq s r cause value index addr; rw [h]; rfl
@[simp] theorem State.failRing_free (s : State) (r cause value index addr : Nat) : (s.failRing r cause value index addr).free = s.free := by
  obtain ⟨_, _, _, _, _, h⟩ := State.failRing_eq s r cause value index addr; rw [h]; rfl
@[simp] theorem State.failRing_sys (s : State) (r cause value index addr : Nat) : (s.failRing r cause value index addr).sys = s.sys := by
  obtain ⟨_, _, _, _, _, h⟩ := State.failRing_eq s r cause value index addr; rw [h]; rfl
@[simp] theorem State.failRing_geo (s : State) (r cause value index addr : Nat) : (s.failRing r cause value index addr).geo = s.geo := by
  obtain ⟨_, _, _, _, _, h⟩ := State.failRing_eq s r cause value index addr; rw [h]; rfl
@[simp] theorem State.failRing_pgq (s : State) (r cause value index addr : Nat) : (s.failRing r cause value index addr).pgq = s.pgq := by
  obtain ⟨_, _, _, _, _, h⟩ := State.failRing_eq s r cause value index addr; rw [h]; rfl
@[simp] theorem State.failRing_dec (s : State) (r cause value index addr : Nat) : (s.failRing r cause value index addr).dec = s.dec := by
  obtain ⟨_, _, _, _, _, h⟩ := State.failRing_eq s r cause value index addr; rw [h]; rfl
@[simp] theorem State.failRing_cmp (s : State) (r cause value index addr : Nat) : (s.failRing r cause value index addr).cmp = s.cmp := by
  obtain ⟨_, _, _, _, _, h⟩ := State.failRing_eq s r cause value index addr; rw [h]; rfl
@[simp] theorem State.failRing_mal (s : State) (r cause value index addr : Nat) : (s.failRing r cause value index addr).mal = s.mal := by
  obtain ⟨_, _, _, _, _, h⟩ := State.failRing_eq s r cause value index addr; rw [h]; rfl
@[simp] theorem State.failRing_sub (s : State) (r cause value index addr : Nat) : (s.failRing r cause value index addr).sub = s.sub := by
  obtain ⟨_, _, _, _, _, h⟩ := State.failRing_eq s r cause value index addr; rw [h]; rfl
@[simp] theorem State.failRing_fir (s : State) (r cause value index addr : Nat) : (s.failRing r cause value index addr).fir = s.fir := by
  obtain ⟨_, _, _, _, _, h⟩ := State.failRing_eq s r cause value index addr; rw [h]; rfl
@[simp] theorem State.failRing_snr (s : State) (r cause value index addr : Nat) : (s.failRing r cause value index addr).snr = s.snr := by
  obtain ⟨_, _, _, _, _, h⟩ := State.failRing_eq s r cause value index addr; rw [h]; rfl
@[simp] theorem State.failRing_cam (s : State) (r cause value index addr : Nat) : (s.failRing r cause value index addr).cam = s.cam := by
  obtain ⟨_, _, _, _, _, h⟩ := State.failRing_eq s r cause value index addr; rw [h]; rfl
@[simp] theorem State.failRing_stk (s : State) (r cause value index addr : Nat) : (s.failRing r cause value index addr).stk = s.stk := by
  obtain ⟨_, _, _, _, _, h⟩ := State.failRing_eq s r cause value index addr; rw [h]; rfl
@[simp] theorem State.failRing_mot (s : State) (r cause value index addr : Nat) : (s.failRing r cause value index addr).mot = s.mot := by
  obtain ⟨_, _, _, _, _, h⟩ := State.failRing_eq s r cause value index addr; rw [h]; rfl
@[simp] theorem State.failRing_enc (s : State) (r cause value index addr : Nat) : (s.failRing r cause value index addr).enc = s.enc := by
  obtain ⟨_, _, _, _, _, h⟩ := State.failRing_eq s r cause value index addr; rw [h]; rfl
@[simp] theorem State.failRing_cle (s : State) (r cause value index addr : Nat) : (s.failRing r cause value index addr).cle = s.cle := by
  obtain ⟨_, _, _, _, _, h⟩ := State.failRing_eq s r cause value index addr; rw [h]; rfl
@[simp] theorem State.failRing_led (s : State) (r cause value index addr : Nat) : (s.failRing r cause value index addr).led = s.led := by
  obtain ⟨_, _, _, _, _, h⟩ := State.failRing_eq s r cause value index addr; rw [h]; rfl
@[simp] theorem State.failRing_tim (s : State) (r cause value index addr : Nat) : (s.failRing r cause value index addr).tim = s.tim := by
  obtain ⟨_, _, _, _, _, h⟩ := State.failRing_eq s r cause value index addr; rw [h]; rfl
@[simp] theorem State.failRing_twn (s : State) (r cause value index addr : Nat) : (s.failRing r cause value index addr).twn = s.twn := by
  obtain ⟨_, _, _, _, _, h⟩ := State.failRing_eq s r cause value index addr; rw [h]; rfl
@[simp] theorem State.failRing_rim (s : State) (r cause value index addr : Nat) : (s.failRing r cause value index addr).rim = s.rim := by
  obtain ⟨_, _, _, _, _, h⟩ := State.failRing_eq s r cause value index addr; rw [h]; rfl
@[simp] theorem State.failRing_gng (s : State) (r cause value index addr : Nat) : (s.failRing r cause value index addr).gng = s.gng := by
  obtain ⟨_, _, _, _, _, h⟩ := State.failRing_eq s r cause value index addr; rw [h]; rfl
@[simp] theorem State.failRing_gpio (s : State) (r cause value index addr : Nat) : (s.failRing r cause value index addr).gpio = s.gpio := by
  obtain ⟨_, _, _, _, _, h⟩ := State.failRing_eq s r cause value index addr; rw [h]; rfl
@[simp] theorem State.failRing_i2c (s : State) (r cause value index addr : Nat) : (s.failRing r cause value index addr).i2c = s.i2c := by
  obtain ⟨_, _, _, _, _, h⟩ := State.failRing_eq s r cause value index addr; rw [h]; rfl
@[simp] theorem State.failRing_copyOwn (s : State) (r cause value index addr : Nat) : (s.failRing r cause value index addr).copyOwn = s.copyOwn := by
  obtain ⟨_, _, _, _, _, h⟩ := State.failRing_eq s r cause value index addr; rw [h]; rfl
@[simp] theorem State.failRing_copySince (s : State) (r cause value index addr : Nat) : (s.failRing r cause value index addr).copySince = s.copySince := by
  obtain ⟨_, _, _, _, _, h⟩ := State.failRing_eq s r cause value index addr; rw [h]; rfl
@[simp] theorem State.failRing_dram (s : State) (r cause value index addr : Nat) : (s.failRing r cause value index addr).dram = s.dram := by
  obtain ⟨_, _, _, _, _, h⟩ := State.failRing_eq s r cause value index addr; rw [h]; rfl
@[simp] theorem State.failRing_hif_ready (s : State) (r cause value index addr : Nat) : (s.failRing r cause value index addr).hif.ready = s.hif.ready := by
  obtain ⟨_, _, _, _, _, h⟩ := State.failRing_eq s r cause value index addr; rw [h]; rfl
@[simp] theorem State.failRing_hif_timeB (s : State) (r cause value index addr : Nat) : (s.failRing r cause value index addr).hif.timeB = s.hif.timeB := by
  obtain ⟨_, _, _, _, _, h⟩ := State.failRing_eq s r cause value index addr; rw [h]; rfl
@[simp] theorem State.failRing_hif_linkDown (s : State) (r cause value index addr : Nat) : (s.failRing r cause value index addr).hif.linkDown = s.hif.linkDown := by
  obtain ⟨_, _, _, _, _, h⟩ := State.failRing_eq s r cause value index addr; rw [h]; rfl

/-! complete -/

@[simp] theorem State.complete_outbox (s : State) (id st : Nat) (res : List Byte) : (s.complete id st res).outbox = s.outbox := by
  rfl
@[simp] theorem State.complete_tick (s : State) (id st : Nat) (res : List Byte) : (s.complete id st res).tick = s.tick := by
  rfl
@[simp] theorem State.complete_pending (s : State) (id st : Nat) (res : List Byte) : (s.complete id st res).pending = s.pending := by
  rfl
@[simp] theorem State.complete_free (s : State) (id st : Nat) (res : List Byte) : (s.complete id st res).free = s.free := by
  rfl
@[simp] theorem State.complete_sys (s : State) (id st : Nat) (res : List Byte) : (s.complete id st res).sys = s.sys := by
  rfl
@[simp] theorem State.complete_geo (s : State) (id st : Nat) (res : List Byte) : (s.complete id st res).geo = s.geo := by
  rfl
@[simp] theorem State.complete_pgq (s : State) (id st : Nat) (res : List Byte) : (s.complete id st res).pgq = s.pgq := by
  rfl
@[simp] theorem State.complete_dec (s : State) (id st : Nat) (res : List Byte) : (s.complete id st res).dec = s.dec := by
  rfl
@[simp] theorem State.complete_cmp (s : State) (id st : Nat) (res : List Byte) : (s.complete id st res).cmp = s.cmp := by
  rfl
@[simp] theorem State.complete_mal (s : State) (id st : Nat) (res : List Byte) : (s.complete id st res).mal = s.mal := by
  rfl
@[simp] theorem State.complete_sub (s : State) (id st : Nat) (res : List Byte) : (s.complete id st res).sub = s.sub := by
  rfl
@[simp] theorem State.complete_fir (s : State) (id st : Nat) (res : List Byte) : (s.complete id st res).fir = s.fir := by
  rfl
@[simp] theorem State.complete_snr (s : State) (id st : Nat) (res : List Byte) : (s.complete id st res).snr = s.snr := by
  rfl
@[simp] theorem State.complete_cam (s : State) (id st : Nat) (res : List Byte) : (s.complete id st res).cam = s.cam := by
  rfl
@[simp] theorem State.complete_stk (s : State) (id st : Nat) (res : List Byte) : (s.complete id st res).stk = s.stk := by
  rfl
@[simp] theorem State.complete_mot (s : State) (id st : Nat) (res : List Byte) : (s.complete id st res).mot = s.mot := by
  rfl
@[simp] theorem State.complete_enc (s : State) (id st : Nat) (res : List Byte) : (s.complete id st res).enc = s.enc := by
  rfl
@[simp] theorem State.complete_cle (s : State) (id st : Nat) (res : List Byte) : (s.complete id st res).cle = s.cle := by
  rfl
@[simp] theorem State.complete_led (s : State) (id st : Nat) (res : List Byte) : (s.complete id st res).led = s.led := by
  rfl
@[simp] theorem State.complete_tim (s : State) (id st : Nat) (res : List Byte) : (s.complete id st res).tim = s.tim := by
  rfl
@[simp] theorem State.complete_twn (s : State) (id st : Nat) (res : List Byte) : (s.complete id st res).twn = s.twn := by
  rfl
@[simp] theorem State.complete_rim (s : State) (id st : Nat) (res : List Byte) : (s.complete id st res).rim = s.rim := by
  rfl
@[simp] theorem State.complete_gng (s : State) (id st : Nat) (res : List Byte) : (s.complete id st res).gng = s.gng := by
  rfl
@[simp] theorem State.complete_gpio (s : State) (id st : Nat) (res : List Byte) : (s.complete id st res).gpio = s.gpio := by
  rfl
@[simp] theorem State.complete_i2c (s : State) (id st : Nat) (res : List Byte) : (s.complete id st res).i2c = s.i2c := by
  rfl
@[simp] theorem State.complete_copyOwn (s : State) (id st : Nat) (res : List Byte) : (s.complete id st res).copyOwn = s.copyOwn := by
  rfl
@[simp] theorem State.complete_copySince (s : State) (id st : Nat) (res : List Byte) : (s.complete id st res).copySince = s.copySince := by
  rfl
@[simp] theorem State.complete_dram (s : State) (id st : Nat) (res : List Byte) : (s.complete id st res).dram = s.dram := by
  rfl
@[simp] theorem State.complete_evt (s : State) (id st : Nat) (res : List Byte) : (s.complete id st res).evt = s.evt := by
  rfl
@[simp] theorem State.complete_out (s : State) (id st : Nat) (res : List Byte) : (s.complete id st res).out = s.out := by
  rfl
@[simp] theorem State.complete_hif_eq (s : State) (id st : Nat) (res : List Byte) : (s.complete id st res).hif.eq = s.hif.eq := by
  rfl
@[simp] theorem State.complete_hif_pba (s : State) (id st : Nat) (res : List Byte) : (s.complete id st res).hif.pba = s.hif.pba := by
  rfl
@[simp] theorem State.complete_hif_rings (s : State) (id st : Nat) (res : List Byte) : (s.complete id st res).hif.rings = s.hif.rings := by
  rfl
@[simp] theorem State.complete_hif_failedWrites (s : State) (id st : Nat) (res : List Byte) : (s.complete id st res).hif.failedWrites = s.hif.failedWrites := by
  rfl
@[simp] theorem State.complete_hif_msixDue (s : State) (id st : Nat) (res : List Byte) : (s.complete id st res).hif.msixDue = s.hif.msixDue := by
  rfl
@[simp] theorem State.complete_hif_turnTick (s : State) (id st : Nat) (res : List Byte) : (s.complete id st res).hif.turnTick = s.hif.turnTick := by
  rfl
@[simp] theorem State.complete_hif_refused (s : State) (id st : Nat) (res : List Byte) : (s.complete id st res).hif.refused = s.hif.refused := by
  rfl
@[simp] theorem State.complete_hif_ready (s : State) (id st : Nat) (res : List Byte) : (s.complete id st res).hif.ready = s.hif.ready := by
  rfl
@[simp] theorem State.complete_hif_timeB (s : State) (id st : Nat) (res : List Byte) : (s.complete id st res).hif.timeB = s.hif.timeB := by
  rfl
@[simp] theorem State.complete_hif_linkDown (s : State) (id st : Nat) (res : List Byte) : (s.complete id st res).hif.linkDown = s.hif.linkDown := by
  rfl
@[simp] theorem State.complete_hif_fwAuth (s : State) (id st : Nat) (res : List Byte) : (s.complete id st res).hif.fwAuth = s.hif.fwAuth := by
  rfl
@[simp] theorem State.complete_hif_fwFallback (s : State) (id st : Nat) (res : List Byte) : (s.complete id st res).hif.fwFallback = s.hif.fwFallback := by
  rfl
@[simp] theorem State.complete_hif_linkGen (s : State) (id st : Nat) (res : List Byte) : (s.complete id st res).hif.linkGen = s.hif.linkGen := by
  rfl
@[simp] theorem State.complete_hif_linkWidth (s : State) (id st : Nat) (res : List Byte) : (s.complete id st res).hif.linkWidth = s.hif.linkWidth := by
  rfl
@[simp] theorem State.complete_hif_epoch (s : State) (id st : Nat) (res : List Byte) : (s.complete id st res).hif.epoch = s.hif.epoch := by
  rfl
@[simp] theorem State.complete_hif_discard (s : State) (id st : Nat) (res : List Byte) : (s.complete id st res).hif.discard = s.hif.discard := by
  rfl
@[simp] theorem State.complete_hif_nextId (s : State) (id st : Nat) (res : List Byte) : (s.complete id st res).hif.nextId = s.hif.nextId := by
  rfl
@[simp] theorem State.complete_hif_nextStart (s : State) (id st : Nat) (res : List Byte) : (s.complete id st res).hif.nextStart = s.hif.nextStart := by
  rfl
@[simp] theorem State.complete_hif_turn (s : State) (id st : Nat) (res : List Byte) : (s.complete id st res).hif.turn = s.hif.turn := by
  rfl
@[simp] theorem State.complete_hif_msix (s : State) (id st : Nat) (res : List Byte) : (s.complete id st res).hif.msix = s.hif.msix := by
  rfl

/-! completeOpt -/

@[simp] theorem State.completeOpt_outbox (s : State) (id : Option Nat) (st : Nat) (res : List Byte) : (s.completeOpt id st res).outbox = s.outbox := by
  obtain ⟨_, _, h⟩ := State.completeOpt_eq s id st res; rw [h]; rfl
@[simp] theorem State.completeOpt_tick (s : State) (id : Option Nat) (st : Nat) (res : List Byte) : (s.completeOpt id st res).tick = s.tick := by
  obtain ⟨_, _, h⟩ := State.completeOpt_eq s id st res; rw [h]; rfl
@[simp] theorem State.completeOpt_pending (s : State) (id : Option Nat) (st : Nat) (res : List Byte) : (s.completeOpt id st res).pending = s.pending := by
  obtain ⟨_, _, h⟩ := State.completeOpt_eq s id st res; rw [h]; rfl
@[simp] theorem State.completeOpt_free (s : State) (id : Option Nat) (st : Nat) (res : List Byte) : (s.completeOpt id st res).free = s.free := by
  obtain ⟨_, _, h⟩ := State.completeOpt_eq s id st res; rw [h]; rfl
@[simp] theorem State.completeOpt_sys (s : State) (id : Option Nat) (st : Nat) (res : List Byte) : (s.completeOpt id st res).sys = s.sys := by
  obtain ⟨_, _, h⟩ := State.completeOpt_eq s id st res; rw [h]; rfl
@[simp] theorem State.completeOpt_geo (s : State) (id : Option Nat) (st : Nat) (res : List Byte) : (s.completeOpt id st res).geo = s.geo := by
  obtain ⟨_, _, h⟩ := State.completeOpt_eq s id st res; rw [h]; rfl
@[simp] theorem State.completeOpt_pgq (s : State) (id : Option Nat) (st : Nat) (res : List Byte) : (s.completeOpt id st res).pgq = s.pgq := by
  obtain ⟨_, _, h⟩ := State.completeOpt_eq s id st res; rw [h]; rfl
@[simp] theorem State.completeOpt_dec (s : State) (id : Option Nat) (st : Nat) (res : List Byte) : (s.completeOpt id st res).dec = s.dec := by
  obtain ⟨_, _, h⟩ := State.completeOpt_eq s id st res; rw [h]; rfl
@[simp] theorem State.completeOpt_cmp (s : State) (id : Option Nat) (st : Nat) (res : List Byte) : (s.completeOpt id st res).cmp = s.cmp := by
  obtain ⟨_, _, h⟩ := State.completeOpt_eq s id st res; rw [h]; rfl
@[simp] theorem State.completeOpt_mal (s : State) (id : Option Nat) (st : Nat) (res : List Byte) : (s.completeOpt id st res).mal = s.mal := by
  obtain ⟨_, _, h⟩ := State.completeOpt_eq s id st res; rw [h]; rfl
@[simp] theorem State.completeOpt_sub (s : State) (id : Option Nat) (st : Nat) (res : List Byte) : (s.completeOpt id st res).sub = s.sub := by
  obtain ⟨_, _, h⟩ := State.completeOpt_eq s id st res; rw [h]; rfl
@[simp] theorem State.completeOpt_fir (s : State) (id : Option Nat) (st : Nat) (res : List Byte) : (s.completeOpt id st res).fir = s.fir := by
  obtain ⟨_, _, h⟩ := State.completeOpt_eq s id st res; rw [h]; rfl
@[simp] theorem State.completeOpt_snr (s : State) (id : Option Nat) (st : Nat) (res : List Byte) : (s.completeOpt id st res).snr = s.snr := by
  obtain ⟨_, _, h⟩ := State.completeOpt_eq s id st res; rw [h]; rfl
@[simp] theorem State.completeOpt_cam (s : State) (id : Option Nat) (st : Nat) (res : List Byte) : (s.completeOpt id st res).cam = s.cam := by
  obtain ⟨_, _, h⟩ := State.completeOpt_eq s id st res; rw [h]; rfl
@[simp] theorem State.completeOpt_stk (s : State) (id : Option Nat) (st : Nat) (res : List Byte) : (s.completeOpt id st res).stk = s.stk := by
  obtain ⟨_, _, h⟩ := State.completeOpt_eq s id st res; rw [h]; rfl
@[simp] theorem State.completeOpt_mot (s : State) (id : Option Nat) (st : Nat) (res : List Byte) : (s.completeOpt id st res).mot = s.mot := by
  obtain ⟨_, _, h⟩ := State.completeOpt_eq s id st res; rw [h]; rfl
@[simp] theorem State.completeOpt_enc (s : State) (id : Option Nat) (st : Nat) (res : List Byte) : (s.completeOpt id st res).enc = s.enc := by
  obtain ⟨_, _, h⟩ := State.completeOpt_eq s id st res; rw [h]; rfl
@[simp] theorem State.completeOpt_cle (s : State) (id : Option Nat) (st : Nat) (res : List Byte) : (s.completeOpt id st res).cle = s.cle := by
  obtain ⟨_, _, h⟩ := State.completeOpt_eq s id st res; rw [h]; rfl
@[simp] theorem State.completeOpt_led (s : State) (id : Option Nat) (st : Nat) (res : List Byte) : (s.completeOpt id st res).led = s.led := by
  obtain ⟨_, _, h⟩ := State.completeOpt_eq s id st res; rw [h]; rfl
@[simp] theorem State.completeOpt_tim (s : State) (id : Option Nat) (st : Nat) (res : List Byte) : (s.completeOpt id st res).tim = s.tim := by
  obtain ⟨_, _, h⟩ := State.completeOpt_eq s id st res; rw [h]; rfl
@[simp] theorem State.completeOpt_twn (s : State) (id : Option Nat) (st : Nat) (res : List Byte) : (s.completeOpt id st res).twn = s.twn := by
  obtain ⟨_, _, h⟩ := State.completeOpt_eq s id st res; rw [h]; rfl
@[simp] theorem State.completeOpt_rim (s : State) (id : Option Nat) (st : Nat) (res : List Byte) : (s.completeOpt id st res).rim = s.rim := by
  obtain ⟨_, _, h⟩ := State.completeOpt_eq s id st res; rw [h]; rfl
@[simp] theorem State.completeOpt_gng (s : State) (id : Option Nat) (st : Nat) (res : List Byte) : (s.completeOpt id st res).gng = s.gng := by
  obtain ⟨_, _, h⟩ := State.completeOpt_eq s id st res; rw [h]; rfl
@[simp] theorem State.completeOpt_gpio (s : State) (id : Option Nat) (st : Nat) (res : List Byte) : (s.completeOpt id st res).gpio = s.gpio := by
  obtain ⟨_, _, h⟩ := State.completeOpt_eq s id st res; rw [h]; rfl
@[simp] theorem State.completeOpt_i2c (s : State) (id : Option Nat) (st : Nat) (res : List Byte) : (s.completeOpt id st res).i2c = s.i2c := by
  obtain ⟨_, _, h⟩ := State.completeOpt_eq s id st res; rw [h]; rfl
@[simp] theorem State.completeOpt_copyOwn (s : State) (id : Option Nat) (st : Nat) (res : List Byte) : (s.completeOpt id st res).copyOwn = s.copyOwn := by
  obtain ⟨_, _, h⟩ := State.completeOpt_eq s id st res; rw [h]; rfl
@[simp] theorem State.completeOpt_copySince (s : State) (id : Option Nat) (st : Nat) (res : List Byte) : (s.completeOpt id st res).copySince = s.copySince := by
  obtain ⟨_, _, h⟩ := State.completeOpt_eq s id st res; rw [h]; rfl
@[simp] theorem State.completeOpt_dram (s : State) (id : Option Nat) (st : Nat) (res : List Byte) : (s.completeOpt id st res).dram = s.dram := by
  obtain ⟨_, _, h⟩ := State.completeOpt_eq s id st res; rw [h]; rfl
@[simp] theorem State.completeOpt_evt (s : State) (id : Option Nat) (st : Nat) (res : List Byte) : (s.completeOpt id st res).evt = s.evt := by
  obtain ⟨_, _, h⟩ := State.completeOpt_eq s id st res; rw [h]; rfl
@[simp] theorem State.completeOpt_out (s : State) (id : Option Nat) (st : Nat) (res : List Byte) : (s.completeOpt id st res).out = s.out := by
  obtain ⟨_, _, h⟩ := State.completeOpt_eq s id st res; rw [h]; rfl

/-! completeAll -/

@[simp] theorem State.completeAll_outbox (s : State) (l : List (Nat × Nat × List Byte)) : (s.completeAll l).outbox = s.outbox := by
  obtain ⟨_, _, h⟩ := State.completeAll_eq l s; rw [h]; rfl
@[simp] theorem State.completeAll_tick (s : State) (l : List (Nat × Nat × List Byte)) : (s.completeAll l).tick = s.tick := by
  obtain ⟨_, _, h⟩ := State.completeAll_eq l s; rw [h]; rfl
@[simp] theorem State.completeAll_pending (s : State) (l : List (Nat × Nat × List Byte)) : (s.completeAll l).pending = s.pending := by
  obtain ⟨_, _, h⟩ := State.completeAll_eq l s; rw [h]; rfl
@[simp] theorem State.completeAll_free (s : State) (l : List (Nat × Nat × List Byte)) : (s.completeAll l).free = s.free := by
  obtain ⟨_, _, h⟩ := State.completeAll_eq l s; rw [h]; rfl
@[simp] theorem State.completeAll_sys (s : State) (l : List (Nat × Nat × List Byte)) : (s.completeAll l).sys = s.sys := by
  obtain ⟨_, _, h⟩ := State.completeAll_eq l s; rw [h]; rfl
@[simp] theorem State.completeAll_geo (s : State) (l : List (Nat × Nat × List Byte)) : (s.completeAll l).geo = s.geo := by
  obtain ⟨_, _, h⟩ := State.completeAll_eq l s; rw [h]; rfl
@[simp] theorem State.completeAll_pgq (s : State) (l : List (Nat × Nat × List Byte)) : (s.completeAll l).pgq = s.pgq := by
  obtain ⟨_, _, h⟩ := State.completeAll_eq l s; rw [h]; rfl
@[simp] theorem State.completeAll_dec (s : State) (l : List (Nat × Nat × List Byte)) : (s.completeAll l).dec = s.dec := by
  obtain ⟨_, _, h⟩ := State.completeAll_eq l s; rw [h]; rfl
@[simp] theorem State.completeAll_cmp (s : State) (l : List (Nat × Nat × List Byte)) : (s.completeAll l).cmp = s.cmp := by
  obtain ⟨_, _, h⟩ := State.completeAll_eq l s; rw [h]; rfl
@[simp] theorem State.completeAll_mal (s : State) (l : List (Nat × Nat × List Byte)) : (s.completeAll l).mal = s.mal := by
  obtain ⟨_, _, h⟩ := State.completeAll_eq l s; rw [h]; rfl
@[simp] theorem State.completeAll_sub (s : State) (l : List (Nat × Nat × List Byte)) : (s.completeAll l).sub = s.sub := by
  obtain ⟨_, _, h⟩ := State.completeAll_eq l s; rw [h]; rfl
@[simp] theorem State.completeAll_fir (s : State) (l : List (Nat × Nat × List Byte)) : (s.completeAll l).fir = s.fir := by
  obtain ⟨_, _, h⟩ := State.completeAll_eq l s; rw [h]; rfl
@[simp] theorem State.completeAll_snr (s : State) (l : List (Nat × Nat × List Byte)) : (s.completeAll l).snr = s.snr := by
  obtain ⟨_, _, h⟩ := State.completeAll_eq l s; rw [h]; rfl
@[simp] theorem State.completeAll_cam (s : State) (l : List (Nat × Nat × List Byte)) : (s.completeAll l).cam = s.cam := by
  obtain ⟨_, _, h⟩ := State.completeAll_eq l s; rw [h]; rfl
@[simp] theorem State.completeAll_stk (s : State) (l : List (Nat × Nat × List Byte)) : (s.completeAll l).stk = s.stk := by
  obtain ⟨_, _, h⟩ := State.completeAll_eq l s; rw [h]; rfl
@[simp] theorem State.completeAll_mot (s : State) (l : List (Nat × Nat × List Byte)) : (s.completeAll l).mot = s.mot := by
  obtain ⟨_, _, h⟩ := State.completeAll_eq l s; rw [h]; rfl
@[simp] theorem State.completeAll_enc (s : State) (l : List (Nat × Nat × List Byte)) : (s.completeAll l).enc = s.enc := by
  obtain ⟨_, _, h⟩ := State.completeAll_eq l s; rw [h]; rfl
@[simp] theorem State.completeAll_cle (s : State) (l : List (Nat × Nat × List Byte)) : (s.completeAll l).cle = s.cle := by
  obtain ⟨_, _, h⟩ := State.completeAll_eq l s; rw [h]; rfl
@[simp] theorem State.completeAll_led (s : State) (l : List (Nat × Nat × List Byte)) : (s.completeAll l).led = s.led := by
  obtain ⟨_, _, h⟩ := State.completeAll_eq l s; rw [h]; rfl
@[simp] theorem State.completeAll_tim (s : State) (l : List (Nat × Nat × List Byte)) : (s.completeAll l).tim = s.tim := by
  obtain ⟨_, _, h⟩ := State.completeAll_eq l s; rw [h]; rfl
@[simp] theorem State.completeAll_twn (s : State) (l : List (Nat × Nat × List Byte)) : (s.completeAll l).twn = s.twn := by
  obtain ⟨_, _, h⟩ := State.completeAll_eq l s; rw [h]; rfl
@[simp] theorem State.completeAll_rim (s : State) (l : List (Nat × Nat × List Byte)) : (s.completeAll l).rim = s.rim := by
  obtain ⟨_, _, h⟩ := State.completeAll_eq l s; rw [h]; rfl
@[simp] theorem State.completeAll_gng (s : State) (l : List (Nat × Nat × List Byte)) : (s.completeAll l).gng = s.gng := by
  obtain ⟨_, _, h⟩ := State.completeAll_eq l s; rw [h]; rfl
@[simp] theorem State.completeAll_gpio (s : State) (l : List (Nat × Nat × List Byte)) : (s.completeAll l).gpio = s.gpio := by
  obtain ⟨_, _, h⟩ := State.completeAll_eq l s; rw [h]; rfl
@[simp] theorem State.completeAll_i2c (s : State) (l : List (Nat × Nat × List Byte)) : (s.completeAll l).i2c = s.i2c := by
  obtain ⟨_, _, h⟩ := State.completeAll_eq l s; rw [h]; rfl
@[simp] theorem State.completeAll_copyOwn (s : State) (l : List (Nat × Nat × List Byte)) : (s.completeAll l).copyOwn = s.copyOwn := by
  obtain ⟨_, _, h⟩ := State.completeAll_eq l s; rw [h]; rfl
@[simp] theorem State.completeAll_copySince (s : State) (l : List (Nat × Nat × List Byte)) : (s.completeAll l).copySince = s.copySince := by
  obtain ⟨_, _, h⟩ := State.completeAll_eq l s; rw [h]; rfl
@[simp] theorem State.completeAll_dram (s : State) (l : List (Nat × Nat × List Byte)) : (s.completeAll l).dram = s.dram := by
  obtain ⟨_, _, h⟩ := State.completeAll_eq l s; rw [h]; rfl
@[simp] theorem State.completeAll_evt (s : State) (l : List (Nat × Nat × List Byte)) : (s.completeAll l).evt = s.evt := by
  obtain ⟨_, _, h⟩ := State.completeAll_eq l s; rw [h]; rfl
@[simp] theorem State.completeAll_out (s : State) (l : List (Nat × Nat × List Byte)) : (s.completeAll l).out = s.out := by
  obtain ⟨_, _, h⟩ := State.completeAll_eq l s; rw [h]; rfl

/-! sendTwin -/

@[simp] theorem State.sendTwin_tick (s : State) (r : TwinRec) : (s.sendTwin r).tick = s.tick := by
  obtain ⟨_, h⟩ := State.sendTwin_eq s r; rw [h]
@[simp] theorem State.sendTwin_pending (s : State) (r : TwinRec) : (s.sendTwin r).pending = s.pending := by
  obtain ⟨_, h⟩ := State.sendTwin_eq s r; rw [h]
@[simp] theorem State.sendTwin_free (s : State) (r : TwinRec) : (s.sendTwin r).free = s.free := by
  obtain ⟨_, h⟩ := State.sendTwin_eq s r; rw [h]
@[simp] theorem State.sendTwin_sys (s : State) (r : TwinRec) : (s.sendTwin r).sys = s.sys := by
  obtain ⟨_, h⟩ := State.sendTwin_eq s r; rw [h]
@[simp] theorem State.sendTwin_geo (s : State) (r : TwinRec) : (s.sendTwin r).geo = s.geo := by
  obtain ⟨_, h⟩ := State.sendTwin_eq s r; rw [h]
@[simp] theorem State.sendTwin_pgq (s : State) (r : TwinRec) : (s.sendTwin r).pgq = s.pgq := by
  obtain ⟨_, h⟩ := State.sendTwin_eq s r; rw [h]
@[simp] theorem State.sendTwin_dec (s : State) (r : TwinRec) : (s.sendTwin r).dec = s.dec := by
  obtain ⟨_, h⟩ := State.sendTwin_eq s r; rw [h]
@[simp] theorem State.sendTwin_cmp (s : State) (r : TwinRec) : (s.sendTwin r).cmp = s.cmp := by
  obtain ⟨_, h⟩ := State.sendTwin_eq s r; rw [h]
@[simp] theorem State.sendTwin_mal (s : State) (r : TwinRec) : (s.sendTwin r).mal = s.mal := by
  obtain ⟨_, h⟩ := State.sendTwin_eq s r; rw [h]
@[simp] theorem State.sendTwin_sub (s : State) (r : TwinRec) : (s.sendTwin r).sub = s.sub := by
  obtain ⟨_, h⟩ := State.sendTwin_eq s r; rw [h]
@[simp] theorem State.sendTwin_fir (s : State) (r : TwinRec) : (s.sendTwin r).fir = s.fir := by
  obtain ⟨_, h⟩ := State.sendTwin_eq s r; rw [h]
@[simp] theorem State.sendTwin_snr (s : State) (r : TwinRec) : (s.sendTwin r).snr = s.snr := by
  obtain ⟨_, h⟩ := State.sendTwin_eq s r; rw [h]
@[simp] theorem State.sendTwin_cam (s : State) (r : TwinRec) : (s.sendTwin r).cam = s.cam := by
  obtain ⟨_, h⟩ := State.sendTwin_eq s r; rw [h]
@[simp] theorem State.sendTwin_stk (s : State) (r : TwinRec) : (s.sendTwin r).stk = s.stk := by
  obtain ⟨_, h⟩ := State.sendTwin_eq s r; rw [h]
@[simp] theorem State.sendTwin_mot (s : State) (r : TwinRec) : (s.sendTwin r).mot = s.mot := by
  obtain ⟨_, h⟩ := State.sendTwin_eq s r; rw [h]
@[simp] theorem State.sendTwin_enc (s : State) (r : TwinRec) : (s.sendTwin r).enc = s.enc := by
  obtain ⟨_, h⟩ := State.sendTwin_eq s r; rw [h]
@[simp] theorem State.sendTwin_cle (s : State) (r : TwinRec) : (s.sendTwin r).cle = s.cle := by
  obtain ⟨_, h⟩ := State.sendTwin_eq s r; rw [h]
@[simp] theorem State.sendTwin_led (s : State) (r : TwinRec) : (s.sendTwin r).led = s.led := by
  obtain ⟨_, h⟩ := State.sendTwin_eq s r; rw [h]
@[simp] theorem State.sendTwin_tim (s : State) (r : TwinRec) : (s.sendTwin r).tim = s.tim := by
  obtain ⟨_, h⟩ := State.sendTwin_eq s r; rw [h]
@[simp] theorem State.sendTwin_twn (s : State) (r : TwinRec) : (s.sendTwin r).twn = s.twn := by
  obtain ⟨_, h⟩ := State.sendTwin_eq s r; rw [h]
@[simp] theorem State.sendTwin_rim (s : State) (r : TwinRec) : (s.sendTwin r).rim = s.rim := by
  obtain ⟨_, h⟩ := State.sendTwin_eq s r; rw [h]
@[simp] theorem State.sendTwin_gng (s : State) (r : TwinRec) : (s.sendTwin r).gng = s.gng := by
  obtain ⟨_, h⟩ := State.sendTwin_eq s r; rw [h]
@[simp] theorem State.sendTwin_gpio (s : State) (r : TwinRec) : (s.sendTwin r).gpio = s.gpio := by
  obtain ⟨_, h⟩ := State.sendTwin_eq s r; rw [h]
@[simp] theorem State.sendTwin_i2c (s : State) (r : TwinRec) : (s.sendTwin r).i2c = s.i2c := by
  obtain ⟨_, h⟩ := State.sendTwin_eq s r; rw [h]
@[simp] theorem State.sendTwin_copyOwn (s : State) (r : TwinRec) : (s.sendTwin r).copyOwn = s.copyOwn := by
  obtain ⟨_, h⟩ := State.sendTwin_eq s r; rw [h]
@[simp] theorem State.sendTwin_copySince (s : State) (r : TwinRec) : (s.sendTwin r).copySince = s.copySince := by
  obtain ⟨_, h⟩ := State.sendTwin_eq s r; rw [h]
@[simp] theorem State.sendTwin_dram (s : State) (r : TwinRec) : (s.sendTwin r).dram = s.dram := by
  obtain ⟨_, h⟩ := State.sendTwin_eq s r; rw [h]
@[simp] theorem State.sendTwin_evt (s : State) (r : TwinRec) : (s.sendTwin r).evt = s.evt := by
  obtain ⟨_, h⟩ := State.sendTwin_eq s r; rw [h]
@[simp] theorem State.sendTwin_hif (s : State) (r : TwinRec) : (s.sendTwin r).hif = s.hif := by
  obtain ⟨_, h⟩ := State.sendTwin_eq s r; rw [h]
@[simp] theorem State.sendTwin_out (s : State) (r : TwinRec) : (s.sendTwin r).out = s.out := by
  obtain ⟨_, h⟩ := State.sendTwin_eq s r; rw [h]

/-! setPhase -/

@[simp] theorem State.setPhase_outbox (s : State) (id : Nat) (p : CmdPhase) : (s.setPhase id p).outbox = s.outbox := by
  rfl
@[simp] theorem State.setPhase_tick (s : State) (id : Nat) (p : CmdPhase) : (s.setPhase id p).tick = s.tick := by
  rfl
@[simp] theorem State.setPhase_pending (s : State) (id : Nat) (p : CmdPhase) : (s.setPhase id p).pending = s.pending := by
  rfl
@[simp] theorem State.setPhase_free (s : State) (id : Nat) (p : CmdPhase) : (s.setPhase id p).free = s.free := by
  rfl
@[simp] theorem State.setPhase_sys (s : State) (id : Nat) (p : CmdPhase) : (s.setPhase id p).sys = s.sys := by
  rfl
@[simp] theorem State.setPhase_geo (s : State) (id : Nat) (p : CmdPhase) : (s.setPhase id p).geo = s.geo := by
  rfl
@[simp] theorem State.setPhase_pgq (s : State) (id : Nat) (p : CmdPhase) : (s.setPhase id p).pgq = s.pgq := by
  rfl
@[simp] theorem State.setPhase_dec (s : State) (id : Nat) (p : CmdPhase) : (s.setPhase id p).dec = s.dec := by
  rfl
@[simp] theorem State.setPhase_cmp (s : State) (id : Nat) (p : CmdPhase) : (s.setPhase id p).cmp = s.cmp := by
  rfl
@[simp] theorem State.setPhase_mal (s : State) (id : Nat) (p : CmdPhase) : (s.setPhase id p).mal = s.mal := by
  rfl
@[simp] theorem State.setPhase_sub (s : State) (id : Nat) (p : CmdPhase) : (s.setPhase id p).sub = s.sub := by
  rfl
@[simp] theorem State.setPhase_fir (s : State) (id : Nat) (p : CmdPhase) : (s.setPhase id p).fir = s.fir := by
  rfl
@[simp] theorem State.setPhase_snr (s : State) (id : Nat) (p : CmdPhase) : (s.setPhase id p).snr = s.snr := by
  rfl
@[simp] theorem State.setPhase_cam (s : State) (id : Nat) (p : CmdPhase) : (s.setPhase id p).cam = s.cam := by
  rfl
@[simp] theorem State.setPhase_stk (s : State) (id : Nat) (p : CmdPhase) : (s.setPhase id p).stk = s.stk := by
  rfl
@[simp] theorem State.setPhase_mot (s : State) (id : Nat) (p : CmdPhase) : (s.setPhase id p).mot = s.mot := by
  rfl
@[simp] theorem State.setPhase_enc (s : State) (id : Nat) (p : CmdPhase) : (s.setPhase id p).enc = s.enc := by
  rfl
@[simp] theorem State.setPhase_cle (s : State) (id : Nat) (p : CmdPhase) : (s.setPhase id p).cle = s.cle := by
  rfl
@[simp] theorem State.setPhase_led (s : State) (id : Nat) (p : CmdPhase) : (s.setPhase id p).led = s.led := by
  rfl
@[simp] theorem State.setPhase_tim (s : State) (id : Nat) (p : CmdPhase) : (s.setPhase id p).tim = s.tim := by
  rfl
@[simp] theorem State.setPhase_twn (s : State) (id : Nat) (p : CmdPhase) : (s.setPhase id p).twn = s.twn := by
  rfl
@[simp] theorem State.setPhase_rim (s : State) (id : Nat) (p : CmdPhase) : (s.setPhase id p).rim = s.rim := by
  rfl
@[simp] theorem State.setPhase_gng (s : State) (id : Nat) (p : CmdPhase) : (s.setPhase id p).gng = s.gng := by
  rfl
@[simp] theorem State.setPhase_gpio (s : State) (id : Nat) (p : CmdPhase) : (s.setPhase id p).gpio = s.gpio := by
  rfl
@[simp] theorem State.setPhase_i2c (s : State) (id : Nat) (p : CmdPhase) : (s.setPhase id p).i2c = s.i2c := by
  rfl
@[simp] theorem State.setPhase_copyOwn (s : State) (id : Nat) (p : CmdPhase) : (s.setPhase id p).copyOwn = s.copyOwn := by
  rfl
@[simp] theorem State.setPhase_copySince (s : State) (id : Nat) (p : CmdPhase) : (s.setPhase id p).copySince = s.copySince := by
  rfl
@[simp] theorem State.setPhase_dram (s : State) (id : Nat) (p : CmdPhase) : (s.setPhase id p).dram = s.dram := by
  rfl
@[simp] theorem State.setPhase_evt (s : State) (id : Nat) (p : CmdPhase) : (s.setPhase id p).evt = s.evt := by
  rfl
@[simp] theorem State.setPhase_hif_ready (s : State) (id : Nat) (p : CmdPhase) : (s.setPhase id p).hif.ready = s.hif.ready := by
  rfl
@[simp] theorem State.setPhase_hif_timeB (s : State) (id : Nat) (p : CmdPhase) : (s.setPhase id p).hif.timeB = s.hif.timeB := by
  rfl
@[simp] theorem State.setPhase_hif_linkDown (s : State) (id : Nat) (p : CmdPhase) : (s.setPhase id p).hif.linkDown = s.hif.linkDown := by
  rfl
@[simp] theorem State.setPhase_hif_eq (s : State) (id : Nat) (p : CmdPhase) : (s.setPhase id p).hif.eq = s.hif.eq := by
  rfl
@[simp] theorem State.setPhase_hif_rings (s : State) (id : Nat) (p : CmdPhase) : (s.setPhase id p).hif.rings = s.hif.rings := by
  rfl

/-! triggerVector -/

@[simp] theorem State.triggerVector_outbox (s : State) (v : Nat) : (s.triggerVector v).outbox = s.outbox := by
  rw [State.triggerVector_eq]; rfl
@[simp] theorem State.triggerVector_tick (s : State) (v : Nat) : (s.triggerVector v).tick = s.tick := by
  rw [State.triggerVector_eq]; rfl
@[simp] theorem State.triggerVector_pending (s : State) (v : Nat) : (s.triggerVector v).pending = s.pending := by
  rw [State.triggerVector_eq]; rfl
@[simp] theorem State.triggerVector_free (s : State) (v : Nat) : (s.triggerVector v).free = s.free := by
  rw [State.triggerVector_eq]; rfl
@[simp] theorem State.triggerVector_sys (s : State) (v : Nat) : (s.triggerVector v).sys = s.sys := by
  rw [State.triggerVector_eq]; rfl
@[simp] theorem State.triggerVector_geo (s : State) (v : Nat) : (s.triggerVector v).geo = s.geo := by
  rw [State.triggerVector_eq]; rfl
@[simp] theorem State.triggerVector_pgq (s : State) (v : Nat) : (s.triggerVector v).pgq = s.pgq := by
  rw [State.triggerVector_eq]; rfl
@[simp] theorem State.triggerVector_dec (s : State) (v : Nat) : (s.triggerVector v).dec = s.dec := by
  rw [State.triggerVector_eq]; rfl
@[simp] theorem State.triggerVector_cmp (s : State) (v : Nat) : (s.triggerVector v).cmp = s.cmp := by
  rw [State.triggerVector_eq]; rfl
@[simp] theorem State.triggerVector_mal (s : State) (v : Nat) : (s.triggerVector v).mal = s.mal := by
  rw [State.triggerVector_eq]; rfl
@[simp] theorem State.triggerVector_sub (s : State) (v : Nat) : (s.triggerVector v).sub = s.sub := by
  rw [State.triggerVector_eq]; rfl
@[simp] theorem State.triggerVector_fir (s : State) (v : Nat) : (s.triggerVector v).fir = s.fir := by
  rw [State.triggerVector_eq]; rfl
@[simp] theorem State.triggerVector_snr (s : State) (v : Nat) : (s.triggerVector v).snr = s.snr := by
  rw [State.triggerVector_eq]; rfl
@[simp] theorem State.triggerVector_cam (s : State) (v : Nat) : (s.triggerVector v).cam = s.cam := by
  rw [State.triggerVector_eq]; rfl
@[simp] theorem State.triggerVector_stk (s : State) (v : Nat) : (s.triggerVector v).stk = s.stk := by
  rw [State.triggerVector_eq]; rfl
@[simp] theorem State.triggerVector_mot (s : State) (v : Nat) : (s.triggerVector v).mot = s.mot := by
  rw [State.triggerVector_eq]; rfl
@[simp] theorem State.triggerVector_enc (s : State) (v : Nat) : (s.triggerVector v).enc = s.enc := by
  rw [State.triggerVector_eq]; rfl
@[simp] theorem State.triggerVector_cle (s : State) (v : Nat) : (s.triggerVector v).cle = s.cle := by
  rw [State.triggerVector_eq]; rfl
@[simp] theorem State.triggerVector_led (s : State) (v : Nat) : (s.triggerVector v).led = s.led := by
  rw [State.triggerVector_eq]; rfl
@[simp] theorem State.triggerVector_tim (s : State) (v : Nat) : (s.triggerVector v).tim = s.tim := by
  rw [State.triggerVector_eq]; rfl
@[simp] theorem State.triggerVector_twn (s : State) (v : Nat) : (s.triggerVector v).twn = s.twn := by
  rw [State.triggerVector_eq]; rfl
@[simp] theorem State.triggerVector_rim (s : State) (v : Nat) : (s.triggerVector v).rim = s.rim := by
  rw [State.triggerVector_eq]; rfl
@[simp] theorem State.triggerVector_gng (s : State) (v : Nat) : (s.triggerVector v).gng = s.gng := by
  rw [State.triggerVector_eq]; rfl
@[simp] theorem State.triggerVector_gpio (s : State) (v : Nat) : (s.triggerVector v).gpio = s.gpio := by
  rw [State.triggerVector_eq]; rfl
@[simp] theorem State.triggerVector_i2c (s : State) (v : Nat) : (s.triggerVector v).i2c = s.i2c := by
  rw [State.triggerVector_eq]; rfl
@[simp] theorem State.triggerVector_copyOwn (s : State) (v : Nat) : (s.triggerVector v).copyOwn = s.copyOwn := by
  rw [State.triggerVector_eq]; rfl
@[simp] theorem State.triggerVector_copySince (s : State) (v : Nat) : (s.triggerVector v).copySince = s.copySince := by
  rw [State.triggerVector_eq]; rfl
@[simp] theorem State.triggerVector_dram (s : State) (v : Nat) : (s.triggerVector v).dram = s.dram := by
  rw [State.triggerVector_eq]; rfl
@[simp] theorem State.triggerVector_evt (s : State) (v : Nat) : (s.triggerVector v).evt = s.evt := by
  rw [State.triggerVector_eq]; rfl
@[simp] theorem State.triggerVector_hif_ready (s : State) (v : Nat) : (s.triggerVector v).hif.ready = s.hif.ready := by
  rw [State.triggerVector_eq]; rfl
@[simp] theorem State.triggerVector_hif_timeB (s : State) (v : Nat) : (s.triggerVector v).hif.timeB = s.hif.timeB := by
  rw [State.triggerVector_eq]; rfl
@[simp] theorem State.triggerVector_hif_linkDown (s : State) (v : Nat) : (s.triggerVector v).hif.linkDown = s.hif.linkDown := by
  rw [State.triggerVector_eq]; rfl
@[simp] theorem State.triggerVector_hif_eq (s : State) (v : Nat) : (s.triggerVector v).hif.eq = s.hif.eq := by
  rw [State.triggerVector_eq]; rfl
@[simp] theorem State.triggerVector_hif_rings (s : State) (v : Nat) : (s.triggerVector v).hif.rings = s.hif.rings := by
  rw [State.triggerVector_eq]; rfl

@[simp] theorem State.setPhase_out (s : State) (id : Nat) (p : CmdPhase) : (s.setPhase id p).out = s.out := rfl
@[simp] theorem State.triggerVector_out (s : State) (v : Nat) : (s.triggerVector v).out = s.out := by
  rw [State.triggerVector_eq]; rfl

end Sys2Proof.Machine
end

