-- ==== Sys2Proof/Laws/Order.lean ====
section
/-! SUPPORT. What the order of a tick gives (R21 to R24): places are ordered, and what joins a queue is in it. -/
namespace Sys2Proof.Machine

@[simp] theorem TieKey.le_refl (a : TieKey) : a.le a = true := by simp [TieKey.le]

theorem TieKey.le_trans {a b c : TieKey} (h : a.le b = true) (k : b.le c = true) : a.le c = true := by
  simp only [TieKey.le, decide_eq_true_eq] at *
  rcases a with ⟨_, _, _, _ | _⟩ <;> rcases b with ⟨_, _, _, _ | _⟩ <;> rcases c with ⟨_, _, _, _ | _⟩ <;>
    simp only [Bool.false_eq_true, reduceCtorEq, or_true, or_false, and_true, and_false] at * <;> omega

theorem TieKey.le_total (a b : TieKey) : a.le b = true ∨ b.le a = true := by
  simp only [TieKey.le, decide_eq_true_eq]
  rcases a with ⟨_, _, _, _ | _⟩ <;> rcases b with ⟨_, _, _, _ | _⟩ <;>
    simp only [Bool.false_eq_true, reduceCtorEq, or_true, or_false, and_true, and_false] <;> omega

theorem TieKey.le_of_not_le {a b : TieKey} (h : a.le b = false) : b.le a = true := by
  rcases TieKey.le_total a b with k | k
  · simp [h] at k
  · exact k

variable (key : Instr → TieKey)

@[simp] theorem joinQueue_nil (i : Instr) : joinQueue key i [] = [i] := rfl

theorem joinQueue_behind (i x : Instr) (q : List Instr) (h : (key x).le (key i) = true) :
    joinQueue key i (x :: q) = x :: joinQueue key i q := by simp [joinQueue, h]

theorem joinQueue_ahead (i x : Instr) (q : List Instr) (h : (key x).le (key i) = false) :
    joinQueue key i (x :: q) = i :: x :: q := by simp [joinQueue, h]

@[simp] theorem mem_joinQueue (i x : Instr) (q : List Instr) : x ∈ joinQueue key i q ↔ x = i ∨ x ∈ q := by
  induction q with
  | nil => simp
  | cons y q ih => unfold joinQueue; split <;> simp [ih, or_left_comm]

@[simp] theorem joinQueue_length (i : Instr) (q : List Instr) : (joinQueue key i q).length = q.length + 1 := by
  induction q with
  | nil => rfl
  | cons y q ih => unfold joinQueue; split <;> simp [ih]

@[simp] theorem State.arrive_pending (s : State) (i : Instr) : (s.arrive i).pending = joinQueue s.keyOf i s.pending := rfl

/-- An arrival changes nothing but the queue. -/
theorem State.arrive_frame (s : State) (i : Instr) : s.arrive i = { s with pending := (s.arrive i).pending } := rfl

end Sys2Proof.Machine
end

