-- ==== Sys2Proof/Tests/Slice0.lean ====
section
/-! SUPPORT. The package's own tests: an ill-formed term for each check of WellFormed, values of the spec's tables and worked examples, and for
every statement of Certificates/Slice0/Obligations.lean that has hypotheses a witness that meets them, clause by clause. -/
set_option Elab.async false
set_option maxRecDepth 20000

namespace Sys2Proof.Tests
open Machine

/-- Bytes `bs` laid over a packet from byte `i` on. -/
def put (p : List Byte) (i : Nat) (bs : List Byte) : List Byte := p.take i ++ bs ++ p.drop (i + bs.length)

/-- A packet with opcode `code` and the fields given. -/
def pkt (code : Nat) (fs : List (Nat × List Byte)) : List Byte :=
  fs.foldl (fun p f => put p f.1 f.2) (put (zeros 64) 0 (leBytes 2 code))

/-- The command that holds a packet, fetched from ring pair 0. -/
def cmd (p : List Byte) : Cmd := { id := 1, ring := 0, packet := p }

/-- The device out of reset, alone, its host interface ready and ring pair 0 and the event ring enabled. -/
def up : State := { State.reset with
  tick := 1000000
  sys := { State.reset.sys with held := false, perstLow := false, sysResetLow := false, causes := [], memTrained := 15, memGib := 4, memDone := true, pllLock := 15, railsOk := 1023 }
  hif := { State.reset.hif with ready := true, fwAuth := true, linkDown := false, rings := Table.set {} {} 0 { enable := true }, eq := { enable := true } }
  twn := { State.reset.twn with role := .alone } }

/-- A state in which a command waits at ring pair 0. -/
def holding (s : State) (p : List Byte) : State := s.modHif (fun h => { h with inflight := [cmd p], nextId := 2 })


/-! Commands that are not well formed. -/

theorem test_wf_offset : (Instr.wf (.mmioWriteDiscard true 0x1000000 [])) = false := by decide
theorem test_wf_register_offset : (Instr.wf (.registerWrite 0x100002 0#32)) = false := by decide
theorem test_wf_register_past_end : (Instr.wf (.registerWrite 0x1000000 0#32)) = false := by decide
theorem test_wf_packet_length : (Instr.wf (.commandFetch 0 (.ok [1, 2]))) = false := by decide
theorem test_wf_packet_byte : (Instr.wf (.commandFetch 0 (.ok (List.replicate 64 256)))) = false := by decide
theorem test_wf_host_byte : (Instr.wf (.sysFwUpdate 0 (.ok [256]))) = false := by decide
theorem test_wf_host_cause : (Instr.wf (.geoRuns 0 (.fail 4 0))) = false := by decide
theorem test_wf_host_address : (Instr.wf (.geoExceptions 0 (.fail 0 (2 ^ 64)))) = false := by decide
theorem test_wf_page_tiles : (Instr.wf (.pageAddTiles 0 (.ok [300]))) = false := by decide
theorem test_wf_tile : (Instr.wf (.tileArrival 0 0 (.fail 9 0))) = false := by decide
theorem test_wf_defects : (Instr.wf (.subDefects 0 (.ok [256]))) = false := by decide
theorem test_wf_gong_length : (Instr.wf (.gongFrameRx 0 (zeros 16))) = false := by decide
theorem test_wf_gong_byte : (Instr.wf (.gongFrameRx 0 (List.replicate 17 256))) = false := by decide
theorem test_wf_sram_word : (Instr.wf (.sramEccError 0 (2 ^ 32) 0 false 0)) = false := by decide
theorem test_wf_eye_count : (Instr.wf (.eyeScanDone 0 [2 ^ 64])) = false := by decide
theorem test_wf_hub_reply : (Instr.wf (.hubReply 0 (zeros 57))) = false := by decide
theorem test_wf_hub_reply_byte : (Instr.wf (.hubReply 0 [256])) = false := by decide
theorem test_wf_am_length : (Instr.wf (.upstreamAm 0 (zeros 7) (zeros 8) 0)) = false := by decide
theorem test_wf_turn_length : (Instr.wf (.upstreamAm 0 (zeros 8) (zeros 9) 0)) = false := by decide
theorem test_wf_status_length : (Instr.wf (.statusBlock 0 (zeros 9))) = false := by decide
theorem test_wf_report_length : (Instr.wf (.cmpReport 0 (zeros 7))) = false := by decide
theorem test_wf_coefficients : (Instr.wf (.camPipe 0 (.ok [256]))) = false := by decide
theorem test_wf_sample : (Instr.wf (.lineArrival 0 [[4096]] 0 0 0 0)) = false := by decide
theorem test_wf_strips : (Instr.wf (.stkConfig 0 (.ok [256]))) = false := by decide
theorem test_wf_sine : (Instr.wf (.motSine 0 (.ok [256]))) = false := by decide
theorem test_wf_profile : (Instr.wf (.motProfile 0 (.fail 4 0))) = false := by decide
theorem test_wf_compare : (Instr.wf (.encCompare 0 (.ok [256]))) = false := by decide
theorem test_wf_ssi_data : (Instr.wf (.ssiFrameDone 0 (2 ^ 40) false false false)) = false := by decide
theorem test_wf_sections : (Instr.wf (.cleSections 0 (.ok [256]))) = false := by decide
theorem test_wf_adc_table : (Instr.wf (.adcConfig 0 (.ok [256]))) = false := by decide
theorem test_wf_levels : (Instr.wf (.ledLevels 0 (.ok [256]))) = false := by decide
theorem test_wf_returned_level : (Instr.wf (.ledFrameDone 0 [65536])) = false := by decide
theorem test_wf_reading : (Instr.wf (.colourSensorReadDone 0 (zeros 9) false)) = false := by decide
theorem test_wf_sync_frame : (Instr.wf (.ptpSyncRx 0 0 (zeros 1515))) = false := by decide
theorem test_wf_message_frame : (Instr.wf (.ptpMessageRx 0 0 [256])) = false := by decide
theorem test_wf_sent_frame : (Instr.wf (.ptpTx 0 (zeros 1515) 0 0 false)) = false := by decide
theorem test_wf_link_am : (Instr.wf (.chezatinLinkUp [(zeros 7, 0)] [] 0 0)) = false := by decide
theorem test_wf_jtag_write : (Instr.wf (.jtagTrst [(0x100000, [256])])) = false := by decide
theorem test_wf_line_record : (Instr.wf (.lineRecordRx (zeros 18))) = false := by decide
theorem test_wf_input_channel : (Instr.wf (.inputRecordRx { counts := [(8, 0)], switches := 0, probes := [], adc := [], colours := [] })) = false := by decide
theorem test_wf_input_switches : (Instr.wf (.inputRecordRx { counts := [], switches := 2 ^ 16, probes := [], adc := [], colours := [] })) = false := by decide
theorem test_wf_change_packet : (Instr.wf (.changeRecordRx 0 (zeros 63) (.ok []))) = false := by decide
theorem test_wf_change_host : (Instr.wf (.changeRecordRx 0 (zeros 64) (.ok [256]))) = false := by decide
theorem test_wf_compress : (Instr.wf (.cmpCompress 0 (.ok [256]))) = false := by decide
theorem test_wf_decompress : (Instr.wf (.cmpDecompress 0 (.ok [256]))) = false := by decide
theorem test_wf_restore : (Instr.wf (.cmpRestore 0 (.ok [256]))) = false := by decide
theorem test_wf_sources : (Instr.wf (.rimConfig 0 (.ok [256]))) = false := by decide

/-! Values of the spec's own tables and worked examples. -/

/-- R106's example: levels 0, 1, 2, 3 at 2 bits. -/
theorem test_packed_drops : packSyms 2 [0, 1, 2, 3] = [0xE4] := by decide

/-- The tile of chapter 05's worked example, without its CRC. -/
def threeLineTile : List Byte :=
  [0x5A, 0x11, 0xFF, 0x07, 0x02, 0, 0, 0, 0x07, 0xE4, 0x1B, 0x57, 0x02, 0x3F, 0xC1, 0x06, 0x7F, 0xE1, 0x06, 0x03, 0xF5,
   0x9B, 0x03, 0x00, 0x3F, 0xC1, 0x06, 0xFF]

/-- Chapter 05's worked example: the cost of its dearest line. -/
theorem test_three_line_tile_cost : (decodeTile (threeLineTile ++ leBytes 4 (crc32c threeLineTile)) []).lcyc = 138 := by decide +kernel

/-- Chapter 05's worked example: line 0 begins 0, 1, 2, 3, 3, 2, 1, 0, 2 and line 2 has 3 in column 31 and 0 in column 32. -/
theorem test_three_line_tile_drops :
    ((decodeTile (threeLineTile ++ leBytes 4 (crc32c threeLineTile)) []).lines.getD 0 []).take 9 = [0, 1, 2, 3, 3, 2, 1, 0, 2] ∧
    (((decodeTile (threeLineTile ++ leBytes 4 (crc32c threeLineTile)) []).lines.getD 2 []).drop 31).take 2 = [3, 0] := by decide +kernel

/-- R116, R461: a byte changed anywhere fails the tile's CRC. -/
theorem test_tile_crc : (decodeTile (put (threeLineTile ++ leBytes 4 (crc32c threeLineTile)) 9 [0xE5]) []).reason = Reason.crc := by decide +kernel

/-- Chapter 07's worked example: the row delays of head 1 of bar row 5 at PER = 32,000. -/
theorem test_row_delays : rowDelay 32000 45927 false = 22425 ∧ rowDelay 32000 60376 false = 29480 := by decide

/-- R159: halves are rounded up, and a row with F = 0 has no delay in a reverse pass. -/
theorem test_row_delay_halves : rowDelay 1 32768 false = 1 ∧ rowDelay 1 32767 false = 0 ∧ rowDelay 48000 0 true = 0 := by decide

/-- Chapter 07's worked example: the reference bar against its ceiling. -/
theorem test_ceiling : (up.modFir (fun f => { f with cfgDone := true, cfg := { f.cfg with pitch := 0x152AAAAAAB, rNom := 0x5DC000000, pressFloor := 32000 } })).ceiling =
    710235 := by decide +kernel

/-- Chapter 07's worked example at 5 m/s: line 2 is dropped, for 64,000 ≥ 60,960, and line 3 is held to 64,000. -/
theorem test_line_fates : (up.modFir (fun f => { f with tLast := some 32000 })).lineFate 40640 20320 32000 false false = .dropped 0 ∧
    (up.modFir (fun f => { f with tLast := some 32000 })).lineFate 60960 20320 32000 false false = .held 64000 := by decide +kernel

/-- R39, R49: the bytes of a completion by their places. -/
theorem test_completion : completionBytes 0x04030201 0x0605 2 true true 0x0807060504030201 [9] =
    [1, 2, 3, 4, 5, 6, 2, 3, 1, 2, 3, 4, 5, 6, 7, 8, 9, 0, 0, 0, 0, 0, 0, 0, 0, 0, 0, 0, 0, 0, 0, 0] := by decide

/-- R167: the bytes of a Gong frame by their places, SOF K27.7 as 0xFB. -/
theorem test_gong_frame : (gongFrame 0x41 0x060504030201 0x090807 0x0D0C0B0A 0x0E).take 16 =
    [0xFB, 0x41, 1, 2, 3, 4, 5, 6, 7, 8, 9, 0x0A, 0x0B, 0x0C, 0x0D, 0x0E] := by decide

/-- R291: lines 00, 01, 11, 10, 00 step forward, the reverse steps back, and a change of both is no step. -/
theorem test_quadrature : [(0, 1), (1, 3), (3, 2), (2, 0)].map (fun x => quadStep x.1 x.2) = [some 1, some 1, some 1, some 1] ∧
    quadStep 1 0 = some (-1) ∧ quadStep 0 3 = none := by decide

/-- R54: SYS_IDENTIFY completes with the part number, 0x0021. -/
theorem test_identify : (match exec (.sysIdentify 0) (holding up (pkt 0x0101 [])) with
    | .next t => t.writeCompletions.out.map (fun x => match x with | .host _ b => (u16 b 4, u16 b 16) | _ => (9, 9))
    | _ => []) = [(0, 0x21)] := by decide +kernel

/-- R47: an opcode that is not of the table completes with BAD_OPCODE. -/
theorem test_unknown_opcode : (match exec (.unknownOpcode 0) (holding up (pkt 0x0199 [])) with
    | .next t => t.writeCompletions.out.map (fun x => match x with | .host _ b => u16 b 4 | _ => 9)
    | _ => []) = [Status.badOpcode] := by decide +kernel

/-- R390, R391: with all three channels permitting, one input may fall. -/
theorem test_vote : (match exec (.permitInputChange 0 false 1) (({ up with cle := { up.cle with permit := true } } : State).modTwn (fun t => { t with in0 := true, in1 := true, in2 := true, armA := true, armB := true, armC := true, permit := true })) with
    | .next t => (t.twn.permit, t.twn.disagree, t.fireEn)
    | _ => (false, false, false)) = (true, true, true) := by decide +kernel

/-- The queue of commands is served from its front, and on an empty one a tick passes (log entry 2). -/
theorem test_step : (match step { up with pending := [.jtagTrst [], .pipelineLine] } with
    | .next t => (t.pending, t.tick)
    | _ => ([], 0)) = ([.pipelineLine], 1000000) ∧ (match step State.reset with
    | .next t => t.tick
    | _ => 0) = 1 := by decide +kernel

/-- No word of the table spells a command: it gives its rows no bits. -/
theorem test_decode : decodeTableWord 32 0 = none ∧ (State.reset.withFetchWord 32 0).pending = [] := by decide

/-! Witnesses. -/

/-- States and operands that meet the hypotheses of StepRunsTheFrontCommand, clause by clause. -/
theorem wit_StepRunsTheFrontCommand :
  (∃ (s : State) (c : Instr) (rest : List Instr), s.pending = c :: rest) :=
  ⟨{ up with pending := [.configRequest (.read .classCode)] }, .configRequest (.read .classCode), [], by decide +kernel⟩

/-- States and operands that meet the hypotheses of EmptyQueuePassesOneTick, clause by clause. -/
theorem wit_EmptyQueuePassesOneTick :
  (∃ (s : State), s.pending = []) :=
  ⟨State.reset, by decide +kernel⟩

/-- States and operands that meet the hypotheses of HostWritesAreTakenOrDiscarded, clause by clause. -/
theorem wit_HostWritesAreTakenOrDiscarded :
  (∃ (off : Nat) (ens : List (Fin 16)), off / 4 * 4 + 4 * ens.length ≤ 4096 ∧ ens ≠ []) ∧
  (∃ (k : Nat) (e : Fin 16) (ens : List (Fin 16)), 4 * k + 4 * (ens.length + 1) ≤ 16777216 ∧ (4 * k < 0x100000 ∨ 0x200000 ≤ 4 * k ∨ (e.val ≠ 0 ∧ e.val ≠ 15))) ∧
  (∃ (bar2 : Bool) (off : Nat) (ens : List (Fin 16)), (if bar2 then 4096 else 16777216) < off / 4 * 4 + 4 * ens.length) ∧
  (∃ (off : Nat), (off < 0x100000 ∨ 0x200000 ≤ off)) ∧
  (∃ (s : State) (r : Fin 4), (s.hif.ready = false ∨ (s.ring r.val).enable = false ∨ (s.ring r.val).stopped = true)) ∧
  (∃ (s : State), (s.hif.ready = false ∨ s.hif.eq.enable = false ∨ s.hif.eq.stopped = true)) ∧
  (∃ (s : State), s.hif.ready = true) :=
  ⟨⟨4092, [15], by decide +kernel⟩,
  ⟨0x40000, 3, [15], by decide +kernel⟩,
  ⟨true, 4092, [15, 15], by decide +kernel⟩,
  ⟨0x200000, by decide +kernel⟩,
  ⟨up, 3, by decide +kernel⟩,
  ⟨State.reset, by decide +kernel⟩,
  ⟨up, by decide +kernel⟩⟩

/-- States and operands that meet the hypotheses of DoorbellsMoveOrStopTheirRing, clause by clause. -/
theorem wit_DoorbellsMoveOrStopTheirRing :
  (∃ (s : State) (r : Fin 4) (v : Fin 65536), s.hif.ready = true ∧ (s.ring r.val).active = true ∧ (s.ring r.val).tail < 2 ^ (s.ring r.val).sqLog2 ∧ (s.ring r.val).head < 2 ^ (s.ring r.val).sqLog2 ∧ v.val < 2 ^ (s.ring r.val).sqLog2 ∧ ((v.val : Int) - (s.ring r.val).tail) % 2 ^ (s.ring r.val).sqLog2 ≤ (((s.ring r.val).head : Int) - 1 - (s.ring r.val).tail) % 2 ^ (s.ring r.val).sqLog2) ∧
  (∃ (s : State) (r : Fin 4) (v : Fin 65536), s.hif.ready = true ∧ (s.ring r.val).active = true ∧ (s.ring r.val).cqHead < 2 ^ (s.ring r.val).cqLog2 ∧ (s.ring r.val).cqWrite < 2 ^ (s.ring r.val).cqLog2 ∧ v.val < 2 ^ (s.ring r.val).cqLog2 ∧ ((v.val : Int) - (s.ring r.val).cqHead) % 2 ^ (s.ring r.val).cqLog2 ≤ (((s.ring r.val).cqWrite : Int) - (s.ring r.val).cqHead) % 2 ^ (s.ring r.val).cqLog2) ∧
  (∃ (s : State) (v : Fin 65536), s.hif.ready = true ∧ s.hif.eq.enable = true ∧ s.hif.eq.stopped = false ∧ s.hif.eq.head < 2 ^ s.hif.eq.log2 ∧ s.hif.eq.write < 2 ^ s.hif.eq.log2 ∧ v.val < 2 ^ s.hif.eq.log2 ∧ ((v.val : Int) - s.hif.eq.head) % 2 ^ s.hif.eq.log2 ≤ ((s.hif.eq.write : Int) - s.hif.eq.head) % 2 ^ s.hif.eq.log2) ∧
  (∃ (s : State) (r : Fin 4) (v : Fin 65536), s.hif.ready = true ∧ (s.ring r.val).active = true ∧ (s.ring r.val).tailOk v.val = false) :=
  ⟨⟨up, 0, 63, by decide +kernel⟩,
  ⟨up.modRing 0 (fun g => { g with cqWrite := 63 }), 0, 63, by decide +kernel⟩,
  ⟨up.modHif (fun h => { h with eq := { h.eq with write := 5 } }), 5, by decide +kernel⟩,
  ⟨up, 0, 64, by decide +kernel⟩⟩

/-- States and operands that meet the hypotheses of RingsAreEnabledAndDisabled, clause by clause. -/
theorem wit_RingsAreEnabledAndDisabled :
  (∃ (s : State) (r : Fin 4) (v : BitVec 32), s.hif.ready = true ∧ (s.ring r.val).enable = false ∧ bit v.toNat 0 = true ∧ (s.ring r.val).sqBase % 4096 = 0 ∧ (s.ring r.val).cqBase % 4096 = 0 ∧ sizeOk (bits v.toNat 5 1) = true ∧ sizeOk (s.ring r.val).cqLog2 = true) ∧
  (∃ (s : State) (r : Fin 4) (v : BitVec 32), s.hif.ready = true ∧ (s.ring r.val).enable = true ∧ bit v.toNat 0 = false) ∧
  (∃ (s : State) (v : BitVec 32), s.hif.ready = true ∧ s.hif.eq.enable = false ∧ bit v.toNat 5 = true ∧ s.hif.eq.base % 4096 = 0 ∧ sizeOk (bits v.toNat 4 0) = true) ∧
  (∃ (s : State) (v : BitVec 32), s.hif.ready = true ∧ s.hif.eq.enable = true ∧ bit v.toNat 5 = false) ∧
  (∃ (s : State) (v : BitVec 32), bit v.toNat 0 = true ∧ (∀ c ∈ s.hif.inflight, c.ring < 4)) :=
  ⟨⟨up, 1, 13, by decide +kernel⟩,
  ⟨holding up (pkt 0x0101 []), 0, 0, by decide +kernel⟩,
  ⟨up.modHif (fun h => { h with eq := {} }), 38, by decide +kernel⟩,
  ⟨up, 0, by decide +kernel⟩,
  ⟨holding up (pkt 0x0101 []), 1, by decide +kernel⟩⟩

/-- States and operands that meet the hypotheses of FetchTakesOnePacket, clause by clause. -/
theorem wit_FetchTakesOnePacket :
  (∃ (s : State) (r : Fin 4), s.canFetch r.val = true) ∧
  (∃ (s : State) (r : Fin 4), s.canFetch r.val = true) :=
  ⟨⟨up.modRing 0 (fun g => { g with tail := 1 }), 0, by decide +kernel⟩,
  ⟨up.modRing 0 (fun g => { g with tail := 1 }), 0, by decide +kernel⟩⟩

/-- States and operands that meet the hypotheses of HostLinkAndHeldRecords, clause by clause. -/
theorem wit_HostLinkAndHeldRecords :
  (∃ (s : State), s.sys.perstLow = true) ∧
  (∃ (s : State), s.sys.perstLow = false ∧ s.hif.fwAuth = false) ∧
  (∃ (s : State), s.sys.perstLow = false ∧ s.hif.fwAuth = true) ∧
  (∃ (s : State) (g : Fin 8) (w : Fin 32), (g.val = 3 ∨ g.val = 4 ∨ g.val = 5) ∧ (w.val = 8 ∨ w.val = 16) ∧ s.sys.perstLow = false) ∧
  (∃ (s : State), s.hif.ready = false ∧ s.hif.fwAuth = true ∧ s.sys.memDone = true ∧ s.hif.linkDown = false ∧ s.sys.fallbackDue = false ∧ (s.sys.restarting = false ∨ s.sys.slotBad = false)) ∧
  (∃ (s : State) (x : Rec), s.evt.heldError = none ∧ s.evt.backlog = [x] ∧ 2 ≤ s.hif.eq.freeEntries ∧ s.evt.lost = 0) ∧
  (∃ (s : State) (r : Fin 4) (t0 : Nat), (s.ring r.val).irqEn = true ∧ (s.ring r.val).irqFirst = some t0 ∧ (s.ring r.val).coalTime ≠ 0 ∧ t0 + 200 * (s.ring r.val).coalTime ≤ s.tick) ∧
  (∃ (s : State) (r : Fin 4), (s.ring r.val).irqEn = true ∧ s.hif.coalDue = [r.val]) ∧
  (∃ (s : State) (t0 : Nat), s.hif.eq.irqEn = true ∧ s.hif.eq.irqFirst = some t0 ∧ s.hif.eq.coalTime ≠ 0 ∧ t0 + 200 * s.hif.eq.coalTime ≤ s.tick) ∧
  (∃ (s : State), s.hif.eq.irqEn = true ∧ s.hif.coalDue = [4]) :=
  ⟨⟨State.reset, by decide +kernel⟩,
  ⟨up.modHif (fun h => { h with fwAuth := false }), by decide +kernel⟩,
  ⟨up, by decide +kernel⟩,
  ⟨up, 5, 16, by decide +kernel⟩,
  ⟨up.modHif (fun h => { h with ready := false }), by decide +kernel⟩,
  ⟨up.modEvt (fun e => { e with backlog := [{ code := 0x0102, sev := 3, unit := 0, seq := 7, time := 9, timeB := false, args := [] }] }), { code := 0x0102, sev := 3, unit := 0, seq := 7, time := 9, timeB := false, args := [] }, by decide +kernel⟩,
  ⟨up.modRing 0 (fun g => { g with irqEn := true, irqFirst := some 0, coalTime := 5, irqCount := 1 }), 0, 0, by decide +kernel⟩,
  ⟨(up.modRing 0 (fun g => { g with irqEn := true, irqFirst := some 0, coalTime := 5, irqCount := 1 })).modHif (fun h => { h with coalDue := [0] }), 0, by decide +kernel⟩,
  ⟨up.modHif (fun h => { h with eq := { h.eq with irqEn := true, irqFirst := some 999000, coalTime := 5, irqCount := 1 } }), 999000, by decide +kernel⟩,
  ⟨up.modHif (fun h => { h with coalDue := [4], eq := { h.eq with irqEn := true, irqFirst := some 999000, coalTime := 5, irqCount := 1 } }), by decide +kernel⟩⟩

/-- States and operands that meet the hypotheses of IdentityHealthRegistersAndMask, clause by clause. -/
theorem wit_IdentityHealthRegistersAndMask :
  (∃ (s : State) (r : Fin 4) (c : Cmd), s.atOnce r 0x0101 c) ∧
  (∃ (s : State) (r : Fin 4) (c : Cmd), s.atOnce r 0x0102 c) ∧
  (∃ (s : State) (r : Fin 4) (c : Cmd), s.atOnce r 0x0103 c ∧ u32 c.packet 8 = 0x4004) ∧
  (∃ (s : State) (r : Fin 4) (c : Cmd) (k : Fin 32), s.atOnce r 0x0103 c ∧ u32 c.packet 8 = 0x1100 + 4 * k.val) ∧
  (∃ (s : State) (r : Fin 4) (c : Cmd), s.atOnce r 0x0104 c ∧ u32 c.packet 8 = 0x4004) ∧
  (∃ (s : State) (bar2 : Bool) (k : Nat) (at_ : Nat → State), at_ 0 = s ∧ 8 * k + 8 ≤ barSize bar2 ∧ s.hostRead32 bar2 (8 * k) < 2 ^ 32 ∧ s.hostRead32 bar2 (8 * k + 4) < 2 ^ 32) ∧
  (∃ (bar2 : Bool) (off : Nat) (ens : List (Fin 16)), barSize bar2 < off / 4 * 4 + 4 * ens.length) ∧
  (∃ (s : State) (r : Fin 4) (c : Cmd), s.atOnce r 0x0105 c ∧ (∀ i < 8, suppressible (u16 c.packet (24 + 2 * i)) = true)) :=
  ⟨⟨holding up (pkt 0x0101 []), 0, cmd (pkt 0x0101 []), by decide +kernel⟩,
  ⟨holding up (pkt 0x0102 []), 0, cmd (pkt 0x0102 []), by decide +kernel⟩,
  ⟨holding up (pkt 0x0103 [(8, leBytes 4 0x4004)]), 0, cmd (pkt 0x0103 [(8, leBytes 4 0x4004)]), by decide +kernel⟩,
  ⟨holding up (pkt 0x0103 [(8, leBytes 4 0x117C)]), 0, cmd (pkt 0x0103 [(8, leBytes 4 0x117C)]), 31, by decide +kernel⟩,
  ⟨holding up (pkt 0x0104 [(8, leBytes 4 0x4004), (12, leBytes 4 5), (16, leBytes 4 7)]), 0, cmd (pkt 0x0104 [(8, leBytes 4 0x4004), (12, leBytes 4 5), (16, leBytes 4 7)]), by decide +kernel⟩,
  ⟨up, false, 0x20200, fun _ => up, by decide +kernel⟩,
  ⟨true, 4092, [15, 15], by decide +kernel⟩,
  ⟨holding up (pkt 0x0105 [(8, [3]), (24, leBytes 2 0x0201)]), 0, cmd (pkt 0x0105 [(8, [3]), (24, leBytes 2 0x0201)]), by decide +kernel⟩⟩

/-- States and operands that meet the hypotheses of FirmwareUpdateProgramsTheOtherSlot, clause by clause. -/
theorem wit_FirmwareUpdateProgramsTheOtherSlot :
  (∃ (s : State) (r : Fin 4) (c : Cmd) (b : List Byte), s.atOnce r 0x0106 c ∧ u8 c.packet 21 = 0 ∧ u64 c.packet 8 % 64 = 0 ∧ 256 ≤ u32 c.packet 16 ∧ payloadLenOk (u32 c.packet 16 - 256) = true ∧ u8 c.packet 20 = 1 ∧ s.sys.imageRun = 0 ∧ s.sys.fwJob = none ∧ b.length = u32 c.packet 16 ∧ u32 b 20 + 256 = u32 c.packet 16) ∧
  (∃ (s : State) (j : FwJob), s.sys.fwJob = some j ∧ j.slot = 1) ∧
  (∃ (s : State) (j : FwJob), s.sys.fwJob = some j) :=
  ⟨⟨holding up (pkt 0x0106 [(16, leBytes 4 (256 + 65536)), (20, [1])]), 0, cmd (pkt 0x0106 [(16, leBytes 4 (256 + 65536)), (20, [1])]), List.replicate 20 0 ++ leBytes 4 65536 ++ List.replicate (256 + 65536 - 24) 0, by decide +kernel⟩,
  ⟨up.modSys (fun y => { y with fwJob := some { cmd := 1, slot := 1, image := List.replicate 300 9 } }), { cmd := 1, slot := 1, image := List.replicate 300 9 }, by decide +kernel⟩,
  ⟨up.modSys (fun y => { y with fwJob := some { cmd := 1, slot := 0, image := List.replicate 300 9 } }), { cmd := 1, slot := 0, image := List.replicate 300 9 }, by decide +kernel⟩⟩

/-- States and operands that meet the hypotheses of DormantAndResetHoldAndRelease, clause by clause. -/
theorem wit_DormantAndResetHoldAndRelease :
  (∃ (s : State) (r : Fin 4) (c : Cmd), s.atOnce r 0x0107 c ∧ u8 c.packet 8 ≤ 7 ∧ u8 c.packet 9 ≤ 1 ∧ u8 c.packet 10 ≠ 0 ∧ s.anyLive = false ∧ s.fir.runs = false ∧ s.axisActive = false ∧ (s.twn.armA || s.twn.armB || s.twn.armC) = false ∧ s.hasShadow = false) ∧
  (∃ (s : State) (t0 : Nat), s.sys.dormant = .entering t0 ∧ t0 + 200 ≤ s.tick) ∧
  (∃ (s : State) (t0 : Nat), s.sys.dormant = .outputsOff t0 ∧ t0 + 200000 ≤ s.tick) ∧
  (∃ (s : State) (t0 : Nat) (f : Bool) (n : Nat), s.sys.dormant = .asleep t0 ∧ f = s.sys.wakeFalling ∧ 10 ≤ n) ∧
  (∃ (n : Nat), n < 10) ∧
  (∃ (s : State) (t0 : Nat), s.sys.dormant = .asleep t0 ∧ s.sys.wakeN ≤ s.sys.wakeEvents ∧ t0 + 10000000 ≤ s.tick) ∧
  (∃ (ns : Nat), 1000 ≤ ns) ∧
  (∃ (ns : Nat), ns < 100) ∧
  (∃ (ns : Nat), 1000 ≤ ns) ∧
  (∃ (s : State), s.asleep = false ∧ s.sys.causes.contains 4 = false ∧ s.sys.railsOk = 1) ∧
  (∃ (s : State), s.asleep = false ∧ s.sys.railsOk = 769) ∧
  (∃ (s : State) (rail : Fin 10), s.sys.held = false ∧ s.asleep = false ∧ rail.val ≠ 0) ∧
  (∃ (s : State) (t0 : Nat), s.sys.held = false ∧ s.sys.rootLostAt = some t0 ∧ t0 + 8000 ≤ s.tick) ∧
  (∃ (s : State), s.sys.sysResetLow = true ∧ s.asleep = false) ∧
  (∃ (s : State), s.sys.perstLow = false ∧ s.sys.sysResetLow = false ∧ s.asleep = false ∧ bit s.sys.pllLock 0 = false) ∧
  (∃ (s : State) (k : Nat), s.sys.held = true ∧ s.sys.perstLow = false ∧ s.sys.sysResetLow = false ∧ bit s.sys.pllLock 0 = true ∧ s.asleep = false ∧ s.sys.railsOk = 1023 ∧ s.sys.railLostAt = none ∧ k ∈ s.sys.causes ∧ k ≤ 7 ∧ (∀ j ∈ s.sys.causes, k ≤ j)) ∧
  (∃ (s : State), s.sys.railsOk ≠ 1023) ∧
  (∃ (s : State) (l : List (Nat × List Byte)), (s.sys.sysResetLow = false ∨ l = [])) ∧
  (∃ (s : State) (b : List Byte), s.sys.sysResetLow = true ∧ b.length = 256 ∧ s.sys.slot0.length = 256) :=
  ⟨⟨holding up (pkt 0x0107 [(8, [7, 1, 1])]), 0, cmd (pkt 0x0107 [(8, [7, 1, 1])]), by decide +kernel⟩,
  ⟨up.modSys (fun y => { y with dormant := .entering 999800 }), 999800, by decide +kernel⟩,
  ⟨up.modSys (fun y => { y with dormant := .outputsOff 800000 }), 800000, by decide +kernel⟩,
  ⟨up.modSys (fun y => { y with dormant := .asleep 3, wakeFalling := true, wakeEvents := 65535 }), 3, true, 10, by decide +kernel⟩,
  ⟨9, by decide +kernel⟩,
  ⟨{ up.modSys (fun y => { y with dormant := .asleep 3, wakeN := 2, wakeEvents := 2 }) with tick := 10000003 }, 3, by decide +kernel⟩,
  ⟨1000, by decide +kernel⟩,
  ⟨99, by decide +kernel⟩,
  ⟨1000, by decide +kernel⟩,
  ⟨State.reset.modSys (fun y => { y with railsOk := 1 }), by decide +kernel⟩,
  ⟨State.reset.modSys (fun y => { y with railsOk := 769 }), by decide +kernel⟩,
  ⟨up, 9, by decide +kernel⟩,
  ⟨up.modSys (fun y => { y with rootLostAt := some 0 }), 0, by decide +kernel⟩,
  ⟨State.reset, by decide +kernel⟩,
  ⟨State.reset.modSys (fun y => { y with perstLow := false, sysResetLow := false }), by decide +kernel⟩,
  ⟨State.reset.modSys (fun y => { y with perstLow := false, sysResetLow := false, pllLock := 1, railsOk := 1023 }), 1, by decide +kernel⟩,
  ⟨State.reset.modSys (fun y => { y with railsOk := 1 }), by decide +kernel⟩,
  ⟨up, [], by decide +kernel⟩,
  ⟨State.reset.modSys (fun y => { y with sysResetLow := true, slot0 := List.replicate 256 1 }), List.replicate 256 2, by decide +kernel⟩⟩

/-- States and operands that meet the hypotheses of PllLossBootAndWatchdog, clause by clause. -/
theorem wit_PllLossBootAndWatchdog :
  (∃ (s : State), bit s.sys.pllLock 1 = true ∧ bit s.sys.pllLoss 1 = false) ∧
  (∃ (s : State), bit s.sys.pllLock 2 = true ∧ bit s.sys.pllLoss 2 = false ∧ (∀ l < 64, (s.lane l).locked = false)) ∧
  (∃ (s : State), bit s.sys.pllLock 3 = true ∧ bit s.sys.pllLoss 3 = false ∧ (∀ n < 2, (s.inst n).following = false ∧ ∀ p < 2, (s.inst n).uses p = false)) ∧
  (∃ (s : State), bit s.sys.pllLock 3 = true) ∧
  (∃ (s : State), s.sys.held = false ∧ s.hif.fwAuth = false) ∧
  (∃ (s : State) (u : State) (a : Fin 16) (ok : Nat), s.hif.fwAuth = true ∧ s.sys.memDone = false ∧ s.hif.linkDown = true ∧ s.sys.boardOk = true ∧ ok = maskOf 4 (fun c => bit s.sys.namedChannels c && bit a.val c) ∧ u = s.modSys (fun y => { y with memDone := true, boardBad := false, memTrained := ok, memGib := y.boardGib ok, memFailed := maskOf 4 (fun c => bit s.sys.namedChannels c && !bit a.val c) })) ∧
  (∃ (s : State), s.hif.fwAuth = true ∧ s.sys.memDone = false ∧ s.hif.linkDown = true ∧ s.sys.boardOk = false ∧ bit s.sys.failed 0 = false) ∧
  (∃ (s : State), s.running = true ∧ s.hif.fwAuth = true) :=
  ⟨⟨up, by decide +kernel⟩,
  ⟨up, by decide +kernel⟩,
  ⟨up, by decide +kernel⟩,
  ⟨up, by decide +kernel⟩,
  ⟨up.modHif (fun h => { h with fwAuth := false, ready := false }), by decide +kernel⟩,
  ⟨(up.modHif (fun h => { h with linkDown := true })).modSys (fun y => { y with memDone := false, board := List.replicate 4092 0 ++ leBytes 4 (crc32c (List.replicate 4092 0)) }), ((up.modHif (fun h => { h with linkDown := true })).modSys (fun y => { y with memDone := false, board := List.replicate 4092 0 ++ leBytes 4 (crc32c (List.replicate 4092 0)) })).modSys (fun y => { y with memDone := true, boardBad := false, memTrained := (maskOf 4 (fun c => bit ((up.modHif (fun h => { h with linkDown := true })).modSys (fun y => { y with memDone := false, board := List.replicate 4092 0 ++ leBytes 4 (crc32c (List.replicate 4092 0)) })).sys.namedChannels c && bit 7 c)), memGib := y.boardGib (maskOf 4 (fun c => bit ((up.modHif (fun h => { h with linkDown := true })).modSys (fun y => { y with memDone := false, board := List.replicate 4092 0 ++ leBytes 4 (crc32c (List.replicate 4092 0)) })).sys.namedChannels c && bit 7 c)), memFailed := maskOf 4 (fun c => bit ((up.modHif (fun h => { h with linkDown := true })).modSys (fun y => { y with memDone := false, board := List.replicate 4092 0 ++ leBytes 4 (crc32c (List.replicate 4092 0)) })).sys.namedChannels c && !bit 7 c) }), 7, maskOf 4 (fun c => bit ((up.modHif (fun h => { h with linkDown := true })).modSys (fun y => { y with memDone := false, board := List.replicate 4092 0 ++ leBytes 4 (crc32c (List.replicate 4092 0)) })).sys.namedChannels c && bit 7 c), by refine ⟨by decide +kernel, by decide +kernel, by decide +kernel, by decide +kernel, rfl, rfl⟩⟩,
  ⟨(up.modHif (fun h => { h with linkDown := true })).modSys (fun y => { y with memDone := false }), by decide +kernel⟩,
  ⟨holding up (pkt 0x0101 []), by decide +kernel⟩⟩

/-- States and operands that meet the hypotheses of SramErrorsAreReported, clause by clause. -/
theorem wit_SramErrorsAreReported :
  (∃ (s : State), s.sys.held = false) ∧
  (∃ (s : State), s.sys.held = false ∧ bit s.sys.failed 8 = false) :=
  ⟨⟨up, by decide +kernel⟩,
  ⟨up, by decide +kernel⟩⟩

/-- States and operands that meet the hypotheses of PortsAndPins, clause by clause. -/
theorem wit_PortsAndPins :
  (∃ (s : State), s.running = true) ∧
  (∃ (s : State) (cs : Bool) (we : Bool), (cs = true ∨ we = false ∨ s.running = false)) ∧
  (∃ (s : State) (r : Fin 4) (c : Cmd), s.atOnce r 0x1001 c ∧ u8 c.packet 8 = 2 ∧ u8 c.packet 9 ≤ 12 ∧ u64 c.packet 16 = 0) ∧
  (∃ (s : State) (a : Fin 512), s.running = true ∧ s.rim.writesEn = true ∧ a.val < 64) ∧
  (∃ (s : State) (a : Nat) (v : BitVec 32), s.rim.windowNext = none ∧ s.rim.inboxNext = [(a, v)]) ∧
  (∃ (s : State) (a : Fin 512), s.running = true ∧ (s.rim.writesEn = false ∨ 64 ≤ a.val)) ∧
  (∃ (s : State) (r : Fin 4) (c : Cmd), s.atOnce r 0x1002 c ∧ u8 c.packet 8 ≤ 15 ∧ u8 c.packet 9 = 1 ∧ u32 c.packet 12 ≤ 2 ^ 20 ∧ s.fir.runs = false) ∧
  (∃ (s : State), s.gng.rxEn = false) ∧
  (∃ (s : State), s.gng.rxEn = true ∧ s.gng.codeErr < 2 ^ 16) ∧
  (∃ (s : State), s.gng.rxEn = true ∧ s.gng.rxLock = false ∧ s.gng.kRun = 0) ∧
  (∃ (s : State), s.gng.rxEn = true ∧ s.gng.rxLock = true ∧ s.gng.faultAges = []) ∧
  (∃ (s : State) (m : Fin 2), s.running = true ∧ (s.i2cM m).jobs = []) ∧
  (∃ (s : State) (m : Fin 2) (k : Nat) (a : Nat) (g : Nat) (old : Bool), s.running = true ∧ (s.i2cM m).jobs = [.sensor k a g old]) ∧
  (∃ (s : State) (m : Fin 2) (w : BitVec 32) (rest : List I2cJob), s.running = true ∧ (s.i2cM m).jobs = .host w :: rest) ∧
  (∃ (s : State) (m : Fin 2) (w : BitVec 32), (s.i2cM m).jobs = [.host w]) ∧
  (∃ (s : State) (r : Fin 4) (c : Cmd), s.atOnce r 0x1003 c ∧ u8 c.packet 8 ≤ 31 ∧ u8 c.packet 9 < 3 ∧ u8 c.packet 10 = 1 ∧ s.pinHeld (u8 c.packet 8) = false ∧ (s.pin (u8 c.packet 8)).mode ≠ 3) ∧
  (∃ (g : Gpio) (y : BitVec 32), g.seen = some y) ∧
  (∃ (s : State), s.running = true) ∧
  (∃ (s : State) (s0 : State) (pin : Fin 32), s = s0.publishDue ∧ s.running = true ∧ (s.pin pin).mode = 3 ∧ (s.pin pin).leadOnly = false ∧ s.pinHeld pin = false ∧ (s.pin pin).pwmAt = none ∧ s.pinLoop pin = false ∧ s.sys.dormant = .awake) :=
  ⟨⟨up, by decide +kernel⟩,
  ⟨up, true, true, by decide +kernel⟩,
  ⟨holding up (pkt 0x1001 [(8, [2, 12])]), 0, cmd (pkt 0x1001 [(8, [2, 12])]), by decide +kernel⟩,
  ⟨up.modRim (fun m => { m with writesEn := true }), 63, by decide +kernel⟩,
  ⟨up.modRim (fun m => { m with inboxNext := [(63, 7)] }), 63, 7, by decide +kernel⟩,
  ⟨up.modRim (fun m => { m with writesEn := true }), 64, by decide +kernel⟩,
  ⟨holding up (pkt 0x1002 [(8, [15, 1]), (12, leBytes 4 1048576)]), 0, cmd (pkt 0x1002 [(8, [15, 1]), (12, leBytes 4 1048576)]), by decide +kernel⟩,
  ⟨up, by decide +kernel⟩,
  ⟨up.modGng (fun g => { g with rxEn := true }), by decide +kernel⟩,
  ⟨up.modGng (fun g => { g with rxEn := true }), by decide +kernel⟩,
  ⟨up.modGng (fun g => { g with rxEn := true, rxLock := true }), by decide +kernel⟩,
  ⟨up, 1, by decide +kernel⟩,
  ⟨up.setI2cM 1 { jobs := [.sensor 2 41 0 false] }, 1, 2, 41, 0, false, by decide +kernel⟩,
  ⟨up.setI2cM 1 { jobs := [.host 7, .sensor 2 41 0 false] }, 1, 7, [.sensor 2 41 0 false], by decide +kernel⟩,
  ⟨up.setI2cM 1 { jobs := [.host 0x87] }, 1, 0x87, by decide +kernel⟩,
  ⟨holding up (pkt 0x1003 [(8, [31, 2, 1])]), 0, cmd (pkt 0x1003 [(8, [31, 2, 1])]), by decide +kernel⟩,
  ⟨{ seen := some 5 }, 5, by decide +kernel⟩,
  ⟨up, by decide +kernel⟩,
  ⟨(up.modPin 5 (fun p => { p with mode := 3, period := 400, dutyCfg := 100 })).publishDue, (up.modPin 5 (fun p => { p with mode := 3, period := 400, dutyCfg := 100 })), 5, by decide +kernel⟩⟩

/-- States and operands that meet the hypotheses of DeferredCommandsCommit, clause by clause. -/
theorem wit_DeferredCommandsCommit :
  (∃ (s : State) (t : State) (c : Cmd) (n : Nat) (o : OpInfo) (eff : Effect) (res : List Byte), firstStarted s.boundaryDue = some (n, c) ∧ opInfo (pktOpcode c.packet) = some o ∧ opClass o c.packet ≠ .mirrored ∧ effectOf (pktOpcode c.packet) = some eff ∧ eff c s = (t, .done Status.ok res)) ∧
  (∃ (s : State) (r : Fin 4) (c : Cmd), s.turnRing = some r.val ∧ s.startable r.val = some c ∧ opInfo (pktOpcode c.packet) = none) ∧
  (∃ (s : State) (t : State) (tag : Nat) (t0 : Nat) (sent : Nat) (c : Cmd) (eff : Effect) (res : List Byte), s.mirroring tag = some (c, sent, some t0) ∧ t0 ≤ s.pairTick ∧ effectOf (pktOpcode c.packet) = some eff ∧ eff c s = (t, .done Status.ok res)) ∧
  (∃ (s : State) (t : State) (tag : Nat) (t0 : Nat) (stamp : Option Nat) (m : Mirrored) (eff : Effect) (st : Nat) (res : List Byte), s.mirroring tag = none ∧ s.twn.mirrored = [m] ∧ m.tag = tag ∧ m.commit = some t0 ∧ t0 ≤ s.pairTick ∧ effectOf (pktOpcode m.packet) = some eff ∧ eff { id := 0, ring := 0, packet := m.packet, host := m.host } ((s.modTwn (fun w => { w with mirrored := [] })).modSub (fun u => { u with leadStamp := stamp })) = (t, .done st res)) ∧
  (∃ (s : State) (t : State) (tag : Nat) (sent : Nat) (c : Cmd) (eff : Effect) (res : List Byte), s.mirroring tag = some (c, sent, none) ∧ sent + 8000 ≤ s.tick ∧ Instr.ackRecordRx tag ∉ s.pending ∧ effectOf (pktOpcode c.packet) = some eff ∧ eff c (s.modTwn Twn.goAlone) = (t, .done Status.ok res)) :=
  ⟨⟨up.modHif (fun h => { h with inflight := [{ cmd (pkt 0x0105 []) with phase := .waiting 0 0 }] }), (effSysEventMask ({ cmd (pkt 0x0105 []) with phase := .waiting 0 0 }) (up.modHif (fun h => { h with inflight := [{ cmd (pkt 0x0105 []) with phase := .waiting 0 0 }] }))).1, { cmd (pkt 0x0105 []) with phase := .waiting 0 0 }, 0, { code := 0x0105, page := false, defined := [(8, 40)], noBoundary := false, cls := .localTo }, effSysEventMask, [], by refine ⟨by decide +kernel, by decide +kernel, by decide +kernel, rfl, by decide +kernel⟩⟩,
  ⟨holding up (pkt 0x0199 []), 0, cmd (pkt 0x0199 []), by decide +kernel⟩,
  ⟨(up.modTwn (fun t => { t with role := .lead })).modHif (fun h => { h with inflight := [{ cmd (pkt 0x0504 [(8, [1])]) with phase := .mirroring 5 0 (some 1000000) }] }), (effPaceRole ({ cmd (pkt 0x0504 [(8, [1])]) with phase := .mirroring 5 0 (some 1000000) }) ((up.modTwn (fun t => { t with role := .lead })).modHif (fun h => { h with inflight := [{ cmd (pkt 0x0504 [(8, [1])]) with phase := .mirroring 5 0 (some 1000000) }] }))).1, 5, 1000000, 0, { cmd (pkt 0x0504 [(8, [1])]) with phase := .mirroring 5 0 (some 1000000) }, effPaceRole, [], by refine ⟨by decide +kernel, by decide +kernel, rfl, by decide +kernel⟩⟩,
  ⟨up.modTwn (fun t => { t with role := .shadow, mirrored := [{ tag := 5, packet := pkt 0x0504 [(8, [1])], host := .ok [], commit := some 1000000 }] }), (effPaceRole { id := 0, ring := 0, packet := ({ tag := 5, packet := pkt 0x0504 [(8, [1])], host := .ok [], commit := some 1000000 } : Mirrored).packet, host := ({ tag := 5, packet := pkt 0x0504 [(8, [1])], host := .ok [], commit := some 1000000 } : Mirrored).host } (((up.modTwn (fun t => { t with role := .shadow, mirrored := [{ tag := 5, packet := pkt 0x0504 [(8, [1])], host := .ok [], commit := some 1000000 }] })).modTwn (fun w => { w with mirrored := [] })).modSub (fun u => { u with leadStamp := (some 7) }))).1, 5, 1000000, some 7, { tag := 5, packet := pkt 0x0504 [(8, [1])], host := .ok [], commit := some 1000000 }, effPaceRole, 0, [], by refine ⟨by decide +kernel, by decide +kernel, by decide +kernel, by decide +kernel, by decide +kernel, rfl, by decide +kernel⟩⟩,
  ⟨(up.modTwn (fun t => { t with role := .lead })).modHif (fun h => { h with inflight := [{ cmd (pkt 0x0504 [(8, [1])]) with phase := .mirroring 5 992000 none }] }), (effPaceRole ({ cmd (pkt 0x0504 [(8, [1])]) with phase := .mirroring 5 992000 none }) (((up.modTwn (fun t => { t with role := .lead })).modHif (fun h => { h with inflight := [{ cmd (pkt 0x0504 [(8, [1])]) with phase := .mirroring 5 992000 none }] })).modTwn Twn.goAlone)).1, 5, 992000, { cmd (pkt 0x0504 [(8, [1])]) with phase := .mirroring 5 992000 none }, effPaceRole, [], by refine ⟨by decide +kernel, by decide +kernel, by decide +kernel, rfl, by decide +kernel⟩⟩⟩

/-- States and operands that meet the hypotheses of StagingChangesTheStagedSet, clause by clause. -/
theorem wit_StagingChangesTheStagedSet :
  (∃ (s : State) (r : Fin 4) (c : Cmd), s.atOnce r 0x0201 c ∧ u8 c.packet 8 ≤ 15 ∧ u8 c.packet 9 ≠ 0) ∧
  (∃ (s : State) (r : Fin 4) (c : Cmd), s.atOnce r 0x0202 c ∧ u8 c.packet 8 ≤ 63 ∧ u8 c.packet 9 ≤ 7 ∧ u8 c.packet 10 ≤ 15 ∧ u8 c.packet 11 ≤ 1 ∧ u32 c.packet 12 < 2 ^ 24 ∧ u8 c.packet 24 ≤ 1) ∧
  (∃ (s : State) (r : Fin 4) (c : Cmd), s.atOnce r 0x0203 c ∧ tableParamsBad c.packet = false ∧ u32 c.packet 16 ≤ s.geo.staged.runs.length ∧ u8 c.packet 24 = 0) ∧
  (∃ (s : State) (r : Fin 4) (c : Cmd), s.atOnce r 0x0204 c ∧ tableParamsBad c.packet = false ∧ u32 c.packet 16 ≤ s.geo.staged.excs.length ∧ u8 c.packet 24 = 1) :=
  ⟨⟨holding up (pkt 0x0201 [(8, [15, 2, 1, 2]), (12, leBytes 2 512), (16, leBytes 4 64000)]), 0, cmd (pkt 0x0201 [(8, [15, 2, 1, 2]), (12, leBytes 2 512), (16, leBytes 4 64000)]), by decide +kernel⟩,
  ⟨holding up (pkt 0x0202 [(8, [63, 7, 15, 1]), (12, leBytes 4 0xFFFFFF), (24, [1])]), 0, cmd (pkt 0x0202 [(8, [63, 7, 15, 1]), (12, leBytes 4 0xFFFFFF), (24, [1])]), by decide +kernel⟩,
  ⟨holding up (pkt 0x0203 [(20, leBytes 4 1)]), 0, cmd (pkt 0x0203 [(20, leBytes 4 1)]), by decide +kernel⟩,
  ⟨holding up (pkt 0x0204 [(20, leBytes 4 1), (24, [1])]), 0, cmd (pkt 0x0204 [(20, leBytes 4 1), (24, [1])]), by decide +kernel⟩⟩

/-- States and operands that meet the hypotheses of GenerationsAreCommittedAndActivated, clause by clause. -/
theorem wit_GenerationsAreCommittedAndActivated :
  (∃ (s : State) (r : Fin 4) (c : Cmd), s.atOnce r 0x0205 c ∧ u8 c.packet 8 = 0 ∧ s.geoCheck s.geo.staged = none ∧ s.anyLive = true) ∧
  (∃ (s : State) (r : Fin 4) (c : Cmd), s.atOnce r 0x0205 c ∧ u8 c.packet 8 = 1 ∧ s.geoCheck s.geo.staged = none) ∧
  (∃ (s : State) (r : Fin 4) (c : Cmd) (n : Nat) (st : Nat) (kind : Nat) (index : Nat), s.atOnce r 0x0205 c ∧ u8 c.packet 8 ≤ 1 ∧ s.geoCheck s.geo.staged = some (n, st, kind, index) ∧ st ≠ Status.ok) ∧
  (∃ (s : State), s.geo.pending ≠ 0 ∧ s.geo.pendingTick < s.tick ∧ s.anyLive = false) :=
  ⟨⟨holding ((up.setCtx 1 { state := .queued, lines := 16 })) (pkt 0x0205 []), 0, cmd (pkt 0x0205 []), by decide +kernel⟩,
  ⟨holding up (pkt 0x0205 [(8, [1])]), 0, cmd (pkt 0x0205 [(8, [1])]), by decide +kernel⟩,
  ⟨holding ((up.modGeo (fun g => { g with staged := { g.staged with classes := g.staged.classes.set {} 15 { bits := 3 } } }))) (pkt 0x0205 []), 0, cmd (pkt 0x0205 []), 2, Status.geoInconsistent, 1, 15, by decide +kernel⟩,
  ⟨up.modGeo (fun g => { g with gens := [{ serial := 1 }], pending := 1, lastSerial := 1 }), by decide +kernel⟩⟩

/-- States and operands that meet the hypotheses of PagesAreOpenedLoadedAndVerified, clause by clause. -/
theorem wit_PagesAreOpenedLoadedAndVerified :
  (∃ (s : State) (r : Fin 4) (c : Cmd), s.atOnce r 0x0301 c ∧ u32 c.packet 8 ≠ 0 ∧ u32 c.packet 8 ≤ 4261412864 ∧ u8 c.packet 16 ≤ 3 ∧ (s.ctx (pktPage c.packet)).state.held = false ∧ s.referenced (pktPage c.packet) = false) ∧
  (∃ (s : State) (r : Fin 4) (c : Cmd) (b : List Byte) (ts : List Tile), s.atOnce r 0x0302 c ∧ u64 c.packet 8 % 16 = 0 ∧ u8 c.packet 16 ≤ 63 ∧ u16 c.packet 17 ≤ 511 ∧ u32 c.packet 24 ≠ 0 ∧ u32 c.packet 24 ≤ 65536 ∧ (s.ctx (pktPage c.packet)).state = .loading ∧ u32 c.packet 20 + u32 c.packet 24 ≤ (s.ctx (pktPage c.packet)).rowCount ∧ (s.ctx (pktPage c.packet)).tiles = [] ∧ s.parseTiles (pktPage c.packet) (u8 c.packet 16) (u16 c.packet 17) (pktTag c.packet) (u32 c.packet 20) (entriesOf 16 (u32 c.packet 24) b) = some ts ∧ s.pageDram + s.stkDram + sumNat (ts.map Tile.len) ≤ s.sys.memGib * 2 ^ 30) ∧
  (∃ (s : State) (ctx : Fin 256) (i : Nat) (t : Tile), (s.ctx ctx).tiles[i]? = some t ∧ (s.ctx ctx).state = .loading ∧ t.isHost = true ∧ t.bytes = none ∧ t.readFail = none ∧ (s.ctx ctx).pulledTo i = true) ∧
  (∃ (s : State) (ctx : Fin 256) (i : Nat), (s.ctx ctx).pulledTo i = false) ∧
  (∃ (s : State) (r : Fin 4) (c : Cmd), s.atOnce r 0x0303 c ∧ (s.ctx (pktPage c.packet)).state = .loading) ∧
  (∃ (s : State) (ctx : Fin 256) (i : Nat) (t : Tile) (b : List Byte), (s.ctx ctx).tiles[i]? = some t ∧ (s.ctx ctx).state = .staged ∧ t.bytes = some b ∧ t.decoded = false ∧ tileCont b = false ∧ t.row = 0 ∧ (s.ctx ctx).stripOrder t = true) ∧
  (∃ (s : State) (ctx : Fin 256) (x : Ctx), (s.ctx ctx).state = .staged ∧ (s.ctx ctx).waitsPred = false ∧ (s.ctx ctx).tiles.all Tile.settled = true ∧ (s.ctx ctx).pred = 0 ∧ (s.ctx ctx).succ = 0 ∧ s.genStale (s.ctx ctx).gen = false ∧ s.tileCheck ctx (s.setOf (s.ctx ctx).gen) = none ∧ s.judgeBudget ctx (s.setOf (s.ctx ctx).gen) = (x, true)) :=
  ⟨⟨holding up (pkt 0x0301 [(3, [255]), (8, leBytes 4 4261412864), (16, [3])]), 0, cmd (pkt 0x0301 [(3, [255]), (8, leBytes 4 4261412864), (16, [3])]), by decide +kernel⟩,
  ⟨holding ((up.setCtx 1 { state := .loading, lines := 16 })) (pkt 0x0302 [(3, [1]), (16, [63]), (17, leBytes 2 511), (24, leBytes 4 1)]), 0, cmd (pkt 0x0302 [(3, [1]), (16, [63]), (17, leBytes 2 511), (24, leBytes 4 1)]), zeros 12 ++ [2, 0, 0, 0], [{ plane := 63, strip := 511, row := 0, kind := .blank, entry := zeros 12 ++ [2, 0, 0, 0] }], by decide +kernel⟩,
  ⟨up.setCtx 255 { state := .loading, lines := 16, tiles := [{ plane := 0, strip := 0, row := 0, kind := .host 64 32 }] }, 255, 0, { plane := 0, strip := 0, row := 0, kind := .host 64 32 }, by decide +kernel⟩,
  ⟨up.setCtx 255 { state := .loading, lines := 64, tiles := [{ plane := 0, strip := 0, row := 0, kind := .host 64 32 }, { plane := 0, strip := 0, row := 1, kind := .host 96 32 }] }, 255, 1, by decide +kernel⟩,
  ⟨holding ((up.setCtx 1 { state := .loading, lines := 16 })) (pkt 0x0303 [(3, [1])]), 0, cmd (pkt 0x0303 [(3, [1])]), by decide +kernel⟩,
  ⟨up.setCtx 255 { state := .staged, lines := 16, tiles := [{ plane := 0, strip := 0, row := 0, kind := .host 64 32, bytes := some (zeros 32) }] }, 255, 0, { plane := 0, strip := 0, row := 0, kind := .host 64 32, bytes := some (zeros 32) }, zeros 32, by decide +kernel⟩,
  ⟨((holding up (pkt 0x0303 [(3, [1])])).modGeo (fun g => { g with gens := [{ serial := 1 }], active := 1, lastSerial := 1 })).setCtx 1 { state := .staged, gen := 1, lines := 16, closeCmd := some 1 }, 1, ((((holding up (pkt 0x0303 [(3, [1])])).modGeo (fun g => { g with gens := [{ serial := 1 }], active := 1, lastSerial := 1 })).setCtx 1 { state := .staged, gen := 1, lines := 16, closeCmd := some 1 }).judgeBudget 1 ((((holding up (pkt 0x0303 [(3, [1])])).modGeo (fun g => { g with gens := [{ serial := 1 }], active := 1, lastSerial := 1 })).setCtx 1 { state := .staged, gen := 1, lines := 16, closeCmd := some 1 }).setOf 1)).1, by decide +kernel⟩⟩

/-- States and operands that meet the hypotheses of PagesAreQueuedChainedAndEnded, clause by clause. -/
theorem wit_PagesAreQueuedChainedAndEnded :
  (∃ (s : State) (r : Fin 4) (c : Cmd), s.atOnce r 0x0304 c ∧ u8 c.packet 8 = 1 ∧ u32 c.packet 12 = 0 ∧ u48 c.packet 16 % 16 = 0 ∧ s.pressLine + 64 ≤ u48 c.packet 16 ∧ (s.ctx (pktPage c.packet)).state = .verified ∧ (s.ctx (pktPage c.packet)).pred = 0 ∧ (s.ctx (pktPage c.packet)).succ = 0 ∧ s.geo.active ≤ (s.ctx (pktPage c.packet)).gen ∧ s.genStale (s.ctx (pktPage c.packet)).gen = false ∧ s.anyLive = false ∧ s.partnerLacks (pktPage c.packet) = false) ∧
  (∃ (s : State) (r : Fin 4) (c : Cmd), s.atOnce r 0x0307 c ∧ u8 c.packet 8 ≠ 0 ∧ u8 c.packet 8 ≠ pktPage c.packet ∧ (s.ctx (u8 c.packet 8)).state = .loading ∧ (s.ctx (u8 c.packet 8)).succ = 0 ∧ (s.ctx (u8 c.packet 8)).abortAt = none ∧ s.pgq.ctxs.entries.all (fun e => !(e.2.live && e.2.behind == u8 c.packet 8)) ∧ (s.ctx (pktPage c.packet)).state = .loading ∧ (s.ctx (pktPage c.packet)).pred = 0 ∧ (s.ctx (pktPage c.packet)).succ = 0 ∧ s.partnerLacks (pktPage c.packet) = false) ∧
  (∃ (s : State) (r : Fin 4) (c : Cmd), s.atOnce r 0x0305 c ∧ (s.ctx (pktPage c.packet)).state = .verified ∧ (s.ctx (pktPage c.packet)).pred = 0 ∧ (s.ctx (pktPage c.packet)).succ = 0 ∧ (s.ctx (pktPage c.packet)).closeCmd = none) ∧
  (∃ (s : State) (r : Fin 4) (c : Cmd), s.atOnce r 0x0306 c) :=
  ⟨⟨holding (((up.modGeo (fun g => { g with gens := [{ serial := 1 }], active := 1, lastSerial := 1 })).setCtx 1 { state := .verified, gen := 1, lines := 16 })) (pkt 0x0304 [(3, [1]), (8, [1]), (16, leBytes 6 64)]), 0, cmd (pkt 0x0304 [(3, [1]), (8, [1]), (16, leBytes 6 64)]), by decide +kernel⟩,
  ⟨holding (((up.setCtx 1 { state := .loading, lines := 16 }).setCtx 2 { state := .loading, lines := 16 })) (pkt 0x0307 [(3, [2]), (8, [1])]), 0, cmd (pkt 0x0307 [(3, [2]), (8, [1])]), by decide +kernel⟩,
  ⟨holding (((up.modGeo (fun g => { g with gens := [{ serial := 1 }], active := 1, lastSerial := 1 })).setCtx 1 { state := .verified, gen := 1, lines := 16 })) (pkt 0x0305 [(3, [1])]), 0, cmd (pkt 0x0305 [(3, [1])]), by decide +kernel⟩,
  ⟨holding (((up.modGeo (fun g => { g with gens := [{ serial := 1 }], active := 1, lastSerial := 1 })).setCtx 1 { state := .verified, gen := 1, lines := 16 })) (pkt 0x0306 [(3, [1])]), 0, cmd (pkt 0x0306 [(3, [1])]), by decide +kernel⟩⟩

/-- States and operands that meet the hypotheses of StreamsAndTheirBlocks, clause by clause. -/
theorem wit_StreamsAndTheirBlocks :
  (∃ (s : State) (r : Fin 4) (c : Cmd), s.atOnce r 0x0F01 c ∧ u8 c.packet 8 ≤ 15 ∧ u8 c.packet 9 = 0 ∧ u8 c.packet 10 ≤ 3 ∧ (s.stream (u8 c.packet 8)).state = .closed) ∧
  (∃ (s : State) (r : Fin 4) (c : Cmd), s.atOnce r 0x0F04 c ∧ u8 c.packet 8 ≤ 15 ∧ u64 c.packet 16 % 64 = 0 ∧ (s.stream (u8 c.packet 8)).state = .compress ∧ s.cmp.active (u8 c.packet 8) = false) ∧
  (∃ (s : State) (k : Fin 16) (x : CmpSave), s.cmp.saves = [x] ∧ x.stream = k.val ∧ s.hif.linkDown = false) ∧
  (∃ (s : State) (r : Fin 4) (c : Cmd) (b : List Byte), s.atOnce r 0x0F05 c ∧ u8 c.packet 8 ≤ 15 ∧ u64 c.packet 16 % 64 = 0 ∧ (s.stream (u8 c.packet 8)).state = .closed ∧ b.length = 32768) ∧
  (∃ (s : State) (r : Fin 4) (c : Cmd), s.atOnce r 0x0F06 c ∧ u8 c.packet 8 ≤ 15 ∧ (s.stream (u8 c.packet 8)).state = .decompress ∧ s.cmp.active (u8 c.packet 8) = false) ∧
  (∃ (s : State) (r : Fin 4) (c : Cmd) (b : List Byte), s.atOnce r 0x0F02 c ∧ u8 c.packet 8 ≤ 15 ∧ u8 c.packet 9 = 0 ∧ 0 < u32 c.packet 12 ∧ u32 c.packet 12 ≤ 65536 ∧ u32 c.packet 12 + 16 ≤ u32 c.packet 32 ∧ b.length = u32 c.packet 12 ∧ (s.stream (u8 c.packet 8)).state = .compress ∧ s.cmp.inService ≠ 0) ∧
  (∃ (s : State) (r : Fin 4) (c : Cmd) (b : List Byte), s.atOnce r 0x0F03 c ∧ u8 c.packet 8 ≤ 15 ∧ u8 c.packet 9 = 0 ∧ 14 ≤ u32 c.packet 12 ∧ u32 c.packet 12 ≤ 65552 ∧ b.length = u32 c.packet 12 ∧ (s.stream (u8 c.packet 8)).state = .decompress) ∧
  (∃ (s : State) (u : Fin 4) (j : CmpJob) (id : Nat), s.cmp.jobs = [j] ∧ j.unit = some u.val ∧ j.decompress = false ∧ j.cmd = some id ∧ j.outLocal = false ∧ s.hif.linkDown = false ∧ j.fresh = true ∧ s.sys.dormant = .awake) :=
  ⟨⟨holding up (pkt 0x0F01 [(8, [15, 0, 3])]), 0, cmd (pkt 0x0F01 [(8, [15, 0, 3])]), by decide +kernel⟩,
  ⟨holding ((up.setStream 15 { state := .compress })) (pkt 0x0F04 [(8, [15]), (16, leBytes 8 64)]), 0, cmd (pkt 0x0F04 [(8, [15]), (16, leBytes 8 64)]), by decide +kernel⟩,
  ⟨(holding up (pkt 0x0F04 [])).modCmp (fun m => { m with saves := [{ cmd := 1, stream := 15, addr := 64, image := [1, 2] }] }), 15, { cmd := 1, stream := 15, addr := 64, image := [1, 2] }, by decide +kernel⟩,
  ⟨holding up (pkt 0x0F05 [(8, [15]), (16, leBytes 8 64)]), 0, cmd (pkt 0x0F05 [(8, [15]), (16, leBytes 8 64)]), List.replicate 32768 0, by exact ⟨by decide +kernel, by decide +kernel, by decide +kernel, by decide +kernel, List.length_replicate⟩⟩,
  ⟨holding ((up.setStream 15 { state := .decompress })) (pkt 0x0F06 [(8, [15])]), 0, cmd (pkt 0x0F06 [(8, [15])]), by decide +kernel⟩,
  ⟨holding ((up.setStream 0 { state := .compress })) (pkt 0x0F02 [(12, leBytes 4 1), (32, leBytes 4 17)]), 0, cmd (pkt 0x0F02 [(12, leBytes 4 1), (32, leBytes 4 17)]), [7], by decide +kernel⟩,
  ⟨holding ((up.setStream 0 { state := .decompress })) (pkt 0x0F03 [(12, leBytes 4 14)]), 0, cmd (pkt 0x0F03 [(12, leBytes 4 14)]), zeros 14, by decide +kernel⟩,
  ⟨((holding up (pkt 0x0F02 [])).setStream 0 { state := .compress }).modCmp (fun m => { m with jobs := [{ cmd := some 1, stream := 0, decompress := false, unit := some 1, input := [7], outAddr := 64, outLocal := false, outCap := 100, fresh := true }] }), 1, { cmd := some 1, stream := 0, decompress := false, unit := some 1, input := [7], outAddr := 64, outLocal := false, outCap := 100, fresh := true }, 1, by decide +kernel⟩⟩

/-- States and operands that meet the hypotheses of CompressedBlocksDecodeToTheirInput, clause by clause. -/
theorem wit_CompressedBlocksDecodeToTheirInput :
  (∃ (input : List Byte), input ≠ [] ∧ input.length ≤ 65536 ∧ (∀ b ∈ input, b < 256)) :=
  ⟨[7, 255], by decide +kernel⟩

/-- States and operands that meet the hypotheses of EnginesPrepareBeatsAndLeave, clause by clause. -/
theorem wit_EnginesPrepareBeatsAndLeave :
  (∃ (s : State) (b : Beat), s.mal.formed = [b] ∧ s.slotFree (laneOfDie b.die) (b.x + 15) = true ∧ (s.laneRing (laneOfDie b.die)).depth1 = false) ∧
  (∃ (s : State) (e : Fin 64) (k : Nat) (b : Beat), s.pickContext (s.engine e) = some (k, b) ∧ s.activeReaders b b.line = [] ∧ (match s.fir.lastLine with | some l => l < b.x + b.line | none => True) ∧ s.stk.enabled = false) ∧
  (∃ (s : State) (e : Fin 64) (k : Nat) (b : Beat), s.pickContext (s.engine e) = some (k, b) ∧ s.memLost = true ∧ s.activeReaders b b.line ≠ [] ∧ (match s.fir.lastLine with | some l => l < b.x + b.line | none => True)) ∧
  (∃ (s : State) (e : Fin 64) (b : Beat), (s.engine e).cur = 0 ∧ (s.engine e).ctx0 = some b ∧ 16 ≤ b.line ∧ (s.engine e).offline = false) ∧
  (∃ (s : State) (e : Fin 64), (s.engine e).outCause = 0 ∧ (s.engine e).ctx0 = none ∧ (s.engine e).ctx1 = none) ∧
  (∃ (s : State) (e : Fin 64) (b : Beat), s.inService e = true ∧ (s.engine e).ctx0 = some b ∧ 2 * b.cost + 4096 < 6 * b.ran ∧ s.arrives (· == .engineBeatDone e) = false) :=
  ⟨⟨up.modMal (fun m => { m with formed := [{ die := 3, x := 0, cost := 100, gen := 0, pages := [] }] }), { die := 3, x := 0, cost := 100, gen := 0, pages := [] }, by decide +kernel⟩,
  ⟨up.modEngine 63 (fun g => { g with ctx0 := some { die := 3, x := 0, cost := 100, gen := 0, pages := [] } }), 63, 0, { die := 3, x := 0, cost := 100, gen := 0, pages := [] }, by exact ⟨by decide +kernel, by decide +kernel, trivial, by decide +kernel⟩⟩,
  ⟨((up.modSys (fun y => { y with pllLock := 13 })).modGeo (fun g => { g with gens := [{ serial := 1, set := { classes := (Table.set {} {} 0 { bits := 1, dies := 2, rows := 1, nozzles := 1 } : Table HeadClass), heads := (Table.set {} {} 1 { cls := 0 } : Table HeadPlace), runs := [leBytes 4 6144 ++ zeros 4 ++ [1, 0, 0, 1, 0, 0, 0, 0]] } }] })).modEngine 63 (fun g => { g with ctx0 := some { die := 3, x := 0, cost := 100, gen := 1, pages := [{ ctx := 1, start := 0, gen := 1, lines := 16 }] } }), 63, 0, { die := 3, x := 0, cost := 100, gen := 1, pages := [{ ctx := 1, start := 0, gen := 1, lines := 16 }] }, by exact ⟨by decide +kernel, by decide +kernel, by decide +kernel, trivial⟩⟩,
  ⟨up.modEngine 63 (fun g => { g with ctx0 := some { die := 3, x := 0, cost := 100, gen := 0, pages := [], line := 16 } }), 63, { die := 3, x := 0, cost := 100, gen := 0, pages := [], line := 16 }, by decide +kernel⟩,
  ⟨up, 63, by decide +kernel⟩,
  ⟨up.modEngine 63 (fun g => { g with ctx0 := some { die := 3, x := 0, cost := 100, gen := 0, pages := [], ran := 1000 } }), 63, { die := 3, x := 0, cost := 100, gen := 0, pages := [], ran := 1000 }, by decide +kernel⟩⟩

/-- States and operands that meet the hypotheses of SubstitutionTablesChange, clause by clause. -/
theorem wit_SubstitutionTablesChange :
  (∃ (s : State) (r : Fin 4) (c : Cmd) (n : Nat), s.atOnce r 0x0401 c ∧ u64 c.packet 8 = 0 ∧ u32 c.packet 16 = 1 ∧ u8 c.packet 20 = 0 ∧ zeroRange c.packet 28 56 = true ∧ u32 c.packet 24 = n + 131 * 2 ^ 21 ∧ n < 2 ^ 21 ∧ nozState s.sub.cur n ≠ stDead ∧ s.sub.leadStamp = none) ∧
  (∃ (s : State) (r : Fin 4) (c : Cmd), s.atOnce r 0x0402 c ∧ u8 c.packet 8 ≤ 15 ∧ u8 c.packet 9 ≤ 15 ∧ (s.activeSet.classAt (u8 c.packet 8)).bits = 0 ∧ u8 c.packet 16 = 0 ∧ (∀ i < 16, u8 c.packet (16 + i) < 16) ∧ (List.range 16).map (fun i => u8 c.packet (16 + i)) ≠ identityMap ∧ s.sub.leadStamp = none) ∧
  (∃ (s : State) (r : Fin 4) (c : Cmd), s.atOnce r 0x0403 c ∧ u8 c.packet 8 ≤ 15 ∧ u8 c.packet 9 < 4 ∧ s.sub.leadStamp = none) ∧
  (∃ (s : State) (r : Fin 4) (c : Cmd), s.atOnce r 0x0404 c ∧ u8 c.packet 8 = 0 ∧ u16 c.packet 12 ≤ 1023 ∧ zeroRange c.packet 16 32 = true) :=
  ⟨⟨holding up (pkt 0x0401 [(16, leBytes 4 1), (24, leBytes 4 (2097151 + 131 * 2097152))]), 0, cmd (pkt 0x0401 [(16, leBytes 4 1), (24, leBytes 4 (2097151 + 131 * 2097152))]), 2097151, by decide +kernel⟩,
  ⟨holding up (pkt 0x0402 [(8, [15, 15]), (17, [2, 1])]), 0, cmd (pkt 0x0402 [(8, [15, 15]), (17, [2, 1])]), by decide +kernel⟩,
  ⟨holding up (pkt 0x0403 [(8, [15, 3])]), 0, cmd (pkt 0x0403 [(8, [15, 3])]), by decide +kernel⟩,
  ⟨holding up (pkt 0x0404 [(12, leBytes 2 1023)]), 0, cmd (pkt 0x0404 [(12, leBytes 2 1023)]), by decide +kernel⟩⟩

/-- States and operands that meet the hypotheses of PacingIsConfiguredStartedAndStopped, clause by clause. -/
theorem wit_PacingIsConfiguredStartedAndStopped :
  (∃ (s : State) (r : Fin 4) (c : Cmd) (u : State), s.atOnce r 0x0501 c ∧ paceBad c.packet = false ∧ bit (u8 c.packet 11) 1 = false ∧ s.fir.state = .stopped ∧ u = (s.begun r c (.ok [])).modFir (fun f => { f with cfg := parsePace c.packet, cfgDone := true, ratioNext := none, trim := 0, c := 0, capped := f.capped && (parsePace c.packet).source == f.cfg.source })) ∧
  (∃ (s : State) (r : Fin 4) (c : Cmd), s.atOnce r 0x0501 c ∧ paceBad c.packet = false ∧ bit (u8 c.packet 11) 1 = true ∧ s.fir.state ≠ .halted ∧ s.fir.ratioNext = none) ∧
  (∃ (s : State) (r : Fin 4) (c : Cmd), s.atOnce r 0x0504 c ∧ u8 c.packet 8 ≤ 2 ∧ zeroRange c.packet 9 64 = true ∧ s.fir.state = .stopped) ∧
  (∃ (s : State) (r : Fin 4) (c : Cmd) (l : Nat) (ch : Chan), s.atOnce r 0x0502 c ∧ u16 c.packet 14 = 0 ∧ zeroRange c.packet 25 64 = true ∧ u64 c.packet 16 ≥ s.fir.cfg.pitch ∧ u8 c.packet 24 = 0 ∧ s.fir.role = 2 ∧ s.fir.cfg.source = 3 ∧ s.fir.cfg.scanning = false ∧ s.fir.state = .stopped ∧ s.fir.cfgDone = true ∧ s.geo.active ≠ 0 ∧ s.sourceAbsent = false ∧ s.latencyShort = false ∧ s.gng.otherLow = false ∧ s.fir.stopWait = [] ∧ s.fir.lastLine = some l ∧ s.slipChan = some ch) ∧
  (∃ (s : State) (r : Fin 4) (c : Cmd), s.atOnce r 0x0503 c ∧ u8 c.packet 8 = 0 ∧ u8 c.packet 9 = 0 ∧ zeroRange c.packet 10 16 = true ∧ zeroRange c.packet 22 64 = true ∧ s.fir.state = .running ∧ s.fir.paced = true ∧ s.fir.role ≠ 1 ∧ s.fir.stopWait = []) ∧
  (∃ (s : State) (r : Fin 4) (c : Cmd), s.atOnce r 0x0505 c) :=
  ⟨⟨holding up (pkt 0x0501 [(8, [2, 0, 255]), (16, leBytes 8 4294967296), (24, leBytes 8 4294967296), (36, leBytes 4 100)]), 0, cmd (pkt 0x0501 [(8, [2, 0, 255]), (16, leBytes 8 4294967296), (24, leBytes 8 4294967296), (36, leBytes 4 100)]), ((holding up (pkt 0x0501 [(8, [2, 0, 255]), (16, leBytes 8 4294967296), (24, leBytes 8 4294967296), (36, leBytes 4 100)])).begun 0 (cmd (pkt 0x0501 [(8, [2, 0, 255]), (16, leBytes 8 4294967296), (24, leBytes 8 4294967296), (36, leBytes 4 100)])) (.ok [])).modFir (fun f => { f with cfg := parsePace (cmd (pkt 0x0501 [(8, [2, 0, 255]), (16, leBytes 8 4294967296), (24, leBytes 8 4294967296), (36, leBytes 4 100)])).packet, cfgDone := true, ratioNext := none, trim := 0, c := 0 }), by decide +kernel⟩,
  ⟨holding ((up.modFir (fun f => { f with cfgDone := true, cfg := { source := 2, pitch := 4294967296, rNom := 4294967296, fireLat := 100 } }))) (pkt 0x0501 [(8, [2, 0, 255, 2]), (16, leBytes 8 4294967296), (24, leBytes 8 4294967296), (36, leBytes 4 100)]), 0, cmd (pkt 0x0501 [(8, [2, 0, 255, 2]), (16, leBytes 8 4294967296), (24, leBytes 8 4294967296), (36, leBytes 4 100)]), by decide +kernel⟩,
  ⟨holding up (pkt 0x0504 [(8, [2])]), 0, cmd (pkt 0x0504 [(8, [2])]), by decide +kernel⟩,
  ⟨holding ((((up.modFir (fun f => { f with role := 2, cfgDone := true, lastLine := some 41, goodFrameAt := some 999000, cfg := { source := 3, slipEnc := 7, pitch := 4294967296, rNom := 4294967296, fireLat := 100 } })).modChan 7 (fun c => { c with configured := true, eh := 5 })).modGeo (fun g => { g with gens := [{ serial := 1 }], active := 1, lastSerial := 1 }))) (pkt 0x0502 [(16, leBytes 8 4294967296)]), 0, cmd (pkt 0x0502 [(16, leBytes 8 4294967296)]), 41, ((holding ((((up.modFir (fun f => { f with role := 2, cfgDone := true, lastLine := some 41, goodFrameAt := some 999000, cfg := { source := 3, slipEnc := 7, pitch := 4294967296, rNom := 4294967296, fireLat := 100 } })).modChan 7 (fun c => { c with configured := true, eh := 5 })).modGeo (fun g => { g with gens := [{ serial := 1 }], active := 1, lastSerial := 1 }))) (pkt 0x0502 [(16, leBytes 8 4294967296)])).slipChan).getD {}, by decide +kernel⟩,
  ⟨holding ((up.modFir (fun f => { f with state := .running, paced := true, nextLine := 9 }))) (pkt 0x0503 []), 0, cmd (pkt 0x0503 []), by decide +kernel⟩,
  ⟨holding up (pkt 0x0505 []), 0, cmd (pkt 0x0505 []), by decide +kernel⟩⟩

/-- States and operands that meet the hypotheses of LinesAreTriggeredWhenDue, clause by clause. -/
theorem wit_LinesAreTriggeredWhenDue :
  (∃ (s₀ : State) (s : State) (v : Int) (w : Nat) (d : Nat), s = s₀.winnersFirst ∧ s.awaitsRecord = false ∧ s.testsLines = true ∧ s.fir.retreated = false ∧ s.fallsBack = false ∧ s.fir.trigTick ≠ some s.tick ∧ s.paceSpeed = (v, w) ∧ 0 < s.sigma * v ∧ s.sigma * (s.duePoint s.fir.nextLine - s.fir.q) = d ∧ (d : Int) * w ≤ s.sigma * v * s.fir.cfg.fireLat * 4294967296) ∧
  (∃ (s₀ : State) (s : State) (t : Int) (per : Nat), s = s₀.winnersFirst ∧ s.twn.role = .shadow ∧ s.twn.predTick = none ∧ s.dueNow = some (t, per)) ∧
  (∃ (s : State) (x : List (Fin 4)) (fwd : Bool), s.fir.stepLevel = false ∧ filterLine 2 false (x.map (fun y => bit y.val 0)) = true ∧ paceDir x = some fwd ∧ s.fir.cfg.source = 2 ∧ s.fir.paced = true ∧ s.fir.between = true ∧ s.fir.lastEdge = none) ∧
  (∃ (s : State) (x : List (Fin 4)), filterLine 2 s.fir.stepLevel (x.map (fun y => bit y.val 0)) = s.fir.stepLevel) ∧
  (∃ (s₀ : State) (s : State), s = s₀.winnersFirst ∧ s.testsLines = true ∧ s.fir.retreated = false ∧ s.sigma * s.fir.q < s.fir.hwm - (s.fir.cfg.backTol : Int) * 4294967296) ∧
  (∃ (s : State), s.fir.paced = true ∧ s.fir.between = true ∧ s.fir.holding = false ∧ s.fir.state = .hold ∧ s.fir.cfg.source < 3 ∧ (s.fir.cfg.pitch : Int) ≤ s.sigma * s.duePoint s.fir.passStart - s.sigma * s.fir.q) ∧
  (∃ (s₀ : State) (s : State), s = s₀.winnersFirst ∧ s.fir.paced = true ∧ s.fir.holding = true ∧ s.fir.cfg.source < 3 ∧ s.fir.trigTick ≠ some s.tick ∧ s.awaitsRecord = false ∧ s.floorAt s.fir.nextLine ≤ 24 * (s.tick - s.fir.holdTick)) ∧
  (∃ (s₀ : State) (s : State), s = s₀.winnersFirst ∧ s.fir.paced = true ∧ s.fir.holding = true ∧ s.fir.cfg.source < 3 ∧ s.fir.trigTick ≠ some s.tick ∧ s.twn.role = .shadow ∧ s.twn.predTick = none ∧ s.floorAt s.fir.nextLine ≤ 24 * (s.tick - s.fir.holdTick)) :=
  ⟨⟨(up.modFir (fun f => { f with cfgDone := true, paced := true, state := .running, lastEdge := some 999999, lastInterval := some 10, dist := 10 * 4294967296, cfg := { source := 2, pitch := 4294967296, rNom := 4294967296, fireLat := 100 } })), ((up.modFir (fun f => { f with cfgDone := true, paced := true, state := .running, lastEdge := some 999999, lastInterval := some 10, dist := 10 * 4294967296, cfg := { source := 2, pitch := 4294967296, rNom := 4294967296, fireLat := 100 } }))).winnersFirst, 9223372036854775808, 9223372036854775808 * 10, 10 * 4294967296, by decide +kernel⟩,
  ⟨(up.modFir (fun f => { f with cfgDone := true, paced := true, state := .running, lastEdge := some 999999, lastInterval := some 10, dist := 10 * 4294967296, cfg := { source := 2, pitch := 4294967296, rNom := 4294967296, fireLat := 100 } })).modTwn (fun t => { t with role := .shadow }), ((up.modFir (fun f => { f with cfgDone := true, paced := true, state := .running, lastEdge := some 999999, lastInterval := some 10, dist := 10 * 4294967296, cfg := { source := 2, pitch := 4294967296, rNom := 4294967296, fireLat := 100 } })).modTwn (fun t => { t with role := .shadow })).winnersFirst, ((((up.modFir (fun f => { f with cfgDone := true, paced := true, state := .running, lastEdge := some 999999, lastInterval := some 10, dist := 10 * 4294967296, cfg := { source := 2, pitch := 4294967296, rNom := 4294967296, fireLat := 100 } })).modTwn (fun t => { t with role := .shadow })).winnersFirst).dueNow.getD (0, 0)).1, 240, by decide +kernel⟩,
  ⟨up.modFir (fun f => { f with cfgDone := true, paced := true, between := true, cfg := { source := 2, pitch := 4294967296, rNom := 4294967296, fireLat := 100, dirInvert := true } }), [3, 3, 2, 2, 2, 2], true, by decide +kernel⟩,
  ⟨up, [1], by decide +kernel⟩,
  ⟨(up.modFir (fun f => { f with cfgDone := true, paced := true, state := .running, lastEdge := some 999999, lastInterval := some 10, dist := 10 * 4294967296, cfg := { source := 2, pitch := 4294967296, rNom := 4294967296, fireLat := 100 } })).modFir (fun f => { f with hwm := 2 * 4294967296 + 1 }), ((up.modFir (fun f => { f with cfgDone := true, paced := true, state := .running, lastEdge := some 999999, lastInterval := some 10, dist := 10 * 4294967296, cfg := { source := 2, pitch := 4294967296, rNom := 4294967296, fireLat := 100 } })).modFir (fun f => { f with hwm := 2 * 4294967296 + 1 })).winnersFirst, by decide +kernel⟩,
  ⟨up.modFir (fun f => { f with paced := true, between := true, state := .hold, firstDir := 0, cfg := { scanning := true, passLines := 16, pitch := 5, origin := 5 } }), by decide +kernel⟩,
  ⟨up.modFir (fun f => { f with paced := true, holding := true, nextLine := 7, holdTick := 0 }), (up.modFir (fun f => { f with paced := true, holding := true, nextLine := 7, holdTick := 0 })).winnersFirst, by decide +kernel⟩,
  ⟨(up.modTwn (fun t => { t with role := .shadow })).modFir (fun f => { f with paced := true, holding := true, nextLine := 7, holdTick := 0 }), ((up.modTwn (fun t => { t with role := .shadow })).modFir (fun f => { f with paced := true, holding := true, nextLine := 7, holdTick := 0 })).winnersFirst, by decide +kernel⟩⟩

/-- States and operands that meet the hypotheses of LinesFireAreHeldOrDropped, clause by clause. -/
theorem wit_LinesFireAreHeldOrDropped :
  (∃ (s : State) (l : Int), s.fir.state ≠ .halted ∧ s.gongLow = false ∧ s.fir.tLast = some l) :=
  ⟨up.modFir (fun f => { f with tLast := some 100 }), 100, by decide +kernel⟩

/-- States and operands that meet the hypotheses of GongFramesAndHalt, clause by clause. -/
theorem wit_GongFramesAndHalt :
  (∃ (s₀ : State) (s : State) (b : List Byte), s = s₀.winnersFirst ∧ (s.gng.rxEn = false ∨ s.gng.rxLock = false ∨ b.length ≠ 17)) ∧
  (∃ (s₀ : State) (s : State) (b : List Byte), s = s₀.winnersFirst ∧ s.gng.rxEn = true ∧ s.gng.rxLock = true ∧ b.length = 17 ∧ crc8 ((b.drop 1).take 15) ≠ u8 b 16) ∧
  (∃ (s₀ : State) (s : State) (gap : Nat) (b : List Byte) (u : State), s = s₀.winnersFirst ∧ s.gng.rxEn = true ∧ s.gng.rxLock = true ∧ b.length = 17 ∧ crc8 ((b.drop 1).take 15) = u8 b 16 ∧ u8 b 1 % 16 = 1 ∧ s.fir.role = 2 ∧ s.fir.paced = true ∧ s.fir.cfg.source = 3 ∧ (∀ l, s.fir.lastLine = some l → l < u48 b 2) ∧ ((∀ t, s.fir.trigTick = some t → t ≤ s.fir.startTick) → gap = 0) ∧ (∀ t, s.fir.trigTick = some t → s.fir.startTick < t → gap = u48 b 2 - s.fir.nextLine) ∧ u = s.modFir (fun f => { f with goodFrameAt := some s.tick, goodLine := u48 b 2, goodSeq := u8 b 15, nextLine := u48 b 2, gongMissed := min (2 ^ 16 - 1) (f.gongMissed + gap), passStart := if bit (u8 b 1) 5 then u48 b 2 else f.passStart, firstDir := if bit (u8 b 1) 5 then b2n (bit (u8 b 1) 4) else f.firstDir, passNo := if bit (u8 b 1) 5 then 0 else f.passNo, between := !bit (u8 b 1) 5 && f.between, holding := !bit (u8 b 1) 5 && f.holding, state := if bit (u8 b 1) 5 then (if f.state = .halted then .halted else .running) else f.state })) ∧
  (∃ (s₀ : State) (s : State) (b : List Byte) (u : State), s = s₀.winnersFirst ∧ s.gng.rxEn = true ∧ s.gng.rxLock = true ∧ b.length = 17 ∧ crc8 ((b.drop 1).take 15) = u8 b 16 ∧ u = s.modFir (fun f => { f with goodFrameAt := some s.tick, goodLine := u48 b 2, goodSeq := u8 b 15 })) ∧
  (∃ (s : State) (u : State), s.fir.role = 1 ∧ (∀ t, s.fir.gongSentAt = some t → t + 1085 ≤ s.tick) ∧ (s.fir.gongSentAt = none → 1000 ≤ s.tick) ∧ u = s.modFir (fun f => { f with gongSentAt := some s.tick, gongSeq := wrapAdd 8 f.gongSeq 1 })) ∧
  (∃ (s : State), (s.fir.role ≠ 1 ∨ (∃ t, s.fir.gongSentAt = some t ∧ s.tick < t + 1085) ∨ (s.fir.gongSentAt = none ∧ s.tick < 1000))) ∧
  (∃ (s : State) (u : State), s.fir.role = 2 ∧ s.fir.paced = true ∧ (∀ t, s.fir.goodFrameAt = some t → t + 4000 ≤ s.tick) ∧ s.gongArrives = false ∧ u = (s.raise 0x0504 0 (leBytes 6 s.fir.goodLine ++ [s.fir.goodSeq] ++ zeros 9)).stopPacing) ∧
  (∃ (s : State), (s.fir.role ≠ 2 ∨ s.fir.paced = false ∨ (∃ t, s.fir.goodFrameAt = some t ∧ s.tick < t + 4000) ∨ s.gongArrives = true)) ∧
  (∃ (s : State) (u : State) (w : State), (s.gng.haltLevel = true ∨ s.fir.state ≠ .halted) ∧ u = (if s.haltPending then s else s.modGng (fun g => { g with otherLow := true })) ∧ w = ((u.modGng (fun g => { g with haltLevel := false, seenOther := false })).modFir (fun f => { f with state := .halted })).raise 0x0505 0 ([b2n s.fir.haltDrive, if s.fir.haltDrive then s.fir.haltCause else 3] ++ leBytes 6 (s.fir.lastLine.getD 0) ++ zeros 8)) ∧
  (∃ (b : List Bool), filterLine 2 true b = true) ∧
  (∃ (s : State) (b : List Bool), s.gng.haltLevel = false ∧ s.fir.state = .halted ∧ filterLine 2 true b = false) ∧
  (∃ (b : List Bool), filterLine 2 false b = false) :=
  ⟨⟨(up.modGng (fun g => { g with rxEn := true, rxLock := true })), ((up.modGng (fun g => { g with rxEn := true, rxLock := true }))).winnersFirst, List.replicate 16 0, by decide +kernel⟩,
  ⟨(up.modGng (fun g => { g with rxEn := true, rxLock := true })), ((up.modGng (fun g => { g with rxEn := true, rxLock := true }))).winnersFirst, List.replicate 16 0 ++ [1], by decide +kernel⟩,
  ⟨(up.modGng (fun g => { g with rxEn := true, rxLock := true })).modFir (fun f => { f with role := 2, paced := true, state := .running, cfg := { source := 3 } }), ((up.modGng (fun g => { g with rxEn := true, rxLock := true })).modFir (fun f => { f with role := 2, paced := true, state := .running, cfg := { source := 3 } })).winnersFirst, 0, gongFrame 1 7 100 50 3, (((up.modGng (fun g => { g with rxEn := true, rxLock := true })).modFir (fun f => { f with role := 2, paced := true, state := .running, cfg := { source := 3 } })).winnersFirst).modFir (fun f => { f with goodFrameAt := some (((up.modGng (fun g => { g with rxEn := true, rxLock := true })).modFir (fun f => { f with role := 2, paced := true, state := .running, cfg := { source := 3 } })).winnersFirst).tick, goodLine := 7, goodSeq := 3, nextLine := 7 }), by exact ⟨by decide +kernel, by decide +kernel, by decide +kernel, by decide +kernel, by decide +kernel, by decide +kernel, by decide +kernel, by decide +kernel, by decide +kernel, nofun, fun _ => rfl, nofun, by decide +kernel⟩⟩,
  ⟨(up.modGng (fun g => { g with rxEn := true, rxLock := true })).modFir (fun f => { f with role := 2, paced := true, state := .running, cfg := { source := 3 } }), ((up.modGng (fun g => { g with rxEn := true, rxLock := true })).modFir (fun f => { f with role := 2, paced := true, state := .running, cfg := { source := 3 } })).winnersFirst, gongFrame 3 7 0 0 3, (((up.modGng (fun g => { g with rxEn := true, rxLock := true })).modFir (fun f => { f with role := 2, paced := true, state := .running, cfg := { source := 3 } })).winnersFirst).modFir (fun f => { f with goodFrameAt := some (((up.modGng (fun g => { g with rxEn := true, rxLock := true })).modFir (fun f => { f with role := 2, paced := true, state := .running, cfg := { source := 3 } })).winnersFirst).tick, goodLine := 7, goodSeq := 3 }), by decide +kernel⟩,
  ⟨(up.modTwn (fun t => { t with role := .lead })).modFir (fun f => { f with role := 1 }), ((up.modTwn (fun t => { t with role := .lead })).modFir (fun f => { f with role := 1 })).modFir (fun f => { f with gongSentAt := some ((up.modTwn (fun t => { t with role := .lead })).modFir (fun f => { f with role := 1 })).tick, gongSeq := wrapAdd 8 f.gongSeq 1 }), by exact ⟨by decide +kernel, nofun, fun _ => by decide +kernel, by decide +kernel⟩⟩,
  ⟨up, by exact .inl (by decide +kernel)⟩,
  ⟨up.modFir (fun f => { f with role := 2, paced := true, state := .running }), ((up.modFir (fun f => { f with role := 2, paced := true, state := .running })).raise 0x0504 0 (leBytes 6 (up.modFir (fun f => { f with role := 2, paced := true, state := .running })).fir.goodLine ++ [(up.modFir (fun f => { f with role := 2, paced := true, state := .running })).fir.goodSeq] ++ zeros 9)).stopPacing, by exact ⟨by decide +kernel, by decide +kernel, nofun, by decide +kernel, by decide +kernel⟩⟩,
  ⟨up, by exact .inl (by decide +kernel)⟩,
  ⟨up, if (up).haltPending then (up) else (up).modGng (fun g => { g with otherLow := true }), (((if (up).haltPending then (up) else (up).modGng (fun g => { g with otherLow := true })).modGng (fun g => { g with haltLevel := false, seenOther := false })).modFir (fun f => { f with state := .halted })).raise 0x0505 0 ([b2n (up).fir.haltDrive, if (up).fir.haltDrive then (up).fir.haltCause else 3] ++ leBytes 6 ((up).fir.lastLine.getD 0) ++ zeros 8), by decide +kernel⟩,
  ⟨[false, true], by decide +kernel⟩,
  ⟨(up.modGng (fun g => { g with haltLevel := false })).modFir (fun f => { f with state := .halted }), [false, false], by decide +kernel⟩,
  ⟨[true, false], by decide +kernel⟩⟩

/-- States and operands that meet the hypotheses of LanesComeUpAndAnswer, clause by clause. -/
theorem wit_LanesComeUpAndAnswer :
  (∃ (s : State) (r : Fin 4) (c : Cmd) (m : Nat), s.atOnce r 0x0601 c ∧ u64 c.packet 8 = m ∧ u8 c.packet 16 ≤ 10 ∧ u8 c.packet 17 ≤ 3 ∧ u8 c.packet 18 ≤ 2 ∧ (∀ l : Fin 64, bit m l = true → (s.lane l).state.bringup = false) ∧ (∃ l : Fin 64, bit m l = true ∧ (s.lane l).state ≠ .up)) ∧
  (∃ (s : State) (r : Fin 4) (c : Cmd) (m : Nat), s.atOnce r 0x0601 c ∧ u64 c.packet 8 = m ∧ u8 c.packet 16 ≤ 10 ∧ u8 c.packet 17 ≤ 3 ∧ u8 c.packet 18 ≤ 2 ∧ (∀ l : Fin 64, bit m l = true → (s.lane l).state = .up)) ∧
  (∃ (s : State) (r : Fin 4) (c : Cmd) (m : Nat), s.atOnce r 0x0602 c ∧ u64 c.packet 8 = m ∧ s.snr.waits = []) ∧
  (∃ (s : State) (r : Fin 4) (c : Cmd), s.atOnce r 0x0605 c ∧ u8 c.packet 8 ≤ 63) ∧
  (∃ (s : State) (k : Fin 64) (n : Nat), (s.lane k).state = .train ∧ (s.lane k).locked = false ∧ (s.lane k).hdrRun + n = 64 ∧ 0 < n) ∧
  (∃ (s : State) (k : Fin 64), (s.lane k).state.bringup = true ∧ (s.lane k).locked = true ∧ 16 ≤ (((false :: (s.lane k).hdrWin).take 64).filter (· == false)).length) ∧
  (∃ (s : State) (k : Fin 64), ((s.lane k).state = .off ∨ (s.lane k).state = .failed)) ∧
  (∃ (s : State) (k : Fin 64) (am : List Byte) (uis : Nat), (s.lane k).locked = true ∧ (s.lane k).state = .align ∧ (∀ t, (s.lane k).amAt = some t → ¬(t < uis ∧ (uis - t + 33) / 66 = 16384)) ∧ u8 am 0 = 0x4B) ∧
  (∃ (s : State) (k : Fin 64) (am : List Byte) (turn : List Byte) (t : Nat) (uis : Nat), (s.lane k).locked = true ∧ (s.lane k).state = .align ∧ (s.lane k).amAt = some t ∧ t < uis ∧ (uis - t + 33) / 66 = 16384 ∧ u8 am 0 = 0x4B ∧ u8 am 1 % 64 = k.val ∧ u8 am 2 = k.val ∧ (s.lane k).wantPort = 2 ∧ (s.lane k).departs.get 0 (u8 turn 4) = 0) ∧
  (∃ (s : State) (k : Fin 64) (am : List Byte) (t : Nat) (uis : Nat), (s.lane k).locked = true ∧ (s.lane k).state = .align ∧ (s.lane k).amAt = some t ∧ t < uis ∧ (uis - t + 33) / 66 = 16384 ∧ u8 am 0 = 0x4B ∧ u8 am 1 % 64 ≠ k.val ∧ s.snr.waits = []) ∧
  (∃ (s : State) (k : Fin 64), (s.lane k).state = .align) ∧
  (∃ (s : State) (k : Fin 64), (s.lane k).state.bringup = true ∧ (s.lane k).trainAt + 2000000 ≤ s.tick ∧ s.comesUp k = false ∧ s.snr.waits = []) ∧
  (∃ (s : State) (k : Fin 64), (s.lane k).state = .align) :=
  ⟨⟨holding up (pkt 0x0601 [(8, leBytes 8 (2 ^ 63)), (16, [10, 3, 2])]), 0, cmd (pkt 0x0601 [(8, leBytes 8 (2 ^ 63)), (16, [10, 3, 2])]), 2 ^ 63, by decide +kernel⟩,
  ⟨holding ((up.modLane 63 (fun l => { l with state := .up }))) (pkt 0x0601 [(8, leBytes 8 (2 ^ 63)), (16, [10, 3, 2])]), 0, cmd (pkt 0x0601 [(8, leBytes 8 (2 ^ 63)), (16, [10, 3, 2])]), 2 ^ 63, by decide +kernel⟩,
  ⟨holding ((up.modLane 63 (fun l => { l with state := .ident, locked := true }))) (pkt 0x0602 [(8, leBytes 8 (2 ^ 63))]), 0, cmd (pkt 0x0602 [(8, leBytes 8 (2 ^ 63))]), 2 ^ 63, by decide +kernel⟩,
  ⟨holding up (pkt 0x0605 [(8, [63])]), 0, cmd (pkt 0x0605 [(8, [63])]), by decide +kernel⟩,
  ⟨up.modLane 63 (fun l => { l with state := .train, hdrRun := 60 }), 63, 4, by decide +kernel⟩,
  ⟨up.modLane 63 (fun l => { l with state := .align, locked := true, hdrWin := List.replicate 15 false }), 63, by decide +kernel⟩,
  ⟨up, 63, by decide +kernel⟩,
  ⟨up.modLane 63 (fun l => { l with state := .align, locked := true, wantPort := 2 }), 63, [0x4B, 127, 63, 0, 0xFF, 0x1F, 0, 0], 5, by exact ⟨by decide +kernel, by decide +kernel, nofun, by decide +kernel⟩⟩,
  ⟨up.modLane 63 (fun l => { l with state := .align, locked := true, amAt := some 1000, wantPort := 2 }), 63, [0x4B, 127, 63, 0, 0xFF, 0x1F, 0, 0], zeros 8, 1000, 1000 + 66 * 16384, by decide +kernel⟩,
  ⟨up.modLane 63 (fun l => { l with state := .align, locked := true, amAt := some 1000, wantPort := 2 }), 63, [0x4B, 62, 62, 0, 0, 0, 0, 0], 1000, 1000 + 66 * 16384 + 32, by decide +kernel⟩,
  ⟨up.modLane 63 (fun l => { l with state := .align, locked := true, wantPort := 2 }), 63, by decide +kernel⟩,
  ⟨{ up.modLane 63 (fun l => { l with state := .ident, trainAt := 1 }) with tick := 2000001 }, 63, by decide +kernel⟩,
  ⟨up.modLane 63 (fun l => { l with state := .align, amSeq := 255 }), 63, by decide +kernel⟩⟩

/-- States and operands that meet the hypotheses of HubsAnswerAndReport, clause by clause. -/
theorem wit_HubsAnswerAndReport :
  (∃ (s : State) (r : Fin 4) (c : Cmd) (m : List Byte), s.atOnce r 0x0604 c ∧ u8 c.packet 8 ≤ 63 ∧ 0 < u8 c.packet 9 ∧ u8 c.packet 9 ≤ 40 ∧ 0 < u8 c.packet 10 ∧ u64 c.packet 16 % 8 = 0 ∧ (s.lane (u8 c.packet 8)).state = .up ∧ (s.lane (u8 c.packet 8)).msg = none ∧ m = messageBytes (s.lane (u8 c.packet 8)).msgTag ((c.packet.drop 24).take (u8 c.packet 9))) ∧
  (∃ (s : State) (k : Fin 64) (b : List Byte) (x : List Byte) (m : HeadMsg), (s.lane k).state = .up ∧ (s.lane k).msg = some m ∧ messagePayload b = some x ∧ u8 b 2 = m.tag ∧ m.replyAddr = 0) ∧
  (∃ (s : State) (k : Fin 64) (b : List Byte), (s.lane k).state = .up ∧ u8 b 0 = 0x55 ∧ messagePayload b = none) ∧
  (∃ (s : State) (k : Fin 64) (m : HeadMsg), (s.lane k).msg = some m ∧ m.deadline ≤ s.tick ∧ (∀ b, Instr.hubReply k b ∈ s.pending → (s.lane k).replyOf b = none)) ∧
  (∃ (s : State) (k : Fin 64) (b : List Byte), (s.lane k).locked = true ∧ (s.lane k).listens = true ∧ u8 b 0 = 0x33 ∧ u8 b 1 ≤ 7 ∧ ((s.lane k).heads.get {} (u8 b 1)).state = u8 b 2) ∧
  (∃ (s : State) (r : Fin 4) (c : Cmd), s.atOnce r 0x0603 c ∧ u8 c.packet 8 ≤ 63 ∧ scanStepOk (u8 c.packet 9) = true ∧ scanStepOk (u8 c.packet 10) = true ∧ 20 ≤ u8 c.packet 11 ∧ u8 c.packet 11 ≤ 36 ∧ u64 c.packet 16 % 8 = 0 ∧ 32 + 4 * (64 / u8 c.packet 9) * (128 / u8 c.packet 10) ≤ u32 c.packet 24 ∧ (s.lane (u8 c.packet 8)).state = .up ∧ (s.lane (u8 c.packet 8)).scan = none ∧ s.scansActive ≤ 3) ∧
  (∃ (s : State) (k : Fin 64) (n : List Nat) (x : EyeScan), (s.lane k).scan = some x ∧ x.cut = false ∧ s.hif.linkDown = false ∧ s.sys.dormant = .awake ∧ n.length = 64 / x.phStep * (128 / x.vStep)) ∧
  (∃ (s : State) (k : Fin 64) (b : List Byte) (l : Nat), (s.lane k).locked = true ∧ (s.lane k).listens = true ∧ u8 b 0 = 0x5A ∧ 1 ≤ u8 b 1 % 8 ∧ u8 b 1 % 8 ≤ 4 ∧ (s.lane k).cmpRec.last = some l ∧ s.fir.lastLine.getD 0 ≤ l + 1024) :=
  ⟨⟨holding ((up.modLane 63 (fun l => { l with state := .up, locked := true }))) (pkt 0x0604 [(8, [63, 40, 255]), (24, [1, 2])]), 0, cmd (pkt 0x0604 [(8, [63, 40, 255]), (24, [1, 2])]), messageBytes 0 ([1, 2] ++ zeros 38), by decide +kernel⟩,
  ⟨(holding up (pkt 0x0604 [])).modLane 63 (fun l => { l with state := .up, msg := some { cmd := 1, tag := 255, deadline := 1000000, replyAddr := 0 } }), 63, messageBytes 255 [1, 2, 3], [1, 2, 3], { cmd := 1, tag := 255, deadline := 1000000, replyAddr := 0 }, by decide +kernel⟩,
  ⟨(up.modLane 63 (fun l => { l with state := .up, locked := true })), 63, [0x55, 3, 255], by decide +kernel⟩,
  ⟨(holding up (pkt 0x0604 [])).modLane 63 (fun l => { l with state := .up, msg := some { cmd := 1, tag := 255, deadline := 1000000, replyAddr := 0 } }), 63, { cmd := 1, tag := 255, deadline := 1000000, replyAddr := 0 }, by exact ⟨by decide +kernel, by decide +kernel, nofun⟩⟩,
  ⟨up.modLane 63 (fun l => { l with state := .align, locked := true, heads := (Table.set {} {} 7 { state := 2 } : Table HeadStat) }), 63, [0x33, 7, 2, 1, 2, 3, 4, 0], by decide +kernel⟩,
  ⟨holding ((up.modLane 63 (fun l => { l with state := .up, locked := true }))) (pkt 0x0603 [(8, [63, 4, 4, 36]), (24, leBytes 4 2080)]), 0, cmd (pkt 0x0603 [(8, [63, 4, 4, 36]), (24, leBytes 4 2080)]), by decide +kernel⟩,
  ⟨(holding up (pkt 0x0603 [])).modLane 63 (fun l => { l with state := .up, scan := some { cmd := 1, phStep := 32, vStep := 64, dwell := 20, addr := 4096, start := 0 } }), 63, [1, 2, 3, 4], { cmd := 1, phStep := 32, vStep := 64, dwell := 20, addr := 4096, start := 0 }, by decide +kernel⟩,
  ⟨up.modLane 63 (fun l => { l with state := .up, locked := true, cmpRec := { last := some 0, count := 0, first := 0 } }), 63, [0x5A, 1, 9, 0, 0, 0, 0, 0], 0, by decide +kernel⟩⟩

/-- States and operands that meet the hypotheses of CamerasAreConfiguredAndRun, clause by clause. -/
theorem wit_CamerasAreConfiguredAndRun :
  (∃ (s : State) (r : Fin 4) (c : Cmd), s.atOnce r 0x0701 c ∧ u8 c.packet 8 < 4 ∧ [0, 1, 2, 4].contains (u8 c.packet 9) = true ∧ u8 c.packet 10 ≤ 2 ∧ 80 ≤ u32 c.packet 12 ∧ u32 c.packet 12 ≤ 4500 ∧ u8 c.packet 17 < 32 ∧ s.portStarted (u8 c.packet 8) = false) ∧
  (∃ (s : State) (p : Fin 4), (s.camPort p).lanes ≠ 0) ∧
  (∃ (s : State) (r : Fin 4) (c : Cmd), s.atOnce r 0x0702 c ∧ descBad c.packet = false ∧ (s.camUnit (u8 c.packet 8)).started = none) ∧
  (∃ (s : State) (r : Fin 4) (c : Cmd) (b : List Byte), s.atOnce r 0x0704 c ∧ u8 c.packet 8 < 16 ∧ u64 c.packet 16 % 64 = 0 ∧ pipeBad b = false) ∧
  (∃ (s : State) (r : Fin 4) (c : Cmd) (d : SensorDesc), s.atOnce r 0x0705 c ∧ outsBad c.packet = false ∧ bit (u8 c.packet 9) 1 = false ∧ bit (u8 c.packet 9) 2 = false ∧ (s.camUnit (u8 c.packet 8)).desc = some d ∧ (parseOuts c.packet).misfits d = false ∧ (∀ k : Fin 16, k.val ≠ u8 c.packet 8 → bit (s.camUnit k).outsComing.enable 2 = false) ∧ (s.camUnit (u8 c.packet 8)).started ≠ none) ∧
  (∃ (s : State) (r : Fin 4) (c : Cmd) (d : SensorDesc), s.atOnce r 0x0706 c ∧ u8 c.packet 8 < 16 ∧ (s.camUnit (u8 c.packet 8)).desc = some d ∧ s.portOn (u8 c.packet 8) = true ∧ (s.camUnit (u8 c.packet 8)).started = none ∧ s.startedDescs = [] ∧ d.clocks ≤ 3 * d.minLine ∧ bit (s.camUnit (u8 c.packet 8)).outsComing.enable 1 = false) ∧
  (∃ (s : State) (r : Fin 4) (c : Cmd), s.atOnce r 0x0707 c ∧ u8 c.packet 8 < 16 ∧ (s.camUnit (u8 c.packet 8)).started ≠ none ∧ (s.camUnit (u8 c.packet 8)).stopping = false) ∧
  (∃ (s : State) (r : Fin 4) (c : Cmd), s.atOnce r 0x0707 c ∧ u8 c.packet 8 < 16 ∧ (s.camUnit (u8 c.packet 8)).started = none) :=
  ⟨⟨holding up (pkt 0x0701 [(8, [3, 4, 2]), (12, leBytes 4 4500), (17, [31])]), 0, cmd (pkt 0x0701 [(8, [3, 4, 2]), (12, leBytes 4 4500), (17, [31])]), by decide +kernel⟩,
  ⟨up.modCamPort 3 (fun q => { q with lanes := 4 }), 3, by decide +kernel⟩,
  ⟨holding up (pkt 0x0702 [(8, [15, 0x24, 0, 0x24]), (12, leBytes 2 64), (14, leBytes 2 2), (16, leBytes 4 100), (20, [1, 3, 127, 2]), (24, leBytes 4 1000000)]), 0, cmd (pkt 0x0702 [(8, [15, 0x24, 0, 0x24]), (12, leBytes 2 64), (14, leBytes 2 2), (16, leBytes 4 100), (20, [1, 3, 127, 2]), (24, leBytes 4 1000000)]), by decide +kernel⟩,
  ⟨holding up (pkt 0x0704 [(8, [15])]), 0, cmd (pkt 0x0704 [(8, [15])]), (zeros 36 ++ [1, 0, 1, 0, 1, 0] ++ zeros 466) ++ leBytes 4 (crc32c (zeros 36 ++ [1, 0, 1, 0, 1, 0] ++ zeros 466)), by decide +kernel⟩,
  ⟨holding (((up.modCamPort 3 (fun q => { q with lanes := 4 })).modCamUnit 15 (fun y => { y with desc := some { dt := 0x24, layout := 0, chOrder := 0x24, width := 64, stripH := 2, minLine := 100, delay := 1, bus := 0, addr := 16, abytes := 1, frameTo := 10, gap1 := 0, gap2 := 0, expReg := [] }, started := some 0 }))) (pkt 0x0705 [(8, [15, 1, 1, 1]), (16, leBytes 8 64), (24, leBytes 4 192), (28, [2])]), 0, cmd (pkt 0x0705 [(8, [15, 1, 1, 1]), (16, leBytes 8 64), (24, leBytes 4 192), (28, [2])]), { dt := 0x24, layout := 0, chOrder := 0x24, width := 64, stripH := 2, minLine := 100, delay := 1, bus := 0, addr := 16, abytes := 1, frameTo := 10, gap1 := 0, gap2 := 0, expReg := [] }, by decide +kernel⟩,
  ⟨holding (((up.modCamPort 3 (fun q => { q with lanes := 4 })).modCamUnit 15 (fun y => { y with desc := some { dt := 0x24, layout := 0, chOrder := 0x24, width := 64, stripH := 2, minLine := 100, delay := 1, bus := 0, addr := 16, abytes := 1, frameTo := 10, gap1 := 0, gap2 := 0, expReg := [] } }))) (pkt 0x0706 [(8, [15])]), 0, cmd (pkt 0x0706 [(8, [15])]), { dt := 0x24, layout := 0, chOrder := 0x24, width := 64, stripH := 2, minLine := 100, delay := 1, bus := 0, addr := 16, abytes := 1, frameTo := 10, gap1 := 0, gap2 := 0, expReg := [] }, by decide +kernel⟩,
  ⟨holding ((up.modCamUnit 15 (fun y => { y with started := some 0 }))) (pkt 0x0707 [(8, [15])]), 0, cmd (pkt 0x0707 [(8, [15])]), by decide +kernel⟩,
  ⟨holding up (pkt 0x0707 [(8, [15])]), 0, cmd (pkt 0x0707 [(8, [15])]), by decide +kernel⟩⟩

/-- States and operands that meet the hypotheses of FramesAndExposures, clause by clause. -/
theorem wit_FramesAndExposures :
  (∃ (s : State) (u : Fin 16) (t0 : Nat), (s.camUnit u).started = some t0 ∧ s.portOn u = true ∧ t0 < s.tick ∧ ((s.camUnit u).stopping = false ∨ (s.camUnit u).stopTick = s.tick)) ∧
  (∃ (s : State) (u : Fin 16) (t0 : Nat), (s.camUnit u).started = some t0 ∧ s.portOn u = true ∧ t0 < s.tick ∧ (s.camUnit u).open_ = none ∧ (s.camUnit u).stopping = false ∧ (s.camUnit u).pipeNext = [] ∧ (s.camUnit u).outsNext = [] ∧ (s.camUnit u).exps = [] ∧ s.stk.mapNext.get none u = none) ∧
  (∃ (s : State) (u : Fin 16), ((s.camUnit u).started = none ∨ s.portOn u = false ∨ ∃ t0, (s.camUnit u).started = some t0 ∧ s.tick ≤ t0)) ∧
  (∃ (s : State) (u : Fin 16), s.portOn u = false) ∧
  (∃ (s : State) (u : Fin 16), s.portOn u = true ∧ ((s.camUnit u).open_ = none ∨ (s.camUnit u).desc = none)) ∧
  (∃ (s : State) (u : Fin 16) (f : Frame), s.portOn u = true ∧ (s.camUnit u).open_ = some f ∧ (s.camUnit u).desc ≠ none) ∧
  (∃ (s : State) (u : Fin 16) (rows : List (List Nat)) (f : Frame) (d : SensorDesc), s.portOn u = true ∧ (s.camUnit u).open_ = some f ∧ (s.camUnit u).desc = some d ∧ rows ≠ []) ∧
  (∃ (s : State) (u : Nat) (l : CamLine) (rest : List CamLine), s.readUnit = some u ∧ (s.camUnit u).slots = l :: rest) ∧
  (∃ (s : State), s.readUnit = none) ∧
  (∃ (s : State) (u : Fin 16) (f : Frame) (d : SensorDesc), (s.camUnit u).open_ = some f ∧ (s.camUnit u).desc = some d) ∧
  (∃ (s : State) (u : Fin 16), (s.camUnit u).open_ = none) ∧
  (∃ (s : State) (u : Fin 16) (f : Frame) (d : SensorDesc), (s.camUnit u).open_ = some f ∧ (s.camUnit u).desc = some d) ∧
  (∃ (s : State) (r : Fin 4) (c : Cmd), s.atOnce r 0x0703 c ∧ u8 c.packet 8 < 16 ∧ (s.camUnit (u8 c.packet 8)).started ≠ none ∧ (∀ e ∈ (s.camUnit (u8 c.packet 8)).exps, e.cmd = none)) ∧
  (∃ (s : State) (r : Fin 4) (c : Cmd), s.atOnce r 0x0703 c ∧ u8 c.packet 8 < 16) ∧
  (∃ (s : State) (u : Fin 16) (e : ExpSet), (s.camUnit u).exps.find? (fun e => e.frameK.isNone && e.cmd.isSome) = some e) ∧
  (∃ (s : State) (u : Fin 16), (∀ e ∈ (s.camUnit u).exps, e.frameK ≠ none ∨ e.cmd = none)) ∧
  (∃ (s : State) (p : Fin 4), (s.camPort p).cci = []) ∧
  (∃ (s : State) (p : Fin 4) (x : CciXfer) (rest : List CciXfer) (e : ExpSet) (d : SensorDesc) (k : Nat) (cl : Nat) (v : State) (w : State), (s.camPort p).cci = x :: rest ∧ (s.camUnit x.unit).exps.find? (fun e => e.id == x.expset) = some e ∧ e.frameK = some k ∧ (s.camUnit x.unit).desc = some d ∧ cl = (s.camUnit x.unit).nextFrame + b2n (s.fsOpens x.unit) - 1 + max d.delay 1 ∧ v = s.modCamPort p (fun q => { q with cci := rest }) ∧ w = (match rest with | y :: _ => v.emit (.cci p.val y) | [] => v)) ∧
  (∃ (s : State) (p : Fin 4) (x : CciXfer) (rest : List CciXfer) (left : List CciXfer) (e : ExpSet) (v : State) (w : State), (s.camPort p).cci = x :: rest ∧ (s.camUnit x.unit).exps.find? (fun e => e.id == x.expset) = some e ∧ left = rest.filter (fun y => !(y.unit == x.unit && y.expset == x.expset)) ∧ v = s.modCamPort p (fun q => { q with cci := left }) ∧ w = (match left with | y :: _ => v.emit (.cci p.val y) | [] => v)) ∧
  (∃ (s : State) (u : Fin 16), (s.camUnit u).ready = none) ∧
  (∃ (s : State) (u : Fin 16) (f : Frame) (v : State), (s.camUnit u).ready = some f ∧ v = ((if f.served = 0 then s.drawn else s).deliverOutputs u f (f.profile s.draw)).modCamUnit u (fun c => { c with closed := c.closed.drop 1 })) ∧
  (∃ (s : State) (u : Fin 16) (f : Frame), (s.camUnit u).ready = some f ∧ f.served ≠ 0 ∧ f.wantsCode = false ∧ s.stkMap u = none ∧ (s.camUnit u).stopping = false) :=
  ⟨⟨((up.modCamPort 3 (fun q => { q with lanes := 4 })).modCamUnit 15 (fun y => { y with desc := some { dt := 0x24, layout := 0, chOrder := 0x24, width := 64, stripH := 2, minLine := 100, delay := 1, bus := 0, addr := 16, abytes := 1, frameTo := 10, gap1 := 0, gap2 := 0, expReg := [] }, started := some 7, nextFrame := 6 })).modCamUnit 15 (fun y => { y with open_ := some { no := 5, fsTick := 7, fsTime := 0, timeB := false, pipe := {}, outs := {}, fsLine := 0, expset := 0 } }), 15, 7, by decide +kernel⟩,
  ⟨(up.modCamPort 3 (fun q => { q with lanes := 4 })).modCamUnit 15 (fun y => { y with desc := some { dt := 0x24, layout := 0, chOrder := 0x24, width := 64, stripH := 2, minLine := 100, delay := 1, bus := 0, addr := 16, abytes := 1, frameTo := 10, gap1 := 0, gap2 := 0, expReg := [] }, started := some 7, nextFrame := 6 }), 15, 7, by decide +kernel⟩,
  ⟨up, 15, by exact .inl (by decide +kernel)⟩,
  ⟨up, 15, by decide +kernel⟩,
  ⟨(up.modCamPort 3 (fun q => { q with lanes := 4 })).modCamUnit 15 (fun y => { y with desc := some { dt := 0x24, layout := 0, chOrder := 0x24, width := 64, stripH := 2, minLine := 100, delay := 1, bus := 0, addr := 16, abytes := 1, frameTo := 10, gap1 := 0, gap2 := 0, expReg := [] }, started := some 7, nextFrame := 6 }), 15, by decide +kernel⟩,
  ⟨((up.modCamPort 3 (fun q => { q with lanes := 4 })).modCamUnit 15 (fun y => { y with desc := some { dt := 0x24, layout := 0, chOrder := 0x24, width := 64, stripH := 2, minLine := 100, delay := 1, bus := 0, addr := 16, abytes := 1, frameTo := 10, gap1 := 0, gap2 := 0, expReg := [] }, started := some 7, nextFrame := 6 })).modCamUnit 15 (fun y => { y with open_ := some { no := 5, fsTick := 7, fsTime := 0, timeB := false, pipe := {}, outs := {}, fsLine := 0, expset := 0 } }), 15, { no := 5, fsTick := 7, fsTime := 0, timeB := false, pipe := {}, outs := {}, fsLine := 0, expset := 0 }, by decide +kernel⟩,
  ⟨((up.modCamPort 3 (fun q => { q with lanes := 4 })).modCamUnit 15 (fun y => { y with desc := some { dt := 0x24, layout := 0, chOrder := 0x24, width := 64, stripH := 2, minLine := 100, delay := 1, bus := 0, addr := 16, abytes := 1, frameTo := 10, gap1 := 0, gap2 := 0, expReg := [] }, started := some 7, nextFrame := 6 })).modCamUnit 15 (fun y => { y with open_ := some { no := 5, fsTick := 7, fsTime := 0, timeB := false, pipe := {}, outs := {}, fsLine := 0, expset := 0 } }), 15, List.replicate 3 (List.replicate 64 255), { no := 5, fsTick := 7, fsTime := 0, timeB := false, pipe := {}, outs := {}, fsLine := 0, expset := 0 }, { dt := 0x24, layout := 0, chOrder := 0x24, width := 64, stripH := 2, minLine := 100, delay := 1, bus := 0, addr := 16, abytes := 1, frameTo := 10, gap1 := 0, gap2 := 0, expReg := [] }, by decide +kernel⟩,
  ⟨((((up.modCamPort 3 (fun q => { q with lanes := 4 })).modCamUnit 15 (fun y => { y with desc := some { dt := 0x24, layout := 0, chOrder := 0x24, width := 64, stripH := 2, minLine := 100, delay := 1, bus := 0, addr := 16, abytes := 1, frameTo := 10, gap1 := 0, gap2 := 0, expReg := [] }, started := some 7, nextFrame := 6 })).modCamUnit 15 (fun y => { y with open_ := some { no := 5, fsTick := 7, fsTime := 0, timeB := false, pipe := {}, outs := {}, fsLine := 0, expset := 0 } })).modCamUnit 15 (fun y => { y with slots := [{ frame := 7, chans := List.replicate 3 (List.replicate 64 255) }] })).modCam (fun c => { c with serving := some (15, 0, false) }), 15, { frame := 7, chans := List.replicate 3 (List.replicate 64 255) }, [], by decide +kernel⟩,
  ⟨up, by decide +kernel⟩,
  ⟨((up.modCamPort 3 (fun q => { q with lanes := 4 })).modCamUnit 15 (fun y => { y with desc := some { dt := 0x24, layout := 0, chOrder := 0x24, width := 64, stripH := 2, minLine := 100, delay := 1, bus := 0, addr := 16, abytes := 1, frameTo := 10, gap1 := 0, gap2 := 0, expReg := [] }, started := some 7, nextFrame := 6 })).modCamUnit 15 (fun y => { y with open_ := some { no := 5, fsTick := 7, fsTime := 0, timeB := false, pipe := {}, outs := {}, fsLine := 0, expset := 0 } }), 15, { no := 5, fsTick := 7, fsTime := 0, timeB := false, pipe := {}, outs := {}, fsLine := 0, expset := 0 }, { dt := 0x24, layout := 0, chOrder := 0x24, width := 64, stripH := 2, minLine := 100, delay := 1, bus := 0, addr := 16, abytes := 1, frameTo := 10, gap1 := 0, gap2 := 0, expReg := [] }, by decide +kernel⟩,
  ⟨(up.modCamPort 3 (fun q => { q with lanes := 4 })).modCamUnit 15 (fun y => { y with desc := some { dt := 0x24, layout := 0, chOrder := 0x24, width := 64, stripH := 2, minLine := 100, delay := 1, bus := 0, addr := 16, abytes := 1, frameTo := 10, gap1 := 0, gap2 := 0, expReg := [] }, started := some 7, nextFrame := 6 }), 15, by decide +kernel⟩,
  ⟨((up.modCamPort 3 (fun q => { q with lanes := 4 })).modCamUnit 15 (fun y => { y with desc := some { dt := 0x24, layout := 0, chOrder := 0x24, width := 64, stripH := 2, minLine := 100, delay := 1, bus := 0, addr := 16, abytes := 1, frameTo := 10, gap1 := 0, gap2 := 0, expReg := [] }, started := some 7, nextFrame := 6 })).modCamUnit 15 (fun y => { y with open_ := some { no := 5, fsTick := 7, fsTime := 0, timeB := false, pipe := {}, outs := {}, fsLine := 0, expset := 0 } }), 15, { no := 5, fsTick := 7, fsTime := 0, timeB := false, pipe := {}, outs := {}, fsLine := 0, expset := 0 }, { dt := 0x24, layout := 0, chOrder := 0x24, width := 64, stripH := 2, minLine := 100, delay := 1, bus := 0, addr := 16, abytes := 1, frameTo := 10, gap1 := 0, gap2 := 0, expReg := [] }, by decide +kernel⟩,
  ⟨holding (((up.modCamPort 3 (fun q => { q with lanes := 4 })).modCamUnit 15 (fun y => { y with desc := some { dt := 0x24, layout := 0, chOrder := 0x24, width := 64, stripH := 2, minLine := 100, delay := 1, bus := 0, addr := 16, abytes := 1, frameTo := 10, gap1 := 0, gap2 := 0, expReg := [] }, started := some 7, nextFrame := 6 }))) (pkt 0x0703 [(8, [15]), (16, leBytes 4 77)]), 0, cmd (pkt 0x0703 [(8, [15]), (16, leBytes 4 77)]), by decide +kernel⟩,
  ⟨holding (((up.modCamPort 3 (fun q => { q with lanes := 4 })).modCamUnit 15 (fun y => { y with desc := some { dt := 0x24, layout := 0, chOrder := 0x24, width := 64, stripH := 2, minLine := 100, delay := 1, bus := 0, addr := 16, abytes := 1, frameTo := 10, gap1 := 0, gap2 := 0, expReg := [] }, started := some 7, nextFrame := 6 }))) (pkt 0x0703 [(8, [15]), (16, leBytes 4 77)]), 0, cmd (pkt 0x0703 [(8, [15]), (16, leBytes 4 77)]), by decide +kernel⟩,
  ⟨{ (holding ((up.modCamPort 3 (fun q => { q with lanes := 4 })).modCamUnit 15 (fun y => { y with desc := some { dt := 0x24, layout := 0, chOrder := 0x24, width := 64, stripH := 2, minLine := 100, delay := 1, bus := 0, addr := 16, abytes := 1, frameTo := 10, gap1 := 0, gap2 := 0, expReg := [] }, started := some 7, nextFrame := 6 })) (pkt 0x0703 [])).modCamUnit 15 (fun y => { y with exps := [{ id := 4, cmd := some 1, values := [1, 0, 0, 0], commit := 0 }] }) with tick := 200000000 }, 15, { id := 4, cmd := some 1, values := [1, 0, 0, 0], commit := 0 }, by decide +kernel⟩,
  ⟨up, 15, by decide +kernel⟩,
  ⟨up, 3, by decide +kernel⟩,
  ⟨((holding ((up.modCamPort 3 (fun q => { q with lanes := 4 })).modCamUnit 15 (fun y => { y with desc := some { dt := 0x24, layout := 0, chOrder := 0x24, width := 64, stripH := 2, minLine := 100, delay := 1, bus := 0, addr := 16, abytes := 1, frameTo := 10, gap1 := 0, gap2 := 0, expReg := [] }, started := some 7, nextFrame := 6 })) (pkt 0x0703 [])).modCamUnit 15 (fun y => { y with exps := [{ id := 4, cmd := some 1, values := [1, 0, 0, 0], commit := 0, frameK := some 3, left := 1 }] })).modCamPort 3 (fun q => { q with cci := [{ unit := 15, expset := 4, bytes := [1], last := true }, { unit := 14, expset := 1, bytes := [1], last := true }] }), 3, { unit := 15, expset := 4, bytes := [1], last := true }, [{ unit := 14, expset := 1, bytes := [1], last := true }], { id := 4, cmd := some 1, values := [1, 0, 0, 0], commit := 0, frameK := some 3, left := 1 }, { dt := 0x24, layout := 0, chOrder := 0x24, width := 64, stripH := 2, minLine := 100, delay := 1, bus := 0, addr := 16, abytes := 1, frameTo := 10, gap1 := 0, gap2 := 0, expReg := [] }, 3, 6, (((holding ((up.modCamPort 3 (fun q => { q with lanes := 4 })).modCamUnit 15 (fun y => { y with desc := some { dt := 0x24, layout := 0, chOrder := 0x24, width := 64, stripH := 2, minLine := 100, delay := 1, bus := 0, addr := 16, abytes := 1, frameTo := 10, gap1 := 0, gap2 := 0, expReg := [] }, started := some 7, nextFrame := 6 })) (pkt 0x0703 [])).modCamUnit 15 (fun y => { y with exps := [{ id := 4, cmd := some 1, values := [1, 0, 0, 0], commit := 0, frameK := some 3, left := 1 }] })).modCamPort 3 (fun q => { q with cci := [{ unit := 15, expset := 4, bytes := [1], last := true }, { unit := 14, expset := 1, bytes := [1], last := true }] })).modCamPort 3 (fun q => { q with cci := [{ unit := 14, expset := 1, bytes := [1], last := true }] }), ((((holding ((up.modCamPort 3 (fun q => { q with lanes := 4 })).modCamUnit 15 (fun y => { y with desc := some { dt := 0x24, layout := 0, chOrder := 0x24, width := 64, stripH := 2, minLine := 100, delay := 1, bus := 0, addr := 16, abytes := 1, frameTo := 10, gap1 := 0, gap2 := 0, expReg := [] }, started := some 7, nextFrame := 6 })) (pkt 0x0703 [])).modCamUnit 15 (fun y => { y with exps := [{ id := 4, cmd := some 1, values := [1, 0, 0, 0], commit := 0, frameK := some 3, left := 1 }] })).modCamPort 3 (fun q => { q with cci := [{ unit := 15, expset := 4, bytes := [1], last := true }, { unit := 14, expset := 1, bytes := [1], last := true }] })).modCamPort 3 (fun q => { q with cci := [{ unit := 14, expset := 1, bytes := [1], last := true }] })).emit (.cci 3 { unit := 14, expset := 1, bytes := [1], last := true }), by decide +kernel⟩,
  ⟨((holding ((up.modCamPort 3 (fun q => { q with lanes := 4 })).modCamUnit 15 (fun y => { y with desc := some { dt := 0x24, layout := 0, chOrder := 0x24, width := 64, stripH := 2, minLine := 100, delay := 1, bus := 0, addr := 16, abytes := 1, frameTo := 10, gap1 := 0, gap2 := 0, expReg := [] }, started := some 7, nextFrame := 6 })) (pkt 0x0703 [])).modCamUnit 15 (fun y => { y with exps := [{ id := 4, cmd := some 1, values := [1, 0, 0, 0], commit := 0, frameK := some 3, left := 1 }] })).modCamPort 3 (fun q => { q with cci := [{ unit := 15, expset := 4, bytes := [1], last := true }, { unit := 14, expset := 1, bytes := [1], last := true }] }), 3, { unit := 15, expset := 4, bytes := [1], last := true }, [{ unit := 14, expset := 1, bytes := [1], last := true }], [{ unit := 14, expset := 1, bytes := [1], last := true }], { id := 4, cmd := some 1, values := [1, 0, 0, 0], commit := 0, frameK := some 3, left := 1 }, (((holding ((up.modCamPort 3 (fun q => { q with lanes := 4 })).modCamUnit 15 (fun y => { y with desc := some { dt := 0x24, layout := 0, chOrder := 0x24, width := 64, stripH := 2, minLine := 100, delay := 1, bus := 0, addr := 16, abytes := 1, frameTo := 10, gap1 := 0, gap2 := 0, expReg := [] }, started := some 7, nextFrame := 6 })) (pkt 0x0703 [])).modCamUnit 15 (fun y => { y with exps := [{ id := 4, cmd := some 1, values := [1, 0, 0, 0], commit := 0, frameK := some 3, left := 1 }] })).modCamPort 3 (fun q => { q with cci := [{ unit := 15, expset := 4, bytes := [1], last := true }, { unit := 14, expset := 1, bytes := [1], last := true }] })).modCamPort 3 (fun q => { q with cci := [{ unit := 14, expset := 1, bytes := [1], last := true }] }), ((((holding ((up.modCamPort 3 (fun q => { q with lanes := 4 })).modCamUnit 15 (fun y => { y with desc := some { dt := 0x24, layout := 0, chOrder := 0x24, width := 64, stripH := 2, minLine := 100, delay := 1, bus := 0, addr := 16, abytes := 1, frameTo := 10, gap1 := 0, gap2 := 0, expReg := [] }, started := some 7, nextFrame := 6 })) (pkt 0x0703 [])).modCamUnit 15 (fun y => { y with exps := [{ id := 4, cmd := some 1, values := [1, 0, 0, 0], commit := 0, frameK := some 3, left := 1 }] })).modCamPort 3 (fun q => { q with cci := [{ unit := 15, expset := 4, bytes := [1], last := true }, { unit := 14, expset := 1, bytes := [1], last := true }] })).modCamPort 3 (fun q => { q with cci := [{ unit := 14, expset := 1, bytes := [1], last := true }] })).emit (.cci 3 { unit := 14, expset := 1, bytes := [1], last := true }), by decide +kernel⟩,
  ⟨up, 15, by decide +kernel⟩,
  ⟨((up.modCamPort 3 (fun q => { q with lanes := 4 })).modCamUnit 15 (fun y => { y with desc := some { dt := 0x24, layout := 0, chOrder := 0x24, width := 64, stripH := 2, minLine := 100, delay := 1, bus := 0, addr := 16, abytes := 1, frameTo := 10, gap1 := 0, gap2 := 0, expReg := [] }, started := some 7, nextFrame := 6 })).modCamUnit 15 (fun y => { y with closed := [{ no := 5, fsTick := 7, fsTime := 0, timeB := false, pipe := {}, outs := {}, fsLine := 0, expset := 0, served := 1, got := 1 }] }), 15, { no := 5, fsTick := 7, fsTime := 0, timeB := false, pipe := {}, outs := {}, fsLine := 0, expset := 0, served := 1, got := 1 }, ((if ({ no := 5, fsTick := 7, fsTime := 0, timeB := false, pipe := {}, outs := {}, fsLine := 0, expset := 0, served := 1, got := 1 } : Frame).served = 0 then (((up.modCamPort 3 (fun q => { q with lanes := 4 })).modCamUnit 15 (fun y => { y with desc := some { dt := 0x24, layout := 0, chOrder := 0x24, width := 64, stripH := 2, minLine := 100, delay := 1, bus := 0, addr := 16, abytes := 1, frameTo := 10, gap1 := 0, gap2 := 0, expReg := [] }, started := some 7, nextFrame := 6 })).modCamUnit 15 (fun y => { y with closed := [{ no := 5, fsTick := 7, fsTime := 0, timeB := false, pipe := {}, outs := {}, fsLine := 0, expset := 0, served := 1, got := 1 }] })).drawn else (((up.modCamPort 3 (fun q => { q with lanes := 4 })).modCamUnit 15 (fun y => { y with desc := some { dt := 0x24, layout := 0, chOrder := 0x24, width := 64, stripH := 2, minLine := 100, delay := 1, bus := 0, addr := 16, abytes := 1, frameTo := 10, gap1 := 0, gap2 := 0, expReg := [] }, started := some 7, nextFrame := 6 })).modCamUnit 15 (fun y => { y with closed := [{ no := 5, fsTick := 7, fsTime := 0, timeB := false, pipe := {}, outs := {}, fsLine := 0, expset := 0, served := 1, got := 1 }] }))).deliverOutputs (15) ({ no := 5, fsTick := 7, fsTime := 0, timeB := false, pipe := {}, outs := {}, fsLine := 0, expset := 0, served := 1, got := 1 } : Frame) (({ no := 5, fsTick := 7, fsTime := 0, timeB := false, pipe := {}, outs := {}, fsLine := 0, expset := 0, served := 1, got := 1 } : Frame).profile (((up.modCamPort 3 (fun q => { q with lanes := 4 })).modCamUnit 15 (fun y => { y with desc := some { dt := 0x24, layout := 0, chOrder := 0x24, width := 64, stripH := 2, minLine := 100, delay := 1, bus := 0, addr := 16, abytes := 1, frameTo := 10, gap1 := 0, gap2 := 0, expReg := [] }, started := some 7, nextFrame := 6 })).modCamUnit 15 (fun y => { y with closed := [{ no := 5, fsTick := 7, fsTime := 0, timeB := false, pipe := {}, outs := {}, fsLine := 0, expset := 0, served := 1, got := 1 }] })).draw)).modCamUnit (15) (fun c => { c with closed := c.closed.drop 1 }), by decide +kernel⟩,
  ⟨((up.modCamPort 3 (fun q => { q with lanes := 4 })).modCamUnit 15 (fun y => { y with desc := some { dt := 0x24, layout := 0, chOrder := 0x24, width := 64, stripH := 2, minLine := 100, delay := 1, bus := 0, addr := 16, abytes := 1, frameTo := 10, gap1 := 0, gap2 := 0, expReg := [] }, started := some 7, nextFrame := 6 })).modCamUnit 15 (fun y => { y with closed := [{ no := 5, fsTick := 7, fsTime := 0, timeB := false, pipe := {}, outs := {}, fsLine := 0, expset := 0, served := 1, got := 1 }] }), 15, { no := 5, fsTick := 7, fsTime := 0, timeB := false, pipe := {}, outs := {}, fsLine := 0, expset := 0, served := 1, got := 1 }, by decide +kernel⟩⟩

/-- States and operands that meet the hypotheses of StreakDetectionRuns, clause by clause. -/
theorem wit_StreakDetectionRuns :
  (∃ (s : State) (r : Fin 4) (c : Cmd), s.atOnce r 0x0802 c ∧ u8 c.packet 8 < 16 ∧ u8 c.packet 9 = 0 ∧ 0 < u16 c.packet 12 ∧ u16 c.packet 12 ≤ 16384 ∧ u16 c.packet 10 + u16 c.packet 12 ≤ 65536 ∧ 16384 ≤ (i32 c.packet 20).natAbs ∧ (i32 c.packet 20).natAbs ≤ 64 * 65536 ∧ s.stk.enabled = false ∧ s.stk.maps = {}) ∧
  (∃ (s : State) (r : Fin 4) (c : Cmd) (b : List Byte), s.atOnce r 0x0801 c ∧ stkBad c.packet = false ∧ bit (u8 c.packet 8) 0 = true ∧ bit (u8 c.packet 8) 4 = false ∧ s.stk.enabled = false ∧ s.fir.cfg.scanning = false ∧ s.unmapped = false ∧ s.mapMisfit (u8 c.packet 24) = false ∧ stkTableBad b = false ∧ s.pageDram + s.stk.ringBytes (u8 c.packet 24) ≤ s.sys.memGib * 2 ^ 30) ∧
  (∃ (s : State) (r : Fin 4) (c : Cmd), s.atOnce r 0x0804 c) ∧
  (∃ (s : State) (r : Fin 4) (c : Cmd) (u : Nat) (m : StkMap), s.atOnce r 0x0803 c ∧ ladderBad c.packet = false ∧ u8 c.packet 8 = 1 ∧ s.fir.cfg.scanning = false ∧ s.stk.enabled = true ∧ s.unitOfColumn (u16 c.packet 16) = some (u, u16 c.packet 16 - m.base) ∧ s.stkMap u = some m ∧ s.stk.tests = [] ∧ s.testSet m (u16 c.packet 16 - m.base) (u8 c.packet 9) ((List.range 3).map (fun k => if k = u8 c.packet 9 then (1 : Int) else 0)) ≠ []) ∧
  (∃ (s : State) (r : Fin 4) (c : Cmd) (k : Nat), s.atOnce r 0x0803 c ∧ ladderBad c.packet = false ∧ u8 c.packet 8 = 0 ∧ k < u16 c.packet 18 ∧ u32 c.packet (20 + 4 * k) / 2 ^ 21 ≠ s.gng.dev) ∧
  (∃ (s : State) (t : LTest) (p : Step) (a : Nat) (b : Nat) (u : Nat), s.stkActive = true ∧ s.placeable = some (t, p, a, b, u)) ∧
  (∃ (s : State), (s.stk.enabled = false ∨ s.fir.cfg.scanning = true ∨ s.fir.paced = false ∨ s.twn.role.acting = false)) ∧
  (∃ (s : State) (t : LTest) (p : Step) (id : Nat) (d : Nat), s.stk.tests = [t] ∧ t.steps = [p] ∧ p.u = none ∧ p.verdict = none ∧ t.cmd = some id ∧ t.deadline = some d ∧ d ≤ s.tick ∧ s.arrives (· == .ladderStepPlace) = false) :=
  ⟨⟨holding up (pkt 0x0802 [(8, [15]), (12, leBytes 2 16384), (20, leBytes 4 16384)]), 0, cmd (pkt 0x0802 [(8, [15]), (12, leBytes 2 16384), (20, leBytes 4 16384)]), by decide +kernel⟩,
  ⟨holding up (pkt 0x0801 [(8, [1, 1, 0, 1]), (12, leBytes 2 1), (16, leBytes 2 32), (18, leBytes 2 32), (20, [2, 1]), (24, [8, 2, 1])]), 0, cmd (pkt 0x0801 [(8, [1, 1, 0, 1]), (12, leBytes 2 1), (16, leBytes 2 32), (18, leBytes 2 32), (20, [2, 1]), (24, [8, 2, 1])]), zeros 252 ++ leBytes 4 (crc32c (zeros 252)), by decide +kernel⟩,
  ⟨holding up (pkt 0x0804 []), 0, cmd (pkt 0x0804 []), by decide +kernel⟩,
  ⟨holding (((up.modGeo (fun g => { g with gens := [{ serial := 1, set := { classes := Table.set {} {} 0 { bits := 1, dies := 1, rows := 1, nozzles := 1 }, heads := Table.set {} {} 0 { cls := 0 }, excs := [zeros 8] } }], active := 1, lastSerial := 1 })).modStk (fun k => { k with enabled := true, cfg := { dash := 32, space := 32, neigh := 2, table := zeros 128 ++ [1] }, maps := Table.set none {} 15 (some { base := 0, cols := 64, col0 := 0, cpp := 65536, camDist := 0, rowOff := [0, 0, 0] }) }))) (pkt 0x0803 [(8, [1]), (12, [255])]), 0, cmd (pkt 0x0803 [(8, [1]), (12, [255])]), 15, { base := 0, cols := 64, col0 := 0, cpp := 65536, camDist := 0, rowOff := [0, 0, 0] }, by refine ⟨by decide +kernel, by decide +kernel, by decide +kernel, by decide +kernel, by decide +kernel, by decide +kernel, by decide +kernel, by decide +kernel, ?_⟩; intro h; have h2 := congrArg List.length h; simp only [State.testSet, List.length_take, List.length_mergeSort, List.length_nil] at h2; revert h2; decide +kernel⟩,
  ⟨holding up (pkt 0x0803 [(12, [255]), (18, leBytes 2 1), (20, leBytes 4 (2 ^ 21))]), 0, cmd (pkt 0x0803 [(12, [255]), (18, leBytes 2 1), (20, leBytes 4 (2 ^ 21))]), 0, by decide +kernel⟩,
  ⟨((((up.modGeo (fun g => { g with gens := [{ serial := 1, set := { classes := Table.set {} {} 0 { bits := 1, dies := 1, rows := 1, nozzles := 1 }, heads := Table.set {} {} 0 { cls := 0 }, excs := [zeros 8] } }], active := 1, lastSerial := 1 })).modStk (fun k => { k with enabled := true, cfg := { dash := 32, space := 32, neigh := 2, table := zeros 128 ++ [1] }, maps := Table.set none {} 15 (some { base := 0, cols := 64, col0 := 0, cpp := 65536, camDist := 0, rowOff := [0, 0, 0] }) })).modStk (fun k => { k with tests := [{ id := 1, cause := 1, channel := 0, unit := 15, column := 0, cmd := some 1, deadline := some 1000000, steps := [{ noz := 0, plane := 0, unit := 15, column := 0 }] }] })).setCtx 1 { state := .queued, lines := 16, start := some 96 }).setCtx 2 { state := .queued, lines := 16, start := some 176 } |>.modPgq (fun g => { g with queue := [1, 2] }) |>.modFir (fun f => { f with paced := true }), { id := 1, cause := 1, channel := 0, unit := 15, column := 0, cmd := some 1, deadline := some 1000000, steps := [{ noz := 0, plane := 0, unit := 15, column := 0 }] }, { noz := 0, plane := 0, unit := 15, column := 0 }, 1, 2, 112, by decide +kernel⟩,
  ⟨up, by decide +kernel⟩,
  ⟨(holding ((up.modGeo (fun g => { g with gens := [{ serial := 1, set := { classes := Table.set {} {} 0 { bits := 1, dies := 1, rows := 1, nozzles := 1 }, heads := Table.set {} {} 0 { cls := 0 }, excs := [zeros 8] } }], active := 1, lastSerial := 1 })).modStk (fun k => { k with enabled := true, cfg := { dash := 32, space := 32, neigh := 2, table := zeros 128 ++ [1] }, maps := Table.set none {} 15 (some { base := 0, cols := 64, col0 := 0, cpp := 65536, camDist := 0, rowOff := [0, 0, 0] }) })) (pkt 0x0803 [])).modStk (fun k => { k with tests := [{ id := 1, cause := 1, channel := 0, unit := 15, column := 0, cmd := some 1, deadline := some 1000000, steps := [{ noz := 0, plane := 0, unit := 15, column := 0 }] }] }), { id := 1, cause := 1, channel := 0, unit := 15, column := 0, cmd := some 1, deadline := some 1000000, steps := [{ noz := 0, plane := 0, unit := 15, column := 0 }] }, { noz := 0, plane := 0, unit := 15, column := 0 }, 1, 1000000, by decide +kernel⟩⟩

/-- States and operands that meet the hypotheses of VerdictsFollowTheirLimits, clause by clause. -/
theorem wit_VerdictsFollowTheirLimits :
  (∃ (c : StkCfg), c.fail < c.pass) :=
  ⟨{ pass := 64, fail := 32 }, by decide +kernel⟩

/-- States and operands that meet the hypotheses of AxesAreCommandedAndFollowTheirClock, clause by clause. -/
theorem wit_AxesAreCommandedAndFollowTheirClock :
  (∃ (s : State) (r : Fin 4) (c : Cmd), s.atOnce r 0x0901 c ∧ u8 c.packet 8 < 16 ∧ u8 c.packet 9 < 32 ∧ (parseAxis c.packet).ok (u8 c.packet 8) = true ∧ zeroRange c.packet 52 64 = true ∧ (s.axis (u8 c.packet 8)).moves = false) ∧
  (∃ (s : State) (r : Fin 4) (c : Cmd) (b : List Byte), s.atOnce r 0x0902 c ∧ 2 ≤ u8 c.packet 8 ∧ u8 c.packet 8 < 16 ∧ u64 c.packet 16 % 64 = 0 ∧ zeroRange c.packet 9 16 = true ∧ zeroRange c.packet 24 64 = true ∧ crc32c (b.take 512) = u32 b 512) ∧
  (∃ (s : State) (r : Fin 4) (c : Cmd) (b : List Byte), s.atOnce r 0x0903 c ∧ u8 c.packet 8 < 16 ∧ u8 c.packet 9 < 8 ∧ 0 < u8 c.packet 10 ∧ u8 c.packet 10 ≤ 64 ∧ u64 c.packet 16 % 16 = 0 ∧ zeroRange c.packet 11 16 = true ∧ zeroRange c.packet 24 64 = true ∧ (s.axis (u8 c.packet 8)).usesProfile (u8 c.packet 9) = false ∧ (∀ g ∈ parseSegs (u8 c.packet 10) b, g.dur ≠ 0 ∧ g.dur ≤ 2 ^ 24)) ∧
  (∃ (s : State) (r : Fin 4) (c : Cmd), s.atOnce r 0x0904 c ∧ moveBad c.packet = false ∧ u8 c.packet 9 = 0 ∧ (s.axis (u8 c.packet 8)).cfgComing.enable = true ∧ (s.axis (u8 c.packet 8)).limSet = true ∧ (s.axis (u8 c.packet 8)).limComing.minPos ≤ i64 c.packet 16 ∧ i64 c.packet 16 ≤ (s.axis (u8 c.packet 8)).limComing.maxPos ∧ s.limitActive (u8 c.packet 8) false = false ∧ s.limitActive (u8 c.packet 8) true = false ∧ (s.axis (u8 c.packet 8)).state ≠ .fault ∧ s.gongLow = false) ∧
  (∃ (s : State) (r : Fin 4) (c : Cmd), s.atOnce r 0x0905 c ∧ u8 c.packet 8 < 16 ∧ u8 c.packet 9 < 4 ∧ (parseLimits c.packet).ok = true ∧ zeroRange c.packet 48 64 = true ∧ (s.axis (u8 c.packet 8)).goal = .none ∧ (s.axis (u8 c.packet 8)).goalNext = [] ∧ i64 c.packet 32 ≤ (s.axis (u8 c.packet 8)).p ∧ (s.axis (u8 c.packet 8)).p ≤ i64 c.packet 40) ∧
  (∃ (s : State) (r : Fin 4) (c : Cmd), s.atOnce r 0x0906 c ∧ u8 c.packet 8 < 16 ∧ u8 c.packet 9 ≤ 2 ∧ zeroRange c.packet 10 64 = true) ∧
  (∃ (s : State) (r : Fin 4) (c : Cmd), s.atOnce r 0x0907 c ∧ u8 c.packet 8 < 16 ∧ zeroRange c.packet 9 64 = true) ∧
  (∃ (s : State), s.running = true ∧ s.pairTick % 4000 = 0 ∧ s.mot.lastPlan ≠ some s.tick) ∧
  (∃ (s : State), s.mot.lastPlan = some s.tick) ∧
  (∃ (s : State) (x : Fin 16) (pos : Bool), s.limitActive x pos = true) ∧
  (∃ (s : State) (x : Fin 16) (m : Nat), (s.axis x).resNext = some m ∧ (s.axis x).planTick < s.tick ∧ (s.axis x).angleAt x m s.tick = (s.axis x).angleAt x (s.axis x).res s.tick) ∧
  (∃ (s : State), s.mot.pwmAt = none ∧ s.sys.held = false ∧ (∀ x < 16, (s.axis x).energised = false)) :=
  ⟨⟨holding up (pkt 0x0901 [(8, [15, 31, 7]), (12, leBytes 2 10000), (14, leBytes 2 10000), (16, leBytes 2 1), (44, leBytes 4 1), (48, [31, 1])]), 0, cmd (pkt 0x0901 [(8, [15, 31, 7]), (12, leBytes 2 10000), (14, leBytes 2 10000), (16, leBytes 2 1), (44, leBytes 4 1), (48, [31, 1])]), by decide +kernel⟩,
  ⟨holding up (pkt 0x0902 [(8, [15])]), 0, cmd (pkt 0x0902 [(8, [15])]), List.replicate 512 1 ++ leBytes 4 (crc32c (List.replicate 512 1)), by decide +kernel⟩,
  ⟨holding up (pkt 0x0903 [(8, [15, 7, 1])]), 0, cmd (pkt 0x0903 [(8, [15, 7, 1])]), leBytes 4 16777216 ++ zeros 12, by decide +kernel⟩,
  ⟨holding ((up.modAxis 15 (fun a => { a with cfg := { enable := true }, limSet := true, lim := { vMax := 1 }, state := .rest }))) (pkt 0x0904 [(8, [15, 0]), (16, leBytes 8 65536)]), 0, cmd (pkt 0x0904 [(8, [15, 0]), (16, leBytes 8 65536)]), by decide +kernel⟩,
  ⟨holding up (pkt 0x0905 [(8, [15, 3, 15, 255]), (12, leBytes 4 1), (16, leBytes 4 1), (20, leBytes 4 1), (24, leBytes 4 1), (28, leBytes 4 1), (40, leBytes 8 1)]), 0, cmd (pkt 0x0905 [(8, [15, 3, 15, 255]), (12, leBytes 4 1), (16, leBytes 4 1), (20, leBytes 4 1), (24, leBytes 4 1), (28, leBytes 4 1), (40, leBytes 8 1)]), by decide +kernel⟩,
  ⟨holding ((up.modAxis 15 (fun a => { a with cfg := { enable := true }, limSet := true, lim := { vMax := 1 }, state := .rest }))) (pkt 0x0906 [(8, [15, 2])]), 0, cmd (pkt 0x0906 [(8, [15, 2])]), by decide +kernel⟩,
  ⟨holding ((up.modAxis 15 (fun a => { a with cfg := { enable := true }, limSet := true, lim := { vMax := 1 }, state := .rest }))) (pkt 0x0907 [(8, [15])]), 0, cmd (pkt 0x0907 [(8, [15])]), by decide +kernel⟩,
  ⟨up, by decide +kernel⟩,
  ⟨{ up with mot := { lastPlan := some 1000000 } }, by decide +kernel⟩,
  ⟨up.modAxis 15 (fun a => { a with lim := { limPos := 15 } }), 15, true, by decide +kernel⟩,
  ⟨up.modAxis 1 (fun a => { a with resNext := some 0, planTick := 999999 }), 1, 0, by decide +kernel⟩,
  ⟨up.modSys (fun y => { y with held := false }), by decide +kernel⟩⟩

/-- States and operands that meet the hypotheses of JerkStaysWithinItsLimit, clause by clause. -/
theorem wit_JerkStaysWithinItsLimit :
  (∃ (a : Axis) (x : Int) (vlim : Int) (b : Axis), (b = a.planPosition x vlim ∨ b = a.planVelocity x vlim ∨ b = a.planStop false)) :=
  ⟨{}, 100, 5, ({} : Axis).planPosition 100 5, by exact .inl rfl⟩

/-- States and operands that meet the hypotheses of FeedbackIsConfigured, clause by clause. -/
theorem wit_FeedbackIsConfigured :
  (∃ (s : State) (r : Fin 4) (c : Cmd), s.atOnce r 0x0A01 c ∧ encBad c.packet = false ∧ u8 c.packet 9 = 0 ∧ bit (u8 c.packet 11) 4 = false ∧ s.chanInUse (u8 c.packet 8) = false) ∧
  (∃ (s : State) (r : Fin 4) (c : Cmd), s.atOnce r 0x0A02 c ∧ u8 c.packet 8 < 8 ∧ u8 c.packet 9 = 0 ∧ zeroRange c.packet 10 16 = true ∧ zeroRange c.packet 24 64 = true ∧ (s.chan (u8 c.packet 8)).cfg.wrap = false ∧ (s.chan (u8 c.packet 8)).cfg.cntMin ≤ i64 c.packet 16 ∧ i64 c.packet 16 ≤ (s.chan (u8 c.packet 8)).cfg.cntMax) ∧
  (∃ (s : State) (r : Fin 4) (c : Cmd), s.atOnce r 0x0A03 c ∧ u8 c.packet 8 < 4 ∧ u8 c.packet 9 < 8 ∧ u8 c.packet 10 ≤ 2 ∧ u8 c.packet 11 = 0 ∧ 0 < u32 c.packet 12 ∧ u32 c.packet 12 ≤ 65535 ∧ zeroRange c.packet 16 64 = true ∧ (s.probe (u8 c.packet 8)).armed = false) ∧
  (∃ (s : State) (r : Fin 4) (c : Cmd) (b : List Byte) (es : List (Int × Nat)), s.atOnce r 0x0A04 c ∧ u8 c.packet 8 < 8 ∧ u8 c.packet 9 < 8 ∧ u8 c.packet 10 < 4 ∧ u8 c.packet 11 = 0 ∧ u16 c.packet 12 ≠ 0 ∧ zeroRange c.packet 24 64 = true ∧ 0 < u16 c.packet 14 ∧ u16 c.packet 14 ≤ 256 ∧ u64 c.packet 16 % 8 = 0 ∧ (s.chan (u8 c.packet 9)).posValid = true ∧ parseCompare (u16 c.packet 14) b = some es ∧ (s.cmpr (u8 c.packet 8)).listNext = none) ∧
  (∃ (s : State) (r : Fin 4) (c : Cmd), s.atOnce r 0x0A05 c ∧ u8 c.packet 8 < 8 ∧ zeroRange c.packet 9 64 = true) :=
  ⟨⟨holding up (pkt 0x0A01 [(8, [7, 0, 1, 15, 14, 0, 1]), (28, leBytes 8 1), (36, leBytes 4 4000)]), 0, cmd (pkt 0x0A01 [(8, [7, 0, 1, 15, 14, 0, 1]), (28, leBytes 8 1), (36, leBytes 4 4000)]), by decide +kernel⟩,
  ⟨holding up (pkt 0x0A02 [(8, [7]), (16, leInt 8 (-(2 ^ 47 - 1)))]), 0, cmd (pkt 0x0A02 [(8, [7]), (16, leInt 8 (-(2 ^ 47 - 1)))]), by decide +kernel⟩,
  ⟨holding up (pkt 0x0A03 [(8, [3, 7, 2]), (12, leBytes 4 65535)]), 0, cmd (pkt 0x0A03 [(8, [3, 7, 2]), (12, leBytes 4 65535)]), by decide +kernel⟩,
  ⟨holding ((up.modChan 7 (fun c => { c with posValid := true }))) (pkt 0x0A04 [(8, [7, 7, 3]), (12, leBytes 2 1), (14, leBytes 2 1)]), 0, cmd (pkt 0x0A04 [(8, [7, 7, 3]), (12, leBytes 2 1), (14, leBytes 2 1)]), [5, 0, 0, 0, 0, 0, 2, 0], [(5, 2)], by decide +kernel⟩,
  ⟨holding up (pkt 0x0A05 [(8, [7])]), 0, cmd (pkt 0x0A05 [(8, [7])]), by decide +kernel⟩⟩

/-- States and operands that meet the hypotheses of ChannelsCountAndEventsArrive, clause by clause. -/
theorem wit_ChannelsCountAndEventsArrive :
  (∃ (s : State) (k : Fin 8), (s.chan k).cfg.ssi = false ∧ s.sys.held = false ∧ (s.chan k).lines = 0 ∧ (s.chan k).cfg.invert = false ∧ (s.chan k).cfg.wrap = false ∧ (s.chan k).corr = none ∧ (s.chan k).setAt = none ∧ (s.chan k).reverse = false ∧ (s.chan k).count = (s.chan k).eh ∧ (s.chan k).cfg.cntMin ≤ (s.chan k).count - 1 ∧ (s.chan k).count + 1 ≤ (s.chan k).cfg.cntMax ∧ 2 ≤ (s.chan k).cfg.hyst) ∧
  (∃ (s : State) (k : Fin 8) (b : List (Fin 4)), (s.chan k).cfg.ssi = false ∧ s.sys.held = false ∧ (s.chan k).lines = 0 ∧ (s.chan k).fault = false ∧ (s.chan k).errAt = [] ∧ filterPair (s.chan k).cfg.filtN 0 b = 3) ∧
  (∃ (s : State) (k : Fin 8), (s.chan k).cfg.ssi = true ∨ s.sys.held = true) ∧
  (∃ (s : State) (k : Fin 8), (s.chan k).ssiFrame = none) ∧
  (∃ (s : State) (k : Fin 8) (data : Nat) (start : Nat), (s.chan k).ssiFrame = some start ∧ (s.chan k).cfg.ssiSampledBy start s.tick = true ∧ (s.chan k).setAt = none ∧ (s.chan k).reverse = false ∧ (s.chan k).eh ≤ data ∧ (s.chan k).cfg.ssiFmt = 0 ∧ (s.chan k).cfg.wrap = false ∧ (s.chan k).ssiLast = none ∧ data < 2 ^ (s.chan k).cfg.ssiBits) ∧
  (∃ (s : State) (k : Fin 8), (s.chan k).fault = true ∧ (s.chan k).cfg.autoClear = true ∧ 4096 ≤ (s.chan k).clean) ∧
  (∃ (s : State) (k : Fin 8) (b : List Bool), (s.chan k).cfg.indexEn = true ∧ s.sys.held = false ∧ (s.chan k).setArmed = none ∧ (s.chan k).cfg.linesRev ≠ 0 ∧ (s.chan k).iRef = none ∧ (s.chan k).isIndex (filterLine (s.chan k).cfg.filtN (s.chan k).z b) = true) ∧
  (∃ (s : State) (p : Fin 4), (s.probe p).armed = true ∧ (s.probe p).level = false ∧ (s.probe p).edge = 0 ∧ (s.chan (s.probe p).chan).changedAt = none ∧ s.twn.role = .alone) ∧
  (∃ (s : State) (p : Fin 4) (d : Nat), (s.probe p).armed = true ∧ (s.probe p).deadline = some d ∧ d ≤ s.tick ∧ s.probeArrives p = false) ∧
  (∃ (s : State) (o : Fin 8) (a : Nat) (b : Nat), (s.cmpr o).pulse = some (a, b) ∧ b ≤ s.tick) ∧
  (∃ (s : State) (w : Fin 16) (l : Bool) (b : List Bool), (s.switchIn w).level = !l ∧ (∀ x ∈ b, x = l)) :=
  ⟨⟨up, 7, by decide +kernel⟩,
  ⟨up, 7, List.replicate 14 3, by decide +kernel⟩,
  ⟨up.modChan 7 (fun c => { c with cfg := { c.cfg with ssi := true } }), 7, by decide +kernel⟩,
  ⟨up, 7, by decide +kernel⟩,
  ⟨up.modChan 7 (fun c => { c with ssiFrame := some 900000, cfg := { c.cfg with ssi := true, ssiBits := 40, ssiKhz := 100 } }), 7, 2 ^ 32 - 1, 900000, by decide +kernel⟩,
  ⟨up.modChan 7 (fun c => { c with fault := true, clean := 4096, cfg := { c.cfg with autoClear := true } }), 7, by decide +kernel⟩,
  ⟨up.modChan 7 (fun c => { c with count := 9, indexes := 65535, cfg := { c.cfg with indexEn := true, linesRev := 4 } }), 7, List.replicate 14 true, by decide +kernel⟩,
  ⟨(holding up (pkt 0x0A03 [])).modProbe 3 (fun q => { q with armed := true, chan := 7, cmd := 1, deadline := some 2000000 }), 3, by decide +kernel⟩,
  ⟨(holding up (pkt 0x0A03 [])).modProbe 3 (fun q => { q with armed := true, chan := 7, cmd := 1, deadline := some 1000000 }), 3, 1000000, by decide +kernel⟩,
  ⟨up.modCmpr 7 (fun c => { c with pulse := some (1, 1000000) }), 7, 1, 1000000, by decide +kernel⟩,
  ⟨up, 15, true, [true, true], by decide +kernel⟩⟩

/-- States and operands that meet the hypotheses of LoopsChangeAndRun, clause by clause. -/
theorem wit_LoopsChangeAndRun :
  (∃ (s : State) (r : Fin 4) (c : Cmd), s.atOnce r 0x0B01 c ∧ u8 c.packet 8 < 48 ∧ u8 c.packet 9 < 16 ∧ (parseLoop c.packet).ok = true ∧ s.loadWith (u8 c.packet 8) (parseLoop c.packet) (s.loop (u8 c.packet 8)).secsComing.length ≤ 1024 ∧ s.targetTaken (u8 c.packet 8) (parseLoop c.packet) = false ∧ (s.loop (u8 c.packet 8)).cfgComing.enable = false ∧ (s.loop (u8 c.packet 8)).secsComing ≠ []) ∧
  (∃ (s : State) (r : Fin 4) (c : Cmd) (b : List Byte) (ts : List Section), s.atOnce r 0x0B02 c ∧ u8 c.packet 8 < 48 ∧ 0 < u8 c.packet 9 ∧ u8 c.packet 9 ≤ 8 ∧ u8 c.packet 10 < 2 ∧ u64 c.packet 16 % 8 = 0 ∧ s.loadWith (u8 c.packet 8) (s.loop (u8 c.packet 8)).cfgComing (u8 c.packet 9) ≤ 1024 ∧ parseSections (u8 c.packet 9) b = some ts) ∧
  (∃ (s : State) (r : Fin 4) (c : Cmd), s.atOnce r 0x0B03 c ∧ u8 c.packet 8 < 48 ∧ u8 c.packet 9 < 2) ∧
  (∃ (s : State) (r : Fin 4) (c : Cmd), s.atOnce r 0x0B04 c ∧ u8 c.packet 8 < 48 ∧ u8 c.packet 9 < 2 ∧ (∀ k < 48, (s.loop k).cfgComing.target ≠ (4, u8 c.packet 8, 0))) ∧
  (∃ (s : State) (r : Fin 4) (c : Cmd), s.atOnce r 0x0B05 c ∧ u8 c.packet 8 < 48) ∧
  (∃ (s : State) (r : Fin 4) (c : Cmd), s.atOnce r 0x0B10 c ∧ u8 c.packet 8 = 1 ∧ u8 c.packet 9 < 32 ∧ u8 c.packet 10 ≤ 4 ∧ u8 c.packet 11 = 0 ∧ zeroRange c.packet 14 16 = true ∧ zeroRange c.packet 24 64 = true ∧ u16 c.packet 20 ≤ u16 c.packet 22) ∧
  (∃ (s : State) (a : Fin 2) (slot : Fin 40) (n : Nat), s.sampledInput a slot = n ∧ n < 32 ∧ s.pairTick % 4000 = 100 * (slot.val + 1) % 4000 ∧ (s.adcIn n).lin = 0 ∧ s.cle.loops = {}) ∧
  (∃ (s : State) (l : Fin 48), s.running = true ∧ (s.loop l).changes = [] ∧ (s.loop l).cfg.enable = true ∧ (s.loop l).cfg.rate = 0 ∧ (s.loop l).cfg.phase = 0 ∧ (s.loop l).cfg.permit = false ∧ (s.loop l).cfg.srcKind = 0 ∧ (s.loop l).cfg.outKind = 0 ∧ (s.loop l).window = [] ∧ s.pairTick % 4000 = 0 ∧ (s.loop l).evalAt ≠ some s.pairTick ∧ s.twn.role = .alone ∧ (s.loop l).clamped = false ∧ s.publishDue = s) ∧
  (∃ (s : State) (l : Fin 48) (y : Int), s.running = true ∧ (s.loop l).changes = [] ∧ (s.loop l).cfg.enable = true ∧ (s.loop l).cfg.instant s.pairTick = some s.pairTick ∧ (s.loop l).cfg.permit = false ∧ (s.loop l).evalAt ≠ some s.pairTick ∧ s.twn.role ≠ .shadow ∧ s.publishDue = s ∧ s.lampReady (s.loop l).cfg s.tick = true ∧ s.ownMeasure (s.loop l) s.tick = some y) ∧
  (∃ (s : State) (l : Fin 48) (at_ : Nat) (u : Int) (ok : Bool) (rest : List (Nat × Int × Bool)), (s.loop l).pubs = (at_, u, ok) :: rest ∧ at_ + 800 ≤ s.tick ∧ (s.loop l).cfg.outKind = 3 ∧ (s.loop l).cfg.permit = false ∧ (s.loop l).cfg.enable = true ∧ s.cle.permit = true ∧ (∀ e ∈ s.cle.loops.entries, e.2.cfg.permit = false)) ∧
  (∃ (s : State) (u : State), s.running = true ∧ s.pairTick % 20000 = 0 ∧ s.twn.lastCycle ≠ some s.pairTick ∧ u = (List.range 48).foldl State.evaluateLoopDue (if s.planDue then s.planBlocks s.tick else s) ∧ (u.twn.role = .alone ∨ u.twn.role = .lead ∧ u.hasShadow = false)) ∧
  (∃ (s : State), (s.running = false ∨ s.pairTick % 20000 ≠ 0 ∨ s.twn.lastCycle = some s.pairTick)) :=
  ⟨⟨holding ((up.modLoop 5 (fun l => { l with secs := [{ b0 := 1, b1 := 0, b2 := 0, a1 := 0, a2 := 0, sh := 0 }] }))) (pkt 0x0B01 [(8, [5, 1, 0, 3]), (16, [3, 9]), (24, leBytes 4 65535), (10, [0])]), 0, cmd (pkt 0x0B01 [(8, [5, 1, 0, 3]), (16, [3, 9]), (24, leBytes 4 65535), (10, [0])]), by decide +kernel⟩,
  ⟨holding up (pkt 0x0B02 [(8, [5, 1, 1])]), 0, cmd (pkt 0x0B02 [(8, [5, 1, 1])]), [1, 0, 0, 0, 0, 0, 0, 0, 0, 0, 0, 0, 0, 0, 0, 192, 0, 0, 0, 0, 2, 0, 0, 0], [{ b0 := 1, b1 := 0, b2 := 0, a1 := -(2 ^ 30), a2 := 0, sh := 2 }], by decide +kernel⟩,
  ⟨holding up (pkt 0x0B03 [(8, [5, 1]), (12, leInt 4 (-9))]), 0, cmd (pkt 0x0B03 [(8, [5, 1]), (12, leInt 4 (-9))]), by decide +kernel⟩,
  ⟨holding up (pkt 0x0B04 [(8, [5, 1]), (12, leInt 4 (-9))]), 0, cmd (pkt 0x0B04 [(8, [5, 1]), (12, leInt 4 (-9))]), by decide +kernel⟩,
  ⟨holding ((up.modLoop 5 (fun l => { l with y := -7, u := 9 }))) (pkt 0x0B05 [(8, [5])]), 0, cmd (pkt 0x0B05 [(8, [5])]), by decide +kernel⟩,
  ⟨holding up (pkt 0x0B10 [(8, [1, 6, 2, 0]), (12, leBytes 2 100), (16, leInt 4 65536), (20, leBytes 2 10), (22, leBytes 2 60000)]), 0, cmd (pkt 0x0B10 [(8, [1, 6, 2, 0]), (12, leBytes 2 100), (16, leInt 4 65536), (20, leBytes 2 10), (22, leBytes 2 60000)]), by decide +kernel⟩,
  ⟨{ (up.modCle (fun m => { m with sched := m.sched.set [] 1 [4, 7] })).modAdcIn 7 (fun i => { i with gain := 65536, offset := 3, hi := 65535 }) with tick := 1000200 }, 1, 1, 7, by decide +kernel⟩,
  ⟨up.modLoop 5 (fun l => { l with cfg := { l.cfg with enable := true }, u := 3 }), 5, by decide +kernel⟩,
  ⟨up.modLoop 5 (fun l => { l with cfg := { l.cfg with enable := true, srcKind := 1 }, u := 3 }), 5, 0, by decide +kernel⟩,
  ⟨up.modLoop 5 (fun l => { l with cfg := { l.cfg with enable := true, outKind := 3, outIndex := 2 }, pubs := [(999000, 70000, true)] })|>.modCle (fun c => { c with permit := true }), 5, 999000, 70000, true, [], by decide +kernel⟩,
  ⟨up, (List.range 48).foldl State.evaluateLoopDue (if (up).planDue then (up).planBlocks (up).tick else (up)), by decide +kernel⟩,
  ⟨up.modTwn (fun t => { t with lastCycle := some 1000000 }), by decide +kernel⟩⟩

/-- States and operands that meet the hypotheses of LoopArithmeticSaturates, clause by clause. -/
theorem wit_LoopArithmeticSaturates :
  (∃ (c : LoopCfg), c.slew = 0 ∧ c.outMin ≤ c.outMax) :=
  ⟨{ outMin := -5, outMax := 7 }, by decide +kernel⟩

/-- States and operands that meet the hypotheses of LightIsConfiguredAndRuns, clause by clause. -/
theorem wit_LightIsConfiguredAndRuns :
  (∃ (s : State) (r : Fin 4) (c : Cmd), s.atOnce r 0x0C01 c ∧ chainBad c.packet = false ∧ chainFits (parseChain c.packet) (s.chain (u8 c.packet 8)).mtxComing = true ∧ s.namedBeyond (u8 c.packet 8) ((parseChain c.packet).ndrv * 16 * max 1 (s.chain (u8 c.packet 8)).mtxComing.lines) = false) ∧
  (∃ (s : State) (r : Fin 4) (c : Cmd), s.atOnce r 0x0C02 c ∧ u8 c.packet 8 < 8 ∧ u8 c.packet 9 = 0 ∧ u8 c.packet 10 ≤ 26 ∧ u8 c.packet 11 ≤ 31 ∧ u8 c.packet 12 < 2 ∧ u8 c.packet 13 = 0 ∧ (u8 c.packet 11 < u8 c.packet 10 ∨ u8 c.packet 10 + 5 ≤ u8 c.packet 11) ∧ s.zoneNames (u8 c.packet 8) = false) ∧
  (∃ (s : State) (r : Fin 4) (c : Cmd), s.atOnce r 0x0C03 c ∧ u8 c.packet 8 < 8 ∧ 0 < u16 c.packet 12 ∧ u16 c.packet 12 ≤ 16 ∧ u64 c.packet 16 = 0 ∧ zeroRange c.packet (24 + 2 * u16 c.packet 12) 56 = true ∧ (s.chain (u8 c.packet 8)).state ≠ .fault ∧ u16 c.packet 10 + u16 c.packet 12 ≤ (s.chain (u8 c.packet 8)).channels ∧ s.loopDrives (u8 c.packet 8) (u16 c.packet 10) (u16 c.packet 12) = false) ∧
  (∃ (s : State) (r : Fin 4) (c : Cmd), s.atOnce r 0x0C04 c ∧ u8 c.packet 8 = 1 ∧ u8 c.packet 9 < 8 ∧ u8 c.packet 10 ≤ 1 ∧ u8 c.packet 11 < 128 ∧ u8 c.packet 13 < 2 ∧ 0 < u16 c.packet 14 ∧ u16 c.packet 14 ≤ 4096 ∧ zeroRange c.packet 16 64 = true) ∧
  (∃ (s : State) (k : Fin 8) (out : List Nat), (s.chain k).sending = some out ∧ (s.chain k).sendEnd ≤ s.tick ∧ (s.chain k).prev = none ∧ (s.chain k).mtx.lines = 0 ∧ s.chainZones k = []) ∧
  (∃ (s : State) (k : Fin 8), (s.chain k).sending = none ∨ s.tick < (s.chain k).sendEnd) ∧
  (∃ (s : State) (k : Fin 8), (s.chain k).mtx.lines = 2 ∧ (s.chain k).state = .matrix ∧ (s.chain k).slot = 0 ∧ s.tick = (s.chain k).scanAt ∧ (s.chain k).scan ≠ []) ∧
  (∃ (s : State) (k : Fin 8) (m : Nat), s.readingOn k = some (m, false) ∧ (s.colour k).bigEndian = false) ∧
  (∃ (s : State) (k : Fin 8) (m : Nat), s.readingOn k = some (m, false)) :=
  ⟨⟨holding up (pkt 0x0C01 [(8, [2, 1, 4, 3]), (12, leBytes 2 10), (14, leBytes 2 10), (16, [1, 1])]), 0, cmd (pkt 0x0C01 [(8, [2, 1, 4, 3]), (12, leBytes 2 10), (14, leBytes 2 10), (16, [1, 1])]), by decide +kernel⟩,
  ⟨holding up (pkt 0x0C02 [(8, [2, 0, 26, 31, 1])]), 0, cmd (pkt 0x0C02 [(8, [2, 0, 26, 31, 1])]), by decide +kernel⟩,
  ⟨holding ((up.modChain 2 (fun x => { x with cfg := { x.cfg with ndrv := 4 } }))) (pkt 0x0C03 [(8, [2]), (10, leBytes 2 3), (12, leBytes 2 2), (24, leBytes 2 9), (26, leBytes 2 65535)]), 0, cmd (pkt 0x0C03 [(8, [2]), (10, leBytes 2 3), (12, leBytes 2 2), (24, leBytes 2 9), (26, leBytes 2 65535)]), by decide +kernel⟩,
  ⟨holding up (pkt 0x0C04 [(8, [1, 7, 1, 127, 9, 1]), (14, leBytes 2 4096)]), 0, cmd (pkt 0x0C04 [(8, [1, 7, 1, 127, 9, 1]), (14, leBytes 2 4096)]), by decide +kernel⟩,
  ⟨up.modChain 2 (fun x => { x with sending := some [1, 2], frames := 2 ^ 32 - 1 }), 2, [1, 2], by decide +kernel⟩,
  ⟨up, 2, by decide +kernel⟩,
  ⟨up.modChain 2 (fun x => { x with mtx := { x.mtx with lines := 2 }, state := .matrix, scanAt := 1000000, scan := [[1], [2]] }), 2, by decide +kernel⟩,
  ⟨(up.setI2cM 1 { jobs := [.sensor 7 41 0 false] }).modColour 7 (fun x => { x with busy := true, nacks := 65535 }), 7, 1, by decide +kernel⟩,
  ⟨(up.setI2cM 1 { jobs := [.sensor 7 41 0 false] }).modColour 7 (fun x => { x with busy := true, nacks := 65535 }), 7, 1, by decide +kernel⟩⟩

/-- States and operands that meet the hypotheses of TimeIsConfiguredAndPtpRuns, clause by clause. -/
theorem wit_TimeIsConfiguredAndPtpRuns :
  (∃ (s : State) (r : Fin 4) (c : Cmd), s.atOnce r 0x0D01 c ∧ u8 c.packet 8 ≤ 1 ∧ u8 c.packet 9 ≤ 2 ∧ u8 c.packet 10 < 8 ∧ -7 ≤ i8 c.packet 11 ∧ i8 c.packet 11 ≤ 5) ∧
  (∃ (s : State) (r : Fin 4) (c : Cmd), s.atOnce r 0x0D02 c ∧ u8 c.packet 8 ≤ 1 ∧ (parseDomain c.packet).ok = true ∧ ((parseDomain c.packet).mode = 2 → (s.inst (1 - u8 c.packet 8)).cfgComing.mode = 2 → (parseDomain c.packet).domain ≠ (s.inst (1 - u8 c.packet 8)).cfgComing.domain)) ∧
  (∃ (s : State) (r : Fin 4) (c : Cmd), s.atOnce r 0x0D03 c ∧ u8 c.packet 8 ≤ 1 ∧ u8 c.packet 9 = 0 ∧ (s.inst (u8 c.packet 8)).state = .manual ∧ 1 ≤ u32 c.packet 28 ∧ u32 c.packet 28 ≤ 500000 ∧ -549755813 ≤ i32 c.packet 24 ∧ i32 c.packet 24 ≤ 549755813) ∧
  (∃ (s : State) (r : Fin 4) (c : Cmd), s.atOnce r 0x0D04 c ∧ u8 c.packet 8 ≤ 1 ∧ s.switchBusy = false) ∧
  (∃ (s : State) (r : Fin 4) (c : Cmd), s.atOnce r 0x0D05 c ∧ u8 c.packet 8 ≤ 1) ∧
  (∃ (s : State) (p : Fin 2) (f : List Byte), (s.ptpPort p).works = true ∧ s.ptpMessage p f = none) ∧
  (∃ (s : State) (u : State) (p : Fin 2) (tap : Fin 24) (f : List Byte) (n : Nat) (m : PtpMsg) (gap : Int), (s.ptpPort p).works = true ∧ s.ptpMessage p f = some (n, m) ∧ m.kind = 0 ∧ (s.inst n).fromMaster p m = true ∧ m.twoStep = false ∧ gap = (s.inst n).time s.tick tap - (((s.ptpPort p).cfg.rxLat : Int) * 65536).fdiv 1000 - 65536 * m.time - m.corr - ((s.ptpPort p).cfg.asym * 65536).fdiv 1000 ∧ u = s.modPtpPort p (fun g => { g with accepted := min (2 ^ 16 - 1) (g.accepted + 1) })) ∧
  (∃ (s : State) (u : State) (p : Fin 2) (f : List Byte) (n : Nat) (m : PtpMsg), (s.ptpPort p).works = true ∧ s.ptpMessage p f = some (n, m) ∧ m.kind = 0 ∧ (s.inst n).fromMaster p m = true ∧ m.twoStep = true ∧ u = s.modPtpPort p (fun g => { g with accepted := min (2 ^ 16 - 1) (g.accepted + 1) })) ∧
  (∃ (s : State) (u : State) (p : Fin 2) (f : List Byte) (n : Nat) (m : PtpMsg) (q : PtpWait) (gap : Int), (s.ptpPort p).works = true ∧ s.ptpMessage p f = some (n, m) ∧ m.kind = 9 ∧ (s.ptpPort p).cfg.p2p = false ∧ (s.ptpPort p).delayReq = some q ∧ (s.inst n).gap = some gap ∧ q.inst = n ∧ q.seq = m.seq ∧ m.asker = (s.inst n).identity p ∧ (s.inst n).fromMaster p m = true ∧ u = s.modPtpPort p (fun g => { g with accepted := min (2 ^ 16 - 1) (g.accepted + 1) })) ∧
  (∃ (s : State) (u : State) (p : Fin 2) (f : List Byte) (n : Nat) (m : PtpMsg) (t : Nat) (tap : Fin 24) (miss : Bool) (x : Int), s.ptpMessage p f = some (n, m) ∧ s.ptpSends p n m.kind = true ∧ (s.ptpPort p).cfg.sourced f = true ∧ m.twoStep = (!(s.ptpPort p).cfg.oneStep && (m.kind == 0 || m.kind == 3)) ∧ ((s.ptpPort p).cfg.schedules m.kind = false ∧ s.tick ≤ t) ∨ ((s.ptpPort p).cfg.schedules m.kind = true ∧ miss = false ∧ 24 * (s.tick + 8) ≤ 24 * t + tap.val ∧ 24 * t + tap.val < 24 * (s.tick + 8) + (s.ptpPort p).cfg.blockTaps) ∧ x = (s.inst n).time t tap + (((s.ptpPort p).cfg.txLat : Int) * 65536).fdiv 1000 ∧ u = s.modPtpPort p (fun g => { g with sent := min (2 ^ 16 - 1) (g.sent + 1) })) ∧
  (∃ (s : State) (p : Fin 2) (f : List Byte) (n : Nat) (m : PtpMsg), s.ptpMessage p f = some (n, m) ∧ s.ptpSends p n m.kind = true ∧ (s.ptpPort p).cfg.sourced f = true ∧ m.twoStep = false ∧ (s.ptpPort p).cfg.schedules m.kind = true) ∧
  (∃ (s : State) (n : Fin 2), (s.inst n).following = true ∧ (s.inst n).lastSync + intervalTicks 3 (s.inst n).cfg.logSync ≤ s.tick ∧ s.ptpArrives n 1 = false) ∧
  (∃ (s : State), bit s.sys.pllLock 3 = true ∧ (s.inst 0).cfg.mode ≠ 2 ∧ (s.inst 1).cfg.mode ≠ 2) ∧
  (∃ (s : State) (id : Nat), s.tim.switching = true ∧ s.residueAt s.tick = 0 ∧ s.tim.switchCmd = some id) :=
  ⟨⟨holding up (pkt 0x0D01 [(8, [1, 2, 7]), (11, leInt 1 (-7))]), 0, cmd (pkt 0x0D01 [(8, [1, 2, 7]), (11, leInt 1 (-7))]), by decide +kernel⟩,
  ⟨holding up (pkt 0x0D02 [(8, [1, 1, 3, 0]), (20, [2]), (40, leBytes 4 1), (44, leBytes 4 1000000)]), 0, cmd (pkt 0x0D02 [(8, [1, 1, 3, 0]), (20, [2]), (40, leBytes 4 1), (44, leBytes 4 1000000)]), by decide +kernel⟩,
  ⟨holding ((up.modInst 1 (fun i => { i with state := .manual }))) (pkt 0x0D03 [(8, [1, 0]), (16, leInt 8 (-5)), (24, leInt 4 (-549755813)), (28, leBytes 4 500000)]), 0, cmd (pkt 0x0D03 [(8, [1, 0]), (16, leInt 8 (-5)), (24, leInt 4 (-549755813)), (28, leBytes 4 500000)]), by decide +kernel⟩,
  ⟨holding ((up.modInst 1 (fun i => { i with state := .manual }))) (pkt 0x0D04 [(8, [1])]), 0, cmd (pkt 0x0D04 [(8, [1])]), by decide +kernel⟩,
  ⟨holding up (pkt 0x0D05 [(8, [1])]), 0, cmd (pkt 0x0D05 [(8, [1])]), by decide +kernel⟩,
  ⟨((up.modInst 1 (fun i => { i with slavePort := 1, state := .locked, masterId := 7, portState := [1, 9], gap := some 1000, cfg := { i.cfg with mode := 2, domain := 24, flags := 2 } })).modPtpPort 1 (fun g => { g with linkUp := true, cfg := { g.cfg with mode := 2, rxLat := 1500, asym := -3 } })), 1, [], by decide +kernel⟩,
  ⟨((up.modInst 1 (fun i => { i with slavePort := 1, state := .locked, masterId := 7, portState := [1, 9], gap := some 1000, cfg := { i.cfg with mode := 2, domain := 24, flags := 2 } })).modPtpPort 1 (fun g => { g with linkUp := true, cfg := { g.cfg with mode := 2, rxLat := 1500, asym := -3 } })), (((up.modInst 1 (fun i => { i with slavePort := 1, state := .locked, masterId := 7, portState := [1, 9], gap := some 1000, cfg := { i.cfg with mode := 2, domain := 24, flags := 2 } })).modPtpPort 1 (fun g => { g with linkUp := true, cfg := { g.cfg with mode := 2, rxLat := 1500, asym := -3 } }))).modPtpPort 1 (fun g => { g with accepted := min (2 ^ 16 - 1) (g.accepted + 1) }), 1, 3, put (put (put (put (put (put (zeros 58) 0 ([1, 0x1B, 0x19, 0, 0, 0])) 12 ([0x88, 0xF7])) 14 ([0, 2])) 18 ([24])) 20 ([0])) 34 (beBytes 10 7), 1, { kind := 0, domain := 24, twoStep := false, corr := 0, source := 7, seq := 0, time := 0, asker := 0, ann := [] }, ((((up.modInst 1 (fun i => { i with slavePort := 1, state := .locked, masterId := 7, portState := [1, 9], gap := some 1000, cfg := { i.cfg with mode := 2, domain := 24, flags := 2 } })).modPtpPort 1 (fun g => { g with linkUp := true, cfg := { g.cfg with mode := 2, rxLat := 1500, asym := -3 } }))).inst 1).time (((up.modInst 1 (fun i => { i with slavePort := 1, state := .locked, masterId := 7, portState := [1, 9], gap := some 1000, cfg := { i.cfg with mode := 2, domain := 24, flags := 2 } })).modPtpPort 1 (fun g => { g with linkUp := true, cfg := { g.cfg with mode := 2, rxLat := 1500, asym := -3 } }))).tick 3 - ((((((up.modInst 1 (fun i => { i with slavePort := 1, state := .locked, masterId := 7, portState := [1, 9], gap := some 1000, cfg := { i.cfg with mode := 2, domain := 24, flags := 2 } })).modPtpPort 1 (fun g => { g with linkUp := true, cfg := { g.cfg with mode := 2, rxLat := 1500, asym := -3 } }))).ptpPort 1).cfg.rxLat : Int) * 65536).fdiv 1000 - (((((up.modInst 1 (fun i => { i with slavePort := 1, state := .locked, masterId := 7, portState := [1, 9], gap := some 1000, cfg := { i.cfg with mode := 2, domain := 24, flags := 2 } })).modPtpPort 1 (fun g => { g with linkUp := true, cfg := { g.cfg with mode := 2, rxLat := 1500, asym := -3 } }))).ptpPort 1).cfg.asym * 65536).fdiv 1000, by decide +kernel⟩,
  ⟨((up.modInst 1 (fun i => { i with slavePort := 1, state := .locked, masterId := 7, portState := [1, 9], gap := some 1000, cfg := { i.cfg with mode := 2, domain := 24, flags := 2 } })).modPtpPort 1 (fun g => { g with linkUp := true, cfg := { g.cfg with mode := 2, rxLat := 1500, asym := -3 } })), (((up.modInst 1 (fun i => { i with slavePort := 1, state := .locked, masterId := 7, portState := [1, 9], gap := some 1000, cfg := { i.cfg with mode := 2, domain := 24, flags := 2 } })).modPtpPort 1 (fun g => { g with linkUp := true, cfg := { g.cfg with mode := 2, rxLat := 1500, asym := -3 } }))).modPtpPort 1 (fun g => { g with accepted := min (2 ^ 16 - 1) (g.accepted + 1) }), 1, put (put (put (put (put (put (zeros 58) 0 ([1, 0x1B, 0x19, 0, 0, 0])) 12 ([0x88, 0xF7])) 14 ([0, 2])) 18 ([24])) 20 ([2])) 34 (beBytes 10 7), 1, { kind := 0, domain := 24, twoStep := true, corr := 0, source := 7, seq := 0, time := 0, asker := 0, ann := [] }, by decide +kernel⟩,
  ⟨(((up.modInst 1 (fun i => { i with slavePort := 1, state := .locked, masterId := 7, portState := [1, 9], gap := some 1000, cfg := { i.cfg with mode := 2, domain := 24, flags := 2 } })).modPtpPort 1 (fun g => { g with linkUp := true, cfg := { g.cfg with mode := 2, rxLat := 1500, asym := -3 } })).modPtpPort 1 (fun g => { g with delayReq := some { inst := 1, seq := 0, stamp := 77 } })), ((((up.modInst 1 (fun i => { i with slavePort := 1, state := .locked, masterId := 7, portState := [1, 9], gap := some 1000, cfg := { i.cfg with mode := 2, domain := 24, flags := 2 } })).modPtpPort 1 (fun g => { g with linkUp := true, cfg := { g.cfg with mode := 2, rxLat := 1500, asym := -3 } })).modPtpPort 1 (fun g => { g with delayReq := some { inst := 1, seq := 0, stamp := 77 } }))).modPtpPort 1 (fun g => { g with accepted := min (2 ^ 16 - 1) (g.accepted + 1) }), 1, put (put (put (put (put (put (put (zeros 68) 0 ([1, 0x1B, 0x19, 0, 0, 0])) 12 ([0x88, 0xF7])) 14 ([9, 2])) 18 ([24])) 20 ([0])) 34 (beBytes 10 7)) 58 (beBytes 10 2), 1, { kind := 9, domain := 24, twoStep := false, corr := 0, source := 7, seq := 0, time := 0, asker := 2, ann := [] }, { inst := 1, seq := 0, stamp := 77 }, 1000, by decide +kernel⟩,
  ⟨((up.modInst 1 (fun i => { i with slavePort := 1, state := .locked, masterId := 7, portState := [1, 6], gap := some 1000, cfg := { i.cfg with mode := 2, domain := 24, flags := 2 } })).modPtpPort 1 (fun g => { g with linkUp := true, cfg := { g.cfg with mode := 2, rxLat := 1500, asym := -3, flags := 2 } })), (((up.modInst 1 (fun i => { i with slavePort := 1, state := .locked, masterId := 7, portState := [1, 6], gap := some 1000, cfg := { i.cfg with mode := 2, domain := 24, flags := 2 } })).modPtpPort 1 (fun g => { g with linkUp := true, cfg := { g.cfg with mode := 2, rxLat := 1500, asym := -3, flags := 2 } }))).modPtpPort 1 (fun g => { g with sent := min (2 ^ 16 - 1) (g.sent + 1) }), 1, put (put (put (put (put (put (zeros 58) 0 ([1, 0x1B, 0x19, 0, 0, 0])) 12 ([0x88, 0xF7])) 14 ([0, 2])) 18 ([24])) 20 ([0])) 34 (beBytes 10 2), 1, { kind := 0, domain := 24, twoStep := false, corr := 0, source := 2, seq := 0, time := 0, asker := 0, ann := [] }, 1000008, 23, false, ((((up.modInst 1 (fun i => { i with slavePort := 1, state := .locked, masterId := 7, portState := [1, 6], gap := some 1000, cfg := { i.cfg with mode := 2, domain := 24, flags := 2 } })).modPtpPort 1 (fun g => { g with linkUp := true, cfg := { g.cfg with mode := 2, rxLat := 1500, asym := -3, flags := 2 } }))).inst 1).time 1000008 23 + ((((((up.modInst 1 (fun i => { i with slavePort := 1, state := .locked, masterId := 7, portState := [1, 6], gap := some 1000, cfg := { i.cfg with mode := 2, domain := 24, flags := 2 } })).modPtpPort 1 (fun g => { g with linkUp := true, cfg := { g.cfg with mode := 2, rxLat := 1500, asym := -3, flags := 2 } }))).ptpPort 1).cfg.txLat : Int) * 65536).fdiv 1000, by decide +kernel⟩,
  ⟨((up.modInst 1 (fun i => { i with slavePort := 1, state := .locked, masterId := 7, portState := [1, 6], gap := some 1000, cfg := { i.cfg with mode := 2, domain := 24, flags := 2 } })).modPtpPort 1 (fun g => { g with linkUp := true, cfg := { g.cfg with mode := 2, rxLat := 1500, asym := -3, flags := 2 } })), 1, put (put (put (put (put (put (zeros 58) 0 ([1, 0x1B, 0x19, 0, 0, 0])) 12 ([0x88, 0xF7])) 14 ([0, 2])) 18 ([24])) 20 ([0])) 34 (beBytes 10 2), 1, { kind := 0, domain := 24, twoStep := false, corr := 0, source := 2, seq := 0, time := 0, asker := 0, ann := [] }, by decide +kernel⟩,
  ⟨{ (((up.modInst 1 (fun i => { i with slavePort := 1, state := .locked, masterId := 7, portState := [1, 9], gap := some 1000, cfg := { i.cfg with mode := 2, domain := 24, flags := 2 } })).modPtpPort 1 (fun g => { g with linkUp := true, cfg := { g.cfg with mode := 2, rxLat := 1500, asym := -3 } }))).modInst 1 (fun i => { i with lastSync := 0, cfg := { i.cfg with logSync := -7 } }) with tick := 100000000 }, 1, by decide +kernel⟩,
  ⟨up, by decide +kernel⟩,
  ⟨(holding up (pkt 0x0D04 [(8, [1])])).modTim (fun t => { t with switching := true, residue := 0, switchCmd := some 1 }), 1, by decide +kernel⟩⟩

/-- States and operands that meet the hypotheses of TwinCommandsTapsAndLink, clause by clause. -/
theorem wit_TwinCommandsTapsAndLink :
  (∃ (s : State) (r : Fin 4) (c : Cmd), s.atOnce r 0x0E01 c ∧ u8 c.packet 8 = 0xFF ∧ u8 c.packet 9 = 2 ∧ u8 c.packet 10 ≤ 10) ∧
  (∃ (s : State) (r : Fin 4) (c : Cmd), s.atOnce r 0x0E02 c ∧ u8 c.packet 8 = 1 ∧ s.twn.role = .lead ∧ s.twn.partner = 2 ∧ s.twn.absent = false ∧ s.partnerFit = true ∧ s.twn.exchange = none ∧ s.twn.link = .up) ∧
  (∃ (s : State) (r : Fin 4) (c : Cmd), s.atOnce r 0x0E03 c ∧ u8 c.packet 8 = 8 ∧ s.twn.role = .lead ∧ s.twn.partner = 2 ∧ s.twn.absent = false ∧ s.partnerFit = true ∧ s.twn.proof = none) ∧
  (∃ (s : State) (r : Fin 4) (c : Cmd), s.atOnce r 0x0E04 c) ∧
  (∃ (s : State), s.running = true ∧ s.hif.fwAuth = true ∧ s.sys.imageRun ≠ 2 ∧ s.pairTick % 2000 = 0 ∧ s.twn.lastTap ≠ some s.pairTick ∧ s.twn.role = .alone ∧ s.twn.proof = none ∧ s.twn.link = .off) ∧
  (∃ (s : State) (w : BitVec 32), s.running = true ∧ s.hif.fwAuth = true ∧ tapCrc (w.toNat % 2 ^ 24) ≠ w.toNat / 2 ^ 24) ∧
  (∃ (s : State) (w : BitVec 32), s.running = true ∧ s.hif.fwAuth = true ∧ tapCrc (w.toNat % 2 ^ 24) = w.toNat / 2 ^ 24 ∧ s.twn.role = .alone ∧ s.twn.proof = none ∧ s.twn.pin.ok = true) ∧
  (∃ (s : State) (x : Nat), s.running = true ∧ s.twn.pin.ok = true ∧ s.twn.pin.lastTap = some x ∧ x + 6000 ≤ s.tick ∧ s.twn.inband.ok = true ∧ s.tapArrives (fun q _ => q == true) = false) ∧
  (∃ (s : State) (k : Fin 4) (n : Nat), s.twn.link = .train ∧ (∀ j : Fin 4, j ≠ k → (s.twn.locks.get {} j.val).locked = true) ∧ (s.twn.locks.get {} k.val).locked = false ∧ (s.twn.locks.get {} k.val).run + n = 64 ∧ 0 < n) ∧
  (∃ (s : State) (k : Fin 4), s.twn.link ≠ .off ∧ (s.twn.locks.get {} k.val).locked = true ∧ 15 ≤ (((s.twn.locks.get {} k.val).win.take 63).filter (· == false)).length) ∧
  (∃ (s : State) (ams : List (List Byte × Nat)) (lanes : List Nat) (turns : List (Nat × Nat)), s.twn.link = .align ∧ s.twn.allLocked = true ∧ s.twn.role ≠ .shadow ∧ deskewed ams = some lanes ∧ 16 ≤ (turns.foldl takeDelay []).length) ∧
  (∃ (s : State) (x : Nat), s.sys.fwAuthAt = some x ∧ s.twn.role = .elect ∧ s.running = true ∧ s.sys.imageRun ≠ 2 ∧ s.pref = true ∧ x + 60000000 ≤ s.tick ∧ s.twn.heardFit = false ∧ s.tapArrives (fun _ w => w % 8 == 1 || bit w 3) = false ∧ s.twn.healthy = true) :=
  ⟨⟨holding up (pkt 0x0E01 [(8, [255, 2, 10])]), 0, cmd (pkt 0x0E01 [(8, [255, 2, 10])]), by decide +kernel⟩,
  ⟨holding ((up.modTwn (fun t => { t with role := .lead, partner := 2, partnerTap := 98, absent := false, link := .up, epoch := 255, inband := { t.inband with ok := true }, pin := { t.pin with ok := true, lastTap := some 990000 } }))) (pkt 0x0E02 [(8, [1])]), 0, cmd (pkt 0x0E02 [(8, [1])]), by decide +kernel⟩,
  ⟨holding ((up.modTwn (fun t => { t with role := .lead, partner := 2, partnerTap := 98, absent := false, link := .up, epoch := 255, inband := { t.inband with ok := true }, pin := { t.pin with ok := true, lastTap := some 990000 } }))) (pkt 0x0E03 [(8, [8])]), 0, cmd (pkt 0x0E03 [(8, [8])]), by decide +kernel⟩,
  ⟨holding ((up.modTwn (fun t => { t with role := .lead, partner := 2, partnerTap := 98, absent := false, link := .up, epoch := 255, inband := { t.inband with ok := true }, pin := { t.pin with ok := true, lastTap := some 990000 } }))) (pkt 0x0E04 []), 0, cmd (pkt 0x0E04 []), by decide +kernel⟩,
  ⟨up, by decide +kernel⟩,
  ⟨up, 5#32, by decide +kernel⟩,
  ⟨up.modTwn (fun t => { t with pin := { t.pin with ok := true } }), BitVec.ofNat 32 (0x30234 + 2 ^ 24 * tapCrc 0x30234), by decide +kernel⟩,
  ⟨(up.modTwn (fun t => { t with role := .lead, partner := 2, partnerTap := 98, absent := false, link := .up, epoch := 255, inband := { t.inband with ok := true }, pin := { t.pin with ok := true, lastTap := some 990000 } })), 990000, by decide +kernel⟩,
  ⟨up.modTwn (fun t => { t with link := .train, locks := ((((({} : Table BlockLock).set {} 0 { locked := true }).set {} 1 { locked := true }).set {} 3 { locked := true })).set {} 2 { run := 60 } }), 2, 4, by decide +kernel⟩,
  ⟨up.modTwn (fun t => { t with link := .up, locks := ((((({} : Table BlockLock).set {} 0 { locked := true }).set {} 1 { locked := true }).set {} 3 { locked := true })).set {} 2 { locked := true, win := List.replicate 20 false } }), 2, by decide +kernel⟩,
  ⟨up.modTwn (fun t => { t with link := .align, locks := ((((({} : Table BlockLock).set {} 0 { locked := true }).set {} 1 { locked := true }).set {} 3 { locked := true })).set {} 2 { locked := true }, role := .lead }), (List.range 4).map (fun k => ([0x4B, 3 - k, 1, 0, 0, 0x53, 0x4E, 0x52], 100 + 16 * k)), [3, 2, 1, 0], List.replicate 16 (100, 40), by decide +kernel⟩,
  ⟨{ up.modTwn (fun t => { t with role := .elect }) with tick := 60000000, sys := { up.sys with fwAuthAt := some 0, straps := 1 } }, 0, by decide +kernel⟩⟩

/-- States and operands that meet the hypotheses of RecordsOfThePairArrive, clause by clause. -/
theorem wit_RecordsOfThePairArrive :
  (∃ (s₀ : State) (s : State) (b : List Byte), s = s₀.winnersFirst ∧ s.running = true ∧ s.twn.link = .up ∧ (s.twn.role = .shadow ∨ (s.twn.role = .lead ∧ s.tick < s.twn.lateUntil)) ∧ s.fir.paced = true ∧ s.fir.nextLine ≤ u48 b 0) ∧
  (∃ (s₀ : State) (s : State) (b : List Byte), s = s₀.winnersFirst ∧ s.running = true ∧ s.twn.link = .up ∧ (s.twn.role = .shadow ∨ (s.twn.role = .lead ∧ s.tick < s.twn.lateUntil)) ∧ s.fir.paced = true ∧ u48 b 0 < s.fir.nextLine) ∧
  (∃ (s₀ : State) (s : State) (x : Nat), s = s₀.winnersFirst ∧ s.twn.predTick = some x ∧ s.twn.predFlags = none ∧ s.twn.role = .shadow ∧ s.running = true ∧ s.fir.paced = true ∧ x + 128 ≤ s.tick ∧ s.lineArrives = false) ∧
  (∃ (s₀ : State) (s : State) (x : Nat) (g : Nat), s = s₀.winnersFirst ∧ s.twn.predTick = some x ∧ s.twn.predFlags = some g ∧ s.twn.role = .shadow ∧ s.running = true ∧ s.fir.paced = true ∧ x + 128 ≤ s.tick ∧ s.lineArrives = false) ∧
  (∃ (s : State), s.running = true ∧ s.twn.link = .up ∧ s.twn.role = .shadow) ∧
  (∃ (s : State) (p : List Byte), s.running = true ∧ s.twn.link = .up ∧ s.twn.role = .shadow ∧ p.length = 64 ∧ s.twn.mirrored = []) ∧
  (∃ (s : State) (tag : Nat) (n : Nat) (c : Cmd), s.mirroring tag = some (c, n, none) ∧ s.running = true ∧ s.twn.link = .up) ∧
  (∃ (s : State) (tag : Nat) (m : Mirrored), s.running = true ∧ s.twn.link = .up ∧ s.twn.mirrored = [m] ∧ m.tag = tag) ∧
  (∃ (s : State) (x : Snapshot), s.running = true ∧ s.twn.link = .up ∧ s.twn.role = .shadow ∧ s.copyOwn = some x ∧ s.twn.copyAt = some x.tick ∧ s.twn.offTicks = 0 ∧ x.lone = false ∧ (copyDiffers 0 x x).all (fun d => !d) = true ∧ x.subDigest = (s.takeVerdicts x.verdicts).sub.atCopy.digest) :=
  ⟨⟨((up.modTwn (fun t => { t with role := .shadow, partner := 1, partnerTap := 33, absent := false, link := .up, epoch := 255, inStep := true, inband := { t.inband with ok := true }, pin := { t.pin with ok := true } })).modFir (fun f => { f with paced := true, nextLine := 100 })), (((up.modTwn (fun t => { t with role := .shadow, partner := 1, partnerTap := 33, absent := false, link := .up, epoch := 255, inStep := true, inband := { t.inband with ok := true }, pin := { t.pin with ok := true } })).modFir (fun f => { f with paced := true, nextLine := 100 }))).winnersFirst, leBytes 6 200 ++ leBytes 8 24001200 ++ leBytes 4 48000 ++ [0x50], by decide +kernel⟩,
  ⟨((up.modTwn (fun t => { t with role := .shadow, partner := 1, partnerTap := 33, absent := false, link := .up, epoch := 255, inStep := true, inband := { t.inband with ok := true }, pin := { t.pin with ok := true } })).modFir (fun f => { f with paced := true, nextLine := 100 })).modTwn (fun t => { t with lateLines := 4095 }), (((up.modTwn (fun t => { t with role := .shadow, partner := 1, partnerTap := 33, absent := false, link := .up, epoch := 255, inStep := true, inband := { t.inband with ok := true }, pin := { t.pin with ok := true } })).modFir (fun f => { f with paced := true, nextLine := 100 })).modTwn (fun t => { t with lateLines := 4095 })).winnersFirst, leBytes 6 99 ++ zeros 13, by decide +kernel⟩,
  ⟨((up.modTwn (fun t => { t with role := .shadow, partner := 1, partnerTap := 33, absent := false, link := .up, epoch := 255, inStep := true, inband := { t.inband with ok := true }, pin := { t.pin with ok := true } })).modFir (fun f => { f with paced := true, nextLine := 100 })).modTwn (fun t => { t with predTick := some 999872, predDue := 24000000, predPer := 48000 }), (((up.modTwn (fun t => { t with role := .shadow, partner := 1, partnerTap := 33, absent := false, link := .up, epoch := 255, inStep := true, inband := { t.inband with ok := true }, pin := { t.pin with ok := true } })).modFir (fun f => { f with paced := true, nextLine := 100 })).modTwn (fun t => { t with predTick := some 999872, predDue := 24000000, predPer := 48000 })).winnersFirst, 999872, by decide +kernel⟩,
  ⟨((up.modTwn (fun t => { t with role := .shadow, partner := 1, partnerTap := 33, absent := false, link := .up, epoch := 255, inStep := true, inband := { t.inband with ok := true }, pin := { t.pin with ok := true } })).modFir (fun f => { f with paced := true, nextLine := 100 })).modTwn (fun t => { t with predTick := some 999872, predDue := 24000000, predPer := 48000, predFlags := some 65 }), (((up.modTwn (fun t => { t with role := .shadow, partner := 1, partnerTap := 33, absent := false, link := .up, epoch := 255, inStep := true, inband := { t.inband with ok := true }, pin := { t.pin with ok := true } })).modFir (fun f => { f with paced := true, nextLine := 100 })).modTwn (fun t => { t with predTick := some 999872, predDue := 24000000, predPer := 48000, predFlags := some 65 })).winnersFirst, 999872, 65, by decide +kernel⟩,
  ⟨((up.modTwn (fun t => { t with role := .shadow, partner := 1, partnerTap := 33, absent := false, link := .up, epoch := 255, inStep := true, inband := { t.inband with ok := true }, pin := { t.pin with ok := true } })).modFir (fun f => { f with paced := true, nextLine := 100 })), by decide +kernel⟩,
  ⟨((up.modTwn (fun t => { t with role := .shadow, partner := 1, partnerTap := 33, absent := false, link := .up, epoch := 255, inStep := true, inband := { t.inband with ok := true }, pin := { t.pin with ok := true } })).modFir (fun f => { f with paced := true, nextLine := 100 })), pkt 0x0B03 [(8, [5, 1])], by decide +kernel⟩,
  ⟨{ (up.modTwn (fun t => { t with role := .lead, partner := 2, partnerTap := 98, absent := false, link := .up, epoch := 255, inband := { t.inband with ok := true }, pin := { t.pin with ok := true, lastTap := some 990000 } })) with hif := { up.hif with inflight := [{ cmd (pkt 0x0B03 [(8, [5, 1])]) with phase := .mirroring 9 1 none }] } }, 9, 1, { cmd (pkt 0x0B03 [(8, [5, 1])]) with phase := .mirroring 9 1 none }, by decide +kernel⟩,
  ⟨((up.modTwn (fun t => { t with role := .shadow, partner := 1, partnerTap := 33, absent := false, link := .up, epoch := 255, inStep := true, inband := { t.inband with ok := true }, pin := { t.pin with ok := true } })).modFir (fun f => { f with paced := true, nextLine := 100 })).modTwn (fun t => { t with mirrored := [{ tag := 9, packet := zeros 64, host := .ok [] }] }), 9, { tag := 9, packet := zeros 64, host := .ok [] }, by decide +kernel⟩,
  ⟨{ ((up.modTwn (fun t => { t with role := .shadow, partner := 1, partnerTap := 33, absent := false, link := .up, epoch := 255, inStep := true, inband := { t.inband with ok := true }, pin := { t.pin with ok := true } })).modFir (fun f => { f with paced := true, nextLine := 100 })).modTwn (fun t => { t with copyAt := some 980000 }) with copyOwn := some { tick := 980000, epoch := 255 } }, { tick := 980000, epoch := 255 }, by decide +kernel⟩⟩

/-- States and operands that meet the hypotheses of RolesChangeHands, clause by clause. -/
theorem wit_RolesChangeHands :
  (∃ (s : State) (h : Health), s.running = true ∧ s.twn.link = .up ∧ s.twn.role = .lead ∧ s.twn.proof = none ∧ h.mismatch = s.twn.health.mismatch) ∧
  (∃ (s : State) (x : Nat), s.twn.disagreeAt = some x ∧ s.tick < x + 2000) ∧
  (∃ (s : State), s.running = true ∧ s.twn.faults = 0 ∧ s.twn.faultCause = 0 ∧ s.twn.role = .lead ∧ s.twn.absent = true ∧ s.twn.outAt = none) ∧
  (∃ (s : State), s.running = true ∧ s.twn.link = .up ∧ s.twn.role = .shadow ∧ s.twn.healthy = true ∧ s.twn.inStep = true ∧ s.enc.chans = {} ∧ s.twn.proof = none) ∧
  (∃ (s : State) (x : Nat), s.twn.outAt = some x ∧ s.twn.role = .lead ∧ x ≤ s.tick ∧ s.twn.proof = none) ∧
  (∃ (s : State) (x : Nat), s.twn.mismatchAt = some x ∧ s.twn.partnerHealthy = false ∧ x + 2000000000 ≤ s.tick) ∧
  (∃ (s : State), s.running = true ∧ s.twn.link = .up ∧ s.twn.role = .shadow ∧ s.twn.cleanAt = none) ∧
  (∃ (s : State) (x : Nat), s.twn.cleanAt = some x ∧ s.twn.role = .lead ∧ s.running = true ∧ s.cleanOk = true ∧ s.twn.exchange = none ∧ s.twn.outAt = none ∧ x + 2000000000 ≤ s.tick ∧ s.anyLive = false ∧ s.twn.link = .up) ∧
  (∃ (s : State) (x : Exchange), s.twn.exchange = some x ∧ x.atPage = false ∧ x.h ≤ s.pairTick ∧ s.twn.role = .lead ∧ s.twn.partner = 2 ∧ s.twn.absent = false ∧ s.partnerFit = true ∧ s.twn.proof = none ∧ s.twn.link = .up) ∧
  (∃ (s : State) (x : Exchange), s.twn.exchange = some x ∧ x.atPage = false ∧ x.h ≤ s.pairTick ∧ s.twn.role = .shadow ∧ s.twn.healthy = true ∧ s.twn.inStep = true ∧ s.enc.chans = {} ∧ s.twn.proof = none) :=
  ⟨⟨(up.modTwn (fun t => { t with role := .lead, partner := 2, partnerTap := 98, absent := false, link := .up, epoch := 255, inband := { t.inband with ok := true }, pin := { t.pin with ok := true, lastTap := some 990000 } })), { pathsLost := 1 }, by decide +kernel⟩,
  ⟨up.modTwn (fun t => { t with disagreeAt := some 999000 }), 999000, by decide +kernel⟩,
  ⟨up.modTwn (fun t => { t with role := .lead, absent := true }), by decide +kernel⟩,
  ⟨(up.modTwn (fun t => { t with role := .shadow, partner := 1, partnerTap := 33, absent := false, link := .up, epoch := 255, inStep := true, inband := { t.inband with ok := true }, pin := { t.pin with ok := true } })), by decide +kernel⟩,
  ⟨(up.modTwn (fun t => { t with role := .lead, partner := 2, partnerTap := 98, absent := false, link := .up, epoch := 255, inband := { t.inband with ok := true }, pin := { t.pin with ok := true, lastTap := some 990000 } })).modTwn (fun t => { t with outAt := some 1000000 }), 1000000, by decide +kernel⟩,
  ⟨{ (up.modTwn (fun t => { t with role := .lead, partner := 2, partnerTap := 98, absent := false, link := .up, epoch := 255, inband := { t.inband with ok := true }, pin := { t.pin with ok := true, lastTap := some 990000 } })).modTwn (fun t => { t with mismatchAt := some 3, partnerHealthy := false, mismatchLines := [4] }) with tick := 2000000003 }, 3, by decide +kernel⟩,
  ⟨(up.modTwn (fun t => { t with role := .shadow, partner := 1, partnerTap := 33, absent := false, link := .up, epoch := 255, inStep := true, inband := { t.inband with ok := true }, pin := { t.pin with ok := true } })), by decide +kernel⟩,
  ⟨{ (up.modTwn (fun t => { t with role := .lead, partner := 2, partnerTap := 98, absent := false, link := .up, epoch := 255, inband := { t.inband with ok := true }, pin := { t.pin with ok := true, lastTap := some 990000 } })).modTwn (fun t => { t with cleanAt := some 3, partnerPref := true }) with tick := 2000000003 }, 3, by decide +kernel⟩,
  ⟨(up.modTwn (fun t => { t with role := .lead, partner := 2, partnerTap := 98, absent := false, link := .up, epoch := 255, inband := { t.inband with ok := true }, pin := { t.pin with ok := true, lastTap := some 990000 } })).modTwn (fun t => { t with exchange := some { h := 1000000, cause := 3, cmd := none } }), { h := 1000000, cause := 3, cmd := none }, by decide +kernel⟩,
  ⟨(up.modTwn (fun t => { t with role := .shadow, partner := 1, partnerTap := 33, absent := false, link := .up, epoch := 255, inStep := true, inband := { t.inband with ok := true }, pin := { t.pin with ok := true } })).modTwn (fun t => { t with exchange := some { h := 1000000, cause := 3, cmd := none } }), { h := 1000000, cause := 3, cmd := none }, by decide +kernel⟩⟩

/-- States and operands that meet the hypotheses of PermitInputsAreVoted, clause by clause. -/
theorem wit_PermitInputsAreVoted :
  (∃ (s : State) (n : Nat), s.sys.held = false ∧ 2000 ≤ n ∧ s.permitChannels = 7 ∧ s.twn.permit = true ∧ s.twn.disagree = false) ∧
  (∃ (s : State) (k : Fin 3) (n : Nat), (s.sys.held = true ∨ n < permitResponse k.val)) ∧
  (∃ (s : State) (n : Nat), s.sys.held = false ∧ 16 ≤ n ∧ s.permitChannels = 3 ∧ s.twn.permit = true ∧ s.anyPrinting = false ∧ s.twn.proof = none) :=
  ⟨⟨({ up with cle := { up.cle with permit := true } }).modTwn (fun t => { t with in0 := true, in1 := true, in2 := true, armA := true, armB := true, armC := true, permit := true }), 2000, by decide +kernel⟩,
  ⟨up, 1, 15, by decide +kernel⟩,
  ⟨({ up with cle := { up.cle with permit := true } }).modTwn (fun t => { t with in0 := true, in1 := true, in2 := false, armA := true, armB := true, armC := true, permit := true, disagree := true, withdrawals := 65535 }), 16, by decide +kernel⟩⟩

/-- States and operands that meet the hypotheses of EveryStepKeepsTheVote, clause by clause. -/
theorem wit_EveryStepKeepsTheVote :
  (∃ (s : State) (t : State), s.VoteOk ∧ step s = .next t) :=
  ⟨{ up with pending := [.permitInputChange 0 true 1] }, match step ({ up with pending := [.permitInputChange 0 true 1] }) with | .next t => t | _ => ({ up with pending := [.permitInputChange 0 true 1] }), by exact ⟨by unfold State.VoteOk; decide +kernel, rfl⟩⟩

/-- States and operands that meet the hypotheses of EveryStepTakesOneCommand, clause by clause. -/
theorem wit_EveryStepTakesOneCommand :
  (∃ (s : State) (t : State), step s = .next t) :=
  ⟨{ up with pending := [.permitInputChange 0 true 1] }, match step ({ up with pending := [.permitInputChange 0 true 1] }) with | .next t => t | _ => ({ up with pending := [.permitInputChange 0 true 1] }), by rfl⟩

/-- States and operands that meet the hypotheses of FireNeedsTwoChannels, clause by clause. -/
theorem wit_FireNeedsTwoChannels :
  (∃ (s : State), s.VoteOk ∧ s.fireEn = true) :=
  ⟨up.modTwn (fun t => { t with permit := true, in0 := true, in1 := true, armA := true, armB := true, disagree := true }), by unfold State.VoteOk; decide +kernel⟩

/-- States and operands that meet the hypotheses of FireEnFollowsPermitAndRole, clause by clause. -/
theorem wit_FireEnFollowsPermitAndRole :
  (∃ (s : State), s.sys.held = false ∧ s.sys.dormant = .awake ∧ (s.twn.role = .lead ∨ s.twn.role = .shadow ∨ s.twn.role = .alone)) ∧
  (∃ (s : State), (s.twn.role = .elect ∨ s.twn.role = .out ∨ s.sys.held = true ∨ (∃ x, s.sys.dormant = .outputsOff x ∨ s.sys.dormant = .asleep x))) ∧
  (∃ (s : State), s.twn.permit = true ∧ (voteTable s.permitChannels).1 = false ∧ s.anyPrinting = true) :=
  ⟨⟨up, by decide +kernel⟩,
  ⟨up.modTwn (fun t => { t with role := .out, permit := true }), by exact Or.inr (Or.inl (by decide +kernel))⟩,
  ⟨(up.modTwn (fun t => { t with permit := true, in1 := true, armB := true })).modCtx 3 (fun c => { c with state := .printing }), by decide +kernel⟩⟩

/-- States and operands that meet the hypotheses of PhaseInvertsAtEachWrap, clause by clause. -/
theorem wit_PhaseInvertsAtEachWrap :
  (∃ (r : Rec), r.sev < 16) ∧
  (∃ (s : State) (r : Fin 4) (v : BitVec 32), s.hif.ready = true ∧ (s.ring r.val).enable = false ∧ bit v.toNat 0 = true ∧ (s.ring r.val).sqBase % 4096 = 0 ∧ (s.ring r.val).cqBase % 4096 = 0 ∧ sizeOk (bits v.toNat 5 1) = true ∧ sizeOk (s.ring r.val).cqLog2 = true) ∧
  (∃ (s : State) (v : BitVec 32), s.hif.ready = true ∧ s.hif.eq.enable = false ∧ bit v.toNat 5 = true ∧ s.hif.eq.base % 4096 = 0 ∧ sizeOk (bits v.toNat 4 0) = true) :=
  ⟨⟨{ code := 1, sev := 15, unit := 1, seq := 0, time := 0, timeB := true, args := [] }, by decide +kernel⟩,
  ⟨up.modHif (fun h => { h with rings := Table.set {} {} 1 { cqLog2 := 8 } }), 1, 0x11#32, by decide +kernel⟩,
  ⟨up.modHif (fun h => { h with eq := {} }), 0x26#32, by decide +kernel⟩⟩

/-- States and operands that meet the hypotheses of CompletionsAndRecordsReadBack, clause by clause. -/
theorem wit_CompletionsAndRecordsReadBack :
  (∃ (tag : Nat) (st : Nat) (ns : Nat) (res : List Byte), tag < 2 ^ 32 ∧ st < 2 ^ 16 ∧ ns < 2 ^ 64 ∧ res.length ≤ 16) ∧
  (∃ (r : Rec), r.code < 2 ^ 16 ∧ r.unit < 256 ∧ r.seq < 2 ^ 32 ∧ r.time < 2 ^ 64 ∧ r.args.length ≤ 16) :=
  ⟨⟨2^32-1, 0x0102, 2^64-2, [1,2,3], by decide +kernel⟩,
  ⟨{ code := 0xFFFE, sev := 3, unit := 255, seq := 2^32-1, time := 2^64-1, timeB := true, args := [1,2] }, by decide +kernel⟩⟩

/-- States and operands that meet the hypotheses of GongFramesAndTapsReadBack, clause by clause. -/
theorem wit_GongFramesAndTapsReadBack :
  (∃ (flags : Nat) (line : Nat) (due : Nat) (per : Nat) (seq : Nat), flags < 256 ∧ line < 2 ^ 48 ∧ due < 2 ^ 24 ∧ per < 2 ^ 32 ∧ seq < 256) :=
  ⟨0xFF, 2^48-1, 2^24-1, 2^32-1, 255, by decide +kernel⟩

/-- States and operands that meet the hypotheses of PackedDropsKeepTheirPlaces, clause by clause. -/
theorem wit_PackedDropsKeepTheirPlaces :
  (∃ (w : Nat) (xs : List Nat), (w = 1 ∨ w = 2 ∨ w = 4) ∧ (∀ x ∈ xs, x < 2 ^ w)) :=
  ⟨2, [1,2,3,0,3], by decide +kernel⟩

/-- States and operands that meet the hypotheses of RowsFireAtTheirInstants, clause by clause. -/
theorem wit_RowsFireAtTheirInstants :
  (∃ (f : Nat), f < 65536) ∧
  (∃ (s : State) (t : Int) (l : Int) (per : Nat) (p : Nat), s.fir.tLast = some l ∧ t - l < p ∧ s.lineFate t per p false false = .held (l + p)) :=
  ⟨⟨65535, by decide +kernel⟩,
  ⟨up.modFir (fun f => { f with tLast := some 1000 }), 1500, 1000, 48000, 600, by exact ⟨rfl, by decide, rfl⟩⟩⟩

/-- States and operands that meet the hypotheses of TiesFollowTheirOrder, clause by clause. -/
theorem wit_TiesFollowTheirOrder :
  (∃ (s : State), inTieOrder s.keyOf s.pending) ∧
  (∃ (key : Instr → TieKey) (q : List Instr), inTieOrder key q) ∧
  (∃ (m : Fin 48), m ≠ 0) ∧
  (∃ (s : State) (x : Instr) (y : Instr) (q : List Instr), s.pending = x :: q ∧ inTieOrder s.keyOf s.pending ∧ (s.keyOf x).le (s.keyOf y) = false) :=
  ⟨⟨{ up with pending := [.permitInputChange 0 true 1, .planningTick] }, by unfold inTieOrder; decide +kernel⟩,
  ⟨tieKey, [.permitInputChange 0 true 1, .planningTick], by unfold inTieOrder; decide +kernel⟩,
  ⟨1, by decide +kernel⟩,
  ⟨{ up with pending := [.planningTick, .loopEvaluation 47] }, .planningTick, .lineTrigger, [.loopEvaluation 47], by exact ⟨rfl, by unfold inTieOrder; decide +kernel, by decide +kernel⟩⟩⟩

end Sys2Proof.Tests
end

section
/-! Streak detection (R248 to R264): what its commands do at once, how a ladder step is placed and how a test times out. -/
namespace Sys2Proof.Machine

/-! How a command ends with each answer of its effect. -/

@[simp] theorem settle_good (id : Nat) (s : State) : settle id (good s) = s.complete id Status.ok [] := rfl
@[simp] theorem settle_refuse (id : Nat) (s : State) : settle id (refuse s) = s.complete id Status.badParam [] := rfl
@[simp] theorem settle_running (id : Nat) (s : State) : settle id (s, .running) = s.setPhase id .running := rfl

/-- A command whose read of host memory succeeds goes on with the bytes read (R48). -/
@[simp] theorem withHost_ok (c : Cmd) (b : List Byte) (s : State) (k : List Byte → State × Reply) :
    withHost { c with host := .ok b } s k = k b := rfl

/-! The commands of the unit commit their effects. -/

theorem exec_stkMap_atOnce {s : State} {r : Fin 4} {c : Cmd} (h : s.atOnce r 0x0802 c = true) :
    exec (.stkMap r) s = .next (settle c.id (effStkMap { c with host := .ok [] } (s.begun r c (.ok [])))) := by
  rw [← startCommand_atOnce h]; rfl

theorem exec_stkConfig_atOnce {s : State} {r : Fin 4} {c : Cmd} (h : s.atOnce r 0x0801 c = true) (d : HostRead) :
    exec (.stkConfig r d) s = .next (settle c.id (effStkConfig { c with host := d } (s.begun r c d))) := by
  rw [← startCommand_atOnce h]; rfl

theorem exec_stkQuery_atOnce {s : State} {r : Fin 4} {c : Cmd} (h : s.atOnce r 0x0804 c = true) :
    exec (.stkQuery r) s = .next (settle c.id (effStkQuery { c with host := .ok [] } (s.begun r c (.ok [])))) := by
  rw [← startCommand_atOnce h]; rfl

theorem exec_stkLadder_atOnce {s : State} {r : Fin 4} {c : Cmd} (h : s.atOnce r 0x0803 c = true) :
    exec (.stkLadder r) s = .next (settle c.id (effStkLadder { c with host := .ok [] } (s.begun r c (.ok [])))) := by
  rw [← startCommand_atOnce h]; rfl

/-! A command whose effect changed the unit alone has changed the host interface besides. -/

theorem State.begun_complete_frame (s : State) (r : Nat) (c : Cmd) (d : HostRead) (k : Stk) (id st : Nat) (res : List Byte) :
    ∃ h, { s.begun r c d with stk := k }.complete id st res = { s with hif := h, stk := k } := ⟨_, rfl⟩

theorem State.begun_setPhase_frame (s : State) (r : Nat) (c : Cmd) (d : HostRead) (k : Stk) (id : Nat) (p : CmdPhase) :
    ∃ h, { s.begun r c d with stk := k }.setPhase id p = { s with hif := h, stk := k } := ⟨_, rfl⟩

/-! Maps and the configuration (R249, R262). -/

theorem State.stkMap_of_no_maps {s : State} (h : s.stk.maps = {}) (u : Nat) : s.stkMap u = none := by
  unfold State.stkMap; rw [h]; rfl

/-- A map in range is taken while STK is disabled and no unit has a map yet (R249). -/
theorem effStkMap_takes_first {s : State} {c : Cmd} (hu : u8 c.packet 8 < 16) (hflags : u8 c.packet 9 = 0) (hcols : 0 < u16 c.packet 12)
    (hcols' : u16 c.packet 12 ≤ 16384) (hend : u16 c.packet 10 + u16 c.packet 12 ≤ 65536) (hcpp : 16384 ≤ (i32 c.packet 20).natAbs)
    (hcpp' : (i32 c.packet 20).natAbs ≤ 64 * 65536) (hoff : s.stk.enabled = false) (hmaps : s.stk.maps = {}) :
    effStkMap c s = good (s.modStk (fun k => { k with
      maps := k.maps.set none (u8 c.packet 8) (some (parseMap c.packet)), mapNext := k.mapNext.set none (u8 c.packet 8) none })) := by
  have hset : bit (u8 c.packet 9) 0 = false := by rw [hflags]; rfl
  have hrange : ¬(16 ≤ u8 c.packet 8 ∨ 2 ≤ u8 c.packet 9 ∨ (bit (u8 c.packet 9) 0 = false ∧ ((parseMap c.packet).cols = 0
      ∨ 16384 < (parseMap c.packet).cols ∨ 65536 < (parseMap c.packet).base + (parseMap c.packet).cols
      ∨ (parseMap c.packet).cpp.natAbs < 16384 ∨ 64 * 65536 < (parseMap c.packet).cpp.natAbs))) := by
    simp only [parseMap]; omega
  unfold effStkMap
  dsimp only
  rw [if_neg hrange, if_neg (by simp [hoff]), if_neg (by simp [hset]), if_neg (by simp [State.stkMap_of_no_maps hmaps])]

/-- STK is enabled with a good table that fits (R262). -/
theorem effStkConfig_enables {s : State} {c : Cmd} {b : List Byte} (hbad : stkBad c.packet = false) (hon : bit (u8 c.packet 8) 0 = true)
    (hthr : bit (u8 c.packet 8) 4 = false) (hoff : s.stk.enabled = false) (hscan : s.fir.cfg.scanning = false) (hmap : s.unmapped = false)
    (hfit : s.mapMisfit (u8 c.packet 24) = false) (htab : stkTableBad b = false)
    (hmem : s.pageDram + s.stk.ringBytes (u8 c.packet 24) ≤ s.sys.memGib * 2 ^ 30) :
    effStkConfig { c with host := .ok b } s = good (s.enableStk (parseStk c.packet b)) := by
  have hring : ¬ s.sys.memGib * 2 ^ 30 < s.pageDram + s.stk.ringBytes (parseStk c.packet b).predLog2 := Nat.not_lt.2 hmem
  have hsusp : s.stkSuspended = false := hscan
  unfold effStkConfig
  simp only [hbad, hon, hthr, hoff, hsusp, hmap, hfit, withHost_ok, htab, if_neg hring]
  simp

theorem State.enableStk_eq (s : State) (g : StkCfg) : ∃ k, s.enableStk g = { s with stk := k } := ⟨_, rfl⟩

/-! The queue of tests (R256, R263). -/

/-- A test joins an empty queue under the next ID (R256, R265). -/
theorem State.addTest_tests_of_empty {s : State} (h : s.stk.tests = []) (t : LTest) :
    (s.addTest t).stk.tests = [{ t with id := s.stk.nextTest }] := by
  simp [State.addTest, enqueueTest, h]

/-- The test that a column test of STK_LADDER asks for (R263), for the column of a unit with this map. -/
def State.ladderColumnTest (s : State) (c : Cmd) (u : Nat) (m : StkMap) : LTest :=
  { id := s.stk.nextTest, cause := 1, channel := u8 c.packet 9, unit := u, column := u16 c.packet 16, cmd := some c.id,
    deadline := some (s.tick + u8 c.packet 12 * 200000000), ofColumn := true,
    steps := columnSteps u (u16 c.packet 16) (s.testSet m (u16 c.packet 16 - m.base) (u8 c.packet 9)
      ((List.range 3).map (fun k => if k = u8 c.packet 9 then (1 : Int) else 0))) }

/-- The steps of a new column test have neither place nor verdict. -/
theorem columnSteps_unplaced {u g : Nat} {set : List (Nat × MapItem)} {p : Step} (h : p ∈ columnSteps u g set) :
    p.u = none ∧ p.verdict = none := by
  obtain ⟨x, -, rfl⟩ := List.mem_map.1 h
  exact ⟨rfl, rfl⟩

/-- The state with a column test queued: the test joins the queue and its column awaits it (R263, R265). -/
def State.queueLadderColumn (s : State) (c : Cmd) (u : Nat) (m : StkMap) : State :=
  (s.addTest (s.ladderColumnTest c u m)).modStk (fun k => { k with
    cols := k.cols.set {} (u16 c.packet 16) ((k.cols.get {} (u16 c.packet 16)).await s.stk.nextTest) })

/-- Queueing the test changes the unit alone. -/
theorem State.queueLadderColumn_eq (s : State) (c : Cmd) (u : Nat) (m : StkMap) :
    ∃ k, s.queueLadderColumn c u m = { s with stk := k } := ⟨_, rfl⟩

theorem State.queueLadderColumn_tests {s : State} (h : s.stk.tests = []) (c : Cmd) (u : Nat) (m : StkMap) :
    (s.queueLadderColumn c u m).stk.tests = [s.ladderColumnTest c u m] :=
  State.addTest_tests_of_empty h (s.ladderColumnTest c u m)

theorem State.queueLadderColumn_stkCol (s : State) (c : Cmd) (u : Nat) (m : StkMap) :
    (s.queueLadderColumn c u m).stkCol (u16 c.packet 16) = (s.stkCol (u16 c.packet 16)).await s.stk.nextTest :=
  Table.get_set_self ..

/-- A column test with a set that is not empty goes to a queue with no test in it, and runs on (R263). -/
theorem effStkLadder_column {s : State} {c : Cmd} {u : Nat} {m : StkMap} (hbad : ladderBad c.packet = false) (hmode : u8 c.packet 8 = 1)
    (hscan : s.fir.cfg.scanning = false) (hon : s.stk.enabled = true)
    (hunit : s.unitOfColumn (u16 c.packet 16) = some (u, u16 c.packet 16 - m.base)) (hmap : s.stkMap u = some m) (hempty : s.stk.tests = [])
    (hset : s.testSet m (u16 c.packet 16 - m.base) (u8 c.packet 9)
      ((List.range 3).map (fun k => if k = u8 c.packet 9 then (1 : Int) else 0)) ≠ []) :
    effStkLadder c s = (s.queueLadderColumn c u m, .running) := by
  have hown : s.ladderForeign c.packet = false := by simp [State.ladderForeign, hmode]
  have hsusp : s.stkSuspended = false := hscan
  have hroom : s.stk.queued = 0 := by simp [Stk.queued, hempty]
  unfold effStkLadder ladderStart
  simp only [hbad, hown, hsusp, hon, hmode, hunit, hmap, hroom, if_neg hset, Option.bind_some, Option.map_some]
  rfl

/-- The column test of a command that commits now is queued in the state it commits in. -/
theorem exec_stkLadder_column {s : State} {r : Fin 4} {c : Cmd} {u : Nat} {m : StkMap} (h : s.atOnce r 0x0803 c = true)
    (hbad : ladderBad c.packet = false) (hmode : u8 c.packet 8 = 1) (hscan : s.fir.cfg.scanning = false) (hon : s.stk.enabled = true)
    (hunit : s.unitOfColumn (u16 c.packet 16) = some (u, u16 c.packet 16 - m.base)) (hmap : s.stkMap u = some m) (hempty : s.stk.tests = [])
    (hset : s.testSet m (u16 c.packet 16 - m.base) (u8 c.packet 9)
      ((List.range 3).map (fun k => if k = u8 c.packet 9 then (1 : Int) else 0)) ≠ []) :
    exec (.stkLadder r) s = .next (((s.begun r c (.ok [])).queueLadderColumn c u m).setPhase c.id .running) := by
  rw [exec_stkLadder_atOnce h, effStkLadder_column (s := s.begun r c (.ok [])) (c := { c with host := .ok [] }) hbad hmode hscan hon hunit hmap
    hempty hset, settle_running]
  rfl

/-- A nozzle test with the nozzle of another device is refused (R8, R12). -/
theorem effStkLadder_foreign {s : State} {c : Cmd} {k : Nat} (hbad : ladderBad c.packet = false) (hmode : u8 c.packet 8 = 0)
    (hk : k < u16 c.packet 18) (hdev : u32 c.packet (20 + 4 * k) / 2 ^ 21 ≠ s.gng.dev) : effStkLadder c s = refuse s := by
  have hforeign : s.ladderForeign c.packet = true := by
    simp only [State.ladderForeign, ladderNzas, hmode, beq_self_eq_true, Bool.true_and, List.any_map, List.any_eq_true]
    exact ⟨k, List.mem_range.2 hk, decide_eq_true hdev⟩
  unfold effStkLadder
  simp [hbad, hforeign]

/-! Placing steps (R248, R256). -/

theorem exec_ladderStepPlace_of_placeable {s : State} {t : LTest} {p : Step} {x : Nat × Nat × Nat} (hact : s.stkActive = true)
    (hp : s.placeable = some (t, p, x)) : exec .ladderStepPlace s = .next (s.placeStep t.id p x) := by
  change execLadderStepPlace s = _
  simp [execLadderStepPlace, hact, hp]

theorem exec_ladderStepPlace_of_inactive {s : State} (hact : s.stkActive = false) : exec .ladderStepPlace s = .next s := by
  change execLadderStepPlace s = _
  simp [execLadderStepPlace, hact]

/-- STK does not work while it is disabled or suspended, or FIR does not pace, or on a device that is not the lead (R248). -/
theorem State.stkActive_eq_false_iff (s : State) : s.stkActive = false ↔
    s.stk.enabled = false ∨ s.fir.cfg.scanning = true ∨ s.fir.paced = false ∨ s.twn.role.acting = false := by
  simp only [State.stkActive, State.stkSuspended, Bool.and_eq_false_iff, Bool.not_eq_false', or_assoc]

/-! The end of a test and its timeout (R254, R263, R265). -/

/-- The end of a test changes the trace, the host interface, the event block and the unit. -/
theorem State.endTest_eq (s : State) (t : LTest) (st : Nat) (res : List Byte) :
    ∃ o h e k, s.endTest t st res = { s with out := o, hif := h, evt := e, stk := k } := by
  unfold State.endTest
  extract_lets s1 s2
  obtain ⟨o, g, m, w, e, hr⟩ : ∃ o g m w e, s2 = s1.withEvents o g m w e := State.raise_eq ..
  obtain ⟨i, n, hc⟩ := State.completeOpt_eq s2 t.cmd st (if st = Status.ok then res else [])
  exact ⟨_, _, _, _, by rw [hc, hr]; rfl⟩

theorem State.endTest_tests (s : State) (t : LTest) (st : Nat) (res : List Byte) :
    (s.endTest t st res).stk.tests = s.stk.tests.filter (fun x => x.id ≠ t.id) := by
  simp [State.endTest]

/-- The end of a test that has no command completes none. -/
theorem State.endTest_inflight {s : State} {t : LTest} (h : t.cmd = none) (st : Nat) (res : List Byte) :
    (s.endTest t st res).hif.inflight = s.hif.inflight := by
  simp [State.endTest, h, State.completeOpt]

/-- The withdrawal of steps at a timeout changes the host interface and the unit. -/
theorem State.complete_modTest_eq (s : State) (id st : Nat) (res : List Byte) (n : Nat) (f : LTest → LTest) :
    ∃ h k, (s.complete id st res).modTest n f = { s with hif := h, stk := k } := ⟨_, _, rfl⟩

/-- A test without the steps that its timeout withdraws (R263). -/
def LTest.timedOut (t : LTest) (left : List Step) : LTest := { t with steps := left, cmd := none, deadline := none }

/-- The only test loses its only step, unplaced, at its deadline: its command completes with NO_PAGE_GAP and it ends (R20, R263). -/
theorem exec_ladderTimeout_last_step {s : State} {t : LTest} {p : Step} {id d : Nat} (htests : s.stk.tests = [t]) (hsteps : t.steps = [p])
    (hu : p.u = none) (hv : p.verdict = none) (hcmd : t.cmd = some id) (hd : t.deadline = some d) (hdue : d ≤ s.tick)
    (harr : s.arrives (· == .ladderStepPlace) = false) :
    exec (.ladderTimeout t.id) s = .next (((s.complete id Status.noPageGap []).modTest t.id (fun _ => t.timedOut [])).endTest
      (t.timedOut []) Status.ok []) := by
  have hstep : s.stepArrives t p = false := by simp [State.stepArrives, harr]
  change execLadderTimeout t.id s = _
  simp [execLadderTimeout, htests, hsteps, hu, hv, hcmd, hd, hdue, hstep, LTest.timedOut, State.completeOpt]

end Sys2Proof.Machine

open Sys2Proof Sys2Proof.Machine

/-- Settles O33: each clause is the effect of its command at its commit, or the branch of the placing or of the timeout that its
hypotheses select. -/
theorem streakDetectionRuns : Obligations.StreakDetectionRuns := by
  unfold Obligations.StreakDetectionRuns
  refine ⟨?map, ?config, ?query, ?column, ?foreign, ?place, ?idle, ?timeout⟩
  case map =>
    intro s r c h hu hflags hcols hcols' hend hcpp hcpp' hoff hmaps
    rw [exec_stkMap_atOnce h, effStkMap_takes_first (s := s.begun r c (.ok [])) (c := { c with host := .ok [] }) hu hflags hcols hcols'
      hend hcpp hcpp' hoff hmaps, settle_good]
    rfl
  case config =>
    intro s r c b h hbad hon hthr hoff hscan hmap hfit htab hmem
    rw [exec_stkConfig_atOnce h, effStkConfig_enables (s := s.begun r c (.ok b)) hbad hon hthr hoff hscan hmap hfit htab hmem, settle_good]
    refine ⟨_, rfl, ?_, rfl, rfl, rfl, rfl, rfl⟩
    obtain ⟨k, hk⟩ := (s.begun r c (.ok b)).enableStk_eq (parseStk c.packet b)
    obtain ⟨_, ht⟩ := s.begun_complete_frame r c (.ok b) k c.id Status.ok []
    rw [hk, ht]
  case query =>
    intro s r c h
    exact exec_stkQuery_atOnce h
  case column =>
    intro s r c u m h hbad hmode hscan hon hunit hmap hempty hset
    refine ⟨_, s.ladderColumnTest c u m, exec_stkLadder_column h hbad hmode hscan hon hunit hmap hempty hset, ?_,
      State.queueLadderColumn_tests (s := s.begun r c (.ok [])) hempty c u m, rfl, rfl, rfl, rfl, rfl, rfl,
      fun p hp => columnSteps_unplaced hp, rfl, rfl, State.queueLadderColumn_stkCol (s.begun r c (.ok [])) c u m⟩
    obtain ⟨k, hq⟩ := (s.begun r c (.ok [])).queueLadderColumn_eq c u m
    obtain ⟨_, ht⟩ := s.begun_setPhase_frame r c (.ok []) k c.id .running
    rw [hq, ht]
  case foreign =>
    intro s r c k h hbad hmode hk hdev
    rw [exec_stkLadder_atOnce h, effStkLadder_foreign (s := s.begun r c (.ok [])) (c := { c with host := .ok [] }) hbad hmode hk hdev,
      settle_refuse]
  case place =>
    intro s t p a b u hact hp
    exact exec_ladderStepPlace_of_placeable hact hp
  case idle =>
    intro s h
    exact exec_ladderStepPlace_of_inactive (s.stkActive_eq_false_iff.2 h)
  case timeout =>
    intro s t p id d htests hsteps hu hv hcmd hd hdue harr
    refine ⟨_, exec_ladderTimeout_last_step htests hsteps hu hv hcmd hd hdue harr, ?_, ?_, State.endTest_inflight rfl _ _⟩
    · obtain ⟨_, _, hw⟩ := s.complete_modTest_eq id Status.noPageGap [] t.id (fun _ => t.timedOut [])
      obtain ⟨_, _, _, _, he⟩ := State.endTest_eq { s with hif := _, stk := _ } (t.timedOut []) Status.ok []
      rw [hw, he]
    · rw [State.endTest_tests]
      simp [State.modTest, htests, LTest.timedOut]

end

section
/-! The host interface (R31 to R39, R459): host writes, doorbells, and rings that are enabled, disabled, stopped and reset. -/
namespace Sys2Proof.Machine

/-! Positions in a ring (R38). -/

/-- The distance from `k` to `t` in a ring of `n` entries, as the doorbells compute it. -/
theorem ringDistance_eq {n k : Nat} (hk : k ≤ n) (t : Nat) : (((t + n - k) % n : Nat) : Int) = ((t : Int) - k) % n := by
  have hcast : ((t + n - k : Nat) : Int) = (t : Int) - k + n := by omega
  rw [Int.natCast_emod, hcast, Int.add_emod_right]

theorem headOk_iff {n k : Nat} (hk : k < n) (w h : Nat) :
    headOk n k w h = true ↔ h < n ∧ ((h : Int) - k) % n ≤ ((w : Int) - k) % n := by
  rw [← ringDistance_eq (Nat.le_of_lt hk), ← ringDistance_eq (Nat.le_of_lt hk), Int.ofNat_le]
  simp only [headOk, Bool.and_eq_true, decide_eq_true_eq]

theorem Ring.tailOk_iff {g : Ring} (htail : g.tail < 2 ^ g.sqLog2) (t : Nat) :
    g.tailOk t = true ↔ t < 2 ^ g.sqLog2 ∧ ((t : Int) - g.tail) % 2 ^ g.sqLog2 ≤ ((g.head : Int) - 1 - g.tail) % 2 ^ g.sqLog2 := by
  have hle := Nat.le_of_lt htail
  have hroom : (((g.head + 2 ^ g.sqLog2 - 1 + 2 ^ g.sqLog2 - g.tail) % 2 ^ g.sqLog2 : Nat) : Int)
      = ((g.head : Int) - 1 - g.tail) % (2 ^ g.sqLog2 : Nat) := by
    have hcast : ((g.head + 2 ^ g.sqLog2 - 1 : Nat) : Int) - g.tail = (g.head : Int) - 1 - g.tail + (2 ^ g.sqLog2 : Nat) := by omega
    rw [ringDistance_eq hle, hcast, Int.add_emod_right]
  have hsize : ((2 ^ g.sqLog2 : Nat) : Int) = 2 ^ g.sqLog2 := Int.natCast_pow 2 g.sqLog2
  rw [← hsize, ← hroom, ← ringDistance_eq hle, Int.ofNat_le]
  simp only [Ring.tailOk, Bool.and_eq_true, decide_eq_true_eq]

/-! Writes that are discarded (R32, R34, R38). -/

/-- What a discarded write leaves: the saturating count of 32 bits is one higher (R36). -/
theorem State.discardWrite_eq (s : State) :
    s.discardWrite = s.modHif (fun h => { h with discard := min (2 ^ 32 - 1) (h.discard + 1) }) := rfl

theorem insideBar_iff (bar2 : Bool) (off n : Nat) :
    insideBar bar2 off n = true ↔ off / 4 * 4 + 4 * n ≤ (if bar2 then 4096 else 16777216) := by
  unfold insideBar barSize; exact decide_eq_true_iff

theorem inHif_iff (off : Nat) : inHif off = true ↔ 0x100000 ≤ off ∧ off < 0x200000 := by
  unfold inHif
  rw [Bool.and_eq_true]
  exact and_congr decide_eq_true_iff decide_eq_true_iff

theorem inHif_eq_false_iff (off : Nat) : inHif off = false ↔ off < 0x100000 ∨ 0x200000 ≤ off := by
  rw [← Bool.not_eq_true, inHif_iff]; omega

/-- A request whose first register is not to be written is discarded as a whole (R32). -/
theorem exec_mmioWriteDiscard_of_first {bar2 : Bool} {off : Nat} {e : Fin 16} {ens : List (Fin 16)} {s : State}
    (hin : insideBar bar2 off (e :: ens).length = true) (hfirst : discardsOne bar2 off e = true) :
    exec (.mmioWriteDiscard bar2 off (e :: ens)) s = .next s.discardWrite := by
  have hany : (e :: ens).zipIdx.any (fun x => discardsOne bar2 (off + 4 * x.2) x.1) = true := by simp [hfirst]
  change execMmioWriteDiscard bar2 off (e :: ens) s = _
  unfold execMmioWriteDiscard
  rw [hin, hany]
  rfl

theorem exec_mmioWriteDiscard_outside {bar2 : Bool} {off : Nat} {ens : List (Fin 16)} {s : State}
    (hout : insideBar bar2 off ens.length = false) :
    exec (.mmioWriteDiscard bar2 off ens) s = .next (s.modHif (fun h => { h with aerFatal := true })) := by
  change execMmioWriteDiscard bar2 off ens s = _
  simp [execMmioWriteDiscard, hout, State.malformed]

theorem State.hostWrite_outside {off : Nat} (hout : inHif off = false) (s : State) (v : Nat) : s.hostWrite off v = s.discardWrite := by
  simp [State.hostWrite, hout]

/-- With HIF_READY up, a register of the HIF block takes a write (R32, R34). -/
theorem State.hostWrite_of_ready {s : State} (hready : s.hif.ready = true) {off : Nat} (hin : inHif off = true) (v : Nat) :
    s.hostWrite off v = s.writeHif off v := by
  simp [State.hostWrite, hin, hready]

/-- The registers of ring pair `r` (R36). -/
theorem State.hostWrite_ringReg {s : State} (hready : s.hif.ready = true) (r : Fin 4) {o : Nat} (ho : o < 0x40) (v : Nat) :
    s.hostWrite (0x101000 + o + 0x40 * r.val) v = s.writeRingReg r.val o v := by
  have hr := r.isLt
  have hin : inHif (0x101000 + o + 0x40 * r.val) = true := (inHif_iff _).2 (by omega)
  have hoff : 0x101000 + o + 0x40 * r.val - hifBase = 0x1000 + o + 0x40 * r.val := by simp only [hifBase]; omega
  have hpair : (0x1000 + o + 0x40 * r.val - 0x1000) / 0x40 = r.val := by omega
  have hreg : (0x1000 + o + 0x40 * r.val) % 0x40 = o := by omega
  rw [State.hostWrite_of_ready hready hin]
  unfold State.writeHif
  rw [hoff]
  dsimp only
  rw [if_neg (by omega), if_pos (by omega), hpair, hreg]

/-! Doorbells (R38). -/

/-- A ring pair takes no doorbell while HIF_READY is 0, or while it is disabled or stopped. -/
theorem State.doorbellClosed_of {s : State} {r : Nat} (h : s.hif.ready = false ∨ (s.ring r).enable = false ∨ (s.ring r).stopped = true) :
    (!s.hif.ready || !(s.ring r).active) = true := by
  simpa [Ring.active] using h

theorem State.tailDoorbell_closed {s : State} {r : Nat} (h : (!s.hif.ready || !(s.ring r).active) = true) (t : Nat) :
    s.tailDoorbell r t = s.discardWrite := if_pos h

theorem State.headDoorbell_closed {s : State} {r : Nat} (h : (!s.hif.ready || !(s.ring r).active) = true) (k : Nat) :
    s.headDoorbell r k = s.discardWrite := if_pos h

theorem State.eventHeadDoorbell_closed {s : State} (h : s.hif.ready = false ∨ s.hif.eq.enable = false ∨ s.hif.eq.stopped = true) (k : Nat) :
    s.eventHeadDoorbell k = s.discardWrite :=
  if_pos (by simpa [or_assoc] using h)

section
variable {s : State} {r : Nat} (hready : s.hif.ready = true) (hactive : (s.ring r).active = true)
include hready hactive

theorem State.tailDoorbell_accepted {t : Nat} (hok : (s.ring r).tailOk t = true) :
    s.tailDoorbell r t = s.modRing r (fun g => { g with tail := t }) := by
  simp [State.tailDoorbell, hready, hactive, hok, State.modRing]

/-- A submission tail that is not accepted stops the pair with ERR_CAUSE 0 (R38, R59). -/
theorem State.tailDoorbell_refused {t : Nat} (hbad : (s.ring r).tailOk t = false) :
    s.tailDoorbell r t = s.failRing r 0 t 0 0 := by
  simp [State.tailDoorbell, hready, hactive, hbad]

theorem State.headDoorbell_accepted {k : Nat} (hok : headOk (2 ^ (s.ring r).cqLog2) (s.ring r).cqHead (s.ring r).cqWrite k = true) :
    s.headDoorbell r k = s.modRing r (fun g => { g with cqHead := k }) := by
  simp [State.headDoorbell, hready, hactive, hok, State.modRing]
end

theorem State.eventHeadDoorbell_accepted {s : State} (hready : s.hif.ready = true) (hon : s.hif.eq.enable = true)
    (hgoing : s.hif.eq.stopped = false) {k : Nat} (hok : headOk (2 ^ s.hif.eq.log2) s.hif.eq.head s.hif.eq.write k = true) :
    s.eventHeadDoorbell k = s.modHif (fun h => { h with eq := { h.eq with head := k } }) := by
  simp [State.eventHeadDoorbell, hready, hon, hgoing, hok, State.modHif]

@[simp] theorem State.ring_withEvents (s : State) (o : List Out) (g : EventRing) (m : List Nat) (w : List (Nat × Nat × Nat)) (e : Evt)
    (k : Nat) : (s.withEvents o g m w e).ring k = s.ring k := rfl

/-! A ring pair that stops with an error (R59, R459). -/

theorem State.ring_modRing_ne (s : State) {i k : Nat} (h : k ≠ i) (f : Ring → Ring) : (s.modRing i f).ring k = s.ring k :=
  s.ring_setRing_ne h _

/-- The later of two changes of a pair is made to what the earlier left. -/
theorem State.modRing_modRing (s : State) (i : Nat) (f g : Ring → Ring) : (s.modRing i f).modRing i g = s.modRing i (fun x => g (f x)) := by
  simp [State.modRing, State.setRing, State.ring]

@[simp] theorem State.ring_stopRing (s : State) (i k : Nat) : (s.stopRing i).ring k = s.ring k := rfl

/-- What is sent, the host interface and the event block change, and nothing else. -/
theorem State.failRing_frame (s : State) (r cause value index addr : Nat) :
    ∃ o h e, s.failRing r cause value index addr = { s with out := o, hif := h, evt := e } := by
  obtain ⟨_, _, _, _, _, hf⟩ := s.failRing_eq r cause value index addr
  exact ⟨_, _, _, hf⟩

theorem State.ring_failRing_self (s : State) (r cause value index addr : Nat) :
    (s.failRing r cause value index addr).ring r = { s.ring r with stopped := true, error := true, errCause := cause } := by
  obtain ⟨_, _, _, _, _, hf⟩ := s.failRing_eq r cause value index addr
  rw [hf, State.ring_withEvents, State.ring_modRing, State.ring_stopRing]

theorem State.ring_failRing_ne (s : State) {r q : Nat} (hq : q ≠ r) (cause value index addr : Nat) :
    (s.failRing r cause value index addr).ring q = s.ring q := by
  obtain ⟨_, _, _, _, _, hf⟩ := s.failRing_eq r cause value index addr
  rw [hf, State.ring_withEvents, State.ring_modRing_ne _ hq, State.ring_stopRing]

/-- The commands of the pair leave, and those of the other rings stay (R459). -/
theorem State.failRing_inflight (s : State) (r cause value index addr : Nat) :
    (s.failRing r cause value index addr).hif.inflight = s.hif.inflight.filter (fun c => c.ring != r) := by
  obtain ⟨_, _, _, _, _, hf⟩ := s.failRing_eq r cause value index addr
  rw [hf]
  rfl

/-! Rings that are enabled and disabled (R37, R459). -/

/-- A pair whose bases and sizes are in range starts with the size that HIF_SQ_CTL gives (R37). -/
theorem State.writeSqCtl_enables {s : State} {r v : Nat} (hoff : (s.ring r).enable = false) (hbit : bit v 0 = true)
    (hsq : (s.ring r).sqBase % 4096 = 0) (hcq : (s.ring r).cqBase % 4096 = 0) (hsize : sizeOk (bits v 5 1) = true)
    (hcsize : sizeOk (s.ring r).cqLog2 = true) :
    s.writeSqCtl r v = s.modRing r (fun g => { g with sqLog2 := bits v 5 1 }.started) := by
  have hok : ((s.modRing r (fun g => { g with sqLog2 := bits v 5 1 })).ring r).enableOk = true := by
    simp [Ring.enableOk, hsq, hcq, hsize, hcsize]
  unfold State.writeSqCtl
  rw [if_neg (by simp [hoff])]
  dsimp only
  rw [if_pos hbit, State.enableRing, if_pos hok, State.modRing_modRing]

theorem State.writeSqCtl_disables {s : State} {r v : Nat} (hon : (s.ring r).enable = true) (hbit : bit v 0 = false) :
    s.writeSqCtl r v = s.disableRing r := by
  simp [State.writeSqCtl, hon, hbit]

@[simp] theorem State.ring_disableRing_self (s : State) (r : Nat) :
    (s.disableRing r).ring r = { s.ring r with enable := false, stopped := false } :=
  State.ring_modRing _ r _

theorem State.ring_disableRing_ne (s : State) {r q : Nat} (hq : q ≠ r) : (s.disableRing r).ring q = s.ring q :=
  State.ring_modRing_ne _ hq _

theorem State.writeEqCtl_enables {s : State} {v : Nat} (hoff : s.hif.eq.enable = false) (hbit : bit v 5 = true)
    (hbase : s.hif.eq.base % 4096 = 0) (hsize : sizeOk (bits v 4 0) = true) :
    s.writeEqCtl v = s.modHif (fun h => { h with eq := { h.eq with
      vector := bits v 11 6, irqEn := bit v 12, coalCount := bits v 23 16, log2 := bits v 4 0, enable := true, stopped := false,
      write := 0, head := 0, phase := true, lost := 0, irqCount := 0, irqFirst := none } }) := by
  simp [State.writeEqCtl, hoff, hbit, State.enableEventRing, hbase, hsize, State.modHif]

theorem State.writeEqCtl_disables {s : State} {v : Nat} (hon : s.hif.eq.enable = true) (hbit : bit v 5 = false) :
    s.writeEqCtl v = s.modHif (fun h => { h with eq := { h.eq with
      vector := bits v 11 6, irqEn := bit v 12, coalCount := bits v 23 16, enable := false, stopped := false } }) := by
  simp [State.writeEqCtl, hon, hbit]

section
variable {s : State} (hready : s.hif.ready = true)
include hready

theorem exec_ringPairEnable_of_ready (r : Fin 4) {v : BitVec 32} (hbit : bit v.toNat 0 = true) :
    exec (.ringPairEnable r v) s = .next (s.writeSqCtl r.val v.toNat) := by
  change execRingPairEnable r v s = _
  simp [execRingPairEnable, hbit, hready]

theorem exec_ringPairDisable_of_ready (r : Fin 4) {v : BitVec 32} (hbit : bit v.toNat 0 = false) :
    exec (.ringPairDisable r v) s = .next (s.writeSqCtl r.val v.toNat) := by
  change execRingPairDisable r v s = _
  simp [execRingPairDisable, hbit, hready]

theorem exec_eventRingEnable_of_ready {v : BitVec 32} (hbit : bit v.toNat 5 = true) :
    exec (.eventRingEnable v) s = .next (s.writeEqCtl v.toNat) := by
  change execEventRingEnable v s = _
  simp [execEventRingEnable, hbit, hready]

theorem exec_eventRingDisable_of_ready {v : BitVec 32} (hbit : bit v.toNat 5 = false) :
    exec (.eventRingDisable v) s = .next (s.writeEqCtl v.toNat) := by
  change execEventRingDisable v s = _
  simp [execEventRingDisable, hbit, hready]
end

/-! RINGS_RESET (R459). -/

/-- What RINGS_RESET does to one pair: it is disabled and its error cleared. -/
def State.resetPair (s : State) (r : Nat) : State := (s.disableRing r).modRing r (fun g => { g with error := false, errCause := 0 })

theorem State.ringsReset_eq (s : State) : s.ringsReset =
    ((List.range 4).foldl State.resetPair s).modHif (fun h => { h with eq := { h.eq with enable := false, stopped := false } }) := rfl

/-- A pair that is disabled and shows no error. -/
def Ring.off (g : Ring) : Prop := g.enable = false ∧ g.error = false

theorem State.resetPair_off (s : State) (r : Nat) : ((s.resetPair r).ring r).off := by
  simp [State.resetPair, Ring.off]

theorem State.ring_resetPair_ne (s : State) {r q : Nat} (hq : q ≠ r) : (s.resetPair r).ring q = s.ring q :=
  (State.ring_modRing_ne _ hq _).trans (s.ring_disableRing_ne hq)

theorem State.resetPair_keeps_off {s : State} {q : Nat} (h : (s.ring q).off) (r : Nat) : ((s.resetPair r).ring q).off := by
  by_cases hq : q = r
  · exact hq ▸ s.resetPair_off r
  · rwa [s.ring_resetPair_ne hq]

theorem State.foldl_resetPair_off (l : List Nat) : ∀ (s : State) (q : Nat),
    q ∈ l ∨ (s.ring q).off → ((l.foldl State.resetPair s).ring q).off := by
  induction l with
  | nil => intro s q h; simpa using h
  | cons r l ih =>
    intro s q h
    refine ih (s.resetPair r) q ?_
    rcases h with hmem | hoff
    · rcases List.mem_cons.1 hmem with rfl | hmem
      · exact .inr (s.resetPair_off q)
      · exact .inl hmem
    · exact .inr (State.resetPair_keeps_off hoff r)

/-- The commands of the pairs that are reset leave; the host interface alone changes, and HIF_READY stays. -/
theorem State.foldl_resetPair_frame (l : List Nat) : ∀ s : State, ∃ h, l.foldl State.resetPair s = { s with hif := h } ∧
    h.ready = s.hif.ready ∧ ∀ c ∈ h.inflight, c ∈ s.hif.inflight ∧ c.ring ∉ l := by
  induction l with
  | nil => exact fun s => ⟨s.hif, rfl, rfl, fun c hc => ⟨hc, List.not_mem_nil⟩⟩
  | cons r l ih =>
    intro s
    obtain ⟨h, hfold, hready, hin⟩ := ih (s.resetPair r)
    refine ⟨h, hfold, hready, fun c hc => ?_⟩
    obtain ⟨hmem, hl⟩ := hin c hc
    obtain ⟨hs, hr⟩ := List.mem_filter.1 (show c ∈ s.hif.inflight.filter (fun c => c.ring != r) from hmem)
    exact ⟨hs, by simpa [hl] using hr⟩

theorem State.ringsReset_frame (s : State) : ∃ h, s.ringsReset = { s with hif := h } ∧ h.ready = s.hif.ready ∧ h.eq.enable = false ∧
    ∀ c ∈ h.inflight, c ∈ s.hif.inflight ∧ 4 ≤ c.ring := by
  obtain ⟨h, hfold, hready, hin⟩ := State.foldl_resetPair_frame (List.range 4) s
  refine ⟨{ h with eq := { h.eq with enable := false, stopped := false } }, by rw [State.ringsReset_eq, hfold]; rfl, hready, rfl,
    fun c hc => ?_⟩
  obtain ⟨hmem, hring⟩ := hin c hc
  exact ⟨hmem, by simpa using hring⟩

theorem State.ringsReset_off (s : State) {r : Nat} (hr : r < 4) : (s.ringsReset.ring r).off := by
  have hoff := State.foldl_resetPair_off (List.range 4) s r (.inl (List.mem_range.2 hr))
  rw [State.ringsReset_eq]
  generalize (List.range 4).foldl State.resetPair s = t at hoff ⊢
  exact hoff

theorem exec_ringsReset_eq {v : BitVec 32} (hbit : bit v.toNat 0 = true) (s : State) :
    exec (.ringsReset v) s = .next (s.modHif (fun h => { h with timeB := bit v.toNat 1 })).ringsReset := by
  change execRingsReset v s = _
  simp [execRingsReset, State.writeHifCtl, hbit]

/-! Fetching (R40, R41). -/

theorem exec_commandFetch_ok {s : State} {r : Fin 4} (h : s.canFetch r.val = true) (bytes : List Byte) :
    exec (.commandFetch r (.ok bytes)) s =
      .next ((s.modRing r.val (fun g => { g with head := (g.head + 1) % 2 ^ g.sqLog2 })).modHif (fun h => { h with
        nextId := h.nextId + 1, inflight := h.inflight ++ [{ id := h.nextId, ring := r.val, packet := pad 64 bytes }] })) := by
  change execCommandFetch r (.ok bytes) s = _
  simp [execCommandFetch, h, State.modRing]

theorem exec_commandFetch_fail {s : State} {r : Fin 4} (h : s.canFetch r.val = true) (cause addr : Nat) :
    exec (.commandFetch r (.fail cause addr)) s = .next ((s.reportRead cause).failRing r.val 1 0 (s.ring r.val).head addr) := by
  change execCommandFetch r (.fail cause addr) s = _
  simp [execCommandFetch, h]

theorem State.ring_reportRead (s : State) (cause k : Nat) : (s.reportRead cause).ring k = s.ring k := by
  obtain ⟨b, hb⟩ := s.reportRead_eq cause
  rw [hb]; rfl

end Sys2Proof.Machine

open Sys2Proof Sys2Proof.Machine

/-- Settles O3: each write is discarded by the test that its hypotheses meet, or reaches its ring register. -/
theorem hostWritesAreTakenOrDiscarded : Obligations.HostWritesAreTakenOrDiscarded := by
  unfold Obligations.HostWritesAreTakenOrDiscarded
  simp only [← State.discardWrite_eq]
  refine ⟨?bar2, ?first, ?malformed, ?outside, ?pair, ?events, ?bases⟩
  case bar2 =>
    intro s off ens hin hne
    obtain ⟨e, ens, rfl⟩ := List.exists_cons_of_ne_nil hne
    exact exec_mmioWriteDiscard_of_first ((insideBar_iff ..).2 hin) rfl
  case first =>
    intro s k e ens hin hfirst
    refine exec_mmioWriteDiscard_of_first ((insideBar_iff ..).2 ?_) ?_
    · simpa [Nat.mul_comm] using hin
    · have hoff := inHif_eq_false_iff (4 * k)
      rcases hfirst with h | h | ⟨h0, h15⟩
      · simp [discardsOne, hoff.2 (.inl h)]
      · simp [discardsOne, hoff.2 (.inr h)]
      · simp [discardsOne, h0, h15]
  case malformed =>
    intro s bar2 off ens hout
    exact exec_mmioWriteDiscard_outside (by rw [← Bool.not_eq_true, insideBar_iff]; exact Nat.not_le.2 hout)
  case outside =>
    intro s off v hout
    exact congrArg Host.Outcome.next (s.hostWrite_outside ((inHif_eq_false_iff off).2 hout) v.toNat)
  case pair =>
    intro s r v h
    have hclosed := State.doorbellClosed_of h
    exact ⟨congrArg Host.Outcome.next (State.tailDoorbell_closed hclosed v.val),
      congrArg Host.Outcome.next (State.headDoorbell_closed hclosed v.val)⟩
  case events =>
    intro s v h
    exact congrArg Host.Outcome.next (State.eventHeadDoorbell_closed h v.val)
  case bases =>
    intro s r v hready
    exact ⟨congrArg Host.Outcome.next (State.hostWrite_ringReg hready r (o := 0x00) (by decide) v.toNat),
      congrArg Host.Outcome.next (State.hostWrite_ringReg hready r (o := 0x14) (by decide) v.toNat)⟩

/-- Settles O4: an accepted value passes the test of R38 on ring positions, and a refused tail stops its pair. -/
theorem doorbellsMoveOrStopTheirRing : Obligations.DoorbellsMoveOrStopTheirRing := by
  unfold Obligations.DoorbellsMoveOrStopTheirRing
  refine ⟨?tail, ?head, ?eventHead, ?refused⟩
  case tail =>
    intro s r v hready hactive htail _ hv hle
    exact congrArg Host.Outcome.next (State.tailDoorbell_accepted hready hactive ((Ring.tailOk_iff htail _).2 ⟨hv, hle⟩))
  case head =>
    intro s r v hready hactive hhead _ hv hle
    exact congrArg Host.Outcome.next (State.headDoorbell_accepted hready hactive ((headOk_iff hhead _ _).2 ⟨hv, by exact_mod_cast hle⟩))
  case eventHead =>
    intro s v hready hon hgoing hhead _ hv hle
    exact congrArg Host.Outcome.next (State.eventHeadDoorbell_accepted hready hon hgoing
      ((headOk_iff hhead _ _).2 ⟨hv, by exact_mod_cast hle⟩))
  case refused =>
    intro s r v hready hactive hbad
    obtain ⟨o, h, e, hframe⟩ := s.failRing_frame r.val 0 v.val 0 0
    have hself := s.ring_failRing_self r.val 0 v.val 0 0
    refine ⟨_, congrArg Host.Outcome.next (State.tailDoorbell_refused hready hactive hbad), by rw [hframe], ?_, ?_, ?_, ?_,
      s.failRing_inflight .., s.ring_failRing_ne (by omega) ..⟩
    all_goals rw [hself]

/-- Settles O5: enabling starts a ring, disabling stops it and releases its commands, and RINGS_RESET does the latter to every pair. -/
theorem ringsAreEnabledAndDisabled : Obligations.RingsAreEnabledAndDisabled := by
  unfold Obligations.RingsAreEnabledAndDisabled
  refine ⟨?enable, ?disable, ?eventEnable, ?eventDisable, ?reset⟩
  case enable =>
    intro s r v hready hoff hbit hsq hcq hsize hcsize
    exact ⟨_, exec_ringPairEnable_of_ready hready r hbit, State.writeSqCtl_enables hoff hbit hsq hcq hsize hcsize⟩
  case disable =>
    intro s r v hready hon hbit
    refine ⟨s.disableRing r.val, ?_, rfl, ?_, ?_, rfl, rfl, ?_⟩
    · rw [exec_ringPairDisable_of_ready hready r hbit, State.writeSqCtl_disables hon hbit]
    · rw [State.ring_disableRing_self]
    · rw [State.ring_disableRing_self]
    · exact fun q hq => s.ring_disableRing_ne (Fin.val_ne_of_ne hq)
  case eventEnable =>
    intro s v hready hoff hbit hbase hsize
    rw [exec_eventRingEnable_of_ready hready hbit, State.writeEqCtl_enables hoff hbit hbase hsize]
  case eventDisable =>
    intro s v hready hon hbit
    rw [exec_eventRingDisable_of_ready hready hbit, State.writeEqCtl_disables hon hbit]
  case reset =>
    intro s v hbit hrings
    obtain ⟨h, hframe, hready, heq, hin⟩ := (s.modHif (fun h => { h with timeB := bit v.toNat 1 })).ringsReset_frame
    have hempty : h.inflight = [] :=
      List.eq_nil_iff_forall_not_mem.2 fun c hc => Nat.not_le.2 (hrings c (hin c hc).1) (hin c hc).2
    refine ⟨_, exec_ringsReset_eq hbit s, ?_, fun r hr => State.ringsReset_off _ hr, ?_, ?_, ?_⟩
    · rw [hframe]; rfl
    · rw [hframe]; exact heq
    · rw [hframe]; exact hempty
    · rw [hframe]; exact hready

/-- Settles O6: a fetch takes the packet and the place, and a failed read stops the pair. -/
theorem fetchTakesOnePacket : Obligations.FetchTakesOnePacket := by
  unfold Obligations.FetchTakesOnePacket
  refine ⟨fun s r bytes h => exec_commandFetch_ok h bytes, fun s r cause addr h => ?_⟩
  obtain ⟨b, hb⟩ := s.reportRead_eq cause
  obtain ⟨o, h', e, hframe⟩ := (s.reportRead cause).failRing_frame r.val 1 0 (s.ring r.val).head addr
  have hself := (s.reportRead cause).ring_failRing_self r.val 1 0 (s.ring r.val).head addr
  refine ⟨_, exec_commandFetch_fail h cause addr, by rw [hframe, hb]; rfl, ?_, ?_, ?_, fun q hq => ?_⟩
  · rw [hself]
  · rw [hself]
  · rw [hself, State.ring_reportRead]
  · rw [State.ring_failRing_ne _ (Fin.val_ne_of_ne hq), State.ring_reportRead]

end

section
/-! Completions and event records (R39, R49 to R53): their bytes, what writing them changes, and what is held. -/
namespace Sys2Proof.Machine

/-! The PHASE of what is written (R39). -/

theorem b2n_le_one (b : Bool) : b2n b ≤ 1 := by cases b <;> decide

theorem completionBytes_flags (tag st ring : Nat) (phase b : Bool) (ns : Nat) (res : List Byte) :
    u8 (completionBytes tag st ring phase b ns res) 7 = b2n phase + 2 * b2n b := by
  cases phase <;> cases b <;> rfl

theorem completionBytes_ring (tag st ring : Nat) (phase b : Bool) (ns : Nat) (res : List Byte) :
    u8 (completionBytes tag st ring phase b ns res) 6 = ring % 256 := rfl

theorem Rec.encode_flags {r : Rec} (hsev : r.sev < 16) (phase : Bool) :
    u8 (r.encode phase) 2 = r.sev + 16 * b2n r.timeB + 128 * b2n phase := by
  have htime := b2n_le_one r.timeB
  have hphase := b2n_le_one phase
  exact Nat.mod_eq_of_lt (show r.sev + 16 * b2n r.timeB + 128 * b2n phase < 256 by omega)

theorem completionBytes_phase (tag st ring : Nat) (phase b : Bool) (ns : Nat) (res : List Byte) :
    bit (u8 (completionBytes tag st ring phase b ns res) 7) 0 = phase := by
  rw [completionBytes_flags]
  cases phase <;> cases b <;> rfl

theorem Rec.encode_phase {r : Rec} (hsev : r.sev < 16) (phase : Bool) : bit (u8 (r.encode phase) 2) 7 = phase := by
  have htime := b2n_le_one r.timeB
  have hbyte : (r.sev + 16 * b2n r.timeB + 128 * b2n phase) / 2 ^ 7 = b2n phase := by omega
  rw [Rec.encode_flags hsev, bit, hbyte]
  cases phase <;> rfl

/-! Writing at the write index (R39, R53). -/

/-- Counting an entry of a pair for its interrupt keeps where the pair writes, and sends nothing yet. -/
theorem State.countCompletion_ring (s : State) (r : Nat) : ((s.countCompletion r).ring r).cqWrite = (s.ring r).cqWrite ∧
    ((s.countCompletion r).ring r).phase = (s.ring r).phase ∧ (s.countCompletion r).out = s.out := by
  unfold State.countCompletion
  dsimp only
  split
  · exact ⟨rfl, rfl, rfl⟩
  · split <;> simp [State.ring, State.setRing]

theorem State.countEvent_eventRing (s : State) (sev : Nat) : (s.countEvent sev).hif.eq.write = s.hif.eq.write ∧
    (s.countEvent sev).hif.eq.phase = s.hif.eq.phase ∧ (s.countEvent sev).out = s.out := by
  unfold State.countEvent
  dsimp only
  split
  · exact ⟨rfl, rfl, rfl⟩
  · split <;> simp

theorem State.writeCompletion_ring (s : State) (r tag st : Nat) (res : List Byte) :
    ((s.writeCompletion r tag st res).ring r).cqWrite = ((s.ring r).cqWrite + 1) % 2 ^ (s.ring r).cqLog2 ∧
    ((s.writeCompletion r tag st res).ring r).phase
      = (if ((s.ring r).cqWrite + 1) % 2 ^ (s.ring r).cqLog2 = 0 then !(s.ring r).phase else (s.ring r).phase) ∧
    (s.writeCompletion r tag st res).out = s.out ++ s.leaves (.host ((s.ring r).cqBase + 32 * (s.ring r).cqWrite)
      (completionBytes tag st r (s.ring r).phase s.hif.timeB s.nowNs res)) := by
  unfold State.writeCompletion
  extract_lets g w s1 s2 s3
  obtain ⟨hwrite, hphase, hout⟩ := s3.countCompletion_ring r
  rw [hwrite, hphase, hout]
  simp only [s3, State.ring_setRing]
  exact ⟨rfl, rfl, rfl⟩

theorem State.writeRecord_eventRing (s : State) (x : Rec) :
    (s.writeRecord x).hif.eq.write = (s.hif.eq.write + 1) % 2 ^ s.hif.eq.log2 ∧
    (s.writeRecord x).hif.eq.phase = (if (s.hif.eq.write + 1) % 2 ^ s.hif.eq.log2 = 0 then !s.hif.eq.phase else s.hif.eq.phase) ∧
    (s.writeRecord x).out = s.out ++ s.leaves (.host (s.hif.eq.base + 32 * s.hif.eq.write) (x.encode s.hif.eq.phase)) := by
  unfold State.writeRecord
  extract_lets g w s1 s2
  obtain ⟨hwrite, hphase, hout⟩ := s2.countEvent_eventRing x.sev
  rw [hwrite, hphase, hout]
  exact ⟨rfl, rfl, rfl⟩

/-! The order in which the completions of a tick are written has each of them (R46, R127). -/

theorem mem_insertOrdered {α : Type} (le : α → α → Bool) (x a : α) (l : List α) : a ∈ insertOrdered le x l ↔ a = x ∨ a ∈ l := by
  induction l with
  | nil => simp [insertOrdered]
  | cons y l ih => unfold insertOrdered; split <;> simp [ih, or_left_comm]

theorem mem_behindLast (p : Cmd → Bool) (c a : Cmd) (l : List Cmd) : a ∈ behindLast p c l ↔ a = c ∨ a ∈ l := by
  induction l with
  | nil => simp [behindLast]
  | cons d l ih => unfold behindLast; (repeat' split) <;> simp [ih, or_left_comm]

theorem mem_closesBehind (a : Cmd) (l : List Cmd) : a ∈ closesBehind l ↔ a ∈ l := by
  induction l with
  | nil => rfl
  | cons c l ih => unfold closesBehind; split <;> simp [mem_behindLast, ih]

theorem mem_completionOrder (a : Cmd) (l : List Cmd) : a ∈ completionOrder l ↔ a ∈ l := by
  unfold completionOrder
  rw [mem_closesBehind]
  induction l with
  | nil => rfl
  | cons c l ih => rw [List.foldr_cons, mem_insertOrdered, ih, List.mem_cons]

/-! Releasing what is written (R40, R49). -/

theorem Cmd.completing_iff (c : Cmd) : c.completing = true ↔ ∃ st res, c.phase = .completing st res := by
  unfold Cmd.completing
  split
  · next st res h => simp [h]
  · next h => simpa using h

/-- The frame of one completion: what is sent and the host interface, but for the event ring; its command leaves. -/
theorem State.writeDue_frame (s : State) {c : Cmd} (hc : c.completing = true) :
    ∃ o h, s.writeDue c = { s with out := s.out ++ o, hif := h } ∧
    h.eq = s.hif.eq ∧ h.inflight = s.hif.inflight.filter (fun d => d.id != c.id) := by
  obtain ⟨st, res, hphase⟩ := c.completing_iff.1 hc
  unfold State.writeDue
  rw [hphase]
  dsimp only
  split
  · exact ⟨[], { s.hif with inflight := s.hif.inflight.filter (fun d => d.id != c.id) }, by rw [List.append_nil]; rfl, rfl, rfl⟩
  · obtain ⟨o, _, _, _, hw⟩ := State.writeCompletion_eq
      (s.modHif (fun h => { h with inflight := h.inflight.filter (fun d => d.id != c.id) })) c.ring (pktTag c.packet) st res
    exact ⟨o, _, hw, rfl, rfl⟩

theorem State.foldl_writeDue_frame (l : List Cmd) : (∀ c ∈ l, c.completing = true) → ∀ s : State,
    ∃ o h, l.foldl State.writeDue s = { s with out := s.out ++ o, hif := h } ∧ h.eq = s.hif.eq ∧
      ∀ d ∈ h.inflight, d ∈ s.hif.inflight ∧ d ∉ l := by
  induction l with
  | nil => exact fun _ s => ⟨[], s.hif, by rw [List.append_nil]; rfl, rfl, fun d hd => ⟨hd, List.not_mem_nil⟩⟩
  | cons c l ih =>
    intro hl s
    obtain ⟨o1, h1, hdue, heq1, hin1⟩ := s.writeDue_frame (hl c List.mem_cons_self)
    obtain ⟨o2, h2, hrest, heq2, hin2⟩ := ih (fun x hx => hl x (List.mem_cons_of_mem c hx)) (s.writeDue c)
    rw [hdue] at hrest heq2 hin2
    refine ⟨o1 ++ o2, h2, ?_, heq2.trans heq1, fun d hd => ?_⟩
    · rw [List.foldl_cons, hdue, hrest, List.append_assoc]
    · obtain ⟨hmem, hnot⟩ := hin2 d hd
      obtain ⟨hs, hid⟩ := List.mem_filter.1 (hin1 ▸ hmem)
      have hne : d ≠ c := by rintro rfl; simp at hid
      exact ⟨hs, by simp [hne, hnot]⟩

theorem State.writeCompletions_frame (s : State) : ∃ o h, s.writeCompletions = { s with out := s.out ++ o, hif := h } ∧ h.eq = s.hif.eq ∧
    ∀ d ∈ h.inflight, d ∈ s.hif.inflight ∧ d.completing = false := by
  have hl : ∀ c, c ∈ completionOrder (s.hif.inflight.filter Cmd.completing) ↔ c ∈ s.hif.inflight ∧ c.completing = true := fun c =>
    (mem_completionOrder ..).trans List.mem_filter
  obtain ⟨o, h, hfold, heq, hin⟩ := State.foldl_writeDue_frame _ (fun c hc => ((hl c).1 hc).2) s
  refine ⟨o, h, hfold, heq, fun d hd => ?_⟩
  obtain ⟨hmem, hnot⟩ := hin d hd
  exact ⟨hmem, by simpa [hl, hmem] using hnot⟩

end Sys2Proof.Machine

open Sys2Proof Sys2Proof.Machine

/-- Settles O53: PHASE stands where it is read, and a write of an entry moves the index and inverts PHASE at 0 alone. -/
theorem phaseInvertsAtEachWrap : Obligations.PhaseInvertsAtEachWrap := by
  unfold Obligations.PhaseInvertsAtEachWrap
  refine ⟨completionBytes_phase, fun r phase hsev => Rec.encode_phase hsev phase, ?completion, ?record, ?pair, ?events⟩
  case completion =>
    intro s r tag st res
    obtain ⟨hwrite, hphase, hout⟩ := s.writeCompletion_ring r tag st res
    exact ⟨hwrite, hphase, fun hawake => by rw [hout, State.leaves_awake _ _ hawake]⟩
  case record =>
    intro s x
    obtain ⟨hwrite, hphase, hout⟩ := s.writeRecord_eventRing x
    exact ⟨hwrite, hphase, fun hawake => by rw [hout, State.leaves_awake _ _ hawake]⟩
  case pair =>
    intro s r v hready hoff hbit hsq hcq hsize hcsize
    refine ⟨_, exec_ringPairEnable_of_ready hready r hbit, ?_⟩
    rw [State.writeSqCtl_enables hoff hbit hsq hcq hsize hcsize]
    exact ⟨rfl, by rw [State.ring_modRing]; rfl, by rw [State.ring_modRing]; rfl⟩
  case events =>
    intro s v hready hoff hbit hbase hsize
    refine ⟨_, exec_eventRingEnable_of_ready hready hbit, ?_⟩
    rw [State.writeEqCtl_enables hoff hbit hbase hsize]
    exact ⟨rfl, rfl, rfl⟩

/-- Refutes O54: the statement bounds every field but the number of the ring, which takes one byte: a completion of a ring 256, which
the device does not have, reads back ring 0. -/
theorem not_completionsAndRecordsReadBack : ¬ Obligations.CompletionsAndRecordsReadBack := by
  unfold Obligations.CompletionsAndRecordsReadBack
  rintro ⟨hcompletion, -⟩
  obtain ⟨-, -, -, hring, -⟩ := hcompletion 0 0 256 false false 0 [] (by decide) (by decide) (by decide) (by decide)
  rw [completionBytes_ring] at hring
  exact absurd hring (by decide)

/-- Settles O59: the frame of a record, of a completion point, and of the completions that a tick writes. -/
theorem recordsTouchOnlyTheHostInterface : Obligations.RecordsTouchOnlyTheHostInterface := by
  unfold Obligations.RecordsTouchOnlyTheHostInterface
  refine ⟨?raised, fun s id st res => ⟨rfl, rfl, rfl⟩, ?written⟩
  case raised =>
    intro s code sev unit args
    obtain ⟨o, g, m, w, e, h⟩ := s.raiseAt_eq code sev unit args
    rw [h]
    exact ⟨rfl, List.prefix_append .., rfl, rfl⟩
  case written =>
    intro s
    obtain ⟨o, h, hframe, heq, hin⟩ := s.writeCompletions_frame
    rw [hframe]
    exact ⟨rfl, List.prefix_append .., heq, hin⟩

end

section
/-! The host link, the interface's reset, and records and interrupts that are held (R29, R30, R35, R50, R51, R53). -/
namespace Sys2Proof.Machine

/-! Configuration requests and the link (R29, R30). -/

theorem exec_configRequest_perst {s : State} (h : s.sys.perstLow = true) (q : ConfigReq) : exec (.configRequest q) s = .next s := by
  change execConfigRequest q s = _
  simp [execConfigRequest, h]

/-- Until the firmware is authenticated the answer is a retry. -/
theorem exec_configRequest_retry {s : State} (h : s.sys.perstLow = false) (hauth : s.hif.fwAuth = false) (q : ConfigReq) :
    exec (.configRequest q) s = .next (s.emit (.config true 0)) := by
  change execConfigRequest q s = _
  simp [execConfigRequest, h, hauth]

section
variable {s : State} (h : s.sys.perstLow = false) (hauth : s.hif.fwAuth = true)
include h hauth

theorem exec_configRequest_read {item : ConfigItem} (hitem : item ≠ .errors) :
    exec (.configRequest (.read item)) s = .next (s.emit (.config false (s.readConfig item))) := by
  change execConfigRequest (.read item) s = _
  unfold execConfigRequest
  rw [if_neg (by simp [h]), if_neg (by simp [hauth])]
  split
  · next hq => exact absurd (ConfigReq.read.inj hq) hitem
  · next hq => rw [ConfigReq.read.inj hq]
  · next hq => exact ConfigReq.noConfusion hq

theorem exec_configRequest_write (item : ConfigItem) (v : Nat) :
    exec (.configRequest (.write item v)) s = .next ((s.modHif (fun h => h.writeConfig item v)).emit (.config false 0)) := by
  change execConfigRequest (.write item v) s = _
  simp [execConfigRequest, h, hauth]
end

theorem exec_pcieLinkUp_supported {s : State} {g : Fin 8} {w : Fin 32} (hgen : g.val = 3 ∨ g.val = 4 ∨ g.val = 5)
    (hwidth : w.val = 8 ∨ w.val = 16) (hperst : s.sys.perstLow = false) (l : List (Nat × Nat)) :
    exec (.pcieLinkUp g w l) s = .next (s.modHif (fun h => { h with
      linkDown := false, linkGen := g.val, refused := l, linkWidth := if bit s.sys.straps 2 then 8 else w.val })) := by
  change execPcieLinkUp g w l s = _
  unfold execPcieLinkUp
  rw [if_pos (by simpa [hperst, or_assoc] using And.intro hgen hwidth)]

/-! The interface's reset and its return (R34, R35, R50). -/

/-- What a reset changes, and that the event block starts afresh at a fall of HIF_READY alone. -/
theorem State.hifFall_frame (s : State) : ∃ e, s.hifFall = { s with hif := s.hif.afterReset, evt := e } ∧
    (s.hif.ready = true → e.seq = 0 ∧ e.backlog = [] ∧ e.lost = 0) ∧ (s.hif.ready = false → e = s.evt) := by
  refine ⟨_, rfl, fun h => ?_, fun h => ?_⟩
  · simp [h]
  · simp [h]

theorem exec_hifReset_eq (down : Bool) (s : State) : exec (.hifReset down) s = .next
    (if down then s.hifFall.modHif (fun h => { h with linkDown := true, linkGen := 0, linkWidth := 0 }) else s.hifFall) := rfl

theorem State.hifRise_of_no_fallback {s : State} (h : s.sys.fallbackDue = false) :
    s.hifRise = ((s.modHif (fun h => { h with ready := true, epoch := (h.epoch + 1) % 256, rings := {}, eq := {} })).modEvt
      (fun e => { e with threshold := [], suppress := [], maskNext := none })).modSys (fun y => { y with restarting := false }) := by
  unfold State.hifRise
  extract_lets s1 s2 s3
  exact if_neg (by rw [show s3.sys.fallbackDue = s.sys.fallbackDue from rfl, h]; decide)

theorem exec_hifReadyReturn_of {s : State} (hready : s.hif.ready = false) (hauth : s.hif.fwAuth = true) (hmem : s.sys.memDone = true)
    (hlink : s.hif.linkDown = false) (hslot : s.sys.restarting = false ∨ s.sys.slotBad = false) :
    exec .hifReadyReturn s = .next s.hifRise := by
  change execHifReadyReturn s = _
  unfold execHifReadyReturn
  rw [if_pos (by simpa [hready, hauth, hmem, hlink] using hslot)]

/-! Held records (R51). -/

@[simp] theorem State.writeRecord_evt (s : State) (x : Rec) : (s.writeRecord x).evt = s.evt := by
  obtain ⟨_, _, _, _, h⟩ := s.writeRecord_eq x
  rw [h]

/-- The only record held is written, and nothing is lost to report. -/
theorem State.drainEvents_one {s : State} {x : Rec} (hheld : s.evt.heldError = none) (hback : s.evt.backlog = [x])
    (hfree : 2 ≤ s.hif.eq.freeEntries) (hlost : s.evt.lost = 0) :
    s.drainEvents = (s.modEvt (fun e => { e with backlog := [] })).writeRecord x := by
  have hdrain : s.drainBacklog 1 = (s.modEvt (fun e => { e with backlog := [] })).writeRecord x := by
    simp [State.drainBacklog, hback, hfree]
  unfold State.drainEvents
  simp [hheld, hback, hdrain, hlost]

/-! Interrupts held by coalescing (R53). -/

theorem coalesced_of {coalTime t0 tick : Nat} (htime : coalTime ≠ 0) (hpast : t0 + 200 * coalTime ≤ tick) :
    coalesced coalTime (some t0) tick = true := by
  simp [coalesced, htime, hpast]

theorem exec_coalesceTimeout_pair {s : State} {r : Fin 4} {t0 : Nat} (hirq : (s.ring r.val).irqEn = true)
    (hfirst : (s.ring r.val).irqFirst = some t0) (htime : (s.ring r.val).coalTime ≠ 0)
    (hpast : t0 + 200 * (s.ring r.val).coalTime ≤ s.tick) (k : Fin 5) (hk : k.val = r.val) :
    exec (.coalesceTimeout k) s = .next (s.modHif (fun h => { h with coalDue := h.coalDue ++ [r.val] })) := by
  change execCoalesceTimeout k s = _
  unfold execCoalesceTimeout
  rw [hk, if_neg (Nat.ne_of_lt r.isLt), hirq, hfirst, coalesced_of htime hpast]
  rfl

theorem exec_coalesceTimeout_events {s : State} {t0 : Nat} (hirq : s.hif.eq.irqEn = true) (hfirst : s.hif.eq.irqFirst = some t0)
    (htime : s.hif.eq.coalTime ≠ 0) (hpast : t0 + 200 * s.hif.eq.coalTime ≤ s.tick) :
    exec (.coalesceTimeout 4) s = .next (s.modHif (fun h => { h with coalDue := h.coalDue ++ [4] })) := by
  change execCoalesceTimeout 4 s = _
  unfold execCoalesceTimeout
  rw [if_pos (show (4 : Fin 5).val = 4 from rfl), hirq, hfirst, coalesced_of htime hpast]
  rfl

theorem State.expireCoal_pair {s : State} {r : Nat} (hr : r ≠ 4) (hirq : (s.ring r).irqEn = true) :
    s.expireCoal r = (s.modRing r (fun g => { g with irqCount := 0, irqFirst := none })).triggerVector (s.ring r).vector := by
  simp [State.expireCoal, hr, hirq, State.modRing]

theorem State.expireCoal_events {s : State} (hirq : s.hif.eq.irqEn = true) :
    s.expireCoal 4 = (s.modHif (fun h => { h with eq := { h.eq with irqCount := 0, irqFirst := none } })).triggerVector s.hif.eq.vector := by
  simp [State.expireCoal, hirq, State.modHif]

/-- The only timer that expired in the tick. -/
theorem State.expireCoals_one {s : State} {r : Nat} (h : s.hif.coalDue = [r]) :
    s.expireCoals = (s.modHif (fun h => { h with coalDue := [] })).expireCoal r := by
  simp [State.expireCoals, h]

end Sys2Proof.Machine

open Sys2Proof Sys2Proof.Machine

/-- Settles O7: what each request, reset or expiry does in the states that its hypotheses describe. -/
theorem hostLinkAndHeldRecords : Obligations.HostLinkAndHeldRecords := by
  unfold Obligations.HostLinkAndHeldRecords
  refine ⟨fun s q h => exec_configRequest_perst h q, fun s q h hauth => exec_configRequest_retry h hauth q, ?capabilities, ?linkUp, ?reset,
    ?ready, ?drain, ?pairDue, ?pairExpires, ?eventsDue, ?eventsExpire⟩
  case capabilities =>
    intro s h hauth
    have hread := @exec_configRequest_read s h hauth
    exact ⟨hread (by decide), hread (by decide), hread (by decide), hread (by decide), hread (by decide), hread (by decide),
      exec_configRequest_write h hauth .powerState 3⟩
  case linkUp =>
    intro s g w l hgen hwidth hperst
    exact exec_pcieLinkUp_supported hgen hwidth hperst l
  case reset =>
    intro s down
    obtain ⟨e, hfall, hrestart, hkeep⟩ := s.hifFall_frame
    refine ⟨_, exec_hifReset_eq down s, ?_⟩
    rw [hfall]
    cases down
    · exact ⟨rfl, rfl, rfl, rfl, rfl, rfl, rfl, hrestart, hkeep, rfl⟩
    · exact ⟨rfl, rfl, rfl, rfl, rfl, rfl, rfl, hrestart, hkeep, rfl⟩
  case ready =>
    intro s hready hauth hmem hlink hfallback hslot
    rw [exec_hifReadyReturn_of hready hauth hmem hlink hslot, State.hifRise_of_no_fallback hfallback]
  case drain =>
    intro s x hheld hback hfree hlost
    exact congrArg Host.Outcome.next (State.drainEvents_one hheld hback hfree hlost)
  case pairDue =>
    intro s r t0 hirq hfirst htime hpast
    exact exec_coalesceTimeout_pair hirq hfirst htime hpast _ rfl
  case pairExpires =>
    intro s r hirq hdue
    rw [State.expireCoals_one hdue]
    exact State.expireCoal_pair (Nat.ne_of_lt r.isLt) hirq
  case eventsDue =>
    intro s t0 hirq hfirst htime hpast
    exact exec_coalesceTimeout_events hirq hfirst htime hpast
  case eventsExpire =>
    intro s hirq hdue
    rw [State.expireCoals_one hdue]
    exact State.expireCoal_events hirq

end

section
/-! Commands that wait or are mirrored (R45, R55, R218, R380). -/
namespace Sys2Proof.Machine

@[simp] theorem settle_done (id st : Nat) (s : State) (res : List Byte) : settle id (s, .done st res) = s.complete id st res := rfl

/-- A due command whose checks pass again, and that no partner is to mirror, commits (R45). -/
theorem exec_atBoundaryCommit_of {s t : State} {c : Cmd} {n : Nat} {o : OpInfo} {eff : Effect} {res : List Byte}
    (hdue : firstStarted s.boundaryDue = some (n, c)) (hop : opInfo (pktOpcode c.packet) = some o) (hclass : opClass o c.packet ≠ .mirrored)
    (heff : effectOf (pktOpcode c.packet) = some eff) (hrun : eff c s = (t, .done Status.ok res)) :
    exec .atBoundaryCommit s = .next (t.complete c.id Status.ok res) := by
  change execAtBoundaryCommit s = _
  simp [execAtBoundaryCommit, hdue, heff, hop, hrun, Reply.failed, commitOrMirror, hclass]

theorem exec_unknownOpcode_of {s : State} {r : Fin 4} {c : Cmd} (hturn : s.turnRing = some r.val) (hstart : s.startable r.val = some c)
    (hop : opInfo (pktOpcode c.packet) = none) :
    exec (.unknownOpcode r) s = .next ((s.served r.val).complete c.id Status.badOpcode []) := by
  change execUnknownOpcode r s = _
  simp [execUnknownOpcode, hturn, hstart, hop]

/-- The lead commits in the pair tick that its COMMIT named (R380). -/
theorem exec_mirroredCommit_lead {s : State} {tag t0 sent : Nat} {c : Cmd} {eff : Effect} (hmir : s.mirroring tag = some (c, sent, some t0))
    (htick : t0 ≤ s.pairTick) (heff : effectOf (pktOpcode c.packet) = some eff) (stamp : Option Nat) :
    exec (.mirroredCommit tag stamp) s = .next (settle c.id (eff c s)) := by
  change execMirroredCommit tag stamp s = _
  simp [execMirroredCommit, hmir, Nat.not_lt.2 htick, heff]

/-- The shadow commits the one packet it holds, in its pair tick (R380). -/
theorem exec_mirroredCommit_shadow {s : State} {m : Mirrored} {t0 : Nat} {eff : Effect} (hmir : s.mirroring m.tag = none)
    (hheld : s.twn.mirrored = [m]) (hcommit : m.commit = some t0) (htick : t0 ≤ s.pairTick)
    (heff : effectOf (pktOpcode m.packet) = some eff) (stamp : Option Nat) :
    exec (.mirroredCommit m.tag stamp) s = .next ((s.modTwn (fun w => { w with mirrored := [] })).shadowCommit stamp
      { id := 0, ring := 0, packet := m.packet, host := m.host } eff) := by
  have hrest : s.modTwn (fun w => { w with mirrored := w.mirrored.filter (fun x => x.tag ≠ m.tag) })
      = s.modTwn (fun w => { w with mirrored := [] }) := by
    simp [State.modTwn, hheld]
  change execMirroredCommit m.tag stamp s = _
  simp only [execMirroredCommit, hmir, hrest]
  simp [hheld, hcommit, htick, heff]

/-- The lead commits alone when no ACK has come in time, nor comes in this tick (R20, R380). -/
theorem exec_ackTimeout_alone {s : State} {tag sent : Nat} {c : Cmd} {eff : Effect} (hmir : s.mirroring tag = some (c, sent, none))
    (hlate : sent + 8000 ≤ s.tick) (harr : Instr.ackRecordRx tag ∉ s.pending) (heff : effectOf (pktOpcode c.packet) = some eff) :
    exec (.ackTimeout tag) s = .next (settle c.id (eff c (s.modTwn Twn.goAlone))) := by
  change execAckTimeout tag s = _
  unfold execAckTimeout
  rw [hmir]
  dsimp only
  rw [heff, if_neg]
  simp only [Bool.or_eq_true, Bool.and_eq_true, decide_eq_true_eq]
  rintro (⟨hearly, -⟩ | ⟨-, hacked⟩)
  · exact Nat.not_lt.2 hlate hearly
  · obtain ⟨i, hmem, hi⟩ := List.any_eq_true.1 hacked
    split at hi
    · exact harr (beq_iff_eq.1 hi ▸ hmem)
    · cases hi

end Sys2Proof.Machine

open Sys2Proof Sys2Proof.Machine

/-- Settles O14: each commit runs the command's own effect in the state that its clause describes. -/
theorem deferredCommandsCommit : Obligations.DeferredCommandsCommit := by
  unfold Obligations.DeferredCommandsCommit
  refine ⟨?boundary, ?unknown, ?lead, ?shadow, ?alone⟩
  case boundary =>
    intro s t c n o eff res hdue hop hclass heff hrun
    exact exec_atBoundaryCommit_of hdue hop hclass heff hrun
  case unknown =>
    intro s r c hturn hstart hop
    exact exec_unknownOpcode_of hturn hstart hop
  case lead =>
    intro s t tag t0 sent stamp c eff res hmir htick heff hrun
    rw [exec_mirroredCommit_lead hmir htick heff, hrun, settle_done]
  case shadow =>
    intro s t tag t0 stamp m eff st res hmir hheld htag hcommit htick heff hrun
    subst htag
    rw [exec_mirroredCommit_shadow hmir hheld hcommit htick heff, State.shadowCommit, hrun]
  case alone =>
    intro s t tag sent c eff res hmir hlate harr heff hrun
    rw [exec_ackTimeout_alone hmir hlate harr heff, hrun, settle_done]

end

section
/-! Identity, health, register access by commands and by host reads, and the event mask (R31, R32, R52, R54). -/
namespace Sys2Proof.Machine

@[simp] theorem settle_answer (id : Nat) (s : State) (res : List Byte) : settle id (answer s res) = s.complete id Status.ok res := rfl

/-! The SYS commands commit their effects. -/

section
variable {s : State} {r : Fin 4} {c : Cmd}

theorem exec_sysIdentify_atOnce (h : s.atOnce r 0x0101 c = true) :
    exec (.sysIdentify r) s = .next (settle c.id (effSysIdentify { c with host := .ok [] } (s.begun r c (.ok [])))) := by
  rw [← startCommand_atOnce h]; rfl

theorem exec_sysHealth_atOnce (h : s.atOnce r 0x0102 c = true) :
    exec (.sysHealth r) s = .next (settle c.id (effSysHealth { c with host := .ok [] } (s.begun r c (.ok [])))) := by
  rw [← startCommand_atOnce h]; rfl

theorem exec_sysRegRead_atOnce (h : s.atOnce r 0x0103 c = true) :
    exec (.sysRegRead r) s = .next (settle c.id (effSysRegRead { c with host := .ok [] } (s.begun r c (.ok [])))) := by
  rw [← startCommand_atOnce h]; rfl

theorem exec_sysRegWrite_atOnce (h : s.atOnce r 0x0104 c = true) :
    exec (.sysRegWrite r) s = .next (settle c.id (effSysRegWrite { c with host := .ok [] } (s.begun r c (.ok [])))) := by
  rw [← startCommand_atOnce h]; rfl

theorem exec_sysEventMask_atOnce (h : s.atOnce r 0x0105 c = true) :
    exec (.sysEventMask r) s = .next (settle c.id (effSysEventMask { c with host := .ok [] } (s.begun r c (.ok [])))) := by
  rw [← startCommand_atOnce h]; rfl
end

/-! Their effects (R52, R54). -/

/-- An image that is not recovery's gives its own version. -/
theorem effSysIdentify_of_image {s : State} (h : s.sys.imageRun ≠ 2) (c : Cmd) :
    effSysIdentify c s = answer s ([0x21, 0] ++ leBytes 1 Config.stepping ++ [u8 s.sys.runHeader 8] ++ leBytes 2 (u16 s.sys.runHeader 10)
      ++ leBytes 2 (u16 s.sys.runHeader 12) ++ leBytes 8 Config.deviceNumber) := by
  simp [effSysIdentify, h, leBytes]

theorem effSysRegRead_of_register {s : State} {c : Cmd} (h : regOffsetOk (u32 c.packet 8) = true) :
    effSysRegRead c s = answer s (leBytes 4 (s.readReg (u32 c.packet 8))) := by
  simp [effSysRegRead, h]

theorem State.readReg_gpioOut (s : State) : s.readReg 0x4004 = s.gpio.out.toNat := rfl

theorem within_index {base stride n k : Nat} (hstride : 0 < stride) (hk : k < n) : within base stride n (base + stride * k) = some (k, 0) := by
  have hin : base ≤ base + stride * k ∧ base + stride * k < base + stride * n :=
    ⟨Nat.le_add_right .., Nat.add_lt_add_left (Nat.mul_lt_mul_of_pos_left hk hstride) _⟩
  rw [within, if_pos hin, Nat.add_sub_cancel_left, Nat.mul_div_cancel_left _ hstride, Nat.mul_mod_right]

theorem State.readReg_scratch (s : State) (k : Fin 32) : s.readReg (0x1100 + 4 * k.val) = (s.sys.scratch.get 0 k.val).toNat := by
  have hk := k.isLt
  have hblock : (0x1100 + 4 * k.val) / 0x100000 = 0 := by omega
  have hoff : (0x1100 + 4 * k.val) % 0x100000 = 0x1100 + 4 * k.val := by omega
  have hin : within 0x1100 4 32 (0x1100 + 4 * k.val) = some (k.val, 0) := within_index (by decide) hk
  unfold State.readReg
  simp only [hblock, hoff]
  unfold State.readSys
  split
  case h_15 => rw [hin]
  all_goals omega

theorem effSysRegWrite_gpioOut {s : State} {c : Cmd} (h : u32 c.packet 8 = 0x4004) :
    effSysRegWrite c s = good (s.writeGpioOut (BitVec.ofNat 32 (u32 c.packet 12)) (BitVec.ofNat 32 (u32 c.packet 16))) := by
  unfold effSysRegWrite
  dsimp only
  rw [h]
  rfl

theorem effSysEventMask_of_suppressible {s : State} {c : Cmd} (h : ∀ i < 8, suppressible (u16 c.packet (24 + 2 * i)) = true) :
    effSysEventMask c s = good (s.modEvt (fun e => { e with
      threshold := s.maskNow.1, suppress := s.maskNow.2,
      maskNext := some { val := ((List.range 16).map (fun i => min 3 (u8 c.packet (8 + i))),
        ((List.range 8).map (fun i => u16 c.packet (24 + 2 * i))).filter (· != 0)), tick := s.tick } })) := by
  unfold effSysEventMask
  extract_lets p codes
  exact if_neg (by simpa [codes, p] using h)

/-! Host reads (R31, R32). -/

theorem Rim.word_window (m : Rim) {a : Nat} (h : a < 0x100) : m.word a = m.window.getD a 0 := if_pos h

theorem leBytes_append (n b : Nat) : ∀ (m : Nat) {a : Nat}, a < 256 ^ m → leBytes (m + n) (a + 256 ^ m * b) = leBytes m a ++ leBytes n b
  | 0, a, h => by
    obtain rfl : a = 0 := by simpa using h
    simp [leBytes]
  | m + 1, a, h => by
    have hlow : (a + 256 ^ (m + 1) * b) % 256 = a % 256 := by
      rw [Nat.pow_succ', Nat.mul_assoc, Nat.add_mul_mod_self_left]
    have hhigh : (a + 256 ^ (m + 1) * b) / 256 = a / 256 + 256 ^ m * b := by
      rw [Nat.pow_succ', Nat.mul_assoc, Nat.add_mul_div_left _ _ (by decide)]
    have hrest : a / 256 < 256 ^ m := Nat.div_lt_of_lt_mul (by rwa [← Nat.pow_succ'])
    rw [Nat.succ_add, leBytes, hlow, hhigh, leBytes_append n b m hrest]
    rfl

/-- With every byte enabled a register gives its four bytes. -/
theorem laneBytes_all (w : Nat) : laneBytes 15 w = leBytes 4 w := by
  have hall : ∀ i < 4, bit (15 : Fin 16).val i = true := by decide
  simp only [laneBytes, leBytes, List.zipIdx_cons, List.zipIdx_nil, List.map_cons, List.map_nil, hall 0 (by decide), hall 1 (by decide),
    hall 2 (by decide), hall 3 (by decide), Nat.zero_add, Nat.reduceAdd, if_true]

theorem hostRead_pair {bar2 : Bool} {k : Nat} (hin : 8 * k + 8 ≤ barSize bar2) (at_ : Nat → State) :
    hostRead bar2 at_ (8 * k) [15, 15] =
      some (leBytes 4 ((at_ 0).hostRead32 bar2 (8 * k)) ++ leBytes 4 ((at_ 0).hostRead32 bar2 (8 * k + 4))) := by
  have hbar : insideBar bar2 (8 * k) 2 = true := decide_eq_true (by omega)
  simp [hostRead, hbar, readPairs, laneBytes_all]

theorem hostRead_outside {bar2 : Bool} {off : Nat} {ens : List (Fin 16)} (hout : barSize bar2 < off / 4 * 4 + 4 * ens.length)
    (at_ : Nat → State) : hostRead bar2 at_ off ens = none :=
  if_neg (by simpa [insideBar] using hout)

end Sys2Proof.Machine

open Sys2Proof Sys2Proof.Machine

/-- Settles O8: each command's effect at its commit, and the registers that a host read finds. -/
theorem identityHealthRegistersAndMask : Obligations.IdentityHealthRegistersAndMask := by
  unfold Obligations.IdentityHealthRegistersAndMask
  refine ⟨?identify, ?health, ?readGpio, ?readScratch, ?writeGpio, ?window, ?status, ?pair,
    fun bar2 at_ off ens hout => hostRead_outside hout at_, ?mask⟩
  case identify =>
    intro s r c h
    rw [exec_sysIdentify_atOnce h, effSysIdentify_of_image (s := s.begun r c (.ok [])) (State.atOnce_image h :), settle_answer]
    rfl
  case health =>
    intro s r c h
    rw [exec_sysHealth_atOnce h, effSysHealth, settle_answer]
    rfl
  case readGpio =>
    intro s r c h hoff
    rw [exec_sysRegRead_atOnce h, effSysRegRead_of_register (c := { c with host := .ok [] }) (by rw [hoff]; rfl), settle_answer, hoff,
      State.readReg_gpioOut]
    rfl
  case readScratch =>
    intro s r c k h hoff
    have hreg : regOffsetOk (u32 c.packet 8) = true := by
      have hk := k.isLt
      rw [hoff, regOffsetOk, Bool.and_eq_true, beq_iff_eq, decide_eq_true_iff]
      omega
    rw [exec_sysRegRead_atOnce h, effSysRegRead_of_register (c := { c with host := .ok [] }) hreg, settle_answer, hoff, State.readReg_scratch]
    rfl
  case writeGpio =>
    intro s r c h hoff
    rw [exec_sysRegWrite_atOnce h, effSysRegWrite_gpioOut (c := { c with host := .ok [] }) hoff, settle_good]
    rfl
  case window =>
    intro s k
    change s.rim.word (4 * k.val / 4) = _
    rw [Nat.mul_div_cancel_left _ (by decide), Rim.word_window _ k.isLt]
  case status => exact fun s => rfl
  case pair =>
    rintro _ bar2 k at_ rfl hin hlow _
    rw [hostRead_pair hin]
    exact congrArg some (leBytes_append 4 _ 4 hlow).symm
  case mask =>
    intro s r c h hcodes
    refine ⟨_, exec_sysEventMask_atOnce h, ?_⟩
    rw [effSysEventMask_of_suppressible (c := { c with host := .ok [] }) hcodes, settle_good]
    exact ⟨rfl, rfl, rfl, rfl, rfl, rfl⟩

end

section
open Sys2Proof Sys2Proof.Machine

/-- Settles O48: each field at its reset value. -/
theorem resetState : Obligations.ResetState := by
  unfold Obligations.ResetState
  exact ⟨rfl, rfl, rfl, rfl, fun _ => ⟨rfl, rfl, rfl⟩, rfl, rfl, rfl, rfl, rfl, rfl, fun _ => rfl, fun _ => rfl, fun _ => rfl, rfl, rfl⟩

end

section
/-! Bar geometry (R61 to R76): what the staging commands stage, the answers of GEO_COMMIT, and what the activation of a generation changes. -/
namespace Sys2Proof.Machine

/-! The GEO commands commit their effects. -/

section
variable {s : State} {r : Fin 4} {c : Cmd}

theorem exec_geoHeadclass_atOnce (h : s.atOnce r 0x0201 c = true) :
    exec (.geoHeadclass r) s = .next (settle c.id (effGeoHeadclass { c with host := .ok [] } (s.begun r c (.ok [])))) := by
  rw [← startCommand_atOnce h]; rfl

theorem exec_geoHead_atOnce (h : s.atOnce r 0x0202 c = true) :
    exec (.geoHead r) s = .next (settle c.id (effGeoHead { c with host := .ok [] } (s.begun r c (.ok [])))) := by
  rw [← startCommand_atOnce h]; rfl

theorem exec_geoRuns_atOnce (h : s.atOnce r 0x0203 c = true) (d : HostRead) :
    exec (.geoRuns r d) s = .next (settle c.id (effGeoRuns { c with host := d } (s.begun r c d))) := by
  rw [← startCommand_atOnce h]; rfl

theorem exec_geoExceptions_atOnce (h : s.atOnce r 0x0204 c = true) (d : HostRead) :
    exec (.geoExceptions r d) s = .next (settle c.id (effGeoExceptions { c with host := d } (s.begun r c d))) := by
  rw [← startCommand_atOnce h]; rfl

theorem exec_geoCommit_atOnce (h : s.atOnce r 0x0205 c = true) :
    exec (.geoCommit r) s = .next (settle c.id (effGeoCommit { c with host := .ok [] } (s.begun r c (.ok [])))) := by
  rw [← startCommand_atOnce h]; rfl
end

/-! Staging (R61, R63, R70). -/

/-- A class with BITS other than 0 is staged as given (R61). -/
theorem parseClass_of_bits {p : List Byte} (h : u8 p 9 ≠ 0) :
    parseClass p = { bits := u8 p 9, dies := u8 p 10, rows := u8 p 11, nozzles := u16 p 12, spare := u8 p 14, minPeriod := u32 p 16,
                     spareOf := u32 p 20, rowOff := (List.range 8).map (fun i => u32 p (24 + 4 * i)), raw := (pad 64 p).drop 8 } :=
  if_neg h

/-- A head with a class other than 0xFF occupies its slot (R63). -/
theorem parseHead_of_class {p : List Byte} (h : u8 p 10 ≤ 15) :
    parseHead p = { cls := u8 p 10, disabled := bit (u8 p 11) 0, webLines := u32 p 12, webFrac := u16 p 16, crossPos := u32 p 20,
                    crossDir := u8 p 24, raw := (pad 64 p).drop 8 } :=
  if_neg (by omega)

theorem effGeoHeadclass_of_class {c : Cmd} (h : u8 c.packet 8 ≤ 15) (s : State) :
    effGeoHeadclass c s = good (s.modGeo (fun g =>
      { g with staged := { g.staged with classes := g.staged.classes.set {} (u8 c.packet 8) (parseClass c.packet) } })) :=
  if_neg (Nat.not_lt.2 h)

theorem effGeoHead_of_place {c : Cmd} (hlane : u8 c.packet 8 ≤ 63) (hslot : u8 c.packet 9 ≤ 7) (hcls : u8 c.packet 10 ≤ 15)
    (hflags : u8 c.packet 11 ≤ 1) (hweb : u32 c.packet 12 < 2 ^ 24) (hdir : u8 c.packet 24 ≤ 1) (s : State) :
    effGeoHead c s = good (s.modGeo (fun g =>
      { g with staged := { g.staged with heads := g.staged.heads.set {} (8 * u8 c.packet 8 + u8 c.packet 9) (parseHead c.packet) } })) :=
  if_neg (by omega)

@[simp] theorem length_entriesOf (w : Nat) : ∀ (n : Nat) (b : List Byte), (entriesOf w n b).length = n
  | 0, _ => rfl
  | n + 1, b => congrArg (· + 1) (length_entriesOf w n (b.drop w))

/-- Entries without TRUNCATE leave those behind them (R70). -/
theorem putEntries_keep (old : List (List Byte)) (first : Nat) (new : List (List Byte)) :
    putEntries old first new false = old.take first ++ new ++ old.drop (first + new.length) := rfl

/-- Entries with TRUNCATE end the table (R70). -/
theorem putEntries_truncate (old : List (List Byte)) (first : Nat) (new : List (List Byte)) :
    putEntries old first new true = old.take first ++ new := List.append_nil _

section
variable {s : State} {c : Cmd} (hparams : tableParamsBad c.packet = false)
include hparams

theorem effGeoRuns_of_read (hfirst : u32 c.packet 16 ≤ s.geo.staged.runs.length) (b : List Byte) :
    effGeoRuns { c with host := .ok b } s = good (s.modGeo (fun g => { g with staged := { g.staged with
      runs := putEntries g.staged.runs (u32 c.packet 16) (entriesOf 16 (u32 c.packet 20) b) (bit (u8 c.packet 24) 0) } })) :=
  if_neg (by simp [hparams, hfirst])

theorem effGeoExceptions_of_read (hfirst : u32 c.packet 16 ≤ s.geo.staged.excs.length) (b : List Byte) :
    effGeoExceptions { c with host := .ok b } s = good (s.modGeo (fun g => { g with staged := { g.staged with
      excs := putEntries g.staged.excs (u32 c.packet 16) (entriesOf 8 (u32 c.packet 20) b) (bit (u8 c.packet 24) 0) } })) :=
  if_neg (by simp [hparams, hfirst])
end

/-! The answers of GEO_COMMIT (R72, R73). -/

section
variable {s : State} {c : Cmd}

/-- The first check that fails gives the answer, and the state stays. -/
theorem effGeoCommit_of_failed {n st kind index : Nat} (hflags : u8 c.packet 8 ≤ 1)
    (hcheck : s.geoCheck s.geo.staged = some (n, st, kind, index)) :
    effGeoCommit c s = (s, .done st (geoResults 0 n kind index s.geo.staged.crc)) := by
  unfold effGeoCommit
  dsimp only
  rw [if_neg (Nat.not_lt.2 hflags), hcheck]

/-- A dry run answers and commits nothing. -/
theorem effGeoCommit_dryRun (hflags : u8 c.packet 8 = 1) (hcheck : s.geoCheck s.geo.staged = none) :
    effGeoCommit c s = answer s (geoResults 0 0 0 0 s.geo.staged.crc) := by
  unfold effGeoCommit
  dsimp only
  rw [hflags, hcheck]
  rfl

theorem effGeoCommit_commits (hflags : u8 c.packet 8 = 0) (hcheck : s.geoCheck s.geo.staged = none) :
    effGeoCommit c s =
      answer (s.commitGeo s.geo.staged.crc) (geoResults (genNumber (s.geo.lastSerial + 1)) 0 0 0 s.geo.staged.crc) := by
  unfold effGeoCommit
  dsimp only
  rw [hflags, hcheck]
  rfl
end

/-- While a page is in the queue a committed set stays pending (R74). -/
theorem State.commitGeo_of_live {s : State} (h : s.anyLive = true) (crc : Nat) :
    s.commitGeo crc = (s.modGeo (fun g => { g with
      gens := g.gens ++ [{ serial := g.lastSerial + 1, set := g.staged, crc := crc }]
      pending := g.lastSerial + 1, pendingTick := s.tick, lastSerial := g.lastSerial + 1 })).modMal
      (fun m => { m with cursors := s.geo.staged.readers.foldl addCursor m.cursors }) :=
  if_pos h

/-! What each part of an activation changes (R74, R132, R145, R216, R258). -/

theorem State.mapSteps_eq (s : State) (f : LTest → Step → Step) : ∃ k, s.mapSteps f = { s with stk := k } := by
  unfold State.mapSteps
  split
  · exact ⟨s.stk, rfl⟩
  · exact ⟨_, rfl⟩

theorem State.spoilGeneration_eq (s : State) : ∃ k, s.spoilGeneration = { s with stk := k } := State.mapSteps_eq ..

theorem State.headroomEvent_eq (s : State) (c : SubChange) (lc : Nat) (verdict : Bool) (d : Nat) :
    ∃ o g m w e, s.headroomEvent c lc verdict d = s.withEvents o g m w e := State.raise_eq ..

theorem State.foldl_headroomEvent_eq (c : SubChange) (lc : Nat) (verdict : Bool) (l : List Nat) : ∀ s : State,
    ∃ o g m w e, l.foldl (fun s d => s.headroomEvent c lc verdict d) s = s.withEvents o g m w e := by
  induction l with
  | nil => exact fun s => ⟨_, _, _, _, _, s.withEvents_self.symm⟩
  | cons d l ih =>
    intro s
    obtain ⟨o, g, m, w, e, hd⟩ := s.headroomEvent_eq c lc verdict d
    obtain ⟨o', g', m', w', e', hl⟩ := ih (s.withEvents o g m w e)
    exact ⟨_, _, _, _, _, by rw [List.foldl_cons, hd, hl, State.withEvents_withEvents]⟩

/-- A SUB change changes SUB alone, and reports (R216, R217). -/
theorem State.commitPassed_eq (s : State) (c : SubChange) (noz : List Nat) (verdict : Bool) :
    ∃ o h e u, s.commitPassed c noz verdict = { s with out := o, hif := h, evt := e, sub := u } := by
  obtain ⟨o, g, m, w, e, hfold⟩ := State.foldl_headroomEvent_eq c s.stamp verdict (dedup (c.spent.map dieOfNoz))
    (s.modSub (fun u => { u with
      cur := c.tables, plans := addPlan u.plans s.stamp (stampLine s.stamp + 80) c.tables
      lastStamp := s.stamp, effectLine := stampLine s.stamp + 80 }))
  unfold State.commitPassed State.commitSub
  dsimp only
  rw [hfold]
  exact ⟨_, _, _, _, rfl⟩

theorem State.subGeneration_eq (s : State) : ∃ o h e u, s.subGeneration = { s with out := o, hif := h, evt := e, sub := u } := by
  unfold State.subGeneration
  dsimp only
  split
  · exact ⟨s.out, s.hif, s.evt, s.sub, rfl⟩
  · exact State.commitPassed_eq ..

theorem State.freeGens_eq (s : State) : ∃ l m, s.freeGens = { s with geo := { s.geo with gens := l }, mal := m } := by
  unfold State.freeGens
  split
  · exact ⟨s.geo.gens, s.mal, rfl⟩
  · exact ⟨_, _, rfl⟩

theorem State.layoutRings_eq (s : State) (g : GeoSet) : ∃ m, s.layoutRings g = { s with mal := m } := by
  unfold State.layoutRings
  generalize List.range 64 = lanes
  induction lanes generalizing s with
  | nil => exact ⟨s.mal, rfl⟩
  | cons l lanes ih =>
    rw [List.foldl_cons]
    split
    · exact ih s
    · exact ih (s.setLaneRing l _)

/-- A generation that becomes active is no longer pending; the staged set stays (R71, R74). -/
theorem State.activate_eq (s : State) (serial : Nat) : ∃ o h e m u k l, s.activate serial =
    { s with out := o, hif := h, evt := e, mal := m, sub := u, stk := k, geo := { s.geo with active := serial, pending := 0, gens := l } } := by
  unfold State.activate
  extract_lets prev s₁ crc s₂
  obtain ⟨k, hk⟩ : ∃ k, s₁ = { s with stk := k, geo := { s.geo with active := serial, pending := 0 } } := by
    obtain ⟨k, hk⟩ := s.spoilGeneration_eq
    exact ⟨k, by simp only [s₁, hk]; rfl⟩
  obtain ⟨o, g, m, w, e, hraise⟩ : ∃ o g m w e, s₂ = s₁.withEvents o g m w e := State.raise_eq ..
  obtain ⟨o', h, e', u, hsub⟩ := s₂.subGeneration_eq
  obtain ⟨l, m', hfree⟩ := s₂.subGeneration.freeGens_eq
  rw [hfree, hsub, hraise, hk]
  exact ⟨_, _, _, _, _, _, _, rfl⟩

/-- The activated generation is also the one in force for lines (R77). -/
theorem State.activatePending_eq (s : State) : ∃ o h e m u k l, s.activatePending =
    { s with out := o, hif := h, evt := e, mal := m, sub := u, stk := k, fir := { s.fir with gen := s.geo.pending },
             geo := { s.geo with active := s.geo.pending, pending := 0, gens := l } } := by
  obtain ⟨o, h, e, m, u, k, l, hact⟩ := s.activate_eq s.geo.pending
  obtain ⟨m', hrings⟩ := (s.activate s.geo.pending).layoutRings_eq (s.setOf s.geo.pending)
  unfold State.activatePending
  dsimp only
  rw [hrings, hact]
  exact ⟨_, _, _, _, _, _, _, rfl⟩

theorem exec_generationActivate_of_idle {s : State} (hpend : s.geo.pending ≠ 0) (htick : s.geo.pendingTick < s.tick)
    (hidle : s.anyLive = false) : exec .generationActivate s = .next s.activatePending :=
  congrArg Host.Outcome.next (if_pos ⟨hpend, htick, hidle⟩)

end Sys2Proof.Machine

open Sys2Proof Sys2Proof.Machine

/-- Settles O15: each command passes its own tests and stages what its packet or its entries give. -/
theorem stagingChangesTheStagedSet : Obligations.StagingChangesTheStagedSet := by
  unfold Obligations.StagingChangesTheStagedSet
  refine ⟨?headclass, ?head, ?runs, ?exceptions⟩
  case headclass =>
    intro s r c h hcls hbits
    rw [exec_geoHeadclass_atOnce h, effGeoHeadclass_of_class (c := { c with host := .ok [] }) hcls, settle_good, parseClass_of_bits hbits]
  case head =>
    intro s r c h hlane hslot hcls hflags hweb hdir
    rw [exec_geoHead_atOnce h, effGeoHead_of_place (c := { c with host := .ok [] }) hlane hslot hcls hflags hweb hdir, settle_good,
      parseHead_of_class hcls]
  case runs =>
    intro s r c b h hparams hfirst hkeep
    have hbit : bit (u8 c.packet 24) 0 = false := by rw [hkeep]; rfl
    rw [exec_geoRuns_atOnce h, effGeoRuns_of_read (s := s.begun r c (.ok b)) hparams hfirst, settle_good, hbit]
    simp only [putEntries_keep, length_entriesOf]
  case exceptions =>
    intro s r c b h hparams hfirst htrunc
    have hbit : bit (u8 c.packet 24) 0 = true := by rw [htrunc]; rfl
    rw [exec_geoExceptions_atOnce h, effGeoExceptions_of_read (s := s.begun r c (.ok b)) hparams hfirst, settle_good, hbit]
    simp only [putEntries_truncate]

/-- Settles O16: the checks decide the answer of GEO_COMMIT, and an activation changes what its parts change. -/
theorem generationsAreCommittedAndActivated : Obligations.GenerationsAreCommittedAndActivated := by
  unfold Obligations.GenerationsAreCommittedAndActivated
  refine ⟨?commit, ?dryRun, ?failed, ?activate⟩
  case commit =>
    intro s r c h hflags hcheck hlive
    rw [exec_geoCommit_atOnce h, effGeoCommit_commits (c := { c with host := .ok [] }) (s := s.begun r c (.ok [])) hflags hcheck,
      settle_answer, State.commitGeo_of_live (s := s.begun r c (.ok [])) hlive]
    rfl
  case dryRun =>
    intro s r c h hflags hcheck
    rw [exec_geoCommit_atOnce h, effGeoCommit_dryRun (c := { c with host := .ok [] }) (s := s.begun r c (.ok [])) hflags hcheck, settle_answer]
    rfl
  case failed =>
    intro s r c n st kind index h hflags hcheck _
    rw [exec_geoCommit_atOnce h, effGeoCommit_of_failed (c := { c with host := .ok [] }) (s := s.begun r c (.ok [])) hflags hcheck, settle_done]
    rfl
  case activate =>
    intro s hpend htick hidle
    obtain ⟨o, h, e, m, u, k, l, hact⟩ := s.activatePending_eq
    exact ⟨_, (exec_generationActivate_of_idle hpend htick hidle).trans (congrArg Host.Outcome.next hact), rfl, rfl, rfl, rfl, rfl⟩

end

section
/-! Page contexts (R80 to R102): what a change of state changes, how pages are loaded and verified, and how they are queued, chained and
ended. -/
namespace Sys2Proof.Table
variable {α : Type}

theorem find_map {d : α} (f : α → α) (hd : f d = d) (i : Nat) :
    ∀ l : List (Nat × α), find d i (l.map (fun e => (e.1, f e.2))) = f (find d i l)
  | [] => hd.symm
  | (j, v) :: rest => by
    by_cases h : j = i
    · simp [find, h]
    · simp [find, h, find_map f hd i rest]

end Sys2Proof.Table

namespace Sys2Proof.Machine

/-! The page commands commit their effects. -/

section
variable {s : State} {r : Fin 4} {c : Cmd}

theorem exec_pageOpen_atOnce (h : s.atOnce r 0x0301 c = true) :
    exec (.pageOpen r) s = .next (settle c.id (effPageOpen { c with host := .ok [] } (s.begun r c (.ok [])))) := by
  rw [← startCommand_atOnce h]; rfl

theorem exec_pageAddTiles_atOnce (h : s.atOnce r 0x0302 c = true) (d : HostRead) :
    exec (.pageAddTiles r d) s = .next (settle c.id (effPageAddTiles { c with host := d } (s.begun r c d))) := by
  rw [← startCommand_atOnce h]; rfl

theorem exec_pageClose_atOnce (h : s.atOnce r 0x0303 c = true) :
    exec (.pageClose r) s = .next (settle c.id (effPageClose { c with host := .ok [] } (s.begun r c (.ok [])))) := by
  rw [← startCommand_atOnce h]; rfl

theorem exec_pageQueue_atOnce (h : s.atOnce r 0x0304 c = true) :
    exec (.pageQueue r) s = .next (settle c.id (effPageQueue { c with host := .ok [] } (s.begun r c (.ok [])))) := by
  rw [← startCommand_atOnce h]; rfl

theorem exec_pageAbort_atOnce (h : s.atOnce r 0x0305 c = true) :
    exec (.pageAbort r) s = .next (settle c.id (effPageAbort { c with host := .ok [] } (s.begun r c (.ok [])))) := by
  rw [← startCommand_atOnce h]; rfl

theorem exec_pageQuery_atOnce (h : s.atOnce r 0x0306 c = true) :
    exec (.pageQuery r) s = .next (settle c.id (effPageQuery { c with host := .ok [] } (s.begun r c (.ok [])))) := by
  rw [← startCommand_atOnce h]; rfl

theorem exec_pageChain_atOnce (h : s.atOnce r 0x0307 c = true) :
    exec (.pageChain r) s = .next (settle c.id (effPageChain { c with host := .ok [] } (s.begun r c (.ok [])))) := by
  rw [← startCommand_atOnce h]; rfl
end

/-! Changes of state (R81, R101). -/

@[simp] theorem State.ctx_modCtx_ne (s : State) {i k : Nat} (h : k ≠ i) (f : Ctx → Ctx) : (s.modCtx i f).ctx k = s.ctx k :=
  s.ctx_setCtx_ne h _

@[simp] theorem State.begun_ctx (s : State) (r : Nat) (c : Cmd) (d : HostRead) (q : Nat) : (s.begun r c d).ctx q = s.ctx q := rfl

@[simp] theorem State.setCtx_queue (s : State) (i : Nat) (v : Ctx) : (s.setCtx i v).pgq.queue = s.pgq.queue := rfl

@[simp] theorem State.modCtx_queue (s : State) (i : Nat) (f : Ctx → Ctx) : (s.modCtx i f).pgq.queue = s.pgq.queue := rfl

@[simp] theorem State.modDec_ctx (s : State) (f : Dec → Dec) (q : Nat) : (s.modDec f).ctx q = s.ctx q := rfl

/-- Change the order of the page queue (R94). -/
def State.requeue (s : State) (f : List Nat → List Nat) : State := s.modPgq (fun g => { g with queue := f g.queue })

@[simp] theorem State.requeue_ctx (s : State) (f : List Nat → List Nat) (q : Nat) : (s.requeue f).ctx q = s.ctx q := rfl

@[simp] theorem State.requeue_queue (s : State) (f : List Nat → List Nat) : (s.requeue f).pgq.queue = f s.pgq.queue := rfl

@[simp] theorem State.requeue_hif (s : State) (f : List Nat → List Nat) : (s.requeue f).hif = s.hif := rfl

@[simp] theorem State.complete_ctx (s : State) (id st : Nat) (res : List Byte) (q : Nat) : (s.complete id st res).ctx q = s.ctx q := rfl

@[simp] theorem State.complete_inflight (s : State) (id st : Nat) (res : List Byte) :
    (s.complete id st res).hif.inflight = s.hif.inflight.map (Cmd.completed id st res) := rfl

/-- The event of a change of state is written, or waits among the notes of its tick (R101). -/
theorem State.pageEvent_eq (s : State) (id : Nat) (old : PageState) : ∃ o g m w e n,
    s.pageEvent id old = (s.withEvents o g m w e).modPgq (fun q => { q with notes := n }) := by
  unfold State.pageEvent
  dsimp only
  split
  · exact ⟨_, _, _, _, _, _, by rw [s.withEvents_self]; rfl⟩
  · obtain ⟨o, g, m, w, e, hraise⟩ := State.raise_eq ..
    exact ⟨o, g, m, w, e, s.pgq.notes, hraise⟩

theorem State.pageEvent_frame (s : State) (id : Nat) (old : PageState) :
    ∃ o h e q, s.pageEvent id old = { s with out := o, hif := h, evt := e, pgq := q } := by
  obtain ⟨_, _, _, _, _, _, h⟩ := s.pageEvent_eq id old
  exact ⟨_, _, _, _, h⟩

@[simp] theorem State.pageEvent_ctx (s : State) (id : Nat) (old : PageState) (q : Nat) : (s.pageEvent id old).ctx q = s.ctx q := by
  obtain ⟨_, _, _, _, _, _, h⟩ := s.pageEvent_eq id old; rw [h]; rfl

@[simp] theorem State.pageEvent_queue (s : State) (id : Nat) (old : PageState) : (s.pageEvent id old).pgq.queue = s.pgq.queue := by
  obtain ⟨_, _, _, _, _, _, h⟩ := s.pageEvent_eq id old; rw [h]; rfl

@[simp] theorem State.pageEvent_inflight (s : State) (id : Nat) (old : PageState) :
    (s.pageEvent id old).hif.inflight = s.hif.inflight := by
  obtain ⟨_, _, _, _, _, _, h⟩ := s.pageEvent_eq id old; rw [h]; rfl

/-- A page that goes on towards the press keeps the ladder steps of the gaps it bounds. -/
theorem State.changePage_of_held {st : PageState} (h : st.held = true) (s : State) (id cause : Nat) :
    s.changePage id st cause = (s.modCtx id (fun c => { c with state := st, cause := cause })).pageEvent id (s.ctx id).state := by
  have haborted : st ≠ .aborted := by rintro rfl; cases h
  have hdone : st ≠ .done := by rintro rfl; cases h
  simp [State.changePage, haborted, hdone]

/-- Whatever state a page enters, its context and the ladder steps of its gaps are changed before the event (R258). -/
theorem State.changePage_eq (s : State) (id : Nat) (st : PageState) (cause : Nat) : ∃ k, s.changePage id st cause =
    (({ s with stk := k }).modCtx id (fun c => { c with state := st, cause := cause })).pageEvent id (s.ctx id).state := by
  unfold State.changePage
  extract_lets old s₁ s₂
  obtain ⟨k₁, h₁⟩ : ∃ k, s₁ = { s with stk := k } := by
    simp only [s₁]; split
    · exact State.mapSteps_eq ..
    · exact ⟨_, rfl⟩
  obtain ⟨k₂, h₂⟩ : ∃ k, s₂ = { s₁ with stk := k } := by
    simp only [s₂]; split
    · exact State.mapSteps_eq ..
    · exact ⟨_, rfl⟩
  exact ⟨k₂, by rw [h₂, h₁]⟩

section
variable (s : State) (id : Nat) (st : PageState) (cause : Nat)

@[simp] theorem State.changePage_ctx : (s.changePage id st cause).ctx id = { s.ctx id with state := st, cause := cause } := by
  obtain ⟨k, h⟩ := s.changePage_eq id st cause
  rw [h, State.pageEvent_ctx, State.ctx_modCtx]; rfl

@[simp] theorem State.changePage_ctx_ne {q : Nat} (hq : q ≠ id) : (s.changePage id st cause).ctx q = s.ctx q := by
  obtain ⟨k, h⟩ := s.changePage_eq id st cause
  rw [h, State.pageEvent_ctx, State.ctx_modCtx_ne _ hq]; rfl

@[simp] theorem State.changePage_queue : (s.changePage id st cause).pgq.queue = s.pgq.queue := by
  obtain ⟨k, h⟩ := s.changePage_eq id st cause
  rw [h, State.pageEvent_queue]; rfl

@[simp] theorem State.changePage_inflight : (s.changePage id st cause).hif.inflight = s.hif.inflight := by
  obtain ⟨k, h⟩ := s.changePage_eq id st cause
  rw [h, State.pageEvent_inflight]; rfl

theorem State.changePage_frame : ∃ o h e q k, s.changePage id st cause = { s with out := o, hif := h, evt := e, pgq := q, stk := k } := by
  obtain ⟨k, hk⟩ := s.changePage_eq id st cause
  obtain ⟨o, h, e, q, hev⟩ := State.pageEvent_frame _ id (s.ctx id).state
  exact ⟨o, h, e, q, k, hk.trans hev⟩

variable {st} in
theorem State.changePage_frame_of_held (hst : st.held = true) :
    ∃ o h e q, s.changePage id st cause = { s with out := o, hif := h, evt := e, pgq := q } := by
  rw [State.changePage_of_held hst]
  exact State.pageEvent_frame ..
end

@[simp] theorem State.completeOpt_ctx (s : State) (id : Option Nat) (st : Nat) (res : List Byte) (q : Nat) :
    (s.completeOpt id st res).ctx q = s.ctx q := by
  simp [State.ctx]

theorem State.completeOpt_inflight (s : State) (id : Option Nat) (st : Nat) (res : List Byte) : (s.completeOpt id st res).hif.inflight =
    id.elim s.hif.inflight (fun k => s.hif.inflight.map (Cmd.completed k st res)) := by
  cases id <;> rfl

/-! Opening and loading (R82 to R86). -/

/-- A context that was placed behind a page is so no more. -/
def Ctx.notBehind (id : Nat) (c : Ctx) : Ctx := if c.behind = id then { c with behind := 0 } else c

/-- No context is behind a page that is opened afresh. -/
def State.forgetPage (s : State) (id : Nat) : State :=
  s.modPgq (fun g => { g with ctxs := ⟨g.ctxs.entries.map (fun e => (e.1, e.2.notBehind id))⟩ })

@[simp] theorem State.forgetPage_ctx (s : State) (id q : Nat) : (s.forgetPage id).ctx q = (s.ctx q).notBehind id :=
  Table.find_map (d := ({} : Ctx)) (Ctx.notBehind id) (by unfold Ctx.notBehind; split <;> rfl) q s.pgq.ctxs.entries

/-- The context of a page just opened (R82). -/
def openedCtx (p : List Byte) : Ctx :=
  { state := .loading, lines := u32 p 8, period := u32 p 12, strict := bit (u8 p 16) 0, slowOk := bit (u8 p 16) 1 }

/-- The state with a page opened (R82, R83, R155). -/
def State.openPage (s : State) (p : List Byte) : State :=
  (((s.forgetPage (pktPage p)).setCtx (pktPage p) (openedCtx p)).pageEvent (pktPage p) (s.ctx (pktPage p)).state).modFir
    (fun f => { f with noSlipMap := f.noSlipMap.set false (pktPage p) false })

theorem effPageOpen_opens {s : State} {c : Cmd} (hlines : u32 c.packet 8 ≠ 0) (hmax : u32 c.packet 8 ≤ 4261412864)
    (hflags : u8 c.packet 16 ≤ 3) (hheld : (s.ctx (pktPage c.packet)).state.held = false)
    (href : s.referenced (pktPage c.packet) = false) : effPageOpen c s = good (s.openPage c.packet) := by
  unfold effPageOpen
  dsimp only
  rw [if_neg (by omega), if_neg (by simp [hheld]), if_neg (by simp [href])]
  rfl

theorem State.openPage_frame (s : State) (p : List Byte) :
    ∃ o h e q f, s.openPage p = { s with out := o, hif := h, evt := e, pgq := q, fir := f } := by
  obtain ⟨o, h, e, q, hev⟩ := State.pageEvent_frame _ (pktPage p) (s.ctx (pktPage p)).state
  exact ⟨o, h, e, q, _, by rw [State.openPage, hev]; rfl⟩

@[simp] theorem State.openPage_ctx (s : State) (p : List Byte) : (s.openPage p).ctx (pktPage p) = openedCtx p :=
  (State.pageEvent_ctx ..).trans (State.ctx_setCtx ..)

@[simp] theorem State.openPage_ctx_ne (s : State) {p : List Byte} {q : Nat} (hq : q ≠ pktPage p) :
    (s.openPage p).ctx q = (s.ctx q).notBehind (pktPage p) :=
  (State.pageEvent_ctx ..).trans ((State.ctx_setCtx_ne _ hq _).trans (s.forgetPage_ctx _ _))

@[simp] theorem State.openPage_queue (s : State) (p : List Byte) : (s.openPage p).pgq.queue = s.pgq.queue := State.pageEvent_queue ..

@[simp] theorem State.openPage_noSlipMap (s : State) (p : List Byte) : (s.openPage p).fir.noSlipMap.get false (pktPage p) = false :=
  Table.get_set_self ..

/-- What host memory holds is parsed in the state that the command started in. -/
theorem State.begun_parseTiles (s : State) (r : Nat) (c : Cmd) (d : HostRead) (id plane strip tag : Nat) :
    ∀ (row : Nat) (l : List (List Byte)), (s.begun r c d).parseTiles id plane strip tag row l = s.parseTiles id plane strip tag row l
  | _, [] => rfl
  | row, e :: l => by
    have href (k : TileKind) : (s.begun r c d).refOk id k = s.refOk id k := rfl
    simp only [State.parseTiles, href, s.begun_parseTiles r c d id plane strip tag (row + 1) l]

/-- Tiles that fit, the first of their page, are appended (R84 to R86). -/
theorem effPageAddTiles_appends {s : State} {c : Cmd} {b : List Byte} {ts : List Tile} (haddr : u64 c.packet 8 % 16 = 0)
    (hplane : u8 c.packet 16 ≤ 63) (hstrip : u16 c.packet 17 ≤ 511) (hn : u32 c.packet 24 ≠ 0) (hmax : u32 c.packet 24 ≤ 65536)
    (hstate : (s.ctx (pktPage c.packet)).state = .loading)
    (hrows : u32 c.packet 20 + u32 c.packet 24 ≤ (s.ctx (pktPage c.packet)).rowCount) (hempty : (s.ctx (pktPage c.packet)).tiles = [])
    (hparse : s.parseTiles (pktPage c.packet) (u8 c.packet 16) (u16 c.packet 17) (pktTag c.packet) (u32 c.packet 20)
      (entriesOf 16 (u32 c.packet 24) b) = some ts)
    (hfit : s.pageDram + s.stkDram + sumNat (ts.map Tile.len) ≤ s.sys.memGib * 2 ^ 30) :
    effPageAddTiles { c with host := .ok b } s = good (s.modCtx (pktPage c.packet) (fun x => { x with tiles := x.tiles ++ ts })) := by
  unfold effPageAddTiles
  dsimp only
  rw [if_neg (by omega), if_neg (by simp [hstate]), if_neg (by simp [hrows, hempty]), withHost_ok, hparse]
  exact if_neg (Nat.not_lt.2 hfit)

/-- The next tile to pull is kept as it arrives (R86). -/
theorem exec_tileArrival_in_turn {s : State} {ctx : Fin 256} {i : Nat} {t : Tile} {b : List Byte} (htile : (s.ctx ctx).tiles[i]? = some t)
    (hstate : (s.ctx ctx).state = .loading) (hhost : t.isHost = true) (hbytes : t.bytes = none) (hfail : t.readFail = none)
    (hturn : (s.ctx ctx).pulledTo i = true) :
    exec (.tileArrival ctx i (.ok b)) s =
      .next (s.modCtx ctx (fun x => { x with tiles := modAt (fun t => { t with bytes := some (pad t.len b) }) i x.tiles })) := by
  change execTileArrival ctx i (.ok b) s = _
  unfold execTileArrival
  dsimp only
  rw [htile]
  exact if_neg (by simp [hstate, hhost, hbytes, hfail, hturn])

/-- A tile out of its turn is left for later (R86). -/
theorem exec_tileArrival_out_of_turn {s : State} {ctx : Fin 256} {i : Nat} (hturn : (s.ctx ctx).pulledTo i = false) (d : HostRead) :
    exec (.tileArrival ctx i d) s = .next s := by
  change execTileArrival ctx i d s = _
  unfold execTileArrival
  dsimp only
  split
  · rfl
  · rw [if_pos (by simp [hturn])]

/-! Verification (R88, R89, R93, R117). -/

theorem effPageClose_stages {s : State} {c : Cmd} (hstate : (s.ctx (pktPage c.packet)).state = .loading) :
    effPageClose c s = ((s.modCtx (pktPage c.packet) (fun x => { x with gen := s.geo.lastSerial, closeCmd := some c.id })).changePage
      (pktPage c.packet) .staged 0, .running) :=
  if_neg (by simp [hstate])

/-- A tile with what the decoder found in its bytes `b` (R117, R119). -/
def Tile.withResult (b : List Byte) (r : TileResult) (t : Tile) : Tile :=
  { t with decoded := true, reason := r.reason, offset := r.offset, lcyc := r.lcyc, image := r.image (tileBits b), depth := tileBits b }

/-- The state with tile `i` of a page decoded on a blank history, as the top tile of a strip is (R112). -/
def State.decodeTop (s : State) (ctx i : Nat) (b : List Byte) : State :=
  (s.setCtx ctx { s.ctx ctx with
    tiles := modAt (Tile.withResult b (decodeTile b (repackImage 1 (tileBits b) []))) i (s.ctx ctx).tiles }).modDec
    (fun d => { d with verified := satAdd 32 d.verified 1 })

@[simp] theorem State.decodeTop_ctx (s : State) (ctx i : Nat) (b : List Byte) : (s.decodeTop ctx i b).ctx ctx = { s.ctx ctx with
    tiles := modAt (Tile.withResult b (decodeTile b (repackImage 1 (tileBits b) []))) i (s.ctx ctx).tiles } :=
  (State.modDec_ctx ..).trans (s.ctx_setCtx ctx _)

@[simp] theorem State.decodeTop_ctx_ne (s : State) {ctx q : Nat} (hq : q ≠ ctx) (i : Nat) (b : List Byte) :
    (s.decodeTop ctx i b).ctx q = s.ctx q :=
  (State.modDec_ctx ..).trans (s.ctx_setCtx_ne hq _)

theorem exec_verifyTileDecode_top {s : State} {ctx : Fin 256} {i : Nat} {t : Tile} {b : List Byte} (htile : (s.ctx ctx).tiles[i]? = some t)
    (hstate : (s.ctx ctx).state = .staged) (hbytes : t.bytes = some b) (hnew : t.decoded = false) (hcont : tileCont b = false)
    (hrow : t.row = 0) (horder : (s.ctx ctx).stripOrder t = true) :
    exec (.verifyTileDecode ctx i) s = .next (s.decodeTop ctx i b) := by
  change execVerifyTileDecode ctx i s = _
  unfold execVerifyTileDecode
  dsimp only
  rw [htile]
  dsimp only
  rw [hbytes]
  dsimp only
  rw [if_neg (by simp [hstate, hnew, hcont, horder]), if_pos hrow]
  rfl

/-- A page without a predecessor does not advance as part of a chain. -/
theorem State.advanceChain_of_first {s : State} {id : Nat} (h : (s.ctx id).pred = 0) : ∀ fuel, s.advanceChain fuel id = s
  | 0 => rfl
  | _ + 1 => if_neg (by simp [h])

/-- A page that is a job of its own becomes VERIFIED, and its PAGE_CLOSE completes (R88, R93). -/
theorem State.becomeVerified_single {s : State} {id : Nat} (hpred : (s.ctx id).pred = 0) (hsucc : (s.ctx id).succ = 0) (fuel : Nat) :
    s.becomeVerified (fuel + 1) id =
      ((s.setCtx id { s.ctx id with closeCmd := none, waitsPred := false }).changePage id .verified 0).completeOpt
        (s.ctx id).closeCmd Status.ok (s.ctx id).closeResults := by
  unfold State.becomeVerified
  dsimp only
  rw [if_pos hsucc]
  exact State.advanceChain_of_first (by simp [hpred]) _

/-- The budget's judgement leaves a page in its chain (R90, R91). -/
theorem State.judgeBudget_links (s : State) (id : Nat) (g : GeoSet) :
    (s.judgeBudget id g).1.pred = (s.ctx id).pred ∧ (s.judgeBudget id g).1.succ = (s.ctx id).succ := ⟨rfl, rfl⟩

theorem State.judgeBudget_closeCmd (s : State) (id : Nat) (g : GeoSet) : (s.judgeBudget id g).1.closeCmd = (s.ctx id).closeCmd := rfl

/-- The state in which a page that is a job of its own has passed every check with cost record `x`. -/
def State.passPage (s : State) (id : Nat) (x : Ctx) : State :=
  (((s.modDec (fun d => { d with invalid := satAdd 32 d.invalid (s.invalidCount id (s.setOf (s.ctx id).gen)) })).setCtx id
    { x with closeCmd := none, waitsPred := false }).changePage id .verified 0).completeOpt x.closeCmd Status.ok x.closeResults

theorem exec_verificationEnd_passes {s : State} {ctx : Fin 256} {x : Ctx} (hstate : (s.ctx ctx).state = .staged)
    (hwait : (s.ctx ctx).waitsPred = false) (hsettled : (s.ctx ctx).tiles.all Tile.settled = true) (hpred : (s.ctx ctx).pred = 0)
    (hsucc : (s.ctx ctx).succ = 0) (hgen : s.genStale (s.ctx ctx).gen = false) (htiles : s.tileCheck ctx (s.setOf (s.ctx ctx).gen) = none)
    (hbudget : s.judgeBudget ctx (s.setOf (s.ctx ctx).gen) = (x, true)) :
    exec (.verificationEnd ctx) s = .next (s.passPage ctx x) := by
  obtain ⟨hxpred, hxsucc⟩ := s.judgeBudget_links ctx (s.setOf (s.ctx ctx).gen)
  rw [hbudget] at hxpred hxsucc
  change execVerificationEnd ctx s = _
  unfold execVerificationEnd
  extract_lets id c g s₁ a s₂ q
  have hgen₁ : s₁.genStale c.gen = false := hgen
  have htiles₁ : s₁.tileCheck id g = none := htiles
  have ha : a = (x, true) := hbudget
  rw [if_neg (by simp [c, id, hstate, hwait, hsettled]), hgen₁, if_neg Bool.false_ne_true, htiles₁]
  have hx₂ : s₂.ctx id = x := by simp [s₂, ha]
  dsimp only
  rw [if_neg (by simp [ha]), if_pos (show c.pred = 0 from hpred), State.becomeVerified_single (by rw [hx₂]; exact hxpred.trans hpred)
    (by rw [hx₂]; exact hxsucc.trans hsucc), hx₂]
  simp only [s₂, ha, State.setCtx_setCtx]
  rfl

section
variable (s : State) (id : Nat) (x : Ctx)

@[simp] theorem State.passPage_ctx :
    (s.passPage id x).ctx id = { x with state := .verified, cause := 0, closeCmd := none, waitsPred := false } := by
  simp [State.passPage]

variable {id} in
@[simp] theorem State.passPage_ctx_ne {q : Nat} (hq : q ≠ id) : (s.passPage id x).ctx q = s.ctx q := by
  rw [State.passPage, State.completeOpt_ctx, State.changePage_ctx_ne _ _ _ _ hq, State.ctx_setCtx_ne _ hq]
  rfl

@[simp] theorem State.passPage_inflight : (s.passPage id x).hif.inflight =
    (x.closeCmd.elim s.hif.inflight (fun k => s.hif.inflight.map (Cmd.completed k Status.ok x.closeResults))) := by
  rw [State.passPage, State.completeOpt_inflight, State.changePage_inflight]
  rfl

theorem State.passPage_frame : ∃ o h e q d, s.passPage id x = { s with out := o, hif := h, evt := e, pgq := q, dec := d } := by
  obtain ⟨_, _, _, _, hchange⟩ := State.changePage_frame_of_held _ id 0 (st := .verified) rfl
  rw [State.passPage, hchange]
  obtain ⟨_, _, hdone⟩ := State.completeOpt_eq _ x.closeCmd Status.ok x.closeResults
  exact ⟨_, _, _, _, _, hdone⟩
end

/-! Queueing, chaining and ending (R94, R96, R98). -/

/-- The rings of the lanes take the depths of a page's generation where they differ (R145). -/
def State.ringsFor (s : State) (g : GeoSet) : State := if depthChanges s.activeSet g then s.layoutRings g else s

theorem State.ringsFor_eq (s : State) (g : GeoSet) : ∃ m, s.ringsFor g = { s with mal := m } := by
  unfold State.ringsFor
  split
  · exact s.layoutRings_eq g
  · exact ⟨s.mal, rfl⟩

@[simp] theorem State.ringsFor_pgq (s : State) (g : GeoSet) : (s.ringsFor g).pgq = s.pgq := by
  obtain ⟨m, h⟩ := s.ringsFor_eq g; rw [h]

@[simp] theorem State.ringsFor_hif (s : State) (g : GeoSet) : (s.ringsFor g).hif = s.hif := by
  obtain ⟨m, h⟩ := s.ringsFor_eq g; rw [h]

@[simp] theorem State.ringsFor_ctx (s : State) (g : GeoSet) (q : Nat) : (s.ringsFor g).ctx q = s.ctx q := by
  obtain ⟨m, h⟩ := s.ringsFor_eq g; rw [h]; rfl

/-- The state with a page QUEUED at a line of the host's choice, at the end of the queue (R94). -/
def State.placePage (s : State) (id start : Nat) : State :=
  (((s.ringsFor (s.setOf (s.ctx id).gen)).modCtx id (fun c =>
    { c with start := some start, startKind := .placed, behind := 0, gap := 0 })).requeue (· ++ [id])).changePage id .queued 0

section
variable (s : State) (id start : Nat)

@[simp] theorem State.placePage_ctx : (s.placePage id start).ctx id =
    { s.ctx id with state := .queued, cause := 0, start := some start, startKind := .placed, behind := 0, gap := 0 } := by
  simp [State.placePage]

variable {id} in
@[simp] theorem State.placePage_ctx_ne {q : Nat} (hq : q ≠ id) : (s.placePage id start).ctx q = s.ctx q := by
  simp [State.placePage, hq]

@[simp] theorem State.placePage_queue : (s.placePage id start).pgq.queue = s.pgq.queue ++ [id] := by
  simp [State.placePage]

@[simp] theorem State.placePage_inflight : (s.placePage id start).hif.inflight = s.hif.inflight := by
  simp [State.placePage]

theorem State.placePage_frame :
    ∃ o h e q m, s.placePage id start = { s with out := o, hif := h, evt := e, pgq := q, mal := m } := by
  obtain ⟨m, hrings⟩ := s.ringsFor_eq (s.setOf (s.ctx id).gen)
  unfold State.placePage
  rw [hrings]
  obtain ⟨_, _, _, _, hchange⟩ := State.changePage_frame_of_held _ id 0 (st := .queued) rfl
  exact ⟨_, _, _, _, _, hchange⟩
end

section
variable {s : State} {c : Cmd}

/-- PAGE_QUEUE with AT, on an idle press (R94). -/
theorem effPageQueue_at (hat : u8 c.packet 8 = 1) (hgap : u32 c.packet 12 = 0) (halign : u48 c.packet 16 % 16 = 0)
    (hline : s.pressLine + 64 ≤ u48 c.packet 16) (hstate : (s.ctx (pktPage c.packet)).state = .verified)
    (hpred : (s.ctx (pktPage c.packet)).pred = 0) (hsucc : (s.ctx (pktPage c.packet)).succ = 0)
    (hgen : s.geo.active ≤ (s.ctx (pktPage c.packet)).gen) (hstale : s.genStale (s.ctx (pktPage c.packet)).gen = false)
    (hidle : s.anyLive = false) (htwin : s.partnerLacks (pktPage c.packet) = false) :
    effPageQueue c s = good (s.placePage (pktPage c.packet) (u48 c.packet 16)) := by
  have hlast : ((s.placePage (pktPage c.packet) (u48 c.packet 16)).ctx (pktPage c.packet)).succ = 0 := by
    rw [State.placePage_ctx]; exact hsucc
  unfold effPageQueue
  dsimp only
  rw [if_neg (by simp [hat, hgap, halign]), if_neg (by simp [hstate, hpred]), if_neg (by simp [hgen, hstale]), if_pos (by simp [hat]),
    if_neg (by simp [hidle, hline]), if_neg (by simp [htwin])]
  exact congrArg good (if_pos hlast)

/-- The state with two segments linked (R96). -/
def State.linkPages (s : State) (pre id : Nat) : State :=
  (s.modCtx pre (fun x => { x with succ := id })).modCtx id (fun x => { x with pred := pre, predDone := false })

@[simp] theorem State.linkPages_ctx_later (s : State) {pre id : Nat} (h : pre ≠ id) :
    (s.linkPages pre id).ctx id = { s.ctx id with pred := pre, predDone := false } := by
  simp [State.linkPages, h.symm]

@[simp] theorem State.linkPages_ctx_earlier (s : State) {pre id : Nat} (h : pre ≠ id) :
    (s.linkPages pre id).ctx pre = { s.ctx pre with succ := id } := by
  simp [State.linkPages, h]

@[simp] theorem State.linkPages_ctx_other (s : State) {pre id q : Nat} (hid : q ≠ id) (hpre : q ≠ pre) :
    (s.linkPages pre id).ctx q = s.ctx q := by
  simp [State.linkPages, hid, hpre]

@[simp] theorem State.linkPages_queue (s : State) (pre id : Nat) : (s.linkPages pre id).pgq.queue = s.pgq.queue := rfl

@[simp] theorem State.linkPages_hif (s : State) (pre id : Nat) : (s.linkPages pre id).hif = s.hif := rfl

theorem State.linkPages_frame (s : State) (pre id : Nat) : ∃ l, s.linkPages pre id = { s with pgq := { s.pgq with ctxs := l } } := ⟨_, rfl⟩

theorem State.lastSegment_of_last {id : Nat} (h : (s.ctx id).succ = 0) : ∀ fuel, s.lastSegment fuel id = id
  | 0 => rfl
  | _ + 1 => if_pos h

/-- A page that is not VERIFIED is not queued with its chain. -/
theorem State.advanceChain_of_not_verified {id : Nat} (h : (s.ctx id).state ≠ .verified) : ∀ fuel, s.advanceChain fuel id = s
  | 0 => rfl
  | _ + 1 => if_neg (by simp [h])

/-- No held break begins behind a page that has neither ended nor begun to print (R97). -/
theorem State.beginBreak_of_waiting_pred {id : Nat} (hdone : (s.ctx id).predDone = false)
    (hlive : (s.ctx (s.ctx id).pred).live = false) (bound : Nat) : s.beginBreak id bound = s := by
  unfold State.beginBreak
  dsimp only
  split
  · exact if_neg (by simp [hdone, hlive])
  · rfl

/-- PAGE_CHAIN of two pages that are both loading (R96). -/
theorem effPageChain_of_loading (hpre : u8 c.packet 8 ≠ 0) (hne : u8 c.packet 8 ≠ pktPage c.packet)
    (hastate : (s.ctx (u8 c.packet 8)).state = .loading) (hasucc : (s.ctx (u8 c.packet 8)).succ = 0)
    (hbehind : s.pgq.ctxs.entries.all (fun e => !(e.2.live && e.2.behind == u8 c.packet 8)))
    (hstate : (s.ctx (pktPage c.packet)).state = .loading) (hpred : (s.ctx (pktPage c.packet)).pred = 0)
    (hsucc : (s.ctx (pktPage c.packet)).succ = 0) (htwin : s.partnerLacks (pktPage c.packet) = false) :
    effPageChain c s = good (s.linkPages (u8 c.packet 8) (pktPage c.packet)) := by
  have hlast : s.lastSegment 256 (pktPage c.packet) ≠ u8 c.packet 8 := by rw [State.lastSegment_of_last hsucc]; exact hne.symm
  have hnone : s.pgq.ctxs.entries.any (fun e => e.2.live && e.2.behind == u8 c.packet 8) = false := by
    rw [List.any_eq_not_all_not, hbehind]; rfl
  have hlinked := s.linkPages_ctx_later hne
  unfold effPageChain
  dsimp only
  rw [if_neg hpre, if_neg (by simp [hlast, hastate, PageState.held, hasucc, hnone, hstate, hpred]), if_neg (by simp [hstate]),
    if_neg (by simp [htwin])]
  change good (((s.linkPages (u8 c.packet 8) (pktPage c.packet)).advanceChain 256 (pktPage c.packet)).beginBreak (pktPage c.packet) _) = _
  rw [State.advanceChain_of_not_verified (by rw [hlinked]; simp [hstate]), State.beginBreak_of_waiting_pred (by rw [hlinked])
    (by rw [hlinked]; simp [hne, Ctx.live, hastate])]

/-- A page at the front of its job leaves the queue, and no predecessor (R98). -/
theorem State.unlinkPage_of_first {id : Nat} (h : (s.ctx id).pred = 0) :
    s.unlinkPage id = s.requeue (List.filter (· ≠ id)) := if_neg (by simp [h])

/-- The state with a page that is a job of its own ABORTED, out of the queue, and what only it held freed (R81, R98). -/
def State.dropPage (s : State) (id cause : Nat) : State :=
  (((s.setCtx id { s.ctx id with closeCmd := none, waitsPred := false, inBreak := false, gapAt := none }).requeue
    (List.filter (· ≠ id))).changePage id .aborted cause).freeGens.modCtx id (fun c => { c with succ := 0 })

theorem State.endJob_single {id : Nat} (hstate : (s.ctx id).state = .verified) (hpred : (s.ctx id).pred = 0)
    (hsucc : (s.ctx id).succ = 0) (hclose : (s.ctx id).closeCmd = none) (fuel cause : Nat) :
    s.endJob (fuel + 1) id cause = s.dropPage id cause := by
  unfold State.endJob
  dsimp only
  rw [if_pos hsucc]
  unfold State.endSegment State.dropPage
  dsimp only
  rw [hstate]
  dsimp only
  rw [State.unlinkPage_of_first (by simp [hpred]), hclose]
  rfl

theorem effPageAbort_of_verified (hstate : (s.ctx (pktPage c.packet)).state = .verified) (hpred : (s.ctx (pktPage c.packet)).pred = 0)
    (hsucc : (s.ctx (pktPage c.packet)).succ = 0) (hclose : (s.ctx (pktPage c.packet)).closeCmd = none) :
    effPageAbort c s = good (s.dropPage (pktPage c.packet) 4) := by
  unfold effPageAbort
  dsimp only
  rw [hstate]
  dsimp only
  rw [State.endJob_single hstate hpred hsucc hclose]
end

@[simp] theorem State.freeGens_pgq (s : State) : s.freeGens.pgq = s.pgq := by
  obtain ⟨_, _, h⟩ := s.freeGens_eq; rw [h]

@[simp] theorem State.freeGens_hif (s : State) : s.freeGens.hif = s.hif := by
  obtain ⟨_, _, h⟩ := s.freeGens_eq; rw [h]

@[simp] theorem State.freeGens_ctx (s : State) (q : Nat) : s.freeGens.ctx q = s.ctx q := by
  obtain ⟨_, _, h⟩ := s.freeGens_eq; rw [h]; rfl

section
variable (s : State) (id cause : Nat)

@[simp] theorem State.dropPage_ctx : (s.dropPage id cause).ctx id = { s.ctx id with
    state := .aborted, cause := cause, succ := 0, closeCmd := none, waitsPred := false, inBreak := false, gapAt := none } := by
  simp [State.dropPage]

variable {id} in
@[simp] theorem State.dropPage_ctx_ne {q : Nat} (hq : q ≠ id) : (s.dropPage id cause).ctx q = s.ctx q := by
  simp [State.dropPage, hq]

@[simp] theorem State.dropPage_queue : (s.dropPage id cause).pgq.queue = s.pgq.queue.filter (· ≠ id) := by
  simp [State.dropPage]

@[simp] theorem State.dropPage_inflight : (s.dropPage id cause).hif.inflight = s.hif.inflight := by
  simp [State.dropPage]

theorem State.dropPage_frame : ∃ o h e g q m k,
    s.dropPage id cause = { s with out := o, hif := h, evt := e, geo := g, pgq := q, mal := m, stk := k } := by
  unfold State.dropPage
  obtain ⟨_, _, _, _, _, hchange⟩ := State.changePage_frame _ id .aborted cause
  obtain ⟨_, _, hfree⟩ := State.freeGens_eq _
  rw [hfree, hchange]
  exact ⟨_, _, _, _, _, _, _, rfl⟩
end

end Sys2Proof.Machine

open Sys2Proof Sys2Proof.Machine

/-- Settles O17: each command passes its own tests, and each arrival, decoding or verification takes the branch that its hypotheses
select. -/
theorem pagesAreOpenedLoadedAndVerified : Obligations.PagesAreOpenedLoadedAndVerified := by
  unfold Obligations.PagesAreOpenedLoadedAndVerified
  refine ⟨?openPage, ?addTiles, fun s ctx i t b => exec_tileArrival_in_turn, fun s ctx i d hturn => exec_tileArrival_out_of_turn hturn d,
    ?closePage, ?decode, ?verify⟩
  case openPage =>
    intro s r c h hlines hmax hflags hheld href
    refine ⟨_, exec_pageOpen_atOnce h, ?_⟩
    rw [effPageOpen_opens (s := s.begun r c (.ok [])) (c := { c with host := .ok [] }) hlines hmax hflags hheld href, settle_good]
    obtain ⟨o, i, e, q, f, hframe⟩ := (s.begun r c (.ok [])).openPage_frame c.packet
    exact ⟨by rw [hframe]; rfl, State.openPage_ctx .., State.openPage_noSlipMap .., State.openPage_queue ..,
      fun q hq => State.openPage_ctx_ne _ hq⟩
  case addTiles =>
    intro s r c b ts h haddr hplane hstrip hn hmax hstate hrows hempty hparse hfit
    rw [exec_pageAddTiles_atOnce h, effPageAddTiles_appends (s := s.begun r c (.ok b)) haddr hplane hstrip hn hmax hstate hrows hempty
      (by rw [State.begun_parseTiles]; exact hparse) hfit, settle_good]
  case closePage =>
    intro s r c h hstate
    rw [exec_pageClose_atOnce h, effPageClose_stages (s := s.begun r c (.ok [])) (c := { c with host := .ok [] }) hstate, settle_running]
    rfl
  case decode =>
    intro s ctx i t b htile hstate hbytes hnew hcont hrow horder
    refine ⟨_, exec_verifyTileDecode_top htile hstate hbytes hnew hcont hrow horder, rfl, ?_, rfl, ?_,
      fun q hq => s.decodeTop_ctx_ne (Fin.val_ne_of_ne hq) i b⟩
    · rw [State.decodeTop_ctx]; rfl
    · rw [State.decodeTop_ctx]; exact hstate
  case verify =>
    intro s ctx x hstate hwait hsettled hpred hsucc hgen htiles hbudget
    have hclose : x.closeCmd = (s.ctx ctx).closeCmd := by
      rw [← s.judgeBudget_closeCmd ctx (s.setOf (s.ctx ctx).gen), hbudget]
    obtain ⟨_, _, _, _, _, hframe⟩ := s.passPage_frame ctx x
    refine ⟨_, exec_verificationEnd_passes hstate hwait hsettled hpred hsucc hgen htiles hbudget, by rw [hframe], ?_⟩
    rw [State.passPage_ctx, State.passPage_inflight, hclose]
    refine ⟨rfl, rfl, rfl, rfl, rfl, rfl, rfl, ?_, fun q hq => s.passPage_ctx_ne x (Fin.val_ne_of_ne hq)⟩
    cases (s.ctx ctx).closeCmd <;> rfl

/-- Settles O18: each command passes its own tests, for the pages its hypotheses describe. -/
theorem pagesAreQueuedChainedAndEnded : Obligations.PagesAreQueuedChainedAndEnded := by
  unfold Obligations.PagesAreQueuedChainedAndEnded
  refine ⟨?queuePage, ?chain, ?abort, ?query⟩
  case queuePage =>
    intro s r c h hat hgap halign hline hstate hpred hsucc hgen hstale hidle htwin
    refine ⟨_, exec_pageQueue_atOnce h, ?_⟩
    rw [effPageQueue_at (s := s.begun r c (.ok [])) (c := { c with host := .ok [] }) hat hgap halign hline hstate hpred hsucc hgen hstale hidle
      htwin, settle_good]
    obtain ⟨_, _, _, _, _, hframe⟩ := (s.begun r c (.ok [])).placePage_frame (pktPage c.packet) (u48 c.packet 16)
    refine ⟨by rw [hframe]; rfl, ?_⟩
    rw [State.complete_ctx, State.placePage_ctx, State.complete_pgq, State.placePage_queue, State.complete_inflight, State.placePage_inflight]
    exact ⟨rfl, rfl, rfl, rfl, rfl, fun q hq => by simp [hq]⟩
  case chain =>
    intro s r c h hpre hne hastate hasucc _ hbehind hstate hpred hsucc htwin
    refine ⟨_, exec_pageChain_atOnce h, ?_⟩
    rw [effPageChain_of_loading (s := s.begun r c (.ok [])) (c := { c with host := .ok [] }) hpre hne hastate hasucc hbehind hstate hpred hsucc
      htwin, settle_good]
    obtain ⟨_, hframe⟩ := (s.begun r c (.ok [])).linkPages_frame (u8 c.packet 8) (pktPage c.packet)
    refine ⟨by rw [hframe]; rfl, ?_⟩
    rw [State.complete_ctx, State.complete_ctx, State.linkPages_ctx_earlier _ hne, State.linkPages_ctx_later _ hne,
      State.complete_pgq, State.linkPages_queue, State.complete_inflight, State.linkPages_hif]
    exact ⟨rfl, rfl, hstate, rfl, rfl, fun q hq hq' => by simp [hq, hq']⟩
  case abort =>
    intro s r c h hstate hpred hsucc hclose
    refine ⟨_, exec_pageAbort_atOnce h, ?_⟩
    rw [effPageAbort_of_verified (s := s.begun r c (.ok [])) (c := { c with host := .ok [] }) hstate hpred hsucc hclose, settle_good]
    obtain ⟨_, _, _, _, _, _, _, hframe⟩ := (s.begun r c (.ok [])).dropPage_frame (pktPage c.packet) 4
    refine ⟨by rw [hframe]; rfl, ?_⟩
    rw [State.complete_ctx, State.dropPage_ctx, State.complete_pgq, State.dropPage_queue, State.complete_inflight, State.dropPage_inflight]
    exact ⟨rfl, rfl, rfl, rfl, fun q hq => by simp [hq]⟩
  case query =>
    intro s r c h
    exact exec_pageQuery_atOnce h

end

section
/-! Little-endian bytes (R2), packed drops (R106) and the range of CRC-32C (R114). -/
namespace Sys2Proof.Machine

/-! Bytes of a number and numbers of bytes. -/

@[simp] theorem leBytes_length (n v : Nat) : (leBytes n v).length = n := by
  induction n generalizing v with
  | zero => rfl
  | succ n ih => simp [leBytes, ih]

theorem lt_of_mem_leBytes {n v b : Nat} (h : b ∈ leBytes n v) : b < 256 := by
  induction n generalizing v with
  | zero => simp [leBytes] at h
  | succ n ih =>
    rcases List.mem_cons.1 h with rfl | h
    · exact Nat.mod_lt _ (by decide)
    · exact ih h

theorem leNat_leBytes (n v : Nat) : leNat (leBytes n v) = v % 256 ^ n := by
  induction n generalizing v with
  | zero => simp [leBytes, leNat, Nat.mod_one]
  | succ n ih => rw [leBytes, leNat, ih, Nat.pow_succ', Nat.mod_mul]

theorem getD_leBytes {n i : Nat} (h : i < n) (v : Nat) : (leBytes n v).getD i 0 = v / 256 ^ i % 256 := by
  induction n generalizing v i with
  | zero => omega
  | succ n ih =>
    cases i with
    | zero => simp [leBytes]
    | succ i => rw [leBytes, List.getD_cons_succ, ih (by omega), Nat.div_div_eq_div_mul, Nat.pow_succ']

theorem u8_leBytes {n i : Nat} (h : i < n) (v : Nat) : u8 (leBytes n v) i = v / 256 ^ i % 256 := by
  rw [u8, getD_leBytes h, Nat.mod_mod]

theorem map_mod_256_of_bytes {bs : List Byte} (h : ∀ b ∈ bs, b < 256) : bs.map (· % 256) = bs :=
  (List.map_congr_left fun b hb => Nat.mod_eq_of_lt (h b hb)).trans (List.map_id' bs)

/-! Fields of a list, from what stands at their offset. -/

theorem u8_of_drop {t rest : List Byte} {off : Nat} (h : t.drop off = rest) (i : Nat) : u8 t (off + i) = u8 rest i := by
  simp [u8, ← h, List.getD_eq_getElem?_getD]

theorem uN_of_drop {t rest : List Byte} {off : Nat} (h : t.drop off = rest) (n i : Nat) : uN n t (off + i) = uN n rest i := by
  rw [uN, uN, ← h, List.drop_drop]

theorem uN_leBytes_append (n v : Nat) (rest : List Byte) : uN n (leBytes n v ++ rest) 0 = v % 256 ^ n := by
  rw [uN, List.drop_zero, List.take_left' (leBytes_length n v), map_mod_256_of_bytes (fun _ => lt_of_mem_leBytes), leNat_leBytes]

/-! Packed symbols. -/

theorem mod_div_mod_two_pow {a w m : Nat} (h : a + w ≤ m) (v : Nat) : v % 2 ^ m / 2 ^ a % 2 ^ w = v / 2 ^ a % 2 ^ w := by
  obtain ⟨k, rfl⟩ : ∃ k, m = a + k := ⟨m - a, by omega⟩
  rw [Nat.pow_add, Nat.mod_mul_right_div_self, Nat.mod_mod_of_dvd _ (Nat.pow_dvd_pow 2 (by omega))]

theorem packNum_lt (w : Nat) (xs : List Nat) : packNum w xs < 2 ^ (xs.length * w) := by
  induction xs with
  | nil => simp [packNum]
  | cons x xs ih =>
    have hlow : x % 2 ^ w < 2 ^ w := Nat.mod_lt _ (Nat.two_pow_pos w)
    calc x % 2 ^ w + 2 ^ w * packNum w xs < 2 ^ w * (packNum w xs + 1) := by rw [Nat.mul_add]; omega
      _ ≤ 2 ^ w * 2 ^ (xs.length * w) := Nat.mul_le_mul_left _ ih
      _ = 2 ^ ((xs.length + 1) * w) := by rw [← Nat.pow_add, Nat.add_mul, Nat.one_mul, Nat.add_comm]

/-- Symbol `k` of a packed number stands `k × w` bits from its low end. -/
theorem packNum_div_mod {w k : Nat} {xs : List Nat} (hxs : ∀ x ∈ xs, x < 2 ^ w) : packNum w xs / 2 ^ (k * w) % 2 ^ w = xs.getD k 0 := by
  induction xs generalizing k with
  | nil => simp [packNum]
  | cons x xs ih =>
    obtain ⟨hx, hxs⟩ := List.forall_mem_cons.1 hxs
    rw [packNum, Nat.mod_eq_of_lt hx]
    cases k with
    | zero => simp [Nat.mod_eq_of_lt hx]
    | succ k =>
      have hhigh : (x + 2 ^ w * packNum w xs) / 2 ^ w = packNum w xs := by
        rw [Nat.add_mul_div_left _ _ (Nat.two_pow_pos w), Nat.div_eq_of_lt hx, Nat.zero_add]
      rw [Nat.succ_mul, Nat.add_comm (k * w), Nat.pow_add, ← Nat.div_div_eq_div_mul, hhigh, ih hxs, List.getD_cons_succ]

/-- A reader of `n` symbols of `w` bits looks at the low `n × w` bits only. -/
theorem unpackSyms_congr {w n : Nat} {bs bs' : List Byte} (h : leNat bs % 2 ^ (n * w) = leNat bs' % 2 ^ (n * w)) :
    unpackSyms w n bs = unpackSyms w n bs' := by
  refine List.map_congr_left fun i hi => ?_
  have hfit : i * w + w ≤ n * w := by
    rw [← Nat.succ_mul]; exact Nat.mul_le_mul_right w (List.mem_range.1 hi)
  rw [← mod_div_mod_two_pow hfit, h, mod_div_mod_two_pow hfit]

theorem unpackSyms_of_leNat {w : Nat} {xs : List Nat} {bs : List Byte} (hxs : ∀ x ∈ xs, x < 2 ^ w) (h : leNat bs = packNum w xs) :
    unpackSyms w xs.length bs = xs := by
  refine List.ext_getElem (by simp [unpackSyms]) fun k _ hk => ?_
  simp only [unpackSyms, List.getElem_map, List.getElem_range, h, packNum_div_mod hxs, List.getD_eq_getElem?_getD,
    List.getElem?_eq_getElem hk, Option.getD_some]

theorem packSyms_length (w : Nat) (xs : List Nat) : (packSyms w xs).length = (xs.length * w + 7) / 8 := leBytes_length _ _

theorem leNat_packSyms (w : Nat) (xs : List Nat) : leNat (packSyms w xs) = packNum w xs := by
  have hfit : 2 ^ (xs.length * w) ≤ 256 ^ ceilDiv (xs.length * w) 8 := by
    rw [show 256 = 2 ^ 8 from rfl, ← Nat.pow_mul]
    exact Nat.pow_le_pow_right (by decide) (by unfold ceilDiv; omega)
  rw [packSyms, leNat_leBytes, Nat.mod_eq_of_lt (Nat.lt_of_lt_of_le (packNum_lt w xs) hfit)]

theorem unpackSyms_packSyms {w : Nat} {xs : List Nat} (hxs : ∀ x ∈ xs, x < 2 ^ w) : unpackSyms w xs.length (packSyms w xs) = xs :=
  unpackSyms_of_leNat hxs (leNat_packSyms w xs)

theorem u8_packSyms {w i : Nat} {xs : List Nat} (h : 8 * i < xs.length * w) : u8 (packSyms w xs) i = packNum w xs / 2 ^ (8 * i) % 2 ^ 8 := by
  have hbyte : u8 (packSyms w xs) i = packNum w xs / 256 ^ i % 256 := u8_leBytes (by unfold ceilDiv; omega) _
  exact hbyte.trans (congrArg (packNum w xs / · % 256) (Nat.pow_mul 2 8 i).symm)

/-- A symbol whose width divides 8 lies within one byte (R106). -/
theorem bits_packSyms {w k : Nat} {xs : List Nat} (hw : w = 1 ∨ w = 2 ∨ w = 4) (hxs : ∀ x ∈ xs, x < 2 ^ w) (hk : k < xs.length) :
    bits (u8 (packSyms w xs) (k * w / 8)) (k * w % 8 + w - 1) (k * w % 8) = xs.getD k 0 := by
  have hend : k * w + w ≤ xs.length * w := by rw [← Nat.succ_mul]; exact Nat.mul_le_mul_right w hk
  have hbyte : k * w % 8 + w ≤ 8 := by rcases hw with rfl | rfl | rfl <;> omega
  have hsplit : 8 * (k * w / 8) + k * w % 8 = k * w := Nat.div_add_mod ..
  rw [u8_packSyms (by omega), bits, show k * w % 8 + w - 1 + 1 - k * w % 8 = w by omega, mod_div_mod_two_pow hbyte,
    Nat.div_div_eq_div_mul, ← Nat.pow_add, hsplit, packNum_div_mod hxs]

theorem u8_packSyms_last {w : Nat} {xs : List Nat} (h : xs.length * w % 8 ≠ 0) :
    u8 (packSyms w xs) (xs.length * w / 8) < 2 ^ (xs.length * w % 8) := by
  have hlow : packNum w xs < 2 ^ (8 * (xs.length * w / 8)) * 2 ^ (xs.length * w % 8) := by
    rw [← Nat.pow_add, Nat.div_add_mod]; exact packNum_lt w xs
  rw [u8_packSyms (by omega)]
  exact Nat.lt_of_le_of_lt (Nat.mod_le ..) (Nat.div_lt_of_lt_mul hlow)

/-- Bytes are packed symbols of 8 bits (R120). -/
theorem leNat_eq_packNum {bs : List Byte} (h : ∀ b ∈ bs, b < 256) : leNat bs = packNum 8 bs := by
  induction bs with
  | nil => rfl
  | cons b bs ih =>
    obtain ⟨hb, hbs⟩ := List.forall_mem_cons.1 h
    calc leNat (b :: bs) = b + 256 * packNum 8 bs := congrArg (b + 256 * ·) (ih hbs)
      _ = b % 2 ^ 8 + 256 * packNum 8 bs := congrArg (· + 256 * packNum 8 bs) (Nat.mod_eq_of_lt hb).symm

/-! The CRC fits its field. -/

theorem crc32cBit_lt {c : Nat} (h : c < 2 ^ 32) : crc32cBit c < 2 ^ 32 := by
  have hhalf : c / 2 < 2 ^ 32 := by omega
  unfold crc32cBit
  split
  · exact Nat.xor_lt_two_pow hhalf (by decide)
  · exact hhalf

theorem crc32cByte_lt {c b : Nat} (hc : c < 2 ^ 32) (hb : b < 256) : crc32cByte c b < 2 ^ 32 := by
  have hx : c ^^^ b < 2 ^ 32 := Nat.xor_lt_two_pow hc (by omega)
  unfold crc32cByte
  iterate 8 apply crc32cBit_lt
  exact hx

theorem foldl_crc32cByte_lt {bs : List Byte} (h : ∀ b ∈ bs, b < 256) {c : Nat} (hc : c < 2 ^ 32) : bs.foldl crc32cByte c < 2 ^ 32 := by
  induction bs generalizing c with
  | nil => exact hc
  | cons b bs ih =>
    obtain ⟨hb, hbs⟩ := List.forall_mem_cons.1 h
    exact ih hbs (crc32cByte_lt hc hb)

theorem crc32c_lt {bs : List Byte} (h : ∀ b ∈ bs, b < 256) : crc32c bs < 2 ^ 32 :=
  Nat.xor_lt_two_pow (foldl_crc32cByte_lt h (by decide)) (by decide)

end Sys2Proof.Machine

open Sys2Proof Sys2Proof.Machine

/-- Settles O56: the symbols of a group are the digits of one number, and no digit crosses a byte. -/
theorem packedDropsKeepTheirPlaces : Obligations.PackedDropsKeepTheirPlaces := by
  unfold Obligations.PackedDropsKeepTheirPlaces
  intro w xs hw hxs
  exact ⟨packSyms_length w xs, fun k hk => bits_packSyms hw hxs hk, u8_packSyms_last, unpackSyms_packSyms hxs,
    fun _ _ h => unpackSyms_congr h⟩

/-- Settles O60: the three check values, each by running its CRC over the nine bytes. -/
theorem crcsHaveTheirCheckValues : Obligations.CrcsHaveTheirCheckValues := by
  unfold Obligations.CrcsHaveTheirCheckValues
  exact ⟨by decide +kernel, by decide +kernel, by decide +kernel⟩

end

section
/-! Service blocks (R103, R107, R108, R120, R122, R124): a stored CRC, a literal token and the literal block. -/
namespace Sys2Proof.Machine

/-- A list of bytes followed by its CRC-32C passes the test of its CRC (R103, R114). -/
theorem crcGood_append_crc {body : List Byte} (h : ∀ b ∈ body, b < 256) : crcGood (body ++ leBytes 4 (crc32c body)) = true := by
  have hlen : (body ++ leBytes 4 (crc32c body)).length - 4 = body.length := by simp
  have hstored : u32 (body ++ leBytes 4 (crc32c body)) body.length = crc32c body := by
    have hread := uN_of_drop (List.drop_left (l₁ := body) (l₂ := leBytes 4 (crc32c body))) 4 0
    have hfield := uN_leBytes_append 4 (crc32c body) []
    rw [List.append_nil, Nat.mod_eq_of_lt (show crc32c body < 256 ^ 4 from crc32c_lt h)] at hfield
    exact hread.trans hfield
  rw [crcGood, hlen, List.take_left, hstored, beq_self_eq_true]

/-! A literal token (R107, R108). -/

theorem litToken_length (n : Nat) : (litToken n).length = if n ≤ 30 then 1 else if n ≤ 286 then 2 else 3 := by
  unfold litToken
  repeat' split
  all_goals rfl

theorem litToken_length_pos (n : Nat) : 1 ≤ (litToken n).length := by
  rw [litToken_length]; repeat' split
  all_goals decide

theorem litToken_length_le (n : Nat) : (litToken n).length ≤ 3 := by
  rw [litToken_length]; repeat' split
  all_goals decide

theorem lt_of_mem_litToken {n b : Nat} (hb : b ∈ litToken n) : b < 256 := by
  unfold litToken at hb
  split at hb
  · obtain rfl := List.mem_singleton.1 hb
    omega
  · split at hb
    · rcases List.mem_cons.1 hb with rfl | hb
      · decide
      · obtain rfl := List.mem_singleton.1 hb
        omega
    · rcases List.mem_cons.1 hb with rfl | hb
      · decide
      · exact lt_of_mem_leBytes hb

section
variable {t rest : List Byte} {off n : Nat} (h : t.drop off = litToken n ++ rest) (hpos : 0 < n) (hmax : n ≤ 65822)
include h hpos

/-- The first byte of a literal token: KIND 0 and the length field. -/
theorem u8_litToken : u8 t off = if n ≤ 30 then n - 1 else if n ≤ 286 then 30 else 31 := by
  rw [← Nat.add_zero off, u8_of_drop h]
  unfold litToken
  split
  · exact Nat.mod_eq_of_lt (show n - 1 < 256 by omega)
  · split <;> rfl

theorem kind_litToken : u8 t off / 32 = 0 := by
  rw [u8_litToken h hpos]
  repeat' split
  all_goals omega

theorem extraLen_litToken : 1 + extraLen (u8 t off % 32) = (litToken n).length := by
  rw [u8_litToken h hpos, litToken_length]
  split
  · rw [extraLen, if_neg (by omega), if_neg (by omega)]
  · split <;> rfl

include hmax in
theorem tokCount_litToken : tokCount t off = n := by
  have hfirst := u8_litToken h hpos
  have hrest (i : Nat) : u8 t (off + i) = u8 (litToken n ++ rest) i := u8_of_drop h i
  have hwide : u16 t (off + 1) = uN 2 ((litToken n ++ rest).drop 1) 0 := uN_of_drop h 2 1
  unfold tokCount
  dsimp only
  by_cases h30 : n ≤ 30
  · rw [if_pos h30] at hfirst
    rw [hfirst, if_neg (by omega), if_neg (by omega)]
    omega
  · by_cases h286 : n ≤ 286
    · have hextra : u8 t (off + 1) = n - 31 := by
        rw [hrest, litToken, if_neg h30, if_pos h286]
        exact Nat.mod_eq_of_lt (show n - 31 < 256 by omega)
      rw [if_neg h30, if_pos h286] at hfirst
      rw [hfirst, hextra, if_pos rfl]
      omega
    · have hextra : u16 t (off + 1) = n - 287 := by
        rw [hwide, litToken, if_neg h30, if_neg h286]
        exact (uN_leBytes_append 2 (n - 287) rest).trans (Nat.mod_eq_of_lt (by omega))
      rw [if_neg h30, if_neg h286] at hfirst
      rw [hfirst, hextra, if_neg (by decide), if_pos rfl]
      omega
end

/-- Decoding a literal of bytes that completes a block puts the bytes onto the history. -/
theorem decodeTokens_literal {t input rest : List Byte} {off : Nat} (h : t.drop off = litToken input.length ++ (input ++ rest))
    (hne : input ≠ []) (hmax : input.length ≤ 65822) (hbytes : ∀ b ∈ input, b < 256) {limit : Nat}
    (hlimit : off + (litToken input.length).length + input.length ≤ limit) (win cost : Nat) (up : Bool) (w : List Nat) :
    decodeTokens 8 win limit up t (input.length + 1) input.length off cost w =
      .ok (input.reverse ++ w) (off + (litToken input.length).length + input.length) (cost + ceilDiv input.length 16) := by
  have hpos : 0 < input.length := List.length_pos_iff.2 hne
  obtain ⟨m, hm⟩ : ∃ m, input.length = m + 1 := ⟨input.length - 1, by omega⟩
  have htok := litToken_length_pos input.length
  have hkind := kind_litToken h hpos
  have hcount := tokCount_litToken h hpos hmax
  have hextra := extraLen_litToken h hpos
  have hoperand : off + 1 + extraLen (u8 t off % 32) = off + (litToken input.length).length := by omega
  have hbits : ceilDiv (input.length * 8) 8 = input.length := by unfold ceilDiv; omega
  have hfault : tokenFault 8 win limit up t off = none := by
    have hfirst : ¬ limit ≤ off := by omega
    have hlength : ¬ limit < off + (litToken input.length).length := by omega
    simp [tokenFault, hkind, hcount, hoperand, operandLen, hbits, hfirst, hlength, Nat.not_lt.2 hlimit]
  have hsyms : (t.drop (off + (litToken input.length).length)).take input.length = input := by
    rw [← List.drop_drop, h, List.drop_left, List.take_left]
  have hout : tokenOut 8 0 input.length (off + (litToken input.length).length) t w = input.reverse ++ w := by
    simp only [tokenOut, hbits, hsyms, if_true, pushDrops, unpackSyms_of_leNat (w := 8) hbytes (leNat_eq_packNum hbytes)]
  rw [decodeTokens, if_neg (by omega), hfault]
  simp only [hkind, hcount, hoperand, Nat.lt_irrefl, if_false, Nat.sub_self, hout, operandLen, if_true, hbits, tokenCost]
  rw [hm]
  rfl

/-! The literal block (R120, R124). -/

/-- The bytes of the literal block that its CRC covers. -/
def literalBody (cont : Bool) (input : List Byte) : List Byte :=
  [0x5A, 0x31 + 64 * b2n cont, (input.length - 1) % 256, (input.length - 1) / 256 % 256, 0, 0, 0, 0] ++
    (litToken input.length ++ (input ++ [0xFF]))

theorem literalBlock_eq (cont : Bool) (input : List Byte) :
    literalBlock cont input = literalBody cont input ++ leBytes 4 (crc32c (literalBody cont input)) := by
  have hbody : [0x5A, 0x31 + 64 * b2n cont] ++ leBytes 2 (input.length - 1) ++ zeros 4 ++ litToken input.length ++ input ++ [0xFF]
      = literalBody cont input := by
    simp [literalBody, leBytes, zeros, List.replicate]
  rw [literalBlock, hbody]

theorem literalBlock_length (cont : Bool) (input : List Byte) :
    (literalBlock cont input).length = 8 + (litToken input.length).length + input.length + 5 := by
  simp [literalBlock_eq, literalBody]; omega

theorem lt_of_mem_literalBody {cont : Bool} {input : List Byte} (hbytes : ∀ b ∈ input, b < 256) {b : Nat}
    (hb : b ∈ literalBody cont input) : b < 256 := by
  have hcont := b2n_le_one cont
  rcases List.mem_append.1 hb with hhead | htail
  · simp at hhead; omega
  · rcases List.mem_append.1 htail with htok | hrest
    · exact lt_of_mem_litToken htok
    · rcases List.mem_append.1 hrest with hin | hend
      · exact hbytes b hin
      · simp at hend; omega

theorem blockHeaderFault_literalBlock (cont : Bool) (input : List Byte) : blockHeaderFault (literalBlock cont input) = none := by
  have hbyte0 : u8 (literalBlock cont input) 0 = 0x5A := rfl
  have hbyte1 : u8 (literalBlock cont input) 1 = 0x31 + 64 * b2n cont := by cases cont <;> rfl
  have hzeros : ∀ i ∈ [4, 5, 6, 7], u8 (literalBlock cont input) i = 0 := by
    simp only [List.forall_mem_cons]
    exact ⟨rfl, rfl, rfl, rfl, nofun⟩
  unfold blockHeaderFault tileDepth
  rw [hbyte0, hbyte1, if_neg (by decide), if_neg (by cases cont <;> decide)]
  exact List.find?_eq_none.2 fun i hi => by simp [hzeros i hi]

theorem blockOutLen_literalBlock {input : List Byte} (hne : input ≠ []) (hmax : input.length ≤ 65536) (cont : Bool) :
    blockOutLen (literalBlock cont input) = input.length := by
  have hpos : 0 < input.length := List.length_pos_iff.2 hne
  have hfield : u16 (literalBlock cont input) 2 = (input.length - 1) % 256 ^ 2 := by
    unfold literalBlock
    exact uN_leBytes_append 2 (input.length - 1) _
  rw [blockOutLen, hfield]
  omega

/-- A literal block decodes to its input, whatever the history (R120, R124). -/
theorem decodeBlock_literalBlock {input : List Byte} (hne : input ≠ []) (hmax : input.length ≤ 65536) (hbytes : ∀ b ∈ input, b < 256)
    (cont : Bool) (hist : List Byte) : decodeBlock (literalBlock cont input) hist = .ok input := by
  have hpos : 0 < input.length := List.length_pos_iff.2 hne
  have htok := litToken_length_pos input.length
  have hlen := literalBlock_length cont input
  have hcrc : crcGood (literalBlock cont input) = true := by
    rw [literalBlock_eq]; exact crcGood_append_crc fun _ => lt_of_mem_literalBody hbytes
  have htail : (literalBlock cont input).drop 8
      = litToken input.length ++ (input ++ 0xFF :: leBytes 4 (crc32c (literalBody cont input))) := by
    rw [literalBlock_eq]; simp [literalBody]
  have hend : (literalBlock cont input).drop (8 + (litToken input.length).length + input.length)
      = 0xFF :: leBytes 4 (crc32c (literalBody cont input)) := by
    rw [Nat.add_assoc, ← List.drop_drop, htail, ← List.drop_drop, List.drop_left, List.drop_left]
  have htokens := decodeTokens_literal htail hne (by omega) hbytes (limit := (literalBlock cont input).length - 4) (by omega) serviceWin 0
    false (if tileCont (literalBlock cont input) then hist else [])
  have hlast : endFault (literalBlock cont input) (8 + (litToken input.length).length + input.length) = none := by
    rw [endFault, if_neg (by omega), ← Nat.add_zero (_ + input.length), u8_of_drop hend, if_neg (by simp [u8]), if_neg (by omega)]
  have hshort : ¬ (literalBlock cont input).length < 14 := by omega
  unfold decodeBlock
  rw [if_neg hshort, hcrc, blockHeaderFault_literalBlock, blockOutLen_literalBlock hne hmax]
  simp [htokens, hlast]

theorem decodeBlock_of_blockAllowed {cont : Bool} {hist input b : List Byte} (h : blockAllowed cont hist input b = true) :
    decodeBlock b hist = .ok input ∧ b.length ≤ input.length + 16 := by
  unfold blockAllowed at h
  simp only [Bool.and_eq_true, decide_eq_true_eq] at h
  obtain ⟨⟨⟨hlen, _⟩, _⟩, hdecode⟩ := h
  split at hdecode
  · next out hout => exact ⟨by rw [hout, eq_of_beq hdecode], hlen⟩
  · simp at hdecode

end Sys2Proof.Machine

open Sys2Proof Sys2Proof.Machine

/-- Settles O20: the block is an allowed one, or the literal block, which is decoded in one token. -/
theorem compressedBlocksDecodeToTheirInput : Obligations.CompressedBlocksDecodeToTheirInput := by
  unfold Obligations.CompressedBlocksDecodeToTheirInput
  intro effort cont hist input hne hmax hbytes
  unfold compressBlock
  dsimp only
  split
  · next hallowed => exact decodeBlock_of_blockAllowed hallowed
  · have hlen := literalBlock_length cont input
    have htok := litToken_length_le input.length
    exact ⟨decodeBlock_literalBlock hne hmax hbytes cont hist, by omega⟩

end

section
/-! Service streams (R121 to R127): what their commands do at once, and the end of a compressor's block. -/
namespace Sys2Proof.Machine

/-! The CMP commands commit their effects. -/

section
variable {s : State} {r : Fin 4} {c : Cmd}

theorem exec_cmpOpen_atOnce (h : s.atOnce r 0x0F01 c = true) :
    exec (.cmpOpen r) s = .next (settle c.id (effCmpOpen { c with host := .ok [] } (s.begun r c (.ok [])))) := by
  rw [← startCommand_atOnce h]; rfl

theorem exec_cmpCompress_atOnce (h : s.atOnce r 0x0F02 c = true) (d : HostRead) :
    exec (.cmpCompress r d) s = .next (settle c.id (effCmpCompress { c with host := d } (s.begun r c d))) := by
  rw [← startCommand_atOnce h]; rfl

theorem exec_cmpDecompress_atOnce (h : s.atOnce r 0x0F03 c = true) (d : HostRead) :
    exec (.cmpDecompress r d) s = .next (settle c.id (effCmpDecompress { c with host := d } (s.begun r c d))) := by
  rw [← startCommand_atOnce h]; rfl

theorem exec_cmpSave_atOnce (h : s.atOnce r 0x0F04 c = true) :
    exec (.cmpSave r) s = .next (settle c.id (effCmpSave { c with host := .ok [] } (s.begun r c (.ok [])))) := by
  rw [← startCommand_atOnce h]; rfl

theorem exec_cmpRestore_atOnce (h : s.atOnce r 0x0F05 c = true) (d : HostRead) :
    exec (.cmpRestore r d) s = .next (settle c.id (effCmpRestore { c with host := d } (s.begun r c d))) := by
  rw [← startCommand_atOnce h]; rfl

theorem exec_cmpClose_atOnce (h : s.atOnce r 0x0F06 c = true) :
    exec (.cmpClose r) s = .next (settle c.id (effCmpClose { c with host := .ok [] } (s.begun r c (.ok [])))) := by
  rw [← startCommand_atOnce h]; rfl

/-! The effects on a stream in the state that the command asks for. -/

/-- A closed stream opens to compress with the effort asked for (R123). -/
theorem effCmpOpen_of_closed (hk : u8 c.packet 8 ≤ 15) (hdir : u8 c.packet 9 = 0) (heff : u8 c.packet 10 ≤ 3)
    (hstate : (s.stream (u8 c.packet 8)).state = .closed) :
    effCmpOpen c s = good (s.setStream (u8 c.packet 8) { state := .compress, effort := u8 c.packet 10 }) := by
  have hrange : ¬(15 < u8 c.packet 8 ∨ 1 < u8 c.packet 9 ∨ (if u8 c.packet 9 = 0 then 3 else 0) < u8 c.packet 10) := by
    rw [if_pos hdir]; omega
  unfold effCmpOpen
  dsimp only
  rw [if_neg hrange, hstate]
  simp only [hdir, if_true]

/-- The save of an idle stream waits for its write (R126). -/
theorem effCmpSave_of_idle (hk : u8 c.packet 8 ≤ 15) (haddr : u64 c.packet 16 % 64 = 0)
    (hstate : (s.stream (u8 c.packet 8)).state = .compress) (hidle : s.cmp.active (u8 c.packet 8) = false) :
    effCmpSave c s = (s.modCmp (fun m => { m with saves := m.saves ++
      [{ cmd := c.id, stream := u8 c.packet 8, addr := u64 c.packet 16, image := saveImage (s.stream (u8 c.packet 8)) }] }), .running) := by
  have hrange : ¬(15 < u8 c.packet 8 ∨ u64 c.packet 16 % 64 ≠ 0) := by omega
  unfold effCmpSave
  dsimp only
  rw [if_neg hrange, if_neg (by simp [hstate, hidle]), if_neg (by simp [hstate])]

/-- A closed stream takes what the image gives, or refuses the image (R126). -/
theorem effCmpRestore_of_closed {b : List Byte} (hk : u8 c.packet 8 ≤ 15) (haddr : u64 c.packet 16 % 64 = 0)
    (hstate : (s.stream (u8 c.packet 8)).state = .closed) :
    effCmpRestore { c with host := .ok b } s = match loadImage (pad 32768 b) with
      | some t => good (s.setStream (u8 c.packet 8) t)
      | none => refuse s := by
  have hrange : ¬(15 < u8 c.packet 8 ∨ u64 c.packet 16 % 64 ≠ 0) := by omega
  unfold effCmpRestore
  dsimp only
  rw [if_neg hrange, hstate]
  rfl

/-- An idle stream closes (R127). -/
theorem effCmpClose_of_idle (hk : u8 c.packet 8 ≤ 15) (hstate : (s.stream (u8 c.packet 8)).state = .decompress)
    (hidle : s.cmp.active (u8 c.packet 8) = false) : effCmpClose c s = good (s.setStream (u8 c.packet 8) {}) := by
  unfold effCmpClose
  dsimp only
  rw [if_neg (Nat.not_lt.2 hk), hstate]
  simp [hidle]

/-! Blocks from host memory (R124, R125). -/

theorem pad_of_length {n : Nat} {b : List Byte} (h : b.length = n) : pad n b = b := by
  simp [pad, zeros, ← h]

theorem serviceRangeBad_of_host {p : List Byte} (h : u8 p 9 = 0) (s : State) : serviceRangeBad p s = false := by
  simp [serviceRangeBad, h, bit]

/-- With no flag set, the block that a command reads is its host read, which joins the blocks that wait. -/
theorem serviceStart_of_host {b : List Byte} (hflags : u8 c.packet 9 = 0) (hlen : b.length = u32 c.packet 12) (decompress : Bool) :
    serviceStart { c with host := .ok b } decompress s =
      (s.addJob { cmd := some c.id, stream := u8 c.packet 8, decompress := decompress, unit := none, input := b,
                  outAddr := u64 c.packet 24, outLocal := false, outCap := u32 c.packet 32, fresh := false }, .running) := by
  unfold serviceStart
  simp [hflags, bit, pad_of_length hlen, serviceJob]

theorem effCmpCompress_of_host {b : List Byte} (hk : u8 c.packet 8 ≤ 15) (hflags : u8 c.packet 9 = 0) (hpos : 0 < u32 c.packet 12)
    (hmax : u32 c.packet 12 ≤ 65536) (hcap : u32 c.packet 12 + 16 ≤ u32 c.packet 32)
    (hstate : (s.stream (u8 c.packet 8)).state = .compress) (hunits : s.cmp.inService ≠ 0) :
    effCmpCompress { c with host := .ok b } s = serviceStart { c with host := .ok b } false s := by
  have hrange : ¬(15 < u8 c.packet 8 ∨ 7 < u8 c.packet 9 ∨ u32 c.packet 12 = 0 ∨ 65536 < u32 c.packet 12 ∨
    u32 c.packet 32 < u32 c.packet 12 + 16) := by omega
  unfold effCmpCompress
  dsimp only
  rw [if_neg hrange, if_neg hunits, if_neg (by simp [hstate]), if_neg (by simp [hstate]), serviceRangeBad_of_host hflags]
  simp

theorem effCmpDecompress_of_host {b : List Byte} (hk : u8 c.packet 8 ≤ 15) (hflags : u8 c.packet 9 = 0) (hmin : 14 ≤ u32 c.packet 12)
    (hmax : u32 c.packet 12 ≤ 65552) (hstate : (s.stream (u8 c.packet 8)).state = .decompress) :
    effCmpDecompress { c with host := .ok b } s = serviceStart { c with host := .ok b } true s := by
  have hrange : ¬(15 < u8 c.packet 8 ∨ 7 < u8 c.packet 9 ∨ bit (u8 c.packet 9) 0 = true ∨ u32 c.packet 12 < 14 ∨
    65552 < u32 c.packet 12) := by
    have hfresh : bit (u8 c.packet 9) 0 = false := by rw [hflags]; rfl
    simp [hfresh]; omega
  unfold effCmpDecompress
  dsimp only
  rw [if_neg hrange, hstate, serviceRangeBad_of_host hflags]
  simp

end

/-! Saves and blocks that end. -/

/-- The one save under way is written and completed (R126). -/
theorem exec_cmpSaveDone_of_one {s : State} {k : Fin 16} {x : CmpSave} (hsaves : s.cmp.saves = [x]) (hx : x.stream = k.val)
    (hlink : s.hif.linkDown = false) :
    exec (.cmpSaveDone k) s = .next (((s.modCmp (fun m => { m with saves := [] })).emit (.host x.addr x.image)).complete x.cmd Status.ok []) := by
  have hfind : s.cmp.saves.find? (fun y => y.stream == k.val) = some x := by simp [hsaves, hx]
  have hgone : s.modCmp (fun m => { m with saves := m.saves.filter (fun y => y.cmd != x.cmd) }) = s.modCmp (fun m => { m with saves := [] }) := by
    simp [State.modCmp, hsaves]
  show execCmpSaveDone k s = _
  unfold execCmpSaveDone
  rw [hfind]
  dsimp only
  rw [hgone, State.writeResults, State.modCmp_hif, hlink]
  rfl

/-- Units find nothing to take where no block waits (R121). -/
theorem Cmp.fillAll_of_no_jobs {m : Cmp} (h : m.jobs = []) : m.fillAll = m := by
  have hnone (u : Nat) : m.nextJob u = none := by simp [Cmp.nextJob, h, readyJobs]
  have hfill (u : Nat) : m.fill u = m := by simp [Cmp.fill, hnone]
  simp [Cmp.fillAll, hfill]

theorem State.modCmp_fillAll_of_no_jobs {s : State} (h : s.cmp.jobs = []) : s.modCmp Cmp.fillAll = s := by
  rw [State.modCmp, Cmp.fillAll_of_no_jobs h]

/-- A stream after a block with cleared history, from the block's input and output (R120, R122). -/
def Stream.afterFreshBlock (t : Stream) (input block : List Byte) : Stream :=
  { t with hist := input.reverse.take serviceWin, fresh := false, blocks := t.blocks + 1,
           bytesIn := t.bytesIn + input.length, bytesOut := t.bytesOut + block.length }

/-- A FRESH block for host memory extends the cleared history, is written and completes its command (R122, R124). -/
theorem State.compressDone_of_fresh {s : State} {j : CmpJob} {id : Nat} (hcmd : j.cmd = some id) (hfresh : j.fresh = true)
    (hlocal : j.outLocal = false) (hlink : s.hif.linkDown = false) :
    s.compressDone j =
      ((s.setStream j.stream ((s.stream j.stream).afterFreshBlock j.input (compressBlock (s.stream j.stream).effort false [] j.input))).emit
        (.host j.outAddr (compressBlock (s.stream j.stream).effort false [] j.input))).complete id Status.ok
        (leBytes 4 (compressBlock (s.stream j.stream).effort false [] j.input).length ++ leBytes 4 (crc32c j.input) ++ zeros 8) := by
  have hcont : (!((s.stream j.stream).fresh || j.fresh)) = false := by simp [hfresh]
  unfold State.compressDone
  simp only [hcont, hcmd, growHist, State.serviceWrite, hlocal, State.writeResults, State.setStream_hif, hlink]
  simp [Stream.afterFreshBlock]

theorem exec_cmpBlockDone_of_one {s : State} {u : Fin 4} {j : CmpJob} (hjobs : s.cmp.jobs = [j]) (hunit : j.unit = some u.val)
    (hdir : j.decompress = false) :
    exec (.cmpBlockDone u false) s = .next (((s.modCmp (fun m => { m with jobs := [] })).compressDone j).modCmp Cmp.fillAll) := by
  have hfind : s.cmp.jobs.find? (fun j => j.unit == some u.val) = some j := by simp [hjobs, hunit]
  have hgone : s.modCmp (fun m => { m with jobs := m.jobs.filter (fun i => i.unit != some u.val) }) = s.modCmp (fun m => { m with jobs := [] }) := by
    simp [State.modCmp, hjobs, hunit]
  show execCmpBlockDone u false s = _
  unfold execCmpBlockDone
  rw [hfind]
  dsimp only
  rw [hgone, hdir]
  rfl

end Sys2Proof.Machine

open Sys2Proof Sys2Proof.Machine

/-- Settles O19: each command passes its own tests, for the stream its hypotheses describe, and the one save or block under way ends. -/
theorem streamsAndTheirBlocks : Obligations.StreamsAndTheirBlocks := by
  unfold Obligations.StreamsAndTheirBlocks
  refine ⟨?openStream, ?save, ?saved, ?restore, ?close, ?compress, ?decompress, ?blockDone⟩
  case openStream =>
    intro s r c h hk hdir heff hstate
    rw [exec_cmpOpen_atOnce h, effCmpOpen_of_closed (s := s.begun r c (.ok [])) (c := { c with host := .ok [] }) hk hdir heff hstate, settle_good]
  case save =>
    intro s r c h hk haddr hstate hidle
    rw [exec_cmpSave_atOnce h, effCmpSave_of_idle (s := s.begun r c (.ok [])) (c := { c with host := .ok [] }) hk haddr hstate hidle, settle_running]
    rfl
  case saved => exact fun s k x => exec_cmpSaveDone_of_one
  case restore =>
    intro s r c b h hk haddr hstate hlen
    rw [exec_cmpRestore_atOnce h, effCmpRestore_of_closed (s := s.begun r c (.ok b)) hk haddr hstate, pad_of_length hlen]
    cases loadImage b <;> rfl
  case close =>
    intro s r c h hk hstate hidle
    rw [exec_cmpClose_atOnce h, effCmpClose_of_idle (s := s.begun r c (.ok [])) (c := { c with host := .ok [] }) hk hstate hidle, settle_good]
  case compress =>
    intro s r c b h hk hflags hpos hmax hcap hlen hstate hunits
    rw [exec_cmpCompress_atOnce h, effCmpCompress_of_host (s := s.begun r c (.ok b)) hk hflags hpos hmax hcap hstate hunits,
      serviceStart_of_host hflags hlen, settle_running]
    rfl
  case decompress =>
    intro s r c b h hk hflags hmin hmax hlen hstate
    rw [exec_cmpDecompress_atOnce h, effCmpDecompress_of_host (s := s.begun r c (.ok b)) hk hflags hmin hmax hstate,
      serviceStart_of_host hflags hlen, settle_running]
    rfl
  case blockDone =>
    intro s u j id hjobs hunit hdir hcmd hlocal hlink hfresh hawake
    have hdone := exec_cmpBlockDone_of_one hjobs hunit hdir
    rw [State.compressDone_of_fresh (s := s.modCmp (fun m => { m with jobs := [] })) hcmd hfresh hlocal hlink,
      State.modCmp_fillAll_of_no_jobs rfl] at hdone
    refine ⟨_, _, hdone, rfl, rfl, rfl, State.stream_setStream .., rfl, ?_⟩
    refine List.mem_append_right s.out ?_
    rw [State.leaves_awake]
    · exact List.mem_singleton.2 rfl
    · exact hawake

end

section
/-! Gong frames (R167) and taps (R377): the CRC-8 fits a byte, and each field reads back from its place. -/
namespace Sys2Proof.Machine

/-! The CRC-8 of R167. -/

theorem crc8Bit_lt {c : Nat} (h : c < 256) : crc8Bit c < 256 := by
  unfold crc8Bit
  split
  · exact Nat.xor_lt_two_pow (n := 8) (Nat.mod_lt _ (by decide)) (by decide)
  · omega

theorem crc8_lt {bs : List Byte} (h : ∀ b ∈ bs, b < 256) : crc8 bs < 256 := by
  unfold crc8
  refine List.foldlRecOn (motive := (· < 256)) bs _ (by decide) ?step
  intro c hc b hb
  iterate 8 apply crc8Bit_lt
  exact Nat.xor_lt_two_pow (n := 8) hc (h b hb)

/-! The frame (R167). -/

/-- The 15 characters of a frame that its CRC covers. -/
def gongBody (flags line due per seq : Nat) : List Byte :=
  [flags] ++ leBytes 6 line ++ leBytes 3 due ++ leBytes 4 per ++ [seq % 256]

theorem gongBody_bytes {flags : Nat} (h : flags < 256) (line due per seq : Nat) : ∀ b ∈ gongBody flags line due per seq, b < 256 := by
  have hseq : seq % 256 < 256 := Nat.mod_lt _ (by decide)
  simp only [gongBody, List.mem_append, List.mem_singleton]
  rintro b ((((rfl | hb) | hb) | hb) | rfl)
  · exact h
  · exact lt_of_mem_leBytes hb
  · exact lt_of_mem_leBytes hb
  · exact lt_of_mem_leBytes hb
  · exact hseq

section
variable (flags line due per seq : Nat)

theorem gongBody_length : (gongBody flags line due per seq).length = 15 := rfl

theorem gongFrame_eq :
    gongFrame flags line due per seq = 0xFB :: (gongBody flags line due per seq ++ [crc8 (gongBody flags line due per seq)]) := rfl

theorem gongFrame_covered : ((gongFrame flags line due per seq).drop 1).take 15 = gongBody flags line due per seq := by
  rw [gongFrame_eq, List.drop_succ_cons, List.drop_zero, List.take_left' (gongBody_length ..)]

theorem u8_gongFrame_crc : u8 (gongFrame flags line due per seq) 16 = crc8 (gongBody flags line due per seq) % 256 := by
  have hlast := gongBody_length flags line due per seq
  rw [gongFrame_eq, u8, List.getD_cons_succ, List.getD_eq_getElem?_getD, List.getElem?_append_right (Nat.le_of_eq hlast), hlast,
    Nat.sub_self, List.getElem?_cons_zero, Option.getD_some]

theorem u48_gongFrame_line : u48 (gongFrame flags line due per seq) 2 = line % 2 ^ 48 := by
  have hplace : (gongFrame flags line due per seq).drop 2 = leBytes 6 line ++ (gongFrame flags line due per seq).drop 8 := rfl
  exact (uN_of_drop hplace 6 0).trans (uN_leBytes_append 6 line _)

theorem u24_gongFrame_due : u24 (gongFrame flags line due per seq) 8 = due % 2 ^ 24 := by
  have hplace : (gongFrame flags line due per seq).drop 8 = leBytes 3 due ++ (gongFrame flags line due per seq).drop 11 := rfl
  exact (uN_of_drop hplace 3 0).trans (uN_leBytes_append 3 due _)

theorem u32_gongFrame_per : u32 (gongFrame flags line due per seq) 11 = per % 2 ^ 32 := by
  have hplace : (gongFrame flags line due per seq).drop 11 = leBytes 4 per ++ (gongFrame flags line due per seq).drop 15 := rfl
  exact (uN_of_drop hplace 4 0).trans (uN_leBytes_append 4 per _)

theorem u8_gongFrame_seq : u8 (gongFrame flags line due per seq) 15 = seq % 256 :=
  Nat.mod_mod seq 256

end

/-! The tap word (R377). -/

theorem tapCrc_lt (low : Nat) : tapCrc low < 256 := crc8_lt fun _ => lt_of_mem_leBytes

theorem decide_b2n_eq_one (b : Bool) : decide (b2n b = 1) = b := by cases b <;> rfl

theorem Role.num_le_four (r : Role) : r.num ≤ 4 := by cases r <;> decide

/-- Bits [23:0] of a tap word, as R377 lays them out. -/
def State.tapLow (s : State) : Nat :=
  s.twn.role.num + 8 * b2n s.pref + 16 * b2n s.twn.outAt.isSome + 32 * b2n s.twn.healthy + 64 * b2n s.twn.inStep
    + 2 ^ 8 * (s.twn.epoch % 256) + 2 ^ 16 * (s.twn.tapSeq % 256)

theorem State.tapWord_eq (s : State) : s.tapWord = s.tapLow + 2 ^ 24 * tapCrc s.tapLow := rfl

theorem State.tapLow_parts_le (s : State) :
    s.twn.role.num ≤ 4 ∧ b2n s.pref ≤ 1 ∧ b2n s.twn.outAt.isSome ≤ 1 ∧ b2n s.twn.healthy ≤ 1 ∧ b2n s.twn.inStep ≤ 1 :=
  ⟨Role.num_le_four _, b2n_le_one _, b2n_le_one _, b2n_le_one _, b2n_le_one _⟩

theorem State.tapLow_lt (s : State) : s.tapLow < 2 ^ 24 := by
  obtain ⟨hrole, hpref, hout, hhealthy, hstep⟩ := s.tapLow_parts_le
  unfold State.tapLow
  omega

/-- No field of a tap word reaches into the next. -/
theorem State.tapWord_fields (s : State) :
    s.tapWord % 8 = s.twn.role.num ∧ s.tapWord / 2 ^ 3 % 2 = b2n s.pref ∧ s.tapWord / 2 ^ 4 % 2 = b2n s.twn.outAt.isSome ∧
    s.tapWord / 2 ^ 5 % 2 = b2n s.twn.healthy ∧ s.tapWord / 2 ^ 6 % 2 = b2n s.twn.inStep ∧
    s.tapWord / 2 ^ 8 % 2 ^ 8 = s.twn.epoch % 256 ∧ s.tapWord / 2 ^ 16 % 2 ^ 8 = s.twn.tapSeq % 256 := by
  obtain ⟨hrole, hpref, hout, hhealthy, hstep⟩ := s.tapLow_parts_le
  rw [State.tapWord_eq]
  generalize tapCrc s.tapLow = crc
  unfold State.tapLow
  refine ⟨?_, ?_, ?_, ?_, ?_, ?_, ?_⟩ <;> omega

theorem State.tapWord_mod (s : State) : s.tapWord % 2 ^ 24 = s.tapLow := by
  rw [State.tapWord_eq, Nat.add_mul_mod_self_left, Nat.mod_eq_of_lt s.tapLow_lt]

theorem State.tapWord_div (s : State) : s.tapWord / 2 ^ 24 = tapCrc s.tapLow := by
  rw [State.tapWord_eq, Nat.add_mul_div_left _ _ (by decide), Nat.div_eq_of_lt s.tapLow_lt, Nat.zero_add]

theorem State.tapWord_crc_good (s : State) : tapCrc (s.tapWord % 2 ^ 24) = s.tapWord / 2 ^ 24 := by
  rw [State.tapWord_mod, State.tapWord_div]

theorem State.tapWord_lt (s : State) : s.tapWord < 2 ^ 32 := by
  have hlow := s.tapLow_lt
  have hcrc := tapCrc_lt s.tapLow
  rw [State.tapWord_eq]
  omega

/-- A spoiled tap keeps its low bits and holds the complement of its CRC. -/
theorem spoilTap_fields (w : Nat) :
    spoilTap true w % 2 ^ 24 = w % 2 ^ 24 ∧ spoilTap true w / 2 ^ 24 = 255 - w / 2 ^ 24 := by
  rw [spoilTap, if_pos rfl]
  omega

/-- A byte is never its own complement. -/
theorem spoilTap_crc_bad {w : Nat} (hcrc : tapCrc (w % 2 ^ 24) = w / 2 ^ 24) :
    tapCrc (spoilTap true w % 2 ^ 24) ≠ spoilTap true w / 2 ^ 24 := by
  obtain ⟨hlow, hhigh⟩ := spoilTap_fields w
  rw [hlow, hhigh, hcrc]
  omega

end Sys2Proof.Machine

open Sys2Proof Sys2Proof.Machine

/-- Settles O55: the fields of a frame and of a tap do not overlap, and the CRC-8 fits its byte. -/
theorem gongFramesAndTapsReadBack : Obligations.GongFramesAndTapsReadBack := by
  unfold Obligations.GongFramesAndTapsReadBack
  refine ⟨?frame, ?tap⟩
  case frame =>
    intro flags line due per seq hflags hline hdue hper hseq
    have hcrc : crc8 (gongBody flags line due per seq) < 256 := crc8_lt (gongBody_bytes hflags line due per seq)
    rw [u48_gongFrame_line, u24_gongFrame_due, u32_gongFrame_per, u8_gongFrame_seq, u8_gongFrame_crc, gongFrame_covered,
      Nat.mod_eq_of_lt hcrc]
    exact ⟨rfl, rfl, Nat.mod_eq_of_lt hflags, Nat.mod_eq_of_lt hline, Nat.mod_eq_of_lt hdue, Nat.mod_eq_of_lt hper,
      Nat.mod_eq_of_lt hseq, rfl, hcrc⟩
  case tap =>
    intro s
    obtain ⟨hrole, hpref, hout, hhealthy, hstep, hepoch, hseq⟩ := s.tapWord_fields
    refine ⟨s.tapWord_lt, s.tapWord_crc_good, hrole, ?_, ?_, ?_, ?_, hepoch, hseq, spoilTap_crc_bad s.tapWord_crc_good⟩
    · rw [bit, hpref, decide_b2n_eq_one]
    · rw [bit, hout, decide_b2n_eq_one]
    · rw [bit, hhealthy, decide_b2n_eq_one]
    · rw [bit, hstep, decide_b2n_eq_one]

end

section
/-! How FIR decides a line (R161) and places its rows (R159). -/
namespace Sys2Proof.Machine

/-- R161, on a device that is not halted, for a line that is neither a hold line nor dropped by the master. -/
theorem State.lineFate_of_last {s : State} {l : Int} (hstate : s.fir.state ≠ .halted) (hhigh : s.gongLow = false)
    (hlast : s.fir.tLast = some l) (t : Int) (per p : Nat) : s.lineFate t per p false false =
      if (p : Int) ≤ t - l then .fired t else if l + p < t + per then .held (l + p) else .dropped 0 := by
  rw [State.lineFate, if_neg (by simp [hstate, hhigh])]
  simp [hlast]

/-! Rows (R159). -/

/-- A quotient of 65,536 rounded half up lies within half a tap of it. -/
theorem round_65536_bounds (a : Nat) : 2 * (65536 * ((a + 32768) / 65536)) ≤ 2 * a + 65536 ∧
    2 * a + 65536 < 2 * (65536 * ((a + 32768) / 65536 + 1)) := by
  omega

theorem rowDelay_forward (per f : Nat) : rowDelay per f false = (f * per + 32768) / 65536 := rfl

theorem rowDelay_reverse_zero (per : Nat) : rowDelay per 0 true = 0 := rfl

theorem rowDelay_reverse {f : Nat} (h : 0 < f) (per : Nat) : rowDelay per f true = ((65536 - f) * per + 32768) / 65536 := by
  rw [rowDelay, if_pos rfl, if_neg (Nat.ne_of_gt h)]

end Sys2Proof.Machine

open Sys2Proof Sys2Proof.Machine

/-- Settles O25: of the three answers, the hypotheses of each clause leave one. -/
theorem linesFireAreHeldOrDropped : Obligations.LinesFireAreHeldOrDropped := by
  unfold Obligations.LinesFireAreHeldOrDropped
  intro s t l per p hstate hhigh hlast
  rw [State.lineFate_of_last hstate hhigh hlast]
  refine ⟨?fires, ?held, ?dropped⟩
  case fires =>
    intro hfar
    exact ⟨if_pos hfar, rfl⟩
  case held =>
    intro hnear hroom
    exact ⟨by rw [if_neg (Int.not_le.2 hnear), if_pos hroom], rfl, rfl⟩
  case dropped =>
    intro hnear hfull
    exact ⟨by rw [if_neg (Int.not_le.2 hnear), if_neg (Int.not_lt.2 hfull)], hlast, rfl⟩

/-- Settles O57: a row's delay is a quotient rounded half up, of the fraction that its pass counts; a held line fires after T(L). -/
theorem rowsFireAtTheirInstants : Obligations.RowsFireAtTheirInstants := by
  unfold Obligations.RowsFireAtTheirInstants
  refine ⟨?rows, fun line per t a b => ⟨rfl, rfl⟩, ?held⟩
  case rows =>
    intro per f _
    obtain ⟨hlow, hhigh⟩ := round_65536_bounds (f * per)
    rw [rowDelay_forward]
    refine ⟨hlow, hhigh, rowDelay_reverse_zero per, fun hpos => ?_⟩
    rw [rowDelay_reverse hpos]
    exact round_65536_bounds ((65536 - f) * per)
  case held =>
    intro s t l per p _ hnear _
    omega

end

section
/-! What a trigger keeps (R26, R160, R161): the place of its line, whatever becomes of it. -/
namespace Sys2Proof.Machine

/-- What says which press line was triggered last and which comes next, with the tick, its queue, and whether pacing goes on. -/
structure LineView where
  tick : Nat
  pending : List Instr
  lastLine : Option Nat
  nextLine : Nat
  per : Nat
  paced : Bool
  stopWait : List StopWait

def State.lineView (s : State) : LineView :=
  { tick := s.tick, pending := s.pending, lastLine := s.fir.lastLine, nextLine := s.fir.nextLine, per := s.fir.per, paced := s.fir.paced,
    stopWait := s.fir.stopWait }

/-! One operation of the state, and many in a row. -/

/-- A change outside FIR, the tick and its queue keeps the view. -/
theorem State.lineView_congr {s t : State} (htick : t.tick = s.tick) (hpending : t.pending = s.pending) (hfir : t.fir = s.fir) :
    t.lineView = s.lineView := by
  rw [State.lineView, htick, hpending, hfir, State.lineView]

theorem foldl_lineView {α : Type} {f : State → α → State} (h : ∀ s x, (f s x).lineView = s.lineView) (l : List α) (s : State) :
    (l.foldl f s).lineView = s.lineView :=
  List.foldlRecOn (motive := fun t => t.lineView = s.lineView) l f rfl fun t ht x _ => (h t x).trans ht

theorem ite_lineView (p : Prop) [Decidable p] (s t : State) : (if p then s else t).lineView = if p then s.lineView else t.lineView :=
  apply_ite State.lineView p s t

section
variable (s : State)

@[simp] theorem State.modPgq_lineView (f : Pgq → Pgq) : (s.modPgq f).lineView = s.lineView := rfl
@[simp] theorem State.modMal_lineView (f : Mal → Mal) : (s.modMal f).lineView = s.lineView := rfl
@[simp] theorem State.modTwn_lineView (f : Twn → Twn) : (s.modTwn f).lineView = s.lineView := rfl
@[simp] theorem State.modLed_lineView (f : Led → Led) : (s.modLed f).lineView = s.lineView := rfl
@[simp] theorem State.setCtx_lineView (i : Nat) (c : Ctx) : (s.setCtx i c).lineView = s.lineView := rfl
@[simp] theorem State.modCtx_lineView (i : Nat) (f : Ctx → Ctx) : (s.modCtx i f).lineView = s.lineView := rfl
@[simp] theorem State.setEngine_lineView (i : Nat) (g : Engine) : (s.setEngine i g).lineView = s.lineView := rfl
@[simp] theorem State.modLaneRing_lineView (i : Nat) (f : LaneRing → LaneRing) : (s.modLaneRing i f).lineView = s.lineView := rfl
@[simp] theorem State.setLane_lineView (i : Nat) (l : Lane) : (s.setLane i l).lineView = s.lineView := rfl
@[simp] theorem State.modLane_lineView (i : Nat) (f : Lane → Lane) : (s.modLane i f).lineView = s.lineView := rfl
@[simp] theorem State.drawn_lineView : s.drawn.lineView = s.lineView := rfl

@[simp] theorem State.completeOpt_lineView (id : Option Nat) (st : Nat) (res : List Byte) :
    (s.completeOpt id st res).lineView = s.lineView := State.lineView_congr (by simp) (by simp) (by simp)

@[simp] theorem State.completeAll_lineView (l : List (Nat × Nat × List Byte)) : (s.completeAll l).lineView = s.lineView :=
  State.lineView_congr (by simp) (by simp) (by simp)

@[simp] theorem State.raise_lineView (code unit : Nat) (args : List Byte) : (s.raise code unit args).lineView = s.lineView :=
  State.lineView_congr (by simp) (by simp) (by simp)

@[simp] theorem State.sendTwin_lineView (r : TwinRec) : (s.sendTwin r).lineView = s.lineView :=
  State.lineView_congr (by simp) (by simp) (by simp)

@[simp] theorem State.mapSteps_lineView (f : LTest → Step → Step) : (s.mapSteps f).lineView = s.lineView := by
  obtain ⟨_, h⟩ := s.mapSteps_eq f; rw [h]; rfl

@[simp] theorem State.layoutRings_lineView (g : GeoSet) : (s.layoutRings g).lineView = s.lineView := by
  obtain ⟨_, h⟩ := s.layoutRings_eq g; rw [h]; rfl

@[simp] theorem State.freeGens_lineView : s.freeGens.lineView = s.lineView := by
  obtain ⟨_, _, h⟩ := s.freeGens_eq; rw [h]; rfl

@[simp] theorem State.activate_lineView (serial : Nat) : (s.activate serial).lineView = s.lineView := by
  obtain ⟨_, _, _, _, _, _, _, h⟩ := s.activate_eq serial; rw [h]; rfl

@[simp] theorem State.activatePending_lineView : s.activatePending.lineView = s.lineView := by
  obtain ⟨_, _, _, _, _, _, _, h⟩ := s.activatePending_eq; rw [h]; rfl

@[simp] theorem State.changePage_lineView (id : Nat) (st : PageState) (cause : Nat) : (s.changePage id st cause).lineView = s.lineView := by
  obtain ⟨_, _, _, _, _, h⟩ := s.changePage_frame id st cause; rw [h]; rfl

/-! Floors, held breaks and notes at a line boundary (R97, R100, R101). -/

@[simp] theorem State.takeFloors_lineView : s.takeFloors.lineView = s.lineView := by
  refine foldl_lineView (fun s id => ?_) _ s
  split <;> rfl

@[simp] theorem State.shiftBehind_lineView (id n : Nat) : (s.shiftBehind id n).lineView = s.lineView :=
  foldl_lineView (fun s b => s.modCtx_lineView b _) _ s

@[simp] theorem State.delayGaps_lineView (line : Nat) : (s.delayGaps line).lineView = s.lineView := by
  refine foldl_lineView (fun s id => ?_) _ s
  simp [ite_lineView]

@[simp] theorem State.writeNotes_lineView : s.writeNotes.lineView = s.lineView := by
  unfold State.writeNotes
  split
  · rfl
  · exact foldl_lineView (fun s n => s.raise_lineView ..) _ _

@[simp] theorem State.writeGap_lineView (id : Nat) : (s.writeGap id).lineView = s.lineView := by
  simp [State.writeGap, ite_lineView]

@[simp] theorem State.reportGaps_lineView (line : Nat) : (s.reportGaps line).lineView = s.lineView := by
  refine foldl_lineView (fun s id => ?_) _ s
  simp [ite_lineView]

@[simp] theorem State.leaveBreaks_lineView (line : Nat) : (s.leaveBreaks line).lineView = s.lineView := by
  refine foldl_lineView (fun s id => ?_) _ s
  simp [ite_lineView]

/-! Windows and the pages that begin with them (R26, R134, R145). -/

@[simp] theorem State.relayoutAt_lineView (line : Nat) : (s.relayoutAt line).lineView = s.lineView := by
  refine foldl_lineView (fun s id => ?_) _ s
  simp [ite_lineView]

@[simp] theorem State.beginPage_lineView (id : Nat) : (s.beginPage id).lineView = s.lineView := by
  unfold State.beginPage
  dsimp only
  split <;> simp

@[simp] theorem State.beginBreak_lineView (id bound : Nat) : (s.beginBreak id bound).lineView = s.lineView := by
  unfold State.beginBreak
  dsimp only
  split
  · simp [ite_lineView]
  · rfl

@[simp] theorem State.beginBreaks_lineView (bound : Nat) : (s.beginBreaks bound).lineView = s.lineView :=
  foldl_lineView (fun s id => s.beginBreak_lineView id bound) _ s

@[simp] theorem State.returnEngines_lineView : s.returnEngines.lineView = s.lineView := by
  refine foldl_lineView (fun s e => ?_) _ s
  simp [ite_lineView]

@[simp] theorem State.coverLine_lineView (b : Beat) (d : DieLevels) (i : Nat) : (s.coverLine b d i).lineView = s.lineView := by
  refine foldl_lineView (fun s e => ?_) _ s
  dsimp only
  split
  · simp [ite_lineView]
  · rfl

@[simp] theorem State.coverBeat_lineView (b : Beat) : (s.coverBeat b).lineView = s.lineView := by
  unfold State.coverBeat
  split
  · exact foldl_lineView (fun s i => s.coverLine_lineView b _ i) _ s
  · rfl

@[simp] theorem State.trimCover_lineView : s.trimCover.lineView = s.lineView := rfl

@[simp] theorem State.spoilPages_lineView (start span : Nat) : (s.spoilPages start span).lineView = s.lineView := State.mapSteps_lineView ..

@[simp] theorem State.formWindow_lineView (x : Nat) : (s.formWindow x).lineView = s.lineView := by
  unfold State.formWindow
  split
  · rfl
  · simp only [State.trimCover_lineView, foldl_lineView State.coverBeat_lineView, State.modMal_lineView, State.drawn_lineView]
    rw [foldl_lineView (fun s p => s.spoilPages_lineView _ _), State.returnEngines_lineView]

@[simp] theorem State.formAt_lineView (x : Nat) : (s.formAt x).lineView = s.lineView := by
  unfold State.formAt
  split
  · rfl
  · rw [State.formWindow_lineView, State.beginBreaks_lineView]
    refine foldl_lineView (fun s id => ?_) _ s
    simp [ite_lineView]

@[simp] theorem State.formUpTo_lineView (line : Nat) : (s.formUpTo line).lineView = s.lineView :=
  foldl_lineView (fun s _ => s.formAt_lineView _) _ s

@[simp] theorem State.resolveWindow_lineView (x : Nat) : (s.resolveWindow x).lineView = s.lineView := rfl

/-! Pages that end with a line (R76, R81, R98). -/

@[simp] theorem State.unlinkPage_lineView (id : Nat) : (s.unlinkPage id).lineView = s.lineView := by
  simp [State.unlinkPage, ite_lineView]

@[simp] theorem State.endSegment_lineView (id cause : Nat) : (s.endSegment id cause).lineView = s.lineView := by
  unfold State.endSegment
  dsimp only
  split <;> simp [ite_lineView]

@[simp] theorem State.endJob_lineView (fuel id cause : Nat) : (s.endJob fuel id cause).lineView = s.lineView := by
  induction fuel generalizing s id cause with
  | zero => rfl
  | succ fuel ih => simp [State.endJob, ite_lineView, ih]

@[simp] theorem State.leaveSuccessor_lineView (id : Nat) : (s.leaveSuccessor id).lineView = s.lineView := by
  simp [State.leaveSuccessor, ite_lineView]

@[simp] theorem State.activateIdle_lineView : s.activateIdle.lineView = s.lineView := by
  simp [State.activateIdle, ite_lineView]

@[simp] theorem State.finishPage_lineView (id : Nat) : (s.finishPage id).lineView = s.lineView := by
  unfold State.finishPage
  rw [State.activateIdle_lineView, State.freeGens_lineView]
  split
  · simp [ite_lineView]
  · simp

@[simp] theorem State.endPages_lineView (line : Nat) : (s.endPages line).lineView = s.lineView := by
  refine foldl_lineView (fun s id => ?_) _ s
  simp [ite_lineView]

/-! Sending the line (R148, R168, R186, R194, R258). -/

@[simp] theorem State.startTx_lineView (lane : Nat) (x : TxItem) : (s.startTx lane x).lineView = s.lineView := rfl

@[simp] theorem State.queueTx_lineView (lane : Nat) (x : TxItem) : (s.queueTx lane x).lineView = s.lineView := by
  simp [State.queueTx, ite_lineView]

@[simp] theorem State.sendLane_lineView (li : LineInfo) (lane : Nat) : (s.sendLane li lane).lineView = s.lineView := by
  unfold State.sendLane
  split
  · rfl
  · split
    · rfl
    · split
      · exact State.queueTx_lineView ..
      · simp [ite_lineView]

@[simp] theorem State.underrunLane_lineView (li : LineInfo) (lane : Nat) : (s.underrunLane li lane).lineView = s.lineView := by
  unfold State.underrunLane
  dsimp only
  split <;> simp [ite_lineView]

@[simp] theorem State.spoilLine_lineView (li : LineInfo) : (s.spoilLine li).lineView = s.lineView := by
  simp [State.spoilLine, State.spoilSteps, ite_lineView]

@[simp] theorem State.sendLine_lineView (li : LineInfo) : (s.sendLine li).lineView = s.lineView := by
  unfold State.sendLine
  dsimp only
  rw [foldl_lineView (fun s l => s.sendLane_lineView li l), foldl_lineView (fun s l => s.underrunLane_lineView li l),
    State.spoilLine_lineView]

@[simp] theorem State.sendGong_lineView (wait flags line : Nat) (t : Option Int) (per : Nat) :
    (s.sendGong wait flags line t per).lineView = s.lineView := by
  unfold State.sendGong
  split
  · rfl
  · dsimp only
    split <;> rfl

@[simp] theorem State.announceLine_lineView (li : LineInfo) : (s.announceLine li).lineView = s.lineView := by
  simp [State.announceLine, ite_lineView]

/-! What FIR counts, marks and reports (R155, R161, R162, R394). -/

@[simp] theorem State.countFate_lineView (f : LineFate) : (s.countFate f).lineView = s.lineView := by cases f <;> rfl

@[simp] theorem State.reportDrop_lineView (line cause : Nat) : (s.reportDrop line cause).lineView = s.lineView := by
  unfold State.reportDrop
  dsimp only
  split
  · exact State.raise_lineView ..
  · rfl

@[simp] theorem State.markNoSlip_lineView (line : Nat) (li : LineInfo) : (s.markNoSlip line li).lineView = s.lineView := by
  unfold State.markNoSlip
  split
  · refine foldl_lineView (fun s e => ?_) _ s
    rfl
  · rfl

@[simp] theorem State.proofEnd_lineView (st : Nat) : (s.proofEnd st).lineView = s.lineView := by
  unfold State.proofEnd
  split <;> rfl

@[simp] theorem State.proofGo_lineView (p : Proof) (k : Nat) : (s.proofGo p k).lineView = s.lineView := by
  unfold State.proofGo
  split <;> simp

@[simp] theorem State.proofResult_lineView (passed : Bool) (n : Nat) : (s.proofResult passed n).lineView = s.lineView := by
  unfold State.proofResult
  split <;> simp

@[simp] theorem State.proofCount_lineView (k n : Nat) : (s.proofCount k n).lineView = s.lineView := by
  unfold State.proofCount
  split <;> simp [ite_lineView]

/-! Passes and HOLD (R165, R166). -/

@[simp] theorem State.endPass_lineView (line : Nat) : (s.endPass line).lineView = s.lineView := by
  unfold State.endPass
  dsimp only
  split <;> rfl

@[simp] theorem State.holdStep_lineView (line : Nat) : (s.holdStep line).lineView = s.lineView := by
  unfold State.holdStep
  dsimp only
  split
  · rfl
  · split
    · split <;> rfl
    · split <;> rfl

/-! Stopping (R174). -/

theorem State.stopPacing_lineView : s.stopPacing.lineView = { s.lineView with paced := false, stopWait := [] } := by
  unfold State.stopPacing
  dsimp only
  rw [State.completeAll_lineView, State.modTwn_lineView]
  split
  · rw [State.sendGong_lineView]; rfl
  · rfl

theorem State.stopDue_of_no_waits (h : s.fir.stopWait = []) (line : Nat) : s.stopDue line = false := by
  simp [State.stopDue, h]

end

/-! The trigger, in the order of its parts. -/

/-- A RATIO_ONLY change of an earlier tick takes effect at the line boundary (R172). -/
def Fir.takeRatioDue (f : Fir) (tick : Nat) : Fir :=
  match f.ratioNext with
  | some r => if r.tick < tick then f.takeRatio else f
  | none => f

theorem Fir.takeRatio_eq (f : Fir) : ∃ g r, f.takeRatio = { f with cfg := g, ratioNext := r } := by
  unfold Fir.takeRatio
  split
  · exact ⟨_, _, rfl⟩
  · exact ⟨f.cfg, f.ratioNext, rfl⟩

theorem Fir.takeRatioDue_eq (f : Fir) (tick : Nat) : ∃ g r, f.takeRatioDue tick = { f with cfg := g, ratioNext := r } := by
  unfold Fir.takeRatioDue
  split
  · split
    · exact f.takeRatio_eq
    · exact ⟨f.cfg, f.ratioNext, rfl⟩
  · exact ⟨f.cfg, f.ratioNext, rfl⟩

theorem State.takeRatioDue_lineView (s : State) (tick : Nat) : (s.modFir (fun f => f.takeRatioDue tick)).lineView = s.lineView := by
  obtain ⟨g, r, h⟩ := s.fir.takeRatioDue_eq tick
  simp only [State.lineView, State.modFir, h]

/-- The line's index, period and generation are taken, and the floor in force for it (R160, R172, R382). -/
def State.openLine (s : State) (line per : Nat) : State :=
  let s := s.takeFloors.delayGaps line
  let s := s.modFir (fun f => f.takeRatioDue s.tick)
  let s := s.modFir (fun f => { f with lastLine := some line, nextLine := line + 1, trigTick := some s.tick, per := per,
                                       gen := s.genAt line })
  let s := s.modTwn (fun w => { w with frames := w.inStep && !(w.absent && !w.healthy), predTick := none, predFlags := none })
  let s := s.writeNotes
  s.modFir (fun f => { f with floor := s.floorAt line })

/-- FIR counts and reports the fate of the line, and the rings forget the lines before it (R144, R161, R162). -/
def State.settleFate (s : State) (fate : LineFate) (line : Nat) : State :=
  let s := s.countFate fate
  let s := match fate with | .dropped c => s.reportDrop line c | _ => s
  ((List.range 64).foldl (fun s l => s.modLaneRing l (fun r => r.release line)) s).modMal (fun m => m.release line)

/-- The line is sent, and everything keyed to its boundary happens (R26). -/
def State.passLine (s : State) (li : LineInfo) (line : Nat) (holdLine : Bool) : State :=
  let s := (((((s.relayoutAt line).sendLine li).announceLine li).markNoSlip line li).leaveBreaks line).formUpTo line
  let s := if line % 16 = 0 then s.resolveWindow (line + 48) else s
  let s := ((s.reportGaps line).endPages line).proofCount 4 16384
  if holdLine then s.holdStep line else s.endPass line

theorem State.trigger_eq (s : State) (line : Nat) (t : Int) (per : Nat) (drop hold start rev : Bool) : ∃ fate li,
    s.trigger line t per drop hold start rev =
      let b := ((s.openLine line per).settleFate fate line).passLine li line hold
      if b.stopDue line then b.stopPacing else b :=
  ⟨_, _, rfl⟩

theorem State.openLine_lineView (s : State) (line per : Nat) :
    (s.openLine line per).lineView = { s.lineView with lastLine := some line, nextLine := line + 1, per := per } := by
  unfold State.openLine
  extract_lets s₁ s₂ s₃ s₄ s₅
  calc (s₅.modFir (fun f => { f with floor := s₅.floorAt line })).lineView = s₅.lineView := rfl
    _ = s₄.lineView := s₄.writeNotes_lineView
    _ = { s₂.lineView with lastLine := some line, nextLine := line + 1, per := per } := rfl
    _ = { s.lineView with lastLine := some line, nextLine := line + 1, per := per } := by
      rw [State.takeRatioDue_lineView, State.delayGaps_lineView, State.takeFloors_lineView]

theorem State.settleFate_lineView (s : State) (fate : LineFate) (line : Nat) : (s.settleFate fate line).lineView = s.lineView := by
  unfold State.settleFate
  dsimp only
  rw [State.modMal_lineView, foldl_lineView (fun s l => s.modLaneRing_lineView l _)]
  cases fate <;> simp

theorem State.passLine_lineView (s : State) (li : LineInfo) (line : Nat) (hold : Bool) : (s.passLine li line hold).lineView = s.lineView := by
  simp [State.passLine, ite_lineView]

/-- A trigger takes its line; pacing goes on unless a waiting PACE_STOP has seen its last trigger (R174). -/
theorem State.trigger_lineView (s : State) (line : Nat) (t : Int) (per : Nat) (drop hold start rev : Bool) : ∃ paced waits,
    (s.trigger line t per drop hold start rev).lineView =
      { s.lineView with lastLine := some line, nextLine := line + 1, per := per, paced := paced, stopWait := waits } ∧
    (s.fir.stopWait = [] → paced = s.fir.paced) := by
  obtain ⟨fate, li, htrigger⟩ := s.trigger_eq line t per drop hold start rev
  extract_lets b at htrigger
  have hb : b.lineView = { s.lineView with lastLine := some line, nextLine := line + 1, per := per } := by
    rw [State.passLine_lineView, State.settleFate_lineView, State.openLine_lineView]
  rw [htrigger]
  by_cases hdue : b.stopDue line = true
  · refine ⟨false, [], by rw [if_pos hdue, State.stopPacing_lineView, hb], fun hnone => ?_⟩
    have hwait : b.fir.stopWait = [] := (congrArg LineView.stopWait hb).trans hnone
    rw [b.stopDue_of_no_waits hwait] at hdue
    cases hdue
  · exact ⟨s.fir.paced, s.fir.stopWait, by rw [if_neg hdue, hb]; rfl, fun _ => rfl⟩

end Sys2Proof.Machine

open Sys2Proof Sys2Proof.Machine

/-- Settles O26: no part of a trigger gives the line another index, and a stop keeps the index too. -/
theorem eachLineIndexIsTriggeredOnce : Obligations.EachLineIndexIsTriggeredOnce := by
  unfold Obligations.EachLineIndexIsTriggeredOnce
  intro s line per due drop hold start rev
  obtain ⟨paced, waits, hview, hpaced⟩ := s.trigger_lineView line due per drop hold start rev
  exact ⟨congrArg LineView.lastLine hview, congrArg LineView.nextLine hview, congrArg LineView.per hview, congrArg LineView.tick hview,
    congrArg LineView.pending hview, fun hnone => (congrArg LineView.paced hview).trans (hpaced hnone)⟩

end

section
/-! Pacing commands (R172 to R176): what they do at once. -/
namespace Sys2Proof.Machine

/-! The PACE commands commit their effects. -/

section
variable {s : State} {r : Fin 4} {c : Cmd}

theorem exec_paceConfig_atOnce (h : s.atOnce r 0x0501 c = true) :
    exec (.paceConfig r) s = .next (settle c.id (effPaceConfig { c with host := .ok [] } (s.begun r c (.ok [])))) := by
  rw [← startCommand_atOnce h]; rfl

theorem exec_paceStart_atOnce (h : s.atOnce r 0x0502 c = true) :
    exec (.paceStart r) s = .next (settle c.id (effPaceStart { c with host := .ok [] } (s.begun r c (.ok [])))) := by
  rw [← startCommand_atOnce h]; rfl

theorem exec_paceStop_atOnce (h : s.atOnce r 0x0503 c = true) :
    exec (.paceStop r) s = .next (settle c.id (effPaceStop { c with host := .ok [] } (s.begun r c (.ok [])))) := by
  rw [← startCommand_atOnce h]; rfl

theorem exec_paceRole_atOnce (h : s.atOnce r 0x0504 c = true) :
    exec (.paceRole r) s = .next (settle c.id (effPaceRole { c with host := .ok [] } (s.begun r c (.ok [])))) := by
  rw [← startCommand_atOnce h]; rfl

theorem exec_paceQuery_atOnce (h : s.atOnce r 0x0505 c = true) :
    exec (.paceQuery r) s = .next (settle c.id (effPaceQuery { c with host := .ok [] } (s.begun r c (.ok [])))) := by
  rw [← startCommand_atOnce h]; rfl

end

/-- A command whose effect changed FIR and the twin alone has changed the host interface besides. -/
theorem State.begun_complete_firTwn_frame (s : State) (r : Nat) (c : Cmd) (d : HostRead) (f : Fir) (w : Twn) (id st : Nat) (res : List Byte) :
    ∃ h, { s.begun r c d with fir := f, twn := w }.complete id st res = { s with hif := h, fir := f, twn := w } := ⟨_, rfl⟩

/-! Their effects. -/

theorem Fir.runs_of_stopped {f : Fir} (h : f.state = .stopped) : f.runs = false := by rw [Fir.runs, h]; rfl

section
variable {s : State} {c : Cmd}

/-- The configuration that PACE_CONFIG brings is in force, with TRIM at 0 (R172). -/
def State.configurePace (s : State) (n : PaceCfg) : State :=
  s.modFir (fun f => { f with cfg := n, cfgDone := true, ratioNext := none, trim := 0, c := 0, capped := f.capped && n.source == f.cfg.source })

theorem effPaceConfig_of_stopped (hgood : paceBad c.packet = false) (hfull : bit (u8 c.packet 11) 1 = false) (hstate : s.fir.state = .stopped) :
    effPaceConfig c s = good ((s.configurePace (parsePace c.packet)).modFir
      (fun f => { f with noSlip := (s.configurePace (parsePace c.packet)).slipFaulty })) := by
  unfold effPaceConfig
  simp only [hgood, hfull, hstate, Fir.runs_of_stopped hstate]
  simp [State.configurePace]

theorem effPaceConfig_ratioOnly (hgood : paceBad c.packet = false) (hratio : bit (u8 c.packet 11) 1 = true) (hstate : s.fir.state ≠ .halted)
    (hnone : s.fir.ratioNext = none) :
    effPaceConfig c s = good (s.modFir (fun f => { f with ratioNext := some ⟨s.fir.cfg.withRatio (parsePace c.packet), s.tick⟩ })) := by
  unfold effPaceConfig
  simp [hgood, hratio, hstate, hnone]

theorem effPaceRole_of_stopped (hrole : u8 c.packet 8 ≤ 2) (hzero : zeroRange c.packet 9 64 = true) (hstate : s.fir.state = .stopped) :
    effPaceRole c s = good (s.modFir (fun f => { f with role := u8 c.packet 8 })) := by
  unfold effPaceRole
  dsimp only
  rw [if_neg (by simp [hzero, hrole]), if_neg (by simp [hstate])]

/-- FIR of a follower whose pacing starts at line `first` (R153, R156, R157). -/
def Fir.startedFollower (f : Fir) (first dist tick : Nat) (eh : Int) : Fir :=
  { f with state := .running, paced := true, between := false, holding := false, q := 0, cFrac := 0, c := 0, e0 := eh, ehLast := eh,
           ehSum := 0, planSteps := 0, hwm := 0, retreated := false, qStart := 0, dist := dist, firstLine := first, firstDir := 0,
           passNo := 0, passStart := first, nextLine := first, startTick := tick, stopWait := [] }

/-- A follower's pacing starts at the line after its last (R153, R164). -/
theorem State.startPacing_follower {l : Nat} {ch : Chan} (hrole : s.fir.role = 2) (hscan : s.fir.cfg.scanning = false)
    (hlast : s.fir.lastLine = some l) (hchan : s.slipChan = some ch) (hwait : s.fir.stopWait = []) (first dist : Nat) :
    s.startPacing first dist 0 = { s with fir := s.fir.startedFollower (l + 1) dist s.tick ch.eh } := by
  unfold State.startPacing
  simp [hrole, hscan, hlast, hchan, hwait, State.completeAll]
  rfl

theorem effPaceStart_of_follower (hpad : u16 c.packet 14 = 0) (hzero : zeroRange c.packet 25 64 = true)
    (hdist : u64 c.packet 16 ≥ s.fir.cfg.pitch) (hdir : u8 c.packet 24 = 0) (hrole : s.fir.role = 2) (hsource : s.fir.cfg.source = 3)
    (hscan : s.fir.cfg.scanning = false) (hstate : s.fir.state = .stopped) (hcfg : s.fir.cfgDone = true) (hgeo : s.geo.active ≠ 0)
    (habsent : s.sourceAbsent = false) (hlat : s.latencyShort = false) (hhigh : s.gng.otherLow = false) :
    effPaceStart c s = good ((s.modFir (fun f => { f with haltDrive := false })).startPacing (u48 c.packet 8) (u64 c.packet 16) 0) := by
  have hpos : s.noPosition = false := by simp [State.noPosition, hscan]
  have hstart : s.startBad c.packet = false := by simp [State.startBad, roleSource, hrole, hsource, hscan, hdir, hlat, hdist]
  unfold effPaceStart
  simp [hpad, hzero, hdir, Fir.runs_of_stopped hstate, hcfg, hgeo, hpos, habsent, hstart, hhigh]

/-- FIR when pacing stops, on a device that is not halted (R174). -/
def Fir.pacingStopped (f : Fir) : Fir :=
  { f with paced := false, between := false, holding := false, retreated := false, stopWait := [], c := 0, cFrac := 0, state := .stopped }

/-- Pacing without a waiting PACE_STOP stops on a device that is no master (R174). -/
theorem State.stopNow_of_running (hstate : s.fir.state = .running) (hrole : s.fir.role ≠ 1) (hwait : s.fir.stopWait = []) :
    s.stopNow = { s with fir := s.fir.pacingStopped, twn := { s.twn with predTick := none, predFlags := none } } := by
  simp [State.stopNow, State.stopPacing, State.sendGong, State.completeAll, hstate, hrole, hwait, State.modFir, State.modTwn, Fir.pacingStopped]

theorem effPaceStop_at_once (hwhen : u8 c.packet 8 = 0) (hhalt : u8 c.packet 9 = 0) (hzero : zeroRange c.packet 10 16 = true)
    (hzero' : zeroRange c.packet 22 64 = true) (hstate : s.fir.state = .running) (hpaced : s.fir.paced = true) :
    effPaceStop c s = good s.stopNow := by
  unfold effPaceStop
  simp [hwhen, hhalt, hzero, hzero', hstate, hpaced]

end

end Sys2Proof.Machine

open Sys2Proof Sys2Proof.Machine

/-- Settles O23: each command passes its own tests in the state its hypotheses describe, and commits what its rule says. -/
theorem pacingIsConfiguredStartedAndStopped : Obligations.PacingIsConfiguredStartedAndStopped := by
  unfold Obligations.PacingIsConfiguredStartedAndStopped
  refine ⟨?config, ?ratio, ?role, ?start, ?stop, ?query⟩
  case config =>
    rintro s r c h hgood hfull hstate u rfl
    rw [exec_paceConfig_atOnce h, effPaceConfig_of_stopped (s := s.begun r c (.ok [])) (c := { c with host := .ok [] }) hgood hfull hstate,
      settle_good]
    rfl
  case ratio =>
    intro s r c h hgood hratio hstate hnone
    rw [exec_paceConfig_atOnce h, effPaceConfig_ratioOnly (s := s.begun r c (.ok [])) (c := { c with host := .ok [] }) hgood hratio hstate hnone,
      settle_good]
    rfl
  case role =>
    intro s r c h hrole hzero hstate
    rw [exec_paceRole_atOnce h, effPaceRole_of_stopped (s := s.begun r c (.ok [])) (c := { c with host := .ok [] }) hrole hzero hstate,
      settle_good]
  case start =>
    intro s r c l ch h hpad hzero hdist hdir hrole hsource hscan hstate hcfg hgeo habsent hlat hhigh hwait hlast hchan
    have hfir := State.startPacing_follower (s := (s.begun r c (.ok [])).modFir (fun f => { f with haltDrive := false })) hrole hscan hlast
      hchan hwait (u48 c.packet 8) (u64 c.packet 16)
    rw [exec_paceStart_atOnce h, effPaceStart_of_follower (s := s.begun r c (.ok [])) (c := { c with host := .ok [] }) hpad hzero hdist hdir
      hrole hsource hscan hstate hcfg hgeo habsent hlat hhigh, hfir, settle_good]
    obtain ⟨_, hframe⟩ := s.begun_complete_firTwn_frame r c (.ok [])
      (Fir.startedFollower { s.fir with haltDrive := false } (l + 1) (u64 c.packet 16) s.tick ch.eh) s.twn c.id Status.ok []
    exact ⟨_, congrArg _ hframe, rfl, rfl, rfl, rfl, rfl, rfl, rfl, rfl, rfl⟩
  case stop =>
    intro s r c h hwhen hhalt hzero hzero' hstate hpaced hrole hwait
    rw [exec_paceStop_atOnce h, effPaceStop_at_once (s := s.begun r c (.ok [])) (c := { c with host := .ok [] }) hwhen hhalt hzero hzero' hstate
      hpaced, State.stopNow_of_running (s := s.begun r c (.ok [])) hstate hrole hwait, settle_good]
    obtain ⟨_, hframe⟩ := s.begun_complete_firTwn_frame r c (.ok []) s.fir.pacingStopped { s.twn with predTick := none, predFlags := none }
      c.id Status.ok []
    exact ⟨_, congrArg _ hframe, rfl, rfl, rfl, rfl, rfl, rfl⟩
  case query =>
    intro s r c h
    exact exec_paceQuery_atOnce h

end

section
/-! The substitution commands (R217 to R223): the tables that each one commits, and what it leaves. -/
namespace Sys2Proof.Machine

/-! The SUB commands commit their effects. -/

section
variable {s : State} {r : Fin 4} {c : Cmd}

theorem exec_subDefects_atOnce (h : s.atOnce r 0x0401 c = true) (d : HostRead) :
    exec (.subDefects r d) s = .next (settle c.id (effSubDefects { c with host := d } (s.begun r c d))) := by
  rw [← startCommand_atOnce h]; rfl

theorem exec_subLevelmap_atOnce (h : s.atOnce r 0x0402 c = true) :
    exec (.subLevelmap r) s = .next (settle c.id (effSubLevelmap { c with host := .ok [] } (s.begun r c (.ok [])))) := by
  rw [← startCommand_atOnce h]; rfl

theorem exec_subPolicy_atOnce (h : s.atOnce r 0x0403 c = true) :
    exec (.subPolicy r) s = .next (settle c.id (effSubPolicy { c with host := .ok [] } (s.begun r c (.ok [])))) := by
  rw [← startCommand_atOnce h]; rfl

theorem exec_subQuery_atOnce (h : s.atOnce r 0x0404 c = true) :
    exec (.subQuery r) s = .next (settle c.id (effSubQuery { c with host := .ok [] } (s.begun r c (.ok [])))) := by
  rw [← startCommand_atOnce h]; rfl

end

/-- After a command's completion no command in flight with its identity goes on (R41). -/
theorem State.complete_inflight_completing {s : State} {id st : Nat} {res : List Byte} {x : Cmd}
    (hx : x ∈ (s.complete id st res).hif.inflight) (hid : x.id = id) : x.completing = true := by
  rw [State.complete_inflight] at hx
  obtain ⟨y, -, rfl⟩ := List.mem_map.1 hx
  unfold Cmd.completed at hid ⊢
  split
  · rfl
  case isFalse h =>
    rw [if_neg h] at hid
    simpa [hid] using h

/-- A command whose effect changed SUB and STK alone has changed the host interface besides. -/
theorem State.complete_subStk_begun (s : State) (r : Nat) (c : Cmd) (d : HostRead) (u : Sub) (k : Stk) (id st : Nat) (res : List Byte) :
    { s.begun r c d with sub := u, stk := k }.complete id st res =
      { s with hif := ((s.begun r c d).complete id st res).hif, sub := u, stk := k } := rfl

theorem State.complete_modSub_begun (s : State) (r : Nat) (c : Cmd) (d : HostRead) (f : Sub → Sub) (id st : Nat) (res : List Byte) :
    ((s.begun r c d).modSub f).complete id st res = { s with hif := ((s.begun r c d).complete id st res).hif, sub := f s.sub } :=
  s.complete_subStk_begun r c d (f s.sub) s.stk id st res

/-! A SUB change: its stamp and its plan (R217). -/

/-- SUB with a change to tables `t`, stamped `lc`. -/
def Sub.changed (u : Sub) (t : SubTables) (lc : Nat) : Sub :=
  { u with cur := t, plans := addPlan u.plans lc (stampLine lc + 80) t, lastStamp := lc, effectLine := stampLine lc + 80 }

/-- A change that makes no nozzle SPENT writes no event (R216). -/
theorem State.commitSub_of_no_spent {c : SubChange} (h : c.spent = []) (s : State) (verdict : Bool) :
    s.commitSub c verdict = s.modSub (fun u => u.changed c.tables s.stamp) := by
  unfold State.commitSub
  rw [h]
  rfl

/-- A device that is not told a stamp takes the last press line triggered (R217, R218). -/
theorem State.stamp_of_own {s : State} (h : s.sub.leadStamp = none) : s.stamp = s.pressLine := by
  rw [State.stamp, h]; rfl

/-- From the line that its stamp gives on, the changed tables are the ones at work (R217). -/
theorem Sub.planAt_changed (u : Sub) (t : SubTables) (lc : Nat) : (u.changed t lc).planAt (stampLine lc + 80) = t := by
  simp [Sub.planAt, Sub.changed, addPlan]

/-! SUB_DEFECTS (R220). -/

/-- The host has named the nozzles of entries `es`: their states are the host's from now on (R259), and
the nozzles whose STATE is set leave the retest list (R260). -/
def State.hostNames (s : State) (es : List Nat) : State :=
  { s with
    sub := { s.sub with hostAt := es.foldl (fun t e => t.set 0 (defNoz e) (s.pairTick + 1)) s.sub.hostAt },
    stk := { s.stk with retest := s.stk.retest.filter (fun x => !((es.filter (fun e => bit e 28)).map defNoz).contains x.1) } }

theorem State.complete_hostNames_begun (s : State) (r : Nat) (c : Cmd) (d : HostRead) (es : List Nat) (f : Sub → Sub) (id st : Nat)
    (res : List Byte) : (((s.begun r c d).hostNames es).modSub f).complete id st res =
      { s with hif := ((s.begun r c d).complete id st res).hif, sub := f ((s.begun r c d).hostNames es).sub,
               stk := ((s.begun r c d).hostNames es).stk } :=
  s.complete_subStk_begun r c d (f ((s.begun r c d).hostNames es).sub) ((s.begun r c d).hostNames es).stk id st res

/-- Good entries without RESET_ALL change the tables one after the other, and are answered. -/
theorem subDefectsCommit_of_good {p : List Byte} {es : List Nat} (hgood : es.all defOk = true) (hkeep : bit (u8 p 20) 0 = false) (s : State) :
    ∃ res, subDefectsCommit p es s =
      answer ((s.hostNames es).commitSub (es.foldl (SubChange.entry s.activeSet) { tables := s.sub.cur }) false) res := by
  unfold subDefectsCommit
  rw [if_neg (by simp [hgood]), hkeep]
  exact ⟨_, rfl⟩

/-- An entry list in the packet that the packet's checks pass is committed without a read of host memory. -/
theorem effSubDefects_inline {c : Cmd} (hgood : subDefectsBad c.packet = false) (haddr : u64 c.packet 8 = 0) (s : State) :
    effSubDefects c s = subDefectsCommit c.packet (defEntries (u32 c.packet 16) (c.packet.drop 24)) s := by
  unfold effSubDefects
  dsimp only
  rw [if_neg (by simp [hgood]), if_pos haddr]

theorem subDefectsBad_of_one {p : List Byte} (haddr : u64 p 8 = 0) (hcount : u32 p 16 = 1) (hflags : u8 p 20 = 0)
    (hzero : zeroRange p 28 56 = true) : subDefectsBad p = false := by
  simp [subDefectsBad, haddr, hcount, hflags, hzero]

theorem defEntries_one (p : List Byte) : defEntries 1 (p.drop 24) = [u32 p 24] := by
  rw [u32, uN_of_drop (off := 24) rfl 4 0]
  rfl

theorem defOk_of_blocked {e : Nat} (hstate : defState e = stBlocked) (hpad : bits e 31 30 = 0) : defOk e = true := by
  rw [defOk, hstate, hpad]
  rfl

section
variable {e : Nat} (hstate : defState e = stBlocked) (hset : bit e 28 = true) (hmap : bit e 29 = false)
include hstate hset hmap

/-- Blocking a nozzle that is not DEAD promotes none (R216). -/
theorem SubChange.entry_blocks {c : SubChange} (hdead : nozState c.tables (defNoz e) ≠ stDead) (g : GeoSet) :
    c.entry g e = { c with tables := c.tables.setState (defNoz e) stBlocked false } := by
  have hblocked : stBlocked ≠ stDead := by decide
  simp [SubChange.entry, SubChange.write, hstate, hset, hmap, hdead, hblocked]

/-- The nozzle is BLOCKED by the host and leaves the retest list (R220, R260). -/
theorem subDefectsCommit_blocks {p : List Byte} {s : State} (hpad : bits e 31 30 = 0) (hkeep : bit (u8 p 20) 0 = false)
    (hdead : nozState s.sub.cur (defNoz e) ≠ stDead) : ∃ res, subDefectsCommit p [e] s =
      answer ((s.hostNames [e]).modSub (fun u => u.changed (s.sub.cur.setState (defNoz e) stBlocked false) s.stamp)) res := by
  obtain ⟨res, hcommit⟩ := subDefectsCommit_of_good (es := [e]) (by simp [defOk_of_blocked hstate hpad]) hkeep s
  rw [List.foldl_cons, List.foldl_nil, SubChange.entry_blocks hstate hset hmap hdead, State.commitSub_of_no_spent rfl] at hcommit
  exact ⟨res, hcommit⟩
end

/-- The retest list without the nozzle that one entry with SET_STATE names. -/
theorem State.hostNames_retest {e : Nat} (hset : bit e 28 = true) (s : State) :
    (s.hostNames [e]).stk.retest = s.stk.retest.filter (fun x => x.1 != defNoz e) := by
  have hnames : (([e].filter (fun e => bit e 28)).map defNoz) = [defNoz e] := by simp [hset]
  unfold State.hostNames
  simp only [hnames, List.contains_cons, List.contains_nil, Bool.or_false]
  rfl

/-- The fields of an entry that writes STATE 3 of a nozzle with SET_STATE alone: 131 is 2 ^ 7 + 3. -/
theorem blockEntry_fields {n e : Nat} (he : e = n + 131 * 2 ^ 21) (hn : n < 2 ^ 21) : defNoz e = n ∧ defState e = stBlocked ∧
    bits e 31 30 = 0 ∧ bit e 28 = true ∧ bit e 29 = false := by
  unfold defNoz defState bits bit stBlocked
  rw [decide_eq_true_eq, decide_eq_false_iff_not]
  omega

/-! SUB_LEVELMAP, SUB_POLICY and SUB_QUERY (R221 to R223). -/

section
variable {s : State} {c : Cmd}

/-- A map of levels up to 15, not the identity, is taken by a class that the active generation does not define (R221). -/
theorem effSubLevelmap_takes {es : List Nat} (hclass : u8 c.packet 8 ≤ 15) (hmap : u8 c.packet 9 ≤ 15)
    (hbits : (s.activeSet.classAt (u8 c.packet 8)).bits = 0) (hes : es = (List.range 16).map (fun i => u8 c.packet (16 + i)))
    (hzero : u8 c.packet 16 = 0) (hlevel : ∀ x ∈ es, x < 16) (hid : es ≠ identityMap) :
    effSubLevelmap c s = good (s.modSub (fun u =>
      u.changed { s.sub.cur with maps := s.sub.cur.maps.set [] (16 * u8 c.packet 8 + u8 c.packet 9) es } s.stamp)) := by
  have hfirst : ¬ es.getD 0 0 ≠ 0 := by rw [hes]; exact not_not_intro hzero
  have hfits : es.any (fun e => decide (16 ≤ e)) = false := by simpa using hlevel
  have hdrop : es.drop 16 = [] := List.drop_of_length_le (by simp [hes])
  unfold effSubLevelmap
  dsimp only
  rw [if_neg (by omega), if_pos hbits, ← hes, if_neg (not_or_intro hfirst (by simp [hfits, hdrop])), if_neg hid, State.commitSub_of_no_spent rfl]

theorem effSubPolicy_of_class (hclass : u8 c.packet 8 ≤ 15) (hflags : u8 c.packet 9 < 4) :
    effSubPolicy c s = good (s.modSub (fun u =>
      u.changed { s.sub.cur with policy := s.sub.cur.policy.set 0 (u8 c.packet 8) (u8 c.packet 9) } s.stamp)) := by
  have hspare : bit (u8 c.packet 9) 2 = false := by unfold bit; rw [decide_eq_false_iff_not]; omega
  unfold effSubPolicy
  dsimp only
  rw [if_neg (by simp [hspare]; omega), if_neg (by omega), State.commitSub_of_no_spent rfl]
  rfl

theorem effSubQuery_die (hmode : u8 c.packet 8 = 0) (hdie : u16 c.packet 12 ≤ 1023) (hzero : zeroRange c.packet 16 32 = true) :
    effSubQuery c s = answer s (subDieResults (u16 c.packet 12) s) := by
  unfold effSubQuery
  dsimp only
  rw [if_pos hmode, if_neg (by simp [hzero]; omega)]
end

end Sys2Proof.Machine

open Sys2Proof Sys2Proof.Machine

/-- Settles O22: each command passes its checks in the state its hypotheses describe, and the change it commits is stamped with the last
line triggered. -/
theorem substitutionTablesChange : Obligations.SubstitutionTablesChange := by
  unfold Obligations.SubstitutionTablesChange
  refine ⟨?defects, ?levelmap, ?policy, ?query⟩
  case defects =>
    intro s r c n d h haddr hcount hflags hzero hentry hn hdead hown
    obtain ⟨hnoz, hstate, hpad, hset, hmap⟩ := blockEntry_fields hentry hn
    obtain ⟨res, hcommit⟩ := subDefectsCommit_blocks (p := c.packet) (s := s.begun r c d) hstate hset hmap hpad (by rw [hflags]; rfl)
      (hnoz.symm ▸ hdead)
    have hexec := exec_subDefects_atOnce h d
    rw [effSubDefects_inline (c := { c with host := d }) (subDefectsBad_of_one haddr hcount hflags hzero) haddr, hcount, defEntries_one,
      hcommit, settle_answer, State.complete_hostNames_begun] at hexec
    refine ⟨_, hexec, rfl, ?_, ?_, fun x => State.complete_inflight_completing, ?_⟩
    · rw [hnoz]; rfl
    · rw [← State.stamp_of_own hown]; rfl
    · rw [← hnoz]; exact State.hostNames_retest hset (s.begun r c d)
  case levelmap =>
    intro s r c h hclass hmap hbits hzero hlevel hid hown
    have hlevels : ∀ x ∈ (List.range 16).map (fun i => u8 c.packet (16 + i)), x < 16 := by simpa using hlevel
    have hexec := exec_subLevelmap_atOnce h
    rw [effSubLevelmap_takes (s := s.begun r c (.ok [])) (c := { c with host := .ok [] }) hclass hmap hbits rfl hzero hlevels hid,
      settle_good, State.complete_modSub_begun] at hexec
    have hstamp := State.stamp_of_own hown
    refine ⟨_, _, hexec, rfl, rfl, rfl, hstamp, ?_, ?_⟩
    · rw [← hstamp]; rfl
    · rw [← hstamp]; exact Sub.planAt_changed ..
  case policy =>
    intro s r c h hclass hflags hown
    have hexec := exec_subPolicy_atOnce h
    rw [effSubPolicy_of_class (s := s.begun r c (.ok [])) (c := { c with host := .ok [] }) hclass hflags, settle_good,
      State.complete_modSub_begun] at hexec
    refine ⟨_, hexec, rfl, rfl, ?_⟩
    rw [← State.stamp_of_own hown]; rfl
  case query =>
    intro s r c h hmode hdie hzero
    rw [exec_subQuery_atOnce h, effSubQuery_die (s := s.begun r c (.ok [])) (c := { c with host := .ok [] }) hmode hdie hzero, settle_answer]
    rfl

end

section
/-! The image pipeline (R237): the ranges of its values. -/
namespace Sys2Proof.Machine

theorem clamp12_le (x : Int) : clamp12 x ≤ 4095 := by
  unfold clamp12 clampI; omega

theorem displayValue_le (p : PipeCoef) (c m : Nat) : displayValue p c m ≤ 255 :=
  Int.toNat_le.2 (Int.min_le_left ..)

/-- An absorbance is 0 or a clamped value. -/
theorem absorbance_le (white x : Nat) : absorbance white x ≤ 4095 := by
  unfold absorbance
  split
  · exact Nat.zero_le _
  · exact clamp12_le _

theorem pipePixel_display_le (p : PipeCoef) (tap : Nat) (u : List Nat) : ∀ x ∈ (pipePixel p tap u).1, x ≤ 255 :=
  List.forall_mem_map.2 fun c _ => displayValue_le p c _

theorem pipePixel_absorbance_le (p : PipeCoef) (tap : Nat) (u : List Nat) : ∀ x ∈ (pipePixel p tap u).2, x ≤ 4095 :=
  List.forall_mem_map.2 fun _ _ => absorbance_le ..

@[simp] theorem pipePixel_display_length (p : PipeCoef) (tap : Nat) (u : List Nat) : (pipePixel p tap u).1.length = 3 :=
  List.length_map ..

@[simp] theorem pipePixel_absorbance_length (p : PipeCoef) (tap : Nat) (u : List Nat) : (pipePixel p tap u).2.length = 3 :=
  List.length_map ..

end Sys2Proof.Machine

open Sys2Proof Sys2Proof.Machine

/-- Settles O32: the display value is cut at 255 and the absorbance clamped at 4,095 after every use of the coefficients. -/
theorem pipelineValuesStayInRange : Obligations.PipelineValuesStayInRange := by
  unfold Obligations.PipelineValuesStayInRange
  intro p tap u
  exact ⟨pipePixel_display_le p tap u, pipePixel_absorbance_le p tap u, pipePixel_display_length p tap u, pipePixel_absorbance_length p tap u⟩

end

section
/-! Camera ports and units (R226, R229, R236, R238, R239, R245, R246): the CAM commands that set them up, start and stop them. -/
namespace Sys2Proof.Machine

/-! The CAM commands commit their effects. -/

section
variable {s : State} {r : Fin 4} {c : Cmd}

theorem exec_camPort_atOnce (h : s.atOnce r 0x0701 c = true) :
    exec (.camPort r) s = .next (settle c.id (effCamPort { c with host := .ok [] } (s.begun r c (.ok [])))) := by
  rw [← startCommand_atOnce h]; rfl

theorem exec_camSensorDesc_atOnce (h : s.atOnce r 0x0702 c = true) :
    exec (.camSensorDesc r) s = .next (settle c.id (effCamSensorDesc { c with host := .ok [] } (s.begun r c (.ok [])))) := by
  rw [← startCommand_atOnce h]; rfl

theorem exec_camPipe_atOnce (h : s.atOnce r 0x0704 c = true) (d : HostRead) :
    exec (.camPipe r d) s = .next (settle c.id (effCamPipe { c with host := d } (s.begun r c d))) := by
  rw [← startCommand_atOnce h]; rfl

theorem exec_camOutputs_atOnce (h : s.atOnce r 0x0705 c = true) :
    exec (.camOutputs r) s = .next (settle c.id (effCamOutputs { c with host := .ok [] } (s.begun r c (.ok [])))) := by
  rw [← startCommand_atOnce h]; rfl

theorem exec_camStart_atOnce (h : s.atOnce r 0x0706 c = true) :
    exec (.camStart r) s = .next (settle c.id (effCamStart { c with host := .ok [] } (s.begun r c (.ok [])))) := by
  rw [← startCommand_atOnce h]; rfl

theorem exec_camStop_atOnce (h : s.atOnce r 0x0707 c = true) :
    exec (.camStop r) s = .next (settle c.id (effCamStop { c with host := .ok [] } (s.begun r c (.ok [])))) := by
  rw [← startCommand_atOnce h]; rfl

end

/-- A deskew of an enabled port is marked. -/
theorem exec_csiDeskewDone_of_enabled {s : State} {p : Fin 4} (h : (s.camPort p).lanes ≠ 0) :
    exec (.csiDeskewDone p) s = .next (s.modCamPort p (fun q => { q with deskewed := true })) := by
  change execCsiDeskewDone p s = _
  exact if_neg h

/-! Sums over the units (R236, R239). -/

theorem sumNat_eq_sum (xs : List Nat) : sumNat xs = xs.sum := List.sum_eq_foldl.symm

/-- A unit without the machine-vision output has no profile columns (R239). -/
theorem CamUnit.profileCols_of_disabled {o : CamOut} (h : bit o.enable 2 = false) (x : CamUnit) : x.profileCols o = 0 := by
  simp [CamUnit.profileCols, h]

/-- With no machine-vision output, in the new outputs or another unit's, the units have no profile columns (R239). -/
theorem State.profileCols_sum_of_disabled {s : State} {u : Nat} {o : CamOut} (ho : bit o.enable 2 = false)
    (hother : ∀ k : Fin 16, k.val ≠ u → bit (s.camUnit k).outsComing.enable 2 = false) :
    sumNat (camList.map (fun k => (s.camUnit k).profileCols (if k = u then o else (s.camUnit k).outsComing))) = 0 := by
  rw [sumNat_eq_sum, List.sum_eq_zero_iff_forall_eq_nat]
  refine List.forall_mem_map.2 fun k hk => CamUnit.profileCols_of_disabled ?_ _
  split
  · exact ho
  · next hne => exact hother ⟨k, List.mem_range.1 hk⟩ hne

/-- A unit alone fits when its line occupies no more than three times MIN_LINE (R236). -/
theorem roundFits_one {d : SensorDesc} (h : d.clocks ≤ 3 * d.minLine) : roundFits [d] = true := by
  simp [roundFits, sumNat, h]

/-! Streams (R239). -/

section
variable {s : State} {u : Nat} {o : CamOut} (h : bit o.enable 1 = false)
include h

theorem State.streamFits_of_uncoded : s.streamFits u o = true := by
  simp [State.streamFits, h]

theorem State.attachStream_of_uncoded : s.attachStream u o = s := by
  simp [State.attachStream, h]

end

/-! Their effects. -/

/-- What CAM_PORT makes of its port (R226). -/
def CamPort.configured (q : CamPort) (p : List Byte) : CamPort :=
  { q with lanes := u8 p 9, speed := u8 p 10, rate := u32 p 12, laneMap := u8 p 16, polarity := u8 p 17, deskewed := false }

/-- A unit that CAM_START has started (R245): its frames count from 0, and an exposure set that a command still waits for is of the time
before the start (log entry 61). -/
def CamUnit.startedAt (x : CamUnit) (tick : Nat) : CamUnit :=
  { x with started := some tick, stopping := false, nextFrame := 0, open_ := none, dead := false, expCur := 0,
           exps := (x.exps.filter (fun e => e.cmd.isSome)).map (fun e => { e with stale := true }) }

section
variable {s : State} {c : Cmd}

theorem effCamPort_of_idle (hport : u8 c.packet 8 < 4) (hlanes : [0, 1, 2, 4].contains (u8 c.packet 9) = true) (hspeed : u8 c.packet 10 ≤ 2)
    (hrate : 80 ≤ u32 c.packet 12) (hrate' : u32 c.packet 12 ≤ 4500) (hpol : u8 c.packet 17 < 32)
    (hidle : s.portStarted (u8 c.packet 8) = false) :
    effCamPort c s = good (s.modCamPort (u8 c.packet 8) (fun q => q.configured c.packet)) := by
  have hrange : ¬(4 ≤ u8 c.packet 8 ∨ !([0, 1, 2, 4].contains (u8 c.packet 9)) = true ∨ 2 < u8 c.packet 10 ∨ u32 c.packet 12 < 80
      ∨ 4500 < u32 c.packet 12 ∨ 32 ≤ u8 c.packet 17) := by
    simp only [hlanes, decide_true, Bool.not_true, Bool.false_eq_true, false_or]; omega
  unfold effCamPort
  dsimp only
  rw [if_neg hrange, if_neg (by simp [hidle])]
  rfl

theorem effCamSensorDesc_of_stopped (hgood : descBad c.packet = false) (hstopped : (s.camUnit (u8 c.packet 8)).started = none) :
    effCamSensorDesc c s = good (s.modCamUnit (u8 c.packet 8) (fun u => { u with desc := some (parseDesc c.packet) })) := by
  simp [effCamSensorDesc, hgood, hstopped]

/-- The coefficients that the host's block brings wait for the one unit that the packet names (R238). -/
theorem effCamPipe_of_unit {b : List Byte} (hunit : u8 c.packet 8 < 16) (haddr : u64 c.packet 16 % 64 = 0) (hgood : pipeBad b = false) :
    effCamPipe { c with host := .ok b } s =
      good (s.modCamUnit (u8 c.packet 8) (fun x => { x with pipeNext := x.pipeNext ++ [⟨parsePipe b, s.tick⟩] })) := by
  have hone : u8 c.packet 8 ≠ 0xFF := by omega
  unfold effCamPipe
  dsimp only
  rw [if_neg (by omega), withHost_ok, if_neg (by simp [hgood]), if_neg hone]
  rfl

/-- Outputs without a stream and without profiles wait for the next FS of a started unit (R239). -/
theorem effCamOutputs_of_started {d : SensorDesc} (hgood : outsBad c.packet = false) (hcode : bit (u8 c.packet 9) 1 = false)
    (hmv : bit (u8 c.packet 9) 2 = false) (hdesc : (s.camUnit (u8 c.packet 8)).desc = some d) (hfits : (parseOuts c.packet).misfits d = false)
    (hother : ∀ k : Fin 16, k.val ≠ u8 c.packet 8 → bit (s.camUnit k).outsComing.enable 2 = false)
    (hstarted : (s.camUnit (u8 c.packet 8)).started ≠ none) :
    effCamOutputs c s =
      good (s.modCamUnit (u8 c.packet 8) (fun x => { x with outsNext := x.outsNext ++ [⟨parseOuts c.packet, s.tick⟩] })) := by
  have hstream : s.streamFits (u8 c.packet 8) (parseOuts c.packet) = true := State.streamFits_of_uncoded hcode
  have hattach : s.attachStream (u8 c.packet 8) (parseOuts c.packet) = s := State.attachStream_of_uncoded hcode
  have hcols := State.profileCols_sum_of_disabled (o := parseOuts c.packet) hmv hother
  unfold effCamOutputs
  simp only [hgood, hstream, hdesc, hfits, hcols, hattach, Option.isSome_iff_ne_none.2 hstarted]
  simp

/-- A described unit of an enabled port starts when no other is started and its line fits (R236, R245). -/
theorem effCamStart_of_alone {d : SensorDesc} (hunit : u8 c.packet 8 < 16) (hdesc : (s.camUnit (u8 c.packet 8)).desc = some d)
    (hport : s.portOn (u8 c.packet 8) = true) (hstopped : (s.camUnit (u8 c.packet 8)).started = none) (halone : s.startedDescs = [])
    (hround : d.clocks ≤ 3 * d.minLine) (hcode : bit (s.camUnit (u8 c.packet 8)).outsComing.enable 1 = false) :
    effCamStart c s = good (s.modCamUnit (u8 c.packet 8) (fun x => x.startedAt s.tick)) := by
  unfold effCamStart
  dsimp only
  rw [if_neg (by omega), hdesc]
  dsimp only
  rw [if_neg (by simp [hport]), if_neg (by simp [hstopped]), halone, if_neg (by simp [roundFits_one hround]),
    State.attachStream_of_uncoded hcode, State.modCamUnit, CamUnit.startedAt, hdesc]

/-- A stop of a running unit is taken up, and holds for the frame in progress (R246). -/
theorem effCamStop_of_running (hunit : u8 c.packet 8 < 16) (hstarted : (s.camUnit (u8 c.packet 8)).started ≠ none)
    (hfirst : (s.camUnit (u8 c.packet 8)).stopping = false) :
    effCamStop c s = (s.modCamUnit (u8 c.packet 8) (fun x => { x with
      stopping := true, stopTick := s.tick, stopHeld := x.open_.isSome, stopCmds := x.stopCmds ++ [c.id] }), .running) := by
  unfold effCamStop
  dsimp only
  rw [if_neg (by omega), if_neg hstarted]
  simp [State.modCamUnit, hfirst]

/-- A stopped unit answers at once and lets its streams go (R239, R246; log entry 64). -/
theorem effCamStop_of_stopped (hunit : u8 c.packet 8 < 16) (hstopped : (s.camUnit (u8 c.packet 8)).started = none) :
    effCamStop c s = answer (s.releaseStreams (u8 c.packet 8) []) (leBytes 4 (s.camUnit (u8 c.packet 8)).lastFrame ++ zeros 12) := by
  unfold effCamStop
  dsimp only
  rw [if_neg (by omega), if_pos hstopped]

end

end Sys2Proof.Machine

open Sys2Proof Sys2Proof.Machine

/-- Settles O30: each command passes its own tests in the state its hypotheses describe, and does to its port or unit what its rule says. -/
theorem camerasAreConfiguredAndRun : Obligations.CamerasAreConfiguredAndRun := by
  unfold Obligations.CamerasAreConfiguredAndRun
  refine ⟨?port, fun s p => exec_csiDeskewDone_of_enabled, ?desc, ?pipe, ?outputs, ?start, ?stop, ?stopped⟩
  case port =>
    intro s r c h hport hlanes hspeed hrate hrate' hpol hidle
    rw [exec_camPort_atOnce h, effCamPort_of_idle (s := s.begun r c (.ok [])) (c := { c with host := .ok [] }) hport hlanes hspeed hrate hrate'
      hpol hidle, settle_good]
    rfl
  case desc =>
    intro s r c h hgood hstopped
    rw [exec_camSensorDesc_atOnce h, effCamSensorDesc_of_stopped (s := s.begun r c (.ok [])) (c := { c with host := .ok [] }) hgood hstopped,
      settle_good]
  case pipe =>
    intro s r c b h hunit haddr hgood
    rw [exec_camPipe_atOnce h, effCamPipe_of_unit hunit haddr hgood, settle_good]
    rfl
  case outputs =>
    intro s r c d h hgood hcode hmv hdesc hfits hother hstarted
    rw [exec_camOutputs_atOnce h, effCamOutputs_of_started (s := s.begun r c (.ok [])) (c := { c with host := .ok [] }) hgood hcode hmv hdesc
      hfits hother hstarted, settle_good]
    rfl
  case start =>
    intro s r c d h hunit hdesc hport hstopped halone hround hcode
    have hexec := exec_camStart_atOnce h
    rw [effCamStart_of_alone (s := s.begun r c (.ok [])) (c := { c with host := .ok [] }) hunit hdesc hport hstopped halone hround hcode,
      settle_good] at hexec
    have hself := (s.begun r c (.ok [])).camUnit_modCamUnit (u8 c.packet 8) (fun x => x.startedAt s.tick)
    exact ⟨_, hexec, rfl, congrArg CamUnit.started hself, congrArg CamUnit.nextFrame hself, congrArg CamUnit.open_ hself,
      congrArg CamUnit.expCur hself, (congrArg CamUnit.desc hself).trans hdesc, rfl, fun q hq => State.camUnit_setCamUnit_ne _ hq _⟩
  case stop =>
    intro s r c h hunit hstarted hfirst
    rw [exec_camStop_atOnce h, effCamStop_of_running (s := s.begun r c (.ok [])) (c := { c with host := .ok [] }) hunit hstarted hfirst,
      settle_running]
    rfl
  case stopped =>
    intro s r c h hunit hstopped
    rw [exec_camStop_atOnce h, effCamStop_of_stopped (s := s.begun r c (.ok [])) (c := { c with host := .ok [] }) hunit hstopped, settle_answer]
    rfl

end

section
/-! The verdict of a ladder step (R257): one for each band between the limits. -/
namespace Sys2Proof.Machine

section
variable {c : StkCfg} {x : Rat}

/-- A limit in 128ths is reached where 128 times the value reaches it. -/
theorem limit_div_le_iff (a x : Rat) : a / 128 ≤ x ↔ a ≤ 128 * x := by
  rw [← Rat.not_lt, Rat.lt_div_iff' (by decide), Rat.not_lt]

/-- R257's conditions with the limits compared in 128ths. -/
theorem verdictOf_eq (c : StkCfg) (x : Rat) :
    verdictOf c x = if (c.pass : Rat) ≤ 128 * x then 0 else if (c.fail : Rat) ≤ 128 * x then 1 else 2 := by
  simp only [verdictOf, limit_div_le_iff]

theorem verdictOf_of_pass_le (h : (c.pass : Rat) ≤ 128 * x) : verdictOf c x = 0 := by
  rw [verdictOf_eq, if_pos h]

theorem verdictOf_of_between (hfail : (c.fail : Rat) ≤ 128 * x) (hpass : 128 * x < c.pass) : verdictOf c x = 1 := by
  rw [verdictOf_eq, if_neg (Rat.not_le.2 hpass), if_pos hfail]

theorem verdictOf_of_lt_fail (hpass : 128 * x < c.pass) (hfail : 128 * x < c.fail) : verdictOf c x = 2 := by
  rw [verdictOf_eq, if_neg (Rat.not_le.2 hpass), if_neg (Rat.not_le.2 hfail)]

/-- What reaches PASS has reached FAIL, the lower limit. -/
theorem fail_le_of_pass_le (hlim : c.fail < c.pass) (h : (c.pass : Rat) ≤ 128 * x) : (c.fail : Rat) ≤ 128 * x :=
  Rat.le_trans (Rat.le_of_lt (Rat.natCast_lt_natCast.2 hlim)) h

end

end Sys2Proof.Machine

open Sys2Proof Sys2Proof.Machine

/-- Settles O34: a value lies in one of three bands, and in each the verdict is that band's alone, as FAIL is below PASS. -/
theorem verdictsFollowTheirLimits : Obligations.VerdictsFollowTheirLimits := by
  unfold Obligations.VerdictsFollowTheirLimits
  intro c x hlim
  by_cases hgood : (c.pass : Rat) ≤ 128 * x
  · have hfail := fail_le_of_pass_le hlim hgood
    rw [verdictOf_of_pass_le hgood]
    exact ⟨iff_of_true rfl hgood, iff_of_false (by decide) fun h => Rat.not_le.2 h.2 hgood,
      iff_of_false (by decide) (Rat.not_lt.2 hfail)⟩
  have hpass : 128 * x < c.pass := Rat.not_le.1 hgood
  by_cases hweak : (c.fail : Rat) ≤ 128 * x
  · rw [verdictOf_of_between hweak hpass]
    exact ⟨iff_of_false (by decide) hgood, iff_of_true rfl ⟨hweak, hpass⟩, iff_of_false (by decide) (Rat.not_lt.2 hweak)⟩
  · have hdead : 128 * x < c.fail := Rat.not_le.1 hweak
    rw [verdictOf_of_lt_fail hpass hdead]
    exact ⟨iff_of_false (by decide) hgood, iff_of_false (by decide) fun h => hweak h.1, iff_of_true rfl hdead⟩

end

section
/-! The planner's jerk (R271, R275): what every plan of a planning tick keeps. -/
namespace Sys2Proof.Machine

/-- The jerk is within ±JERK, and an acceleration within its limits stays there under it (R271). -/
structure Axis.Allows (a : Axis) (j : Int) : Prop where
  lower : -(a.lim.jerk : Int) ≤ j
  upper : j ≤ a.lim.jerk
  acc : a.accMin ≤ 256 * a.a → 256 * a.a ≤ a.accMax → a.accMin ≤ 256 * a.a + j ∧ 256 * a.a + j ≤ a.accMax

theorem Axis.allows_zero (a : Axis) : a.Allows 0 :=
  ⟨by omega, by omega, fun hmin hmax => by omega⟩

/-- The jerks allowed are an interval. -/
theorem Axis.Allows.between {a : Axis} {i k : Int} (hi : a.Allows i) (hk : a.Allows k) (x : Int) : a.Allows (clampI (min i k) (max i k) x) := by
  obtain ⟨hilow, hiup, hiacc⟩ := hi
  obtain ⟨hklow, hkup, hkacc⟩ := hk
  unfold clampI
  refine ⟨by omega, by omega, fun hmin hmax => ?_⟩
  have hi := hiacc hmin hmax
  have hk := hkacc hmin hmax
  omega

/-- Where the acceleration is within its limits, any jerk can be held to one allowed. -/
theorem Axis.allows_holdJerk {a : Axis} (hmin : a.accMin ≤ 256 * a.a) (hmax : 256 * a.a ≤ a.accMax) (j : Int) : a.Allows (a.holdJerk j) := by
  unfold Axis.holdJerk clampI
  exact ⟨by omega, by omega, fun _ _ => by omega⟩

/-- An acceleration outside its limits is brought towards them by at most JERK; within them every choice is held (R271). -/
theorem Axis.allows_towardVel (a : Axis) (w free : Int) : a.Allows (a.towardVel w free) := by
  unfold Axis.towardVel
  extract_lets jl acc e d push ok f
  split
  · exact ⟨by omega, by omega, fun hmin hmax => by omega⟩
  split
  · exact ⟨by omega, by omega, fun hmin hmax => by omega⟩
  next habove hbelow =>
    have hheld := Axis.allows_holdJerk (a := a) (by omega) (by omega)
    split
    · exact hheld _
    split
    · exact hheld _
    · exact hheld _

/-- The jerk towards a position is one towards a velocity or lies between two of them (R271, R272). -/
theorem Axis.allows_towardPos (a : Axis) (target vlim free : Int) : a.Allows (a.towardPos target vlim free) := by
  have hvel := fun w => a.allows_towardVel w free
  unfold Axis.towardPos
  extract_lets d stop push stays f
  split
  · exact hvel _
  split
  · exact hvel _
  split
  · exact (hvel _).between (hvel _) free
  · exact hvel _

theorem Axis.allows_velJerk (a : Axis) (w vlim free : Int) : a.Allows (a.velJerk w vlim free) := by
  unfold Axis.velJerk
  extract_lets aim
  split
  · exact a.allows_zero
  · exact a.allows_towardVel ..

/-! Speeds of the barred sign (R275). -/

/-- A speed that starts at `v` with slope `a` and curvature `j`, taken twice, is nowhere negative in the planning tick when it is not so at either
end nor at a turning point between them. -/
theorem speed_nonneg_between {v a j n m : Int} (hstart : 0 ≤ v) (hend : 0 ≤ 2 * v + 2 * a + j)
    (hturn : a < 0 → -a < j → a * a ≤ 2 * v * j) (hn : 0 ≤ n) (hnm : n ≤ m) :
    0 ≤ 2 * v * m * m + 2 * a * n * m + j * n * n := by
  have hm : 0 ≤ m := Int.le_trans hn hnm
  have hmm : 0 ≤ m * m := Int.mul_nonneg hm hm
  have hleft : 0 ≤ m - n := Int.sub_nonneg_of_le hnm
  rcases (Int.lt_or_le 0 j).symm with hj | hj
  · -- concave: above its chord
    have hchord : 2 * v * m * m + 2 * a * n * m + j * n * n =
        2 * v * ((m - n) * m) + (2 * v + 2 * a + j) * (n * m) + -j * (n * (m - n)) := by grind
    have hfirst : 0 ≤ 2 * v * ((m - n) * m) := Int.mul_nonneg (by omega) (Int.mul_nonneg hleft hm)
    have hlast : 0 ≤ (2 * v + 2 * a + j) * (n * m) := Int.mul_nonneg hend (Int.mul_nonneg hn hm)
    have hbulge : 0 ≤ -j * (n * (m - n)) := Int.mul_nonneg (by omega) (Int.mul_nonneg hn hleft)
    omega
  rcases (Int.lt_or_le a 0).symm with ha | ha
  · -- it rises from the start
    have hfirst : 0 ≤ 2 * v * m * m := Int.mul_nonneg (Int.mul_nonneg (by omega) hm) hm
    have hslope : 0 ≤ 2 * a * n * m := Int.mul_nonneg (Int.mul_nonneg (by omega) hn) hm
    have hbend : 0 ≤ j * n * n := Int.mul_nonneg (Int.mul_nonneg (by omega) hn) hn
    omega
  rcases (Int.lt_or_le (-a) j).symm with hfall | hdip
  · -- it falls to the end
    have hfalls : 2 * v * m * m + 2 * a * n * m + j * n * n =
        (2 * v + 2 * a + j) * (m * m) + (m - n) * (2 * (-a - j) * m + j * (m - n)) := by grind
    have hlast : 0 ≤ (2 * v + 2 * a + j) * (m * m) := Int.mul_nonneg hend hmm
    have hslope : 0 ≤ 2 * (-a - j) * m := Int.mul_nonneg (by omega) hm
    have hbend : 0 ≤ j * (m - n) := Int.mul_nonneg (by omega) hleft
    have hfallen := Int.mul_nonneg hleft (Int.add_nonneg hslope hbend)
    omega
  · -- it turns inside
    have hsquare : j * (2 * v * m * m + 2 * a * n * m + j * n * n) =
        (2 * v * j - a * a) * (m * m) + (a * m + j * n) * (a * m + j * n) := by grind
    have hdepth : 0 ≤ (2 * v * j - a * a) * (m * m) := Int.mul_nonneg (Int.sub_nonneg_of_le (hturn ha hdip)) hmm
    have hshape : 0 ≤ (a * m + j * n) * (a * m + j * n) := by
      rw [← Int.natAbs_mul_self]; exact Int.natCast_nonneg _
    refine Int.nonneg_of_mul_nonneg_right (a := j) ?_ hj
    omega

section
variable {a : Axis}

/-- An axis that may run both ways takes the jerk it is given. -/
theorem Axis.withJerk_of_both_ways (h : a.cfg.barred = 0) (j : Int) : a.withJerk j = { a with j := j } := by
  have hdips : a.dips j = false := by simp [Axis.dips, h]
  simp [Axis.withJerk, hdips]

/-- Under a jerk that does not dip, no speed of the barred sign is taken anywhere in the planning tick. -/
theorem Axis.barred_speed_of_not_dips {j : Int} (hdips : a.dips j = false) (hside : a.cfg.barred * a.v ≤ 0) {n m : Nat} (hnm : n ≤ m) :
    a.cfg.barred * (2 * 65536 * a.v * m * m + 2 * 256 * a.a * n * m + j * n * n) ≤ 0 := by
  generalize hd : a.cfg.barred = d at hside
  by_cases hfree : d = 0
  · simp [hfree]
  simp only [Axis.dips, hd, ne_eq, hfree, not_false_eq_true, decide_true, Bool.true_and, Bool.or_eq_false_iff, Bool.and_eq_false_imp,
    Bool.and_eq_true, decide_eq_true_eq, decide_eq_false_iff_not, Int.not_lt] at hdips
  obtain ⟨hend, hturn⟩ := hdips
  have hstart : 0 ≤ -d * 65536 * a.v := by
    have hspeed : -d * 65536 * a.v = 65536 * -(d * a.v) := by grind
    omega
  have hspeed := speed_nonneg_between hstart hend (fun h h' => hturn ⟨h, h'⟩) (Int.natCast_nonneg n) (Int.ofNat_le.2 hnm)
  calc d * (2 * 65536 * a.v * m * m + 2 * 256 * a.a * n * m + j * n * n)
      = -(2 * (-d * 65536 * a.v) * m * m + 2 * (-d * 256 * a.a) * n * m + -d * j * n * n) := by grind
    _ ≤ 0 := Int.neg_nonpos_of_nonneg hspeed

/-! What a plan keeps. -/

/-- The axis `b` is a plan of `a` within R271's limits and R275's bar. -/
structure Axis.LimitsKeptBy (a b : Axis) : Prop where
  allowed : a.cfg.barred = 0 → a.Allows b.j
  spares : a.cfg.barred * a.v ≤ 0 → ∀ n m : Nat, n ≤ m →
    a.cfg.barred * (2 * 65536 * b.v * m * m + 2 * 256 * b.a * n * m + b.j * n * n) ≤ 0

/-- A jerk within its limits is kept, and one that would dip is replaced by one that does not or by rest (R275; log entry 155). -/
theorem Axis.Allows.limitsKeptBy_withJerk {j : Int} (h : a.Allows j) : a.LimitsKeptBy (a.withJerk j) where
  allowed hboth := by rwa [Axis.withJerk_of_both_ways hboth]
  spares hside n m hnm := by
    unfold Axis.withJerk
    split
    · next hdips => exact Axis.barred_speed_of_not_dips (by simpa using hdips) hside hnm
    split
    · next hdips => exact Axis.barred_speed_of_not_dips (by simpa using hdips) hside hnm
    · simp

theorem Axis.limitsKeptBy_planPosition (a : Axis) (target vlim : Int) : a.LimitsKeptBy (a.planPosition target vlim) :=
  have h := (a.allows_towardPos target vlim (a.freeJerk 0 target vlim)).limitsKeptBy_withJerk
  ⟨h.allowed, h.spares⟩

theorem Axis.limitsKeptBy_planStop (a : Axis) : a.LimitsKeptBy (a.planStop false) :=
  have h := (a.allows_towardVel 0 (a.freeJerk 2 0 a.lim.vMax)).limitsKeptBy_withJerk
  ⟨h.allowed, h.spares⟩

/-- A speed that is kept is of no barred sign at the end as it is at the start. -/
theorem Axis.limitsKeptBy_planVelocity (a : Axis) (w vlim : Int) : a.LimitsKeptBy (a.planVelocity w vlim) := by
  unfold Axis.planVelocity
  extract_lets aim b
  split
  · next hheld =>
    refine ⟨fun _ => a.allows_zero, fun hside n m _ => ?_⟩
    calc a.cfg.barred * (2 * 65536 * a.v * m * m + 2 * 256 * a.a * n * m + 0 * n * n)
        = a.cfg.barred * a.v * (2 * 65536 * m * m) := by rw [hheld.2]; grind
      _ ≤ 0 := Int.mul_nonpos_of_nonpos_of_nonneg hside (Int.mul_nonneg (Int.mul_nonneg (by decide) (Int.natCast_nonneg m)) (Int.natCast_nonneg m))
  · have h := (a.allows_velJerk w vlim (a.freeJerk 1 w vlim)).limitsKeptBy_withJerk
    exact ⟨h.allowed, h.spares⟩

end

end Sys2Proof.Machine

open Sys2Proof Sys2Proof.Machine

/-- Settles O36: each of the three plans gives its axis an allowed jerk, held to R275's bar. -/
theorem jerkStaysWithinItsLimit : Obligations.JerkStaysWithinItsLimit := by
  unfold Obligations.JerkStaysWithinItsLimit
  intro a x vlim b hplan
  have hkept : a.LimitsKeptBy b := by
    obtain rfl | rfl | rfl := hplan
    · exact a.limitsKeptBy_planPosition x vlim
    · exact a.limitsKeptBy_planVelocity x vlim
    · exact a.limitsKeptBy_planStop
  obtain ⟨hallowed, hspares⟩ := hkept
  exact ⟨fun hboth => ⟨(hallowed hboth).lower, (hallowed hboth).upper⟩, fun hboth => (hallowed hboth).acc, hspares⟩

end

section
/-! Motion axes (R267 to R270, R277, R279 to R283, R286): what the MOT commands do at once, and the events of the axes' clock. -/
namespace Sys2Proof.Machine

/-! The MOT commands commit their effects. -/

section
variable {s : State} {r : Fin 4} {c : Cmd}

theorem exec_motAxis_atOnce (h : s.atOnce r 0x0901 c = true) :
    exec (.motAxis r) s = .next (settle c.id (effMotAxis { c with host := .ok [] } (s.begun r c (.ok [])))) := by
  rw [← startCommand_atOnce h]; rfl

theorem exec_motSine_atOnce (h : s.atOnce r 0x0902 c = true) (d : HostRead) :
    exec (.motSine r d) s = .next (settle c.id (effMotSine { c with host := d } (s.begun r c d))) := by
  rw [← startCommand_atOnce h]; rfl

theorem exec_motProfile_atOnce (h : s.atOnce r 0x0903 c = true) (d : HostRead) :
    exec (.motProfile r d) s = .next (settle c.id (effMotProfile { c with host := d } (s.begun r c d))) := by
  rw [← startCommand_atOnce h]; rfl

theorem exec_motMove_atOnce (h : s.atOnce r 0x0904 c = true) :
    exec (.motMove r) s = .next (settle c.id (effMotMove { c with host := .ok [] } (s.begun r c (.ok [])))) := by
  rw [← startCommand_atOnce h]; rfl

theorem exec_motLimits_atOnce (h : s.atOnce r 0x0905 c = true) :
    exec (.motLimits r) s = .next (settle c.id (effMotLimits { c with host := .ok [] } (s.begun r c (.ok [])))) := by
  rw [← startCommand_atOnce h]; rfl

theorem exec_motStop_atOnce (h : s.atOnce r 0x0906 c = true) :
    exec (.motStop r) s = .next (settle c.id (effMotStop { c with host := .ok [] } (s.begun r c (.ok [])))) := by
  rw [← startCommand_atOnce h]; rfl

theorem exec_motQuery_atOnce (h : s.atOnce r 0x0907 c = true) :
    exec (.motQuery r) s = .next (settle c.id (effMotQuery { c with host := .ok [] } (s.begun r c (.ok [])))) := by
  rw [← startCommand_atOnce h]; rfl

end

/-! Their effects. -/

section
variable {s : State} {c : Cmd}

/-- The configuration of an axis at rest waits; with ENABLE it takes the axis out of FAULT (R267). -/
theorem effMotAxis_of_rest (haxis : u8 c.packet 8 < 16) (hflags : u8 c.packet 9 < 32) (hok : (parseAxis c.packet).ok (u8 c.packet 8) = true)
    (hzero : zeroRange c.packet 52 64 = true) (hrest : (s.axis (u8 c.packet 8)).moves = false) :
    effMotAxis c s = good (s.modAxis (u8 c.packet 8) (fun a => { a with
      cfgNext := some ⟨parseAxis c.packet, s.tick⟩, busLow := a.busLow && !(parseAxis c.packet).enable,
      state := if (parseAxis c.packet).enable ∧ a.state = .fault then .rest else a.state })) := by
  unfold effMotAxis
  dsimp only
  rw [if_neg (by simp only [hok, hzero, reduceCtorEq, or_false]; omega), if_neg (ne_true_of_eq_false hrest)]

/-- A sine table with a good CRC is staged for the one axis that the packet names (R282). -/
theorem effMotSine_of_axis {b : List Byte} (haxis : 2 ≤ u8 c.packet 8) (haxis' : u8 c.packet 8 < 16) (haddr : u64 c.packet 16 % 64 = 0)
    (hzero : zeroRange c.packet 9 16 = true) (hzero' : zeroRange c.packet 24 64 = true) (hcrc : crc32c (b.take 512) = u32 b 512) :
    effMotSine { c with host := .ok b } s =
      good (s.modAxis (u8 c.packet 8) (fun a => { a with sineNext := some ⟨sineEntries b, s.tick⟩ })) := by
  have hone : u8 c.packet 8 ≠ 0xFF := by omega
  unfold effMotSine
  dsimp only
  rw [if_neg (by simp only [hzero, hzero', reduceCtorEq, or_false]; omega), withHost_ok, if_neg (by simp [hcrc]), if_neg hone]

/-- A profile that no move uses is stored (R277). -/
theorem effMotProfile_of_unused {b : List Byte} (haxis : u8 c.packet 8 < 16) (hindex : u8 c.packet 9 < 8) (hsegs : 0 < u8 c.packet 10)
    (hsegs' : u8 c.packet 10 ≤ 64) (haddr : u64 c.packet 16 % 16 = 0) (hzero : zeroRange c.packet 11 16 = true)
    (hzero' : zeroRange c.packet 24 64 = true) (hunused : (s.axis (u8 c.packet 8)).usesProfile (u8 c.packet 9) = false)
    (hdur : ∀ g ∈ parseSegs (u8 c.packet 10) b, g.dur ≠ 0 ∧ g.dur ≤ 2 ^ 24) :
    effMotProfile { c with host := .ok b } s =
      good (s.modAxis (u8 c.packet 8) (fun a => { a with
        profiles := a.profiles.set [] (u8 c.packet 9) (parseSegs (u8 c.packet 10) b) })) := by
  have hgood : (parseSegs (u8 c.packet 10) b).any (fun g => g.dur = 0 || decide (2 ^ 24 < g.dur)) = false := by
    simpa using hdur
  unfold effMotProfile
  dsimp only
  rw [if_neg (by simp only [hzero, hzero', reduceCtorEq, or_false]; omega), if_neg (ne_true_of_eq_false hunused), withHost_ok,
    if_neg (ne_true_of_eq_false hgood)]

/-- A move to a position within the limits of an axis with no active limit waits for the planning tick (R268, R269, R279). -/
theorem effMotMove_of_position (hgood : moveBad c.packet = false) (hkind : u8 c.packet 9 = 0)
    (hon : (s.axis (u8 c.packet 8)).cfgComing.enable = true) (hlim : (s.axis (u8 c.packet 8)).limSet = true)
    (hmin : (s.axis (u8 c.packet 8)).limComing.minPos ≤ i64 c.packet 16) (hmax : i64 c.packet 16 ≤ (s.axis (u8 c.packet 8)).limComing.maxPos)
    (hneg : s.limitActive (u8 c.packet 8) false = false) (hpos : s.limitActive (u8 c.packet 8) true = false)
    (hfault : (s.axis (u8 c.packet 8)).state ≠ .fault) (hgong : s.gongLow = false) :
    effMotMove c s = (s.modAxis (u8 c.packet 8) (fun a => { a with
      goalNext := a.goalNext ++ [⟨{ goal := .position (i64 c.packet 16), kind := 1, cmd := some c.id, set := none }, s.tick⟩] }), .running) := by
  have hmove : parseMove c.packet = { goal := .position (i64 c.packet 16), kind := 1, cmd := none, set := none } := by
    simp [parseMove, hkind]
  unfold effMotMove
  simp only [hgood, hkind, hon, hlim, hneg, hpos, hfault, hgong, hmove, Int.not_lt.2 hmin, Int.not_lt.2 hmax]
  simp

/-- Limits that hold an axis at rest where it stands wait for the planning tick (R268). -/
theorem effMotLimits_of_rest (haxis : u8 c.packet 8 < 16) (hflags : u8 c.packet 9 < 4) (hok : (parseLimits c.packet).ok = true)
    (hzero : zeroRange c.packet 48 64 = true) (hgoal : (s.axis (u8 c.packet 8)).goal = .none)
    (hnext : (s.axis (u8 c.packet 8)).goalNext = []) (hmin : i64 c.packet 32 ≤ (s.axis (u8 c.packet 8)).p)
    (hmax : (s.axis (u8 c.packet 8)).p ≤ i64 c.packet 40) :
    effMotLimits c s = good (s.modAxis (u8 c.packet 8) (fun a => { a with limNext := some ⟨parseLimits c.packet, s.tick⟩, limSet := true })) := by
  have hcoming : s.axisComing (u8 c.packet 8) = s.axis (u8 c.packet 8) := by
    simp [State.axisComing, Axis.withWaiting, hgoal, hnext]
  have hin : ¬(decide ((s.axis (u8 c.packet 8)).p < (parseLimits c.packet).minPos)
      || decide ((parseLimits c.packet).maxPos < (s.axis (u8 c.packet 8)).p)) = true := by
    rw [Bool.or_eq_true, decide_eq_true_eq, decide_eq_true_eq]
    exact not_or.2 ⟨Int.not_lt.2 hmin, Int.not_lt.2 hmax⟩
  unfold effMotLimits
  dsimp only
  rw [if_neg (by simp only [hok, hzero, reduceCtorEq, or_false]; omega), hcoming, if_neg hin, hgoal, if_neg (by simp)]

/-- A stop of one axis waits for the planning tick, and its command with it (R280). -/
theorem effMotStop_of_axis (haxis : u8 c.packet 8 < 16) (hmode : u8 c.packet 9 ≤ 2) (hzero : zeroRange c.packet 10 64 = true) :
    effMotStop c s = (s.modAxis (u8 c.packet 8) (fun a => { a with
      goalNext := a.goalNext ++ [⟨{ goal := .stop (u8 c.packet 9 == 1) (u8 c.packet 9 == 2), kind := 0, cmd := none }, s.tick⟩],
      stopCmds := a.stopCmds ++ [c.id] }), .running) := by
  have hone : u8 c.packet 8 ≠ 0xFF := by omega
  unfold effMotStop
  dsimp only
  rw [if_neg (by simp only [hzero, reduceCtorEq, or_false]; omega), if_neg hone]
  rfl

theorem effMotQuery_of_axis (haxis : u8 c.packet 8 < 16) (hzero : zeroRange c.packet 9 64 = true) :
    effMotQuery c s = answer s (leInt 8 (s.axis (u8 c.packet 8)).p ++ leInt 4 (s.axis (u8 c.packet 8)).v
      ++ leBytes 4 (s.axis (u8 c.packet 8)).shown) := by
  unfold effMotQuery
  dsimp only
  rw [if_neg (by simp only [hzero, reduceCtorEq, or_false]; omega)]

end

/-! The planning tick (R270). -/

theorem State.planDue_iff (s : State) : s.planDue = true ↔ s.running = true ∧ s.pairTick % 4000 = 0 ∧ s.mot.lastPlan ≠ some s.tick := by
  simp [State.planDue, and_assoc]

theorem exec_planningTick (s : State) : exec .planningTick s = .next (if s.planDue then s.planBlocks s.tick else s) := rfl

theorem exec_planningTick_of_due {s : State} (h : s.planDue = true) : exec .planningTick s = .next (s.planBlocks s.tick) := by
  rw [exec_planningTick, if_pos h]

theorem exec_planningTick_of_done {s : State} (h : s.mot.lastPlan = some s.tick) : exec .planningTick s = .next s := by
  rw [exec_planningTick, if_neg fun hdue => (s.planDue_iff.1 hdue).2.2 h]

/-! Limit switches and the microstep resolution (R269, R283). -/

/-- The next planning tick sees the switch of an active limit (R269). -/
theorem exec_limitSwitch_of_active {s : State} {x : Fin 16} {pos : Bool} (h : s.limitActive x pos = true) :
    exec (.limitSwitch x pos) s = .next (s.modAxis x (fun a => { a with
      limPosSeen := a.limPosSeen || pos, limNegSeen := a.limNegSeen || !pos })) := by
  change execLimitSwitch x pos s = _
  cases pos <;> simp [execLimitSwitch, h]

/-- A decided resolution takes effect after its planning tick, in a tick in which the angle agrees (R283). -/
theorem exec_microstepResolutionChange_of_agrees {s : State} {x : Fin 16} {m : Nat} (hnext : (s.axis x).resNext = some m)
    (hafter : (s.axis x).planTick < s.tick) (hangle : (s.axis x).angleAt x m s.tick = (s.axis x).angleAt x (s.axis x).res s.tick) :
    exec (.microstepResolutionChange x) s = .next (s.setAxis x { s.axis x with res := m, resNext := none }) := by
  change execMicrostepResolutionChange x s = _
  simp [execMicrostepResolutionChange, hnext, hafter, hangle]

/-! PWM periods (R285, R286). -/

/-- The axis without pulses in the present PWM period (R285). -/
def Axis.undriven (a : Axis) : Axis := { a with dutyA := 0, dutyB := 0, pulses := [] }

theorem State.driveAxis_of_not_energised {s : State} {x : Nat} (h : (s.axis x).energised = false) :
    s.driveAxis x = s.modAxis x Axis.undriven := by
  simp only [State.driveAxis, h]; rfl

/-- Driving axes that are not energised leaves them without pulses, and changes nothing else (R285). -/
theorem State.foldl_driveAxis_of_not_energised (l : List Nat) : ∀ s : State, (∀ x ∈ l, (s.axis x).energised = false) →
    ∃ t : Table Axis, l.foldl State.driveAxis s = s.modMot (fun m => { m with axes := t }) ∧
      ∀ x, (l.foldl State.driveAxis s).axis x = if x ∈ l then (s.axis x).undriven else s.axis x := by
  induction l with
  | nil => exact fun s _ => ⟨s.mot.axes, rfl, fun x => rfl⟩
  | cons y l ih =>
    intro s hoff
    have hfirst := State.driveAxis_of_not_energised (hoff y (List.mem_cons_self ..))
    have haxis (x : Nat) : (s.driveAxis y).axis x = if x = y then (s.axis x).undriven else s.axis x := by
      rw [hfirst]
      split
      · next h => rw [h, State.axis_modAxis]
      · next h => rw [State.modAxis, State.axis_setAxis_ne _ h]
    have hrest : ∀ x ∈ l, ((s.driveAxis y).axis x).energised = false := by
      intro x hx
      rw [haxis]
      split
      · exact hoff x (List.mem_cons_of_mem _ hx)
      · exact hoff x (List.mem_cons_of_mem _ hx)
    obtain ⟨t, hfold, hfoldaxis⟩ := ih _ hrest
    refine ⟨t, ?_, fun x => ?_⟩
    · rw [List.foldl_cons, hfold, hfirst]; rfl
    · rw [List.foldl_cons, hfoldaxis, haxis]
      by_cases hl : x ∈ l
      · rw [if_pos hl, if_pos (List.mem_cons_of_mem _ hl)]
        split <;> rfl
      · simp [hl]

/-- Motion with a PWM period that starts, under the period that is ready (R286). -/
def Mot.startPeriod (m : Mot) (tick : Nat) : Mot := { m with pwmAt := some tick, period := m.periodReady.getD m.period, periodReady := none }

theorem exec_pwmPeriodStart_of_first {s : State} (hfirst : s.mot.pwmAt = none) (hheld : s.sys.held = false) :
    exec .pwmPeriodStart s = .next (axisList.foldl State.driveAxis (s.modMot (fun m => m.startPeriod s.tick))) := by
  change execPwmPeriodStart s = _
  simp only [execPwmPeriodStart, hfirst, hheld]; rfl

end Sys2Proof.Machine

open Sys2Proof Sys2Proof.Machine

/-- Settles O35: each command passes its own tests in the state its hypotheses describe, and each event takes the branch they select. -/
theorem axesAreCommandedAndFollowTheirClock : Obligations.AxesAreCommandedAndFollowTheirClock := by
  unfold Obligations.AxesAreCommandedAndFollowTheirClock
  refine ⟨?config, ?sine, ?profile, ?move, ?limits, ?stop, ?query, ?due, fun s => exec_planningTick_of_done,
    fun s x pos => exec_limitSwitch_of_active, fun s x m => exec_microstepResolutionChange_of_agrees, ?pwm⟩
  case config =>
    intro s r c h haxis hflags hok hzero hrest
    rw [exec_motAxis_atOnce h, effMotAxis_of_rest (s := s.begun r c (.ok [])) (c := { c with host := .ok [] }) haxis hflags hok hzero hrest,
      settle_good]
    rfl
  case sine =>
    intro s r c b h haxis haxis' haddr hzero hzero' hcrc
    rw [exec_motSine_atOnce h, effMotSine_of_axis haxis haxis' haddr hzero hzero' hcrc, settle_good]
    rfl
  case profile =>
    intro s r c b h haxis hindex hsegs hsegs' haddr hzero hzero' hunused hdur
    rw [exec_motProfile_atOnce h, effMotProfile_of_unused (s := s.begun r c (.ok b)) haxis hindex hsegs hsegs' haddr hzero hzero' hunused hdur,
      settle_good]
  case move =>
    intro s r c h hgood hkind hon hlim hmin hmax hneg hpos hfault hgong
    rw [exec_motMove_atOnce h, effMotMove_of_position (s := s.begun r c (.ok [])) (c := { c with host := .ok [] }) hgood hkind hon hlim hmin hmax
      hneg hpos hfault hgong, settle_running]
    rfl
  case limits =>
    intro s r c h haxis hflags hok hzero hgoal hnext hmin hmax
    rw [exec_motLimits_atOnce h, effMotLimits_of_rest (s := s.begun r c (.ok [])) (c := { c with host := .ok [] }) haxis hflags hok hzero hgoal
      hnext hmin hmax, settle_good]
    rfl
  case stop =>
    intro s r c h haxis hmode hzero
    rw [exec_motStop_atOnce h, effMotStop_of_axis (s := s.begun r c (.ok [])) (c := { c with host := .ok [] }) haxis hmode hzero, settle_running]
    rfl
  case query =>
    intro s r c h haxis hzero
    rw [exec_motQuery_atOnce h, effMotQuery_of_axis (s := s.begun r c (.ok [])) (c := { c with host := .ok [] }) haxis hzero, settle_answer]
    rfl
  case due =>
    intro s hrun hinstant hnew
    exact exec_planningTick_of_due (s.planDue_iff.2 ⟨hrun, hinstant, hnew⟩)
  case pwm =>
    intro s hfirst hheld hoff
    obtain ⟨t, hfold, haxis⟩ := State.foldl_driveAxis_of_not_energised axisList (s.modMot (fun m => m.startPeriod s.tick))
      fun x hx => hoff x (List.mem_range.1 hx)
    refine ⟨_, exec_pwmPeriodStart_of_first hfirst hheld, ?_⟩
    refine ⟨by rw [hfold]; rfl, by rw [hfold]; rfl, by rw [hfold]; rfl, by rw [hfold]; rfl, fun x hx => ?_⟩
    have hmem : x ∈ axisList := List.mem_range.2 hx
    rw [haxis, if_pos hmem]
    exact ⟨rfl, rfl⟩

end

section
/-! What the vote of R391 and the queue rest on, and that the operations of every block leave it alone: one lemma for each operation, effect
and command, in the order of the definitions. -/
namespace Sys2Proof.Machine

/-- What the tick count, the queue and the voter of R391 rest on: what an operation that touches none of them leaves alone. -/
structure VoteView where
  tick : Nat
  pending : List Instr
  channels : Nat
  permit : Bool
  disagree : Bool
  withdrawals : Nat

/-- The tick count, the queue, the outputs of the three channels (R390, R391) and what was voted of them. -/
def State.voteView (s : State) : VoteView :=
  { tick := s.tick, pending := s.pending, channels := s.permitChannels, permit := s.twn.permit, disagree := s.twn.disagree,
    withdrawals := s.twn.withdrawals }

/-- What of the twin block the vote rests on: the three inputs, the three copies of ARM, and what was voted. -/
def Twn.voter (t : Twn) : (Bool × Bool × Bool) × (Bool × Bool × Bool) × Bool × Bool × Nat :=
  ((t.in0, t.in1, t.in2), (t.armA, t.armB, t.armC), t.permit, t.disagree, t.withdrawals)

@[simp] theorem Twn.voter_eq_iff {t u : Twn} : t.voter = u.voter ↔
    (t.in0 = u.in0 ∧ t.in1 = u.in1 ∧ t.in2 = u.in2) ∧ (t.armA = u.armA ∧ t.armB = u.armB ∧ t.armC = u.armC) ∧
      t.permit = u.permit ∧ t.disagree = u.disagree ∧ t.withdrawals = u.withdrawals := by
  simp only [Twn.voter, Prod.mk.injEq]

/-- The view of a state in which the queue, the ticks, the voter's fields and CLE_PERMIT are those of another. -/
theorem State.voteView_congr {s t : State} (hpending : t.pending = s.pending) (htwn : t.twn.voter = s.twn.voter) (hcle : t.cle.permit = s.cle.permit)
    (htick : t.tick = s.tick := by rfl) : t.voteView = s.voteView := by
  obtain ⟨⟨h0, h1, h2⟩, ⟨ha, hb, hc⟩, hp, hd, hw⟩ := Twn.voter_eq_iff.1 htwn
  simp only [State.voteView, State.permitChannels, htick, hpending, h0, h1, h2, ha, hb, hc, hp, hd, hw, hcle]

@[simp] theorem foldl_voteView {α : Type} {f : State → α → State} (h : ∀ s x, (f s x).voteView = s.voteView) (l : List α) (s : State) :
    (l.foldl f s).voteView = s.voteView :=
  List.foldlRecOn (motive := fun t => t.voteView = s.voteView) l f rfl fun t ht x _ => (h t x).trans ht

@[simp] theorem ite_voteView (p : Prop) [Decidable p] (s t : State) : (if p then s else t).voteView = if p then s.voteView else t.voteView :=
  apply_ite State.voteView p s t

@[simp] theorem ite_fst {α β : Type} (p : Prop) [Decidable p] (s t : α × β) : (if p then s else t).1 = if p then s.1 else t.1 :=
  apply_ite Prod.fst p s t

@[simp] theorem nextState_next (s t : State) : nextState s (.next t) = t := rfl

@[simp] theorem ite_nextState (s : State) (p : Prop) [Decidable p] (a b : Host.Outcome State Fault Refusal) :
    nextState s (if p then a else b) = if p then nextState s a else nextState s b := apply_ite _ p a b


/-! Reading and changing one block or unit of the state, and sending. -/

@[simp] theorem State.modSys_voteView (s : State) (f : Sys → Sys) : (s.modSys f).voteView = s.voteView := rfl
@[simp] theorem State.modHif_voteView (s : State) (f : Hif → Hif) : (s.modHif f).voteView = s.voteView := rfl
@[simp] theorem State.modEvt_voteView (s : State) (f : Evt → Evt) : (s.modEvt f).voteView = s.voteView := rfl
@[simp] theorem State.modGeo_voteView (s : State) (f : Geo → Geo) : (s.modGeo f).voteView = s.voteView := rfl
@[simp] theorem State.modPgq_voteView (s : State) (f : Pgq → Pgq) : (s.modPgq f).voteView = s.voteView := rfl
@[simp] theorem State.modDec_voteView (s : State) (f : Dec → Dec) : (s.modDec f).voteView = s.voteView := rfl
@[simp] theorem State.modCmp_voteView (s : State) (f : Cmp → Cmp) : (s.modCmp f).voteView = s.voteView := rfl
@[simp] theorem State.modMal_voteView (s : State) (f : Mal → Mal) : (s.modMal f).voteView = s.voteView := rfl
@[simp] theorem State.modSub_voteView (s : State) (f : Sub → Sub) : (s.modSub f).voteView = s.voteView := rfl
@[simp] theorem State.modFir_voteView (s : State) (f : Fir → Fir) : (s.modFir f).voteView = s.voteView := rfl
@[simp] theorem State.modSnr_voteView (s : State) (f : Snr → Snr) : (s.modSnr f).voteView = s.voteView := rfl
@[simp] theorem State.modCam_voteView (s : State) (f : Cam → Cam) : (s.modCam f).voteView = s.voteView := rfl
@[simp] theorem State.modStk_voteView (s : State) (f : Stk → Stk) : (s.modStk f).voteView = s.voteView := rfl
@[simp] theorem State.modMot_voteView (s : State) (f : Mot → Mot) : (s.modMot f).voteView = s.voteView := rfl
@[simp] theorem State.modEnc_voteView (s : State) (f : Enc → Enc) : (s.modEnc f).voteView = s.voteView := rfl
@[simp] theorem State.modCle_voteView (s : State) {f : Cle → Cle} (h : (f s.cle).permit = s.cle.permit) : (s.modCle f).voteView = s.voteView :=
  State.voteView_congr rfl rfl h
@[simp] theorem State.modLed_voteView (s : State) (f : Led → Led) : (s.modLed f).voteView = s.voteView := rfl
@[simp] theorem State.modTim_voteView (s : State) (f : Tim → Tim) : (s.modTim f).voteView = s.voteView := rfl

@[simp] theorem State.modTwn_voteView (s : State) {f : Twn → Twn} (h : (f s.twn).voter = s.twn.voter) : (s.modTwn f).voteView = s.voteView :=
  State.voteView_congr rfl h rfl

@[simp] theorem State.modRim_voteView (s : State) (f : Rim → Rim) : (s.modRim f).voteView = s.voteView := rfl
@[simp] theorem State.modGng_voteView (s : State) (f : Gng → Gng) : (s.modGng f).voteView = s.voteView := rfl
@[simp] theorem State.modGpio_voteView (s : State) (f : Gpio → Gpio) : (s.modGpio f).voteView = s.voteView := rfl
@[simp] theorem State.emit_voteView (s : State) (o : Out) : (s.emit o).voteView = s.voteView := rfl
@[simp] theorem State.drawn_voteView (s : State) : s.drawn.voteView = s.voteView := rfl
@[simp] theorem State.setRing_voteView (s : State) (i : Nat) (v : Ring) : (s.setRing i v).voteView = s.voteView := rfl
@[simp] theorem State.modRing_voteView (s : State) (i : Nat) (f : Ring → Ring) : (s.modRing i f).voteView = s.voteView := rfl
@[simp] theorem State.setMsixEntry_voteView (s : State) (i : Nat) (v : MsixEntry) : (s.setMsixEntry i v).voteView = s.voteView := rfl
@[simp] theorem State.setCtx_voteView (s : State) (i : Nat) (v : Ctx) : (s.setCtx i v).voteView = s.voteView := rfl
@[simp] theorem State.modCtx_voteView (s : State) (i : Nat) (f : Ctx → Ctx) : (s.modCtx i f).voteView = s.voteView := rfl
@[simp] theorem State.setStream_voteView (s : State) (i : Nat) (v : Stream) : (s.setStream i v).voteView = s.voteView := rfl
@[simp] theorem State.modStream_voteView (s : State) (i : Nat) (f : Stream → Stream) : (s.modStream i f).voteView = s.voteView := rfl
@[simp] theorem State.setEngine_voteView (s : State) (i : Nat) (v : Engine) : (s.setEngine i v).voteView = s.voteView := rfl
@[simp] theorem State.modEngine_voteView (s : State) (i : Nat) (f : Engine → Engine) : (s.modEngine i f).voteView = s.voteView := rfl
@[simp] theorem State.setLaneRing_voteView (s : State) (i : Nat) (v : LaneRing) : (s.setLaneRing i v).voteView = s.voteView := rfl
@[simp] theorem State.modLaneRing_voteView (s : State) (i : Nat) (f : LaneRing → LaneRing) : (s.modLaneRing i f).voteView = s.voteView := rfl
@[simp] theorem State.setLane_voteView (s : State) (i : Nat) (v : Lane) : (s.setLane i v).voteView = s.voteView := rfl
@[simp] theorem State.modLane_voteView (s : State) (i : Nat) (f : Lane → Lane) : (s.modLane i f).voteView = s.voteView := rfl
@[simp] theorem State.setCamPort_voteView (s : State) (i : Nat) (v : CamPort) : (s.setCamPort i v).voteView = s.voteView := rfl
@[simp] theorem State.modCamPort_voteView (s : State) (i : Nat) (f : CamPort → CamPort) : (s.modCamPort i f).voteView = s.voteView := rfl
@[simp] theorem State.setCamUnit_voteView (s : State) (i : Nat) (v : CamUnit) : (s.setCamUnit i v).voteView = s.voteView := rfl
@[simp] theorem State.modCamUnit_voteView (s : State) (i : Nat) (f : CamUnit → CamUnit) : (s.modCamUnit i f).voteView = s.voteView := rfl
@[simp] theorem State.setStkCol_voteView (s : State) (i : Nat) (v : StkCol) : (s.setStkCol i v).voteView = s.voteView := rfl
@[simp] theorem State.setAxis_voteView (s : State) (i : Nat) (v : Axis) : (s.setAxis i v).voteView = s.voteView := rfl
@[simp] theorem State.modAxis_voteView (s : State) (i : Nat) (f : Axis → Axis) : (s.modAxis i f).voteView = s.voteView := rfl
@[simp] theorem State.setChan_voteView (s : State) (i : Nat) (v : Chan) : (s.setChan i v).voteView = s.voteView := rfl
@[simp] theorem State.modChan_voteView (s : State) (i : Nat) (f : Chan → Chan) : (s.modChan i f).voteView = s.voteView := rfl
@[simp] theorem State.setProbe_voteView (s : State) (i : Nat) (v : Probe) : (s.setProbe i v).voteView = s.voteView := rfl
@[simp] theorem State.modProbe_voteView (s : State) (i : Nat) (f : Probe → Probe) : (s.modProbe i f).voteView = s.voteView := rfl
@[simp] theorem State.setCmpr_voteView (s : State) (i : Nat) (v : Cmpr) : (s.setCmpr i v).voteView = s.voteView := rfl
@[simp] theorem State.modCmpr_voteView (s : State) (i : Nat) (f : Cmpr → Cmpr) : (s.modCmpr i f).voteView = s.voteView := rfl
@[simp] theorem State.setSwitchIn_voteView (s : State) (i : Nat) (v : Switch) : (s.setSwitchIn i v).voteView = s.voteView := rfl
@[simp] theorem State.modSwitchIn_voteView (s : State) (i : Nat) (f : Switch → Switch) : (s.modSwitchIn i f).voteView = s.voteView := rfl
@[simp] theorem State.setAdcIn_voteView (s : State) (i : Nat) (v : AdcIn) : (s.setAdcIn i v).voteView = s.voteView := rfl
@[simp] theorem State.modAdcIn_voteView (s : State) (i : Nat) (f : AdcIn → AdcIn) : (s.modAdcIn i f).voteView = s.voteView := rfl
@[simp] theorem State.setLoop_voteView (s : State) (i : Nat) (v : Loop) : (s.setLoop i v).voteView = s.voteView := rfl
@[simp] theorem State.modLoop_voteView (s : State) (i : Nat) (f : Loop → Loop) : (s.modLoop i f).voteView = s.voteView := rfl
@[simp] theorem State.setChain_voteView (s : State) (i : Nat) (v : Chain) : (s.setChain i v).voteView = s.voteView := rfl
@[simp] theorem State.modChain_voteView (s : State) (i : Nat) (f : Chain → Chain) : (s.modChain i f).voteView = s.voteView := rfl
@[simp] theorem State.setZone_voteView (s : State) (i : Nat) (v : Zone) : (s.setZone i v).voteView = s.voteView := rfl
@[simp] theorem State.modZone_voteView (s : State) (i : Nat) (f : Zone → Zone) : (s.modZone i f).voteView = s.voteView := rfl
@[simp] theorem State.setColour_voteView (s : State) (i : Nat) (v : Colour) : (s.setColour i v).voteView = s.voteView := rfl
@[simp] theorem State.modColour_voteView (s : State) (i : Nat) (f : Colour → Colour) : (s.modColour i f).voteView = s.voteView := rfl
@[simp] theorem State.setInst_voteView (s : State) (i : Nat) (v : Inst) : (s.setInst i v).voteView = s.voteView := rfl
@[simp] theorem State.modInst_voteView (s : State) (i : Nat) (f : Inst → Inst) : (s.modInst i f).voteView = s.voteView := rfl
@[simp] theorem State.setPtpPort_voteView (s : State) (i : Nat) (v : TPort) : (s.setPtpPort i v).voteView = s.voteView := rfl
@[simp] theorem State.modPtpPort_voteView (s : State) (i : Nat) (f : TPort → TPort) : (s.modPtpPort i f).voteView = s.voteView := rfl
@[simp] theorem State.setPin_voteView (s : State) (i : Nat) (v : Pin) : (s.setPin i v).voteView = s.voteView := rfl
@[simp] theorem State.modPin_voteView (s : State) (i : Nat) (f : Pin → Pin) : (s.modPin i f).voteView = s.voteView := rfl
@[simp] theorem State.setI2cM_voteView (s : State) (i : Nat) (v : I2cM) : (s.setI2cM i v).voteView = s.voteView := rfl

/-! Interrupts, records, rings and completions (chapter 02). -/

@[simp] theorem State.triggerVector_voteView (s : State) (v : Nat) : (s.triggerVector v).voteView = s.voteView := by simp [State.triggerVector]
@[simp] theorem State.sendVector_voteView (s : State) (v : Nat) : (s.sendVector v).voteView = s.voteView := by simp [State.sendVector]
@[simp] theorem State.sendVectors_voteView (s : State) : s.sendVectors.voteView = s.voteView := by simp [State.sendVectors]
@[simp] theorem State.countCompletion_voteView (s : State) (r : Nat) : (s.countCompletion r).voteView = s.voteView := by simp [State.countCompletion]
@[simp] theorem State.countEvent_voteView (s : State) (sev : Nat) : (s.countEvent sev).voteView = s.voteView := by simp [State.countEvent]
@[simp] theorem State.expireCoal_voteView (s : State) (r : Nat) : (s.expireCoal r).voteView = s.voteView := by simp [State.expireCoal]
@[simp] theorem State.expireCoals_voteView (s : State) : s.expireCoals.voteView = s.voteView := by simp [State.expireCoals]
@[simp] theorem State.noteWrite_voteView (s : State) (unit index : Nat) (addr n : Nat) : (s.noteWrite unit index addr n).voteView = s.voteView :=
  rfl
@[simp] theorem State.writeRecord_voteView (s : State) (r : Rec) : (s.writeRecord r).voteView = s.voteView := by simp [State.writeRecord]
@[simp] theorem State.loseRecord_voteView (s : State) (seq : Nat) : (s.loseRecord seq).voteView = s.voteView := rfl
@[simp] theorem State.drainEvents_voteView (s : State) : s.drainEvents.voteView = s.voteView :=
  State.voteView_congr (by simp) (by simp) (by simp) (by simp)
@[simp] theorem State.placeRecord_voteView (s : State) (r : Rec) : (s.placeRecord r).voteView = s.voteView := by simp [State.placeRecord]
@[simp] theorem State.raiseAt_voteView (s : State) (code sev unit : Nat) (args : List Byte) : (s.raiseAt code sev unit args).voteView = s.voteView :=
  State.voteView_congr (by simp) (by simp) (by simp) (by simp)
@[simp] theorem State.raise_voteView (s : State) (code unit : Nat) (args : List Byte) : (s.raise code unit args).voteView = s.voteView :=
  State.raiseAt_voteView ..
@[simp] theorem State.stopRing_voteView (s : State) (r : Nat) : (s.stopRing r).voteView = s.voteView := rfl

@[simp] theorem State.ringError_voteView (s : State) (unit cause : Nat) (value index addr : Nat) :
    (s.ringError unit cause value index addr).voteView = s.voteView := by
  simp [State.ringError]

@[simp] theorem State.failRing_voteView (s : State) (r cause : Nat) (value index addr : Nat) :
    (s.failRing r cause value index addr).voteView = s.voteView := by
  simp [State.failRing]

@[simp] theorem State.failEventRing_voteView (s : State) (cause value : Nat) (index addr : Nat) :
    (s.failEventRing cause value index addr).voteView = s.voteView := by
  simp [State.failEventRing]

@[simp] theorem State.failWrite_voteView (s : State) (x : Nat × Nat × Nat) : (s.failWrite x).voteView = s.voteView := by simp [State.failWrite]
@[simp] theorem State.failWrites_voteView (s : State) : s.failWrites.voteView = s.voteView := by simp [State.failWrites]

@[simp] theorem State.writeCompletion_voteView (s : State) (r tag status : Nat) (results : List Byte) :
    (s.writeCompletion r tag status results).voteView = s.voteView := by
  simp [State.writeCompletion]

@[simp] theorem State.complete_voteView (s : State) (id status : Nat) (results : List Byte) : (s.complete id status results).voteView = s.voteView :=
  rfl

@[simp] theorem State.completeOpt_voteView (s : State) (id : Option Nat) (status : Nat) (results : List Byte) :
    (s.completeOpt id status results).voteView = s.voteView := by
  unfold State.completeOpt
  split <;> simp

@[simp] theorem State.writeDue_voteView (s : State) (c : Cmd) : (s.writeDue c).voteView = s.voteView := by
  unfold State.writeDue
  split <;> simp

@[simp] theorem State.writeCompletions_voteView (s : State) : s.writeCompletions.voteView = s.voteView := by simp [State.writeCompletions]
@[simp] theorem State.completeAll_voteView (s : State) (l : List (Nat × Nat × List Byte)) : (s.completeAll l).voteView = s.voteView :=
  foldl_voteView (fun s x => by simp) _ _
@[simp] theorem State.setPhase_voteView (s : State) (id : Nat) (p : CmdPhase) : (s.setPhase id p).voteView = s.voteView := rfl
@[simp] theorem State.blockFailed_voteView (s : State) (n : Nat) : (s.blockFailed n).voteView = s.voteView := rfl
@[simp] theorem State.reportRead_voteView (s : State) (cause : Nat) : (s.reportRead cause).voteView = s.voteView := by simp [State.reportRead]
@[simp] theorem State.dmaError_voteView (s : State) (c : Cmd) (cause addr : Nat) : (s.dmaError c cause addr).voteView = s.voteView := by
  simp [State.dmaError]

@[simp] theorem State.writeResults_voteView (s : State) (id : Option Nat) (addr : Nat) (bytes : List Byte) :
    (s.writeResults id addr bytes).voteView = s.voteView := by
  unfold State.writeResults
  (repeat' split) <;> simp

/-! What the command processor does with a command (R41 to R48). -/

@[simp] theorem finish_voteView (s : State) (status : Nat) : (finish s status).1.voteView = s.voteView := rfl
@[simp] theorem refuse_voteView (s : State) : (refuse s).1.voteView = s.voteView := rfl
@[simp] theorem good_voteView (s : State) : (good s).1.voteView = s.voteView := rfl
@[simp] theorem answer_voteView (s : State) (results : List Byte) : (answer s results).1.voteView = s.voteView := rfl

@[simp] theorem withHost_voteView (c : Cmd) (s : State) (k : List Byte → State × Reply) (h : ∀ b, (k b).1.voteView = s.voteView) :
    (withHost c s k).1.voteView = s.voteView :=
  by
  unfold withHost; split
  · exact h _
  · unfold State.dmaError; rw [State.raise_voteView]; unfold State.reportRead; split <;> rfl

@[simp] theorem State.served_voteView (s : State) (r : Nat) : (s.served r).voteView = s.voteView := rfl

@[simp] theorem State.sendTwin_voteView (s : State) (r : TwinRec) : (s.sendTwin r).voteView = s.voteView := by
  unfold State.sendTwin
  split <;> rfl

@[simp] theorem State.sendRecords_voteView (s : State) : s.sendRecords.voteView = s.voteView := by
  unfold State.sendRecords
  dsimp only
  split
  · rfl
  · exact foldl_voteView (fun s r => s.emit_voteView _) _ _

@[simp] theorem State.keepHost_voteView (s : State) (id : Nat) (d : HostRead) : (s.keepHost id d).voteView = s.voteView := rfl
@[simp] theorem deferCommand_voteView (c : Cmd) (s : State) : (deferCommand c s).voteView = s.voteView := rfl

/-! Changes of the substitution tables (chapter 09). -/

@[simp] theorem State.headroomEvent_voteView (s : State) (c : SubChange) (lc : Nat) (verdict : Bool) (d : Nat) :
    (s.headroomEvent c lc verdict d).voteView = s.voteView := by
  simp [State.headroomEvent]

@[simp] theorem State.commitSub_voteView (s : State) (c : SubChange) (verdict : Bool) : (s.commitSub c verdict).voteView = s.voteView := by
  simp [State.commitSub]

@[simp] theorem State.commitPassed_voteView (s : State) (c : SubChange) (noz : List Nat) (verdict : Bool) :
    (s.commitPassed c noz verdict).voteView = s.voteView := by
  simp [State.commitPassed]

@[simp] theorem State.commitVerdict_voteView (s : State) (c : SubChange) (n : Nat) : (s.commitVerdict c n).voteView = s.voteView := by
  simp [State.commitVerdict]
@[simp] theorem State.takeVerdict_voteView (s : State) (v : SubVerdict) : (s.takeVerdict v).voteView = s.voteView := by simp [State.takeVerdict]
@[simp] theorem State.subGeneration_voteView (s : State) : s.subGeneration.voteView = s.voteView := by simp [State.subGeneration]

/-! Ladder steps (R149, R256). -/

@[simp] theorem State.mapSteps_voteView (s : State) (f : LTest → Step → Step) : (s.mapSteps f).voteView = s.voteView := by simp [State.mapSteps]
@[simp] theorem State.spoilSteps_voteView (s : State) (line : Nat) (hit : Nat → Bool) : (s.spoilSteps line hit).voteView = s.voteView := by
  simp [State.spoilSteps]
@[simp] theorem State.spoilGeneration_voteView (s : State) : s.spoilGeneration.voteView = s.voteView := by simp [State.spoilGeneration]
@[simp] theorem State.spoilPages_voteView (s : State) (start span : Nat) : (s.spoilPages start span).voteView = s.voteView := by
  simp [State.spoilPages]
@[simp] theorem State.spoilUnit_voteView (s : State) (unit : Nat) : (s.spoilUnit unit).voteView = s.voteView := by simp [State.spoilUnit]
@[simp] theorem State.withdrawSteps_voteView (s : State) (page : Nat) : (s.withdrawSteps page).voteView = s.voteView := by simp [State.withdrawSteps]
@[simp] theorem State.closeGaps_voteView (s : State) (page : Nat) : (s.closeGaps page).voteView = s.voteView := by simp [State.closeGaps]

/-! Bar geometry (chapter 03). -/

@[simp] theorem effGeoHeadclass_voteView (c : Cmd) (s : State) : (effGeoHeadclass c s).1.voteView = s.voteView := by simp [effGeoHeadclass]
@[simp] theorem effGeoHead_voteView (c : Cmd) (s : State) : (effGeoHead c s).1.voteView = s.voteView := by simp [effGeoHead]

@[simp] theorem effGeoRuns_voteView (c : Cmd) (s : State) : (effGeoRuns c s).1.voteView = s.voteView := by
  unfold effGeoRuns
  dsimp only
  split
  · rfl
  · exact withHost_voteView c s _ fun _ => rfl

@[simp] theorem effGeoExceptions_voteView (c : Cmd) (s : State) : (effGeoExceptions c s).1.voteView = s.voteView := by
  unfold effGeoExceptions
  dsimp only
  split
  · rfl
  · exact withHost_voteView c s _ fun _ => rfl

@[simp] theorem State.freeGens_voteView (s : State) : s.freeGens.voteView = s.voteView := by simp [State.freeGens]
@[simp] theorem State.layoutRings_voteView (s : State) (g : GeoSet) : (s.layoutRings g).voteView = s.voteView := by simp [State.layoutRings]
@[simp] theorem State.activate_voteView (s : State) (serial : Nat) : (s.activate serial).voteView = s.voteView := by simp [State.activate]
@[simp] theorem State.activatePending_voteView (s : State) : s.activatePending.voteView = s.voteView := by simp [State.activatePending]
@[simp] theorem State.activateIdle_voteView (s : State) : s.activateIdle.voteView = s.voteView := by simp [State.activateIdle]
@[simp] theorem State.commitGeo_voteView (s : State) (crc : Nat) : (s.commitGeo crc).voteView = s.voteView := by simp [State.commitGeo]

@[simp] theorem effGeoCommit_voteView (c : Cmd) (s : State) : (effGeoCommit c s).1.voteView = s.voteView := by
  unfold effGeoCommit
  split <;> simp

@[simp] theorem execGenerationActivate_voteView (s : State) : (nextState s (execGenerationActivate s)).voteView = s.voteView := by
  simp [execGenerationActivate]

/-! Page contexts and verification (chapters 04 and 05). -/

@[simp] theorem State.writeNote_voteView (s : State) (n : PageNote) : (s.writeNote n).voteView = s.voteView := by simp [State.writeNote]
@[simp] theorem State.pageEvent_voteView (s : State) (id : Nat) (old : PageState) : (s.pageEvent id old).voteView = s.voteView := by
  simp [State.pageEvent]
@[simp] theorem State.writeNotes_voteView (s : State) : s.writeNotes.voteView = s.voteView := by simp [State.writeNotes]

@[simp] theorem State.changePage_voteView (s : State) (id : Nat) (st : PageState) (cause : Nat) :
    (s.changePage id st cause).voteView = s.voteView := by
  simp [State.changePage]

@[simp] theorem effPageOpen_voteView (c : Cmd) (s : State) : (effPageOpen c s).1.voteView = s.voteView := by simp [effPageOpen]

@[simp] theorem effPageAddTiles_voteView (c : Cmd) (s : State) : (effPageAddTiles c s).1.voteView = s.voteView := by
  unfold effPageAddTiles
  dsimp only
  split_ifs
  · rfl
  · rfl
  · rfl
  · refine withHost_voteView c s _ fun _ => ?_
    split
    · rfl
    · simp

@[simp] theorem execTileArrival_voteView (ctx : Fin 256) (idx : Nat) (d : HostRead) (s : State) :
    (nextState s (execTileArrival ctx idx d s)).voteView = s.voteView := by
  unfold execTileArrival
  dsimp only
  (repeat' split) <;> simp

@[simp] theorem execVerifyTileDecode_voteView (ctx : Fin 256) (idx : Nat) (s : State) :
    (nextState s (execVerifyTileDecode ctx idx s)).voteView = s.voteView := by
  unfold execVerifyTileDecode
  dsimp only
  (repeat' split) <;> simp

@[simp] theorem effPageClose_voteView (c : Cmd) (s : State) : (effPageClose c s).1.voteView = s.voteView := by simp [effPageClose]
@[simp] theorem State.unlinkPage_voteView (s : State) (id : Nat) : (s.unlinkPage id).voteView = s.voteView := by simp [State.unlinkPage]

@[simp] theorem State.endSegment_voteView (s : State) (id cause : Nat) : (s.endSegment id cause).voteView = s.voteView := by
  unfold State.endSegment
  dsimp only
  split <;> simp

@[simp] theorem State.endJob_voteView (s : State) (fuel id cause : Nat) : (s.endJob fuel id cause).voteView = s.voteView := by
  induction fuel generalizing s id cause with
  | zero => rfl
  | succ fuel ih => simp [State.endJob, ih]

@[simp] theorem State.shiftBehind_voteView (s : State) (id n : Nat) : (s.shiftBehind id n).voteView = s.voteView :=
  foldl_voteView (fun s x => by simp) _ _
@[simp] theorem State.writeGap_voteView (s : State) (id : Nat) : (s.writeGap id).voteView = s.voteView := by simp [State.writeGap]

@[simp] theorem State.beginBreak_voteView (s : State) (id bound : Nat) : (s.beginBreak id bound).voteView = s.voteView := by
  unfold State.beginBreak
  split <;> simp

@[simp] theorem State.enterQueue_voteView (s : State) (id : Nat) : (s.enterQueue id).voteView = s.voteView := by simp [State.enterQueue]

@[simp] theorem State.advanceChain_voteView (s : State) (fuel id : Nat) : (s.advanceChain fuel id).voteView = s.voteView := by
  induction fuel generalizing s id with
  | zero => rfl
  | succ fuel ih => simp [State.advanceChain, ih]

@[simp] theorem State.failVerify_voteView (s : State) (id st cause : Nat) (res : List Byte) : (s.failVerify id st cause res).voteView = s.voteView :=
  by
  simp [State.failVerify]

@[simp] theorem State.becomeVerified_voteView (s : State) (fuel id : Nat) : (s.becomeVerified fuel id).voteView = s.voteView := by
  induction fuel generalizing s id with
  | zero => rfl
  | succ fuel ih => simp [State.becomeVerified, ih]

@[simp] theorem State.failTile_voteView (s : State) (id : Nat) (f : TileFailure) : (s.failTile id f).voteView = s.voteView := by simp [State.failTile]

@[simp] theorem execVerificationEnd_voteView (ctx : Fin 256) (s : State) : (nextState s (execVerificationEnd ctx s)).voteView = s.voteView := by
  unfold execVerificationEnd
  dsimp only
  (repeat' split) <;> simp

@[simp] theorem State.queuePage_voteView (s : State) (id start : Nat) (kind : StartKind) (behind gap : Nat) :
    (s.queuePage id start kind behind gap).voteView = s.voteView := by
  simp [State.queuePage]

@[simp] theorem State.queueFollow_voteView (s : State) (id gap : Nat) : (s.queueFollow id gap).1.voteView = s.voteView := by
  simp [State.queueFollow]
@[simp] theorem effPageQueue_voteView (c : Cmd) (s : State) : (effPageQueue c s).1.voteView = s.voteView := by simp [effPageQueue]
@[simp] theorem effPageChain_voteView (c : Cmd) (s : State) : (effPageChain c s).1.voteView = s.voteView := by simp [effPageChain]

@[simp] theorem effPageAbort_voteView (c : Cmd) (s : State) : (effPageAbort c s).1.voteView = s.voteView := by
  unfold effPageAbort
  dsimp only
  split <;> simp

@[simp] theorem effPageQuery_voteView (c : Cmd) (s : State) : (effPageQuery c s).1.voteView = s.voteView := rfl
@[simp] theorem State.engineLost_voteView (s : State) : s.engineLost.voteView = s.voteView := by simp [State.engineLost]

/-! Motion axes (chapter 12). -/

@[simp] theorem State.endMove_voteView (s : State) (x status end_ : Nat) : (s.endMove x status end_).voteView = s.voteView := by
  simp [State.endMove]
@[simp] theorem State.endStops_voteView (s : State) (x : Nat) : (s.endStops x).voteView = s.voteView := by simp [State.endStops]

@[simp] theorem State.restAxis_voteView (s : State) (x : Nat) (release : Bool) : (s.restAxis x release).voteView = s.voteView := by
  unfold State.restAxis
  dsimp only
  split <;> simp

@[simp] theorem State.holdRest_voteView (s : State) (x : Nat) : (s.holdRest x).voteView = s.voteView := by simp [State.holdRest]
@[simp] theorem State.endProfile_voteView (s : State) (x : Nat) : (s.endProfile x).voteView = s.voteView := by simp [State.endProfile]
@[simp] theorem State.advanceProfile_voteView (s : State) (x idx reps : Nat) : (s.advanceProfile x idx reps).voteView = s.voteView := by
  simp [State.advanceProfile]

@[simp] theorem State.advanceAxis_voteView (s : State) (x : Nat) : (s.advanceAxis x).voteView = s.voteView := by
  unfold State.advanceAxis
  dsimp only
  split <;> simp

@[simp] theorem State.takeGoal_voteView (s : State) (x : Nat) (g : NewGoal) : (s.takeGoal x g).voteView = s.voteView := by
  unfold State.takeGoal
  (repeat' split) <;> simp

@[simp] theorem State.checkReach_voteView (s : State) (x : Nat) : (s.checkReach x).voteView = s.voteView := by
  unfold State.checkReach
  dsimp only
  split <;> simp

@[simp] theorem State.axisFault_voteView (s : State) (x cause : Nat) (err : Int) : (s.axisFault x cause err).voteView = s.voteView := by
  simp [State.axisFault]
@[simp] theorem State.faultAxis_voteView (s : State) (x : Nat) : (s.faultAxis x).voteView = s.voteView := by simp [State.faultAxis]

@[simp] theorem State.planJerk_voteView (s : State) (x : Nat) : (s.planJerk x).voteView = s.voteView := by
  unfold State.planJerk
  dsimp only
  split <;> simp

@[simp] theorem State.capAxis_voteView (s : State) (x : Nat) : (s.capAxis x).voteView = s.voteView := by simp [State.capAxis]
@[simp] theorem State.planAxis_voteView (p : Nat) (s : State) (x : Nat) : (State.planAxis p s x).voteView = s.voteView := by simp [State.planAxis]
@[simp] theorem State.planMotion_voteView (s : State) (p : Nat) : (s.planMotion p).voteView = s.voteView := by simp [State.planMotion]

@[simp] theorem execLimitSwitch_voteView (x : Fin 16) (positive : Bool) (s : State) :
    (nextState s (execLimitSwitch x positive s)).voteView = s.voteView := by
  simp [execLimitSwitch]

@[simp] theorem execMicrostepResolutionChange_voteView (x : Fin 16) (s : State) :
    (nextState s (execMicrostepResolutionChange x s)).voteView = s.voteView := by
  unfold execMicrostepResolutionChange
  dsimp only
  split <;> simp

@[simp] theorem State.driveAxis_voteView (s : State) (x : Nat) : (s.driveAxis x).voteView = s.voteView := by simp [State.driveAxis]
@[simp] theorem State.takePulses_voteView (s : State) : s.takePulses.voteView = s.voteView := by simp [State.takePulses]
@[simp] theorem execPwmPeriodStart_voteView (s : State) : (nextState s (execPwmPeriodStart s)).voteView = s.voteView := by simp [execPwmPeriodStart]
@[simp] theorem effMotAxis_voteView (c : Cmd) (s : State) : (effMotAxis c s).1.voteView = s.voteView := by simp [effMotAxis]

@[simp] theorem effMotSine_voteView (c : Cmd) (s : State) : (effMotSine c s).1.voteView = s.voteView := by
  unfold effMotSine
  dsimp only
  split
  · rfl
  · refine withHost_voteView c s _ fun b => ?_
    split
    · rfl
    · refine (ite_voteView ..).trans ?_
      rw [foldl_voteView (fun s k => s.modAxis_voteView k _), State.modAxis_voteView, ite_self]

@[simp] theorem effMotProfile_voteView (c : Cmd) (s : State) : (effMotProfile c s).1.voteView = s.voteView := by simp [effMotProfile]
@[simp] theorem effMotMove_voteView (c : Cmd) (s : State) : (effMotMove c s).1.voteView = s.voteView := by simp [effMotMove]
@[simp] theorem effMotLimits_voteView (c : Cmd) (s : State) : (effMotLimits c s).1.voteView = s.voteView := by simp [effMotLimits]
@[simp] theorem State.stopAxis_voteView (s : State) (x mode : Nat) (cmd : Option Nat) : (s.stopAxis x mode cmd).voteView = s.voteView := rfl

@[simp] theorem effMotStop_voteView (c : Cmd) (s : State) : (effMotStop c s).1.voteView = s.voteView := by
  unfold effMotStop
  dsimp only
  split
  · rfl
  · exact foldl_voteView (fun s k => s.stopAxis_voteView ..) _ s

@[simp] theorem effMotQuery_voteView (c : Cmd) (s : State) : (effMotQuery c s).1.voteView = s.voteView := by simp [effMotQuery]

/-! The proof test (R394). -/

@[simp] theorem State.proofEnd_voteView (s : State) (status : Nat) : (s.proofEnd status).voteView = s.voteView := by
  unfold State.proofEnd
  split <;> simp

@[simp] theorem State.proofGo_voteView (s : State) (p : Proof) (k : Nat) : (s.proofGo p k).voteView = s.voteView := by
  unfold State.proofGo
  split <;> simp

@[simp] theorem State.proofResult_voteView (s : State) (passed : Bool) (at_ : Nat) : (s.proofResult passed at_).voteView = s.voteView := by
  unfold State.proofResult
  split <;> simp

@[simp] theorem State.proofCount_voteView (s : State) (k n : Nat) : (s.proofCount k n).voteView = s.voteView := by
  unfold State.proofCount
  split <;> simp

@[simp] theorem State.proofFail_voteView (s : State) (k at_ : Nat) : (s.proofFail k at_).voteView = s.voteView := by simp [State.proofFail]

/-! Fetch and mallet engines (chapter 06). -/

@[simp] theorem State.takeBeat_voteView (s : State) (e : Nat) (b : Beat) (extra : Nat) : (s.takeBeat e b extra).voteView = s.voteView := rfl

@[simp] theorem State.takeHome_voteView (s : State) (e : Nat) : (s.takeHome e).voteView = s.voteView := by
  unfold State.takeHome
  (repeat' split) <;> simp

@[simp] theorem State.stealKind_voteView (s : State) (e : Nat) (ladder : Bool) : ∀ t ∈ s.stealKind e ladder, t.voteView = s.voteView := by
  unfold State.stealKind
  intro t ht
  split at ht
  · obtain ⟨b, _, rfl⟩ := Option.map_eq_some_iff.1 ht
    simp
  · split at ht
    · obtain ⟨b, _, rfl⟩ := Option.map_eq_some_iff.1 ht
      simp
    · simp at ht

@[simp] theorem State.steal_voteView (s : State) (e : Nat) : (s.steal e).voteView = s.voteView := by
  unfold State.steal
  split
  · cases h : (s.stealKind e false).or (s.stealKind e true) with
    | none => rfl
    | some t =>
      rcases Option.or_eq_some_iff.1 h with h | ⟨_, h⟩
      · exact s.stealKind_voteView e false t h
      · exact s.stealKind_voteView e true t h
  · rfl

@[simp] theorem State.assignBeats_voteView (s : State) : s.assignBeats.voteView = s.voteView := by
  simp only [State.assignBeats, ite_voteView, foldl_voteView State.steal_voteView, foldl_voteView State.takeHome_voteView, ite_self]
@[simp] theorem execBeatRelease_voteView (s : State) : (nextState s (execBeatRelease s)).voteView = s.voteView := by simp [execBeatRelease]
@[simp] theorem State.commitReader_voteView (s : State) (x : (Reader × BeatPage × Nat) × ReadStep) : (s.commitReader x).voteView = s.voteView := rfl

@[simp] theorem State.predictLine_voteView (s : State) (b : Beat) (i : Nat) (d : DieLevels) : (s.predictLine b i d).voteView = s.voteView := by
  unfold State.predictLine
  split
  · rfl
  · refine foldl_voteView (fun s e => ?_) _ s
    split
    · simp
    · rfl

@[simp] theorem State.coverLine_voteView (s : State) (b : Beat) (d : DieLevels) (i : Nat) : (s.coverLine b d i).voteView = s.voteView :=
  foldl_voteView (fun s x => by (repeat' split) <;> simp) _ _
@[simp] theorem State.coverBeat_voteView (s : State) (b : Beat) : (s.coverBeat b).voteView = s.voteView := by simp [State.coverBeat]
@[simp] theorem State.trimCover_voteView (s : State) : s.trimCover.voteView = s.voteView := rfl
@[simp] theorem State.countLost_voteView (s : State) (b : Beat) (line : Nat) (d : DieLevels) : (s.countLost b line d).voteView = s.voteView := by
  simp [State.countLost]

@[simp] theorem State.writeSegment_voteView (s : State) (e k : Nat) (b : Beat) (faults : List Nat) :
    (s.writeSegment e k b faults).voteView = s.voteView :=
  by
  simp [State.writeSegment, foldl_voteView State.commitReader_voteView]

@[simp] theorem execSegmentWrite_voteView (e : Fin 64) (faults : List Nat) (s : State) :
    (nextState s (execSegmentWrite e faults s)).voteView = s.voteView := by
  unfold execSegmentWrite
  split <;> simp

@[simp] theorem State.runEngines_voteView (s : State) : s.runEngines.voteView = s.voteView :=
  foldl_voteView (fun s x => by (repeat' split) <;> simp) _ _
@[simp] theorem State.leaveService_voteView (s : State) (e cause : Nat) : (s.leaveService e cause).voteView = s.voteView := by
  simp [State.leaveService]
@[simp] theorem State.offlineDue_voteView (s : State) (e : Nat) : (s.offlineDue e).voteView = s.voteView := by simp [State.offlineDue]
@[simp] theorem State.retireBeat_voteView (s : State) (e k : Nat) (b : Beat) : (s.retireBeat e k b).voteView = s.voteView := rfl

@[simp] theorem execEngineBeatDone_voteView (e : Fin 64) (s : State) : (nextState s (execEngineBeatDone e s)).voteView = s.voteView := by
  unfold execEngineBeatDone
  split <;> simp

@[simp] theorem State.handOn_voteView (s : State) (e : Nat) : (s.handOn e).voteView = s.voteView := by
  simp [State.handOn]
@[simp] theorem State.failEngine_voteView (s : State) (e c : Nat) : (s.failEngine e c).voteView = s.voteView := by
  simp [State.failEngine]
@[simp] theorem execEngineWatchdog_voteView (e : Fin 64) (s : State) : (nextState s (execEngineWatchdog e s)).voteView = s.voteView := by
  simp [execEngineWatchdog]
@[simp] theorem State.writeOffline_voteView (s : State) (e : Nat) (off : Bool) : (s.writeOffline e off).voteView = s.voteView := by
  simp [State.writeOffline]

@[simp] theorem execEngineOffline_voteView (e : Fin 64) (off : Bool) (s : State) :
    (nextState s (execEngineOffline e off s)).voteView = s.voteView := by
  simp [execEngineOffline]

@[simp] theorem State.returnEngines_voteView (s : State) : s.returnEngines.voteView = s.voteView := by simp [State.returnEngines]
@[simp] theorem State.formWindow_voteView (s : State) (x : Nat) : (s.formWindow x).voteView = s.voteView := by simp [State.formWindow]
@[simp] theorem State.resolveWindow_voteView (s : State) (x : Nat) : (s.resolveWindow x).voteView = s.voteView := rfl

/-! The Snare link (chapter 08). -/

@[simp] theorem State.startTx_voteView (s : State) (lane : Nat) (x : TxItem) : (s.startTx lane x).voteView = s.voteView := rfl
@[simp] theorem State.queueTx_voteView (s : State) (lane : Nat) (x : TxItem) : (s.queueTx lane x).voteView = s.voteView := by simp [State.queueTx]
@[simp] theorem State.queueMsg_voteView (s : State) (lane : Nat) (bytes : List Byte) : (s.queueMsg lane bytes).voteView = s.voteView := by
  simp [State.queueMsg]

@[simp] theorem State.runLane_voteView (s : State) (lane : Nat) : (s.runLane lane).voteView = s.voteView := by
  unfold State.runLane
  dsimp only
  (repeat' split) <;> simp

@[simp] theorem State.runLanes_voteView (s : State) : s.runLanes.voteView = s.voteView := by simp [State.runLanes]

@[simp] theorem State.sendLane_voteView (s : State) (li : LineInfo) (lane : Nat) : (s.sendLane li lane).voteView = s.voteView := by
  unfold State.sendLane
  (repeat' split) <;> simp

@[simp] theorem State.underrunLane_voteView (s : State) (li : LineInfo) (lane : Nat) : (s.underrunLane li lane).voteView = s.voteView := by
  unfold State.underrunLane
  dsimp only
  split <;> simp

@[simp] theorem State.spoilLine_voteView (s : State) (li : LineInfo) : (s.spoilLine li).voteView = s.voteView := by simp [State.spoilLine]
@[simp] theorem State.sendLine_voteView (s : State) (li : LineInfo) : (s.sendLine li).voteView = s.voteView := by simp [State.sendLine]
@[simp] theorem State.settleEnables_voteView (s : State) : s.settleEnables.voteView = s.voteView := by simp [State.settleEnables]
@[simp] theorem State.laneDownEvent_voteView (s : State) (lane cause left : Nat) : (s.laneDownEvent lane cause left).voteView = s.voteView := by
  simp [State.laneDownEvent]
@[simp] theorem State.leaveUp_voteView (s : State) (lane : Nat) : (s.leaveUp lane).voteView = s.voteView := by simp [State.leaveUp]
@[simp] theorem State.failLane_voteView (s : State) (lane cause : Nat) : (s.failLane lane cause).voteView = s.voteView := by
  simp [State.failLane]
@[simp] theorem State.loseLane_voteView (s : State) (lane cause : Nat) : (s.loseLane lane cause).voteView = s.voteView := by
  simp [State.loseLane]
@[simp] theorem effSnrLaneEnable_voteView (c : Cmd) (s : State) : (effSnrLaneEnable c s).1.voteView = s.voteView := by simp [effSnrLaneEnable]
@[simp] theorem State.disableLane_voteView (s : State) (lane : Nat) : (s.disableLane lane).voteView = s.voteView := by simp [State.disableLane]
@[simp] theorem effSnrLaneDisable_voteView (c : Cmd) (s : State) : (effSnrLaneDisable c s).1.voteView = s.voteView := by simp [effSnrLaneDisable]
@[simp] theorem State.loseLock_voteView (s : State) (lane : Nat) : (s.loseLock lane).voteView = s.voteView := by simp [State.loseLock]
@[simp] theorem State.syncHeader_voteView (lane : Nat) (s : State) (valid : Bool) : (State.syncHeader lane s valid).voteView = s.voteView := by
  simp [State.syncHeader]

@[simp] theorem execSnrBlockLock_voteView (lane : Fin 64) (headers : List Bool) (s : State) :
    (nextState s (execSnrBlockLock lane headers s)).voteView = s.voteView := by
  simp [execSnrBlockLock]

@[simp] theorem State.otherBlock_voteView (s : State) (lane type : Nat) : (s.otherBlock lane type).voteView = s.voteView := by
  simp [State.otherBlock]

@[simp] theorem execDownstreamAm_voteView (lane : Fin 64) (uis : Nat) (s : State) :
    (nextState s (execDownstreamAm lane uis s)).voteView = s.voteView := by
  simp [execDownstreamAm]

@[simp] theorem State.endTime_voteView (s : State) (lane : Nat) : (s.endTime lane).voteView = s.voteView := by simp [State.endTime]

@[simp] theorem State.measureDelay_voteView (s : State) (lane : Nat) (turn : List Byte) (t4 : Nat) :
    (s.measureDelay lane turn t4).voteView = s.voteView := by
  simp [State.measureDelay]

@[simp] theorem State.takeAm_voteView (s : State) (lane : Nat) (am turn : List Byte) (uis : Nat) :
    (s.takeAm lane am turn uis).voteView = s.voteView := by
  simp [State.takeAm]

@[simp] theorem execUpstreamAm_voteView (lane : Fin 64) (am turn : List Byte) (uis : Nat) (s : State) :
    (nextState s (execUpstreamAm lane am turn uis s)).voteView = s.voteView := by
  simp [execUpstreamAm]

@[simp] theorem execAmMissed_voteView (lane : Fin 64) (s : State) : (nextState s (execAmMissed lane s)).voteView = s.voteView := by
  simp [execAmMissed]

@[simp] theorem execLaneBringupTimeout_voteView (lane : Fin 64) (s : State) :
    (nextState s (execLaneBringupTimeout lane s)).voteView = s.voteView := by
  simp [execLaneBringupTimeout]

@[simp] theorem execStatusBlock_voteView (lane : Fin 64) (bytes : List Byte) (s : State) :
    (nextState s (execStatusBlock lane bytes s)).voteView = s.voteView := by
  simp [execStatusBlock]

@[simp] theorem effSnrHeadMsg_voteView (c : Cmd) (s : State) : (effSnrHeadMsg c s).1.voteView = s.voteView := by simp [effSnrHeadMsg]

@[simp] theorem execHubReply_voteView (lane : Fin 64) (blocks : List Byte) (s : State) :
    (nextState s (execHubReply lane blocks s)).voteView = s.voteView := by
  unfold execHubReply
  dsimp only
  (repeat' split) <;> simp

@[simp] theorem execHeadMsgTimeout_voteView (lane : Fin 64) (s : State) : (nextState s (execHeadMsgTimeout lane s)).voteView = s.voteView := by
  unfold execHeadMsgTimeout
  dsimp only
  split <;> simp

@[simp] theorem effSnrEyeScan_voteView (c : Cmd) (s : State) : (effSnrEyeScan c s).1.voteView = s.voteView := by simp [effSnrEyeScan]

@[simp] theorem execEyeScanDone_voteView (lane : Fin 64) (counts : List Nat) (s : State) :
    (nextState s (execEyeScanDone lane counts s)).voteView = s.voteView := by
  unfold execEyeScanDone
  dsimp only
  split <;> simp

@[simp] theorem effSnrQuery_voteView (c : Cmd) (s : State) : (effSnrQuery c s).1.voteView = s.voteView := by simp [effSnrQuery]

/-! Fire pacing (chapter 07). -/

@[simp] theorem State.addSteps_voteView (s : State) (n : Int) : (s.addSteps n).voteView = s.voteView := by simp [State.addSteps]
@[simp] theorem State.markWater_voteView (s : State) : s.markWater.voteView = s.voteView := by simp [State.markWater]
@[simp] theorem State.tickPacing_voteView (s : State) : s.tickPacing.voteView = s.voteView := by simp [State.tickPacing]

@[simp] theorem State.takeSlip_voteView (s : State) : s.takeSlip.voteView = s.voteView := by
  unfold State.takeSlip
  split <;> simp

@[simp] theorem State.planFir_voteView (s : State) : s.planFir.voteView = s.voteView := by
  unfold State.planFir
  split <;> simp

@[simp] theorem State.slipFault_voteView (s : State) (ch : Nat) : (s.slipFault ch).voteView = s.voteView := by simp [State.slipFault]

@[simp] theorem State.countFate_voteView (s : State) (f : LineFate) : (s.countFate f).voteView = s.voteView := by
  unfold State.countFate
  split <;> simp

@[simp] theorem State.reportDrop_voteView (s : State) (line cause : Nat) : (s.reportDrop line cause).voteView = s.voteView := by
  simp [State.reportDrop]

@[simp] theorem State.sendGong_voteView (s : State) (wait flags line : Nat) (tFire : Option Int) (per : Nat) :
    (s.sendGong wait flags line tFire per).voteView = s.voteView := by
  simp [State.sendGong]

@[simp] theorem State.announceLine_voteView (s : State) (li : LineInfo) : (s.announceLine li).voteView = s.voteView := by simp [State.announceLine]
@[simp] theorem State.stopPacing_voteView (s : State) : s.stopPacing.voteView = s.voteView := by
  simp [State.stopPacing]
@[simp] theorem State.stopNow_voteView (s : State) : s.stopNow.voteView = s.voteView := by simp [State.stopNow]
@[simp] theorem State.driveHalt_voteView (s : State) (cause : Nat) : (s.driveHalt cause).voteView = s.voteView := by simp [State.driveHalt]

@[simp] theorem State.haltAsserted_voteView (s : State) : s.haltAsserted.voteView = s.voteView := by
  unfold State.haltAsserted
  dsimp only
  (repeat' split) <;> simp

@[simp] theorem State.sampleHalt_voteView (s : State) : s.sampleHalt.voteView = s.voteView := by simp [State.sampleHalt]
@[simp] theorem execGongHalt_voteView (samples : List Bool) (s : State) : (nextState s (execGongHalt samples s)).voteView = s.voteView := by
  simp [execGongHalt]

@[simp] theorem execGongHaltRelease_voteView (samples : List Bool) (s : State) :
    (nextState s (execGongHaltRelease samples s)).voteView = s.voteView := by
  unfold execGongHaltRelease
  dsimp only
  (repeat' split) <;> simp

@[simp] theorem State.permitLost_voteView (s : State) : s.permitLost.voteView = s.voteView := by simp [State.permitLost]
@[simp] theorem State.takeFloors_voteView (s : State) : s.takeFloors.voteView = s.voteView :=
  foldl_voteView (fun s x => by (repeat' split) <;> simp) _ _
@[simp] theorem State.relayoutAt_voteView (s : State) (line : Nat) : (s.relayoutAt line).voteView = s.voteView := by simp [State.relayoutAt]

@[simp] theorem State.beginPage_voteView (s : State) (id : Nat) : (s.beginPage id).voteView = s.voteView := by
  unfold State.beginPage
  dsimp only
  split <;> simp

@[simp] theorem State.beginBreaks_voteView (s : State) (bound : Nat) : (s.beginBreaks bound).voteView = s.voteView := by simp [State.beginBreaks]
@[simp] theorem State.formAt_voteView (s : State) (x : Nat) : (s.formAt x).voteView = s.voteView := by simp [State.formAt]
@[simp] theorem State.formUpTo_voteView (s : State) (line : Nat) : (s.formUpTo line).voteView = s.voteView := by simp [State.formUpTo]
@[simp] theorem State.reportGaps_voteView (s : State) (line : Nat) : (s.reportGaps line).voteView = s.voteView := by simp [State.reportGaps]
@[simp] theorem State.delayGaps_voteView (s : State) (line : Nat) : (s.delayGaps line).voteView = s.voteView := by simp [State.delayGaps]
@[simp] theorem State.leaveSuccessor_voteView (s : State) (id : Nat) : (s.leaveSuccessor id).voteView = s.voteView := by simp [State.leaveSuccessor]

@[simp] theorem State.finishPage_voteView (s : State) (id : Nat) : (s.finishPage id).voteView = s.voteView := by
  unfold State.finishPage
  dsimp only
  split <;> simp

@[simp] theorem State.endPages_voteView (s : State) (line : Nat) : (s.endPages line).voteView = s.voteView := by simp [State.endPages]
@[simp] theorem State.leaveBreaks_voteView (s : State) (line : Nat) : (s.leaveBreaks line).voteView = s.voteView := by simp [State.leaveBreaks]

@[simp] theorem State.markNoSlip_voteView (s : State) (line : Nat) (li : LineInfo) : (s.markNoSlip line li).voteView = s.voteView := by
  unfold State.markNoSlip
  split
  · exact foldl_voteView (fun s _ => s.modFir_voteView _) _ s
  · rfl

@[simp] theorem State.endPass_voteView (s : State) (line : Nat) : (s.endPass line).voteView = s.voteView := by simp [State.endPass]
@[simp] theorem State.leaveHold_voteView (s : State) (line : Nat) : (s.leaveHold line).voteView = s.voteView := rfl

@[simp] theorem State.holdStep_voteView (s : State) (line : Nat) : (s.holdStep line).voteView = s.voteView := by
  unfold State.holdStep
  (repeat' split) <;> simp

@[simp] theorem State.openLine_voteView (s : State) (line per : Nat) : (s.openLine line per).voteView = s.voteView := by
  unfold State.openLine
  extract_lets s₁ s₂ s₃ s₄ s₅
  calc (s₅.modFir (fun f => { f with floor := s₅.floorAt line })).voteView = s₅.voteView := s₅.modFir_voteView _
    _ = s₄.voteView := s₄.writeNotes_voteView
    _ = s₃.voteView := s₃.modTwn_voteView (by simp)
    _ = s₂.voteView := s₂.modFir_voteView _
    _ = s₁.voteView := s₁.modFir_voteView _
    _ = s.voteView := by rw [State.delayGaps_voteView, State.takeFloors_voteView]

@[simp] theorem State.settleFate_voteView (s : State) (fate : LineFate) (line : Nat) : (s.settleFate fate line).voteView = s.voteView := by
  unfold State.settleFate
  dsimp only
  rw [State.modMal_voteView, foldl_voteView (fun s l => s.modLaneRing_voteView l _)]
  cases fate <;> simp

@[simp] theorem State.passLine_voteView (s : State) (li : LineInfo) (line : Nat) (hold : Bool) : (s.passLine li line hold).voteView = s.voteView := by
  simp [State.passLine]

@[simp] theorem State.trigger_voteView (s : State) (line : Nat) (t : Int) (per : Nat) (drop hold start rev : Bool) :
    (s.trigger line t per drop hold start rev).voteView = s.voteView := by
  obtain ⟨fate, li, h⟩ := s.trigger_eq line t per drop hold start rev
  rw [h]
  simp

@[simp] theorem State.predict_voteView (s : State) (t : Int) (per flags : Nat) : (s.predict t per flags).voteView = s.voteView := by
  simp [State.predict]

@[simp] theorem State.testLine_voteView (s : State) : s.testLine.voteView = s.voteView := by
  unfold State.testLine
  split <;> simp

@[simp] theorem State.testRetreat_voteView (s : State) : s.testRetreat.voteView = s.voteView := by simp [State.testRetreat]
@[simp] theorem execPassArm_voteView (s : State) : (nextState s (execPassArm s)).voteView = s.voteView := by simp [execPassArm]
@[simp] theorem State.testHold_voteView (s : State) : s.testHold.voteView = s.voteView := by
  simp [State.testHold]
@[simp] theorem State.stepEdge_voteView (s : State) (forward : Bool) : (s.stepEdge forward).voteView = s.voteView := by simp [State.stepEdge]

@[simp] theorem execPaceStepEdge_voteView (samples : List (Fin 4)) (s : State) :
    (nextState s (execPaceStepEdge samples s)).voteView = s.voteView := by
  unfold execPaceStepEdge
  split <;> simp

@[simp] theorem State.gongLine_voteView (s : State) (arrival : Nat) (b : List Byte) : (s.gongLine arrival b).voteView = s.voteView := by
  simp [State.gongLine]

@[simp] theorem State.takeGong_voteView (s : State) (arrival : Nat) (b : List Byte) : (s.takeGong arrival b).voteView = s.voteView := by
  unfold State.takeGong
  dsimp only
  split
  · rfl
  · split
    · rfl
    · split
      · rw [ite_voteView, State.gongLine_voteView, State.modFir_voteView, ite_self]
      · rw [ite_voteView, State.stopNow_voteView, State.modFir_voteView, ite_self]
      · rfl

@[simp] theorem execGongIdleSend_voteView (s : State) : (nextState s (execGongIdleSend s)).voteView = s.voteView := by simp [execGongIdleSend]
@[simp] theorem execGongLost_voteView (s : State) : (nextState s (execGongLost s)).voteView = s.voteView := by simp [execGongLost]
@[simp] theorem effPaceConfig_voteView (c : Cmd) (s : State) : (effPaceConfig c s).1.voteView = s.voteView := by simp [effPaceConfig]
@[simp] theorem State.startPacing_voteView (s : State) (first dist dir : Nat) : (s.startPacing first dist dir).voteView = s.voteView := by
  simp [State.startPacing]

@[simp] theorem effPaceStart_voteView (c : Cmd) (s : State) : (effPaceStart c s).1.voteView = s.voteView := by
  unfold effPaceStart
  dsimp only
  (repeat' split) <;> simp

@[simp] theorem effPaceStop_voteView (c : Cmd) (s : State) : (effPaceStop c s).1.voteView = s.voteView := by simp [effPaceStop]
@[simp] theorem effPaceRole_voteView (c : Cmd) (s : State) : (effPaceRole c s).1.voteView = s.voteView := by simp [effPaceRole]
@[simp] theorem effPaceQuery_voteView (c : Cmd) (s : State) : (effPaceQuery c s).1.voteView = s.voteView := rfl

/-! Position feedback (chapter 13). -/

@[simp] theorem State.compareMove_voteView (ch : Nat) (before after : Int) (s : State) (out : Nat) :
    (State.compareMove ch before after s out).voteView = s.voteView := by
  simp [State.compareMove]

@[simp] theorem State.compareAll_voteView (s : State) (ch : Nat) : (s.compareAll ch).voteView = s.voteView := by simp [State.compareAll]
@[simp] theorem State.compareTick_voteView (s : State) : s.compareTick.voteView = s.voteView := by simp [State.compareTick]

@[simp] theorem State.chanError_voteView (s : State) (ch cause : Nat) : (s.chanError ch cause).voteView = s.voteView := by
  unfold State.chanError
  dsimp only
  (repeat' split) <;> simp

@[simp] theorem execEncoderEdge_voteView (c : Fin 8) (samples : List (Fin 4)) (s : State) :
    (nextState s (execEncoderEdge c samples s)).voteView = s.voteView := by
  unfold execEncoderEdge
  dsimp only
  (repeat' split) <;> simp

@[simp] theorem execEncoderFaultAutoClear_voteView (c : Fin 8) (s : State) : (nextState s (execEncoderFaultAutoClear c s)).voteView = s.voteView := by
  simp [execEncoderFaultAutoClear]
@[simp] theorem State.checkIndex_voteView (s : State) (ch : Nat) (ref : Int) : (s.checkIndex ch ref).voteView = s.voteView := by
  simp [State.checkIndex]

@[simp] theorem execIndexPulse_voteView (c : Fin 8) (samples : List Bool) (s : State) :
    (nextState s (execIndexPulse c samples s)).voteView = s.voteView := by
  unfold execIndexPulse
  dsimp only
  (repeat' split) <;> simp

@[simp] theorem execSsiFrameDone_voteView (c : Fin 8) (data : Nat) (parity error lowAtStart : Bool) (s : State) :
    (nextState s (execSsiFrameDone c data parity error lowAtStart s)).voteView = s.voteView := by
  unfold execSsiFrameDone
  dsimp only
  split <;> simp

@[simp] theorem State.planFeedback_voteView (s : State) (p : Nat) : (s.planFeedback p).voteView = s.voteView := by simp [State.planFeedback]

@[simp] theorem execProbeLatch_voteView (p : Fin 4) (samples : List Bool) (s : State) :
    (nextState s (execProbeLatch p samples s)).voteView = s.voteView := by
  unfold execProbeLatch
  dsimp only
  (repeat' split) <;> simp

@[simp] theorem execProbeTimeout_voteView (p : Fin 4) (s : State) : (nextState s (execProbeTimeout p s)).voteView = s.voteView := by
  simp [execProbeTimeout]

@[simp] theorem execComparePulseEnd_voteView (o : Fin 8) (s : State) : (nextState s (execComparePulseEnd o s)).voteView = s.voteView := by
  unfold execComparePulseEnd
  split <;> simp

@[simp] theorem execSwitchChange_voteView (w : Fin 16) (samples : List Bool) (s : State) :
    (nextState s (execSwitchChange w samples s)).voteView = s.voteView :=
  rfl

@[simp] theorem effEncConfig_voteView (c : Cmd) (s : State) : (effEncConfig c s).1.voteView = s.voteView := by simp [effEncConfig]
@[simp] theorem effEncSet_voteView (c : Cmd) (s : State) : (effEncSet c s).1.voteView = s.voteView := by simp [effEncSet]
@[simp] theorem effEncProbe_voteView (c : Cmd) (s : State) : (effEncProbe c s).1.voteView = s.voteView := by simp [effEncProbe]

@[simp] theorem effEncCompare_voteView (c : Cmd) (s : State) : (effEncCompare c s).1.voteView = s.voteView := by
  unfold effEncCompare
  dsimp only
  split_ifs
  · rfl
  · rfl
  · rfl
  · refine withHost_voteView c s _ fun b => ?_
    split <;> rfl

@[simp] theorem effEncQuery_voteView (c : Cmd) (s : State) : (effEncQuery c s).1.voteView = s.voteView := by simp [effEncQuery]

/-! Control loops and ADC (chapter 14). -/

@[simp] theorem execAdcResult_voteView (adc : Fin 2) (slot : Fin 40) (code : Fin 65536) (s : State) :
    (nextState s (execAdcResult adc slot code s)).voteView = s.voteView := by
  simp [execAdcResult]

@[simp] theorem State.planAdc_voteView (s : State) (p : Nat) : (s.planAdc p).voteView = s.voteView :=
  foldl_voteView (fun s x => by (repeat' split) <;> simp) _ _
@[simp] theorem State.loopLimit_voteView (s : State) (n : Nat) : (s.loopLimit n).voteView = s.voteView := by simp [State.loopLimit]
@[simp] theorem State.evalPermit_voteView (s : State) (n : Nat) (y : Option Int) : (s.evalPermit n y).voteView = s.voteView := by
  simp [State.evalPermit]

@[simp] theorem State.dropTarget_voteView (s : State) (c : LoopCfg) : (s.dropTarget c).voteView = s.voteView := by
  unfold State.dropTarget
  (repeat' split) <;> simp

@[simp] theorem State.deliverOutput_voteView (s : State) (n : Nat) (c : LoopCfg) (u : Int) : (s.deliverOutput n c u).voteView = s.voteView := by
  unfold State.deliverOutput
  (repeat' split) <;> simp

@[simp] theorem State.evaluateLoop_voteView (s : State) (n pt late : Nat) : (s.evaluateLoop n pt late).voteView = s.voteView := by
  simp [State.evaluateLoop]
@[simp] theorem State.noteEvaluated_voteView (s : State) (n pt : Nat) : (s.noteEvaluated n pt).voteView = s.voteView := rfl
@[simp] theorem effCleLoop_voteView (c : Cmd) (s : State) : (effCleLoop c s).1.voteView = s.voteView := by simp [effCleLoop]

@[simp] theorem effCleSections_voteView (c : Cmd) (s : State) : (effCleSections c s).1.voteView = s.voteView := by
  unfold effCleSections
  dsimp only
  split_ifs
  · rfl
  · rfl
  · refine withHost_voteView c s _ fun b => ?_
    split <;> rfl

@[simp] theorem effCleMode_voteView (c : Cmd) (s : State) : (effCleMode c s).1.voteView = s.voteView := by simp [effCleMode]
@[simp] theorem effCleSetpoint_voteView (c : Cmd) (s : State) : (effCleSetpoint c s).1.voteView = s.voteView := by simp [effCleSetpoint]
@[simp] theorem effCleQuery_voteView (c : Cmd) (s : State) : (effCleQuery c s).1.voteView = s.voteView := by simp [effCleQuery]
@[simp] theorem State.stageAdc_voteView (s : State) (g : AdcChange) : (s.stageAdc g).voteView = s.voteView := rfl

@[simp] theorem effAdcConfig_voteView (c : Cmd) (s : State) : (effAdcConfig c s).1.voteView = s.voteView := by
  unfold effAdcConfig
  dsimp only
  (repeat' split) <;> simp

/-! Service compression (chapter 05). -/

@[simp] theorem State.dramWrite_voteView (s : State) (addr : Nat) (bytes : List Byte) : (s.dramWrite addr bytes).voteView = s.voteView := rfl

@[simp] theorem State.serviceWrite_voteView (s : State) (cmd : Option Nat) (local_ : Bool) (addr : Nat) (bytes : List Byte) :
    (s.serviceWrite cmd local_ addr bytes).voteView = s.voteView := by
  simp [State.serviceWrite]

@[simp] theorem State.addJob_voteView (s : State) (j : CmpJob) : (s.addJob j).voteView = s.voteView := rfl

@[simp] theorem effCmpOpen_voteView (c : Cmd) (s : State) : (effCmpOpen c s).1.voteView = s.voteView := by
  unfold effCmpOpen
  dsimp only
  (repeat' split) <;> simp

@[simp] theorem serviceStart_voteView (c : Cmd) (d : Bool) (s : State) : (serviceStart c d s).1.voteView = s.voteView := by
  unfold serviceStart
  dsimp only
  split
  · simp
  · exact withHost_voteView c s _ fun b => by simp

@[simp] theorem effCmpCompress_voteView (c : Cmd) (s : State) : (effCmpCompress c s).1.voteView = s.voteView := by simp [effCmpCompress]

@[simp] theorem effCmpDecompress_voteView (c : Cmd) (s : State) : (effCmpDecompress c s).1.voteView = s.voteView := by
  unfold effCmpDecompress
  dsimp only
  (repeat' split) <;> simp

@[simp] theorem effCmpSave_voteView (c : Cmd) (s : State) : (effCmpSave c s).1.voteView = s.voteView := by simp [effCmpSave]

@[simp] theorem execCmpSaveDone_voteView (stream : Fin 16) (s : State) : (nextState s (execCmpSaveDone stream s)).voteView = s.voteView := by
  unfold execCmpSaveDone
  split <;> simp

@[simp] theorem effCmpRestore_voteView (c : Cmd) (s : State) : (effCmpRestore c s).1.voteView = s.voteView := by
  unfold effCmpRestore
  dsimp only
  split
  · rfl
  · split
    · rfl
    · refine withHost_voteView c s _ fun b => ?_
      split <;> rfl
    · rfl

@[simp] theorem effCmpClose_voteView (c : Cmd) (s : State) : (effCmpClose c s).1.voteView = s.voteView := by
  unfold effCmpClose
  dsimp only
  (repeat' split) <;> simp

@[simp] theorem State.ringWrite_voteView (s : State) (base size pos : Nat) (bytes : List Byte) :
    (s.ringWrite base size pos bytes).voteView = s.voteView :=
  foldl_voteView (fun s x => by simp) _ _

@[simp] theorem State.archiveWrite_voteView (s : State) (j : CmpJob) (block : List Byte) : (s.archiveWrite j block).voteView = s.voteView := by
  simp [State.archiveWrite]
@[simp] theorem State.camBlockGone_voteView (s : State) (j : CmpJob) : (s.camBlockGone j).voteView = s.voteView := by simp [State.camBlockGone]

@[simp] theorem State.compressDone_voteView (s : State) (j : CmpJob) : (s.compressDone j).voteView = s.voteView := by
  unfold State.compressDone
  split <;> simp

@[simp] theorem State.compressMismatch_voteView (s : State) (u : Nat) (j : CmpJob) : (s.compressMismatch u j).voteView = s.voteView := by
  unfold State.compressMismatch
  split <;> simp

@[simp] theorem State.noCompressor_voteView (s : State) : s.noCompressor.voteView = s.voteView := by
  unfold State.noCompressor
  dsimp only
  split
  · rfl
  · refine (foldl_voteView (fun s j => ?_) _ _).trans (by simp)
    split <;> simp

@[simp] theorem State.decompressDone_voteView (s : State) (j : CmpJob) : (s.decompressDone j).voteView = s.voteView := by
  unfold State.decompressDone
  dsimp only
  split <;> simp

@[simp] theorem execCmpBlockDone_voteView (unit : Fin 4) (mismatch : Bool) (s : State) :
    (nextState s (execCmpBlockDone unit mismatch s)).voteView = s.voteView := by
  unfold execCmpBlockDone
  split <;> simp

/-! Cameras (chapter 10). -/

@[simp] theorem execCsiDeskewDone_voteView (port : Fin 4) (s : State) : (nextState s (execCsiDeskewDone port s)).voteView = s.voteView := by
  simp [execCsiDeskewDone]

@[simp] theorem State.cciQueue_voteView (s : State) (m : Nat) (xs : List CciXfer) : (s.cciQueue m xs).voteView = s.voteView := by
  unfold State.cciQueue
  split <;> simp

@[simp] theorem State.setExp_voteView (s : State) (u : Nat) (e : ExpSet) : (s.setExp u e).voteView = s.voteView := rfl
@[simp] theorem State.expDone_voteView (s : State) (u : Nat) (e : ExpSet) (m : Nat) : (s.expDone u e m).voteView = s.voteView := by
  simp [State.expDone]

@[simp] theorem State.latchExp_voteView (s : State) (u k : Nat) : (s.latchExp u k).voteView = s.voteView := by
  unfold State.latchExp
  dsimp only
  split <;> simp

@[simp] theorem State.applyExps_voteView (s : State) (u f : Nat) : (s.applyExps u f).voteView = s.voteView := by simp [State.applyExps]

@[simp] theorem execExposureLatchTimeout_voteView (u : Fin 16) (s : State) : (nextState s (execExposureLatchTimeout u s)).voteView = s.voteView := by
  unfold execExposureLatchTimeout
  split <;> simp

@[simp] theorem State.expNack_voteView (s : State) (x : CciXfer) : (s.expNack x).voteView = s.voteView := by
  unfold State.expNack
  split <;> simp

@[simp] theorem State.expWritten_voteView (s : State) (x : CciXfer) : (s.expWritten x).voteView = s.voteView := by
  unfold State.expWritten
  split <;> simp

@[simp] theorem execCciTransferDone_voteView (port : Fin 4) (nack : Bool) (s : State) :
    (nextState s (execCciTransferDone port nack s)).voteView = s.voteView := by
  unfold execCciTransferDone
  dsimp only
  (repeat' split) <;> simp

@[simp] theorem State.closeFrame_voteView (s : State) (u : Nat) (f : Frame) : (s.closeFrame u f).voteView = s.voteView := rfl
@[simp] theorem State.releaseStreams_voteView (s : State) (u : Nat) (keep : List Nat) : (s.releaseStreams u keep).voteView = s.voteView :=
  foldl_voteView (fun s x => by simp) _ _

@[simp] theorem State.takeCamera_voteView (s : State) (u : Nat) : (s.takeCamera u).voteView = s.voteView := by
  unfold State.takeCamera
  dsimp only
  (repeat' split) <;> simp

@[simp] theorem State.takeMap_voteView (s : State) (u : Nat) : (s.takeMap u).voteView = s.voteView := by
  unfold State.takeMap
  split <;> simp

@[simp] theorem State.openFrame_voteView (s : State) (u : Nat) : (s.openFrame u).voteView = s.voteView := by simp [State.openFrame]

@[simp] theorem execFrameStart_voteView (u : Fin 16) (s : State) : (nextState s (execFrameStart u s)).voteView = s.voteView := by
  unfold execFrameStart
  dsimp only
  (repeat' split) <;> simp

@[simp] theorem execFrameEnd_voteView (u : Fin 16) (s : State) : (nextState s (execFrameEnd u s)).voteView = s.voteView := by
  unfold execFrameEnd
  dsimp only
  split <;> simp

@[simp] theorem execFrameTimeout_voteView (u : Fin 16) (s : State) : (nextState s (execFrameTimeout u s)).voteView = s.voteView := by
  unfold execFrameTimeout
  dsimp only
  split <;> simp

@[simp] theorem State.startService_voteView (s : State) : s.startService.voteView = s.voteView := rfl
@[simp] theorem State.overflow_voteView (s : State) (u : Nat) (f : Frame) : (s.overflow u f).voteView = s.voteView := by simp [State.overflow]
@[simp] theorem State.lineReady_voteView (s : State) (u : Nat) : (s.lineReady u).voteView = s.voteView := by simp [State.lineReady]

@[simp] theorem execLineArrival_voteView (u : Fin 16) (rows : List (List Nat)) (errs : Fin 4) (corr uncorr other : Nat) (s : State) :
    (nextState s (execLineArrival u rows errs corr uncorr other s)).voteView = s.voteView := by
  unfold execLineArrival
  dsimp only
  (repeat' split) <;> simp

@[simp] theorem execPipelineLine_voteView (s : State) : (nextState s (execPipelineLine s)).voteView = s.voteView := by
  unfold execPipelineLine
  dsimp only
  (repeat' split) <;> simp

@[simp] theorem State.writeDisplay_voteView (s : State) (f : Frame) : (s.writeDisplay f).voteView = s.voteView :=
  foldl_voteView (fun s x => by simp) _ _
@[simp] theorem State.writeProfile_voteView (s : State) (f : Frame) (p : List (List Nat)) : (s.writeProfile f p).voteView = s.voteView := rfl

@[simp] theorem State.codeFrame_voteView (s : State) (u : Nat) (f : Frame) : (s.codeFrame u f).voteView = s.voteView := by
  unfold State.codeFrame
  dsimp only
  refine (foldl_voteView (fun s pl => ?_) _ _).trans (by simp)
  exact foldl_voteView (fun s b => s.addJob_voteView _) _ s

@[simp] theorem State.deliverOutputs_voteView (s : State) (u : Nat) (f : Frame) (p : List (List Nat)) :
    (s.deliverOutputs u f p).voteView = s.voteView :=
  by
  simp [State.deliverOutputs]

@[simp] theorem State.camStopped_voteView (s : State) (u : Nat) : (s.camStopped u).voteView = s.voteView := by simp [State.camStopped]
@[simp] theorem State.endCamStop_voteView (now : Bool) (s : State) (u : Nat) : (State.endCamStop now s u).voteView = s.voteView := by
  simp [State.endCamStop]
@[simp] theorem State.endCamStops_voteView (s : State) : s.endCamStops.voteView = s.voteView := by simp [State.endCamStops]
@[simp] theorem effCamPort_voteView (c : Cmd) (s : State) : (effCamPort c s).1.voteView = s.voteView := by simp [effCamPort]
@[simp] theorem effCamSensorDesc_voteView (c : Cmd) (s : State) : (effCamSensorDesc c s).1.voteView = s.voteView := by simp [effCamSensorDesc]
@[simp] theorem effCamSetExposure_voteView (c : Cmd) (s : State) : (effCamSetExposure c s).1.voteView = s.voteView := by simp [effCamSetExposure]

@[simp] theorem effCamPipe_voteView (c : Cmd) (s : State) : (effCamPipe c s).1.voteView = s.voteView := by
  unfold effCamPipe
  dsimp only
  split
  · rfl
  · refine withHost_voteView c s _ fun b => ?_
    split
    · rfl
    · exact foldl_voteView (fun s k => s.modCamUnit_voteView k _) _ s

@[simp] theorem State.attachStream_voteView (s : State) (u : Nat) (o : CamOut) : (s.attachStream u o).voteView = s.voteView := by
  simp [State.attachStream]

@[simp] theorem effCamOutputs_voteView (c : Cmd) (s : State) : (effCamOutputs c s).1.voteView = s.voteView := by
  unfold effCamOutputs
  dsimp only
  (repeat' split) <;> simp

@[simp] theorem effCamStart_voteView (c : Cmd) (s : State) : (effCamStart c s).1.voteView = s.voteView := by
  unfold effCamStart
  dsimp only
  (repeat' split) <;> simp

@[simp] theorem effCamStop_voteView (c : Cmd) (s : State) : (effCamStop c s).1.voteView = s.voteView := by simp [effCamStop]

/-! The host interface (chapter 02). -/

@[simp] theorem State.discardWrite_voteView (s : State) : s.discardWrite.voteView = s.voteView := rfl
@[simp] theorem State.enableRing_voteView (s : State) (r : Nat) : (s.enableRing r).voteView = s.voteView := by simp [State.enableRing]
@[simp] theorem State.disableRing_voteView (s : State) (r : Nat) : (s.disableRing r).voteView = s.voteView := rfl
@[simp] theorem State.writeSqCtl_voteView (s : State) (r v : Nat) : (s.writeSqCtl r v).voteView = s.voteView := by simp [State.writeSqCtl]
@[simp] theorem State.enableEventRing_voteView (s : State) : s.enableEventRing.voteView = s.voteView := by simp [State.enableEventRing]
@[simp] theorem State.writeEqCtl_voteView (s : State) (v : Nat) : (s.writeEqCtl v).voteView = s.voteView := by simp [State.writeEqCtl]
@[simp] theorem State.ringsReset_voteView (s : State) : s.ringsReset.voteView = s.voteView :=
  (State.modHif_voteView ..).trans (foldl_voteView (fun s r => by simp) _ s)
@[simp] theorem State.tailDoorbell_voteView (s : State) (r t : Nat) : (s.tailDoorbell r t).voteView = s.voteView := by
  simp [State.tailDoorbell]
@[simp] theorem State.headDoorbell_voteView (s : State) (r h : Nat) : (s.headDoorbell r h).voteView = s.voteView := by
  simp [State.headDoorbell]
@[simp] theorem State.eventHeadDoorbell_voteView (s : State) (h : Nat) : (s.eventHeadDoorbell h).voteView = s.voteView := by
  simp [State.eventHeadDoorbell]

@[simp] theorem State.writeRingReg_voteView (s : State) (r o v : Nat) : (s.writeRingReg r o v).voteView = s.voteView := by
  have hbase : ∀ (p : Prop) [Decidable p] (g : Ring), (if p then s else s.setRing r g).voteView = s.voteView := fun p _ g => by
    rw [ite_voteView, State.setRing_voteView, ite_self]
  unfold State.writeRingReg
  dsimp only
  split
  · exact hbase _ _
  · exact hbase _ _
  · exact s.writeSqCtl_voteView r v
  · exact hbase _ _
  · exact hbase _ _
  · rfl
  · rfl
  · simp
  · rfl

@[simp] theorem State.writeEventReg_voteView (s : State) (o v : Nat) : (s.writeEventReg o v).voteView = s.voteView := by
  unfold State.writeEventReg
  split <;> simp

@[simp] theorem State.writeMsix_voteView (s : State) (v o w : Nat) : (s.writeMsix v o w).voteView = s.voteView := by
  unfold State.writeMsix
  split <;> simp

@[simp] theorem State.writeHifCtl_voteView (s : State) (v : Nat) : (s.writeHifCtl v).voteView = s.voteView := by
  simp [State.writeHifCtl]
@[simp] theorem State.writeHif_voteView (s : State) (o v : Nat) : (s.writeHif o v).voteView = s.voteView := by
  simp [State.writeHif]
@[simp] theorem State.hostWrite_voteView (s : State) (o v : Nat) : (s.hostWrite o v).voteView = s.voteView := by
  simp [State.hostWrite]
@[simp] theorem State.hifFall_voteView (s : State) : s.hifFall.voteView = s.voteView := rfl

@[simp] theorem State.hifRise_voteView (s : State) : s.hifRise.voteView = s.voteView := by
  unfold State.hifRise
  dsimp only
  split <;> simp

@[simp] theorem State.linkNoise_voteView (s : State) : s.linkNoise.voteView = s.voteView := rfl

@[simp] theorem execConfigRequest_voteView (q : ConfigReq) (s : State) : (nextState s (execConfigRequest q s)).voteView = s.voteView := by
  unfold execConfigRequest
  (repeat' split) <;> simp

@[simp] theorem State.malformed_voteView (s : State) : s.malformed.voteView = s.voteView := rfl

@[simp] theorem execMmioWriteDiscard_voteView (bar2 : Bool) (offset : Nat) (enables : List (Fin 16)) (s : State) :
    (nextState s (execMmioWriteDiscard bar2 offset enables s)).voteView = s.voteView := by
  simp [execMmioWriteDiscard]

@[simp] theorem execRegisterWrite_voteView (offset : Nat) (value : BitVec 32) (s : State) :
    (nextState s (execRegisterWrite offset value s)).voteView = s.voteView := by
  simp [execRegisterWrite]

@[simp] theorem execHifSqTailDb_voteView (r : Fin 4) (v : Fin 65536) (s : State) : (nextState s (execHifSqTailDb r v s)).voteView = s.voteView := by
  simp [execHifSqTailDb]
@[simp] theorem execHifCqHeadDb_voteView (r : Fin 4) (v : Fin 65536) (s : State) : (nextState s (execHifCqHeadDb r v s)).voteView = s.voteView := by
  simp [execHifCqHeadDb]
@[simp] theorem execHifEqHeadDb_voteView (v : Fin 65536) (s : State) : (nextState s (execHifEqHeadDb v s)).voteView = s.voteView := by
  simp [execHifEqHeadDb]
@[simp] theorem execRingsReset_voteView (value : BitVec 32) (s : State) : (nextState s (execRingsReset value s)).voteView = s.voteView := by
  simp [execRingsReset]

@[simp] theorem execRingPairEnable_voteView (r : Fin 4) (value : BitVec 32) (s : State) :
    (nextState s (execRingPairEnable r value s)).voteView = s.voteView := by
  simp [execRingPairEnable]

@[simp] theorem execRingPairDisable_voteView (r : Fin 4) (value : BitVec 32) (s : State) :
    (nextState s (execRingPairDisable r value s)).voteView = s.voteView := by
  simp [execRingPairDisable]

@[simp] theorem execEventRingEnable_voteView (value : BitVec 32) (s : State) : (nextState s (execEventRingEnable value s)).voteView = s.voteView := by
  simp [execEventRingEnable]

@[simp] theorem execEventRingDisable_voteView (value : BitVec 32) (s : State) :
    (nextState s (execEventRingDisable value s)).voteView = s.voteView := by
  simp [execEventRingDisable]

@[simp] theorem execCommandFetch_voteView (r : Fin 4) (d : HostRead) (s : State) : (nextState s (execCommandFetch r d s)).voteView = s.voteView := by
  unfold execCommandFetch
  (repeat' split) <;> simp

@[simp] theorem execEventBacklogDrain_voteView (s : State) : (nextState s (execEventBacklogDrain s)).voteView = s.voteView := by
  simp [execEventBacklogDrain]
@[simp] theorem execCoalesceTimeout_voteView (ring : Fin 5) (s : State) : (nextState s (execCoalesceTimeout ring s)).voteView = s.voteView := by
  simp [execCoalesceTimeout]
@[simp] theorem execHifReset_voteView (linkDown : Bool) (s : State) : (nextState s (execHifReset linkDown s)).voteView = s.voteView := by
  simp [execHifReset]
@[simp] theorem execHifReadyReturn_voteView (s : State) : (nextState s (execHifReadyReturn s)).voteView = s.voteView := by simp [execHifReadyReturn]

@[simp] theorem execPcieLinkUp_voteView (gen : Fin 8) (width : Fin 32) (refused : List (Nat × Nat)) (s : State) :
    (nextState s (execPcieLinkUp gen width refused s)).voteView = s.voteView := by
  simp [execPcieLinkUp]

/-! Time and PTP (chapter 16). -/

@[simp] theorem State.changePorts_voteView (s : State) (n : Nat) (f : Inst → Inst) : (s.changePorts n f).voteView = s.voteView := by
  simp [State.changePorts]
@[simp] theorem State.beginListening_voteView (s : State) (n port p : Nat) : (s.beginListening n port p).voteView = s.voteView := by
  simp [State.beginListening]

@[simp] theorem State.planPort_voteView (s : State) (port p : Nat) : (s.planPort port p).voteView = s.voteView := by
  unfold State.planPort
  dsimp only
  split <;> simp

@[simp] theorem State.switchPrimary_voteView (s : State) (n cause p : Nat) : (s.switchPrimary n cause p).voteView = s.voteView := rfl

@[simp] theorem State.tellSwitch_voteView (s : State) : s.tellSwitch.voteView = s.voteView := by
  unfold State.tellSwitch
  split <;> simp

@[simp] theorem State.endSwitch_voteView (s : State) : s.endSwitch.voteView = s.voteView := by simp [State.endSwitch]
@[simp] theorem State.sendGeneral_voteView (s : State) (port : Nat) (m : PtpMsg) : (s.sendGeneral port m).voteView = s.voteView := rfl
@[simp] theorem State.sendAnnounce_voteView (s : State) (n port p : Nat) : (s.sendAnnounce n port p).voteView = s.voteView := by
  simp [State.sendAnnounce]

@[simp] theorem State.planTime_voteView (s : State) (p : Nat) : (s.planTime p).voteView = s.voteView := by
  unfold State.planTime
  dsimp only
  (repeat' split) <;> simp

@[simp] theorem State.planTimeWork_voteView (s : State) (p : Nat) : (s.planTimeWork p).voteView = s.voteView := by simp [State.planTimeWork]
@[simp] theorem effTimPort_voteView (c : Cmd) (s : State) : (effTimPort c s).1.voteView = s.voteView := by simp [effTimPort]
@[simp] theorem effTimDomain_voteView (c : Cmd) (s : State) : (effTimDomain c s).1.voteView = s.voteView := by simp [effTimDomain]

@[simp] theorem effTimAdjust_voteView (c : Cmd) (s : State) : (effTimAdjust c s).1.voteView = s.voteView := by
  unfold effTimAdjust
  dsimp only
  (repeat' split) <;> simp

@[simp] theorem effTimSelect_voteView (c : Cmd) (s : State) : (effTimSelect c s).1.voteView = s.voteView := by simp [effTimSelect]
@[simp] theorem effTimQuery_voteView (c : Cmd) (s : State) : (effTimQuery c s).1.voteView = s.voteView := by simp [effTimQuery]
@[simp] theorem State.ptpDiscard_voteView (s : State) (port : Nat) : (s.ptpDiscard port).voteView = s.voteView := rfl
@[simp] theorem State.ptpAccept_voteView (s : State) (port : Nat) : (s.ptpAccept port).voteView = s.voteView := rfl
@[simp] theorem State.syncRx_voteView (s : State) (port n tap : Nat) (m : PtpMsg) : (s.syncRx port n tap m).voteView = s.voteView := by
  simp [State.syncRx]

@[simp] theorem execPtpSyncRx_voteView (port : Fin 2) (tap : Fin 24) (frame : List Byte) (s : State) :
    (nextState s (execPtpSyncRx port tap frame s)).voteView = s.voteView := by
  unfold execPtpSyncRx
  split <;> simp

@[simp] theorem State.announce_voteView (s : State) (n port : Nat) (m : PtpMsg) : (s.announce n port m).voteView = s.voteView := by
  simp [State.announce]
@[simp] theorem State.measurePath_voteView (s : State) (port n : Nat) (twice : Int) : (s.measurePath port n twice).voteView = s.voteView :=
  rfl

@[simp] theorem State.delayRespRx_voteView (s : State) (port n : Nat) (m : PtpMsg) : (s.delayRespRx port n m).voteView = s.voteView := by
  unfold State.delayRespRx
  dsimp only
  split <;> simp

@[simp] theorem State.pdelayRespRx_voteView (s : State) (port n tap : Nat) (m : PtpMsg) : (s.pdelayRespRx port n tap m).voteView = s.voteView := by
  unfold State.pdelayRespRx
  split <;> simp

@[simp] theorem State.pdelayFollowRx_voteView (s : State) (port n : Nat) (m : PtpMsg) : (s.pdelayFollowRx port n m).voteView = s.voteView := by
  unfold State.pdelayFollowRx
  split <;> simp

@[simp] theorem State.followUpRx_voteView (s : State) (port n : Nat) (m : PtpMsg) : (s.followUpRx port n m).voteView = s.voteView := by
  unfold State.followUpRx
  dsimp only
  split <;> simp

@[simp] theorem State.delayReqRx_voteView (s : State) (port n tap : Nat) (m : PtpMsg) : (s.delayReqRx port n tap m).voteView = s.voteView := by
  simp [State.delayReqRx]
@[simp] theorem State.messageRx_voteView (s : State) (port n tap : Nat) (m : PtpMsg) : (s.messageRx port n tap m).voteView = s.voteView := by
  simp [State.messageRx]

@[simp] theorem execPtpMessageRx_voteView (port : Fin 2) (tap : Fin 24) (frame : List Byte) (s : State) :
    (nextState s (execPtpMessageRx port tap frame s)).voteView = s.voteView := by
  unfold execPtpMessageRx
  split <;> simp

@[simp] theorem State.afterDeparture_voteView (s : State) (port n : Nat) (m : PtpMsg) (stamp : Int) :
    (s.afterDeparture port n m stamp).voteView = s.voteView := by
  unfold State.afterDeparture
  split <;> simp

@[simp] theorem State.depart_voteView (s : State) (port n : Nat) (m : PtpMsg) (frame : List Byte) (at_ tap : Nat) :
    (s.depart port n m frame at_ tap).voteView = s.voteView := by
  simp [State.depart]

@[simp] theorem execPtpTx_voteView (port : Fin 2) (frame : List Byte) (depart : Nat) (tap : Fin 24) (missed : Bool) (s : State) :
    (nextState s (execPtpTx port frame depart tap missed s)).voteView = s.voteView := by
  unfold execPtpTx
  split <;> simp

@[simp] theorem State.sendAgain_voteView (s : State) (port : Nat) : (s.sendAgain port).voteView = s.voteView := by
  unfold State.sendAgain
  dsimp only
  split
  · rfl
  · refine (foldl_voteView (fun s a => ?_) _ _).trans (by simp)
    split
    · simp
    · rfl

@[simp] theorem State.loseMaster_voteView (s : State) (n cause : Nat) : (s.loseMaster n cause).voteView = s.voteView := by
  simp [State.loseMaster]
@[simp] theorem State.ethDown_voteView (s : State) (port : Nat) : (s.ethDown port).voteView = s.voteView := by simp [State.ethDown]

@[simp] theorem execPtpMasterLost_voteView (inst : Fin 2) (cause : Fin 3) (s : State) :
    (nextState s (execPtpMasterLost inst cause s)).voteView = s.voteView := by
  simp [execPtpMasterLost]

@[simp] theorem execEthLinkUp_voteView (port : Fin 2) (s : State) : (nextState s (execEthLinkUp port s)).voteView = s.voteView := by
  simp [execEthLinkUp]
@[simp] theorem execSwitchSlewDone_voteView (s : State) : (nextState s (execSwitchSlewDone s)).voteView = s.voteView := by simp [execSwitchSlewDone]

/-! Streak detection (chapter 11). -/

@[simp] theorem State.addTest_voteView (s : State) (t : LTest) : (s.addTest t).voteView = s.voteView := rfl

@[simp] theorem State.endTest_voteView (s : State) (t : LTest) (status : Nat) (results : List Byte) :
    (s.endTest t status results).voteView = s.voteView := by
  simp [State.endTest]

@[simp] theorem State.endIfDone_voteView (s : State) (id : Nat) : (s.endIfDone id).voteView = s.voteView := by
  unfold State.endIfDone
  split <;> simp

@[simp] theorem State.testColumn_voteView (s : State) (u : Nat) (m : StkMap) (g ch cause : Nat) (e : List Int) (cmd deadline : Option Nat) :
    (s.testColumn u m g ch cause e cmd deadline).voteView = s.voteView := by
  simp [State.testColumn]

@[simp] theorem State.judgeColumn_voteView (s : State) (u : Nat) (m : StkMap) (c : StkCfg) (closeLine g : Nat) (vs : List ColView) :
    (s.judgeColumn u m c closeLine g vs).voteView = s.voteView := by
  unfold State.judgeColumn
  split <;> simp

@[simp] theorem State.compareFrame_voteView (s : State) (u : Nat) (m : StkMap) (f : Frame) (p : List (List Nat)) :
    (s.compareFrame u m f p).voteView = s.voteView := by
  simp [State.compareFrame]

@[simp] theorem State.joinRetest_voteView (s : State) (n : Nat) : (s.joinRetest n).1.voteView = s.voteView := by
  unfold State.joinRetest
  split <;> simp

@[simp] theorem State.applyVerdict_voteView (s : State) (n v : Nat) : (s.applyVerdict n v).1.voteView = s.voteView := by
  unfold State.applyVerdict
  split <;> simp

@[simp] theorem State.modTest_voteView (s : State) (id : Nat) (f : LTest → LTest) : (s.modTest id f).voteView = s.voteView := rfl

@[simp] theorem State.giveVerdict_voteView (s : State) (t : LTest) (p : Step) (v : Nat) (rho : Rat) :
    (s.giveVerdict t p v rho).voteView = s.voteView := by
  simp [State.giveVerdict]

@[simp] theorem State.evaluateStep_voteView (s : State) (c : StkCfg) (m : StkMap) (t : LTest) (p : Step) :
    (s.evaluateStep c m t p).voteView = s.voteView := by
  simp [State.evaluateStep]

@[simp] theorem State.fitCalibration_voteView (s : State) (c : StkCfg) (m : StkMap) (t : LTest) (p : Step) :
    (s.fitCalibration c m t p).voteView = s.voteView := by
  unfold State.fitCalibration
  dsimp only
  (repeat' split) <;> simp

@[simp] theorem State.evaluateDue_voteView (u : Nat) (c : StkCfg) (m : StkMap) (f : Frame) (n : Nat) (s : State) :
    (State.evaluateDue u c m f n s).voteView = s.voteView :=
  by
  induction n generalizing s with
  | zero => rfl
  | succ n ih =>
    unfold State.evaluateDue
    split
    · rfl
    · rw [ih]; simp

@[simp] theorem State.stkFrame_voteView (s : State) (u : Nat) (f : Frame) (p : List (List Nat)) : (s.stkFrame u f p).voteView = s.voteView := by
  unfold State.stkFrame
  split <;> simp

@[simp] theorem execFrameOutputDelivery_voteView (u : Fin 16) (s : State) : (nextState s (execFrameOutputDelivery u s)).voteView = s.voteView := by
  unfold execFrameOutputDelivery
  split <;> simp

@[simp] theorem State.placeStep_voteView (s : State) (id : Nat) (p : Step) (place : Nat × Nat × Nat) :
    (s.placeStep id p place).voteView = s.voteView := by
  unfold State.placeStep
  dsimp only
  split <;> simp

@[simp] theorem State.placeRetest_voteView (s : State) : s.placeRetest.voteView = s.voteView := by
  unfold State.placeRetest
  (repeat' split) <;> simp

@[simp] theorem execLadderStepPlace_voteView (s : State) : (nextState s (execLadderStepPlace s)).voteView = s.voteView := by
  unfold execLadderStepPlace
  (repeat' split) <;> simp

@[simp] theorem execLadderTimeout_voteView (test : Nat) (s : State) : (nextState s (execLadderTimeout test s)).voteView = s.voteView := by
  unfold execLadderTimeout
  split <;> simp

@[simp] theorem effStkMap_voteView (c : Cmd) (s : State) : (effStkMap c s).1.voteView = s.voteView := by simp [effStkMap]
@[simp] theorem State.enableStk_voteView (s : State) (c : StkCfg) : (s.enableStk c).voteView = s.voteView := rfl
@[simp] theorem State.disableStk_voteView (s : State) (c : StkCfg) : (s.disableStk c).voteView = s.voteView := by simp [State.disableStk]
@[simp] theorem effStkConfig_voteView (c : Cmd) (s : State) : (effStkConfig c s).1.voteView = s.voteView := by simp [effStkConfig]

@[simp] theorem ladderStart_voteView (c : Cmd) (s : State) : (ladderStart c s).1.voteView = s.voteView := by
  unfold ladderStart
  dsimp only
  (repeat' split) <;> simp

@[simp] theorem effStkLadder_voteView (c : Cmd) (s : State) : (effStkLadder c s).1.voteView = s.voteView := by simp [effStkLadder]
@[simp] theorem effStkQuery_voteView (c : Cmd) (s : State) : (effStkQuery c s).1.voteView = s.voteView := rfl

/-! LED drive and curing (chapter 15). -/

@[simp] theorem State.runZone_voteView (s : State) (n : Nat) : (s.runZone n).voteView = s.voteView := rfl

@[simp] theorem State.sendLevels_voteView (s : State) (ch ticks : Nat) (levels : List Nat) :
    (s.sendLevels ch ticks levels).voteView = s.voteView := by
  simp [State.sendLevels]

@[simp] theorem State.startFrame_voteView (s : State) (ch p : Nat) : (s.startFrame ch p).voteView = s.voteView := by
  unfold State.startFrame
  dsimp only
  split
  · rfl
  · simp [foldl_voteView State.runZone_voteView]

@[simp] theorem State.startScan_voteView (s : State) (ch p : Nat) : (s.startScan ch p).voteView = s.voteView := rfl

@[simp] theorem State.takeChain_voteView (s : State) (ch p : Nat) : (s.takeChain ch p).voteView = s.voteView := by
  unfold State.takeChain
  dsimp only
  split <;> simp

@[simp] theorem State.takeMatrix_voteView (s : State) (ch p : Nat) : (s.takeMatrix ch p).voteView = s.voteView := by
  unfold State.takeMatrix
  dsimp only
  split <;> simp

@[simp] theorem State.takeZone_voteView (s : State) (n p : Nat) : (s.takeZone n p).voteView = s.voteView := by
  unfold State.takeZone
  split <;> simp

@[simp] theorem State.launchI2c_voteView (s : State) (m : Nat) : (s.launchI2c m).voteView = s.voteView := by
  unfold State.launchI2c
  split <;> simp

@[simp] theorem State.queueI2c_voteView (s : State) (m : Nat) (j : I2cJob) : (s.queueI2c m j).voteView = s.voteView := by simp [State.queueI2c]
@[simp] theorem State.endI2c_voteView (s : State) (m : Nat) : (s.endI2c m).voteView = s.voteView := by simp [State.endI2c]

@[simp] theorem State.planSensor_voteView (s : State) (k p : Nat) : (s.planSensor k p).voteView = s.voteView := by
  unfold State.planSensor
  split <;> simp

@[simp] theorem State.planChain_voteView (p : Nat) (s : State) (ch : Nat) : (s.planChain p ch).voteView = s.voteView := by
  unfold State.planChain
  dsimp only
  split
  · simp
  · split <;> simp

@[simp] theorem State.planLed_voteView (s : State) (p : Nat) : (s.planLed p).voteView = s.voteView := by
  simp [State.planLed]
@[simp] theorem State.matrixPins_voteView (s : State) (m : MatrixCfg) (en : Bool) (line : Nat) : (s.matrixPins m en line).voteView = s.voteView := rfl
@[simp] theorem State.ledMismatch_voteView (s : State) (ch at_ : Nat) : (s.ledMismatch ch at_).voteView = s.voteView := by
  simp [State.ledMismatch]

@[simp] theorem State.checkReturn_voteView (s : State) (ch : Nat) (before : Option (List Nat)) (returned : List Nat) :
    (s.checkReturn ch before returned).voteView = s.voteView := by
  unfold State.checkReturn
  (repeat' split) <;> simp

@[simp] theorem execMatrixSlotStart_voteView (ch : Fin 8) (s : State) : (nextState s (execMatrixSlotStart ch s)).voteView = s.voteView := by
  simp [execMatrixSlotStart]

@[simp] theorem State.matrixEnable_voteView (s : State) (ch : Nat) : (s.matrixEnable ch).voteView = s.voteView := by
  unfold State.matrixEnable
  dsimp only
  (repeat' split) <;> simp

@[simp] theorem execColourSensorReadDone_voteView (k : Fin 8) (bytes : List Byte) (nack : Bool) (s : State) :
    (nextState s (execColourSensorReadDone k bytes nack s)).voteView = s.voteView := by
  unfold execColourSensorReadDone
  split <;> simp

@[simp] theorem effLedChain_voteView (c : Cmd) (s : State) : (effLedChain c s).1.voteView = s.voteView := by simp [effLedChain]
@[simp] theorem effLedMatrix_voteView (c : Cmd) (s : State) : (effLedMatrix c s).1.voteView = s.voteView := by simp [effLedMatrix]
@[simp] theorem State.stageLevels_voteView (s : State) (ch first n : Nat) (b : List Byte) : (s.stageLevels ch first n b).voteView = s.voteView :=
  rfl

@[simp] theorem effLedLevels_voteView (c : Cmd) (s : State) : (effLedLevels c s).1.voteView = s.voteView := by
  have hread : (withHost c s fun b => good (s.stageLevels (u8 c.packet 8) (u16 c.packet 10) (u16 c.packet 12) b)).1.voteView = s.voteView :=
    withHost_voteView c s _ fun b => rfl
  simp only [effLedLevels, ite_fst, ite_voteView, hread]
  split_ifs <;> rfl

@[simp] theorem zoneStart_voteView (p : List Byte) (s : State) : (zoneStart p s).1.voteView = s.voteView := by simp [zoneStart]

@[simp] theorem effLedZones_voteView (c : Cmd) (s : State) : (effLedZones c s).1.voteView = s.voteView := by
  unfold effLedZones
  dsimp only
  (repeat' split) <;> simp

/-! Twin operation and safety (chapter 17). -/

@[simp] theorem State.sendTap_voteView (s : State) (badIn badPin : Bool) : (s.sendTap badIn badPin).voteView = s.voteView := by
  simp [State.sendTap]

@[simp] theorem State.tapPeriod_voteView (s : State) (k : Nat) : (s.tapPeriod k).voteView = s.voteView := by
  unfold State.tapPeriod
  split <;> simp

@[simp] theorem execTapSend_voteView (s : State) : (nextState s (execTapSend s)).voteView = s.voteView := by simp [execTapSend]
@[simp] theorem State.reportRelinquish_voteView (s : State) (cause : Nat) (gone : Bool) : (s.reportRelinquish cause gone).voteView = s.voteView := by
  simp [State.reportRelinquish]
@[simp] theorem State.relinquish_voteView (s : State) (cause : Nat) : (s.relinquish cause).voteView = s.voteView := by
  simp [State.relinquish]
@[simp] theorem State.tellRole_voteView (s : State) (before : Bool) : (s.tellRole before).voteView = s.voteView := by simp [State.tellRole]
@[simp] theorem State.switchPulses_voteView (s : State) (before : Bool) : (s.switchPulses before).voteView = s.voteView := by
  simp [State.switchPulses]

@[simp] theorem State.dropExchange_voteView (s : State) (r : Role) : (s.dropExchange r).voteView = s.voteView := by
  unfold State.dropExchange
  split <;> simp

@[simp] theorem Twn.aloneCount_voter (t : Twn) : t.aloneCount.voter = t.voter := by
  unfold Twn.aloneCount
  split <;> rfl

@[simp] theorem State.setRole_voteView (s : State) (r : Role) (cause : Nat) : (s.setRole r cause).voteView = s.voteView := by
  simp [State.setRole]

@[simp] theorem State.enterShadow_voteView (s : State) (e cause : Nat) : (s.enterShadow e cause).voteView = s.voteView := by
  unfold State.enterShadow
  dsimp only
  rw [State.setRole_voteView]
  split
  · exact State.voteView_congr rfl rfl rfl
  · exact State.voteView_congr rfl rfl rfl

@[simp] theorem State.takeCounts_voteView (s : State) : s.takeCounts.voteView = s.voteView :=
  foldl_voteView (fun s x => by simp) _ _

@[simp] theorem execElectionTimeout_voteView (s : State) : (nextState s (execElectionTimeout s)).voteView = s.voteView := by
  unfold execElectionTimeout
  split <;> simp

@[simp] theorem State.modPath_voteView (s : State) (pin : Bool) (f : TapPath → TapPath) : (s.modPath pin f).voteView = s.voteView := by
  unfold State.modPath
  split <;> simp

@[simp] theorem State.markAbsent_voteView (s : State) : s.markAbsent.voteView = s.voteView := rfl
@[simp] theorem State.reportPath_voteView (s : State) (pin lost : Bool) (since : Nat) : (s.reportPath pin lost since).voteView = s.voteView := by
  simp [State.reportPath]
@[simp] theorem State.tapHeard_voteView (s : State) (pin : Bool) : (s.tapHeard pin).voteView = s.voteView := by simp [State.tapHeard]
@[simp] theorem State.notePartner_voteView (s : State) (w : Nat) : (s.notePartner w).voteView = s.voteView := by
  simp [State.notePartner]

@[simp] theorem State.tickLink_voteView (s : State) : s.tickLink.voteView = s.voteView := by
  unfold State.tickLink
  dsimp only
  (repeat' split) <;> rfl

@[simp] theorem execChezatinLinkUp_voteView (ams : List (List Byte × Nat)) (turns : List (Nat × Nat)) (offTicks : Int) (offTaps : Fin 24) (s : State) :
    (nextState s (execChezatinLinkUp ams turns offTicks offTaps s)).voteView = s.voteView := by
  unfold execChezatinLinkUp
  dsimp only
  (repeat' split) <;> rfl

@[simp] theorem State.lineFromRecord_voteView (s : State) (b : List Byte) : (s.lineFromRecord b).voteView = s.voteView := by
  simp [State.lineFromRecord]

@[simp] theorem State.takeLine_voteView (s : State) (b : List Byte) : (s.takeLine b).voteView = s.voteView := by
  unfold State.takeLine
  dsimp only
  split_ifs
  · rfl
  · exact State.voteView_congr rfl rfl rfl
  · exact (State.lineFromRecord_voteView ..).trans (State.voteView_congr rfl rfl rfl)

@[simp] theorem State.testOwnLine_voteView (s : State) : s.testOwnLine.voteView = s.voteView := by
  unfold State.testOwnLine
  dsimp only
  split
  · rfl
  · split
    · rfl
    · split <;> simp

@[simp] theorem State.sendInputs_voteView (s : State) : s.sendInputs.voteView = s.voteView := by
  unfold State.sendInputs
  dsimp only
  split
  · rfl
  · exact (foldl_voteView (fun s n => s.modLoop_voteView n _) _ _).trans (by simp)

@[simp] theorem State.takeInputs_voteView (s : State) (r : InputRec) : (s.takeInputs r).voteView = s.voteView := by
  unfold State.takeInputs
  dsimp only
  rw [foldl_voteView (fun s k => s.modColour_voteView ..), foldl_voteView (fun s k => s.modLoop_voteView ..),
    foldl_voteView (fun s k => s.modProbe_voteView ..), foldl_voteView (fun s k => s.modSwitchIn_voteView ..),
    foldl_voteView (fun s k => s.modChan_voteView ..)]

@[simp] theorem execChangeRecordRx_voteView (tag : Nat) (packet : List Byte) (d : HostRead) (s : State) :
    (nextState s (execChangeRecordRx tag packet d s)).voteView = s.voteView := by
  simp [execChangeRecordRx]

@[simp] theorem execAckRecordRx_voteView (tag : Nat) (s : State) : (nextState s (execAckRecordRx tag s)).voteView = s.voteView := by
  unfold execAckRecordRx
  split <;> simp

@[simp] theorem execCommitRecordRx_voteView (tag tick : Nat) (s : State) : (nextState s (execCommitRecordRx tag tick s)).voteView = s.voteView := by
  simp [execCommitRecordRx]
@[simp] theorem State.judgePartner_voteView (s : State) (lines : Nat) : (s.judgePartner lines).voteView = s.voteView := by
  simp [State.judgePartner]

@[simp] theorem State.voterProof_voteView (s : State) (old h : Health) : (s.voterProof old h).voteView = s.voteView := by
  unfold State.voterProof
  split <;> simp

@[simp] theorem State.healthProof_voteView (s : State) (old h : Health) : (s.healthProof old h).voteView = s.voteView := by
  unfold State.healthProof
  extract_lets s₁ tap s₂ s₃
  have htap : ∀ t k, (tap t k).voteView = t.voteView := fun t k => by
    simp only [tap]
    split
    · rfl
    · simp
  have hend : s₃.voteView = s.voteView := by
    simp only [s₃, ite_voteView, State.proofFail_voteView, ite_self, s₂, htap, s₁, State.voterProof_voteView]
  rw [ite_voteView, State.proofFail_voteView, ite_self, hend]

@[simp] theorem execHealthRecordRx_voteView (h : Health) (s : State) : (nextState s (execHealthRecordRx h s)).voteView = s.voteView := by
  simp [execHealthRecordRx]

@[simp] theorem execPartnerHealthRestore_voteView (s : State) : (nextState s (execPartnerHealthRestore s)).voteView = s.voteView := by
  unfold execPartnerHealthRestore
  split <;> simp

@[simp] theorem State.reportCompare_voteView (s : State) (lane : Nat) : (s.reportCompare lane).voteView = s.voteView := by simp [State.reportCompare]

@[simp] theorem execCmpReport_voteView (lane : Fin 64) (bytes : List Byte) (s : State) :
    (nextState s (execCmpReport lane bytes s)).voteView = s.voteView := by
  simp [execCmpReport]

@[simp] theorem State.declareFault_voteView (s : State) (cause : Nat) : (s.declareFault cause).voteView = s.voteView := by
  unfold State.declareFault
  dsimp only
  (repeat' split) <;> simp

@[simp] theorem execSelfDiagnosisFault_voteView (cause : Fin 9) (readback : List Bool) (s : State) :
    (nextState s (execSelfDiagnosisFault cause readback s)).voteView = s.voteView := by
  simp [execSelfDiagnosisFault]

@[simp] theorem execRelinquishOut_voteView (s : State) : (nextState s (execRelinquishOut s)).voteView = s.voteView := by
  unfold execRelinquishOut
  split <;> simp

@[simp] theorem State.decideExchange_voteView (s : State) (atPage : Bool) (cause : Nat) (cmd : Option Nat) :
    (s.decideExchange atPage cause cmd).voteView = s.voteView :=
  by
  simp [State.decideExchange]

@[simp] theorem State.trackClean_voteView (s : State) : s.trackClean.voteView = s.voteView := by
  simp [State.trackClean]

@[simp] theorem execTakeBack_voteView (s : State) : (nextState s (execTakeBack s)).voteView = s.voteView := by
  unfold execTakeBack
  split <;> simp

@[simp] theorem execHandoverRecordRx_voteView (tick : Nat) (s : State) : (nextState s (execHandoverRecordRx tick s)).voteView = s.voteView := by
  simp [execHandoverRecordRx]

@[simp] theorem State.noteRevert_voteView (s : State) (preferredLead : Bool) (cause : Nat) :
    (s.noteRevert preferredLead cause).voteView = s.voteView := by
  simp [State.noteRevert]

@[simp] theorem State.keepLine_voteView (s : State) (old : Twn) : (s.keepLine old).voteView = s.voteView := rfl
@[simp] theorem effTwnHandover_voteView (c : Cmd) (s : State) : (effTwnHandover c s).1.voteView = s.voteView := by
  simp [effTwnHandover]

@[simp] theorem effTwnProofTest_voteView (c : Cmd) (s : State) : (effTwnProofTest c s).1.voteView = s.voteView := by
  unfold effTwnProofTest
  dsimp only
  (repeat' split) <;> simp

@[simp] theorem effTwnQuery_voteView (c : Cmd) (s : State) : (effTwnQuery c s).1.voteView = s.voteView := rfl

/-! Power, clocks and reset (chapter 18). -/

@[simp] theorem State.tellLow_voteView (s : State) : s.tellLow.voteView = s.voteView := by simp [State.tellLow]
@[simp] theorem State.judgedReset_voteView (s : State) (ns : Nat) : (s.judgedReset ns).voteView = s.voteView := by simp [State.judgedReset]

@[simp] theorem execResetPinsReleased_voteView (straps : Fin 16) (s : State) :
    (nextState s (execResetPinsReleased straps s)).voteView = s.voteView := by
  simp [execResetPinsReleased]

@[simp] theorem execPllLock_voteView (pll : Fin 4) (s : State) : (nextState s (execPllLock pll s)).voteView = s.voteView := by simp [execPllLock]
@[simp] theorem State.lanesLost_voteView (s : State) : s.lanesLost.voteView = s.voteView := by
  simp [State.lanesLost]

@[simp] theorem execPllLockLoss_voteView (pll : Fin 4) (s : State) : (nextState s (execPllLockLoss pll s)).voteView = s.voteView := by
  unfold execPllLockLoss
  (repeat' split) <;> simp

@[simp] theorem execJtagTrst_voteView (writes : List (Nat × List Byte)) (s : State) :
    (nextState s (execJtagTrst writes s)).voteView = s.voteView := by
  simp [execJtagTrst]

@[simp] theorem State.hifRiseIfUp_voteView (s : State) : s.hifRiseIfUp.voteView = s.voteView := by simp [State.hifRiseIfUp]
@[simp] theorem State.emitAll_voteView (s : State) (l : List Out) : (s.emitAll l).voteView = s.voteView :=
  foldl_voteView (fun s x => by simp) _ _

@[simp] theorem execBootImageAuthenticated_voteView (unread : Fin 4) (s : State) :
    (nextState s (execBootImageAuthenticated unread s)).voteView = s.voteView := by
  simp [execBootImageAuthenticated]

@[simp] theorem execDramTrainingDone_voteView (trained : Fin 16) (s : State) :
    (nextState s (execDramTrainingDone trained s)).voteView = s.voteView := by
  simp [execDramTrainingDone]

@[simp] theorem State.watchdogFault_voteView (s : State) : s.watchdogFault.voteView = s.voteView := by simp [State.watchdogFault]
@[simp] theorem execWatchdogRestart_voteView (s : State) : (nextState s (execWatchdogRestart s)).voteView = s.voteView := by
  simp [execWatchdogRestart]
@[simp] theorem effSysEnterDormant_voteView (c : Cmd) (s : State) : (effSysEnterDormant c s).1.voteView = s.voteView := by simp [effSysEnterDormant]

@[simp] theorem execDormantOutputsOff_voteView (s : State) : (nextState s (execDormantOutputsOff s)).voteView = s.voteView := by
  unfold execDormantOutputsOff
  split <;> simp

@[simp] theorem execWakeCrossing_voteView (falling : Bool) (micros : Nat) (s : State) :
    (nextState s (execWakeCrossing falling micros s)).voteView = s.voteView := by
  simp [execWakeCrossing]

@[simp] theorem execWakePwrOn_voteView (s : State) : (nextState s (execWakePwrOn s)).voteView = s.voteView := by
  unfold execWakePwrOn
  split <;> simp

@[simp] theorem execSramEccError_voteView (store : Fin 14) (word : Nat) (bitNo : Fin 72) (double : Bool) (eng : Fin 65) (s : State) :
    (nextState s (execSramEccError store word bitNo double eng s)).voteView = s.voteView := by
  simp [execSramEccError]

@[simp] theorem effSysIdentify_voteView (c : Cmd) (s : State) : (effSysIdentify c s).1.voteView = s.voteView := rfl
@[simp] theorem effSysHealth_voteView (c : Cmd) (s : State) : (effSysHealth c s).1.voteView = s.voteView := rfl
@[simp] theorem effSysEventMask_voteView (c : Cmd) (s : State) : (effSysEventMask c s).1.voteView = s.voteView := by simp [effSysEventMask]
@[simp] theorem advanceRollback_voteView (s : State) : (advanceRollback s).1.voteView = s.voteView := by simp [advanceRollback]
@[simp] theorem effSysFwUpdate_voteView (c : Cmd) (s : State) : (effSysFwUpdate c s).1.voteView = s.voteView := by simp [effSysFwUpdate]

@[simp] theorem execFwUpdateDone_voteView (readBackOk : Bool) (s : State) : (nextState s (execFwUpdateDone readBackOk s)).voteView = s.voteView := by
  unfold execFwUpdateDone
  split <;> simp

/-! GPIO, the Rim port, the Gong bus and I²C (chapter 19). -/

@[simp] theorem effRimConfig_voteView (c : Cmd) (s : State) : (effRimConfig c s).1.voteView = s.voteView := by simp [effRimConfig]

@[simp] theorem execRimWrite_voteView (addr : Fin 512) (value : BitVec 32) (s : State) :
    (nextState s (execRimWrite addr value s)).voteView = s.voteView := by
  simp [execRimWrite]

@[simp] theorem execGongRxLock_voteView (chars : List (Fin 3)) (s : State) : (nextState s (execGongRxLock chars s)).voteView = s.voteView := by
  simp [execGongRxLock]
@[simp] theorem effGngConfig_voteView (c : Cmd) (s : State) : (effGngConfig c s).1.voteView = s.voteView := by simp [effGngConfig]
@[simp] theorem State.startI2c_voteView (s : State) (m : Nat) (value : BitVec 32) : (s.startI2c m value).voteView = s.voteView := by
  simp [State.startI2c]
@[simp] theorem execI2cXfer_voteView (m : Fin 2) (value : BitVec 32) (s : State) : (nextState s (execI2cXfer m value s)).voteView = s.voteView := by
  simp [execI2cXfer]

@[simp] theorem execI2cTransferDone_voteView (m : Fin 2) (data : Fin 256) (nack : Bool) (s : State) :
    (nextState s (execI2cTransferDone m data nack s)).voteView = s.voteView := by
  unfold execI2cTransferDone
  dsimp only
  split <;> simp

@[simp] theorem State.writeGpioOut_voteView (s : State) (value mask : BitVec 32) : (s.writeGpioOut value mask).voteView = s.voteView :=
  rfl

@[simp] theorem execGpioOutWrite_voteView (value mask : BitVec 32) (s : State) :
    (nextState s (execGpioOutWrite value mask s)).voteView = s.voteView := by
  simp [execGpioOutWrite]

@[simp] theorem State.tickGpio_voteView (s : State) : s.tickGpio.voteView = s.voteView := by simp [State.tickGpio]
@[simp] theorem State.sampleGpio_voteView (s : State) : s.sampleGpio.voteView = s.voteView := rfl
@[simp] theorem effGpioConfig_voteView (c : Cmd) (s : State) : (effGpioConfig c s).1.voteView = s.voteView := by simp [effGpioConfig]

/-! Registers (R32 to R38). -/

@[simp] theorem State.maskWriteHif_voteView (s : State) (o v m : Nat) : (s.maskWriteHif o v m).voteView = s.voteView := by
  simp [State.maskWriteHif]
@[simp] theorem State.writeSwitch_voteView (s : State) (w v : Nat) : (s.writeSwitch w v).voteView = s.voteView := rfl

@[simp] theorem State.maskWriteSys_voteView (s : State) (o value mask : Nat) : (s.maskWriteSys o value mask).voteView = s.voteView := by
  unfold State.maskWriteSys
  (repeat' split) <;> simp

@[simp] theorem State.writeReg_voteView (s : State) (o v m : Nat) : (s.writeReg o v m).voteView = s.voteView := by
  unfold State.writeReg
  dsimp only
  split
  · exact s.maskWriteSys_voteView ..
  · exact s.maskWriteHif_voteView ..
  · split
    · simp
    · rfl
  · split <;> rfl
  · split <;> rfl
  · simp
  · split
    · simp
    · rfl
  · rfl

@[simp] theorem effSysRegRead_voteView (c : Cmd) (s : State) : (effSysRegRead c s).1.voteView = s.voteView := by simp [effSysRegRead]
@[simp] theorem effSysRegWrite_voteView (c : Cmd) (s : State) : (effSysRegWrite c s).1.voteView = s.voteView := by
  simp [effSysRegWrite]

/-! Substitution commands (chapter 09). -/

@[simp] theorem subDefectsCommit_voteView (p : List Byte) (es : List Nat) (s : State) : (subDefectsCommit p es s).1.voteView = s.voteView := by
  simp [subDefectsCommit]
@[simp] theorem effSubDefects_voteView (c : Cmd) (s : State) : (effSubDefects c s).1.voteView = s.voteView := by simp [effSubDefects]
@[simp] theorem effSubLevelmap_voteView (c : Cmd) (s : State) : (effSubLevelmap c s).1.voteView = s.voteView := by simp [effSubLevelmap]
@[simp] theorem effSubPolicy_voteView (c : Cmd) (s : State) : (effSubPolicy c s).1.voteView = s.voteView := by simp [effSubPolicy]
@[simp] theorem effSubQuery_voteView (c : Cmd) (s : State) : (effSubQuery c s).1.voteView = s.voteView := by simp [effSubQuery]

/-! Commands that wait for their commit (R45). -/

@[simp] theorem execUnknownOpcode_voteView (r : Fin 4) (s : State) : (nextState s (execUnknownOpcode r s)).voteView = s.voteView := by
  unfold execUnknownOpcode
  (repeat' split) <;> simp

/-! What planning ticks and tick ends do (R25). -/

@[simp] theorem State.planRim_voteView (s : State) (p : Nat) : (s.planRim p).voteView = s.voteView := by simp [State.planRim]

@[simp] theorem State.tickRim_voteView (s : State) : s.tickRim.voteView = s.voteView := by
  unfold State.tickRim
  split <;> simp

@[simp] theorem State.endTick_voteView (s : State) : s.endTick.voteView = s.voteView := by simp [State.endTick]
@[simp] theorem State.beginTick_voteView (s : State) : s.beginTick.voteView = s.voteView := by simp [State.beginTick]

/-! The copied state (R383 to R385). -/

@[simp] theorem State.loadParts_voteView (s : State) (on : Nat → Bool) (pages : List Nat) (lead : Snapshot) :
    (s.loadParts on pages lead).voteView = s.voteView :=
  by
  unfold State.loadParts
  extract_lets s₁ s₂ s₃ s₄
  have h : s₄.voteView = s.voteView := by simp [s₄, s₃, s₂, s₁]
  rw [ite_voteView, State.modPgq_voteView, h, ite_eq_right_iff]
  exact fun _ => (foldl_voteView (fun t i => t.modCtx_voteView i _) pages s₄).trans h

@[simp] theorem State.takeVerdicts_voteView (s : State) (vs : List SubVerdict) : (s.takeVerdicts vs).voteView = s.voteView := by
  simp [State.takeVerdicts]

@[simp] theorem Twn.missSnapshot_voter (t : Twn) : t.missSnapshot.voter = t.voter := by
  unfold Twn.missSnapshot
  split <;> rfl

@[simp] theorem Twn.riseInStep_voter (t : Twn) : t.riseInStep.voter = t.voter := by
  unfold Twn.riseInStep
  split <;> rfl

@[simp] theorem State.shadowCycle_voteView (s : State) : s.shadowCycle.voteView = s.voteView := by
  unfold State.shadowCycle
  dsimp only
  rw [State.modTwn_voteView _ rfl, State.modSub_voteView]
  exact State.voteView_congr rfl (Eq.trans (Twn.riseInStep_voter _) (Twn.missSnapshot_voter _)) rfl

@[simp] theorem State.leadCycle_voteView (s : State) : s.leadCycle.voteView = s.voteView := by
  simp [State.leadCycle]

end Sys2Proof.Machine
end

section
/-! Keeping the queue and the vote: the voter, the changes of role, the loops' permit, resets, and the commands of the host. -/
namespace Sys2Proof.Machine

/-- The queue is left as it is, and a vote in agreement with the table of R391 stays so. -/
def State.Kept (s t : State) : Prop := t.pending = s.pending ∧ (s.VoteOk → t.VoteOk)

theorem State.voteOk_iff (s : State) : s.VoteOk ↔ (s.voteView.permit, s.voteView.disagree) = voteTable s.voteView.channels := Iff.rfl

theorem State.Kept.refl (s : State) : s.Kept s := ⟨rfl, id⟩

theorem State.Kept.trans {s t u : State} (h : s.Kept t) (k : t.Kept u) : s.Kept u := ⟨k.1.trans h.1, k.2 ∘ h.2⟩

theorem State.Kept.of_view {s t : State} (h : t.voteView = s.voteView) : s.Kept t :=
  ⟨congrArg VoteView.pending h, fun hs => by rwa [State.voteOk_iff, h]⟩

/-- What does not touch the view, done afterwards, changes nothing of this. -/
theorem State.Kept.then_view {s t u : State} (h : s.Kept t) (k : u.voteView = t.voteView) : s.Kept u := h.trans (.of_view k)

theorem State.Kept.ite {s t u : State} {p : Prop} [Decidable p] (ht : s.Kept t) (hu : s.Kept u) : s.Kept (if p then t else u) := by
  split
  · exact ht
  · exact hu

theorem State.Kept.foldl {α : Type} {f : State → α → State} (h : ∀ t x, State.Kept t (f t x)) (l : List α) (s : State) : s.Kept (l.foldl f s) :=
  List.foldlRecOn (motive := fun t => s.Kept t) l f (.refl s) fun t ht x _ => ht.trans (h t x)

/-! The voter (R391, R392). -/

/-- The view after a vote (R391, R392): the table's row, or what a withdrawal leaves. -/
theorem State.vote_voteView (s : State) : s.vote.voteView =
    if s.twn.permit = true ∧ (voteTable s.permitChannels).1 = false then
      { tick := s.tick, pending := s.pending, channels := 0, permit := false, disagree := false, withdrawals := satAdd 16 s.twn.withdrawals 1 }
    else { s.voteView with permit := (voteTable s.permitChannels).1, disagree := (voteTable s.permitChannels).2 } := by
  unfold State.vote
  extract_lets ch v t s₁ s₂
  have h₁ : s₁.voteView = { s.voteView with permit := v.1, disagree := v.2 } := rfl
  have h₂ : s₂.voteView = s₁.voteView := by simp only [s₂, ite_voteView, State.raise_voteView, ite_self]
  rw [ite_voteView, State.proofFail_voteView, State.permitLost_voteView, h₂, h₁]
  refine ite_congr rfl (fun hlost => ?_) fun _ => rfl
  have htick : s₂.tick = s.tick := congrArg VoteView.tick (h₂.trans h₁)
  have hpending : s₂.pending = s.pending := congrArg VoteView.pending (h₂.trans h₁)
  have hpermit : s₂.twn.permit = false := (congrArg VoteView.permit (h₂.trans h₁)).trans hlost.2
  have hwithdrawals : s₂.twn.withdrawals = s.twn.withdrawals := congrArg VoteView.withdrawals (h₂.trans h₁)
  simp [State.voteView, State.permitChannels, State.modTwn, htick, hpending, hpermit, hwithdrawals, b2n]

@[simp] theorem State.vote_pending (s : State) : s.vote.pending = s.pending := by
  have h := congrArg VoteView.pending s.vote_voteView
  rw [apply_ite VoteView.pending] at h
  exact h.trans (ite_self _)

/-- A vote is in agreement with the table, also when it has withdrawn the permit. -/
theorem State.vote_voteOk (s : State) : s.vote.VoteOk := by
  rw [State.voteOk_iff, State.vote_voteView]
  split <;> rfl

theorem State.Kept.vote {s t : State} (h : t.pending = s.pending) : s.Kept t.vote := ⟨t.vote_pending.trans h, fun _ => t.vote_voteOk⟩

theorem State.setArm_kept (s : State) (on : Bool) : s.Kept (s.setArm on) := .vote rfl

theorem State.clePermit_kept (s : State) : s.Kept s.clePermit := .ite (.refl s) (.vote rfl)

theorem State.takeOver_kept (s : State) (cause : Nat) : s.Kept (s.takeOver cause) := by
  unfold State.takeOver
  dsimp only
  refine State.Kept.then_view (t := if s.twn.inStep then s else s.setArm false) (.ite (.refl s) (s.setArm_kept false)) ?_
  rw [State.setRole_voteView, State.modTwn_voteView _ (by simp), State.takeCounts_voteView]

theorem State.publishLoop_kept (s : State) (n : Nat) : s.Kept (s.publishLoop n) := by
  unfold State.publishLoop
  dsimp only
  split
  · exact .refl s
  · refine .ite (.refl s) (State.Kept.trans ?_ (State.clePermit_kept _))
    exact .of_view (by simp)

theorem State.publishDue_kept (s : State) : s.Kept s.publishDue := .foldl State.publishLoop_kept _ s

theorem State.publishPermits_kept (s : State) : s.Kept s.publishPermits := .foldl State.publishLoop_kept _ s

theorem execPermitInputChange_kept (k : Fin 3) (level : Bool) (since : Nat) (s : State) :
    s.Kept (nextState s (execPermitInputChange k level since s)) := by
  unfold execPermitInputChange
  rw [ite_nextState]
  exact .ite (.refl s) (.vote rfl)

theorem execRoleExchange_kept (s : State) : s.Kept (nextState s (execRoleExchange s)) := by
  unfold execRoleExchange
  extract_lets drop
  have hdrop : drop.voteView = s.voteView := by simp [drop]
  split
  · exact .refl s
  · next x _ =>
    extract_lets s₁ s₂
    rw [ite_nextState]
    refine .ite (.refl s) ?_
    split
    · have hs₁ : s₁.voteView = s.voteView := (State.modTwn_voteView _ rfl).trans ((State.noteRevert_voteView ..).trans hdrop)
      have hs₂ : s₂.voteView = s.voteView := (State.setRole_voteView ..).trans ((State.voteView_congr rfl rfl rfl).trans hs₁)
      rw [ite_nextState, ite_nextState]
      exact .ite (.of_view (by simp [hdrop])) (.ite (.of_view (by simp [hdrop])) (.of_view (by simp [hs₂])))
    · rw [ite_nextState]
      refine .ite (State.Kept.then_view (t := (drop.noteRevert (!s.pref) x.cause).takeOver x.cause) ?_ (State.keepLine_voteView ..))
        (.of_view hdrop)
      exact (State.Kept.of_view (by simp [hdrop])).trans (State.takeOver_kept _ _)
    · exact .of_view hdrop

theorem execRelinquishReceived_kept (s : State) : s.Kept (nextState s (execRelinquishReceived s)) := by
  unfold execRelinquishReceived
  rw [ite_nextState]
  exact .ite (s.takeOver_kept 2) (.refl s)

theorem State.actFirst_kept (s : State) (i : Instr) : s.Kept (s.actFirst i) := by
  unfold State.actFirst
  split
  · exact execPermitInputChange_kept ..
  · exact .of_view (by simp [ite_voteView])
  · exact execRoleExchange_kept s
  · exact .of_view (by simp)
  · exact .of_view (by simp)
  · exact execRelinquishReceived_kept s
  · exact .of_view (by simp)
  · exact .of_view (by simp)
  · exact .of_view (by simp)
  · exact .refl s

theorem State.winnersFirst_kept (s : State) : s.Kept s.winnersFirst :=
  s.publishPermits_kept.trans (.foldl State.actFirst_kept _ _)

theorem State.planBlocks_kept (s : State) (p : Nat) : s.Kept (s.planBlocks p) := by
  unfold State.planBlocks
  refine State.Kept.then_view (t := (s.planTime p).publishDue) ?_ (by simp)
  exact (State.Kept.of_view (by simp)).trans (State.publishDue_kept _)

theorem State.applyLoop_kept (s : State) (n : Nat) : s.Kept (s.applyLoop n) := by
  unfold State.applyLoop
  dsimp only
  refine .ite (.refl s) (State.Kept.trans (.of_view ?_) (State.clePermit_kept _))
  simp [ite_voteView]

theorem State.evaluateLoopDue_kept (s : State) (n : Nat) : s.Kept (s.evaluateLoopDue n) := by
  unfold State.evaluateLoopDue
  dsimp only
  split
  · exact .refl s
  · have ht : s.Kept (s.publishDue.applyLoop n) := s.publishDue_kept.trans (State.applyLoop_kept _ n)
    exact .ite (.refl s) (.ite ht (.ite (.refl s) (ht.then_view (by simp))))

theorem State.tapRole_kept (s : State) (w : Nat) : s.Kept (s.tapRole w) := by
  unfold State.tapRole
  dsimp only
  split
  · exact .of_view (by simp [ite_voteView])
  · exact .of_view (by simp [ite_voteView])
  · exact .ite (s.takeOver_kept 2) (.of_view (by simp [ite_voteView]))
  · exact .refl s
  · exact .refl s

theorem State.bothLost_kept (s : State) : s.Kept s.bothLost := by
  unfold State.bothLost
  split
  · exact .ite (.refl s) (.ite (s.takeOver_kept 1) (.of_view (by simp)))
  · exact .of_view (by simp)
  · exact .refl s

theorem State.correct_kept (s : State) (off : Int) (lead own : Snapshot) : s.Kept (s.correct off lead own) := by
  unfold State.correct
  extract_lets d on at_ pages past₁ past₂ past₃ past₄ now fixed s₁ s₂ s₃
  have h₂ : s₂.voteView = s.voteView := by
    simp only [s₂, s₁, ite_voteView, State.modStk_voteView, State.loadParts_voteView, ite_self]
  have h₃ : s.Kept s₃ := .ite (.vote (congrArg VoteView.pending h₂)) (.of_view h₂)
  exact h₃.then_view (foldl_voteView (fun s n => s.modChan_voteView n _) _ _)

/-! Resets (R406). -/

theorem State.deviceReset_voteOk (s : State) : s.deviceReset.VoteOk := by
  simp [State.VoteOk, State.deviceReset, State.permitChannels, voteTable, b2n]

theorem State.deviceReset_kept {s t : State} (h : t.pending = s.pending) : s.Kept t.deviceReset :=
  ⟨h, fun _ => t.deviceReset_voteOk⟩

theorem State.resetFor_kept {s t : State} (h : t.pending = s.pending) (cause : Nat) : s.Kept (t.resetFor cause) := State.deviceReset_kept h

/-! Commands of the host (R41 to R48, R380, R460). -/

/-- An effect keeps the queue and the vote. -/
def Effect.Keeps (eff : Effect) : Prop := ∀ c s, State.Kept s (eff c s).1

theorem Effect.Keeps.of_view {eff : Effect} (h : ∀ c s, (eff c s).1.voteView = s.voteView) : eff.Keeps := fun c s => .of_view (h c s)

theorem effTwnConfig_keeps : Effect.Keeps effTwnConfig := by
  intro c s
  unfold effTwnConfig
  extract_lets p mode f role s₁ s₂ s₃
  have hs₁ : s₁.voteView = s.voteView := by simp [s₁]
  have hs₂ : s.Kept s₂ := by
    simp only [s₂]
    split
    · exact .of_view ((State.setRole_voteView ..).trans hs₁)
    · exact .of_view hs₁
  have hs₃ : s.Kept s₃ := .ite (hs₂.trans (s₂.setArm_kept true)) (.ite (hs₂.trans (s₂.setArm_kept false)) hs₂)
  rw [ite_fst, ite_fst, ite_fst, ite_fst]
  exact .ite (.refl s) (.ite (.refl s) (.ite (.refl s) (.ite (.refl s) hs₃)))

theorem settle_kept {s : State} {id : Nat} {x : State × Reply} (h : s.Kept x.1) : s.Kept (settle id x) := by
  unfold settle
  split
  · exact h.then_view (State.complete_voteView ..)
  · exact h.then_view (State.setPhase_voteView ..)

section
variable {eff : Effect} (h : eff.Keeps)
include h

theorem commitOrMirror_kept (c : Cmd) (k : OpClass) (s : State) : s.Kept (commitOrMirror c k eff s) := by
  unfold commitOrMirror
  exact .ite (.of_view (by simp)) (settle_kept (h c s))

theorem runCommand_kept (c : Cmd) (o : OpInfo) (s : State) : s.Kept (runCommand c o eff s) := by
  have hcomplete : ∀ st res, s.Kept (s.complete c.id st res) := fun st res => .of_view (s.complete_voteView ..)
  unfold runCommand
  refine .ite (hcomplete ..) (.ite (hcomplete ..) (.ite (.ite (hcomplete ..) (hcomplete ..)) ?_))
  exact .ite (settle_kept (h c s)) (.ite (.ite (hcomplete ..) (.of_view (by simp))) (commitOrMirror_kept h c _ s))

theorem startCommand_kept (code r : Nat) (d : HostRead) (s : State) : s.Kept (startCommand code r d eff s) := by
  unfold startCommand
  refine .ite (.refl s) ?_
  split
  · refine .ite (.refl s) ?_
    exact State.Kept.trans (t := (s.keepHost _ d).served r) (.of_view (by simp)) (runCommand_kept h _ _ _)
  · exact .refl s

end

end Sys2Proof.Machine
end

section
/-! Every command, and the tick of an empty queue, keep the queue and the vote. -/
namespace Sys2Proof.Machine

theorem effects0_keeps : ∀ x ∈ effects0, Effect.Keeps x.2 := by
  simp only [effects0, List.forall_mem_cons, List.not_mem_nil, false_imp_iff, implies_true, and_true]
  exact ⟨.of_view effSysIdentify_voteView, .of_view effSysHealth_voteView, .of_view effSysRegRead_voteView, .of_view effSysRegWrite_voteView,
    .of_view effSysEventMask_voteView, .of_view effSysFwUpdate_voteView, .of_view effSysEnterDormant_voteView, .of_view effGeoHeadclass_voteView,
    .of_view effGeoHead_voteView, .of_view effGeoRuns_voteView, .of_view effGeoExceptions_voteView, .of_view effGeoCommit_voteView, .of_view
    effPageOpen_voteView, .of_view effPageAddTiles_voteView, .of_view effPageClose_voteView, .of_view effPageQueue_voteView, .of_view
    effPageAbort_voteView, .of_view effPageQuery_voteView, .of_view effPageChain_voteView, .of_view effSubDefects_voteView, .of_view
    effSubLevelmap_voteView⟩

theorem effects1_keeps : ∀ x ∈ effects1, Effect.Keeps x.2 := by
  simp only [effects1, List.forall_mem_cons, List.not_mem_nil, false_imp_iff, implies_true, and_true]
  exact ⟨.of_view effSubPolicy_voteView, .of_view effSubQuery_voteView, .of_view effPaceConfig_voteView, .of_view effPaceStart_voteView, .of_view
    effPaceStop_voteView, .of_view effPaceRole_voteView, .of_view effPaceQuery_voteView, .of_view effSnrLaneEnable_voteView, .of_view
    effSnrLaneDisable_voteView, .of_view effSnrEyeScan_voteView, .of_view effSnrHeadMsg_voteView, .of_view effSnrQuery_voteView, .of_view
    effCamPort_voteView, .of_view effCamSensorDesc_voteView, .of_view effCamSetExposure_voteView, .of_view effCamPipe_voteView, .of_view
    effCamOutputs_voteView, .of_view effCamStart_voteView, .of_view effCamStop_voteView, .of_view effStkConfig_voteView, .of_view
    effStkMap_voteView⟩

theorem effects2_keeps : ∀ x ∈ effects2, Effect.Keeps x.2 := by
  simp only [effects2, List.forall_mem_cons, List.not_mem_nil, false_imp_iff, implies_true, and_true]
  exact ⟨.of_view effStkLadder_voteView, .of_view effStkQuery_voteView, .of_view effMotAxis_voteView, .of_view effMotSine_voteView, .of_view
    effMotProfile_voteView, .of_view effMotMove_voteView, .of_view effMotLimits_voteView, .of_view effMotStop_voteView, .of_view
    effMotQuery_voteView, .of_view effEncConfig_voteView, .of_view effEncSet_voteView, .of_view effEncProbe_voteView, .of_view
    effEncCompare_voteView, .of_view effEncQuery_voteView, .of_view effCleLoop_voteView, .of_view effCleSections_voteView, .of_view
    effCleMode_voteView, .of_view effCleSetpoint_voteView, .of_view effCleQuery_voteView, .of_view effAdcConfig_voteView, .of_view
    effLedChain_voteView⟩

theorem effects3_keeps : ∀ x ∈ effects3, Effect.Keeps x.2 := by
  simp only [effects3, List.forall_mem_cons, List.not_mem_nil, false_imp_iff, implies_true, and_true]
  exact ⟨.of_view effLedMatrix_voteView, .of_view effLedLevels_voteView, .of_view effLedZones_voteView, .of_view effTimPort_voteView, .of_view
    effTimDomain_voteView, .of_view effTimAdjust_voteView, .of_view effTimSelect_voteView, .of_view effTimQuery_voteView, effTwnConfig_keeps,
    .of_view effTwnHandover_voteView, .of_view effTwnProofTest_voteView, .of_view effTwnQuery_voteView, .of_view effCmpOpen_voteView, .of_view
    effCmpCompress_voteView, .of_view effCmpDecompress_voteView, .of_view effCmpSave_voteView, .of_view effCmpRestore_voteView, .of_view
    effCmpClose_voteView, .of_view effRimConfig_voteView, .of_view effGngConfig_voteView, .of_view effGpioConfig_voteView⟩

theorem effectOf_keeps {code : Nat} {eff : Effect} (h : effectOf code = some eff) : eff.Keeps := by
  obtain ⟨x, hx, rfl⟩ := Option.map_eq_some_iff.1 h
  have hmem := List.mem_of_find?_eq_some hx
  simp only [List.mem_append] at hmem
  rcases hmem with ((h | h) | h) | h
  · exact effects0_keeps x h
  · exact effects1_keeps x h
  · exact effects2_keeps x h
  · exact effects3_keeps x h

theorem execAtBoundaryCommit_kept (s : State) : s.Kept (nextState s (execAtBoundaryCommit s)) := by
  unfold execAtBoundaryCommit
  dsimp only
  split
  · exact .refl s
  · split
    · next h _ => exact .ite (settle_kept (effectOf_keeps h _ s)) (commitOrMirror_kept (effectOf_keeps h) _ _ s)
    · exact .refl s

theorem shadowCommit_kept {eff : Effect} (h : eff.Keeps) (stamp : Option Nat) (c : Cmd) (s : State) : s.Kept (s.shadowCommit stamp c eff) := by
  unfold State.shadowCommit
  exact (State.Kept.of_view (s.modSub_voteView _)).trans ((h c _).then_view (State.modSub_voteView ..))

theorem execMirroredCommit_kept (tag : Nat) (stamp : Option Nat) (s : State) : s.Kept (nextState s (execMirroredCommit tag stamp s)) := by
  unfold execMirroredCommit
  dsimp only
  split
  · rw [ite_nextState]
    refine .ite (.refl s) ?_
    split
    · next h => exact settle_kept (effectOf_keeps h _ s)
    · exact .refl s
  · split
    · exact .refl s
    · split
      · next h =>
        refine State.Kept.trans (t := s.modTwn (fun t => { t with mirrored := t.mirrored.filter (fun x => x.tag ≠ tag) })) (.of_view rfl) ?_
        exact shadowCommit_kept (effectOf_keeps h) ..
      · exact .of_view (by simp)

theorem execAckTimeout_kept (tag : Nat) (s : State) : s.Kept (nextState s (execAckTimeout tag s)) := by
  unfold execAckTimeout
  dsimp only
  split
  · rw [ite_nextState]
    refine .ite (.refl s) ?_
    split
    · next h =>
      exact settle_kept ((State.Kept.of_view (State.modTwn_voteView s (by simp [Twn.goAlone]))).trans (effectOf_keeps h _ _))
    · exact .refl s
  · exact .refl s

theorem execLineTrigger_kept (s : State) : s.Kept (nextState s (execLineTrigger s)) := s.winnersFirst_kept.then_view (by simp [execLineTrigger])

theorem execRetreat_kept (s : State) : s.Kept (nextState s (execRetreat s)) := s.winnersFirst_kept.then_view (by simp [execRetreat])

theorem execHoldTrigger_kept (s : State) : s.Kept (nextState s (execHoldTrigger s)) := s.winnersFirst_kept.then_view (by simp [execHoldTrigger])

theorem execGongFrameRx_kept (arrival : Nat) (bytes : List Byte) (s : State) : s.Kept (nextState s (execGongFrameRx arrival bytes s)) :=
  s.winnersFirst_kept.then_view (by simp [execGongFrameRx])

theorem execLineRecordRx_kept (bytes : List Byte) (s : State) : s.Kept (nextState s (execLineRecordRx bytes s)) :=
  s.winnersFirst_kept.then_view (by simp [execLineRecordRx])

theorem execShadowLineTimeout_kept (s : State) : s.Kept (nextState s (execShadowLineTimeout s)) :=
  s.winnersFirst_kept.then_view (by simp [execShadowLineTimeout])

theorem execPlanningTick_kept (s : State) : s.Kept (nextState s (execPlanningTick s)) := .ite (s.planBlocks_kept s.tick) (.refl s)

theorem execControlCycleEnd_kept (s : State) : s.Kept (nextState s (execControlCycleEnd s)) := by
  unfold execControlCycleEnd
  extract_lets s₁ s₂ s₃ s₄
  have h₁ : s.Kept s₁ := .ite (s.planBlocks_kept s.tick) (.refl s)
  have h₂ : s.Kept s₂ := h₁.trans (State.Kept.foldl State.evaluateLoopDue_kept _ s₁)
  have h₃ : s.Kept s₃ := h₂.then_view (by simp [s₃])
  have h₄ : s.Kept s₄ := by
    simp only [s₄]
    split
    · exact h₃.then_view s₃.shadowCycle_voteView
    · exact .ite (h₃.then_view s₃.leadCycle_voteView) h₃
    · exact h₃
  rw [ite_nextState, nextState_next, nextState_next]
  exact .ite (.refl s) (h₄.then_view (s₄.modSub_voteView fun u => { u with verdicts := [] }))

theorem execLoopEvaluation_kept (l : Fin 48) (s : State) : s.Kept (nextState s (execLoopEvaluation l s)) :=
  .ite (s.evaluateLoopDue_kept l) (.refl s)

theorem execLoopPublish_kept (l : Fin 48) (s : State) : s.Kept (nextState s (execLoopPublish l s)) := s.publishLoop_kept l

theorem execLedFrameDone_kept (ch : Fin 8) (ret : List Nat) (s : State) : s.Kept (nextState s (execLedFrameDone ch ret s)) := by
  unfold execLedFrameDone
  dsimp only
  split
  · exact .refl s
  · rw [ite_nextState]
    refine .ite (.refl s) (.of_view ((State.checkReturn_voteView ..).trans ?_))
    exact (foldl_voteView (fun t n => t.modZone_voteView n _) _ _).trans (s.setChain_voteView ..)

theorem execTapReceived_kept (pin : Bool) (word : BitVec 32) (s : State) : s.Kept (nextState s (execTapReceived pin word s)) := by
  unfold execTapReceived
  dsimp only
  rw [ite_nextState, ite_nextState]
  refine .ite (.refl s) (.ite (.of_view (by simp)) ?_)
  have hheard : s.Kept ((s.notePartner word.toNat).tapHeard pin) := .of_view (by simp)
  exact .ite hheard (hheard.trans (State.tapRole_kept _ _))

theorem execTapPathLost_kept (pin : Bool) (s : State) : s.Kept (nextState s (execTapPathLost pin s)) := by
  unfold execTapPathLost
  dsimp only
  split
  · exact .refl s
  · next t _ =>
    have hlost : s.Kept ((s.modPath pin (fun p => { p with ok := false, row := 0 })).reportPath pin true (s.tick - t)).markAbsent :=
      .of_view (by simp)
    rw [ite_nextState]
    exact .ite (.refl s) (.ite (hlost.trans (State.bothLost_kept _)) hlost)

theorem execInputRecordRx_kept (rec : InputRec) (s : State) : s.Kept (nextState s (execInputRecordRx rec s)) := by
  unfold execInputRecordRx
  rw [ite_nextState]
  refine .ite (.refl s) (.of_view ?_)
  rw [nextState_next, State.takeInputs_voteView]
  rfl

@[simp] theorem Twn.judgeDigests_voter (t : Twn) (lead own : Snapshot) : (t.judgeDigests lead own).voter = t.voter := by
  unfold Twn.judgeDigests
  split <;> rfl

theorem execCopyComplete_kept (snap : Snapshot) (s : State) : s.Kept (nextState s (execCopyComplete snap s)) := by
  unfold execCopyComplete
  split
  · exact .refl s
  · next own _ =>
    rw [ite_nextState]
    refine .ite (.refl s) ?_
    extract_lets off s₁ own' n s₂
    have h₁ : s.Kept s₁ := .of_view (s.takeVerdicts_voteView _)
    have h₂ : s.Kept s₂ := .ite h₁ (h₁.trans (s₁.correct_kept ..))
    rw [nextState_next]
    exact h₂.then_view (s₂.modTwn_voteView (by simp))

theorem Twn.header_voter (lane : Nat) (t : Twn) (b : Bool) : (Twn.header lane t b).voter = t.voter := by
  simp [Twn.header]

theorem execChezatinBlockLock_kept (lane : Fin 4) (headers : List Bool) (s : State) :
    s.Kept (nextState s (execChezatinBlockLock lane headers s)) := by
  unfold execChezatinBlockLock
  rw [ite_nextState]
  rw [nextState_next, nextState_next]
  refine .ite (.refl s) (.of_view (State.modTwn_voteView s ?_))
  exact List.foldlRecOn (motive := fun t => Twn.voter t = s.twn.voter) headers _ rfl fun t ht b _ => (Twn.header_voter ..).trans ht

theorem execGpioPwmPeriodStart_kept (pin : Fin 32) (s : State) : s.Kept (nextState s (execGpioPwmPeriodStart pin s)) := by
  unfold execGpioPwmPeriodStart
  extract_lets s₁ p due duty s₂
  have h₁ : s.Kept s₁ := s.publishDue_kept
  have h₂ : s₂.voteView = s₁.voteView := s₁.setPin_voteView ..
  clear_value s₁ s₂
  rw [ite_nextState, nextState_next, nextState_next]
  exact .ite h₁ (h₁.then_view (by rw [ite_voteView, State.emit_voteView, ite_self, h₂]))

theorem State.judgedReset_pending (s : State) (ns : Nat) : (s.judgedReset ns).pending = s.pending :=
  congrArg VoteView.pending (s.judgedReset_voteView ns)

theorem execPerstAssert_kept (ns : Nat) (s : State) : s.Kept (nextState s (execPerstAssert ns s)) :=
  .ite (State.resetFor_kept (s.judgedReset_pending ns) 5) (.of_view (s.judgedReset_voteView ns))

theorem execSysResetAssert_kept (ns : Nat) (s : State) : s.Kept (nextState s (execSysResetAssert ns s)) :=
  .ite (State.resetFor_kept (s.judgedReset_pending ns) 6) (.of_view (s.judgedReset_voteView ns))

theorem execVbatPor_kept (s : State) : s.Kept (nextState s (execVbatPor s)) := State.deviceReset_kept rfl

theorem execPowerUp_kept (rails : Fin 1024) (s : State) : s.Kept (nextState s (execPowerUp rails s)) := 
  .ite (.of_view rfl) (.ite (State.deviceReset_kept rfl) (State.resetFor_kept rfl 2))

theorem execRailLost_kept (rail : Fin 10) (s : State) : s.Kept (nextState s (execRailLost rail s)) := by
  unfold execRailLost
  extract_lets runs s₁ s₂
  have h : s.Kept s₂ := .ite (State.resetFor_kept rfl 3) (.of_view rfl)
  exact .ite h (h.then_view rfl)

/-- At reset release the ticks count from 0 (R401, R405, R406). -/
theorem execResetRelease_kept (s : State) : s.Kept (nextState s (execResetRelease s)) := by
  unfold execResetRelease
  dsimp only
  rw [ite_nextState]
  exact .ite (.refl s) ⟨rfl, id⟩

theorem execClockReset_kept (s : State) : s.Kept (nextState s (execClockReset s)) := by
  unfold execClockReset
  split
  · exact .ite (State.resetFor_kept rfl 7) (.refl s)
  · exact .refl s

theorem execPwrOnFall_kept (s : State) : s.Kept (nextState s (execPwrOnFall s)) := by
  unfold execPwrOnFall
  split
  · rw [ite_nextState]
    exact .ite (.refl s) (State.deviceReset_kept rfl)
  · exact .refl s

/-- Every command keeps the queue and the vote. -/
theorem exec_kept (i : Instr) (s : State) : s.Kept (nextState s (exec i s)) := by
  cases i with
  | configRequest => exact .of_view (execConfigRequest_voteView ..)
  | mmioWriteDiscard => exact .of_view (execMmioWriteDiscard_voteView ..)
  | registerWrite => exact .of_view (execRegisterWrite_voteView ..)
  | hifSqTailDb => exact .of_view (execHifSqTailDb_voteView ..)
  | hifCqHeadDb => exact .of_view (execHifCqHeadDb_voteView ..)
  | hifEqHeadDb => exact .of_view (execHifEqHeadDb_voteView ..)
  | ringsReset => exact .of_view (execRingsReset_voteView ..)
  | ringPairEnable => exact .of_view (execRingPairEnable_voteView ..)
  | ringPairDisable => exact .of_view (execRingPairDisable_voteView ..)
  | eventRingEnable => exact .of_view (execEventRingEnable_voteView ..)
  | eventRingDisable => exact .of_view (execEventRingDisable_voteView ..)
  | engineOffline => exact .of_view (execEngineOffline_voteView ..)
  | gpioOutWrite => exact .of_view (execGpioOutWrite_voteView ..)
  | i2cXfer => exact .of_view (execI2cXfer_voteView ..)
  | i2cTransferDone => exact .of_view (execI2cTransferDone_voteView ..)
  | commandFetch => exact .of_view (execCommandFetch_voteView ..)
  | atBoundaryCommit => exact execAtBoundaryCommit_kept ..
  | unknownOpcode => exact .of_view (execUnknownOpcode_voteView ..)
  | sysIdentify => exact startCommand_kept (.of_view effSysIdentify_voteView) ..
  | sysHealth => exact startCommand_kept (.of_view effSysHealth_voteView) ..
  | sysRegRead => exact startCommand_kept (.of_view effSysRegRead_voteView) ..
  | sysRegWrite => exact startCommand_kept (.of_view effSysRegWrite_voteView) ..
  | sysEventMask => exact startCommand_kept (.of_view effSysEventMask_voteView) ..
  | sysFwUpdate => exact startCommand_kept (.of_view effSysFwUpdate_voteView) ..
  | fwUpdateDone => exact .of_view (execFwUpdateDone_voteView ..)
  | sysEnterDormant => exact startCommand_kept (.of_view effSysEnterDormant_voteView) ..
  | geoHeadclass => exact startCommand_kept (.of_view effGeoHeadclass_voteView) ..
  | geoHead => exact startCommand_kept (.of_view effGeoHead_voteView) ..
  | geoRuns => exact startCommand_kept (.of_view effGeoRuns_voteView) ..
  | geoExceptions => exact startCommand_kept (.of_view effGeoExceptions_voteView) ..
  | geoCommit => exact startCommand_kept (.of_view effGeoCommit_voteView) ..
  | generationActivate => exact .of_view (execGenerationActivate_voteView ..)
  | pageOpen => exact startCommand_kept (.of_view effPageOpen_voteView) ..
  | pageAddTiles => exact startCommand_kept (.of_view effPageAddTiles_voteView) ..
  | tileArrival => exact .of_view (execTileArrival_voteView ..)
  | verifyTileDecode => exact .of_view (execVerifyTileDecode_voteView ..)
  | pageClose => exact startCommand_kept (.of_view effPageClose_voteView) ..
  | verificationEnd => exact .of_view (execVerificationEnd_voteView ..)
  | pageQueue => exact startCommand_kept (.of_view effPageQueue_voteView) ..
  | pageAbort => exact startCommand_kept (.of_view effPageAbort_voteView) ..
  | pageQuery => exact startCommand_kept (.of_view effPageQuery_voteView) ..
  | pageChain => exact startCommand_kept (.of_view effPageChain_voteView) ..
  | subDefects => exact startCommand_kept (.of_view effSubDefects_voteView) ..
  | subLevelmap => exact startCommand_kept (.of_view effSubLevelmap_voteView) ..
  | subPolicy => exact startCommand_kept (.of_view effSubPolicy_voteView) ..
  | subQuery => exact startCommand_kept (.of_view effSubQuery_voteView) ..
  | paceConfig => exact startCommand_kept (.of_view effPaceConfig_voteView) ..
  | paceStart => exact startCommand_kept (.of_view effPaceStart_voteView) ..
  | paceStop => exact startCommand_kept (.of_view effPaceStop_voteView) ..
  | paceRole => exact startCommand_kept (.of_view effPaceRole_voteView) ..
  | paceQuery => exact startCommand_kept (.of_view effPaceQuery_voteView) ..
  | paceStepEdge => exact .of_view (execPaceStepEdge_voteView ..)
  | lineTrigger => exact execLineTrigger_kept ..
  | retreat => exact execRetreat_kept ..
  | passArm => exact .of_view (execPassArm_voteView ..)
  | holdTrigger => exact execHoldTrigger_kept ..
  | gongFrameRx => exact execGongFrameRx_kept ..
  | gongIdleSend => exact .of_view (execGongIdleSend_voteView ..)
  | gongLost => exact .of_view (execGongLost_voteView ..)
  | gongHalt => exact .of_view (execGongHalt_voteView ..)
  | gongRxLock => exact .of_view (execGongRxLock_voteView ..)
  | planningTick => exact execPlanningTick_kept ..
  | microstepResolutionChange => exact .of_view (execMicrostepResolutionChange_voteView ..)
  | pwmPeriodStart => exact .of_view (execPwmPeriodStart_voteView ..)
  | controlCycleEnd => exact execControlCycleEnd_kept ..
  | loopEvaluation => exact execLoopEvaluation_kept ..
  | loopPublish => exact execLoopPublish_kept ..
  | adcResult => exact .of_view (execAdcResult_voteView ..)
  | beatRelease => exact .of_view (execBeatRelease_voteView ..)
  | segmentWrite => exact .of_view (execSegmentWrite_voteView ..)
  | engineBeatDone => exact .of_view (execEngineBeatDone_voteView ..)
  | engineWatchdog => exact .of_view (execEngineWatchdog_voteView ..)
  | sramEccError => exact .of_view (execSramEccError_voteView ..)
  | snrLaneEnable => exact startCommand_kept (.of_view effSnrLaneEnable_voteView) ..
  | snrLaneDisable => exact startCommand_kept (.of_view effSnrLaneDisable_voteView) ..
  | snrEyeScan => exact startCommand_kept (.of_view effSnrEyeScan_voteView) ..
  | eyeScanDone => exact .of_view (execEyeScanDone_voteView ..)
  | snrHeadMsg => exact startCommand_kept (.of_view effSnrHeadMsg_voteView) ..
  | hubReply => exact .of_view (execHubReply_voteView ..)
  | headMsgTimeout => exact .of_view (execHeadMsgTimeout_voteView ..)
  | snrQuery => exact startCommand_kept (.of_view effSnrQuery_voteView) ..
  | snrBlockLock => exact .of_view (execSnrBlockLock_voteView ..)
  | downstreamAm => exact .of_view (execDownstreamAm_voteView ..)
  | upstreamAm => exact .of_view (execUpstreamAm_voteView ..)
  | amMissed => exact .of_view (execAmMissed_voteView ..)
  | laneBringupTimeout => exact .of_view (execLaneBringupTimeout_voteView ..)
  | statusBlock => exact .of_view (execStatusBlock_voteView ..)
  | cmpReport => exact .of_view (execCmpReport_voteView ..)
  | camPort => exact startCommand_kept (.of_view effCamPort_voteView) ..
  | camSensorDesc => exact startCommand_kept (.of_view effCamSensorDesc_voteView) ..
  | camSetExposure => exact startCommand_kept (.of_view effCamSetExposure_voteView) ..
  | exposureLatchTimeout => exact .of_view (execExposureLatchTimeout_voteView ..)
  | cciTransferDone => exact .of_view (execCciTransferDone_voteView ..)
  | camPipe => exact startCommand_kept (.of_view effCamPipe_voteView) ..
  | camOutputs => exact startCommand_kept (.of_view effCamOutputs_voteView) ..
  | camStart => exact startCommand_kept (.of_view effCamStart_voteView) ..
  | camStop => exact startCommand_kept (.of_view effCamStop_voteView) ..
  | frameStart => exact .of_view (execFrameStart_voteView ..)
  | frameEnd => exact .of_view (execFrameEnd_voteView ..)
  | frameTimeout => exact .of_view (execFrameTimeout_voteView ..)
  | lineArrival => exact .of_view (execLineArrival_voteView ..)
  | pipelineLine => exact .of_view (execPipelineLine_voteView ..)
  | frameOutputDelivery => exact .of_view (execFrameOutputDelivery_voteView ..)
  | ladderStepPlace => exact .of_view (execLadderStepPlace_voteView ..)
  | ladderTimeout => exact .of_view (execLadderTimeout_voteView ..)
  | stkConfig => exact startCommand_kept (.of_view effStkConfig_voteView) ..
  | stkMap => exact startCommand_kept (.of_view effStkMap_voteView) ..
  | stkLadder => exact startCommand_kept (.of_view effStkLadder_voteView) ..
  | stkQuery => exact startCommand_kept (.of_view effStkQuery_voteView) ..
  | motAxis => exact startCommand_kept (.of_view effMotAxis_voteView) ..
  | motSine => exact startCommand_kept (.of_view effMotSine_voteView) ..
  | motProfile => exact startCommand_kept (.of_view effMotProfile_voteView) ..
  | motMove => exact startCommand_kept (.of_view effMotMove_voteView) ..
  | motLimits => exact startCommand_kept (.of_view effMotLimits_voteView) ..
  | motStop => exact startCommand_kept (.of_view effMotStop_voteView) ..
  | motQuery => exact startCommand_kept (.of_view effMotQuery_voteView) ..
  | limitSwitch => exact .of_view (execLimitSwitch_voteView ..)
  | encConfig => exact startCommand_kept (.of_view effEncConfig_voteView) ..
  | encSet => exact startCommand_kept (.of_view effEncSet_voteView) ..
  | encProbe => exact startCommand_kept (.of_view effEncProbe_voteView) ..
  | encCompare => exact startCommand_kept (.of_view effEncCompare_voteView) ..
  | encQuery => exact startCommand_kept (.of_view effEncQuery_voteView) ..
  | encoderEdge => exact .of_view (execEncoderEdge_voteView ..)
  | encoderFaultAutoClear => exact .of_view (execEncoderFaultAutoClear_voteView ..)
  | indexPulse => exact .of_view (execIndexPulse_voteView ..)
  | ssiFrameDone => exact .of_view (execSsiFrameDone_voteView ..)
  | probeLatch => exact .of_view (execProbeLatch_voteView ..)
  | probeTimeout => exact .of_view (execProbeTimeout_voteView ..)
  | comparePulseEnd => exact .of_view (execComparePulseEnd_voteView ..)
  | switchChange => exact .of_view (execSwitchChange_voteView ..)
  | cleLoop => exact startCommand_kept (.of_view effCleLoop_voteView) ..
  | cleSections => exact startCommand_kept (.of_view effCleSections_voteView) ..
  | cleMode => exact startCommand_kept (.of_view effCleMode_voteView) ..
  | cleSetpoint => exact startCommand_kept (.of_view effCleSetpoint_voteView) ..
  | cleQuery => exact startCommand_kept (.of_view effCleQuery_voteView) ..
  | adcConfig => exact startCommand_kept (.of_view effAdcConfig_voteView) ..
  | ledChain => exact startCommand_kept (.of_view effLedChain_voteView) ..
  | ledMatrix => exact startCommand_kept (.of_view effLedMatrix_voteView) ..
  | ledLevels => exact startCommand_kept (.of_view effLedLevels_voteView) ..
  | ledZones => exact startCommand_kept (.of_view effLedZones_voteView) ..
  | ledFrameDone => exact execLedFrameDone_kept ..
  | matrixSlotStart => exact .of_view (execMatrixSlotStart_voteView ..)
  | colourSensorReadDone => exact .of_view (execColourSensorReadDone_voteView ..)
  | timPort => exact startCommand_kept (.of_view effTimPort_voteView) ..
  | timDomain => exact startCommand_kept (.of_view effTimDomain_voteView) ..
  | timAdjust => exact startCommand_kept (.of_view effTimAdjust_voteView) ..
  | timSelect => exact startCommand_kept (.of_view effTimSelect_voteView) ..
  | timQuery => exact startCommand_kept (.of_view effTimQuery_voteView) ..
  | ptpSyncRx => exact .of_view (execPtpSyncRx_voteView ..)
  | ptpMessageRx => exact .of_view (execPtpMessageRx_voteView ..)
  | ptpTx => exact .of_view (execPtpTx_voteView ..)
  | ptpMasterLost => exact .of_view (execPtpMasterLost_voteView ..)
  | switchSlewDone => exact .of_view (execSwitchSlewDone_voteView ..)
  | twnConfig => exact startCommand_kept effTwnConfig_keeps ..
  | twnHandover => exact startCommand_kept (.of_view effTwnHandover_voteView) ..
  | twnProofTest => exact startCommand_kept (.of_view effTwnProofTest_voteView) ..
  | twnQuery => exact startCommand_kept (.of_view effTwnQuery_voteView) ..
  | tapSend => exact .of_view (execTapSend_voteView ..)
  | tapReceived => exact execTapReceived_kept ..
  | tapPathLost => exact execTapPathLost_kept ..
  | electionTimeout => exact .of_view (execElectionTimeout_voteView ..)
  | chezatinLinkUp => exact .of_view (execChezatinLinkUp_voteView ..)
  | lineRecordRx => exact execLineRecordRx_kept ..
  | shadowLineTimeout => exact execShadowLineTimeout_kept ..
  | inputRecordRx => exact execInputRecordRx_kept ..
  | changeRecordRx => exact .of_view (execChangeRecordRx_voteView ..)
  | mirroredCommit => exact execMirroredCommit_kept ..
  | ackTimeout => exact execAckTimeout_kept ..
  | healthRecordRx => exact .of_view (execHealthRecordRx_voteView ..)
  | copyComplete => exact execCopyComplete_kept ..
  | selfDiagnosisFault => exact .of_view (execSelfDiagnosisFault_voteView ..)
  | relinquishReceived => exact execRelinquishReceived_kept ..
  | relinquishOut => exact .of_view (execRelinquishOut_voteView ..)
  | partnerHealthRestore => exact .of_view (execPartnerHealthRestore_voteView ..)
  | roleExchange => exact execRoleExchange_kept ..
  | takeBack => exact .of_view (execTakeBack_voteView ..)
  | permitInputChange => exact execPermitInputChange_kept ..
  | cmpOpen => exact startCommand_kept (.of_view effCmpOpen_voteView) ..
  | cmpCompress => exact startCommand_kept (.of_view effCmpCompress_voteView) ..
  | cmpDecompress => exact startCommand_kept (.of_view effCmpDecompress_voteView) ..
  | cmpSave => exact startCommand_kept (.of_view effCmpSave_voteView) ..
  | cmpRestore => exact startCommand_kept (.of_view effCmpRestore_voteView) ..
  | cmpClose => exact startCommand_kept (.of_view effCmpClose_voteView) ..
  | cmpBlockDone => exact .of_view (execCmpBlockDone_voteView ..)
  | rimConfig => exact startCommand_kept (.of_view effRimConfig_voteView) ..
  | rimWrite => exact .of_view (execRimWrite_voteView ..)
  | gngConfig => exact startCommand_kept (.of_view effGngConfig_voteView) ..
  | gpioConfig => exact startCommand_kept (.of_view effGpioConfig_voteView) ..
  | eventBacklogDrain => exact .of_view (execEventBacklogDrain_voteView ..)
  | coalesceTimeout => exact .of_view (execCoalesceTimeout_voteView ..)
  | hifReset => exact .of_view (execHifReset_voteView ..)
  | perstAssert => exact execPerstAssert_kept ..
  | sysResetAssert => exact execSysResetAssert_kept ..
  | vbatPor => exact execVbatPor_kept ..
  | powerUp => exact execPowerUp_kept ..
  | resetRelease => exact execResetRelease_kept s
  | bootImageAuthenticated => exact .of_view (execBootImageAuthenticated_voteView ..)
  | dramTrainingDone => exact .of_view (execDramTrainingDone_voteView ..)
  | railLost => exact execRailLost_kept ..
  | pllLockLoss => exact .of_view (execPllLockLoss_voteView ..)
  | clockReset => exact execClockReset_kept ..
  | watchdogRestart => exact .of_view (execWatchdogRestart_voteView ..)
  | dormantOutputsOff => exact .of_view (execDormantOutputsOff_voteView ..)
  | pwrOnFall => exact execPwrOnFall_kept ..
  | wakeCrossing => exact .of_view (execWakeCrossing_voteView ..)
  | wakePwrOn => exact .of_view (execWakePwrOn_voteView ..)
  | jtagTrst => exact .of_view (execJtagTrst_voteView ..)
  | chezatinBlockLock => exact execChezatinBlockLock_kept ..
  | ackRecordRx => exact .of_view (execAckRecordRx_voteView ..)
  | commitRecordRx => exact .of_view (execCommitRecordRx_voteView ..)
  | handoverRecordRx => exact .of_view (execHandoverRecordRx_voteView ..)
  | hifReadyReturn => exact .of_view (execHifReadyReturn_voteView ..)
  | pcieLinkUp => exact .of_view (execPcieLinkUp_voteView ..)
  | resetPinsReleased => exact .of_view (execResetPinsReleased_voteView ..)
  | pllLock => exact .of_view (execPllLock_voteView ..)
  | gongHaltRelease => exact .of_view (execGongHaltRelease_voteView ..)
  | csiDeskewDone => exact .of_view (execCsiDeskewDone_voteView ..)
  | ethLinkUp => exact .of_view (execEthLinkUp_voteView ..)
  | cmpSaveDone => exact .of_view (execCmpSaveDone_voteView ..)
  | gpioPwmPeriodStart pin => exact execGpioPwmPeriodStart_kept pin s

/-- The tick that passes on an empty queue counts, and nothing of the view changes with it. -/
theorem State.tickOver_voteView (s : State) : s.tickOver.voteView = { s.voteView with tick := s.tick + 1 } := by
  unfold State.tickOver
  extract_lets s₁ s₂
  have h : s₂.voteView = s.voteView := (s₁.modTim_voteView _).trans s.endTick_voteView
  split
  · rw [State.beginTick_voteView]
    clear_value s₂
    exact congrArg (fun v : VoteView => { v with tick := v.tick + 1 }) h
  · rfl

theorem State.tickOver_kept (s : State) : s.Kept s.tickOver :=
  ⟨congrArg VoteView.pending s.tickOver_voteView, fun h => by rwa [State.voteOk_iff, State.tickOver_voteView]⟩

theorem State.tickOver_tick (s : State) : s.tickOver.tick = s.tick + 1 := congrArg VoteView.tick s.tickOver_voteView

theorem State.tickOver_of_held {s : State} (h : s.running = false) : s.tickOver = { s with tick := s.tick + 1 } :=
  if_neg (by simp [h])

theorem step_of_nil {s : State} (h : s.pending = []) : step s = .next s.tickOver := by
  unfold step
  split
  · rfl
  · simp_all

theorem step_of_cons {s : State} {c : Instr} {rest : List Instr} (h : s.pending = c :: rest) :
    step s = exec c { s with pending := rest } := by
  unfold step
  split
  · simp_all
  · next h' =>
    obtain ⟨rfl, rfl⟩ := List.cons_eq_cons.1 (h.symm.trans h')
    rfl

/-- A step takes the command at the front, and what it does keeps the rest of the queue and the vote. -/
theorem step_kept {s t : State} (h : step s = .next t) : State.Kept { s with pending := s.pending.tail } t := by
  cases hp : s.pending with
  | nil =>
    obtain rfl := Host.Outcome.next.inj ((step_of_nil hp).symm.trans h)
    exact ⟨(s.tickOver_kept.1).trans hp, s.tickOver_kept.2⟩
  | cons c rest =>
    have hexec := exec_kept c { s with pending := rest }
    rwa [(step_of_cons hp).symm.trans h] at hexec

end Sys2Proof.Machine

open Sys2Proof Sys2Proof.Machine

/-- Settles O1: by the step function. -/
theorem stepRunsTheFrontCommand : Obligations.StepRunsTheFrontCommand := fun _ _ _ => step_of_cons

/-- Settles O2: the end and the beginning of a tick leave queue and tick count alone, and a held device only counts the tick. -/
theorem emptyQueuePassesOneTick : Obligations.EmptyQueuePassesOneTick := fun s h =>
  ⟨s.tickOver, step_of_nil h, s.tickOver_tick, s.tickOver_kept.1.trans h, State.tickOver_of_held⟩

/-- Settles O49: every command keeps the vote in agreement with the table, and so does a tick. -/
theorem everyStepKeepsTheVote : Obligations.EveryStepKeepsTheVote := fun _ _ hvote h => (step_kept h).2 hvote

/-- Settles O50: no command adds or removes a waiting one, and neither does a tick. -/
theorem everyStepTakesOneCommand : Obligations.EveryStepTakesOneCommand := fun _ _ h => (step_kept h).1

end

section
/-! Loop arithmetic (R321) and the anchored time (R353). -/
namespace Sys2Proof.Machine

theorem clampI_bounds {lo hi : Int} (h : lo ≤ hi) (x : Int) : lo ≤ clampI lo hi x ∧ clampI lo hi x ≤ hi := by
  unfold clampI
  omega

theorem sat40_bounds (x : Int) : -(2 ^ 39 - 1) ≤ sat40 x ∧ sat40 x ≤ 2 ^ 39 - 1 := clampI_bounds (by norm_num) x

theorem Section.run_bounds (t : Section) (x : Int) :
    (-(2 ^ 39 - 1) ≤ (t.run x).2 ∧ (t.run x).2 ≤ 2 ^ 39 - 1) ∧
      (-(2 ^ 39 - 1) ≤ (t.run x).1.s1 ∧ (t.run x).1.s1 ≤ 2 ^ 39 - 1) ∧ (-(2 ^ 39 - 1) ≤ (t.run x).1.s2 ∧ (t.run x).1.s2 ≤ 2 ^ 39 - 1) :=
  ⟨sat40_bounds _, sat40_bounds _, sat40_bounds _⟩

theorem LoopCfg.limit_of_noSlew {c : LoopCfg} (h : c.slew = 0) (prev u : Int) : c.limit prev u = clampI c.outMin c.outMax u := if_pos h

/-- At the anchor tick the whole slew is still to come (R353). -/
theorem Inst.time_at_anchor (i : Inst) : i.time i.anchor 0 = i.base := by
  have hslew : (if i.slewLeft < 0 then -(min 0 (-i.slewLeft)) else min 0 i.slewLeft) = 0 := by
    split <;> omega
  simp [Inst.time, hslew]

end Sys2Proof.Machine

open Sys2Proof Sys2Proof.Machine

/-- Settles O40: every state and output of a section is saturated last, and so is the output of a loop without SLEW. -/
theorem loopArithmeticSaturates : Obligations.LoopArithmeticSaturates := by
  refine ⟨Section.run_bounds, fun c prev u hslew hle => ?_⟩
  rw [LoopCfg.limit_of_noSlew hslew]
  exact clampI_bounds hle u

/-- Settles O43: the new base is the time of the anchor tick, at which neither rate nor slew has yet added anything. -/
theorem reanchoringKeepsTheTime : Obligations.ReanchoringKeepsTheTime := fun i p => (i.reanchor p).time_at_anchor

end

section
/-! FIRE_EN (R391, R393). -/
namespace Sys2Proof.Machine

theorem voteTable_of_channels (a b c : Bool) :
    voteTable (b2n a + 2 * b2n b + 4 * b2n c) = ((a && b) || (a && c) || (b && c), !(a == b && b == c)) := by
  cases a <;> cases b <;> cases c <;> rfl

/-- The table permits when two of the channels do. -/
theorem State.permit_of_voteOk {s : State} (h : s.VoteOk) (hp : s.twn.permit = true) :
    let ch := fun i a => i && s.cle.permit && a
    ((ch s.twn.in0 s.twn.armA && ch s.twn.in1 s.twn.armB) || (ch s.twn.in0 s.twn.armA && ch s.twn.in2 s.twn.armC)
      || (ch s.twn.in1 s.twn.armB && ch s.twn.in2 s.twn.armC)) = true := by
  have h' := congrArg Prod.fst h
  rw [State.permitChannels, voteTable_of_channels] at h'
  exact h'.symm.trans hp

theorem State.fireEn_eq_true_iff (s : State) :
    s.fireEn = true ↔ s.twn.permit = true ∧ (s.twn.role = .lead ∨ s.twn.role = .shadow ∨ s.twn.role = .alone) ∧ s.running = true := by
  simp [State.fireEn, or_assoc, and_assoc]

theorem State.running_of_awake {s : State} (hheld : s.sys.held = false) (h : s.sys.dormant = .awake) : s.running = true := by
  simp [State.running, hheld, h]

theorem State.running_of_held {s : State} (h : s.sys.held = true) : s.running = false := by
  simp [State.running, h]

theorem State.running_of_outputsOff {s : State} {x : Nat} (h : s.sys.dormant = .outputsOff x ∨ s.sys.dormant = .asleep x) : s.running = false := by
  rcases h with h | h <;> simp [State.running, h]

theorem State.fireEn_of_not_running {s : State} (h : s.running = false) : s.fireEn = false := by
  simp [State.fireEn, h]

theorem State.setRole_permit (s : State) (r : Role) (cause : Nat) :
    (s.setRole r cause).twn.permit = s.twn.permit ∧ (s.setRole r cause).twn.withdrawals = s.twn.withdrawals :=
  ⟨congrArg VoteView.permit (s.setRole_voteView r cause), congrArg VoteView.withdrawals (s.setRole_voteView r cause)⟩

/-- What a vote that withdraws the permit leaves of it (R391). -/
theorem State.vote_withdrawn {s : State} (hp : s.twn.permit = true) (h : (voteTable s.permitChannels).1 = false) :
    s.vote.voteView = { tick := s.tick, pending := s.pending, channels := 0, permit := false, disagree := false,
                        withdrawals := satAdd 16 s.twn.withdrawals 1 } := by
  rw [State.vote_voteView, if_pos ⟨hp, h⟩]

end Sys2Proof.Machine
end

section
/-! FIRE_EN (R391, R393): what a vote does to the outputs. -/
namespace Sys2Proof.Machine

theorem bit_of_channels (a b c : Bool) : bit (b2n a + 2 * b2n b + 4 * b2n c) 0 = a ∧ bit (b2n a + 2 * b2n b + 4 * b2n c) 1 = b ∧
    bit (b2n a + 2 * b2n b + 4 * b2n c) 2 = c := by
  cases a <;> cases b <;> cases c <;> decide

/-- The table permits only when two channels do, and a channel only with its input, CLE_PERMIT and its copy of ARM (R390, R391). -/
theorem twoOfThree {i₀ i₁ i₂ p a₀ a₁ a₂ : Bool}
    (h : (voteTable (b2n (i₀ && p && a₀) + 2 * b2n (i₁ && p && a₁) + 4 * b2n (i₂ && p && a₂))).1 = true) :
    2 ≤ b2n (i₀ && p && a₀) + b2n (i₁ && p && a₁) + b2n (i₂ && p && a₂) ∧ p = true ∧ 2 ≤ b2n i₀ + b2n i₁ + b2n i₂ ∧
      2 ≤ b2n a₀ + b2n a₁ + b2n a₂ := by
  revert i₀ i₁ i₂ p a₀ a₁ a₂
  decide

theorem State.driveHalt_haltDrive (s : State) (cause : Nat) : (s.driveHalt cause).fir.haltDrive = true := by
  unfold State.driveHalt
  split
  · assumption
  · rfl

theorem State.permitLost_haltDrive {s : State} (h : s.anyPrinting = true) : s.permitLost.fir.haltDrive = true := by
  rw [State.permitLost, if_pos h]
  exact s.driveHalt_haltDrive 1

theorem State.proofEnd_frame (s : State) (status : Nat) : ∃ w h, s.proofEnd status = { s with twn := w, hif := h } := by
  unfold State.proofEnd
  split
  · exact ⟨s.twn, s.hif, rfl⟩
  · exact ⟨_, _, rfl⟩

theorem State.proofGo_frame (s : State) (p : Proof) (k : Nat) : ∃ w h, s.proofGo p k = { s with twn := w, hif := h } := by
  unfold State.proofGo
  split
  · exact ⟨_, s.hif, rfl⟩
  · exact State.proofEnd_frame (s.modTwn (fun x => { x with proof := some p })) Status.ok

theorem State.proofFail_frame (s : State) (k at_ : Nat) : ∃ w h, s.proofFail k at_ = { s with twn := w, hif := h } := by
  unfold State.proofFail State.proofResult
  split
  · split
    · exact ⟨s.twn, s.hif, rfl⟩
    · exact s.proofGo_frame ..
  · exact ⟨s.twn, s.hif, rfl⟩

theorem State.proofFail_fir (s : State) (k at_ : Nat) : (s.proofFail k at_).fir = s.fir := by
  obtain ⟨w, h, e⟩ := s.proofFail_frame k at_
  rw [e]

/-- A withdrawal while a page is PRINTING drives GONG_HALT_N (R393). -/
theorem State.vote_haltDrive {s : State} (hp : s.twn.permit = true) (hv : (voteTable s.permitChannels).1 = false) (h : s.anyPrinting = true) :
    s.vote.fir.haltDrive = true := by
  unfold State.vote
  extract_lets ch v t s₁ s₂
  have hs₂ : s₂.pgq = s.pgq := by
    simp only [s₂]
    split
    · simp [s₁]
    · rfl
  rw [if_pos ⟨hp, hv⟩, State.proofFail_fir]
  refine State.permitLost_haltDrive ?_
  simpa [State.anyPrinting, hs₂] using h

end Sys2Proof.Machine

open Sys2Proof Sys2Proof.Machine

/-- Settles O51: by the table's rows, and the channels that a permitting row needs. -/
theorem fireNeedsTwoChannels : Obligations.FireNeedsTwoChannels := by
  refine ⟨voteTable_of_channels, fun s hvote hfire => ?_⟩
  obtain ⟨hpermit, -, -⟩ := s.fireEn_eq_true_iff.1 hfire
  have htable : (voteTable s.permitChannels).1 = true := (congrArg Prod.fst hvote).symm.trans hpermit
  obtain ⟨hch, hcle, hin, harm⟩ := twoOfThree htable
  refine ⟨?_, hcle, hin, harm⟩
  simp only [State.twoPermit, State.permitChannels, (bit_of_channels _ _ _).1, (bit_of_channels _ _ _).2.1, (bit_of_channels _ _ _).2.2]
  exact decide_eq_true hch

/-- Settles O52: the permit and the count of withdrawals are part of the view that a change of role leaves alone. -/
theorem fireEnFollowsPermitAndRole : Obligations.FireEnFollowsPermitAndRole := by
  refine ⟨fun s hheld hawake hrole => ?_, fun s h => ?_, State.setRole_permit, fun s hp hv hprinting => ?_⟩
  · have hrun : s.running = true := State.running_of_awake hheld hawake
    rw [Bool.eq_iff_iff, s.fireEn_eq_true_iff]
    exact ⟨fun h => h.1, fun h => ⟨h, hrole, hrun⟩⟩
  · rw [Bool.eq_false_iff]
    intro hfire
    obtain ⟨-, hrole, hrun⟩ := s.fireEn_eq_true_iff.1 hfire
    rcases h with h | h | h | ⟨x, h⟩
    · simp [h] at hrole
    · simp [h] at hrole
    · exact absurd hrun (by simp [State.running_of_held h])
    · exact absurd hrun (by simp [State.running_of_outputsOff h])
  · have hview := State.vote_withdrawn hp hv
    exact ⟨State.vote_haltDrive hp hv hprinting, congrArg VoteView.permit hview, congrArg VoteView.withdrawals hview⟩

end

section
/-! The vote and the roles of the twin (R386 to R393): what they change, and what they leave of the rest of the state. -/
namespace Sys2Proof.Machine

/-- One state comes from another by what was sent, the host interface, the event block and the twin block. -/
def State.TwinOnly (s t : State) : Prop := t = { s with out := t.out, hif := t.hif, evt := t.evt, twn := t.twn }

theorem State.TwinOnly.refl (s : State) : s.TwinOnly s := rfl

theorem State.TwinOnly.trans {s t u : State} (h : s.TwinOnly t) (k : t.TwinOnly u) : s.TwinOnly u := by
  unfold State.TwinOnly at *
  rw [k, h]

theorem State.TwinOnly.tick {s t : State} (h : s.TwinOnly t) : t.tick = s.tick := by
  unfold State.TwinOnly at h
  rw [h]

theorem State.TwinOnly.ite {s t u : State} {p : Prop} [Decidable p] (ht : s.TwinOnly t) (hu : s.TwinOnly u) : s.TwinOnly (if p then t else u) := by
  split
  · exact ht
  · exact hu

theorem State.TwinOnly.foldl {α : Type} {f : State → α → State} (h : ∀ t x, State.TwinOnly t (f t x)) (l : List α) (s : State) : s.TwinOnly (l.foldl f s) :=
  List.foldlRecOn (motive := fun t => s.TwinOnly t) l f (.refl s) fun t ht x _ => ht.trans (h t x)

theorem State.modTwn_twinOnly (s : State) (f : Twn → Twn) : s.TwinOnly (s.modTwn f) := rfl

theorem State.emit_twinOnly (s : State) (o : Out) : s.TwinOnly (s.emit o) := rfl

theorem State.complete_twinOnly (s : State) (id st : Nat) (res : List Byte) : s.TwinOnly (s.complete id st res) := rfl

theorem State.completeOpt_twinOnly (s : State) (id : Option Nat) (st : Nat) (res : List Byte) : s.TwinOnly (s.completeOpt id st res) := by
  obtain ⟨i, n, h⟩ := s.completeOpt_eq id st res
  rw [h]
  rfl

theorem State.raise_twinOnly (s : State) (code unit : Nat) (args : List Byte) : s.TwinOnly (s.raise code unit args) := by
  obtain ⟨o, g, m, w, e, h⟩ := s.raise_eq code unit args
  rw [h]
  rfl

theorem State.proofFail_twinOnly (s : State) (k at_ : Nat) : s.TwinOnly (s.proofFail k at_) := by
  obtain ⟨w, h, e⟩ := s.proofFail_frame k at_
  rw [e]
  rfl

theorem State.permitLost_of_idle {s : State} (h : s.anyPrinting = false) : s.permitLost = s := if_neg (by simp [h])

theorem State.proofFail_of_none {s : State} (h : s.twn.proof = none) (k at_ : Nat) : s.proofFail k at_ = s := by
  simp [State.proofFail, State.proving, h]

/-- The twin block after a vote that withdraws nothing (R391). -/
def Twn.voted (t : Twn) (channels tick : Nat) : Twn :=
  { t with permit := (voteTable channels).1, disagree := (voteTable channels).2,
           disagreeAt := if (voteTable channels).2 then some (t.disagreeAt.getD tick) else none,
           votedAt := if t.permit = (voteTable channels).1 then t.votedAt else tick }

/-- A vote that leaves the permit given, or not given, writes the table's row and at most PERMIT_CHANGED. -/
theorem State.vote_of_noWithdrawal {s : State} (h : s.twn.permit = true → (voteTable s.permitChannels).1 = true) :
    s.TwinOnly s.vote ∧ s.vote.twn = s.twn.voted s.permitChannels s.tick := by
  unfold State.vote
  extract_lets ch v t s₁ s₂
  rw [if_neg (fun hlost => by simp [v, ch, h hlost.1] at hlost)]
  simp only [s₂]
  split
  · exact ⟨(s.modTwn_twinOnly _).trans (s₁.raise_twinOnly ..), s₁.raise_twn ..⟩
  · exact ⟨s.modTwn_twinOnly _, rfl⟩

/-- A withdrawal with no page PRINTING and no proof test clears ARM and counts (R391, R392). -/
theorem State.vote_of_withdrawal {s : State} (hp : s.twn.permit = true) (hv : (voteTable s.permitChannels).1 = false)
    (hprinting : s.anyPrinting = false) (hproof : s.twn.proof = none) :
    s.TwinOnly s.vote ∧ s.vote.twn = { s.twn.voted s.permitChannels s.tick with
      withdrawals := satAdd 16 s.twn.withdrawals 1, armA := false, armB := false, armC := false, disagree := false, disagreeAt := none } := by
  unfold State.vote
  extract_lets ch v t s₁ s₂
  have hs₂ : s.TwinOnly s₂ ∧ s₂.twn = s₁.twn ∧ s₂.pgq = s.pgq := by
    simp only [s₂]
    split
    · exact ⟨(s.modTwn_twinOnly _).trans (s₁.raise_twinOnly ..), s₁.raise_twn .., s₁.raise_pgq ..⟩
    · exact ⟨s.modTwn_twinOnly _, rfl, rfl⟩
  obtain ⟨hframe, htwn, hpgq⟩ := hs₂
  rw [if_pos ⟨hp, hv⟩, State.permitLost_of_idle (by simpa [State.anyPrinting, hpgq] using hprinting),
    State.proofFail_of_none (by simpa [htwn, s₁] using hproof)]
  refine ⟨hframe.trans (s₂.modTwn_twinOnly _), ?_⟩
  rw [State.modTwn_twn, htwn]
  rfl

theorem State.channels_all {s : State} (h : s.permitChannels = 7) : s.twn.in0 = true ∧ s.twn.in1 = true ∧ s.twn.in2 = true ∧
    s.cle.permit = true ∧ s.twn.armA = true ∧ s.twn.armB = true ∧ s.twn.armC = true := by
  obtain ⟨h0, h1, h2⟩ := bit_of_channels (s.twn.in0 && s.cle.permit && s.twn.armA) (s.twn.in1 && s.cle.permit && s.twn.armB)
    (s.twn.in2 && s.cle.permit && s.twn.armC)
  rw [← State.permitChannels, h] at h0 h1 h2
  obtain ⟨⟨hin0, hcle⟩, ha⟩ := (Bool.and_eq_true_iff.1 h0.symm).imp_left Bool.and_eq_true_iff.1
  obtain ⟨⟨hin1, -⟩, hb⟩ := (Bool.and_eq_true_iff.1 h1.symm).imp_left Bool.and_eq_true_iff.1
  obtain ⟨⟨hin2, -⟩, hc⟩ := (Bool.and_eq_true_iff.1 h2.symm).imp_left Bool.and_eq_true_iff.1
  exact ⟨hin0, hin1, hin2, hcle, ha, hb, hc⟩

theorem State.channels_firstTwo {s : State} (h : s.permitChannels = 3) : s.twn.in0 = true ∧ s.twn.in1 = true ∧ s.cle.permit = true ∧
    s.twn.armA = true ∧ s.twn.armB = true ∧ (s.twn.in2 && s.cle.permit && s.twn.armC) = false := by
  obtain ⟨h0, h1, h2⟩ := bit_of_channels (s.twn.in0 && s.cle.permit && s.twn.armA) (s.twn.in1 && s.cle.permit && s.twn.armB)
    (s.twn.in2 && s.cle.permit && s.twn.armC)
  rw [← State.permitChannels, h] at h0 h1 h2
  obtain ⟨⟨hin0, hcle⟩, ha⟩ := (Bool.and_eq_true_iff.1 h0.symm).imp_left Bool.and_eq_true_iff.1
  obtain ⟨⟨hin1, -⟩, hb⟩ := (Bool.and_eq_true_iff.1 h1.symm).imp_left Bool.and_eq_true_iff.1
  exact ⟨hin0, hin1, hcle, ha, hb, h2.symm⟩

/-- Once a level of the second input has been held for its response, it is voted (R390, R391). -/
theorem exec_secondInput {s : State} (hheld : s.sys.held = false) {n : Nat} (hn : 16 ≤ n) (level : Bool) :
    exec (.permitInputChange 1 level n) s = .next (s.modTwn (fun t => { t with in1 := level })).vote :=
  if_neg (by simp [hheld, permitResponse]; omega)

/-- Once a level of the third input has been held for its response, it is voted (R390, R391). -/
theorem exec_thirdInput {s : State} (hheld : s.sys.held = false) {n : Nat} (hn : 2000 ≤ n) (level : Bool) :
    exec (.permitInputChange 2 level n) s = .next (s.modTwn (fun t => { t with in2 := level })).vote :=
  if_neg (by simp [hheld, permitResponse]; omega)

end Sys2Proof.Machine

open Sys2Proof Sys2Proof.Machine

/-- Settles O47: by the table's rows 3 and 1, and what a vote does that leaves the permit and one that withdraws it. -/
theorem permitInputsAreVoted : Obligations.PermitInputsAreVoted := by
  refine ⟨fun s n hheld hn hch hp hd => ?_, fun s k l n h => if_pos h, fun s n hheld hn hch hp hprinting hproof => ?_⟩
  · obtain ⟨h0, h1, h2, hc, ha, hb, harmC⟩ := State.channels_all hch
    have hch' : (s.modTwn (fun t => { t with in2 := false })).permitChannels = 3 := by
      simp [State.permitChannels, h0, h1, hc, ha, hb, b2n]
    obtain ⟨hframe, htwn⟩ := State.vote_of_noWithdrawal (s := s.modTwn (fun t => { t with in2 := false })) (fun _ => by rw [hch']; rfl)
    refine ⟨_, exec_thirdInput hheld hn false, (s.modTwn_twinOnly _).trans hframe, ?_⟩
    simp only [htwn, hch', Twn.voted]
    exact ⟨rfl, rfl, rfl, ha, rfl⟩
  · obtain ⟨h0, h1, hc, ha, hb, h2⟩ := State.channels_firstTwo hch
    have hch' : (s.modTwn (fun t => { t with in1 := false })).permitChannels = 1 := by
      simp only [State.permitChannels, State.modTwn_twn, State.modTwn_cle, h2]
      simp [h0, hc, ha, b2n]
    obtain ⟨hframe, htwn⟩ := State.vote_of_withdrawal (s := s.modTwn (fun t => { t with in1 := false })) hp (by rw [hch']; rfl) hprinting hproof
    refine ⟨_, exec_secondInput hheld hn false, (s.modTwn_twinOnly _).trans hframe, ?_⟩
    have hpermit : (s.modTwn (fun t => { t with in1 := false })).vote.twn.permit = false := by rw [htwn]; simp only [Twn.voted, hch']; rfl
    refine ⟨hpermit, by simp [State.fireEn, hpermit], ?_⟩
    rw [htwn]
    exact ⟨rfl, rfl, rfl, rfl⟩

end

section
/-! Changes of role (R375, R386 to R389). -/
namespace Sys2Proof.Machine

theorem State.dropExchange_twinOnly (s : State) (new : Role) :
    s.TwinOnly (s.dropExchange new) ∧ (s.dropExchange new).twn = { s.twn with exchange := none } := by
  unfold State.dropExchange
  split
  · next x _ =>
    obtain ⟨i, n, h⟩ := (s.modTwn (fun t => { t with exchange := none })).completeOpt_eq x.cmd (if new = .alone then Status.noPartner else Status.wrongRole) []
    rw [h]
    exact ⟨rfl, rfl⟩
  · next h => exact ⟨.refl s, by rw [← h]⟩

theorem State.tellRole_twinOnly (s : State) (before : Bool) : s.TwinOnly (s.tellRole before) ∧ (s.tellRole before).twn = s.twn := by
  unfold State.tellRole
  split <;> exact ⟨rfl, rfl⟩

/-- What sends only. -/
theorem State.foldl_emitting {α : Type} {f : State → α → State} (h : ∀ s x, f s x = s ∨ ∃ o, f s x = s.emit o) (l : List α) (s : State) :
    s.TwinOnly (l.foldl f s) ∧ (l.foldl f s).twn = s.twn :=
  List.foldlRecOn (motive := fun t => s.TwinOnly t ∧ t.twn = s.twn) l f ⟨.refl s, rfl⟩ fun t ht x _ => by
    rcases h t x with h | ⟨o, h⟩
    · rwa [h]
    · rw [h]
      exact ⟨ht.1.trans (t.emit_twinOnly o), ht.2⟩

theorem State.switchPulses_twinOnly (s : State) (before : Bool) : s.TwinOnly (s.switchPulses before) ∧ (s.switchPulses before).twn = s.twn := by
  unfold State.switchPulses State.takePulses
  split
  · exact ⟨.refl s, rfl⟩
  · split
    · refine State.foldl_emitting (fun t x => ?_) _ s
      split
      · exact .inl rfl
      · exact .inr ⟨_, rfl⟩
    · refine State.foldl_emitting (fun t x => ?_) _ s
      dsimp only
      split
      · exact .inl rfl
      · exact .inr ⟨_, rfl⟩

/-- The twin block with another role (R375). -/
def Twn.withRole (t : Twn) (new : Role) (tick : Nat) : Twn :=
  ({ t with role := new, outAt := none, predTick := none, predFlags := none, cleanAt := none, voterOut := none, lone := false,
            exchange := none, inStep := t.inStep && (new == .lead || new == .shadow), votedAt := tick } : Twn).aloneCount

theorem Twn.withRole_of_ne_alone (t : Twn) {new : Role} (h : new ≠ .alone) (tick : Nat) : t.withRole new tick =
    { t with role := new, outAt := none, predTick := none, predFlags := none, cleanAt := none, voterOut := none, lone := false,
             exchange := none, inStep := t.inStep && (new == .lead || new == .shadow), votedAt := tick } := if_neg h

/-- A change of role, with no proof test and of a device that need not relinquish, is told, and leaves all but the twin block (R375). -/
theorem State.setRole_frame {s : State} (hproof : s.twn.proof = none) {new : Role} (hne : new ≠ .alone) (hfit : new = .lead → s.twn.healthy = true)
    (cause : Nat) : s.TwinOnly (s.setRole new cause) ∧ (s.setRole new cause).twn = s.twn.withRole new s.tick := by
  unfold State.setRole
  extract_lets old level driven s₁ s₂ s₃ s₄ s₅
  have h₁ : s₁ = s := if_pos (.inr (by simp [hproof]))
  obtain ⟨f₂, t₂⟩ := s₁.dropExchange_twinOnly new
  have htick : s₂.tick = s.tick := f₂.tick.trans (by rw [h₁])
  have htwn : s₂.twn = { s.twn with exchange := none } := t₂.trans (by rw [h₁])
  have f₃ : s.TwinOnly s₃ := by
    rw [← h₁]
    exact f₂.trans (s₂.modTwn_twinOnly _)
  have t₃ : s₃.twn = s.twn.withRole new s.tick := by
    simp only [s₃, State.modTwn_twn, htick, htwn]
    rfl
  obtain ⟨f₄, t₄⟩ := s₃.tellRole_twinOnly level
  obtain ⟨f₅, t₅⟩ := (s₃.tellRole level).switchPulses_twinOnly driven
  have f₆ : s.TwinOnly s₅ := f₃.trans (f₄.trans (f₅.trans (s₄.raise_twinOnly ..)))
  have t₆ : s₅.twn = s.twn.withRole new s.tick := (s₄.raise_twn ..).trans (t₅.trans (t₄.trans t₃))
  rw [if_neg]
  · exact ⟨f₆, t₆⟩
  · rintro ⟨hlead, hhealthy⟩
    rw [t₆, Twn.withRole_of_ne_alone _ hne, hfit hlead] at hhealthy
    cases hhealthy

theorem State.modChan_of_noDiff {s : State} (h : s.enc.chans = {}) (n : Nat) {f : Chan → Chan} (hf : f {} = {}) : s.modChan n f = s := by
  have hset : s.enc.chans.set {} n (f (s.enc.chans.get {} n)) = s.enc.chans := by
    rw [h]
    change (({} : Table Chan).set {} n (f {})) = {}
    rw [hf]
    rfl
  unfold State.modChan State.setChan State.chan
  rw [hset]

/-- With no channel counted otherwise by the partner, a take-over takes no counts (R388). -/
theorem State.takeCounts_of_noChans {s : State} (h : s.enc.chans = {}) : s.takeCounts = s := by
  unfold State.takeCounts
  refine List.foldlRecOn (motive := fun t => t = s) _ _ rfl fun t ht n _ => ?_
  subst ht
  exact State.modChan_of_noDiff h n rfl

/-- A shadow in step takes the lead with the next epoch (R387, R388, R389). -/
theorem State.takeOver_frame {s : State} (hproof : s.twn.proof = none) (hhealthy : s.twn.healthy = true) (hstep : s.twn.inStep = true)
    (hchans : s.enc.chans = {}) (cause : Nat) : s.TwinOnly (s.takeOver cause) ∧ (s.takeOver cause).twn =
      ({ s.twn with epoch := wrapAdd 8 s.twn.epoch 1, mirrored := s.twn.mirrored.filter (fun m => m.commit.isSome) } : Twn).withRole .lead s.tick := by
  unfold State.takeOver
  dsimp only
  rw [if_pos hstep, State.takeCounts_of_noChans hchans]
  obtain ⟨f, t⟩ := State.setRole_frame (s := s.modTwn (fun t => { t with epoch := wrapAdd 8 t.epoch 1, mirrored := t.mirrored.filter (fun m => m.commit.isSome) }))
    hproof (new := .lead) (by simp) (fun _ => hhealthy) cause
  exact ⟨(s.modTwn_twinOnly _).trans f, t⟩

theorem State.hears_of_up {s : State} (hrun : s.running = true) (hlink : s.twn.link = .up) : s.hears = true := by
  simp [State.hears, hrun, hlink]

theorem State.reportRelinquish_frame (s : State) (cause : Nat) (gone : Bool) :
    s.TwinOnly (s.reportRelinquish cause gone) ∧ (s.reportRelinquish cause gone).twn = s.twn :=
  ⟨s.raise_twinOnly .., s.raise_twn ..⟩

/-- A lead without a fit shadow reports, and retains the lead (R386, R387). -/
theorem State.relinquish_of_absent {s : State} (hout : s.twn.outAt = none) (habsent : s.twn.absent = true) (cause : Nat) :
    s.relinquish cause = s.reportRelinquish cause false := by
  simp [State.relinquish, State.hasShadow, hout, habsent]

theorem State.healthProof_of_none {s : State} (hproof : s.twn.proof = none) (old h : Health) :
    s.healthProof old h = s := by
  unfold State.healthProof
  extract_lets s₁ tap s₂ s₃
  have hs₁ : s₁ = s := by simp [s₁, State.voterProof, hproof]
  have htap : ∀ k, tap s k = s := fun k => by simp [tap, hproof]
  have hs₃ : s₃ = s := by
    simp only [s₃, s₂, hs₁, htap, State.proofFail_of_none hproof, ite_self]
  rw [hs₃, State.proofFail_of_none hproof, ite_self]

theorem exec_healthRecordRx {s : State} (hhears : s.hears = true) (hlead : s.twn.role = .lead) (hproof : s.twn.proof = none) {h : Health}
    (hmis : h.mismatch = s.twn.health.mismatch) : exec (.healthRecordRx h) s = .next (s.modTwn (fun t => { t with health := h })) := by
  change execHealthRecordRx h s = _
  unfold execHealthRecordRx
  rw [if_neg (by simp [hhears, hlead])]
  simp only [hmis, ne_eq, not_true_eq_false, if_false]
  rw [State.healthProof_of_none (by exact hproof)]

/-- Channels that have disagreed for less than 2,000 ticks are no fault (R386). -/
theorem exec_voterFault_early {s : State} {x : Nat} (hat : s.twn.disagreeAt = some x) (hearly : s.tick < x + 2000) :
    exec (.selfDiagnosisFault 5 []) s = .next s := by
  refine if_pos ?_
  have hlong : s.disagreesLong = false := by simp [State.disagreesLong, hat, hearly]
  have hread : s.readbackDiffers [] = false := rfl
  have hholds : s.faultHolds 5 [] = false := by
    change (s.disagreesLong || s.readbackDiffers []) = false
    rw [hlong, hread, Bool.or_self]
  change (!s.running || !s.faultHolds 5 []) = true
  rw [hholds, Bool.not_false, Bool.or_true]

/-- A declared fault makes a lead without a shadow unhealthy, and it retains the lead (R386). -/
theorem State.declareFault_frame {s : State} (hfaults : s.twn.faults = 0) (hcause : s.twn.faultCause = 0) (hlead : s.twn.role = .lead)
    (hout : s.twn.outAt = none) (habsent : s.twn.absent = true) (cause : Nat) : s.TwinOnly (s.declareFault cause) ∧
      (s.declareFault cause).twn = { s.twn with healthy := false, faults := 2 ^ cause, faultCause := cause } := by
  unfold State.declareFault
  dsimp only
  rw [if_neg (by simp [hfaults, bit]), if_pos (by exact hlead), State.relinquish_of_absent (by exact hout) (by exact habsent)]
  obtain ⟨f, t⟩ := State.reportRelinquish_frame (s.modTwn (fun t => { t with
    healthy := false, faults := t.faults + 2 ^ cause, faultCause := if t.faultCause = 0 then cause else t.faultCause })) cause false
  refine ⟨(s.modTwn_twinOnly _).trans f, t.trans ?_⟩
  simp [hfaults, hcause]

theorem exec_relinquishOut {s : State} {x : Nat} (hout : s.twn.outAt = some x) (hlead : s.twn.role = .lead) (hx : x ≤ s.tick) :
    exec .relinquishOut s = .next (s.setRole .out 2) := by
  change execRelinquishOut s = _
  simp [execRelinquishOut, hout, hlead, hx]

theorem exec_partnerHealthRestore {s : State} {x : Nat} (hat : s.twn.mismatchAt = some x) (hunfit : s.twn.partnerHealthy = false)
    (hx : x + 2000000000 ≤ s.tick) : exec .partnerHealthRestore s =
      .next (s.modTwn (fun t => { t with partnerHealthy := true, mismatchAt := none, mismatchLines := [] })) := by
  change execPartnerHealthRestore s = _
  unfold execPartnerHealthRestore
  rw [hat]
  exact if_neg (by simp [hunfit]; omega)

/-- A HANDOVER record is noted; of a shadow that has not been clean it is not the partner's take-back (R374, R389). -/
theorem exec_handoverRecordRx {s : State} (hhears : s.hears = true) (hshadow : s.twn.role = .shadow) (hclean : s.twn.cleanAt = none) (n : Nat) :
    exec (.handoverRecordRx n) s = .next (s.modTwn (fun t => { t with exchange := some { h := n, cause := 3, cmd := none } })) := by
  change execHandoverRecordRx n s = _
  simp [execHandoverRecordRx, hhears, hshadow, hclean]

/-- A preferred shadow clean for 10 s is given the lead at a cycle boundary (R389). -/
theorem exec_takeBack {s : State} {x : Nat} (hclean : s.twn.cleanAt = some x) (hlead : s.twn.role = .lead) (hrun : s.running = true)
    (hok : s.cleanOk = true) (hexchange : s.twn.exchange = none) (hout : s.twn.outAt = none) (hx : x + 2000000000 ≤ s.tick) (hlive : s.anyLive = false) :
    exec .takeBack s = .next ((s.modTwn (fun t => { t with exchange := some { h := s.cycleAhead, cause := 4, cmd := none } })).sendTwin
      (.handover s.cycleAhead)) := by
  change execTakeBack s = _
  simp [execTakeBack, hclean, hlead, hrun, hok, hexchange, hout, hx, State.decideExchange, hlive]

theorem State.noteRevert_frame (s : State) (p : Bool) (cause : Nat) : ∃ b, s.noteRevert p cause = s.modTwn (fun t => { t with noRevert := b }) := by
  unfold State.noteRevert
  split
  · exact ⟨true, rfl⟩
  · exact ⟨s.twn.noRevert, rfl⟩

theorem State.exchangeDue_of_tick {s : State} {x : Exchange} (hpage : x.atPage = false) (hh : x.h ≤ s.pairTick) : s.exchangeDue x = true := by
  simp [State.exchangeDue, hpage, hh]

/-- At H the lead becomes SHADOW and passes the next epoch (R389). -/
theorem exec_roleExchange_lead {s : State} {x : Exchange} (hx : s.twn.exchange = some x) (hdue : s.exchangeDue x = true) (hlead : s.twn.role = .lead)
    (hshadow : s.hasShadow = true) (hfit : s.partnerFit = true) (hproof : s.twn.proof = none) : ∃ t b, exec .roleExchange s = .next t ∧
      ({ s with copyOwn := none, copySince := [] } : State).TwinOnly t ∧
      t.twn = (({ s.twn with exchange := none, noRevert := b } : Twn).yield).withRole .shadow s.tick := by
  obtain ⟨b, hrevert⟩ := (s.modTwn (fun t => { t with exchange := none })).noteRevert_frame s.pref x.cause
  let u : State := ({ (s.modTwn (fun t => ({ t with exchange := none, noRevert := b } : Twn).yield)) with copyOwn := none, copySince := [] })
  obtain ⟨f, t⟩ := State.setRole_frame (s := u) hproof (new := .shadow) (by simp) (by simp) x.cause
  refine ⟨(u.setRole .shadow x.cause).completeOpt x.cmd Status.ok [], b, ?_, ?_, ?_⟩
  · change execRoleExchange s = _
    unfold execRoleExchange
    simp only [hx, hdue, hlead, hshadow, hfit, hrevert, Bool.not_true, Bool.false_eq_true, if_false]
    rfl
  · exact State.TwinOnly.trans (t := u) rfl (f.trans (State.completeOpt_twinOnly ..))
  · obtain ⟨i, n, h⟩ := (u.setRole .shadow x.cause).completeOpt_eq x.cmd Status.ok []
    rw [h]
    exact t

/-- At H the shadow in step takes the lead, and keeps the line it has predicted (R389). -/
theorem exec_roleExchange_shadow {s : State} {x : Exchange} (hx : s.twn.exchange = some x) (hdue : s.exchangeDue x = true)
    (hshadow : s.twn.role = .shadow) (hhealthy : s.twn.healthy = true) (hstep : s.twn.inStep = true) (hchans : s.enc.chans = {})
    (hproof : s.twn.proof = none) : ∃ t, exec .roleExchange s = .next t ∧ s.TwinOnly t ∧ t.twn.role = .lead ∧
      t.twn.epoch = wrapAdd 8 s.twn.epoch 1 ∧ t.twn.inStep = true ∧ t.twn.permit = s.twn.permit := by
  obtain ⟨b, hrevert⟩ := (s.modTwn (fun t => { t with exchange := none })).noteRevert_frame (!s.pref) x.cause
  let u : State := s.modTwn (fun t => { t with exchange := none, noRevert := b })
  obtain ⟨f, t⟩ := State.takeOver_frame (s := u) hproof hhealthy hstep hchans x.cause
  refine ⟨(u.takeOver x.cause).keepLine s.twn, ?_, ?_, ?_⟩
  · change execRoleExchange s = _
    unfold execRoleExchange
    simp only [hx, hdue, hshadow, hhealthy, hstep, hrevert, Bool.not_true, Bool.false_eq_true, if_false, Bool.and_self, if_true]
    rfl
  · exact (s.modTwn_twinOnly _).trans (f.trans (State.modTwn_twinOnly ..))
  · rw [State.keepLine, State.modTwn_twn, t, Twn.withRole_of_ne_alone _ (by simp)]
    simp [u, hstep]

end Sys2Proof.Machine

open Sys2Proof Sys2Proof.Machine

/-- Settles O46: each record or event by the lemma on its command, and the changes of role by what one leaves of the twin block. -/
theorem rolesChangeHands : Obligations.RolesChangeHands := by
  refine ⟨fun s h hrun hlink hlead hproof hmis => exec_healthRecordRx (State.hears_of_up hrun hlink) hlead hproof hmis,
    fun s x hat hearly => exec_voterFault_early hat hearly, ?_, ?_, ?_, fun s x hat hunfit hx => exec_partnerHealthRestore hat hunfit hx,
    fun s n hrun hlink hshadow hclean => exec_handoverRecordRx (State.hears_of_up hrun hlink) hshadow hclean n,
    fun s x hclean hlead hrun hok hexchange hout hx hlive _ => exec_takeBack hclean hlead hrun hok hexchange hout hx hlive, ?_, ?_⟩
  · intro s b hrun hfaults hcause hlead habsent hout
    obtain ⟨f, t⟩ := State.declareFault_frame hfaults hcause hlead hout habsent 4
    refine ⟨s.declareFault 4, if_neg (by simp [hrun, State.faultHolds]), f, ?_⟩
    rw [t]
    exact ⟨rfl, rfl, hlead, hout⟩
  · intro s hrun hlink hshadow hhealthy hstep hchans hproof
    obtain ⟨f, t⟩ := State.takeOver_frame hproof hhealthy hstep hchans 2
    refine ⟨s.takeOver 2, if_pos (by simp [State.hears_of_up hrun hlink, hshadow]), f, ?_⟩
    rw [t, Twn.withRole_of_ne_alone _ (by simp)]
    exact ⟨rfl, rfl, rfl, rfl⟩
  · intro s x hout hlead hx hproof
    obtain ⟨f, t⟩ := State.setRole_frame hproof (new := .out) (by simp) (by simp) 2
    have hrole : (s.setRole .out 2).twn.role = .out := by rw [t, Twn.withRole_of_ne_alone _ (by simp)]
    exact ⟨s.setRole .out 2, exec_relinquishOut hout hlead hx, f, hrole, by simp [State.fireEn, hrole]⟩
  · intro s x hx hpage hh hlead hpartner habsent hfit hproof hlink
    obtain ⟨t, b, e, f, htwn⟩ := exec_roleExchange_lead hx (State.exchangeDue_of_tick hpage hh) hlead (by simp [State.hasShadow, hpartner, habsent])
      hfit hproof
    refine ⟨t, e, ?_, ?_⟩
    · rw [State.TwinOnly] at f
      rw [f]
    · rw [htwn, Twn.withRole_of_ne_alone _ (by simp)]
      simp [Twn.yield, hlink]
  · intro s x hx hpage hh hshadow hhealthy hstep hchans hproof
    exact exec_roleExchange_shadow hx (State.exchangeDue_of_tick hpage hh) hshadow hhealthy hstep hchans hproof

end

section
/-! Position feedback (R303, R305, R307 to R311): what the ENC commands do at once. -/
namespace Sys2Proof.Machine

/-! The ENC commands commit their effects. -/

section
variable {s : State} {r : Fin 4} {c : Cmd}

theorem exec_encConfig_atOnce (h : s.atOnce r 0x0A01 c = true) :
    exec (.encConfig r) s = .next (settle c.id (effEncConfig { c with host := .ok [] } (s.begun r c (.ok [])))) := by
  rw [← startCommand_atOnce h]; rfl

theorem exec_encSet_atOnce (h : s.atOnce r 0x0A02 c = true) :
    exec (.encSet r) s = .next (settle c.id (effEncSet { c with host := .ok [] } (s.begun r c (.ok [])))) := by
  rw [← startCommand_atOnce h]; rfl

theorem exec_encProbe_atOnce (h : s.atOnce r 0x0A03 c = true) :
    exec (.encProbe r) s = .next (settle c.id (effEncProbe { c with host := .ok [] } (s.begun r c (.ok [])))) := by
  rw [← startCommand_atOnce h]; rfl

theorem exec_encCompare_atOnce (h : s.atOnce r 0x0A04 c = true) (d : HostRead) :
    exec (.encCompare r d) s = .next (settle c.id (effEncCompare { c with host := d } (s.begun r c d))) := by
  rw [← startCommand_atOnce h]; rfl

theorem exec_encQuery_atOnce (h : s.atOnce r 0x0A05 c = true) :
    exec (.encQuery r) s = .next (settle c.id (effEncQuery { c with host := .ok [] } (s.begun r c (.ok [])))) := by
  rw [← startCommand_atOnce h]; rfl

end

/-! Their effects. -/

section
variable {s : State} {c : Cmd} {d : HostRead}

theorem Chan.setCount_frame (x : Chan) (p : Int) (tick : Nat) : (x.setCount p tick).cfg = x.cfg := by
  simp only [Chan.setCount, Chan.keepPast]
  split <;> rfl

theorem effEncConfig_incremental (hok : encBad c.packet = false) (hkind : u8 c.packet 9 = 0) (hfault : bit (u8 c.packet 11) 4 = false)
    (hidle : s.chanInUse (u8 c.packet 8) = false) : effEncConfig { c with host := d } s =
      good (s.modChan (u8 c.packet 8) (fun x => { x with cfgNext := some ⟨parseEnc c.packet, s.tick⟩, configured := true })) := by
  have hssi : (parseEnc c.packet).ssi = false := by simp [parseEnc, hkind]
  simp [effEncConfig, hok, hssi, hfault, hidle]

theorem effEncSet_now (hch : u8 c.packet 8 < 8) (hkind : u8 c.packet 9 = 0) (hz₁ : zeroRange c.packet 10 16 = true)
    (hz₂ : zeroRange c.packet 24 64 = true) (hwrap : (s.chan (u8 c.packet 8)).cfg.wrap = false)
    (hmin : (s.chan (u8 c.packet 8)).cfg.cntMin ≤ i64 c.packet 16) (hmax : i64 c.packet 16 ≤ (s.chan (u8 c.packet 8)).cfg.cntMax) :
    effEncSet { c with host := d } s = good (s.modChan (u8 c.packet 8) (fun x => x.setCount (i64 c.packet 16) s.tick)) := by
  have hform : ¬ (8 ≤ u8 c.packet 8 ∨ 1 < u8 c.packet 9 ∨ zeroRange c.packet 10 16 = false ∨ zeroRange c.packet 24 64 = false) := by
    simp [hch, hkind, hz₁, hz₂]
  simp only [effEncSet, if_neg hform, hwrap, Bool.false_eq_true, if_false]
  rw [if_neg (by omega), if_neg (by omega)]

theorem effEncProbe_free (hn : u8 c.packet 8 < 4) (hch : u8 c.packet 9 < 8) (hedge : u8 c.packet 10 ≤ 2) (hz : u8 c.packet 11 = 0)
    (hms : 0 < u32 c.packet 12) (hms' : u32 c.packet 12 ≤ 65535) (hzero : zeroRange c.packet 16 64 = true)
    (hfree : (s.probe (u8 c.packet 8)).armed = false) : effEncProbe { c with host := d } s =
      (s.modProbe (u8 c.packet 8) (fun q => { q with
        armed := true, chan := u8 c.packet 9, edge := u8 c.packet 10, cmd := c.id,
        deadline := some (s.tick + u32 c.packet 12 * 200000) }), .running) := by
  have hform : ¬ (4 ≤ u8 c.packet 8 ∨ 8 ≤ u8 c.packet 9 ∨ 2 < u8 c.packet 10 ∨ u8 c.packet 11 ≠ 0 ∨ 65535 < u32 c.packet 12
      ∨ zeroRange c.packet 16 64 = false) := by
    simp [hn, hch, hedge, hz, hms', hzero]
  have hlimit : ¬ u32 c.packet 12 = 0 := by omega
  simp only [effEncProbe, if_neg hform, hfree, Bool.false_eq_true, if_false, if_neg hlimit]

theorem Cmpr.settle_of_none {o : Cmpr} (h : o.listNext = none) (tick : Nat) : o.settle tick = o := by
  simp [Cmpr.settle, stagedDue, h]

theorem bit_two_of_lt {n : Nat} (h : n < 4) : bit n 2 = false := by
  interval_cases n <;> rfl

/-- A list of a homed channel is loaded (R309, R310). -/
theorem effEncCompare_list (hout : u8 c.packet 8 < 8) (hch : u8 c.packet 9 < 8) (hflags : u8 c.packet 10 < 4) (hz : u8 c.packet 11 = 0)
    (hwidth : u16 c.packet 12 ≠ 0) (hzero : zeroRange c.packet 24 64 = true) (hn : 0 < u16 c.packet 14) (hn' : u16 c.packet 14 ≤ 256)
    (haddr : u64 c.packet 16 % 8 = 0) (hhomed : (s.chan (u8 c.packet 9)).posValid = true) {b : List Byte} {es : List (Int × Nat)}
    (hlist : parseCompare (u16 c.packet 14) b = some es) (hnext : (s.cmpr (u8 c.packet 8)).listNext = none) :
    effEncCompare { c with host := .ok b } s = good ((s.modCmpr (u8 c.packet 8) (fun o => { o with
      listNext := some ⟨{ chan := u8 c.packet 9, entries := es, cycle := bit (u8 c.packet 10) 0, activeLow := bit (u8 c.packet 10) 1,
                          width := u16 c.packet 12 }, s.tick⟩ })).emit (.idle (u8 c.packet 8) (s.tick + 1) (bit (u8 c.packet 10) 1))) := by
  have hclear : bit (u8 c.packet 10) 2 = false := bit_two_of_lt hflags
  have hform : ¬ (8 ≤ u8 c.packet 8 ∨ 8 ≤ u8 c.packet 9 ∨ 8 ≤ u8 c.packet 10 ∨ u8 c.packet 11 ≠ 0 ∨ u16 c.packet 12 = 0
      ∨ zeroRange c.packet 24 64 = false ∨ (bit (u8 c.packet 10) 2 = true ∧ (u16 c.packet 14 ≠ 0 ∨ u64 c.packet 16 ≠ 0))
      ∨ (bit (u8 c.packet 10) 2 = false ∧ (u16 c.packet 14 = 0 ∨ 256 < u16 c.packet 14 ∨ u64 c.packet 16 % 8 ≠ 0))) := by
    simp only [hclear, hz, hzero, haddr]
    simp
    omega
  unfold effEncCompare
  dsimp only
  rw [if_neg hform, if_neg (by simp [hclear]), if_neg (by simp [hhomed]), withHost_ok]
  simp only [hlist, State.modCmpr, Cmpr.settle_of_none hnext]

theorem effEncQuery_chan (hch : u8 c.packet 8 < 8) (hzero : zeroRange c.packet 9 64 = true) : effEncQuery { c with host := d } s =
    answer s (leInt 8 (s.chan (u8 c.packet 8)).planCount ++ leInt 4 (s.chan (u8 c.packet 8)).v ++ leBytes 4 (s.chan (u8 c.packet 8)).planStatus) :=
  if_neg (by simp [hch, hzero])

end

end Sys2Proof.Machine

open Sys2Proof Sys2Proof.Machine

/-- Settles O37: each ENC command by the lemma on its effect. -/
theorem feedbackIsConfigured : Obligations.FeedbackIsConfigured := by
  refine ⟨?_, ?_, ?_, ?_, ?_⟩
  · intro s r c h hok hkind hfault hidle
    rw [exec_encConfig_atOnce h, effEncConfig_incremental hok hkind hfault (by exact hidle), settle_good]
    rfl
  · intro s r c h hch hkind hz₁ hz₂ hwrap hmin hmax
    let u := (s.begun r c (.ok [])).modChan (u8 c.packet 8) (fun x => x.setCount (i64 c.packet 16) s.tick)
    have hset : u.chan (u8 c.packet 8) = (s.chan (u8 c.packet 8)).setCount (i64 c.packet 16) s.tick := State.chan_modChan ..
    refine ⟨u.complete c.id Status.ok [], ?_, rfl, ?_⟩
    · rw [exec_encSet_atOnce h, effEncSet_now hch hkind hz₁ hz₂ (by exact hwrap) (by exact hmin) (by exact hmax), settle_good]
      rfl
    · change (u.chan _).count = _ ∧ (u.chan _).eh = _ ∧ (u.chan _).posValid = _ ∧ (u.chan _).iRef = _ ∧ (u.chan _).sat = _ ∧ (u.chan _).cfg = _ ∧
        ∀ k : Fin 8, k.val ≠ _ → u.chan k = s.chan k
      rw [hset]
      exact ⟨rfl, rfl, rfl, rfl, rfl, Chan.setCount_frame .., fun k hk => State.chan_setChan_ne _ hk _⟩
  · intro s r c h hn hch hedge hz hms hms' hzero hfree
    rw [exec_encProbe_atOnce h, effEncProbe_free hn hch hedge hz hms hms' hzero (by exact hfree), settle_running]
    rfl
  · intro s r c b es h hout hch hflags hz hwidth hzero hn hn' haddr hhomed hlist hnext
    rw [exec_encCompare_atOnce h, effEncCompare_list hout hch hflags hz hwidth hzero hn hn' haddr (by exact hhomed) hlist (by exact hnext), settle_good]
    rfl
  · intro s r c h hch hzero
    rw [exec_encQuery_atOnce h, effEncQuery_chan hch hzero, settle_answer]
    rfl

end

section
/-! Firmware update (R414, R430). -/
namespace Sys2Proof.Machine

theorem exec_sysFwUpdate_atOnce {s : State} {r : Fin 4} {c : Cmd} (h : s.atOnce r 0x0106 c = true) (d : HostRead) :
    exec (.sysFwUpdate r d) s = .next (settle c.id (effSysFwUpdate { c with host := d } (s.begun r c d))) := by
  rw [← startCommand_atOnce h]; rfl

theorem State.emitAll_sys (s : State) (l : List Out) : (s.emitAll l).sys = s.sys := by
  induction l generalizing s with
  | nil => rfl
  | cons o l ih => exact ih (s.emit o)

theorem State.flashWrite_congr {s t : State} (h : t.sys.straps = s.sys.straps) (op addr : Nat) (data : List Byte) :
    t.flashWrite op addr data = s.flashWrite op addr data := by
  simp only [State.flashWrite, State.flashOp, h]

/-- What a read image of slot 1 does to a device that runs from slot 0 (R414): it is turned away with its reason, or its slot is erased. -/
theorem effSysFwUpdate_slot1 {s : State} {c : Cmd} {b : List Byte} (hf : u8 c.packet 21 = 0) (haddr : u64 c.packet 8 % 64 = 0)
    (hlen : 256 ≤ u32 c.packet 16) (hpayload : payloadLenOk (u32 c.packet 16 - 256) = true) (hslot : u8 c.packet 20 = 1)
    (hruns : s.sys.imageRun = 0) (hjob : s.sys.fwJob = none) (hb : b.length = u32 c.packet 16) (himage : u32 b 20 + 256 = u32 c.packet 16) :
    effSysFwUpdate { c with host := .ok b } s =
      if s.imageReason b = 0 then ((s.emitAll (s.flashErase 1)).modSys (fun y =>
        { y with slot1 := erasedHeader, fwJob := some { cmd := c.id, slot := 1, image := b } }), .running)
      else (s, .done Status.authFailed (fwResults (s.imageReason b) 1 (u32 b 16))) := by
  unfold effSysFwUpdate
  dsimp only
  rw [hf, hslot, if_neg (by omega), if_neg (by omega), if_neg (by simp [haddr, hpayload, hlen]), if_neg (by simp [hruns, hjob]), withHost_ok,
    pad_of_length hb]
  by_cases hr : s.imageReason b = 0
  · simp [hr, himage, Sys.putSlot]
  · simp [hr]

end Sys2Proof.Machine

open Sys2Proof Sys2Proof.Machine

/-- Settles O9: by the effect of SYS_FW_UPDATE and the end of the job it started. -/
theorem firmwareUpdateProgramsTheOtherSlot : Obligations.FirmwareUpdateProgramsTheOtherSlot := by
  refine ⟨?_, ?_, ?_, fun s addr data => ?_⟩
  · intro s r c b h hf haddr hlen hpayload hslot hruns hjob hb himage
    rw [exec_sysFwUpdate_atOnce h, effSysFwUpdate_slot1 hf haddr hlen hpayload hslot (by exact hruns) (by exact hjob) hb himage]
    have hreason : (s.begun r c (.ok b)).imageReason b = s.imageReason b := rfl
    rw [hreason]
    by_cases hr : s.imageReason b = 0
    · rw [if_pos hr, if_pos hr]
      rfl
    · rw [if_neg hr, if_neg hr]
      rfl
  · intro s j hj hslot
    change execFwUpdateDone true s = _
    simp [execFwUpdateDone, hj, hslot, Sys.putSlot, fwResults]
  · intro s j hj
    change execFwUpdateDone false s = _
    simp only [execFwUpdateDone, hj, Bool.false_eq_true, if_false]
    rw [State.flashWrite_congr (s := s) (by rw [State.emitAll_sys]; rfl)]
    rfl
  · cases h : bit s.sys.straps 3 <;> simp [State.flashWrite, State.flashOp, flashForm, h]

end

section
/-! DORMANT, resets and reset release (R401 to R419, R435, R443). -/
namespace Sys2Proof.Machine

theorem exec_sysEnterDormant_atOnce {s : State} {r : Fin 4} {c : Cmd} (h : s.atOnce r 0x0107 c = true) :
    exec (.sysEnterDormant r) s = .next (settle c.id (effSysEnterDormant { c with host := .ok [] } (s.begun r c (.ok [])))) := by
  rw [← startCommand_atOnce h]; rfl

theorem effSysEnterDormant_quiet {s : State} {c : Cmd} {d : HostRead} (hthr : u8 c.packet 8 ≤ 7) (hdir : u8 c.packet 9 ≤ 1) (hn : u8 c.packet 10 ≠ 0)
    (hlive : s.anyLive = false) (hfir : s.fir.runs = false) (haxis : s.axisActive = false)
    (harm : (s.twn.armA || s.twn.armB || s.twn.armC) = false) (hshadow : s.hasShadow = false) :
    effSysEnterDormant { c with host := d } s = good (s.modSys (fun y => { y with
      dormant := .entering s.tick, wakeThr := u8 c.packet 8, wakeFalling := u8 c.packet 9 % 2 = 1, wakeN := u8 c.packet 10 })) := by
  unfold effSysEnterDormant
  dsimp only
  rw [if_neg (by omega), if_neg (by simp [hlive, hfir, haxis]), if_neg (by simp [harm]), if_neg (by simp [hshadow])]
  simp [bit]

theorem State.asleep_of {s : State} {t : Nat} (h : s.sys.dormant = .asleep t) : s.asleep = true := by
  simp [State.asleep, h]

/-- A device that is not asleep wakes from DORMANT with a reset (R406, R418). -/
theorem Sys.afterReset_dormant {s : State} (h : s.asleep = false) : s.sys.afterReset.dormant = .awake := by
  cases hd : s.sys.dormant with
  | asleep t => exact absurd h (by simp [State.asleep_of hd])
  | _ => simp [Sys.afterReset, hd]

theorem State.judgedReset_of_outside {s : State} {ns : Nat} (h : 1000 ≤ ns ∨ ns < 100) : s.judgedReset ns = s := if_neg (by omega)

theorem State.resetTaken_of_long {s : State} {ns : Nat} (h : 1000 ≤ ns) : s.resetTaken ns = true := by
  simp [State.resetTaken, h]

theorem State.resetTaken_of_short {s : State} {ns : Nat} (h : ns < 100) : s.resetTaken ns = false := by
  simp [State.resetTaken]
  omega

/-- The outputs go off 200 ticks after the completion (R416, R417). -/
theorem exec_dormantOutputsOff {s : State} {t₀ : Nat} (h : s.sys.dormant = .entering t₀) (ht : t₀ + 200 ≤ s.tick) :
    exec .dormantOutputsOff s = .next ((((s.tellLow.modSys (fun y => { y with dormant := .outputsOff t₀ })).modFir
      (fun f => { f with haltDrive := false })).hifFall).modHif (fun h => { h with linkDown := true, linkGen := 0, linkWidth := 0 })) := by
  change execDormantOutputsOff s = _
  simp only [execDormantOutputsOff, h]
  exact if_neg (by omega)

theorem State.tellLow_frame (s : State) : ∃ o, s.tellLow = { s with out := o } := by
  unfold State.tellLow
  split
  · exact ⟨_, rfl⟩
  · exact ⟨s.out, rfl⟩

theorem State.roleLead_of_not_running {s : State} (h : s.running = false) : s.roleLead = false := by
  simp [State.roleLead, h]

/-- Once the outputs are off nothing leaves (R417). -/
theorem State.emit_out_of_outputsOff {s : State} {t : Nat} (h : s.sys.dormant = .outputsOff t) (o : Out) : (s.emit o).out = s.out := by
  simp [State.emit, State.leaves, h]

theorem exec_pwrOnFall {s : State} {t₀ : Nat} (h : s.sys.dormant = .outputsOff t₀) (ht : t₀ + 200000 ≤ s.tick) : exec .pwrOnFall s =
    .next (s.modSys (fun y => { y with dormant := .asleep s.tick, pwrOn := false, wakeEvents := 0 })).deviceReset := by
  change execPwrOnFall s = _
  simp only [execPwrOnFall, h]
  exact if_neg (by omega)

theorem exec_wakePwrOn {s : State} {t₀ : Nat} (h : s.sys.dormant = .asleep t₀) (hn : s.sys.wakeN ≤ s.sys.wakeEvents) (ht : t₀ + 10000000 ≤ s.tick) :
    exec .wakePwrOn s = .next (s.modSys (fun y => { y with pwrOn := true, dormant := .awake, causes := y.causes ++ [4] })) := by
  change execWakePwrOn s = _
  simp only [execWakePwrOn, h]
  exact if_pos ⟨hn, ht⟩

theorem exec_perstAssert_long {s : State} {ns : Nat} (h : 1000 ≤ ns) :
    exec (.perstAssert ns) s = .next ((s.modSys (fun y => { y with perstLow := true })).resetFor 5) := by
  change execPerstAssert ns s = _
  rw [execPerstAssert, State.judgedReset_of_outside (.inl h), State.resetTaken_of_long h, if_pos rfl]

theorem exec_sysResetAssert_long {s : State} {ns : Nat} (h : 1000 ≤ ns) :
    exec (.sysResetAssert ns) s = .next ((s.modSys (fun y => { y with sysResetLow := true })).resetFor 6) := by
  change execSysResetAssert ns s = _
  rw [execSysResetAssert, State.judgedReset_of_outside (.inl h), State.resetTaken_of_long h, if_pos rfl]

theorem exec_resetPins_short {s : State} {ns : Nat} (h : ns < 100) :
    exec (.perstAssert ns) s = .next s ∧ exec (.sysResetAssert ns) s = .next s := by
  change execPerstAssert ns s = _ ∧ execSysResetAssert ns s = _
  rw [execPerstAssert, execSysResetAssert, State.judgedReset_of_outside (.inr h), State.resetTaken_of_short h]
  exact ⟨rfl, rfl⟩

/-- Rails that come up after all of groups 1 to 4 were absent reset the device (R402, R406). -/
theorem exec_powerUp_absent {s : State} (hasleep : s.asleep = false) (hwake : s.sys.causes.contains 4 = false) (hrails : s.sys.railsOk = 1) :
    exec (.powerUp 1022) s = .next ((s.modSys (fun y => (y.railOut s.tick).railsIn 1022)).resetFor 2) := by
  change execPowerUp 1022 s = _
  simp only [execPowerUp, hrails]
  refine congrArg Host.Outcome.next ((if_neg ?_).trans (if_neg (Bool.eq_false_iff.1 hwake)))
  rw [Bool.or_eq_true, not_or]
  exact ⟨Bool.eq_false_iff.1 hasleep, by decide⟩

/-- Rails of a device with a group in range only come into range (R402). -/
theorem exec_powerUp_present {s : State} (hrails : s.sys.railsOk = 769) :
    exec (.powerUp 254) s = .next (s.modSys (fun y => (y.railOut s.tick).railsIn 254)) := by
  change execPowerUp 254 s = _
  simp only [execPowerUp, hrails]
  exact congrArg Host.Outcome.next (if_pos (Bool.or_eq_true_iff.2 (.inr rfl)))

theorem Sys.railsIn_all {y : Sys} (tick : Nat) {rails : Nat} (h : maskOf 10 (fun k => bit y.railsOk k || bit rails k) = 1023) :
    ((y.railOut tick).railsIn rails).railsOk = 1023 := h

theorem State.modSys_congr {s : State} {f g : Sys → Sys} (h : f s.sys = g s.sys) : s.modSys f = s.modSys g := by
  simp only [State.modSys, h]

theorem exec_railLost_running {s : State} {rail : Fin 10} (hheld : s.sys.held = false) (hasleep : s.asleep = false) (hrail : rail.val ≠ 0) :
    ∃ u : State, exec (.railLost rail) s = .next ((u.resetFor 3).modSys (fun y => { y with railsLost := 2 ^ rail.val })) ∧ u = { s with sys := u.sys } ∧
      u.sys.causes = s.sys.causes ∧ u.sys.railLostAt = some s.tick := by
  change ∃ u : State, execRailLost rail s = _ ∧ _
  unfold execRailLost
  extract_lets runs s₁ s₂
  have hruns : runs = true := by simp [runs, hheld, hasleep, hrail]
  have hs₂ : s₂ = (s₁.modSys (fun y => { y with railLostAt := some s.tick })).resetFor 3 := if_pos hruns
  have hasleep₂ : s₂.asleep = false := by
    rw [hs₂]
    simp only [State.asleep]
    have h := Sys.afterReset_dormant (s := s₁) hasleep
    exact congrArg (fun d => match d with | .asleep _ => true | _ => false) h
  refine ⟨s₁.modSys (fun y => { y with railLostAt := some s.tick }), ?_, rfl, rfl, rfl⟩
  rw [if_neg (by simp [hasleep₂]), hs₂]
  refine congrArg Host.Outcome.next (State.modSys_congr ?_)
  have hnone : bit 0 rail.val = false := by simp [bit]
  change ({ Sys.afterReset _ with railsLost := if bit 0 rail.val then 0 else 0 + 2 ^ rail.val } : Sys) = _
  rw [hnone, Nat.zero_add]
  rfl

theorem exec_clockReset {s : State} {t₀ : Nat} (hheld : s.sys.held = false) (hlost : s.sys.rootLostAt = some t₀) (ht : t₀ + 8000 ≤ s.tick) :
    exec .clockReset s = .next (s.resetFor 7) := by
  change execClockReset s = _
  simp [execClockReset, hlost, hheld, ht]

theorem leastCause_eq {k : Nat} {l : List Nat} (hk : k ∈ l) (h7 : k ≤ 7) (hle : ∀ j ∈ l, k ≤ j) : leastCause l = k := by
  have hfold : ∀ (l : List Nat) (a : Nat), k ≤ a → (∀ j ∈ l, k ≤ j) → (k = a ∨ k ∈ l) → l.foldl min a = k := by
    intro l
    induction l with
    | nil => intro a _ _ h; exact (h.resolve_right List.not_mem_nil).symm
    | cons x l ih =>
      intro a ha hl h
      have hx : k ≤ x := hl x (List.mem_cons_self ..)
      refine ih (min a x) (le_min ha hx) (fun j hj => hl j (List.mem_cons_of_mem _ hj)) ?_
      rcases h with rfl | h
      · exact .inl (min_eq_left hx).symm
      · rcases List.mem_cons.1 h with rfl | h
        · exact .inl (min_eq_right ha).symm
        · exact .inr h
  exact hfold l 7 h7 hle (.inr hk)

theorem exec_resetRelease_ready {s : State} (hheld : s.sys.held = true) (hperst : s.sys.perstLow = false) (hpin : s.sys.sysResetLow = false)
    (hlock : bit s.sys.pllLock 0 = true) (hasleep : s.asleep = false) (hrails : s.sys.railsOk = 1023) (hlost : s.sys.railLostAt = none)
    (hcauses : s.sys.causes ≠ []) : exec .resetRelease s = .next ({ s with tick := 0 }.modSys (fun y => { y with
      held := false, kind := leastCause y.causes, causes := [], railLostAt := none })) := by
  change execResetRelease s = _
  simp only [execResetRelease, hlost]
  rw [if_neg (by simp [hheld, hperst, hpin, hlock, hasleep, hrails])]
  simp [State.modSys, hcauses]

/-- An image written at the base of slot 0 in whole stands there (R409). -/
theorem Sys.program_slot0 {y : Sys} {b : List Byte} (hb : b.length = 256) (hslot : y.slot0.length = 256) :
    y.program (0x100000, b) = { y with slot0 := b } := by
  simp [Sys.program, putRegion, hb, overlay, hslot, List.take_of_length_le hb.le, List.drop_of_length_le hslot.le]

end Sys2Proof.Machine

open Sys2Proof Sys2Proof.Machine

/-- Settles O10: each event by the lemma on its command, and each reset of the device by what one leaves. -/
theorem dormantAndResetHoldAndRelease : Obligations.DormantAndResetHoldAndRelease := by
  refine ⟨?_, ?_, ?_, ?_, ?_, fun s t₀ h hn ht => exec_wakePwrOn h hn ht, ?_, fun s ns h => exec_resetPins_short h, ?_, ?_,
    ?_,
    ?_, ?_, ?_, ?_, ?_, ?_, ?_, ?_, ?_⟩
  · intro s r c h hthr hdir hn hlive hfir haxis harm hshadow
    rw [exec_sysEnterDormant_atOnce h, effSysEnterDormant_quiet hthr hdir hn (by exact hlive) (by exact hfir) (by exact haxis) (by exact harm) (by exact hshadow)]
    rfl
  · intro s t₀ h ht
    obtain ⟨o, ho⟩ := s.tellLow_frame
    refine ⟨_, exec_dormantOutputsOff h ht, ?_⟩
    rw [ho]
    refine ⟨rfl, rfl, ?_, ?_, ?_, ?_, rfl, rfl, rfl, rfl⟩
    · exact State.running_of_outputsOff (.inl rfl)
    · exact State.fireEn_of_not_running (State.running_of_outputsOff (.inl rfl))
    · exact State.roleLead_of_not_running (State.running_of_outputsOff (.inl rfl))
    · exact State.emit_out_of_outputsOff rfl
  · intro s t₀ h ht
    exact ⟨_, exec_pwrOnFall h ht, rfl, rfl, rfl, rfl, rfl, rfl, rfl, rfl, rfl⟩
  · intro s t₀ f n h hf hn
    refine congrArg Host.Outcome.next (if_pos ?_)
    simp [State.asleep_of h, hf, hn]
  · intro s f n hn
    exact congrArg Host.Outcome.next (if_neg (by simp [Nat.not_le.2 hn]))
  · intro s ns h
    exact ⟨_, exec_perstAssert_long h, rfl, rfl, rfl, rfl, rfl, rfl, rfl, rfl, rfl, rfl⟩
  · intro s ns h
    exact ⟨_, exec_sysResetAssert_long h, rfl, rfl, rfl, rfl, rfl, rfl, rfl, rfl⟩
  · intro s
    exact ⟨_, rfl, rfl, rfl, rfl, rfl, rfl, rfl, rfl, rfl, rfl⟩
  · intro s hasleep hwake hrails
    refine ⟨_, exec_powerUp_absent hasleep hwake hrails, rfl, rfl, ?_, rfl, rfl⟩
    exact Sys.railsIn_all s.tick (by rw [hrails]; decide)
  · intro s hasleep hrails
    refine ⟨_, exec_powerUp_present hrails, rfl, ?_, rfl, fun free pin => ?_⟩
    · exact Sys.railsIn_all s.tick (by rw [hrails]; decide)
    · have hdown : s.sys.pulledDown = true := by simp [Sys.pulledDown, hrails, bit]
      simp [State.pinLevel, hdown]
  · intro s rail hheld hasleep hrail
    obtain ⟨u, e, hu, hcauses, hlost⟩ := exec_railLost_running hheld hasleep hrail
    refine ⟨_, e, ?_, rfl, ?_, hlost, rfl⟩
    · have hcleared : u.cleared = s.cleared := by rw [hu]; rfl
      rw [← hcleared]
      rfl
    · exact congrArg (· ++ [3]) hcauses
  · intro s t₀ hheld hlost ht
    exact ⟨_, exec_clockReset hheld hlost ht, rfl, rfl, rfl, rfl⟩
  · intro s st hpin hasleep
    exact congrArg Host.Outcome.next (if_pos (by simp [hpin, hasleep]))
  · intro s hperst hpin hasleep hlock
    exact congrArg Host.Outcome.next (if_neg (by simp [hperst, hpin, hasleep, hlock]))
  · intro s hheld hperst hpin hlock hasleep hrails hlost k hk h7 hle
    refine ⟨_, exec_resetRelease_ready hheld hperst hpin hlock hasleep hrails hlost (List.ne_nil_of_mem hk), rfl, rfl, rfl, leastCause_eq hk h7 hle, rfl, hrails⟩
  · intro s hrails
    exact if_pos (by simp [hrails])
  · intro s l h
    change execJtagTrst l s = _
    rcases h with h | rfl
    · simp [execJtagTrst, h]
    · exact congrArg Host.Outcome.next (ite_self s)
  · intro s b hpin hb hslot
    change execJtagTrst _ s = _
    rw [execJtagTrst, if_pos hpin]
    exact congrArg Host.Outcome.next (State.modSys_congr (Sys.program_slot0 hb hslot))

end

section
/-! Loss of a PLL (R404), the boot ROM (R409 to R413) and the watchdog (R387, R407). -/
namespace Sys2Proof.Machine

theorem foldl_eq_self {α : Type} {f : State → α → State} {l : List α} {s : State} (h : ∀ x ∈ l, f s x = s) : l.foldl f s = s :=
  List.foldlRecOn (motive := fun t => t = s) l f rfl fun t ht x hx => by rw [ht, h x hx]

/-- With no lane locked, the SerDes PLL takes the block locks of the Chezatin link alone (R404). -/
theorem State.lanesLost_of_unlocked {s : State} (h : ∀ l < 64, (s.lane l).locked = false) :
    s.lanesLost = s.modTwn (fun t => { t with locks := {}, link := if t.link = .off then .off else .train }) := by
  unfold State.lanesLost
  dsimp only
  rw [foldl_eq_self fun l hl => if_neg (by simp [h l (List.mem_range.1 hl)])]

/-- What a port down leaves of its port (R360, R404). -/
def TPort.down (g : TPort) : TPort :=
  { g with linkUp := false, delayReq := none, pdelayReq := none, pdelayResp := none, asked := none, again := [] }

theorem State.ethDown_of_unused {s : State} {port : Nat} (h : ∀ n < 2, (s.inst n).following = false ∧ (s.inst n).uses port = false) :
    s.ethDown port = s.modPtpPort port TPort.down := by
  unfold State.ethDown
  refine foldl_eq_self fun n hn => ?_
  have hn2 : n < 2 := by
    simp at hn
    omega
  obtain ⟨hfollow, huses⟩ := h n hn2
  have hinst : ∀ f, (s.modPtpPort port f).inst n = s.inst n := fun f => rfl
  simp [hinst, hfollow, huses]

/-- One state comes from another by what was sent, the host interface, the event block and the time block. -/
def State.TimeOnly (s t : State) : Prop := t = { s with out := t.out, hif := t.hif, evt := t.evt, tim := t.tim }

theorem State.TimeOnly.trans {s t u : State} (h : s.TimeOnly t) (k : t.TimeOnly u) : s.TimeOnly u := by
  unfold State.TimeOnly at *
  rw [k, h]

theorem State.TimeOnly.of_modSys {s t : State} {f : Sys → Sys} (h : (s.modSys f).TimeOnly t) :
    t = { s with out := t.out, sys := t.sys, hif := t.hif, evt := t.evt, tim := t.tim } := by
  have hsys : t.sys = f s.sys := congrArg State.sys h
  rw [hsys]
  exact h

theorem State.raise_timeOnly (s : State) (code unit : Nat) (args : List Byte) :
    s.TimeOnly (s.raise code unit args) ∧ (s.raise code unit args).tim = s.tim := by
  refine ⟨?_, s.raise_tim ..⟩
  obtain ⟨o, g, m, w, e, h⟩ := s.raise_eq code unit args
  rw [h]
  rfl

theorem State.loseMaster_timeOnly (s : State) (n cause : Nat) :
    s.TimeOnly (s.loseMaster n cause) ∧ (s.loseMaster n cause).tim.ports = s.tim.ports := by
  unfold State.loseMaster
  extract_lets i p s₁ s₂
  have h₂ : s.TimeOnly s₂ ∧ s₂.tim.ports = s.tim.ports := by
    simp only [s₂]
    split <;> exact ⟨rfl, rfl⟩
  obtain ⟨f, t⟩ := s₂.raise_timeOnly 0x0D02 i.slavePort ([n, cause, 0, 0] ++ leInt 4 (satSigned 32 (i.theta.fdiv 65536)) ++ leBytes 8 (i.masterId / 65536))
  exact ⟨h₂.1.trans f, (congrArg Tim.ports t).trans h₂.2⟩

theorem State.changePorts_timeOnly (s : State) (n : Nat) (f : Inst → Inst) :
    s.TimeOnly (s.changePorts n f) ∧ (s.changePorts n f).tim.ports = s.tim.ports := by
  unfold State.changePorts
  dsimp only
  split <;> exact ⟨rfl, rfl⟩

/-- A port down changes the instances, and of the ports its own alone. -/
theorem State.ethDown_timeOnly (s : State) (port : Nat) :
    s.TimeOnly (s.ethDown port) ∧ (s.ethDown port).tim.ports = (s.modPtpPort port TPort.down).tim.ports := by
  unfold State.ethDown
  refine List.foldlRecOn (motive := fun t => s.TimeOnly t ∧ t.tim.ports = (s.modPtpPort port TPort.down).tim.ports) _ _ ⟨rfl, rfl⟩ ?_
  intro t ⟨ht, hp⟩ n _
  split
  · exact ⟨ht.trans (t.loseMaster_timeOnly n 2).1, (t.loseMaster_timeOnly n 2).2.trans hp⟩
  · split
    · exact ⟨ht.trans (t.changePorts_timeOnly n _).1, (t.changePorts_timeOnly n _).2.trans hp⟩
    · exact ⟨ht, hp⟩

theorem State.ptpPort_congr {s t : State} (h : t.tim.ports = s.tim.ports) (port : Nat) : t.ptpPort port = s.ptpPort port := by
  simp only [State.ptpPort, h]

theorem State.ethDown_both (s : State) : s.TimeOnly ((s.ethDown 0).ethDown 1) ∧ (((s.ethDown 0).ethDown 1).ptpPort 0).linkUp = false ∧
    (((s.ethDown 0).ethDown 1).ptpPort 1).linkUp = false := by
  obtain ⟨f₀, p₀⟩ := s.ethDown_timeOnly 0
  obtain ⟨f₁, p₁⟩ := (s.ethDown 0).ethDown_timeOnly 1
  refine ⟨f₀.trans f₁, ?_, ?_⟩
  · rw [State.ptpPort_congr p₁, State.modPtpPort, State.ptpPort_setPtpPort_ne _ (by decide), State.ptpPort_congr p₀, State.ptpPort_modPtpPort]
    rfl
  · rw [State.ptpPort_congr p₁, State.ptpPort_modPtpPort]
    rfl

/-! The boot ROM. -/

/-- One state comes from another by what was sent, the system block, the host interface and the event block. -/
def State.HostOnly (s t : State) : Prop := t = { s with out := t.out, sys := t.sys, hif := t.hif, evt := t.evt }

theorem State.HostOnly.trans {s t u : State} (h : s.HostOnly t) (k : t.HostOnly u) : s.HostOnly u := by
  unfold State.HostOnly at *
  rw [k, h]

theorem State.raise_hostOnly (s : State) (code unit : Nat) (args : List Byte) : s.HostOnly (s.raise code unit args) := by
  obtain ⟨o, g, m, w, e, h⟩ := s.raise_eq code unit args
  rw [h]
  rfl

/-- What the boot ROM chose stands when HIF_READY rises (R35, R411, R412). -/
theorem State.hifRise_frame (s : State) : s.HostOnly s.hifRise ∧ s.hifRise.hif.ready = true ∧ s.hifRise.hif.fwAuth = s.hif.fwAuth ∧
    s.hifRise.hif.fwFallback = s.hif.fwFallback ∧ s.hifRise.sys.reason0 = s.sys.reason0 ∧ s.hifRise.sys.imageRun = s.sys.imageRun ∧
    s.hifRise.sys.runHeader = s.sys.runHeader := by
  unfold State.hifRise
  extract_lets s₁ s₂ s₃
  split
  · rw [State.raise_hif_ready, State.raise_hif_fwAuth, State.raise_hif_fwFallback, State.raise_sys]
    exact ⟨State.HostOnly.trans (t := s₃.modSys (fun y => { y with fallbackDue := false })) rfl (State.raise_hostOnly ..), rfl, rfl, rfl, rfl, rfl, rfl⟩
  · exact ⟨rfl, rfl, rfl, rfl, rfl, rfl, rfl⟩

theorem State.hifRiseIfUp_frame (s : State) : s.HostOnly s.hifRiseIfUp ∧ s.hifRiseIfUp.hif.ready = (!s.hif.linkDown || s.hif.ready) ∧
    s.hifRiseIfUp.hif.fwAuth = s.hif.fwAuth ∧ s.hifRiseIfUp.hif.fwFallback = s.hif.fwFallback ∧ s.hifRiseIfUp.sys.reason0 = s.sys.reason0 ∧
    s.hifRiseIfUp.sys.imageRun = s.sys.imageRun ∧ s.hifRiseIfUp.sys.runHeader = s.sys.runHeader := by
  unfold State.hifRiseIfUp
  split
  · next h => exact ⟨rfl, by simp [h], rfl, rfl, rfl, rfl, rfl⟩
  · next h =>
    obtain ⟨f, hready, hrest⟩ := s.hifRise_frame
    exact ⟨f, by simp [hready, h], hrest⟩

/-- The state in which the boot ROM has read slot 0, and slot 1 where that failed, with the reasons and the image it runs (R409 to R412). -/
def State.booting (s : State) (r₀ r₁ image : Nat) : State :=
  let u := if r₀ = 0 then s.emit (s.flashRead 0 s.sys.slot0) else (s.emit (s.flashRead 0 s.sys.slot0)).emit (s.flashRead 1 s.sys.slot1)
  (u.modSys (fun y => { y with
    reason0 := r₀, reason1 := r₁, imageRun := image, fwAuthAt := some s.tick, fallbackDue := image != 0, memDone := image == 2,
    runHeader := if image = 0 then y.slot0.take 256 else if image = 1 then y.slot1.take 256 else [] })).modHif
      (fun h => { h with fwAuth := true, fwFallback := image != 0 })

theorem State.booting_hostOnly (s : State) (r₀ r₁ image : Nat) : s.HostOnly (s.booting r₀ r₁ image) := by
  unfold State.booting
  split <;> rfl

/-- The image that runs: that of slot 0, else of slot 1, else recovery (R410 to R412). -/
def bootChoice (r₀ r₁ : Nat) : Nat := if r₀ = 0 then 0 else if r₁ = 0 then 1 else 2

theorem bootChoice_slot1 {r₀ : Nat} (h : r₀ ≠ 0) : bootChoice r₀ 0 = 1 := by simp [bootChoice, h]

theorem bootChoice_recovery {r₀ r₁ : Nat} (h₀ : r₀ ≠ 0) (h₁ : r₁ ≠ 0) : bootChoice r₀ r₁ = 2 := by simp [bootChoice, h₀, h₁]

theorem exec_bootImageAuthenticated {s : State} (hheld : s.sys.held = false) (hauth : s.hif.fwAuth = false) {unread : Fin 4} {r₀ r₁ : Nat}
    (h₀ : (if bit unread.val 0 then 1 else s.imageReason s.sys.slot0) = r₀)
    (h₁ : (if r₀ = 0 then 0 else if bit unread.val 1 then 1 else s.imageReason s.sys.slot1) = r₁) :
    exec (.bootImageAuthenticated unread) s = .next (if bootChoice r₀ r₁ = 2 then (s.booting r₀ r₁ (bootChoice r₀ r₁)).hifRiseIfUp
      else s.booting r₀ r₁ (bootChoice r₀ r₁)) := by
  change execBootImageAuthenticated unread s = _
  unfold execBootImageAuthenticated
  rw [if_neg (by simp [hheld, hauth])]
  extract_lets reason q₀ q₁ image s₁ s₂ s₃ s₄
  have hq₀ : q₀ = r₀ := h₀
  have hq₁ : q₁ = r₁ := by
    simp only [q₁, hq₀]
    exact h₁
  have himage : image = bootChoice r₀ r₁ := by simp only [image, hq₀, hq₁, bootChoice]
  have hs₂ : s₂ = if r₀ = 0 then s.emit (s.flashRead 0 s.sys.slot0) else (s.emit (s.flashRead 0 s.sys.slot0)).emit (s.flashRead 1 s.sys.slot1) := by
    simp only [s₂, hq₀]
    rfl
  have htick : s₂.tick = s.tick := by
    rw [hs₂]
    split <;> rfl
  have hs₄ : s₄ = s.booting r₀ r₁ (bootChoice r₀ r₁) := by
    simp only [s₄, s₃, htick, hq₀, hq₁, himage]
    rw [hs₂]
    rfl
  rw [himage, hs₄]

/-- What a device runs once the boot ROM is done, whichever image it is. -/
theorem State.booted_frame (s : State) (r₀ r₁ image : Nat) :
    let t := if image = 2 then (s.booting r₀ r₁ image).hifRiseIfUp else s.booting r₀ r₁ image
    s.HostOnly t ∧ t.hif.fwAuth = true ∧ t.sys.reason0 = r₀ ∧ t.sys.imageRun = image := by
  have hboot : (s.booting r₀ r₁ image).hif.fwAuth = true ∧ (s.booting r₀ r₁ image).sys.reason0 = r₀ ∧ (s.booting r₀ r₁ image).sys.imageRun = image :=
    ⟨rfl, rfl, rfl⟩
  dsimp only
  split
  · obtain ⟨f, -, hauth, -, hreason, himage, -⟩ := (s.booting r₀ r₁ image).hifRiseIfUp_frame
    exact ⟨(s.booting_hostOnly ..).trans f, hauth.trans hboot.1, hreason.trans hboot.2.1, himage.trans hboot.2.2⟩
  · exact ⟨s.booting_hostOnly .., hboot⟩

/-! Memory training (R413). -/

theorem State.hifRiseIfUp_of_down {s : State} (h : s.hif.linkDown = true) : s.hifRiseIfUp = s := if_pos h

theorem maskOf_false (n : Nat) {p : Nat → Bool} (h : ∀ k, p k = false) : maskOf n p = 0 := by
  unfold maskOf
  exact List.foldlRecOn (motive := fun a => a = 0) _ _ rfl fun a ha k _ => by simp [ha, h, b2n]

theorem exec_dramTrainingDone_down {s : State} (hauth : s.hif.fwAuth = true) (hmem : s.sys.memDone = false) (hlink : s.hif.linkDown = true)
    {trained : Fin 16} {named ok : Nat} (hnamed : (if s.sys.boardOk then s.sys.namedChannels else 0) = named)
    (hok : maskOf 4 (fun c => bit named c && bit trained.val c) = ok) {u : State}
    (hu : u = s.modSys (fun y => { y with memDone := true, boardBad := !y.boardOk, memTrained := ok, memGib := y.boardGib ok,
                                          memFailed := maskOf 4 (fun c => bit named c && !bit trained.val c) })) :
    exec (.dramTrainingDone trained) s = .next (if ok = 0 then u.blockFailed 0 else u) := by
  change execDramTrainingDone trained s = _
  unfold execDramTrainingDone
  dsimp only
  rw [if_neg (by simp [hauth, hmem]), hnamed, hok, ← hu]
  have hdown : u.hif.linkDown = true := by rw [hu]; exact hlink
  split
  · exact congrArg Host.Outcome.next (State.hifRiseIfUp_of_down hdown)
  · exact congrArg Host.Outcome.next (State.hifRiseIfUp_of_down hdown)

/-! The watchdog (R387, R407). -/

/-- One state comes from another by what was sent or is to leave, the host interface, the event block and the twin block, and the twin is as
healthy. -/
def State.TwinSends (s t : State) : Prop :=
  t = { s with out := t.out, hif := t.hif, evt := t.evt, twn := t.twn, outbox := t.outbox } ∧ t.twn.healthy = s.twn.healthy

theorem State.TwinSends.trans {s t u : State} (h : s.TwinSends t) (k : t.TwinSends u) : s.TwinSends u := by
  obtain ⟨h, hh⟩ := h
  obtain ⟨k, hk⟩ := k
  refine ⟨?_, hk.trans hh⟩
  rw [k, h]

theorem State.reportRelinquish_twinSends (s : State) (cause : Nat) (gone : Bool) : s.TwinSends (s.reportRelinquish cause gone) := by
  refine ⟨?_, congrArg Twn.healthy (s.raise_twn ..)⟩
  obtain ⟨o, g, m, w, e, h⟩ := s.raise_eq 0x0E03 0 ([cause, b2n gone, s.twn.partnerTap % 128, 0] ++ leBytes 4 s.sys.failed ++ s.lineBytes ++ [0, 0])
  rw [State.reportRelinquish, h]
  rfl

theorem State.sendTwin_twinSends (s : State) (r : TwinRec) : s.TwinSends (s.sendTwin r) := by
  obtain ⟨o, h⟩ := s.sendTwin_eq r
  rw [h]
  exact ⟨rfl, rfl⟩

theorem State.sendTap_twinSends (s : State) (badIn badPin : Bool) : s.TwinSends (s.sendTap badIn badPin) := by
  unfold State.sendTap
  extract_lets w u
  have hu : s.TwinSends u := State.TwinSends.trans (t := s.emit (.tapPin (spoilTap badPin w))) ⟨rfl, rfl⟩ (State.sendTwin_twinSends ..)
  exact hu.trans ⟨rfl, rfl⟩

theorem State.relinquish_twinSends (s : State) (cause : Nat) : s.TwinSends (s.relinquish cause) := by
  unfold State.relinquish
  split
  · exact s.reportRelinquish_twinSends ..
  · split
    · extract_lets u
      have hu : s.TwinSends u := ⟨rfl, rfl⟩
      exact hu.trans ((u.sendTwin_twinSends _).trans ((State.sendTap_twinSends ..).trans (State.reportRelinquish_twinSends ..)))
    · exact s.reportRelinquish_twinSends ..

/-- The watchdog declares its fault once; a lead then acts under R387 each time. -/
theorem State.watchdogFault_frame (s : State) :
    s.watchdogFault = { s with out := s.watchdogFault.out, hif := s.watchdogFault.hif, evt := s.watchdogFault.evt, twn := s.watchdogFault.twn,
                               outbox := s.watchdogFault.outbox } ∧
      s.watchdogFault.twn.healthy = (s.twn.healthy && bit s.twn.faults 4) := by
  unfold State.watchdogFault State.declareFault
  cases hbit : bit s.twn.faults 4 with
  | true =>
    rw [Bool.and_true, Bool.true_and]
    split
    · exact s.relinquish_twinSends 4
    · exact ⟨rfl, rfl⟩
  | false =>
    rw [Bool.and_false, Bool.false_and, if_neg Bool.false_ne_true, if_neg Bool.false_ne_true]
    extract_lets u
    split
    · obtain ⟨f, h⟩ := u.relinquish_twinSends 4
      exact ⟨f, h⟩
    · exact ⟨rfl, rfl⟩

theorem exec_watchdogRestart {s : State} (hrun : s.running = true) (hauth : s.hif.fwAuth = true) : exec .watchdogRestart s =
    .next (s.watchdogFault.hifFall.modSys (fun y => { y with
      wdog := satAdd 16 y.wdog 1, restarting := true, slotBad := !s.watchdogFault.hifFall.bootedOk })) := by
  change execWatchdogRestart s = _
  exact if_neg (by simp [hrun, hauth])

theorem exec_pllLockLoss_serdes {s : State} (h : bit s.sys.pllLock 2 = true) : exec (.pllLockLoss 2) s = .next (s.modSys (fun y => { y with
    pllLock := y.pllLock - 4, pllLoss := if bit y.pllLoss 2 then y.pllLoss else y.pllLoss + 4, serLostAt := some s.tick })).lanesLost :=
  if_neg (by simp [h])

theorem exec_pllLockLoss_ethernet {s : State} (h : bit s.sys.pllLock 3 = true) : exec (.pllLockLoss 3) s = .next (((s.modSys (fun y => { y with
    pllLock := y.pllLock - 8, pllLoss := if bit y.pllLoss 3 then y.pllLoss else y.pllLoss + 8 })).ethDown 0).ethDown 1) :=
  if_neg (by simp [h])

/-- What the fault and the fall of HIF_READY change. -/
theorem State.watchdogFault_fall_frame (s : State) (g : Sys → Sys) :
    let t := s.watchdogFault.hifFall.modSys g
    t = { s with out := t.out, sys := t.sys, hif := t.hif, evt := t.evt, twn := t.twn, outbox := t.outbox } := by
  intro t
  exact congrArg (fun u : State => { u with sys := t.sys, hif := t.hif, evt := t.evt }) s.watchdogFault_frame.1

theorem State.bootedOk_congr {s t : State} (h : t.sys = s.sys) : t.bootedOk = s.bootedOk := by
  simp only [State.bootedOk, State.imageReason, h]

end Sys2Proof.Machine

open Sys2Proof Sys2Proof.Machine

/-- Settles O11: each loss by what falls with its PLL, the boot ROM's choice by its reasons, and the watchdog's restart by its fault and the fall
of HIF_READY. -/
theorem pllLossBootAndWatchdog : Obligations.PllLossBootAndWatchdog := by
  refine ⟨?_, ?_, ?_, ?_, ?_, ?_, ?_, ?_⟩
  · intro s hlock hloss
    change execPllLockLoss 1 s = _
    rw [execPllLockLoss, if_neg (by simp [hlock])]
    exact congrArg Host.Outcome.next (State.modSys_congr (by simp [hloss]))
  · intro s hlock hloss hlanes
    rw [exec_pllLockLoss_serdes hlock, State.lanesLost_of_unlocked]
    · rw [State.modSys_congr (g := fun y => { y with pllLock := y.pllLock - 4, pllLoss := y.pllLoss + 4, serLostAt := some s.tick }) (by simp [hloss])]
    · exact hlanes
  · intro s hlock hloss hinst
    rw [exec_pllLockLoss_ethernet hlock]
    have huses : ∀ p < 2, ∀ n < 2, (s.inst n).following = false ∧ (s.inst n).uses p = false := fun p hp n hn => ⟨(hinst n hn).1, (hinst n hn).2 p hp⟩
    rw [State.ethDown_of_unused (port := 0), State.ethDown_of_unused (port := 1)]
    · rw [State.modSys_congr (g := fun y => { y with pllLock := y.pllLock - 8, pllLoss := y.pllLoss + 8 }) (by simp [hloss])]
      rfl
    · exact huses 1 (by decide)
    · exact huses 0 (by decide)
  · intro s hlock
    let u : State := s.modSys (fun y => { y with pllLock := y.pllLock - 8, pllLoss := if bit y.pllLoss 3 then y.pllLoss else y.pllLoss + 8 })
    obtain ⟨f, h₀, h₁⟩ := u.ethDown_both
    exact ⟨_, exec_pllLockLoss_ethernet hlock, f.of_modSys, h₀, h₁⟩
  · intro s hheld hauth
    obtain ⟨r₀, hr₀⟩ : ∃ r, s.imageReason s.sys.slot0 = r := ⟨_, rfl⟩
    obtain ⟨r₁, hr₁⟩ : ∃ r, s.imageReason s.sys.slot1 = r := ⟨_, rfl⟩
    rw [hr₀, hr₁]
    refine ⟨?_, ?_⟩
    · obtain ⟨f, -, hreason, himage⟩ := s.booted_frame 1 r₁ (bootChoice 1 r₁)
      exact ⟨_, exec_bootImageAuthenticated hheld hauth (if_pos (by decide)) (by simp [bit, hr₁]), f, hreason, himage⟩
    · obtain ⟨f, hfw, hreason, -⟩ := s.booted_frame r₀ (if r₀ = 0 then 0 else r₁) (bootChoice r₀ (if r₀ = 0 then 0 else r₁))
      refine ⟨_, exec_bootImageAuthenticated hheld hauth (by simp [bit, hr₀]) (by simp [bit, hr₁]), f, hfw, hreason, fun h₀ => ?_, fun h₀ h₁ => ?_, fun h₀ h₁ => ?_⟩
      · subst h₀
        rfl
      · rw [if_neg h₀, h₁, bootChoice_slot1 h₀, if_neg (by decide)]
        simp only [State.booting, if_neg h₀]
        rfl
      · rw [if_neg h₀, bootChoice_recovery h₀ h₁, if_pos rfl]
        obtain ⟨-, hready, -, hfallback, -, himage, hheader⟩ := (s.booting r₀ r₁ 2).hifRiseIfUp_frame
        refine ⟨himage, hheader, hfallback, hready.trans ?_⟩
        simp only [State.booting, if_neg h₀]
        rfl
  · intro s u a ok hauth hmem hlink hboard hok hu
    exact exec_dramTrainingDone_down hauth hmem hlink (if_pos hboard) hok.symm (hu.trans (State.modSys_congr (by simp [hboard])))
  · intro s a hauth hmem hlink hboard hfailed
    rw [exec_dramTrainingDone_down hauth hmem hlink (named := 0) (ok := 0) (by rw [hboard]; rfl) (maskOf_false 4 (by simp [bit])) rfl, if_pos rfl]
    exact congrArg Host.Outcome.next (State.modSys_congr (s := s) (f := fun y => { y with
      memDone := true, boardBad := !s.sys.boardOk, memTrained := 0, memGib := y.boardGib 0, memFailed := maskOf 4 (fun c => bit 0 c && !bit a.val c),
      failed := if bit y.failed 0 then y.failed else y.failed + 2 ^ 0 }) (by
        simp [hfailed, hboard, Sys.boardGib, maskOf_false 4 (p := fun c => bit 0 c && !bit a.val c) (by simp [bit])]))
  · intro s hrun hauth
    obtain ⟨f, hhealthy⟩ := s.watchdogFault_frame
    have hsys : s.watchdogFault.sys = s.sys := by rw [f]
    refine ⟨_, exec_watchdogRestart hrun hauth, s.watchdogFault_fall_frame _, ?_, rfl, ?_, rfl, rfl, rfl, ?_, hhealthy⟩
    · exact congrArg (fun y : Sys => satAdd 16 y.wdog 1) hsys
    · exact (congrArg Sys.fwJob hsys :)
    · exact congrArg (!·) (State.bootedOk_congr hsys)

end

section
/-! The Rim port, the Gong bus, the I²C masters and the GPIO pins (R421 to R433). -/
namespace Sys2Proof.Machine

/-! The commands commit their effects. -/

section
variable {s : State} {r : Fin 4} {c : Cmd}

theorem exec_rimConfig_atOnce (h : s.atOnce r 0x1001 c = true) (d : HostRead) :
    exec (.rimConfig r d) s = .next (settle c.id (effRimConfig { c with host := d } (s.begun r c d))) := by
  rw [← startCommand_atOnce h]; rfl

theorem exec_gngConfig_atOnce (h : s.atOnce r 0x1002 c = true) :
    exec (.gngConfig r) s = .next (settle c.id (effGngConfig { c with host := .ok [] } (s.begun r c (.ok [])))) := by
  rw [← startCommand_atOnce h]; rfl

theorem exec_gpioConfig_atOnce (h : s.atOnce r 0x1003 c = true) :
    exec (.gpioConfig r) s = .next (settle c.id (effGpioConfig { c with host := .ok [] } (s.begun r c (.ok [])))) := by
  rw [← startCommand_atOnce h]; rfl

variable {d : HostRead}

/-- RIM_CONFIG that disables the window stages an empty one (R424). -/
theorem effRimConfig_disable (hflags : u8 c.packet 8 = 2) (hkind : u8 c.packet 9 ≤ 12) (haddr : u64 c.packet 16 = 0) :
    effRimConfig { c with host := d } s =
      good (s.modRim (fun m => { m with next := some { val := (false, true, u8 c.packet 9, []), tick := s.tick } })) := by
  have h0 : bit 2 0 = false := rfl
  have h1 : bit 2 1 = true := rfl
  simp only [effRimConfig, hflags, haddr, h0, h1]
  rw [if_neg (by simp [hkind]), if_pos (by rfl)]

theorem effGngConfig_receiver (hdev : u8 c.packet 8 ≤ 15) (hflags : u8 c.packet 9 = 1) (hdelay : u32 c.packet 12 ≤ 2 ^ 20) (hruns : s.fir.runs = false) :
    effGngConfig { c with host := d } s = good (s.modGng (fun g => { g with
      dev := u8 c.packet 8, rxEn := true, txInv := false, rxInv := false, linkDelay := u32 c.packet 12, kRun := 0 })) := by
  have h0 : bit 1 0 = true := rfl
  have h1 : bit 1 1 = false := rfl
  have h2 : bit 1 2 = false := rfl
  simp only [effGngConfig, hflags, hruns, h0, h1, h2, Bool.and_true]
  rw [if_neg (by omega), if_neg (by simp)]

theorem effGpioConfig_free (hpin : u8 c.packet 8 ≤ 31) (hmode : u8 c.packet 9 < 3) (hflags : u8 c.packet 10 = 1)
    (hheld : s.pinHeld (u8 c.packet 8) = false) (hold : (s.pin (u8 c.packet 8)).mode ≠ 3) : effGpioConfig { c with host := d } s =
      good (s.setPin (u8 c.packet 8) { s.pin (u8 c.packet 8) with
        mode := u8 c.packet 9, leadOnly := true, period := u32 c.packet 12, dutyCfg := u16 c.packet 16, pwmAt := none }) := by
  have h0 : bit 1 0 = true := rfl
  simp only [effGpioConfig, hflags, hheld, h0, if_neg hold]
  rw [if_neg (by omega), if_neg (by simp [hold])]

end

/-! The Rim port. -/

theorem State.rimData_of_released {s : State} {cs we : Bool} (h : cs = true ∨ we = false ∨ s.running = false) (a : Fin 512) : s.rimData cs we a = none :=
  if_neg (by rcases h with h | h | h <;> simp [h])

theorem exec_rimWrite_inbox {s : State} (hrun : s.running = true) (hen : s.rim.writesEn = true) {a : Fin 512} (ha : a.val < 64) (v : BitVec 32) :
    exec (.rimWrite a v) s = .next (s.modRim (fun m => { m with
      inboxNext := m.inboxNext ++ [(a.val, v)], accepted := (m.accepted + 1) % 2 ^ 16 })) := by
  refine congrArg Host.Outcome.next ((if_neg (by simp [hrun])).trans (if_pos (by simp [hen, ha])))

theorem exec_rimWrite_discarded {s : State} (hrun : s.running = true) {a : Fin 512} (h : s.rim.writesEn = false ∨ 64 ≤ a.val) (v : BitVec 32) :
    exec (.rimWrite a v) s = .next (s.modRim (fun m => { m with discarded := min (2 ^ 16 - 1) (m.discarded + 1) })) := by
  refine congrArg Host.Outcome.next ((if_neg (by simp [hrun])).trans (if_neg ?_))
  rcases h with h | h <;> simp [h]

theorem State.tickRim_inbox {s : State} (hwindow : s.rim.windowNext = none) {a : Nat} {v : BitVec 32} (hin : s.rim.inboxNext = [(a, v)]) :
    s.tickRim = s.modRim (fun m => { m with inbox := m.inbox.set 0 a v, inboxNext := [] }) := by
  simp [State.tickRim, hwindow, hin, State.modRim]

/-! The receiver of the Gong port (R427). -/

theorem exec_gongRxLock_on {s : State} (h : s.gng.rxEn = true) (l : List (Fin 3)) :
    exec (.gongRxLock l) s = .next (s.modGng (fun g => l.foldl (fun g c => g.char (gongChar c.val)) g)) :=
  congrArg Host.Outcome.next (if_pos h)

/-- A character counts a violation, and no other character counts. -/
theorem Gng.char_codeErr (g : Gng) (c : GongChar) : (g.char c).codeErr = if c = .violation then satAdd 16 g.codeErr 1 else g.codeErr := by
  unfold Gng.char
  dsimp only
  split <;> (repeat' split) <;> rfl

theorem gongChar_eq_violation_iff (c : Fin 3) : gongChar c.val = .violation ↔ c = 2 := by
  revert c
  decide

theorem Gng.foldl_char_codeErr (l : List (Fin 3)) (g : Gng) (h : g.codeErr < 2 ^ 16) :
    (l.foldl (fun g c => g.char (gongChar c.val)) g).codeErr = min (2 ^ 16 - 1) (g.codeErr + l.count 2) := by
  induction l generalizing g with
  | nil =>
    simp only [List.foldl_nil, List.count_nil]
    omega
  | cons c l ih =>
    have hchar := g.char_codeErr (gongChar c.val)
    simp only [gongChar_eq_violation_iff] at hchar
    by_cases hc : c = 2
    · rw [if_pos hc, satAdd] at hchar
      rw [List.foldl_cons, ih _ (by omega), hchar, hc, List.count_cons_self]
      omega
    · rw [if_neg hc] at hchar
      rw [List.foldl_cons, ih _ (by omega), hchar, List.count_cons_of_ne hc]

theorem Gng.foldl_gongChar (l : List (Fin 3)) (g : Gng) :
    l.foldl (fun g c => g.char (gongChar c.val)) g = (l.map (fun c => gongChar c.val)).foldl Gng.char g := List.foldl_map.symm

theorem Gng.char_comma {g : Gng} (h : g.rxLock = false) : g.char .comma =
    if g.kRun + 1 = 16 then { g with rxLock := true, kRun := 0, faultAges := [] } else { g with kRun := g.kRun + 1 } := by
  simp [Gng.char, h]

/-- K28.5 characters with no lock count on, up to the sixteenth (R427). -/
theorem Gng.foldl_comma {g : Gng} (hlock : g.rxLock = false) (n : Nat) (hn : g.kRun + n < 16) :
    (List.replicate n GongChar.comma).foldl Gng.char g = { g with kRun := g.kRun + n } := by
  induction n generalizing g with
  | zero => rfl
  | succ n ih =>
    rw [List.replicate_succ, List.foldl_cons, Gng.char_comma hlock, if_neg (by omega), ih (by exact hlock) (by simp only; omega)]
    simp only [Nat.add_assoc, Nat.add_comm 1]

theorem Gng.foldl_comma_lock {g : Gng} (hlock : g.rxLock = false) (hrun : g.kRun = 0) :
    (List.replicate 16 GongChar.comma).foldl Gng.char g = { g with rxLock := true, kRun := 0, faultAges := [] } := by
  rw [show List.replicate 16 GongChar.comma = List.replicate 15 .comma ++ [.comma] from rfl, List.foldl_append,
    Gng.foldl_comma hlock 15 (by omega), List.foldl_cons, List.foldl_nil, Gng.char_comma (by exact hlock), hrun, if_pos rfl]

/-- Characters under lock age the violations before them (R427). -/
theorem ages_step {l : List Nat} (h : ∀ a ∈ l, a + 1 < 256) : (l.map (· + 1)).filter (fun a => decide (a < 256)) = l.map (· + 1) :=
  List.filter_eq_self.2 fun b hb => by
    obtain ⟨a, ha, rfl⟩ := List.mem_map.1 hb
    exact decide_eq_true (h a ha)

theorem Gng.char_other {g : Gng} (hlock : g.rxLock = true) (hages : ∀ a ∈ g.faultAges, a + 1 < 256) (hfew : g.faultAges.length < 4) :
    g.char .other = { g with faultAges := g.faultAges.map (· + 1) } := by
  simp [Gng.char, hlock, ages_step hages, Nat.not_le.2 hfew]

/-- A violation with fewer than three before it, none 255 characters ago, keeps the lock (R427). -/
theorem Gng.char_violation_few {g : Gng} (hlock : g.rxLock = true) (hages : ∀ a ∈ g.faultAges, a + 1 < 256) (hfew : g.faultAges.length < 3) :
    (g.char .violation).rxLock = true ∧ (g.char .violation).faultAges = 0 :: g.faultAges.map (· + 1) := by
  simp [Gng.char, hlock, ages_step hages, Nat.not_le.2 hfew]

/-- The fourth violation within 256 characters takes the lock (R427). -/
theorem Gng.char_violation_fourth {g : Gng} (hlock : g.rxLock = true) (hages : ∀ a ∈ g.faultAges, a + 1 < 256) (hthree : 3 ≤ g.faultAges.length) :
    (g.char .violation).rxLock = false := by
  simp [Gng.char, hlock, ages_step hages, hthree]

theorem Gng.foldl_other {g : Gng} (hlock : g.rxLock = true) {a : Nat} (hages : g.faultAges = [a]) (n : Nat) (hn : a + n < 256) :
    (List.replicate n GongChar.other).foldl Gng.char g = { g with faultAges := [a + n] } := by
  induction n generalizing g a with
  | zero => rw [List.replicate_zero, List.foldl_nil, Nat.add_zero, ← hages]
  | succ n ih =>
    rw [List.replicate_succ, List.foldl_cons, Gng.char_other hlock (by simp [hages]; omega) (by simp [hages]), hages,
      ih (a := a + 1) (by exact hlock) rfl (by omega)]
    simp only [Nat.add_assoc, Nat.add_comm 1]

/-- A violation, at most 252 other characters, and three violations more are 4 within 256 characters: the lock is lost (R427). -/
theorem Gng.foldl_violations_unlock {g : Gng} (hlock : g.rxLock = true) (hages : g.faultAges = []) (n : Nat) (hn : n < 253) :
    (([.violation] ++ List.replicate n .other ++ [.violation, .violation, .violation] : List GongChar).foldl Gng.char g).rxLock = false := by
  simp only [List.foldl_append, List.foldl_cons, List.foldl_nil]
  obtain ⟨l₁, a₁⟩ := Gng.char_violation_few hlock (by simp [hages]) (by simp [hages])
  rw [hages] at a₁
  rw [Gng.foldl_other l₁ a₁ n (by omega), Nat.zero_add]
  obtain ⟨l₂, a₂⟩ := Gng.char_violation_few (g := { g.char .violation with faultAges := [n] }) l₁ (by simp; omega) (by simp)
  obtain ⟨l₃, a₃⟩ := Gng.char_violation_few l₂ (by simp [a₂]; omega) (by simp [a₂])
  exact Gng.char_violation_fourth l₃ (by simp [a₃, a₂]; omega) (by simp [a₃, a₂])

/-! The I²C masters (R431). -/

@[simp] theorem State.i2cM_setI2cM (s : State) (i : Nat) (v : I2cM) : (s.setI2cM i v).i2cM i = v := Table.get_set_self ..

theorem exec_i2cXfer {s : State} (hrun : s.running = true) (m : Fin 2) (v : BitVec 32) : exec (.i2cXfer m v) s = .next (s.startI2c m v) :=
  congrArg Host.Outcome.next (if_pos hrun)

theorem State.startI2c_idle {s : State} {m : Nat} (h : (s.i2cM m).jobs = []) (v : BitVec 32) :
    s.startI2c m v = (s.setI2cM m { s.i2cM m with jobs := [.host v], done := false, nack := false }).emit (.i2c m v.toNat) := by
  simp [State.startI2c, h, State.queueI2c, State.launchI2c]

theorem State.startI2c_sensor {s : State} {m k a g : Nat} {old : Bool} (h : (s.i2cM m).jobs = [.sensor k a g old]) (v : BitVec 32) :
    s.startI2c m v = s.setI2cM m { s.i2cM m with jobs := [.sensor k a g old, .host v], done := false, nack := false } := by
  simp [State.startI2c, h, State.queueI2c]

theorem State.startI2c_busy {s : State} {m : Nat} {w : BitVec 32} {rest : List I2cJob} (h : (s.i2cM m).jobs = .host w :: rest) (v : BitVec 32) :
    s.startI2c m v = s.setI2cM m { s.i2cM m with discard := true } := by
  simp [State.startI2c, h]

theorem exec_i2cTransferDone_last {s : State} {m : Fin 2} {w : BitVec 32} (h : (s.i2cM m).jobs = [.host w]) (d : Fin 256) (nack : Bool) :
    exec (.i2cTransferDone m d nack) s = .next (s.setI2cM m { s.i2cM m with
      jobs := [], done := true, nack := nack, data := if bit w.toNat 7 = true ∧ nack = false then d.val else (s.i2cM m).data }) := by
  change execI2cTransferDone m d nack s = _
  simp [execI2cTransferDone, h, State.endI2c, State.launchI2c]

/-! The GPIO pins (R432, R433). -/

theorem Gpio.sample_seen {g : Gpio} {y : BitVec 32} (h : g.seen = some y) (x : BitVec 32) :
    g.sample x = { g with level := (g.level &&& (x ^^^ y)) ||| (x &&& ~~~(x ^^^ y)), seen := some x } := by
  simp only [Gpio.sample, h, BitVec.not_not]

theorem State.dutyComing_of_noLoop {s : State} {pin : Nat} (h : s.pinLoop pin = false) : s.dutyComing pin = (s.pin pin).dutyCfg := by
  have hnone : (List.range 48).find? (fun n => (s.loop n).cfg.outKind == 3 && (s.loop n).cfg.outIndex == pin) = none := by
    rw [List.find?_eq_none]
    intro n hn
    exact Bool.eq_false_iff.1 (List.any_eq_false.1 h n hn |> Bool.eq_false_iff.2)
  simp [State.dutyComing, hnone]

@[simp] theorem State.pinHeld_setPin (s : State) (i : Nat) (v : Pin) : (s.setPin i v).pinHeld = s.pinHeld := rfl

@[simp] theorem State.running_setPin (s : State) (i : Nat) (v : Pin) : (s.setPin i v).running = s.running := rfl

/-- A PWM pin of its own begins a pulse of its configured duty (R433). -/
theorem exec_gpioPwmPeriodStart_free {s₀ s : State} (hs : s = s₀.publishDue) {pin : Fin 32} (hrun : s.running = true) (hmode : (s.pin pin).mode = 3)
    (hlead : (s.pin pin).leadOnly = false) (hheld : s.pinHeld pin = false) (hat : (s.pin pin).pwmAt = none) (hloop : s.pinLoop pin = false) :
    exec (.gpioPwmPeriodStart pin) s₀ = .next ((s.setPin pin { s.pin pin with duty := (s.pin pin).dutyCfg, pwmAt := some s.tick }).emit
      (.gpioPwm pin ((s.pin pin).dutyCfg * (s.pin pin).period / 65536))) := by
  change execGpioPwmPeriodStart pin s₀ = _
  unfold execGpioPwmPeriodStart
  rw [← hs]
  dsimp only
  rw [State.dutyComing_of_noLoop hloop, if_neg (by simp [hmode, hheld, hrun, hat])]
  refine congrArg Host.Outcome.next (if_pos ?_)
  simp [State.pinDriven, hheld, hrun, hlead, hmode]

end Sys2Proof.Machine

open Sys2Proof Sys2Proof.Machine

/-- Settles O13: each command, cycle and event of the ports and pins by its lemma. -/
theorem portsAndPins : Obligations.PortsAndPins := by
  refine ⟨?_, fun s cs we a h => State.rimData_of_released h a, ?_, fun s a v hrun hen ha => exec_rimWrite_inbox hrun hen ha v,
    fun s a v hwindow hin => State.tickRim_inbox hwindow hin, fun s a v hrun h => exec_rimWrite_discarded hrun h v, ?_, ?_, ?_, ?_, ?_, ?_, ?_, ?_,
    fun s m w d nack h => exec_i2cTransferDone_last h d nack, ?_, fun g x y h => Gpio.sample_seen h x, ?_, ?_⟩
  · intro s a hrun
    exact if_pos (by simp [hrun])
  · intro s r c d h hflags hkind haddr
    rw [exec_rimConfig_atOnce h, effRimConfig_disable hflags hkind haddr, settle_good]
    rfl
  · intro s r c h hdev hflags hdelay hruns
    rw [exec_gngConfig_atOnce h, effGngConfig_receiver hdev hflags hdelay (by exact hruns), settle_good]
  · intro s l hoff
    exact congrArg Host.Outcome.next (if_neg (by simp [hoff]))
  · intro s l hon herr
    exact ⟨_, exec_gongRxLock_on hon l, Gng.foldl_char_codeErr l s.gng herr⟩
  · intro s hon hlock hrun
    rw [exec_gongRxLock_on hon]
    exact congrArg (fun g => Host.Outcome.next ({ s with gng := g } : State)) ((Gng.foldl_gongChar ..).trans (Gng.foldl_comma_lock hlock hrun))
  · intro s n hon hlock hages
    refine ⟨_, exec_gongRxLock_on hon _, ?_⟩
    dsimp only
    rw [Gng.foldl_gongChar, List.map_append, List.map_append, List.map_replicate]
    exact Gng.foldl_violations_unlock hlock hages n n.isLt
  · intro s m v hrun hidle
    rw [exec_i2cXfer hrun, State.startI2c_idle hidle]
  · intro s m v k a g old hrun hjobs
    rw [exec_i2cXfer hrun, State.startI2c_sensor hjobs]
  · intro s m v w rest hrun hjobs
    rw [exec_i2cXfer hrun, State.startI2c_busy hjobs]
  · intro s r c h hpin hmode hflags hheld hold
    rw [exec_gpioConfig_atOnce h, effGpioConfig_free hpin hmode hflags (by exact hheld) (by exact hold), settle_good]
    rfl
  · intro s v m hrun
    exact congrArg Host.Outcome.next (if_pos hrun)
  · intro s s₀ pin hs hrun hmode hlead hheld hat hloop _
    exact exec_gpioPwmPeriodStart_free hs hrun hmode hlead hheld hat hloop

end

section
/-! LED drive and colour sensors (R337 to R349). -/
namespace Sys2Proof.Machine

/-! The LED commands commit their effects. -/

section
variable {s : State} {r : Fin 4} {c : Cmd}

theorem exec_ledChain_atOnce (h : s.atOnce r 0x0C01 c = true) :
    exec (.ledChain r) s = .next (settle c.id (effLedChain { c with host := .ok [] } (s.begun r c (.ok [])))) := by
  rw [← startCommand_atOnce h]; rfl

theorem exec_ledMatrix_atOnce (h : s.atOnce r 0x0C02 c = true) :
    exec (.ledMatrix r) s = .next (settle c.id (effLedMatrix { c with host := .ok [] } (s.begun r c (.ok [])))) := by
  rw [← startCommand_atOnce h]; rfl

theorem exec_ledLevels_atOnce (h : s.atOnce r 0x0C03 c = true) (d : HostRead) :
    exec (.ledLevels r d) s = .next (settle c.id (effLedLevels { c with host := d } (s.begun r c d))) := by
  rw [← startCommand_atOnce h]; rfl

theorem exec_ledZones_atOnce (h : s.atOnce r 0x0C04 c = true) :
    exec (.ledZones r) s = .next (settle c.id (effLedZones { c with host := .ok [] } (s.begun r c (.ok [])))) := by
  rw [← startCommand_atOnce h]; rfl

variable {d : HostRead}

theorem effLedChain_fitting (hok : chainBad c.packet = false) (hfits : chainFits (parseChain c.packet) (s.chain (u8 c.packet 8)).mtxComing = true)
    (hnamed : s.namedBeyond (u8 c.packet 8) ((parseChain c.packet).ndrv * 16 * max 1 (s.chain (u8 c.packet 8)).mtxComing.lines) = false) :
    effLedChain { c with host := d } s =
      good (s.modChain (u8 c.packet 8) (fun x => { x with cfgNext := some ⟨parseChain c.packet, s.tick⟩ })) := by
  simp [effLedChain, hok, hfits, hnamed]

/-- A matrix of no lines always fits its frame time (R340, R347). -/
theorem effLedMatrix_off (hch : u8 c.packet 8 < 8) (hlines : u8 c.packet 9 = 0) (haddr : u8 c.packet 10 ≤ 26) (hen : u8 c.packet 11 ≤ 31)
    (hpol : u8 c.packet 12 < 2) (hzero : u8 c.packet 13 = 0) (happart : u8 c.packet 11 < u8 c.packet 10 ∨ u8 c.packet 10 + 5 ≤ u8 c.packet 11)
    (hfree : s.zoneNames (u8 c.packet 8) = false) : effLedMatrix { c with host := d } s =
      good (s.modChain (u8 c.packet 8) (fun x => { x with mtxNext := some ⟨parseMatrix c.packet, s.tick⟩ })) := by
  have hform : ¬ (8 ≤ u8 c.packet 8 ∨ (parseMatrix c.packet).lines = 1 ∨ 32 < (parseMatrix c.packet).lines ∨ 26 < (parseMatrix c.packet).addrGpio
      ∨ 31 < (parseMatrix c.packet).enGpio ∨ 2 ≤ u8 c.packet 12 ∨ u8 c.packet 13 ≠ 0
      ∨ ((parseMatrix c.packet).addrGpio ≤ (parseMatrix c.packet).enGpio ∧ (parseMatrix c.packet).enGpio < (parseMatrix c.packet).addrGpio + 5)) := by
    simp only [parseMatrix]
    omega
  simp only [effLedMatrix, if_neg hform]
  rw [if_neg (fun h => h.1 hlines), if_neg (by simp [hfree])]

theorem u16_drop (p : List Byte) (i j : Nat) : u16 (p.drop i) j = u16 p (i + j) := by
  simp [u16, uN, List.drop_drop]

/-- Levels given in the packet wait for the frame start (R348). -/
theorem effLedLevels_inline (hch : u8 c.packet 8 < 8) (hn : 0 < u16 c.packet 12) (hn' : u16 c.packet 12 ≤ 16) (haddr : u64 c.packet 16 = 0)
    (hzero : zeroRange c.packet (24 + 2 * u16 c.packet 12) 56 = true) (hstate : (s.chain (u8 c.packet 8)).state ≠ .fault)
    (hfit : u16 c.packet 10 + u16 c.packet 12 ≤ (s.chain (u8 c.packet 8)).channels)
    (hfree : s.loopDrives (u8 c.packet 8) (u16 c.packet 10) (u16 c.packet 12) = false) : effLedLevels { c with host := d } s =
      good (s.modChain (u8 c.packet 8) (fun x => { x with levelsNext := x.levelsNext ++
        [⟨(List.range (u16 c.packet 12)).map (fun i => (u16 c.packet 10 + i, u16 c.packet (24 + 2 * i))), s.tick⟩] })) := by
  have hinline : (u64 c.packet 16 == 0) = true := by simp [haddr]
  have hform : ¬ (8 ≤ u8 c.packet 8 ∨ u16 c.packet 12 = 0 ∨ 4096 < u16 c.packet 12 ∨ u64 c.packet 16 % 2 ≠ 0 ∨ 16 < u16 c.packet 12
      ∨ zeroRange c.packet (24 + 2 * u16 c.packet 12) 56 = false) := by
    simp only [hzero, haddr]
    simp
    omega
  simp only [effLedLevels, hinline, if_true, true_and, if_neg hform, if_neg hstate, if_neg (Nat.not_lt.2 hfit), hfree, Bool.false_eq_true, if_false,
    State.stageLevels, u16_drop]

theorem effLedZones_colour (hkind : u8 c.packet 8 = 1) (hk : u8 c.packet 9 < 8) (hmaster : u8 c.packet 10 ≤ 1) (haddr : u8 c.packet 11 < 128)
    (hflags : u8 c.packet 13 < 2) (hper : 0 < u16 c.packet 14) (hper' : u16 c.packet 14 ≤ 4096) (hzero : zeroRange c.packet 16 64 = true) :
    effLedZones { c with host := d } s = good (s.modColour (u8 c.packet 9) (fun x => { x with
      next := some ⟨[u8 c.packet 10, u8 c.packet 11, u8 c.packet 12, u8 c.packet 13, u16 c.packet 14], s.tick⟩ })) := by
  have hform : ¬ (8 ≤ u8 c.packet 9 ∨ (1 < u8 c.packet 10 ∧ u8 c.packet 10 ≠ 0xFF) ∨ 128 ≤ u8 c.packet 11 ∨ 2 ≤ u8 c.packet 13 ∨ u16 c.packet 14 = 0
      ∨ 4096 < u16 c.packet 14 ∨ zeroRange c.packet 16 64 = false) := by
    simp only [hzero]
    simp
    omega
  simp only [effLedZones, hkind, if_neg hform]

end

/-! Frames and slots (R337, R339, R340). -/

/-- The latch of a first frame ends it, counts it and keeps it, and nothing is checked. -/
theorem exec_ledFrameDone_first {s : State} {k : Fin 8} {out : List Nat} (hsending : (s.chain k).sending = some out) (hend : (s.chain k).sendEnd ≤ s.tick)
    (hprev : (s.chain k).prev = none) (hlines : (s.chain k).mtx.lines = 0) (hzones : s.chainZones k = []) (ret : List Nat) :
    exec (.ledFrameDone k ret) s = .next (s.setChain k { s.chain k with
      sending := none, prev := some out, frames := wrapAdd 32 (s.chain k).frames 1 }) := by
  change execLedFrameDone k ret s = _
  have hzones' : ∀ x : Chain, (s.setChain k x).chainZones k = [] := fun _ => hzones
  simp only [execLedFrameDone, hsending, if_neg (Nat.not_lt.2 hend), hzones', List.foldl_nil, hprev, State.checkReturn, hlines, if_true]

theorem exec_ledFrameDone_early {s : State} {k : Fin 8} (h : (s.chain k).sending = none ∨ s.tick < (s.chain k).sendEnd) (ret : List Nat) :
    exec (.ledFrameDone k ret) s = .next s := by
  change execLedFrameDone k ret s = _
  unfold execLedFrameDone
  dsimp only
  split
  · rfl
  · next hsending => exact if_pos (h.resolve_left (by simp [hsending]))

/-- A slot of a matrix that scans sends the next line's levels and counts itself (R340). -/
theorem exec_matrixSlotStart_first {s : State} {k : Fin 8} (hlines : (s.chain k).mtx.lines = 2) (hstate : (s.chain k).state = .matrix)
    (hslot : (s.chain k).slot = 0) (hat : s.tick = (s.chain k).scanAt) (hscan : (s.chain k).scan ≠ []) :
    exec (.matrixSlotStart k) s = .next ((s.setChain k { s.chain k with
      slot := 1, slotAt := some s.tick, frames := wrapAdd 32 (s.chain k).frames 1,
      sending := some ((s.chain k).scan.getD 1 (List.replicate ((s.chain k).cfg.ndrv * 16) 0)),
      sendEnd := s.tick + (s.chain k).mtx.blank + (s.chain k).cfg.ndrv * 256 * (s.chain k).cfg.clkDiv }).matrixPins (s.chain k).mtx false 0) := by
  change execMatrixSlotStart k s = _
  have hgo : ¬ ((s.chain k).mtx.lines = 0 ∨ (s.chain k).state = .disabled ∨ (s.chain k).mtx.lines ≤ (s.chain k).slot
      ∨ s.tick ≠ (s.chain k).scanAt + (s.chain k).slot * slotTicks (s.chain k).cfg (s.chain k).mtx ∨ (s.chain k).scan = []
      ∨ (s.chain k).stopped = true) := by
    simp [hlines, hstate, hslot, hat, hscan, Chain.stopped]
  simp only [execMatrixSlotStart, if_neg hgo]
  simp [hlines, hstate, hslot]

@[simp] theorem State.chain_matrixPins (s : State) (m : MatrixCfg) (en : Bool) (line i : Nat) : (s.matrixPins m en line).chain i = s.chain i := rfl

/-! Colour readings (R345, R349, R431). -/

theorem exec_colourSensorReadDone_none {s : State} {k : Fin 8} (h : s.readingOn k = none) (b : List Byte) (nack : Bool) :
    exec (.colourSensorReadDone k b nack) s = .next s := by
  change execColourSensorReadDone k b nack s = _
  simp only [execColourSensorReadDone, h]

theorem exec_colourSensorReadDone_stale {s : State} {k : Fin 8} {m : Nat} (h : s.readingOn k = some (m, true)) (b : List Byte) (nack : Bool) :
    exec (.colourSensorReadDone k b nack) s = .next (s.endI2c m) := by
  change execColourSensorReadDone k b nack s = _
  simp only [execColourSensorReadDone, h, if_true]

theorem exec_colourSensorReadDone_nack {s : State} {k : Fin 8} {m : Nat} (h : s.readingOn k = some (m, false)) (b : List Byte) :
    exec (.colourSensorReadDone k b true) s = .next ((s.endI2c m).setColour k { s.colour k with
      busy := ((s.endI2c m).i2cM m).waitsFor k, nacked := true, nacks := min (2 ^ 16 - 1) ((s.colour k).nacks + 1) }) := by
  change execColourSensorReadDone k b true s = _
  simp only [execColourSensorReadDone, h, if_true, Bool.false_eq_true, if_false]
  rfl

theorem State.endI2c_pairTick (s : State) (m : Nat) : (s.endI2c m).pairTick = s.pairTick := by
  unfold State.endI2c State.launchI2c
  dsimp only
  split <;> rfl

theorem exec_colourSensorReadDone_little {s : State} {k : Fin 8} {m : Nat} (h : s.readingOn k = some (m, false))
    (hlittle : (s.colour k).bigEndian = false) (b : List Byte) :
    exec (.colourSensorReadDone k b false) s = .next ((s.endI2c m).setColour k { s.colour k with
      busy := ((s.endI2c m).i2cM m).waitsFor k, nacked := false, comps := [u16 b 0, u16 b 2, u16 b 4, u16 b 6], lastDone := some (s.pairTick / 4000) }) := by
  change execColourSensorReadDone k b false s = _
  simp only [execColourSensorReadDone, h, Bool.false_eq_true, if_false, hlittle, State.endI2c_pairTick]
  rfl

end Sys2Proof.Machine

open Sys2Proof Sys2Proof.Machine

/-- Settles O41: each LED command by its effect, and each event of chains, matrices and sensors by its lemma. -/
theorem lightIsConfiguredAndRuns : Obligations.LightIsConfiguredAndRuns := by
  refine ⟨?_, ?_, ?_, ?_, fun s k out ret hsending hend hprev hlines hzones => exec_ledFrameDone_first hsending hend hprev hlines hzones ret,
    fun s k ret h => exec_ledFrameDone_early h ret, ?_, fun s k b m h hlittle => exec_colourSensorReadDone_little h hlittle b,
    fun s k b n => ⟨fun h => exec_colourSensorReadDone_none h b n, fun m h => exec_colourSensorReadDone_stale h b n⟩,
    fun s k b m h => exec_colourSensorReadDone_nack h b⟩
  · intro s r c h hok hfits hnamed
    rw [exec_ledChain_atOnce h, effLedChain_fitting hok (by exact hfits) (by exact hnamed), settle_good]
    rfl
  · intro s r c h hch hlines haddr hen hpol hzero happart hfree
    rw [exec_ledMatrix_atOnce h, effLedMatrix_off hch hlines haddr hen hpol hzero happart (by exact hfree), settle_good]
    rfl
  · intro s r c h hch hn hn' haddr hzero hstate hfit hloops
    rw [exec_ledLevels_atOnce h, effLedLevels_inline hch hn hn' haddr hzero (by exact hstate) (by exact hfit) (by exact hloops), settle_good]
    rfl
  · intro s r c h hkind hk hmaster haddr hflags hper hper' hzero
    rw [exec_ledZones_atOnce h, effLedZones_colour hkind hk hmaster haddr hflags hper hper' hzero, settle_good]
    rfl
  · intro s k hlines hstate hslot hat hscan
    refine ⟨_, exec_matrixSlotStart_first hlines hstate hslot hat hscan, rfl, ?_⟩
    rw [State.chain_matrixPins, State.chain_setChain]
    refine ⟨rfl, rfl, rfl, rfl, Nat.add_assoc .., fun q hq => State.chain_setChain_ne _ (fun h => hq (Fin.ext h)) _⟩

end

section
/-! The order of a tick (R21 to R24, R46, R127): the place of a command that joins its queue, and the order in which completions are written. -/
namespace Sys2Proof.Machine

/-! Joining the queue (R21, R22). -/

section
variable (key : Instr → TieKey)

theorem joinQueue_perm (i : Instr) (q : List Instr) : (joinQueue key i q).Perm (i :: q) := by
  induction q with
  | nil => exact .refl _
  | cons x q ih =>
    cases h : (key x).le (key i) with
    | true => rw [joinQueue_behind key i x q h]; exact (ih.cons x).trans (.swap i x q)
    | false => rw [joinQueue_ahead key i x q h]

theorem joinQueue_inTieOrder (i : Instr) {q : List Instr} (hq : inTieOrder key q) : inTieOrder key (joinQueue key i q) := by
  induction q with
  | nil => exact List.pairwise_singleton _ i
  | cons x q ih =>
    obtain ⟨hx, hrest⟩ := List.pairwise_cons.1 hq
    cases h : (key x).le (key i) with
    | true =>
      rw [joinQueue_behind key i x q h]
      refine List.pairwise_cons.2 ⟨fun y hy => ?_, ih hrest⟩
      obtain rfl | hy := (mem_joinQueue key i y q).1 hy
      · exact h
      · exact hx y hy
    | false =>
      rw [joinQueue_ahead key i x q h]
      have hi := TieKey.le_of_not_le h
      refine List.pairwise_cons.2 ⟨fun y hy => ?_, hq⟩
      obtain rfl | hy := List.mem_cons.1 hy
      · exact hi
      · exact TieKey.le_trans hi (hx y hy)

/-- What joins an ordered queue stands behind all that goes before it or with it, and ahead of the rest. -/
theorem joinQueue_splits (i : Instr) {q : List Instr} (hq : inTieOrder key q) : ∃ a b, q = a ++ b ∧ joinQueue key i q = a ++ i :: b ∧
    (∀ x ∈ a, (key x).le (key i) = true) ∧ (∀ x ∈ b, (key x).le (key i) = false) := by
  induction q with
  | nil => exact ⟨[], [], rfl, rfl, by simp, by simp⟩
  | cons x q ih =>
    obtain ⟨hx, hrest⟩ := List.pairwise_cons.1 hq
    cases h : (key x).le (key i) with
    | true =>
      obtain ⟨a, b, rfl, hjoin, ha, hb⟩ := ih hrest
      exact ⟨x :: a, b, rfl, by rw [joinQueue_behind key i x _ h, hjoin]; rfl, List.forall_mem_cons.2 ⟨h, ha⟩, hb⟩
    | false =>
      refine ⟨[], x :: q, rfl, joinQueue_ahead key i x q h, by simp, List.forall_mem_cons.2 ⟨h, fun y hy => ?_⟩⟩
      by_contra hne
      simp only [Bool.not_eq_false] at hne
      exact absurd (TieKey.le_trans (hx y hy) hne) (by simp [h])

end

/-- The classes of R21, with loops by their index and the control cycle between loop 0 and the rest. -/
theorem classes_inTieOrder (k : Fin 3) (l : Bool) (n : Nat) {m : Fin 48} (hm : m ≠ 0) (r : Fin 4) (u : Fin 16) :
    inTieOrder tieKey [.permitInputChange k l n, .lineTrigger, .planningTick, .loopEvaluation 0, .controlCycleEnd, .loopEvaluation m, .pageQueue r,
      .frameStart u, .eventBacklogDrain] := by
  have hpos : 0 < m.val := Fin.pos_iff_ne_zero.2 hm
  have hkeys : List.map tieKey [.permitInputChange k l n, .lineTrigger, .planningTick, .loopEvaluation 0, .controlCycleEnd, .loopEvaluation m,
      .pageQueue r, .frameStart u, .eventBacklogDrain] = [⟨1, k.val, 15, false⟩, ⟨2, 0, 6, false⟩, ⟨3, 0, 10, false⟩, ⟨4, 0, 12, false⟩,
      ⟨4, 0, 15, false⟩, ⟨4, m.val, 12, false⟩, ⟨5, r.val, 1, false⟩, ⟨6, u.val, 8, false⟩, ⟨7, 0, 1, false⟩] := rfl
  rw [inTieOrder, ← List.pairwise_map (f := tieKey) (R := fun a b => a.le b = true), hkeys]
  simp [TieKey.le, hpos]

/-! The order of completions (R46, R127). -/

theorem Cmd.before_trans {a b c : Cmd} (hab : a.before b = true) (hbc : b.before c = true) : a.before c = true := by
  simp only [Cmd.before, decide_eq_true_eq] at *
  omega

theorem Cmd.before_total (a b : Cmd) : a.before b = true ∨ b.before a = true := by
  simp only [Cmd.before, decide_eq_true_eq]
  omega

theorem insertOrdered_eq {α : Type} (le : α → α → Bool) (x : α) (l : List α) :
    insertOrdered le x l = l.orderedInsert (fun a b => le a b = true) x := by
  induction l with
  | nil => rfl
  | cons y l ih => rw [insertOrdered, List.orderedInsert_cons, ih]

theorem foldr_insertOrdered_eq {α : Type} (le : α → α → Bool) (l : List α) :
    l.foldr (insertOrdered le) [] = l.insertionSort (fun a b => le a b = true) := by
  induction l with
  | nil => rfl
  | cons x l ih => rw [List.foldr_cons, ih, insertOrdered_eq, List.insertionSort_cons]

theorem foldr_before_pairwise (l : List Cmd) : (l.foldr (insertOrdered Cmd.before) []).Pairwise (fun a b => a.before b = true) := by
  have : Std.Total (fun a b : Cmd => a.before b = true) := ⟨Cmd.before_total⟩
  have : IsTrans Cmd (fun a b => a.before b = true) := ⟨fun _ _ _ => Cmd.before_trans⟩
  rw [foldr_insertOrdered_eq]
  exact List.pairwise_insertionSort _ l

theorem behindLast_perm (p : Cmd → Bool) (c : Cmd) (l : List Cmd) : (behindLast p c l).Perm (c :: l) := by
  induction l with
  | nil => exact .refl _
  | cons d l ih =>
    unfold behindLast
    split
    · exact (ih.cons d).trans (.swap c d l)
    · split
      · exact .swap c d l
      · exact .refl _

theorem closesBehind_perm (l : List Cmd) : (closesBehind l).Perm l := by
  induction l with
  | nil => exact .refl _
  | cons c l ih =>
    unfold closesBehind
    split
    · exact (behindLast_perm ..).trans (ih.cons c)
    · exact ih.cons c

/-- What closes a stream is the command of no block. -/
theorem Cmd.closes_closes {a b c : Cmd} (h : b.closes c = true) : a.closes b = false := by
  simp only [Cmd.closes, Bool.and_eq_true, beq_iff_eq] at h ⊢
  simp [h.1.1]

/-- Behind the last command that it closes, a command closes none that follows; and none closes it. -/
theorem behindLast_pairwise {c : Cmd} (hc : ∀ a : Cmd, a.closes c = false) {l : List Cmd} (hl : l.Pairwise (fun a b => a.closes b = false)) :
    (behindLast c.closes c l).Pairwise (fun a b => a.closes b = false) := by
  induction l with
  | nil => exact List.pairwise_singleton _ c
  | cons d l ih =>
    obtain ⟨hd, hrest⟩ := List.pairwise_cons.1 hl
    unfold behindLast
    split
    next =>
      refine List.pairwise_cons.2 ⟨fun x hx => ?_, ih hrest⟩
      obtain rfl | hx := (mem_behindLast ..).1 hx
      · exact hc d
      · exact hd x hx
    next hnone =>
      have hfree : ∀ x ∈ l, c.closes x = false := by simpa using hnone
      split
      next => exact List.pairwise_cons.2 ⟨List.forall_mem_cons.2 ⟨hc d, hd⟩, List.pairwise_cons.2 ⟨hfree, hrest⟩⟩
      next hnot => exact List.pairwise_cons.2 ⟨List.forall_mem_cons.2 ⟨by simpa using hnot, hfree⟩, hl⟩

theorem closesBehind_pairwise (l : List Cmd) : (closesBehind l).Pairwise (fun a b => a.closes b = false) := by
  induction l with
  | nil => exact .nil
  | cons c l ih =>
    unfold closesBehind
    split
    next hany =>
      obtain ⟨d, -, hd⟩ := List.any_eq_true.1 hany
      exact behindLast_pairwise (fun a => Cmd.closes_closes hd) ih
    next hnone =>
      refine List.pairwise_cons.2 ⟨fun x hx => ?_, ih⟩
      have hfree : ∀ y ∈ l, c.closes y = false := by simpa using hnone
      exact hfree x ((mem_closesBehind ..).1 hx)

theorem closesBehind_of_no_close {l : List Cmd} (h : ∀ c ∈ l, pktOpcode c.packet ≠ 0x0F06) : closesBehind l = l := by
  induction l with
  | nil => rfl
  | cons c l ih =>
    obtain ⟨hc, hl⟩ := List.forall_mem_cons.1 h
    have hnone : l.any c.closes = false := List.any_eq_false.2 (fun d _ => by simp [Cmd.closes, hc])
    rw [closesBehind, hnone, ih hl]
    rfl

theorem completionOrder_perm (l : List Cmd) : (completionOrder l).Perm l := by
  rw [completionOrder, foldr_insertOrdered_eq]
  exact (closesBehind_perm _).trans (List.perm_insertionSort _ l)

theorem completionOrder_before {l : List Cmd} (h : ∀ c ∈ l, pktOpcode c.packet ≠ 0x0F06) :
    (completionOrder l).Pairwise (fun a b => a.before b = true) := by
  have hsorted : ∀ c ∈ l.foldr (insertOrdered Cmd.before) [], pktOpcode c.packet ≠ 0x0F06 := fun c hc =>
    h c ((mem_completionOrder c l).1 ((mem_closesBehind ..).2 hc))
  rw [completionOrder, closesBehind_of_no_close hsorted]
  exact foldr_before_pairwise l

end Sys2Proof.Machine

open Sys2Proof Sys2Proof.Machine

/-- Settles O58: by where a command joins its queue, and by the sorting and moving behind of completions. -/
theorem tiesFollowTheirOrder : Obligations.TiesFollowTheirOrder := by
  refine ⟨fun s i h => joinQueue_inTieOrder s.keyOf i h, fun s i => ⟨joinQueue_perm s.keyOf i s.pending, s.arrive_frame i⟩,
    fun key i q h => joinQueue_splits key i h, fun k l n m r u hm => classes_inTieOrder k l n hm r u, ?_,
    fun l => ⟨completionOrder_perm l, closesBehind_pairwise _, completionOrder_before⟩⟩
  intro s x y q hq _ hxy
  rw [s.arrive_pending, hq, joinQueue_ahead s.keyOf y x q hxy]

end

section
/-! SRAM errors (R19, R59): a corrected one, and a double-bit one of a store that no engine works in. -/
namespace Sys2Proof.Machine

theorem exec_sramEccError_corrected {s : State} (hheld : s.sys.held = false) (st : Fin 14) (w : Nat) (b : Fin 72) (e : Fin 65) :
    exec (.sramEccError st w b false e) s =
      .next ((s.modSys (fun y => { y with ceCount := satAdd 32 y.ceCount 1 })).raise 0x0110 0
        ([st.val, b.val, 0, 0] ++ leBytes 4 w ++ leBytes 4 (satAdd 32 s.sys.ceCount 1) ++ zeros 4)) := by
  change execSramEccError st w b false e s = _
  simp only [execSramEccError, hheld, Bool.false_eq_true, if_false, Bool.not_false, if_true]
  rfl

theorem State.blockFailed_new {s : State} {n : Nat} (h : bit s.sys.failed n = false) :
    s.blockFailed n = s.modSys (fun y => { y with failed := y.failed + 2 ^ n }) := by
  simp only [State.blockFailed, State.modSys, h, Bool.false_eq_true, if_false]

/-- A double-bit error of a store that is neither vital nor late, in no engine's context state, marks its block and is reported (R19). -/
theorem exec_sramEccError_double {s : State} {st : Fin 14} (hheld : s.sys.held = false) (hvital : vitalStore st.val = false)
    (hlate : lateStore st.val = false) (hnew : bit s.sys.failed (storeBlock.getD st.val 0) = false) (w : Nat) (b : Fin 72) :
    exec (.sramEccError st w b true 64) s =
      .next ((s.modSys (fun y => { y with failed := y.failed + 2 ^ storeBlock.getD st.val 0 })).raise 0x0111 0
        ([st.val, 0, 0, 0] ++ leBytes 4 w ++ leBytes 4 (s.sys.failed + 2 ^ storeBlock.getD st.val 0) ++ zeros 4)) := by
  have hengine : ¬ (64 : Fin 65).val < 64 := by decide
  change execSramEccError st w b true 64 s = _
  simp only [execSramEccError, hheld, Bool.false_eq_true, if_false, Bool.not_true, State.blockFailed_new hnew, hvital, hlate, Bool.or_false,
    Bool.false_and, if_neg hengine]
  rfl

end Sys2Proof.Machine

open Sys2Proof Sys2Proof.Machine

/-- Settles O12: store 7, the die cost table of block 8, is neither vital nor late. -/
theorem sramErrorsAreReported : Obligations.SramErrorsAreReported :=
  ⟨fun _ st w b e hheld => exec_sramEccError_corrected hheld st w b e,
    fun _ w b hheld hnew => exec_sramEccError_double (st := 7) hheld rfl rfl hnew w b⟩

end

section
/-! Fetch and mallet engines (R135 to R150, R404): beats that are released, segments that are written or owed, and engines that leave service. -/
namespace Sys2Proof.Machine

/-! Idle engines take beats (R140 to R142). -/

/-- One state comes from another as engines in service take beats: the engine block alone changes, each engine keeps what takes it out of
service, and one that is out of service is as it was. -/
def State.BeatsTaken (s t : State) : Prop := t = { s with mal := t.mal } ∧
  ∀ q, (t.engine q).outCause = (s.engine q).outCause ∧ (s.inService q = false → t.engine q = s.engine q)

theorem State.BeatsTaken.refl (s : State) : s.BeatsTaken s := ⟨rfl, fun _ => ⟨rfl, fun _ => rfl⟩⟩

theorem State.BeatsTaken.trans {s t u : State} (h : s.BeatsTaken t) (k : t.BeatsTaken u) : s.BeatsTaken u := by
  obtain ⟨ht, hq⟩ := h
  obtain ⟨hu, hr⟩ := k
  refine ⟨by rw [hu, ht], fun q => ⟨(hr q).1.trans (hq q).1, fun hout => ?_⟩⟩
  have hout' : t.inService q = false := by rw [← hout]; simp only [State.inService, (hq q).1]
  rw [(hr q).2 hout', (hq q).2 hout]

theorem State.BeatsTaken.foldl {α : Type} {f : State → α → State} (h : ∀ t x, State.BeatsTaken t (f t x)) (l : List α) (s : State) :
    s.BeatsTaken (l.foldl f s) :=
  List.foldlRecOn (motive := fun t => s.BeatsTaken t) l f (.refl s) fun t ht x _ => ht.trans (h t x)

theorem Engine.take_outCause (g : Engine) (b : Beat) : (g.take b).outCause = g.outCause := by
  unfold Engine.take
  split <;> rfl

theorem State.inService_of_wantsBeat {s : State} {e : Nat} (h : s.wantsBeat e = true) : s.inService e = true := by
  simp only [State.wantsBeat, Bool.and_eq_true] at h
  exact h.1.1.1.1

/-- A change of an engine in service that keeps it there. -/
theorem State.modEngine_beatsTaken {s : State} {e : Nat} (h : s.inService e = true) {f : Engine → Engine}
    (hf : (f (s.engine e)).outCause = (s.engine e).outCause) : s.BeatsTaken (s.modEngine e f) := by
  refine ⟨rfl, fun q => ?_⟩
  by_cases hq : q = e
  · subst hq
    rw [State.engine_modEngine]
    exact ⟨hf, fun hout => by rw [h] at hout; cases hout⟩
  · rw [State.modEngine, s.engine_setEngine_ne hq]
    exact ⟨rfl, fun _ => rfl⟩

theorem State.takeBeat_beatsTaken {s : State} {e : Nat} (h : s.inService e = true) (b : Beat) (extra : Nat) : s.BeatsTaken (s.takeBeat e b extra) := by
  unfold State.takeBeat
  extract_lets s₁
  exact .trans (t := s₁) ⟨rfl, fun _ => ⟨rfl, fun _ => rfl⟩⟩ (State.modEngine_beatsTaken (s := s₁) h (Engine.take_outCause _ _))

theorem State.takeHome_beatsTaken (s : State) (e : Nat) : s.BeatsTaken (s.takeHome e) := by
  unfold State.takeHome
  split
  next hwants =>
    split
    · exact State.takeBeat_beatsTaken (State.inService_of_wantsBeat hwants) _ _
    · exact .refl s
  next => exact .refl s

/-- A stolen beat is counted with its thief, in service before and after. -/
theorem State.takeBeat_counted_beatsTaken {s : State} {e : Nat} (h : s.inService e = true) (b : Beat) (extra : Nat) {f : Engine → Engine}
    (hf : ∀ g, (f g).outCause = g.outCause) : s.BeatsTaken ((s.takeBeat e b extra).modEngine e f) := by
  have htake := State.takeBeat_beatsTaken h b extra
  refine htake.trans (State.modEngine_beatsTaken ?_ (hf _))
  rw [← h]
  simp only [State.inService, (htake.2 e).1]

theorem State.stealKind_beatsTaken {s : State} {e : Nat} (h : s.inService e = true) (ladder : Bool) {t : State} (ht : s.stealKind e ladder = some t) :
    s.BeatsTaken t := by
  unfold State.stealKind at ht
  split at ht
  · obtain ⟨b, -, rfl⟩ := Option.map_eq_some_iff.1 ht
    exact State.takeBeat_counted_beatsTaken h b 0 fun _ => rfl
  · split at ht
    · obtain ⟨b, -, rfl⟩ := Option.map_eq_some_iff.1 ht
      exact State.takeBeat_counted_beatsTaken h b 64 fun _ => rfl
    · cases ht

theorem State.steal_beatsTaken (s : State) (e : Nat) : s.BeatsTaken (s.steal e) := by
  unfold State.steal
  split
  next hwants =>
    have hin := State.inService_of_wantsBeat (Bool.and_eq_true_iff.1 hwants).1
    cases hfound : (s.stealKind e false).or (s.stealKind e true) with
    | none => exact .refl s
    | some t => exact (Option.or_eq_some_iff.1 hfound).elim (State.stealKind_beatsTaken hin false) fun h => State.stealKind_beatsTaken hin true h.2
  next => exact .refl s

theorem State.assignBeats_beatsTaken (s : State) : s.BeatsTaken s.assignBeats := by
  have hhome : s.BeatsTaken ((List.range 64).foldl State.takeHome s) := .foldl State.takeHome_beatsTaken _ s
  unfold State.assignBeats
  dsimp only
  split
  · exact hhome
  · exact hhome.trans (.foldl State.steal_beatsTaken _ _)

/-! Formed beats (R135, R144). -/

/-- The only formed beat enters its queue once the slots of all its lines are free. -/
theorem exec_beatRelease_one {s : State} {b : Beat} (hformed : s.mal.formed = [b]) (hfree : s.slotFree (laneOfDie b.die) (b.x + 15) = true)
    (hdepth : (s.laneRing (laneOfDie b.die)).depth1 = false) :
    exec .beatRelease s = .next ((s.modMal (fun m => { m with formed := [], queued := m.queued ++ [b] })).assignBeats) := by
  change execBeatRelease s = _
  simp [execBeatRelease, State.modMal, hformed, hfree, hdepth]

/-! Segments (R137, R144, R146, R404). -/

theorem exec_segmentWrite_of_pick {s : State} {e : Fin 64} {k : Nat} {b : Beat} (hpick : s.pickContext (s.engine e) = some (k, b)) (fl : List Nat) :
    exec (.segmentWrite e fl) s = .next (s.writeSegment e k b fl).assignBeats := by
  change execSegmentWrite e fl s = _
  simp only [execSegmentWrite, hpick]

theorem State.readSteps_of_no_readers {s : State} {b : Beat} {i : Nat} (h : s.activeReaders b i = []) (fl : List Nat) : s.readSteps b i fl = [] := by
  rw [State.readSteps, h]
  rfl

theorem State.predictLine_of_disabled {s : State} (h : s.stk.enabled = false) (b : Beat) (i : Nat) (d : DieLevels) : s.predictLine b i d = s :=
  if_pos (by rw [h]; rfl)

/-- A line without readers is written in time. -/
theorem State.writeSegment_of_no_readers {s : State} {b : Beat} (e k : Nat) (fl : List Nat) (hreaders : s.activeReaders b b.line = [])
    (hlate : ∀ l, s.fir.lastLine = some l → l < b.x + b.line) (hstk : s.stk.enabled = false) :
    s.writeSegment e k b fl = ((s.modLaneRing (laneOfDie b.die) (fun g => g.put (b.x + b.line)
        { die := b.die, levels := (s.lineLevels b [] b.line).list (s.beatNozzles b) })).countLost b (b.x + b.line) (s.lineLevels b [] b.line)).modEngine e
      (fun g => { (g.setCtx k (some { b with line := b.line + 1, clocks := b.clocks + s.lineClocks b b.line [] })) with
        cur := k, busy := g.busy + s.lineClocks b b.line [] + (if b.line = 0 then b.clocks else 0) }) := by
  unfold State.writeSegment
  extract_lets i line lane steps d clk late n b' s₀ s₁ s₂
  have hsteps : steps = [] := State.readSteps_of_no_readers hreaders fl
  have hnot : late = false := by
    simp only [late]
    split
    next l hl => exact decide_eq_false (Nat.not_le.2 (hlate l hl))
    next => rfl
  have hs₁ : s₁ = s.modLaneRing lane (fun r => r.put line { die := b.die, levels := d.list n }) := by
    simp only [s₁, s₀, hsteps, hnot, List.isEmpty_nil, Bool.not_true, Bool.and_false, Bool.false_eq_true, if_false]
    exact State.predictLine_of_disabled (s := s.modLaneRing lane _) hstk b i d
  simp only [s₂, hs₁, b', d, clk, hsteps, List.map_nil, List.any_nil, Bool.or_false]
  rfl

/-- What counting a line's losses changes (R215, R224). -/
theorem State.countLost_frame (s : State) (b : Beat) (line : Nat) (d : DieLevels) :
    ∃ o h e u, s.countLost b line d = { s with out := o, hif := h, evt := e, sub := u } := by
  unfold State.countLost
  extract_lets s₁ lane r first n due r' s₂
  split
  · exact ⟨_, _, _, _, rfl⟩
  · split
    · obtain ⟨o, g, m, w, e, h⟩ := s₂.raise_eq 0x0402 lane (leBytes 4 (s₁.nza first) ++ leBytes 6 line ++ [0, 0] ++ leBytes 4 n)
      exact ⟨_, _, _, _, h⟩
    · exact ⟨_, _, _, _, rfl⟩

/-- While every DRAM access fails, a line that reads a page is owed (R404). -/
theorem State.writeSegment_of_memLost {s : State} {b : Beat} (e k : Nat) (fl : List Nat) (hlost : s.memLost = true)
    (hreaders : s.activeReaders b b.line ≠ []) (hlate : ∀ l, s.fir.lastLine = some l → l < b.x + b.line) :
    ∃ d f, s.writeSegment e k b fl = ((s.modMal (fun m => { m with missed := m.missed ++ [(b.x + b.line, { b with
      line := b.line + 1, clocks := b.clocks + s.lineClocks b b.line (s.readSteps b b.line fl), ecc := true })] })).countLost b (b.x + b.line) d).modEngine
        e f := by
  unfold State.writeSegment
  extract_lets i line lane steps d clk late n b' s₀ s₁ s₂
  have hsteps : steps.isEmpty = false := by simpa [steps, State.readSteps] using hreaders
  have hnot : late = false := by
    simp only [late]
    split
    next l hl => exact decide_eq_false (Nat.not_le.2 (hlate l hl))
    next => rfl
  have hs₁ : s₁ = s.modMal (fun m => { m with missed := m.missed ++ [(line, { b' with ecc := true })] }) := by
    simp only [s₁, hlost, hsteps, hnot, Bool.not_false, Bool.and_self, Bool.false_eq_true, if_true, if_false]
  exact ⟨d, _, by simp only [s₂, hs₁]; rfl⟩

theorem exec_segmentWrite_of_memLost {s : State} {e : Fin 64} {k : Nat} {b : Beat} {fl : List Nat} (hpick : s.pickContext (s.engine e) = some (k, b))
    (hlost : s.memLost = true) (hreaders : s.activeReaders b b.line ≠ []) (hlate : ∀ l, s.fir.lastLine = some l → l < b.x + b.line) :
    ∃ t : State, exec (.segmentWrite e fl) s = .next t.assignBeats ∧
      t = { s with out := t.out, hif := t.hif, evt := t.evt, mal := t.mal, sub := t.sub } ∧ t.mal.rings = s.mal.rings ∧ t.mal.cursors = s.mal.cursors ∧
      t.mal.missed = s.mal.missed ++ [(b.x + b.line, { b with
        line := b.line + 1, clocks := b.clocks + s.lineClocks b b.line (s.readSteps b b.line fl), ecc := true })] ∧
      (∀ q : Fin 64, q ≠ e → t.engine q = s.engine q) := by
  obtain ⟨d, f, hwrite⟩ := State.writeSegment_of_memLost e k fl hlost hreaders hlate
  obtain ⟨_, _, _, _, hcount⟩ := State.countLost_frame (s.modMal (fun m => { m with missed := m.missed ++ [(b.x + b.line, { b with
    line := b.line + 1, clocks := b.clocks + s.lineClocks b b.line (s.readSteps b b.line fl), ecc := true })] })) b (b.x + b.line) d
  refine ⟨_, exec_segmentWrite_of_pick hpick fl, ?_⟩
  rw [hwrite, hcount]
  exact ⟨rfl, rfl, rfl, rfl, fun q hq => State.engine_setEngine_ne _ (fun h => hq (Fin.ext h)) _⟩

/-! Finished beats (R140, R150). -/

theorem State.offlineDue_of_online {s : State} {e : Nat} (h : (s.engine e).offline = false) : s.offlineDue e = s :=
  if_neg (by simp [h])

theorem exec_engineBeatDone_current {s : State} {e : Fin 64} {b : Beat} (hcur : (s.engine e).cur = 0) (hctx : (s.engine e).ctx0 = some b)
    (hdone : 16 ≤ b.line) (honline : (s.engine e).offline = false) :
    exec (.engineBeatDone e) s = .next (s.retireBeat e 0 b).assignBeats := by
  have hfinished : (s.engine e).finished = some (0, b) := by
    simp [Engine.finished, Engine.current, finishedBeat, hcur, hctx, hdone]
  have hstays : ((s.retireBeat e 0 b).engine e).offline = false := by
    rw [State.retireBeat, State.engine_modEngine]
    exact honline
  change execEngineBeatDone e s = _
  simp only [execEngineBeatDone, hfinished, State.offlineDue_of_online hstays]

/-! Engines that leave service (R100, R143, R150). -/

/-- One state comes from another by what an engine that leaves service changes: the engine block, page contexts and events. -/
def State.EngineLeaves (s t : State) : Prop := t = { s with out := t.out, hif := t.hif, evt := t.evt, pgq := t.pgq, mal := t.mal }

theorem State.EngineLeaves.trans {s t u : State} (h : s.EngineLeaves t) (k : t.EngineLeaves u) : s.EngineLeaves u := by
  unfold State.EngineLeaves at *
  rw [k, h]

theorem State.BeatsTaken.engineLeaves {s t : State} (h : s.BeatsTaken t) : s.EngineLeaves t := by
  unfold State.EngineLeaves
  rw [h.1]

theorem State.EngineLeaves.blockFailed {s t : State} (h : s.EngineLeaves t) (n : Nat) : t.blockFailed n = { s with
    out := (t.blockFailed n).out, sys := (t.blockFailed n).sys, hif := (t.blockFailed n).hif, evt := (t.blockFailed n).evt,
    pgq := (t.blockFailed n).pgq, mal := (t.blockFailed n).mal } :=
  congrArg (fun x : State => { x with sys := (t.blockFailed n).sys }) h

/-- Floors that must rise when an engine is lost are noted in the page contexts and reported (R100). -/
theorem State.engineLost_frame (s : State) : s.engineLost = { s with
    out := s.engineLost.out, hif := s.engineLost.hif, evt := s.engineLost.evt, pgq := s.engineLost.pgq } := by
  refine List.foldlRecOn (motive := fun t : State => t = { s with out := t.out, hif := t.hif, evt := t.evt, pgq := t.pgq }) _ _ rfl ?_
  intro t ht id _
  rw [ht]
  dsimp only
  split
  · obtain ⟨_, _, _, _, hevent⟩ := State.pageEvent_frame ..
    rw [hevent]
    rfl
  · rfl

theorem State.engine_congr {s t : State} (h : t.mal = s.mal) (e : Nat) : t.engine e = s.engine e := by
  simp only [State.engine, h]

theorem State.leaveService_mal (s : State) (e cause : Nat) :
    (s.leaveService e cause).mal = (s.modEngine e (fun g => { g with outCause := cause })).mal := by
  rw [State.leaveService, State.engineLost_frame]

theorem State.leaveService_frame (s : State) (e cause : Nat) : s.EngineLeaves (s.leaveService e cause) := by
  refine .trans (t := s.modEngine e (fun g => { g with outCause := cause })) rfl ?_
  unfold State.EngineLeaves State.leaveService
  rw [State.engineLost_frame]

theorem State.leaveService_engine (s : State) (e cause : Nat) : (s.leaveService e cause).engine e = { s.engine e with outCause := cause } :=
  (State.engine_congr (s.leaveService_mal e cause) e).trans (s.engine_modEngine e _)

theorem State.leaveService_engine_ne (s : State) {e q : Nat} (hq : q ≠ e) (cause : Nat) : (s.leaveService e cause).engine q = s.engine q :=
  (State.engine_congr (s.leaveService_mal e cause) q).trans (s.engine_setEngine_ne hq _)

/-- OFFLINE takes effect at once in an engine that holds no beat. -/
theorem exec_engineOffline_idle {s : State} {e : Fin 64} (hin : (s.engine e).outCause = 0) (h0 : (s.engine e).ctx0 = none)
    (h1 : (s.engine e).ctx1 = none) : ∃ t, exec (.engineOffline e true) s = .next t ∧
      t = { s with out := t.out, hif := t.hif, evt := t.evt, pgq := t.pgq, mal := t.mal } ∧ (t.engine e).offline = true ∧ (t.engine e).outCause = 1 ∧
      (t.engine e).ctx0 = none ∧ t.mal.queued = s.mal.queued ∧ (∀ q : Fin 64, q ≠ e → t.engine q = s.engine q) := by
  have hon : (s.modEngine e (fun g => { g with offline := true })).engine e = { s.engine e with offline := true } := State.engine_modEngine ..
  have hdue : s.writeOffline e true = (s.modEngine e (fun g => { g with offline := true })).leaveService e 1 :=
    if_pos (by rw [hon]; exact ⟨rfl, hin, h0, h1⟩)
  have hself : (s.writeOffline e true).engine e = { s.engine e with offline := true, outCause := 1 } := by
    rw [hdue, State.leaveService_engine, hon]
  have hleave := (s.modEngine e (fun g => { g with offline := true })).leaveService_frame e 1
  refine ⟨s.writeOffline e true, rfl, ?_, by rw [hself], by rw [hself], by rw [hself]; exact h0, ?_, fun q hq => ?_⟩
  · rw [hdue]
    exact State.EngineLeaves.trans (t := s.modEngine e (fun g => { g with offline := true })) rfl hleave
  · rw [hdue, State.leaveService_mal]
    rfl
  · have hne : (q : Nat) ≠ e := fun h => hq (Fin.ext h)
    rw [hdue, State.leaveService_engine_ne _ hne]
    exact State.engine_setEngine_ne _ hne _

/-- An engine that is out of service hands its beats on and holds none, as beats go to engines in service alone (R143). -/
theorem State.handOn_frame {s : State} {e : Nat} (hout : s.inService e = false) :
    s.EngineLeaves (s.handOn e) ∧ (s.handOn e).engine e = { s.engine e with ctx0 := none, ctx1 := none } := by
  unfold State.handOn
  extract_lets g bs s₁
  have hself : s₁.engine e = { s.engine e with ctx0 := none, ctx1 := none } := State.engine_setEngine ..
  have htaken := (s₁.modMal (fun m => { m with queued := bs.map (fun b => { b with handed := true }) ++ m.queued })).assignBeats_beatsTaken
  refine ⟨.trans (t := s₁.modMal _) rfl htaken.engineLeaves, ((htaken.2 e).2 ?_).trans hself⟩
  change ((s₁.engine e).outCause == 0) = false
  rw [hself]
  exact hout

theorem bit_add_two_pow {v n : Nat} (h : bit v n = false) : bit (v + 2 ^ n) n = true := by
  simp only [bit, decide_eq_false_iff_not, decide_eq_true_eq, Nat.add_div_right v (Nat.two_pow_pos n)] at h ⊢
  omega

theorem State.blockFailed_mal (s : State) (n : Nat) : (s.blockFailed n).mal = s.mal := rfl

theorem State.bit_blockFailed (s : State) (n : Nat) : bit (s.blockFailed n).sys.failed n = true := by
  simp only [State.blockFailed, State.modSys_sys]
  split
  next h => exact h
  next h => exact bit_add_two_pow (by simpa using h)

theorem State.failEngine_frame (s : State) (e : Nat) {cause : Nat} (hcause : cause ≠ 0) : s.failEngine e cause = { s with
      out := (s.failEngine e cause).out, sys := (s.failEngine e cause).sys, hif := (s.failEngine e cause).hif, evt := (s.failEngine e cause).evt,
      pgq := (s.failEngine e cause).pgq, mal := (s.failEngine e cause).mal } ∧
    (s.failEngine e cause).engine e = { s.engine e with outCause := cause, ctx0 := none, ctx1 := none } ∧
    bit (s.failEngine e cause).sys.failed 4 = true := by
  have hself := s.leaveService_engine e cause
  obtain ⟨hhand, hempty⟩ := State.handOn_frame (s := s.leaveService e cause) (e := e) (by simp [State.inService, hself, hcause])
  rw [hself] at hempty
  unfold State.failEngine
  exact ⟨((s.leaveService_frame e cause).trans hhand).blockFailed 4, (State.engine_congr (State.blockFailed_mal _ 4) e).trans hempty, State.bit_blockFailed _ 4⟩

/-- A beat that overruns its watchdog and does not end in this tick takes its engine out of service. -/
theorem exec_engineWatchdog_overrun {s : State} {e : Fin 64} {b : Beat} (hin : s.inService e = true) (hctx : (s.engine e).ctx0 = some b)
    (hover : 2 * b.cost + 4096 < 6 * b.ran) (hends : s.arrives (· == .engineBeatDone e) = false) :
    exec (.engineWatchdog e) s = .next (s.failEngine e 3) := by
  change execEngineWatchdog e s = _
  simp [execEngineWatchdog, State.beatEnds, beatOverrun, hin, hctx, hover, hends]

end Sys2Proof.Machine

open Sys2Proof Sys2Proof.Machine

/-- Settles O21: each event of beats and engines by its lemma. -/
theorem enginesPrepareBeatsAndLeave : Obligations.EnginesPrepareBeatsAndLeave := by
  refine ⟨fun s b hformed hfree hdepth => exec_beatRelease_one hformed hfree hdepth, ?_, ?_,
    fun s e b hcur hctx hdone honline => exec_engineBeatDone_current hcur hctx hdone honline,
    fun s e hin h0 h1 => exec_engineOffline_idle hin h0 h1, ?_⟩
  · intro s e k b fl hpick hreaders hlate hstk
    rw [exec_segmentWrite_of_pick hpick, State.writeSegment_of_no_readers e k fl hreaders (fun l hl => by rw [hl] at hlate; exact hlate) hstk]
  · intro s e k b fl hpick hlost hreaders hlate
    exact exec_segmentWrite_of_memLost hpick hlost hreaders (fun l hl => by rw [hl] at hlate; exact hlate)
  · intro s e b hin hctx hover hends
    obtain ⟨hframe, hself, hbit⟩ := s.failEngine_frame e (cause := 3) (by decide)
    exact ⟨s.failEngine e 3, exec_engineWatchdog_overrun hin hctx hover hends, hframe, congrArg Engine.outCause hself, congrArg Engine.ctx0 hself,
      congrArg Engine.ctx1 hself, hbit⟩

end

section
/-! Fire pacing (R151 to R166): lines that are due, pacing steps, retreats, passes and hold triggers. -/
namespace Sys2Proof.Machine

/-! Lines that are due (R158, R382). -/

theorem State.awaitsRecord_of_shadow {s : State} (h : s.twn.role = .shadow) : s.awaitsRecord = true := by
  simp [State.awaitsRecord, h]

/-- The next line is due within FIRE_LAT. -/
theorem State.dueNow_of_near {s : State} {v : Int} {w d : Nat} (htests : s.testsLines = true) (hretreat : s.fir.retreated = false)
    (hback : s.fallsBack = false) (htick : s.fir.trigTick ≠ some s.tick) (hspeed : s.paceSpeed = (v, w)) (hpos : 0 < s.sigma * v)
    (hdist : s.sigma * (s.duePoint s.fir.nextLine - s.fir.q) = d) (hnear : (d : Int) * w ≤ s.sigma * v * s.fir.cfg.fireLat * 4294967296) :
    s.dueNow = some (24 * (s.pairTick : Int) + max (24 * ((s.fir.cfg.fireLat : Int) - 1)) ((24 * (d : Int) * w).fdiv (s.sigma * v * 4294967296)),
      min (2 ^ 32 - 1) (roundFree (24 * s.fir.cfg.pitch * w) (s.sigma * v * 4294967296).toNat).toNat) := by
  unfold State.dueNow
  dsimp only
  rw [hspeed, hdist]
  exact if_neg (by simp [htests, hretreat, hback, htick, hpos, hnear])

theorem exec_lineTrigger_due {s₀ s : State} (hs : s = s₀.winnersFirst) (hown : s.awaitsRecord = false) {t : Int} {per : Nat}
    (hdue : s.dueNow = some (t, per)) : exec .lineTrigger s₀ = .next (State.writeNotes (s.trigger s.fir.nextLine t per false false
      (s.fir.cfg.scanning && s.fir.nextLine == s.fir.passStart) (s.lineReverse s.fir.nextLine))) := by
  change execLineTrigger s₀ = _
  rw [execLineTrigger, ← hs, State.testLine, hdue]
  simp only [hown, Bool.false_eq_true, if_false]

/-- A shadow keeps what its own FIR predicts. -/
theorem exec_lineTrigger_shadow {s₀ s : State} (hs : s = s₀.winnersFirst) (hrole : s.twn.role = .shadow) (hpred : s.twn.predTick = none) {t : Int}
    {per : Nat} (hdue : s.dueNow = some (t, per)) :
    exec .lineTrigger s₀ = .next (s.modTwn (fun w => { w with predTick := some s.tick, predDue := t, predPer := per })).writeNotes := by
  change execLineTrigger s₀ = _
  rw [execLineTrigger, ← hs, State.testLine, hdue]
  simp only [State.awaitsRecord_of_shadow hrole, hpred, if_true, Option.isSome_none, Bool.false_eq_true, if_false]

/-! Pacing steps (R151, R153). -/

/-- Between passes the high-water mark waits (R165). -/
theorem State.markWater_of_between {s : State} (h : s.fir.between = true) : s.markWater = s := if_pos (by simp [h])

/-- A step of a running FIR between passes moves Q by R_EFF. -/
theorem State.stepEdge_between {s : State} (hpaced : s.fir.paced = true) (hbetween : s.fir.between = true) (hfirst : s.fir.lastEdge = none)
    (fwd : Bool) {d : Int} (hd : d = if (fwd != s.fir.cfg.dirInvert) then 1 else -1) :
    s.stepEdge fwd = s.modFir (fun f => { f with
      lastEdge := some s.tick, lastDir := d, planSteps := f.planSteps + d, q := f.q + roundFree (d * s.rEff) 2147483648 }) := by
  have hne : d ≠ 0 := by rw [hd]; split <;> decide
  unfold State.stepEdge State.addSteps
  dsimp only
  rw [← hd, if_neg hne, State.markWater_of_between (by simpa using hbetween)]
  simp only [State.modFir, hpaced, hfirst, if_true]
  rfl

theorem exec_paceStepEdge_rise {s : State} {x : List (Fin 4)} {fwd : Bool} (hlow : s.fir.stepLevel = false)
    (hhigh : filterLine 2 false (x.map (fun y => bit y.val 0)) = true) (hdir : paceDir x = some fwd) (hsource : s.fir.cfg.source = 2) :
    exec (.paceStepEdge x) s = .next ((s.modFir (fun f => { f with stepLevel := true })).stepEdge fwd) := by
  change execPaceStepEdge x s = _
  simp [execPaceStepEdge, hlow, hhigh, hdir, hsource]

theorem exec_paceStepEdge_level {s : State} {x : List (Fin 4)} (h : filterLine 2 s.fir.stepLevel (x.map (fun y => bit y.val 0)) = s.fir.stepLevel) :
    exec (.paceStepEdge x) s = .next s := by
  have hkept : s.modFir (fun f => { f with stepLevel := s.fir.stepLevel }) = s := rfl
  change execPaceStepEdge x s = _
  simp [execPaceStepEdge, h, hkept]

/-! Retreats, passes and hold triggers (R157, R165, R166). -/

theorem exec_retreat_once {s₀ s : State} (hs : s = s₀.winnersFirst) (htests : s.testsLines = true) (hretreat : s.fir.retreated = false)
    (hback : s.fallsBack = true) : exec .retreat s₀ = .next ((s.modFir (fun f => { f with
      retreated := true, retreats := satAdd 32 f.retreats 1 })).raise 0x0502 0
        (leBytes 6 s.fir.nextLine ++ [b2n (s.lineReverse s.fir.nextLine), 0] ++ leInt 8 (s.fir.hwm.fdiv 4294967296))) := by
  change execRetreat s₀ = _
  rw [execRetreat, ← hs, State.testRetreat, if_pos (by simp [htests, hretreat, hback])]
  rfl

theorem exec_passArm_before {s : State} (hpaced : s.fir.paced = true) (hbetween : s.fir.between = true) (hhold : s.fir.holding = false)
    (hstate : s.fir.state = .hold) (hsource : s.fir.cfg.source < 3)
    (hdist : (s.fir.cfg.pitch : Int) ≤ s.sigma * s.duePoint s.fir.passStart - s.sigma * s.fir.q) :
    exec .passArm s = .next (s.modFir (fun f => { f with between := false, hwm := s.sigma * s.fir.q, retreated := false, state := .running })) := by
  change execPassArm s = _
  unfold execPassArm
  dsimp only
  rw [if_pos (by simp [hpaced, hbetween, hhold, hsource, hdist])]
  simp only [State.modFir, hstate]
  rfl

/-- A hold trigger is due once per floor. -/
theorem State.testHold_due {s : State} (hpaced : s.fir.paced = true) (hhold : s.fir.holding = true) (hsource : s.fir.cfg.source < 3)
    (htick : s.fir.trigTick ≠ some s.tick) (hfloor : s.floorAt s.fir.nextLine ≤ 24 * (s.tick - s.fir.holdTick)) :
    s.testHold = if s.awaitsRecord then s.predict 0 (s.floorAt s.fir.nextLine) 0x40
      else (s.modFir (fun x => { x with holdTick := s.tick })).trigger s.fir.nextLine 0 (s.floorAt s.fir.nextLine) false true false false :=
  if_pos (by simp [hpaced, hhold, hsource, htick, hfloor])

theorem State.predict_first {s : State} (h : s.twn.predTick = none) (t : Int) (per flags : Nat) : s.predict t per flags =
    s.modTwn (fun w => { w with predTick := some s.tick, predDue := t, predPer := per, predFlags := some flags }) :=
  if_neg (by simp [h])

end Sys2Proof.Machine

open Sys2Proof Sys2Proof.Machine

/-- Settles O24: each command takes the branch of its test that its hypotheses select. -/
theorem linesAreTriggeredWhenDue : Obligations.LinesAreTriggeredWhenDue := by
  refine ⟨?due, fun s₀ s hs hrole hpred t per hdue => exec_lineTrigger_shadow hs hrole hpred hdue, ?step,
    fun s x h => exec_paceStepEdge_level h,
    fun s₀ s hs htests hretreat hback => exec_retreat_once hs htests hretreat (decide_eq_true hback),
    fun s hpaced hbetween hhold hstate hsource hdist => exec_passArm_before hpaced hbetween hhold hstate hsource hdist, ?hold, ?predict⟩
  case due =>
    intro s₀ s v w d hs hown htests hretreat hback htick hspeed hpos hdist hnear
    exact exec_lineTrigger_due hs hown (State.dueNow_of_near htests hretreat hback htick hspeed hpos hdist hnear)
  case step =>
    intro s x fwd hlow hhigh hdir hsource hpaced hbetween hfirst
    rw [exec_paceStepEdge_rise hlow hhigh hdir hsource,
      State.stepEdge_between (s := s.modFir (fun f => { f with stepLevel := true })) hpaced hbetween hfirst fwd rfl]
    exact ⟨_, rfl, rfl, rfl, rfl, rfl, rfl, rfl⟩
  case hold =>
    intro s₀ s hs hpaced hhold hsource htick hown hfloor
    change execHoldTrigger s₀ = _
    rw [execHoldTrigger, ← hs, State.testHold_due hpaced hhold hsource htick hfloor, hown]
    rfl
  case predict =>
    intro s₀ s hs hpaced hhold hsource htick hrole hpred hfloor
    change execHoldTrigger s₀ = _
    rw [execHoldTrigger, ← hs, State.testHold_due hpaced hhold hsource htick hfloor, State.awaitsRecord_of_shadow hrole, if_pos rfl,
      State.predict_first hpred]

end

section
/-! The Gong bus (R167 to R170) and GONG_HALT_N (R171, R428): frames that arrive and leave, a follower that loses its master, and the line that
stops the press. -/
namespace Sys2Proof.Machine

/-! Frames that arrive (R167, R169). -/

theorem exec_gongFrameRx {s₀ s : State} (hs : s = s₀.winnersFirst) (a : Nat) (b : List Byte) :
    exec (.gongFrameRx a b) s₀ = .next (s.takeGong a b).writeNotes := by
  rw [hs]
  rfl

theorem State.takeGong_ignored {s : State} {b : List Byte} (h : s.gng.rxEn = false ∨ s.gng.rxLock = false ∨ b.length ≠ 17) (a : Nat) :
    s.takeGong a b = s :=
  if_pos (by simpa [or_assoc] using h)

/-- What a good frame notes of itself. -/
def Fir.heard (f : Fir) (b : List Byte) (tick : Nat) : Fir := { f with goodFrameAt := some tick, goodLine := u48 b 2, goodSeq := u8 b 15 }

section
variable {s : State} {b : List Byte} (hen : s.gng.rxEn = true) (hlock : s.gng.rxLock = true) (hlen : b.length = 17)
include hen hlock hlen

theorem State.takeGong_bad (hcrc : crc8 ((b.drop 1).take 15) ≠ u8 b 16) (a : Nat) :
    s.takeGong a b = s.modFir (fun f => { f with gongCrc := satAdd 16 f.gongCrc 1 }) := by
  have hbad : goodGong b = false := by rw [goodGong, beq_false_of_ne hcrc, Bool.and_false]
  unfold State.takeGong
  rw [if_neg (by simp [hen, hlock, hlen]), if_pos (by simp [hbad])]

theorem State.takeGong_good (hcrc : crc8 ((b.drop 1).take 15) = u8 b 16) (a : Nat) : s.takeGong a b =
    (if s.fir.role = 2 ∧ u8 b 1 % 16 = 1 then (s.modFir (fun f => f.heard b s.tick)).gongLine a b
     else if s.fir.role = 2 ∧ u8 b 1 % 16 = 3 ∧ (s.fir.paced = true ∨ s.fir.state = .halted) then (s.modFir (fun f => f.heard b s.tick)).stopNow
     else s.modFir (fun f => f.heard b s.tick)) := by
  have hgood : goodGong b = true := by rw [goodGong, hcrc, hlen, beq_self_eq_true, beq_self_eq_true, Bool.and_self]
  unfold State.takeGong
  rw [if_neg (by simp [hen, hlock, hlen]), if_neg (by simp [hgood])]
  extract_lets t
  have hrole : t.fir.role = s.fir.role := rfl
  have hpaced : t.fir.paced = s.fir.paced := rfl
  have hstate : t.fir.state = s.fir.state := rfl
  have ht : s.modFir (fun f => f.heard b s.tick) = t := rfl
  rw [ht, hrole, hpaced, hstate]
  generalize u8 b 1 % 16 = type
  split
  · simp
  · simp
  next h1 h3 => rw [if_neg fun h => h1 h.2, if_neg fun h => h3 h.2.1]

end

/-- A line frame of a line that FIR has triggered, or while it does not pace by the Gong bus, does nothing more. -/
theorem State.gongLine_ignored {s : State} {b : List Byte}
    (h : s.fir.paced = false ∨ s.fir.cfg.source ≠ 3 ∨ ∃ l, s.fir.lastLine = some l ∧ u48 b 2 ≤ l) (a : Nat) : s.gongLine a b = s := by
  unfold State.gongLine
  extract_lets line flags seen
  refine if_pos ?_
  obtain h | h | ⟨l, hlast, hle⟩ := h
  · simp [h]
  · simp [h]
  · have hseen : seen = true := by simp [seen, line, hlast, hle]
    simp [hseen]

/-- The lines that a gap in the frames has skipped are counted (R169). -/
def Fir.passedLine (f : Fir) (line flags gap : Nat) : Fir :=
  { f.gongPass line (bit flags 5) (bit flags 4) with gongMissed := satAdd 16 f.gongMissed gap, nextLine := line }

theorem State.gongLine_taken {s : State} {b : List Byte} {gap : Nat} (hpaced : s.fir.paced = true) (hsource : s.fir.cfg.source = 3)
    (hnew : ∀ l, s.fir.lastLine = some l → l < u48 b 2) (hfirst : (∀ t, s.fir.trigTick = some t → t ≤ s.fir.startTick) → gap = 0)
    (hgap : ∀ t, s.fir.trigTick = some t → s.fir.startTick < t → gap = u48 b 2 - s.fir.nextLine) (a : Nat) :
    s.gongLine a b = (if s.awaitsRecord then
        (s.modFir (fun f => f.passedLine (u48 b 2) (u8 b 1) gap)).predict ((a : Int) + u24 b 8 - s.gng.linkDelay) (u32 b 11) (u8 b 1)
      else (s.modFir (fun f => f.passedLine (u48 b 2) (u8 b 1) gap)).trigger (u48 b 2) ((a : Int) + u24 b 8 - s.gng.linkDelay) (u32 b 11)
        (bit (u8 b 1) 7) (bit (u8 b 1) 6) (bit (u8 b 1) 5) (bit (u8 b 1) 4)) := by
  unfold State.gongLine
  extract_lets line flags seen missed rev u due
  have hseen : seen = false := by
    simp only [seen]
    split
    next l hl => exact decide_eq_false (Nat.not_le.2 (hnew l hl))
    next => rfl
  have hmissed : missed = gap := by
    simp only [missed]
    split
    next u hu =>
      split
      next hlt => exact (hgap u hu hlt).symm
      next hle => exact (hfirst fun v hv => by rw [hu] at hv; cases hv; exact Nat.not_lt.1 hle).symm
    next hnone => exact (hfirst fun v hv => by rw [hnone] at hv; cases hv).symm
  have hu : u = s.modFir (fun f => f.passedLine (u48 b 2) (u8 b 1) gap) := by
    simp only [u, hmissed]
    rfl
  rw [if_neg (by simp [hseen, hpaced, hsource]), hu]
  rfl

/-- FIR of a follower that a good line frame has moved on, written out. -/
theorem Fir.passedLine_heard (f : Fir) (b : List Byte) (tick gap : Nat) : (f.heard b tick).passedLine (u48 b 2) (u8 b 1) gap = { f with
    goodFrameAt := some tick, goodLine := u48 b 2, goodSeq := u8 b 15, nextLine := u48 b 2, gongMissed := min (2 ^ 16 - 1) (f.gongMissed + gap),
    passStart := if bit (u8 b 1) 5 then u48 b 2 else f.passStart, firstDir := if bit (u8 b 1) 5 then b2n (bit (u8 b 1) 4) else f.firstDir,
    passNo := if bit (u8 b 1) 5 then 0 else f.passNo, between := !bit (u8 b 1) 5 && f.between, holding := !bit (u8 b 1) 5 && f.holding,
    state := if bit (u8 b 1) 5 then (if f.state = .halted then .halted else .running) else f.state } := by
  simp only [Fir.passedLine, Fir.gongPass, Fir.heard, satAdd]
  cases bit (u8 b 1) 5 <;> rfl

/-! Stopping (R169, R174). -/

theorem State.sendGong_of_no_master {s : State} (h : s.fir.role ≠ 1) (wait flags line : Nat) (t : Option Int) (per : Nat) :
    s.sendGong wait flags line t per = s := if_pos h

theorem State.stopPacing_fir {s : State} (h : s.fir.role ≠ 1) : s.stopPacing.fir = { s.fir with
    paced := false, between := false, holding := false, retreated := false, stopWait := [], c := 0, cFrac := 0,
    state := if s.fir.state = .halted then .halted else .stopped } := by
  unfold State.stopPacing
  extract_lets waits was t u v
  have hsend : u = t := by
    simp only [u]
    split
    · exact State.sendGong_of_no_master (s := t) h ..
    · rfl
  rw [State.completeAll_fir, State.modTwn_fir, hsend]
  rfl

/-- A follower's pacing stops also in HALTED. -/
theorem State.stopNow_fir {s : State} (h : s.fir.role ≠ 1) : s.stopNow.fir = { s.fir with
    paced := false, between := false, holding := false, retreated := false, stopWait := [], c := 0, cFrac := 0, state := .stopped } := by
  unfold State.stopNow
  split
  next => rw [State.stopPacing_fir (s := s.modFir (fun f => { f with state := .stopped })) h]; rfl
  next hstate => rw [State.stopPacing_fir h, if_neg hstate]

/-! IDLE frames (R168) and a master that is not heard (R170). -/

/-- The last frame of a master that is due to send IDLE has left the wire. -/
theorem State.gongStart_of_idle {s : State} (h : ∀ t, s.fir.gongSentAt = some t → t + 1085 ≤ s.tick) : s.gongStart 0 = s.tick := by
  unfold State.gongStart
  split
  next t ht =>
    have := h t ht
    omega
  next => rfl

theorem exec_gongIdleSend_due {s : State} (hrole : s.fir.role = 1) (hsent : ∀ t, s.fir.gongSentAt = some t → t + 1085 ≤ s.tick)
    (hnone : s.fir.gongSentAt = none → 1000 ≤ s.tick) :
    exec .gongIdleSend s = .next (s.sendGong 0 2 (s.fir.lastLine.getD 0) none 0) := by
  change execGongIdleSend s = _
  unfold execGongIdleSend
  extract_lets due
  have hdue : due = true := by
    simp only [due]
    split
    next t ht => exact decide_eq_true (hsent t ht)
    next h => exact decide_eq_true (hnone h)
  exact if_pos ⟨hrole, hdue⟩

theorem exec_gongIdleSend_early {s : State} (h : s.fir.role ≠ 1 ∨ (∃ t, s.fir.gongSentAt = some t ∧ s.tick < t + 1085) ∨
    (s.fir.gongSentAt = none ∧ s.tick < 1000)) : exec .gongIdleSend s = .next s := by
  change execGongIdleSend s = _
  unfold execGongIdleSend
  extract_lets due
  refine if_neg fun ⟨hrole, hdue⟩ => ?_
  obtain h | ⟨t, ht, hlt⟩ | ⟨hnone, hlt⟩ := h
  · exact h hrole
  · simp [due, ht] at hdue
    omega
  · simp [due, hnone] at hdue
    omega

theorem State.sendGong_idle {s : State} (hrole : s.fir.role = 1) (hsent : ∀ t, s.fir.gongSentAt = some t → t + 1085 ≤ s.tick) (line : Nat) :
    ∀ u, u = s.modFir (fun f => { f with gongSentAt := some s.tick, gongSeq := wrapAdd 8 f.gongSeq 1 }) →
    s.sendGong 0 2 line none 0 = if s.twn.role.acting then u.emit (.gong (gongFrame 2 line 0 0 s.fir.gongSeq)) else u := by
  rintro _ rfl
  unfold State.sendGong
  rw [if_neg (by simp [hrole]), State.gongStart_of_idle hsent]
  rfl

theorem exec_gongLost_late {s : State} (hrole : s.fir.role = 2) (hpaced : s.fir.paced = true)
    (hlate : ∀ t, s.fir.goodFrameAt = some t → t + 4000 ≤ s.tick) (hnone : s.gongArrives = false) : exec .gongLost s = .next
      (((s.raise 0x0504 0 (leBytes 6 s.fir.goodLine ++ [s.fir.goodSeq] ++ zeros 9)).stopPacing).driveHalt 0) := by
  change execGongLost s = _
  unfold execGongLost
  extract_lets late
  have htrue : late = true := by
    simp only [late]
    split
    next t ht => exact decide_eq_true (hlate t ht)
    next => rfl
  exact if_pos ⟨hrole, hpaced, htrue, hnone⟩

theorem exec_gongLost_heard {s : State} (h : s.fir.role ≠ 2 ∨ s.fir.paced = false ∨ (∃ t, s.fir.goodFrameAt = some t ∧ s.tick < t + 4000) ∨
    s.gongArrives = true) : exec .gongLost s = .next s := by
  change execGongLost s = _
  unfold execGongLost
  extract_lets late
  refine if_neg fun ⟨hrole, hpaced, hlate, hnone⟩ => ?_
  obtain h | h | ⟨t, ht, hlt⟩ | h := h
  · exact h hrole
  · simp [h] at hpaced
  · simp [late, ht] at hlate
    omega
  · simp [h] at hnone

theorem State.driveHalt_fir (s : State) (cause : Nat) : (s.driveHalt cause).fir = { s.fir with
    haltDrive := true, haltCause := if s.fir.haltDrive then s.fir.haltCause else cause } := by
  unfold State.driveHalt
  cases h : s.fir.haltDrive
  · rfl
  · simp [← h]

/-! GONG_HALT_N (R171, R428). -/

theorem exec_gongHalt_high {s : State} {b : List Bool} (h : filterLine 2 true b = true) : exec (.gongHalt b) s = .next s := by
  change execGongHalt b s = _
  rw [execGongHalt, if_pos h]

/-- Two samples that find the line low: an assertion that no drive of this device accounts for is another device's. -/
theorem exec_gongHalt_low {s : State} {b : List Bool} (h : filterLine 2 true b = false) :
    exec (.gongHalt b) s = .next (if s.haltPending then s else s.modGng (fun g => { g with otherLow := true })).haltAsserted := by
  change execGongHalt b s = _
  rw [execGongHalt, if_neg (by simp [h])]

theorem State.haltPending_of_recognised {s : State} (hlevel : s.gng.haltLevel = false) (hstate : s.fir.state = .halted) : s.haltPending = false := by
  simp [State.haltPending, hlevel, hstate]

theorem State.haltAsserted_of_recognised {s : State} (hlevel : s.gng.haltLevel = false) (hstate : s.fir.state = .halted) : s.haltAsserted = s :=
  if_pos ⟨hlevel, hstate⟩

/-- What the recognition of an assertion does before the pacing axis stops: FIR is in HALTED, and HALT_ASSERTED names who drives the line. -/
def State.haltNoted (s : State) : State :=
  ((s.modGng (fun g => { g with haltLevel := false, seenOther := false })).modFir (fun f => { f with state := .halted })).raise 0x0505 0
    ([b2n s.fir.haltDrive, if s.fir.haltDrive then s.fir.haltCause else 3] ++ leBytes 6 (s.fir.lastLine.getD 0) ++ zeros 8)

theorem State.pacingAxis_haltNoted (s : State) : s.haltNoted.pacingAxis = s.pacingAxis := by
  simp [State.pacingAxis, State.haltNoted]

theorem State.haltAsserted_new {s : State} (h : s.gng.haltLevel = true ∨ s.fir.state ≠ .halted) : s.haltAsserted =
    (match s.haltNoted.pacingAxis with
     | some x => s.haltNoted.stopAxis x 0 none
     | none => s.haltNoted) :=
  if_neg (by
    rintro ⟨hlevel, hstate⟩
    simp [hlevel, hstate] at h)

theorem State.haltAsserted_first {s : State} (h : s.gng.haltLevel = true ∨ s.fir.state ≠ .halted) :
    (s.pacingAxis = none → s.haltAsserted = s.haltNoted) ∧ (∀ x, s.pacingAxis = some x → s.haltAsserted = s.haltNoted.stopAxis x 0 none) := by
  rw [State.haltAsserted_new h, s.pacingAxis_haltNoted]
  exact ⟨fun hnone => by rw [hnone], fun x hx => by rw [hx]⟩

theorem filterLine_two (old v : Bool) (rest : List Bool) : filterLine 2 old (v :: v :: rest) = v := by
  simp [filterLine]

theorem exec_gongHaltRelease_high {s : State} {b : List Bool} (h : filterLine 2 false b = true) : exec (.gongHaltRelease b) s =
    .next (s.modGng (fun g => { g with
      otherLow := false, haltLevel := if s.fir.haltDrive then g.haltLevel else true,
      seenOther := if s.fir.haltDrive then g.seenOther else false })) := by
  change execGongHaltRelease b s = _
  rw [execGongHaltRelease, if_neg (by simp [h])]
  cases hdrive : s.fir.haltDrive <;> simp [State.modGng, hdrive]

theorem exec_gongHaltRelease_low {s : State} {b : List Bool} (h : filterLine 2 false b = false) : exec (.gongHaltRelease b) s = .next s := by
  change execGongHaltRelease b s = _
  rw [execGongHaltRelease, if_pos h]

end Sys2Proof.Machine

open Sys2Proof Sys2Proof.Machine

/-- Settles O27: each frame, silence or sample takes the branch that its hypotheses select. -/
theorem gongFramesAndHalt : Obligations.GongFramesAndHalt := by
  refine ⟨?ignored, ?bad, ?line, ?other, ?idle, fun s h => exec_gongIdleSend_early h, ?lost, fun s h => exec_gongLost_heard h, ?halt,
    fun s b h => exec_gongHalt_high h, ?known, fun s rest => exec_gongHaltRelease_high (filterLine_two false true rest),
    fun s b h => exec_gongHaltRelease_low h⟩
  case ignored =>
    intro s₀ s a b hs h
    rw [exec_gongFrameRx hs, State.takeGong_ignored h]
  case bad =>
    intro s₀ s a b hs hen hlock hlen hcrc
    rw [exec_gongFrameRx hs, State.takeGong_bad hen hlock hlen hcrc]
    rfl
  case line =>
    rintro s₀ s a gap b hs hen hlock hlen hcrc htype hrole hpaced hsource hnew hfirst hgap _ rfl
    have htaken := State.gongLine_taken (s := s.modFir (fun f => f.heard b s.tick)) hpaced hsource hnew hfirst hgap a
    have hfir : (s.modFir (fun f => f.heard b s.tick)).modFir (fun f => f.passedLine (u48 b 2) (u8 b 1) gap) =
        s.modFir (fun f => (f.heard b s.tick).passedLine (u48 b 2) (u8 b 1) gap) := rfl
    have hawaits : (s.modFir (fun f => f.heard b s.tick)).awaitsRecord = s.awaitsRecord := rfl
    rw [hfir, hawaits] at htaken
    simp only [Fir.passedLine_heard] at htaken
    rw [exec_gongFrameRx hs, State.takeGong_good hen hlock hlen hcrc, if_pos ⟨hrole, htype⟩, htaken]
    refine ⟨fun hown => by rw [hown]; rfl, fun hshadow hpred => ?_, fun hshadow hpred => ?_⟩
    · rw [State.awaitsRecord_of_shadow hshadow, if_pos rfl, State.predict_first (s := s.modFir _) hpred]
      rfl
    · obtain ⟨x, hx⟩ := Option.ne_none_iff_exists'.1 hpred
      rw [State.awaitsRecord_of_shadow hshadow, if_pos rfl, State.predict, if_pos (by simp [hx])]
  case other =>
    rintro s₀ s a b hs hen hlock hlen hcrc _ rfl
    rw [exec_gongFrameRx hs, State.takeGong_good hen hlock hlen hcrc]
    refine ⟨fun htype hrole hrun => ?_, fun h => ?_⟩
    · have hfir := State.stopNow_fir (s := s.modFir (fun f => f.heard b s.tick)) (by simp [Fir.heard, hrole])
      rw [if_neg (by simp [htype]), if_pos ⟨hrole, htype, hrun⟩]
      refine ⟨rfl, ?_⟩
      rw [show (fun f : Fir => { f with goodFrameAt := some s.tick, goodLine := u48 b 2, goodSeq := u8 b 15 }) = fun f => f.heard b s.tick from rfl,
        hfir]
      exact ⟨rfl, rfl, rfl, rfl, rfl⟩
    · by_cases hline : s.fir.role = 2 ∧ u8 b 1 % 16 = 1
      · obtain ⟨hrole, htype⟩ := hline
        rw [if_pos ⟨hrole, htype⟩, State.gongLine_ignored (s := s.modFir _) (by simpa [Fir.heard, hrole, htype] using h)]
        rfl
      · rw [if_neg hline, if_neg ?_]
        · rfl
        · rintro ⟨hrole, htype, hrun⟩
          simp [hrole, htype] at h
          simp [h] at hrun
  case idle =>
    intro s hrole hsent hnone u hu
    rw [exec_gongIdleSend_due hrole hsent hnone, State.sendGong_idle hrole hsent _ u hu]
  case lost =>
    rintro s hrole hpaced hlate hnone _ rfl
    have hfir := State.stopPacing_fir (s := s.raise 0x0504 0 (leBytes 6 s.fir.goodLine ++ [s.fir.goodSeq] ++ zeros 9)) (by simp [hrole])
    rw [State.raise_fir] at hfir
    refine ⟨exec_gongLost_late hrole hpaced hlate hnone, ?_⟩
    rw [State.driveHalt_fir, hfir]
    exact ⟨rfl, rfl, fun hdrive => by simp [hdrive], rfl⟩
  case halt =>
    rintro s rest hnew _ rfl _ rfl
    rw [exec_gongHalt_low (filterLine_two true false rest)]
    split
    next =>
      obtain ⟨hnone, hsome⟩ := State.haltAsserted_first hnew
      exact ⟨fun h => by rw [hnone h]; rfl, fun x h => by rw [hsome x h]; rfl⟩
    next =>
      obtain ⟨hnone, hsome⟩ := State.haltAsserted_first (s := s.modGng (fun g => { g with otherLow := true })) hnew
      exact ⟨fun h => by rw [hnone h]; rfl, fun x h => by rw [hsome x h]; rfl⟩
  case known =>
    intro s b hlevel hstate hlow
    rw [exec_gongHalt_low hlow, State.haltPending_of_recognised hlevel hstate, if_neg (by simp),
      State.haltAsserted_of_recognised (s := s.modGng (fun g => { g with otherLow := true })) hlevel hstate]

end

section
/-! The records of the pair (R374, R380, R382, R384, R385): what a LINE, INPUT, CHANGE, ACK, COMMIT or COPY record does to the twin that
receives it. -/
namespace Sys2Proof.Machine

theorem State.hears_of_running_up {s : State} (hrun : s.running = true) (hup : s.twn.link = .up) : s.hears = true := by
  simp [State.hears, hrun, hup]

/-! LINE records (R382, R389). -/

theorem State.takesLines_iff (s : State) :
    s.takesLines = true ↔ s.twn.role = .shadow ∨ (s.twn.role = .lead ∧ s.tick < s.twn.lateUntil) := by
  simp [State.takesLines]

theorem State.takeLine_of_hears {s : State} (hh : s.hears = true) (ht : s.takesLines = true) (hp : s.fir.paced = true) (b : List Byte) :
    s.takeLine b =
      if u48 b 0 < s.fir.nextLine then
        ({ s with copySince := s.copySince ++ [(s.pairTick, TwinRec.line b)] }).modTwn (fun t => { t with lateLines := satAdd 12 t.lateLines 1 })
      else ({ s with copySince := s.copySince ++ [(s.pairTick, TwinRec.line b)] }).lineFromRecord b :=
  if_neg (by simp [hh, ht, hp])

theorem exec_lineRecordRx {s₀ s : State} (hs : s = s₀.winnersFirst) (b : List Byte) :
    exec (.lineRecordRx b) s₀ = .next (s.takeLine b).writeNotes := by
  rw [hs]
  rfl

/-! A line that a shadow triggers by itself (R382). -/

theorem exec_shadowLineTimeout {s₀ s : State} (hs : s = s₀.winnersFirst) :
    exec .shadowLineTimeout s₀ = .next s.testOwnLine.writeNotes := by
  rw [hs]
  rfl

section
variable {s : State} {x : Nat} (hpred : s.twn.predTick = some x) (hrun : s.running = true) (hpaced : s.fir.paced = true)
  (hlate : x + 128 ≤ s.tick) (hnone : s.lineArrives = false)
include hpred hrun hpaced hlate hnone

theorem State.testOwnLine_paced (hflags : s.twn.predFlags = none) : s.testOwnLine =
    s.trigger s.fir.nextLine s.twn.predDue s.twn.predPer false false (s.fir.cfg.scanning && s.fir.nextLine == s.fir.passStart)
      (s.lineReverse s.fir.nextLine) := by
  have hlt : ¬ s.tick < x + 128 := Nat.not_lt.mpr hlate
  simp [State.testOwnLine, hpred, hrun, hpaced, hlt, hnone, hflags]

theorem State.testOwnLine_flagged {g : Nat} (hflags : s.twn.predFlags = some g) : s.testOwnLine =
    (s.modFir (fun f => { f with holdTick := if bit g 6 then s.tick else f.holdTick })).trigger s.fir.nextLine s.twn.predDue s.twn.predPer
      (bit g 7) (bit g 6) (bit g 5) (bit g 4) := by
  have hlt : ¬ s.tick < x + 128 := Nat.not_lt.mpr hlate
  simp [State.testOwnLine, hpred, hrun, hpaced, hlt, hnone, hflags]

end

/-! INPUT records (R374, R384). -/

/-- The level of a switch that a record gives. -/
def Switch.follow (q : Switch) (b : Bool) : Switch := if q.level = b then q else { q with level := b }

@[simp] theorem Switch.follow_level (q : Switch) (b : Bool) : (q.follow b).level = b := by
  by_cases h : q.level = b <;> simp [Switch.follow, h]

/-- The switch inputs of a list take their levels from a mask. -/
def State.followSwitches (s : State) (m : Nat) (l : List Nat) : State :=
  l.foldl (fun s w => s.modSwitchIn w (fun q => q.follow (bit m w))) s

/-- What a state becomes while only switches take levels. -/
structure State.SwitchesFollow (m : Nat) (s t : State) : Prop where
  frame : t = { s with enc := t.enc }
  chans : t.enc.chans = s.enc.chans

theorem State.followSwitches_follow (s : State) (m : Nat) (l : List Nat) : State.SwitchesFollow m s (s.followSwitches m l) :=
  List.foldlRecOn l _ ⟨rfl, rfl⟩ fun t ht w _ => ⟨by rw [ht.frame]; rfl, ht.chans⟩

/-- A switch of the list has the level of the mask. -/
theorem State.followSwitches_level (m : Nat) (l : List Nat) : ∀ (s : State) (w : Nat),
    (w ∈ l ∨ (s.switchIn w).level = bit m w) → ((s.followSwitches m l).switchIn w).level = bit m w := by
  induction l with
  | nil => simp [State.followSwitches]
  | cons k l ih =>
    intro s w h
    refine ih _ w ?_
    by_cases hk : w = k
    · subst hk
      exact .inr (by simp)
    · have hsame := State.switchIn_setSwitchIn_ne s hk ((s.switchIn k).follow (bit m k))
      exact (h.imp_left fun h => (List.mem_cons.mp h).resolve_left hk).imp_right fun h => (congrArg Switch.level hsame).trans h

theorem State.foldl_modColour_eq (s : State) (f : Nat → Colour → Colour) (l : List Nat) :
    ∃ v, l.foldl (fun s k => s.modColour k (f k)) s = { s with led := v } :=
  List.foldlRecOn (motive := fun t : State => ∃ v, t = { s with led := v }) l _ ⟨s.led, rfl⟩ fun t ht k _ => by
    obtain ⟨v, rfl⟩ := ht
    exact ⟨_, rfl⟩

/-- The difference that a shadow keeps makes the count it sees the lead's. -/
theorem State.seenChan_count {s : State} (h : s.twn.role = .shadow) (k : Nat) :
    (s.seenChan k).count = (s.chan k).count + (s.chan k).copyDiff := by
  simp [State.seenChan, h]

theorem State.takeInputs_one_eq (s : State) (k : Nat) (n : Int) (m : Nat) :
    s.takeInputs { counts := [(k, n)], switches := m, probes := [], adc := [], colours := [] } =
      (List.range 8).foldl (fun s k => s.modColour k (fun c => { c with lead := none }))
        ((s.modChan k (fun c => { c with copyDiff := n - c.count })).followSwitches m (List.range 16)) := by
  simp only [State.takeInputs, State.followSwitches, Switch.follow, List.foldl_cons, List.foldl_nil, List.find?_nil, Option.map_none]

theorem State.takeInputs_one (s : State) (k : Nat) (n : Int) (m : Nat) :
    ∃ e v, s.takeInputs { counts := [(k, n)], switches := m, probes := [], adc := [], colours := [] } = { s with enc := e, led := v } ∧
      (e.chans.get {} k).count + (e.chans.get {} k).copyDiff = n ∧ ∀ w < 16, (e.switches.get {} w).level = bit m w := by
  obtain ⟨v, hv⟩ := State.foldl_modColour_eq ((s.modChan k (fun c => { c with copyDiff := n - c.count })).followSwitches m (List.range 16))
    (fun _ c => { c with lead := none }) (List.range 8)
  have hsw := State.followSwitches_follow (s.modChan k (fun c => { c with copyDiff := n - c.count })) m (List.range 16)
  have hlevel := State.followSwitches_level m (List.range 16) (s.modChan k (fun c => { c with copyDiff := n - c.count }))
  rw [State.takeInputs_one_eq, hv]
  generalize State.followSwitches _ m (List.range 16) = t at hsw hlevel ⊢
  refine ⟨t.enc, v, by rw [hsw.frame]; rfl, ?_, fun w hw => hlevel w (.inl (List.mem_range.mpr hw))⟩
  rw [hsw.chans]
  simp [State.modChan, State.setChan]

theorem State.takeInputs_one_seen {s : State} (hr : s.twn.role = .shadow) (k : Nat) (n : Int) (m : Nat) :
    ∃ t, s.takeInputs { counts := [(k, n)], switches := m, probes := [], adc := [], colours := [] } = t ∧
      t = { s with enc := t.enc, led := t.led } ∧ (t.seenChan k).count = n ∧ ∀ w < 16, (t.switchIn w).level = bit m w := by
  obtain ⟨e, v, h, hcount, hlevel⟩ := State.takeInputs_one s k n m
  exact ⟨_, h, rfl, (State.seenChan_count (s := { s with enc := e, led := v }) hr k).trans hcount, hlevel⟩

theorem exec_inputRecordRx {s : State} (hh : s.hears = true) (hr : s.twn.role = .shadow) (r : InputRec) :
    exec (.inputRecordRx r) s = .next (({ s with copySince := s.copySince ++ [(s.pairTick, TwinRec.input r)] }).takeInputs r) :=
  if_neg (by simp [hh, hr])

/-! Mirrored commands (R380). -/

theorem exec_changeRecordRx {s : State} (hh : s.hears = true) (hr : s.twn.role = .shadow) (tag : Nat) (p : List Byte) (d : HostRead) :
    exec (.changeRecordRx tag p d) s = .next ((s.modTwn (fun t => { t with
      mirrored := t.mirrored.filter (fun x => x.tag ≠ tag) ++ [{ tag := tag, packet := pad 64 p, host := d }] })).sendTwin (.ack tag)) :=
  if_neg (by simp [hh, hr])

theorem exec_ackRecordRx {s : State} (hh : s.hears = true) {tag n : Nat} {c : Cmd} (h : s.mirroring tag = some (c, n, none)) :
    exec (.ackRecordRx tag) s =
      .next ((s.setPhase c.id (.mirroring tag n (some (s.pairTick + 128)))).sendTwin (.commit tag (s.pairTick + 128))) := by
  change execAckRecordRx tag s = _
  simp only [execAckRecordRx, h, hh]
  rfl

theorem exec_commitRecordRx {s : State} (hh : s.hears = true) (tag n : Nat) :
    exec (.commitRecordRx tag n) s =
      .next (s.modTwn (fun t => { t with mirrored := t.mirrored.map (fun m => if m.tag = tag then { m with commit := some n } else m) })) :=
  if_neg (by simp [hh])

/-! The copy of a control cycle (R218, R384, R385). -/

theorem State.takeVerdict_twn (s : State) (v : SubVerdict) : (s.takeVerdict v).twn = s.twn := by
  unfold State.takeVerdict
  extract_lets values line cur spent u
  split
  · rfl
  · obtain ⟨o, g, m, w, e, h⟩ := State.foldl_headroomEvent_eq { tables := cur, spent := spent } v.stamp v.verdict (dedup (spent.map dieOfNoz)) u
    exact (congrArg State.twn h).trans rfl

theorem State.takeVerdicts_twn (s : State) (vs : List SubVerdict) : (s.takeVerdicts vs).twn = s.twn :=
  List.foldlRecOn (motive := fun t : State => t.twn = s.twn) vs _ rfl fun t ht v _ => (t.takeVerdict_twn v).trans ht

/-- The parts that the two twins compare do not tell the digests of their substitution tables. -/
theorem copyDiffers_subDigest (off : Int) (x y : Snapshot) (d : Nat) : copyDiffers off x { y with subDigest := d } = copyDiffers off x y := rfl

theorem copyDiffers_count {off : Int} {x y : Snapshot} (h : (copyDiffers off x y).all (fun d => !d) = true) :
    ((copyDiffers off x y).filter id).length = 0 := by
  rw [List.length_eq_zero_iff, List.filter_eq_nil_iff]
  simpa using h

/-- The shadow's own snapshot agrees with the lead's, digests included. -/
theorem exec_copyComplete_equal {s : State} {x : Snapshot} (hh : s.hears = true) (hr : s.twn.role = .shadow) (hown : s.copyOwn = some x)
    (hat : s.twn.copyAt = some x.tick) (hoff : s.twn.offTicks = 0) (hlone : x.lone = false)
    (heq : (copyDiffers 0 x x).all (fun d => !d) = true) (hdig : x.subDigest = (s.takeVerdicts x.verdicts).sub.atCopy.digest) :
    exec (.copyComplete x) s = .next ((s.takeVerdicts x.verdicts).modTwn (fun t => { t with
      fixes := satAdd 12 t.fixes 0, copyAt := none, missedRow := 0, voterOut := x.voter.map driveRow, digestsOk := true,
      digestBad := t.digestBad.filter (fun i => x.livePages.contains i) })) := by
  change execCopyComplete x s = _
  simp only [execCopyComplete, hown]
  rw [if_neg (by simp [hh, hr, hat]), hoff, copyDiffers_subDigest, copyDiffers_count heq, if_pos rfl]
  refine congrArg Host.Outcome.next (congrArg (State.modTwn _) (funext fun t => ?_))
  exact if_pos ⟨rfl, hdig, hlone⟩

end Sys2Proof.Machine

open Sys2Proof Sys2Proof.Machine

/-- Settles O45, record by record: each handler's guard falls away under the clause's hypotheses, and an INPUT record's counts, switches and
colours touch the feedback and the sensors alone. -/
theorem recordsOfThePairArrive : Obligations.RecordsOfThePairArrive := by
  unfold Obligations.RecordsOfThePairArrive
  refine ⟨fun s₀ s b hs hrun hup hrole hpaced hle => ?_, fun s₀ s b hs hrun hup hrole hpaced hlt => ?_,
    fun s₀ s x hs hpred hflags _ hrun hpaced hlate hnone => ?_, fun s₀ s x g hs hpred hflags _ hrun hpaced hlate hnone => ?_,
    fun s k n m hrun hup hrole => ?_, fun s tag p d hrun hup hrole hlen hmir => ?_,
    fun s tag n c hmir hrun hup => exec_ackRecordRx (State.hears_of_running_up hrun hup) hmir,
    fun s tag n m hrun hup hmir htag => ?_,
    fun s x hrun hup hrole hown hat hoff hlone heq hdig =>
      exec_copyComplete_equal (State.hears_of_running_up hrun hup) hrole hown hat hoff hlone heq hdig⟩
  · rw [exec_lineRecordRx hs, State.takeLine_of_hears (State.hears_of_running_up hrun hup) (s.takesLines_iff.mpr hrole) hpaced,
      if_neg (Nat.not_lt.mpr hle)]
    rfl
  · rw [exec_lineRecordRx hs, State.takeLine_of_hears (State.hears_of_running_up hrun hup) (s.takesLines_iff.mpr hrole) hpaced, if_pos hlt]
    rfl
  · rw [exec_shadowLineTimeout hs, State.testOwnLine_paced hpred hrun hpaced hlate hnone hflags]
  · rw [exec_shadowLineTimeout hs, State.testOwnLine_flagged hpred hrun hpaced hlate hnone hflags]
  · obtain ⟨t, ht, hframe, hcount, hlevel⟩ := State.takeInputs_one_seen (s := { s with copySince := s.copySince ++ [(s.pairTick, TwinRec.input
      { counts := [(k.val, n)], switches := m, probes := [], adc := [], colours := [] })] }) hrole k.val n m
    refine ⟨t, (exec_inputRecordRx (State.hears_of_running_up hrun hup) hrole _).trans (congrArg Host.Outcome.next ht), ?_, hcount,
      fun w => hlevel w w.isLt⟩
    rw [hframe]
  · rw [exec_changeRecordRx (State.hears_of_running_up hrun hup) hrole, pad_of_length hlen]
    simp only [State.modTwn, hmir, List.filter_nil, List.nil_append]
  · rw [exec_commitRecordRx (State.hears_of_running_up hrun hup)]
    simp only [State.modTwn, hmir, List.map_cons, List.map_nil, htag, if_true]
end

section
/-! The lanes of the Snare (R179 to R188, R205 to R207): what SNR commands do to the lanes they name, and what a sync header, an AM or a bring-up
timeout does to its lane. -/
namespace Sys2Proof.Machine

/-! What the lanes' events leave alone. -/

/-- Only what is sent, the host interface, the event block and the Snare differ. -/
def State.SnrOnly (s t : State) : Prop := t = { s with out := t.out, hif := t.hif, evt := t.evt, snr := t.snr }

theorem State.SnrOnly.trans {s t u : State} (h₁ : s.SnrOnly t) (h₂ : t.SnrOnly u) : s.SnrOnly u := by
  unfold State.SnrOnly at *
  rw [h₂, h₁]

/-- One state comes from another by changes that leave every lane but those of `p` alone, and the commands that wait for lanes. -/
structure State.LanesOnly (p : Nat → Prop) (s t : State) : Prop where
  frame : s.SnrOnly t
  others : ∀ q, ¬ p q → t.lane q = s.lane q
  waits : t.snr.waits = s.snr.waits

theorem State.LanesOnly.refl (p : Nat → Prop) (s : State) : State.LanesOnly p s s := ⟨rfl, fun _ _ => rfl, rfl⟩

theorem State.LanesOnly.trans {p : Nat → Prop} {s t u : State} (h₁ : State.LanesOnly p s t) (h₂ : State.LanesOnly p t u) :
    State.LanesOnly p s u :=
  ⟨h₁.frame.trans h₂.frame, fun q hq => (h₂.others q hq).trans (h₁.others q hq), h₂.waits.trans h₁.waits⟩

theorem State.LanesOnly.mono {p p' : Nat → Prop} {s t : State} (h : State.LanesOnly p s t) (hp : ∀ q, p q → p' q) : State.LanesOnly p' s t :=
  ⟨h.frame, fun q hq => h.others q (fun hpq => hq (hp q hpq)), h.waits⟩

theorem State.setLane_lanesOnly (s : State) (k : Nat) (v : Lane) : State.LanesOnly (· = k) s (s.setLane k v) :=
  ⟨rfl, fun _ hq => State.lane_setLane_ne s hq v, rfl⟩

theorem State.emit_lanesOnly (s : State) (p : Nat → Prop) (o : Out) : State.LanesOnly p s (s.emit o) := ⟨rfl, fun _ _ => rfl, rfl⟩

theorem State.complete_lanesOnly (s : State) (p : Nat → Prop) (id st : Nat) (res : List Byte) : State.LanesOnly p s (s.complete id st res) :=
  ⟨rfl, fun _ _ => rfl, rfl⟩

theorem State.completeOpt_lanesOnly (s : State) (p : Nat → Prop) (id : Option Nat) (st : Nat) (res : List Byte) :
    State.LanesOnly p s (s.completeOpt id st res) := by
  cases id with
  | none => exact .refl p s
  | some id => exact s.complete_lanesOnly p id st res

theorem State.raise_lanesOnly (s : State) (p : Nat → Prop) (code unit : Nat) (args : List Byte) :
    State.LanesOnly p s (s.raise code unit args) := by
  obtain ⟨o, g, m, w, e, h⟩ := s.raise_eq code unit args
  rw [h]
  exact ⟨rfl, fun _ _ => rfl, rfl⟩

@[simp] theorem State.lane_raise (s : State) (code unit : Nat) (args : List Byte) (k : Nat) : (s.raise code unit args).lane k = s.lane k :=
  (s.raise_lanesOnly (fun _ => False) code unit args).others k not_false

@[simp] theorem State.lane_completeOpt (s : State) (id : Option Nat) (st : Nat) (res : List Byte) (k : Nat) :
    (s.completeOpt id st res).lane k = s.lane k :=
  (s.completeOpt_lanesOnly (fun _ => False) id st res).others k not_false

/-- Without a command that waits for lanes there is none to complete. -/
theorem State.settleEnables_of_none {s : State} (h : s.snr.waits = []) : s.settleEnables = s := by
  have hself : ∀ p, s.modSnr (fun n => { n with waits := n.waits.filter p }) = s := by
    intro p
    rw [State.modSnr, h, List.filter_nil, ← h]
  simp only [State.settleEnables, h, List.filter_nil, List.map_nil]
  exact hself _

/-! Lanes that fail (R183). -/

theorem State.failLane_short {s : State} {k : Nat} (hshort : (s.lane k).state ≠ .up) (hnone : s.snr.waits = []) (cause : Nat) :
    State.LanesOnly (· = k) s (s.failLane k cause) ∧ ((s.failLane k cause).lane k).state = .failed ∧
      ((s.failLane k cause).lane k).cause = cause ∧ ((s.failLane k cause).lane k).locked = false := by
  have hmod : State.LanesOnly (· = k) s (s.modLane k (fun l => { l with state := .failed, cause := cause, locked := false })) :=
    s.setLane_lanesOnly k _
  have hfail : s.failLane k cause =
      (s.modLane k (fun l => { l with state := .failed, cause := cause, locked := false })).laneDownEvent k cause (s.lane k).state.num := by
    unfold State.failLane
    refine (congrArg State.settleEnables (if_neg hshort)).trans ?_
    exact State.settleEnables_of_none ((hmod.trans (State.raise_lanesOnly _ _ _ _ _)).waits.trans hnone)
  rw [hfail]
  refine ⟨hmod.trans (State.raise_lanesOnly _ _ _ _ _), ?_⟩
  rw [State.laneDownEvent, State.lane_raise, State.lane_modLane]
  exact ⟨rfl, rfl, rfl⟩

/-! SNR_LANE_ENABLE (R183, R205). -/

/-- What SNR_LANE_ENABLE makes of a lane that it names. -/
def Lane.enabled (b : List Byte) (tick : Nat) (l : Lane) : Lane :=
  let l := { l with txPreset := u8 b 16, autoRetrain := bit (u8 b 17) 0 }
  if l.state = .off ∨ l.state = .failed then
    { l.train tick with ignoreId := bit (u8 b 17) 1, wantPort := u8 b 18, amSeq := 0, departs := {} }
  else l

/-- The lanes of the packet's mask are enabled. -/
def State.enableLanes (s : State) (b : List Byte) (l : List Nat) : State :=
  l.foldl (fun s i => if bit (u64 b 8) i then s.modLane i (Lane.enabled b s.tick) else s) s

theorem Lane.enabled_down {b : List Byte} {l : Lane} (h : l.state = .off ∨ l.state = .failed) (tick : Nat) : l.enabled b tick =
    { ({ l with txPreset := u8 b 16, autoRetrain := bit (u8 b 17) 0 } : Lane).train tick with
      ignoreId := bit (u8 b 17) 1, wantPort := u8 b 18, amSeq := 0, departs := {} } := if_pos h

theorem Lane.enabled_up {b : List Byte} {l : Lane} (h : l.state = .up) (tick : Nat) :
    l.enabled b tick = { l with txPreset := u8 b 16, autoRetrain := bit (u8 b 17) 0 } := if_neg (by simp [h])

theorem Lane.enabled_settings (b : List Byte) (l : Lane) (tick : Nat) :
    (l.enabled b tick).txPreset = u8 b 16 ∧ (l.enabled b tick).autoRetrain = bit (u8 b 17) 0 := by
  unfold Lane.enabled
  extract_lets l'
  split
  · exact ⟨rfl, rfl⟩
  · exact ⟨rfl, rfl⟩

theorem Lane.enabled_state_up {b : List Byte} {l : Lane} {tick : Nat} : (l.enabled b tick).state = .up ↔ l.state = .up := by
  unfold Lane.enabled
  extract_lets l'
  split
  next h =>
    have hne : l.state ≠ .up := fun hup => by
      have hl : l'.state = .up := hup
      simp [hl] at h
    exact ⟨fun h => absurd h (by change LaneState.train ≠ .up; decide), fun h => absurd h hne⟩
  · exact Iff.rfl

theorem State.enableLanes_frame (s : State) (b : List Byte) (l : List Nat) :
    ∃ n, s.enableLanes b l = { s with snr := n } ∧ n.waits = s.snr.waits :=
  List.foldlRecOn (motive := fun t : State => ∃ n, t = { s with snr := n } ∧ n.waits = s.snr.waits) l _ ⟨s.snr, rfl, rfl⟩ fun t ht i _ => by
    obtain ⟨n, rfl, hn⟩ := ht
    by_cases hb : bit (u64 b 8) i = true
    · rw [if_pos hb]
      exact ⟨_, rfl, hn⟩
    · rw [if_neg hb]
      exact ⟨n, rfl, hn⟩

theorem State.enableLanes_lane (b : List Byte) (q : Nat) (l : List Nat) : ∀ s : State, l.Nodup →
    (s.enableLanes b l).lane q = if q ∈ l ∧ bit (u64 b 8) q = true then (s.lane q).enabled b s.tick else s.lane q := by
  induction l with
  | nil => simp [State.enableLanes]
  | cons i l ih =>
    intro s hl
    obtain ⟨hi, hl⟩ := List.nodup_cons.mp hl
    change (State.enableLanes (if bit (u64 b 8) i then s.modLane i (Lane.enabled b s.tick) else s) b l).lane q = _
    by_cases hb : bit (u64 b 8) i = true
    · rw [if_pos hb, ih _ hl, State.modLane_tick]
      by_cases hq : q = i
      · subst hq
        simp [hi, hb]
      · rw [State.modLane, State.lane_setLane_ne s hq]
        simp [hq]
    · rw [if_neg hb, ih s hl]
      by_cases hq : q = i
      · subst hq
        simp [hi, hb]
      · simp [hq]

/-- Lane by lane, over the 64 lanes. -/
theorem State.enableLanes_all (s : State) (b : List Byte) (q : Fin 64) :
    (s.enableLanes b (List.range 64)).lane q = if bit (u64 b 8) q then (s.lane q).enabled b s.tick else s.lane q := by
  rw [State.enableLanes_lane b q (List.range 64) s List.nodup_range]
  simp [List.mem_range, q.isLt]

theorem forall_lane_iff {p : Nat → Bool} : (List.range 64).all p = true ↔ ∀ q : Fin 64, p q = true := by
  simp only [List.all_eq_true, List.mem_range]
  exact ⟨fun h q => h q q.isLt, fun h q hq => h ⟨q, hq⟩⟩

section
variable {c : Cmd} {s : State} (hpre : u8 c.packet 16 ≤ 10) (hflags : u8 c.packet 17 ≤ 3) (hport : u8 c.packet 18 ≤ 2)
  (hrest : ∀ l : Fin 64, bit (u64 c.packet 8) l = true → (s.lane l).state.bringup = false)
include hpre hflags hport hrest

theorem effSnrLaneEnable_eq : effSnrLaneEnable c s =
    if (List.range 64).all (fun l => !bit (u64 c.packet 8) l || ((s.enableLanes c.packet (List.range 64)).lane l).state == .up) then
      answer (s.enableLanes c.packet (List.range 64)) (leBytes 8 (u64 c.packet 8) ++ zeros 8)
    else ((s.enableLanes c.packet (List.range 64)).modSnr
      (fun n => { n with waits := n.waits ++ [{ cmd := c.id, lanes := u64 c.packet 8 }] }), .running) := by
  have hnone : (List.range 64).any (fun l => bit (u64 c.packet 8) l && (s.lane l).state.bringup) = false := by
    rw [List.any_eq_false]
    intro l hl
    have h := hrest ⟨l, List.mem_range.mp hl⟩
    cases hb : bit (u64 c.packet 8) l with
    | false => simp
    | true => simp [h hb]
  unfold effSnrLaneEnable
  rw [if_neg (by omega), if_neg (by rw [hnone]; decide)]
  rfl

theorem effSnrLaneEnable_waits (hone : ∃ l : Fin 64, bit (u64 c.packet 8) l = true ∧ (s.lane l).state ≠ .up) :
    effSnrLaneEnable c s = ((s.enableLanes c.packet (List.range 64)).modSnr
      (fun n => { n with waits := n.waits ++ [{ cmd := c.id, lanes := u64 c.packet 8 }] }), .running) := by
  obtain ⟨l, hb, hl⟩ := hone
  rw [effSnrLaneEnable_eq hpre hflags hport hrest, if_neg]
  intro hall
  have h := forall_lane_iff.mp hall l
  rw [State.enableLanes_all, if_pos hb, hb] at h
  exact hl (Lane.enabled_state_up.mp (by simpa using h))

omit hrest in
theorem effSnrLaneEnable_answers (hall : ∀ l : Fin 64, bit (u64 c.packet 8) l = true → (s.lane l).state = .up) :
    effSnrLaneEnable c s = answer (s.enableLanes c.packet (List.range 64)) (leBytes 8 (u64 c.packet 8) ++ zeros 8) := by
  rw [effSnrLaneEnable_eq hpre hflags hport (fun l hb => by rw [hall l hb]; rfl), if_pos]
  refine forall_lane_iff.mpr fun l => ?_
  cases hb : bit (u64 c.packet 8) l with
  | false => rfl
  | true =>
    rw [State.enableLanes_all, if_pos hb]
    simpa using Lane.enabled_state_up.mpr (hall l hb)

end

theorem exec_snrLaneEnable_atOnce {s : State} {r : Fin 4} {c : Cmd} (h : s.atOnce r 0x0601 c = true) :
    exec (.snrLaneEnable r) s = .next (settle c.id (effSnrLaneEnable { c with host := .ok [] } (s.begun r c (.ok [])))) := by
  rw [← startCommand_atOnce h]
  rfl

theorem exec_snrLaneEnable_waits {s : State} {r : Fin 4} {c : Cmd} (h : s.atOnce r 0x0601 c = true) (hpre : u8 c.packet 16 ≤ 10)
    (hflags : u8 c.packet 17 ≤ 3) (hport : u8 c.packet 18 ≤ 2)
    (hrest : ∀ l : Fin 64, bit (u64 c.packet 8) l = true → (s.lane l).state.bringup = false)
    (hone : ∃ l : Fin 64, bit (u64 c.packet 8) l = true ∧ (s.lane l).state ≠ .up) :
    ∃ t, exec (.snrLaneEnable r) s = .next t ∧ t = { s with hif := t.hif, snr := t.snr } ∧
      (∀ l : Fin 64, t.lane l = if bit (u64 c.packet 8) l then (s.lane l).enabled c.packet s.tick else s.lane l) ∧
      t.snr.waits = s.snr.waits ++ [{ cmd := c.id, lanes := u64 c.packet 8 }] := by
  obtain ⟨n, hn, hwaits⟩ := (s.begun r c (.ok [])).enableLanes_frame c.packet (List.range 64)
  have hlane := (s.begun r c (.ok [])).enableLanes_all c.packet
  rw [exec_snrLaneEnable_atOnce h, effSnrLaneEnable_waits (c := { c with host := .ok [] }) (s := s.begun r c (.ok [])) hpre hflags hport hrest hone]
  rw [hn] at hlane ⊢
  exact ⟨_, rfl, rfl, hlane, congrArg (fun w => w ++ [({ cmd := c.id, lanes := u64 c.packet 8 } : EnableWait)]) hwaits⟩

theorem exec_snrLaneEnable_answers {s : State} {r : Fin 4} {c : Cmd} (h : s.atOnce r 0x0601 c = true) (hpre : u8 c.packet 16 ≤ 10)
    (hflags : u8 c.packet 17 ≤ 3) (hport : u8 c.packet 18 ≤ 2)
    (hall : ∀ l : Fin 64, bit (u64 c.packet 8) l = true → (s.lane l).state = .up) :
    ∃ u : State, exec (.snrLaneEnable r) s = .next (u.complete c.id Status.ok (leBytes 8 (u64 c.packet 8) ++ zeros 8)) ∧
      u = { s with hif := u.hif, snr := u.snr } ∧
      (∀ l : Fin 64, u.lane l = if bit (u64 c.packet 8) l then (s.lane l).enabled c.packet s.tick else s.lane l) ∧ u.snr.waits = s.snr.waits := by
  obtain ⟨n, hn, hwaits⟩ := (s.begun r c (.ok [])).enableLanes_frame c.packet (List.range 64)
  have hlane := (s.begun r c (.ok [])).enableLanes_all c.packet
  rw [exec_snrLaneEnable_atOnce h, effSnrLaneEnable_answers (c := { c with host := .ok [] }) (s := s.begun r c (.ok [])) hpre hflags hport hall]
  rw [hn] at hlane ⊢
  exact ⟨_, rfl, rfl, hlane, hwaits⟩

/-! SNR_LANE_DISABLE (R183, R206). -/

/-- A lane is in OFF, without cause and lock. -/
def Lane.Disabled (l : Lane) : Prop := l.state = .off ∧ l.cause = 0 ∧ l.locked = false

theorem State.leaveUp_lanesOnly (s : State) (k : Nat) : State.LanesOnly (· = k) s (s.leaveUp k) := by
  unfold State.leaveUp
  extract_lets l u v
  have hu : State.LanesOnly (· = k) s u := by
    simp only [u]
    split
    · exact s.emit_lanesOnly _ _
    · exact .refl _ s
  exact (hu.trans (u.setLane_lanesOnly k _)).trans (v.completeOpt_lanesOnly _ _ _ _)

/-- Leaving UP keeps a lane's state, cause and lock. -/
theorem State.leaveUp_lane (s : State) (k : Nat) : ((s.leaveUp k).lane k).state = (s.lane k).state ∧
    ((s.leaveUp k).lane k).cause = (s.lane k).cause ∧ ((s.leaveUp k).lane k).locked = (s.lane k).locked := by
  unfold State.leaveUp
  rw [State.lane_completeOpt, State.lane_setLane]
  exact ⟨rfl, rfl, rfl⟩

theorem State.disableLane_lanesOnly (s : State) (k : Nat) : State.LanesOnly (· = k) s (s.disableLane k) := by
  unfold State.disableLane
  extract_lets left u
  have hu : State.LanesOnly (· = k) s u := s.setLane_lanesOnly k _
  split
  · exact (hu.trans (u.raise_lanesOnly _ _ _ _)).trans (State.leaveUp_lanesOnly _ k)
  · exact hu

theorem State.disableLane_disabled (s : State) (k : Nat) : ((s.disableLane k).lane k).Disabled := by
  unfold State.disableLane
  extract_lets left u
  have hu : (u.lane k).Disabled := by
    simp only [u, State.lane_modLane]
    exact ⟨rfl, rfl, rfl⟩
  split
  · obtain ⟨hstate, hcause, hlock⟩ := State.leaveUp_lane (u.laneDownEvent k 0 left.num) k
    rw [State.laneDownEvent, State.lane_raise] at hstate hcause hlock
    exact ⟨hstate.trans hu.1, hcause.trans hu.2.1, hlock.trans hu.2.2⟩
  · exact hu

/-- The lanes of a mask are disabled. -/
def State.disableLanes (s : State) (m : Nat) (l : List Nat) : State := l.foldl (fun s i => if bit m i then s.disableLane i else s) s

theorem State.disableLanes_lanesOnly (s : State) (m : Nat) (l : List Nat) :
    State.LanesOnly (fun q => bit m q = true) s (s.disableLanes m l) :=
  List.foldlRecOn (motive := State.LanesOnly (fun q => bit m q = true) s) l _ (.refl _ s) fun t ht i _ => by
    by_cases hb : bit m i = true
    · rw [if_pos hb]
      exact ht.trans ((t.disableLane_lanesOnly i).mono fun q hq => hq ▸ hb)
    · rw [if_neg hb]
      exact ht

theorem State.disableLanes_disabled (m q : Nat) (l : List Nat) : ∀ s : State, (q ∈ l ∧ bit m q = true) ∨ (s.lane q).Disabled →
    ((s.disableLanes m l).lane q).Disabled := by
  induction l with
  | nil => simp [State.disableLanes]
  | cons i l ih =>
    intro s h
    refine ih (if bit m i then s.disableLane i else s) ?_
    by_cases hq : q = i
    · subst hq
      by_cases hb : bit m q = true
      · rw [if_pos hb]
        exact .inr (s.disableLane_disabled q)
      · rw [if_neg hb]
        exact .inr (h.resolve_left fun h => hb h.2)
    · have hsame : (if bit m i then s.disableLane i else s).lane q = s.lane q := by
        split
        · exact (s.disableLane_lanesOnly i).others q hq
        · rfl
      rw [hsame]
      exact h.imp_left fun ⟨hm, hb⟩ => ⟨(List.mem_cons.mp hm).resolve_left hq, hb⟩

theorem exec_snrLaneDisable_atOnce {s : State} {r : Fin 4} {c : Cmd} (h : s.atOnce r 0x0602 c = true) (hnone : s.snr.waits = []) :
    exec (.snrLaneDisable r) s =
      .next (((s.begun r c (.ok [])).disableLanes (u64 c.packet 8) (List.range 64)).complete c.id Status.ok []) := by
  have heff : exec (.snrLaneDisable r) s = .next (settle c.id (effSnrLaneDisable { c with host := .ok [] } (s.begun r c (.ok [])))) := by
    rw [← startCommand_atOnce h]
    rfl
  have hwaits := ((s.begun r c (.ok [])).disableLanes_lanesOnly (u64 c.packet 8) (List.range 64)).waits.trans hnone
  rw [heff]
  exact congrArg (fun t : State => Host.Outcome.next (t.complete c.id Status.ok [])) (State.settleEnables_of_none hwaits)

/-! SNR_QUERY (R207). -/

theorem exec_snrQuery_atOnce {s : State} {r : Fin 4} {c : Cmd} (h : s.atOnce r 0x0605 c = true) (hlane : u8 c.packet 8 ≤ 63) :
    exec (.snrQuery r) s = .next ((s.begun r c (.ok [])).complete c.id Status.ok
      ([(s.lane (u8 c.packet 8)).state.num, (s.lane (u8 c.packet 8)).cause, (s.lane (u8 c.packet 8)).hubLane, (s.lane (u8 c.packet 8)).port]
        ++ leBytes 4 (s.lane (u8 c.packet 8)).delayAvg ++ leBytes 2 (s.lane (u8 c.packet 8)).hubSetup ++ [0, 0]
        ++ leBytes 4 (s.lane (u8 c.packet 8)).bound)) := by
  have heff : exec (.snrQuery r) s = .next (settle c.id (effSnrQuery { c with host := .ok [] } (s.begun r c (.ok [])))) := by
    rw [← startCommand_atOnce h]
    rfl
  rw [heff, effSnrQuery, if_neg (Nat.not_lt.mpr hlane)]
  rfl

/-! Sync headers (R179). -/

theorem LaneState.ne_up_of_bringup {x : LaneState} (h : x.bringup = true) : x ≠ .up := by
  rintro rfl
  exact absurd h (by decide)

theorem Lane.listens_of_bringup {l : Lane} (h : l.state.bringup = true) : l.listens = true := by
  cases hs : l.state <;> simp_all [Lane.listens, LaneState.bringup]

theorem State.syncHeader_deaf {s : State} {k : Nat} (h : (s.lane k).state = .off ∨ (s.lane k).state = .failed) (v : Bool) :
    State.syncHeader k s v = s := by
  have hdeaf : (s.lane k).listens = false := by
    obtain h | h := h
    · simp [Lane.listens, h]
    · simp [Lane.listens, h]
  simp [State.syncHeader, hdeaf]

theorem State.syncHeader_valid {s : State} {k : Nat} (hl : (s.lane k).listens = true) (hlock : (s.lane k).locked = false) :
    State.syncHeader k s true =
      s.setLane k (if (s.lane k).hdrRun + 1 = 64 then (s.lane k).gainLock else { s.lane k with hdrRun := (s.lane k).hdrRun + 1 }) := by
  simp [State.syncHeader, hl, hlock]

/-- The valid headers that a lane in TRAIN still lacks of 64 in a row give it block lock. -/
theorem State.syncHeaders_lock {k : Nat} (n : Nat) : ∀ s : State, (s.lane k).state = .train → (s.lane k).locked = false →
    (s.lane k).hdrRun + (n + 1) = 64 →
    (List.replicate (n + 1) true).foldl (State.syncHeader k) s =
      s.setLane k { s.lane k with locked := true, hdrRun := 0, hdrWin := [], state := .align } := by
  induction n with
  | zero =>
    intro s hst hlock hrun
    rw [List.replicate_one, List.foldl_cons, List.foldl_nil, State.syncHeader_valid (by simp [Lane.listens, hst]) hlock, if_pos (by omega)]
    simp only [Lane.gainLock, hst, if_true]
  | succ n ih =>
    intro s hst hlock hrun
    rw [List.replicate_succ, List.foldl_cons, State.syncHeader_valid (by simp [Lane.listens, hst]) hlock, if_neg (by omega),
      ih _ (by simpa using hst) (by simpa using hlock) (by simp; omega)]
    simp

theorem State.syncHeader_invalid {s : State} {k : Nat} (hup : (s.lane k).state.bringup = true) (hlock : (s.lane k).locked = true)
    (hwin : 16 ≤ (((false :: (s.lane k).hdrWin).take 64).filter (· == false)).length) : State.syncHeader k s false =
    s.setLane k { s.lane k with
      locked := false, hdrRun := 0, hdrWin := [], amAt := none, syncErr := satAdd 16 (s.lane k).syncErr 1, syncUp := satAdd 32 (s.lane k).syncUp 1,
      lockLoss := satAdd 16 (s.lane k).lockLoss 1 } := by
  unfold State.syncHeader
  extract_lets l n win v u
  have hl : l.listens = true := Lane.listens_of_bringup hup
  have hk : l.locked = true := hlock
  have hu : u.lane k = { l.syncError with hdrWin := win } := State.lane_setLane ..
  rw [if_neg (by simp [hl]), if_neg (by simp [hk]), if_pos hwin, State.loseLock, hu]
  refine (if_neg (LaneState.ne_up_of_bringup hup)).trans ?_
  exact State.setLane_setLane ..

/-! Alignment markers (R181 to R184). -/

section
variable {s : State} {k uis : Nat} {am turn : List Byte} (hlock : (s.lane k).locked = true) (halign : (s.lane k).state = .align)
  (htype : u8 am 0 = 0x4B)
include hlock halign htype

/-- What an AM in ALIGN does, by whether it lies one AM interval behind the one before it. -/
theorem State.takeAm_align : s.takeAm k am turn uis =
    (if (match (s.lane k).amAt with
      | some t => amApart t uis
      | none => false) = false then s.setLane k { (s.lane k).hearAm am with amAt := some uis }
    else if ((s.lane k).hearAm am).identOk k am then (s.setLane k { (s.lane k).hearAm am with state := .time }).measureDelay k turn uis
    else (s.setLane k { (s.lane k).hearAm am with state := .ident }).failLane k 3) := by
  unfold State.takeAm
  extract_lets l l' apart
  have hl : l.listens = true := Lane.listens_of_bringup (by simp [l, halign, LaneState.bringup])
  have hk : l.locked = true := hlock
  have hs : l.state = .align := halign
  have hs' : l'.state = .align := halign
  rw [if_neg (by simp [hl, hk, hs]), if_neg (by simp [htype])]
  have hapart : (match (s.lane k).amAt with
      | some t => amApart t uis
      | none => false) = apart := rfl
  rw [hapart]
  cases apart with
  | false => exact if_pos ⟨hs', rfl⟩
  | true => exact (if_neg (by simp)).trans (if_pos (.inl hs'))

theorem State.takeAm_first (hfirst : ∀ t, (s.lane k).amAt = some t → amApart t uis = false) :
    s.takeAm k am turn uis = s.setLane k { (s.lane k).hearAm am with amAt := some uis } := by
  rw [State.takeAm_align hlock halign htype]
  refine if_pos ?_
  split
  next t h => exact hfirst t h
  · rfl

theorem State.takeAm_second {t : Nat} (hat : (s.lane k).amAt = some t) (hapart : amApart t uis = true) : s.takeAm k am turn uis =
    if ((s.lane k).hearAm am).identOk k am then (s.setLane k { (s.lane k).hearAm am with state := .time }).measureDelay k turn uis
    else (s.setLane k { (s.lane k).hearAm am with state := .ident }).failLane k 3 := by
  rw [State.takeAm_align hlock halign htype, hat]
  exact if_neg (by simp [hapart])

omit hlock htype in
/-- An AM tells a lane in ALIGN of its hub. -/
theorem Lane.hearAm_align : (s.lane k).hearAm am =
    { s.lane k with port := b2n (bit (u8 am 1) 6), hubLane := u8 am 2, hubSetup := u16 am 4 % 4096, missed := 0 } := by
  simp [Lane.hearAm, halign]

end

theorem amApart_iff {t u : Nat} : amApart t u = true ↔ t < u ∧ (u - t + 33) / 66 = 16384 := by simp [amApart]

/-- A TURN block that answers no departure measures nothing. -/
theorem State.measureDelay_of_no_departure {s : State} {k : Nat} {turn : List Byte} (h : (s.lane k).departs.get 0 (u8 turn 4) = 0) (t4 : Nat) :
    s.measureDelay k turn t4 = s := if_pos h

theorem exec_amMissed_align {s : State} {k : Fin 64} (h : (s.lane k).state = .align) : exec (.amMissed k) s =
    .next (s.setLane k { s.lane k with amErr := satAdd 16 (s.lane k).amErr 1, missed := (s.lane k).missed + 1, amAt := none }) := by
  change execAmMissed k s = _
  simp [execAmMissed, h]

theorem exec_laneBringupTimeout {s : State} {k : Fin 64} (hup : (s.lane k).state.bringup = true) (hlate : (s.lane k).trainAt + 2000000 ≤ s.tick)
    (hnot : s.comesUp k = false) : exec (.laneBringupTimeout k) s = .next (s.failLane k 4) := by
  change execLaneBringupTimeout k s = _
  simp [execLaneBringupTimeout, hup, hlate, hnot]

theorem exec_downstreamAm_align {s : State} {k : Fin 64} (h : (s.lane k).state = .align) (uis : Nat) : exec (.downstreamAm k uis) s =
    .next ((s.setLane k { s.lane k with amSeq := wrapAdd 8 (s.lane k).amSeq 1, departs := (s.lane k).departs.set 0 (s.lane k).amSeq (uis + 1) }).emit
      (.am k.val ([0x4B, k.val + 64 * b2n s.isShadow + 128 * b2n s.twn.twin, s.twn.epoch, s.gng.dev, (s.lane k).amSeq, 0x53, 0x4E, 0x52]
        ++ List.replicate 8 0xFF))) := by
  change execDownstreamAm k uis s = _
  unfold execDownstreamAm
  simp only [h]
  rfl

end Sys2Proof.Machine

open Sys2Proof Sys2Proof.Machine

/-- Settles O28, clause by clause: the commands by their effects on the lanes of the mask, the events by what each does to its own lane. -/
theorem lanesComeUpAndAnswer : Obligations.LanesComeUpAndAnswer := by
  unfold Obligations.LanesComeUpAndAnswer
  refine ⟨?_, ?_, ?_, fun s r c h hlane => exec_snrQuery_atOnce h hlane, ?_, ?_, ?_, ?_, ?_, ?_, fun s k h => exec_amMissed_align h, ?_,
    fun s k uis h => exec_downstreamAm_align h uis⟩
  · intro s r c m h hm hpre hflags hport hrest hone
    subst hm
    obtain ⟨t, hexec, hframe, hlane, hwaits⟩ := exec_snrLaneEnable_waits h hpre hflags hport hrest hone
    refine ⟨t, hexec, hframe, fun l hb => ?_, fun l hb hdown => ?_, fun l hb hup => ?_, fun l hb => ?_, hwaits⟩
    · rw [hlane l, if_pos hb]
      exact Lane.enabled_settings ..
    · rw [hlane l, if_pos hb, Lane.enabled_down hdown]
      exact ⟨rfl, rfl, rfl, rfl, rfl, rfl, rfl⟩
    · rw [hlane l, if_pos hb, Lane.enabled_up hup]
    · rw [hlane l, if_neg (by simp [hb])]
  · intro s r c m h hm hpre hflags hport hall
    subst hm
    obtain ⟨u, hexec, hframe, hlane, hwaits⟩ := exec_snrLaneEnable_answers h hpre hflags hport hall
    refine ⟨u, hexec, hframe, fun l => ?_, hwaits⟩
    by_cases hb : bit (u64 c.packet 8) l = true
    · rw [hlane l, if_pos hb, if_pos hb, Lane.enabled_up (hall l hb)]
    · rw [hlane l, if_neg hb, if_neg hb]
  · intro s r c m h hm hnone
    subst hm
    have hlanes := (s.begun r c (.ok [])).disableLanes_lanesOnly (u64 c.packet 8) (List.range 64)
    refine ⟨_, exec_snrLaneDisable_atOnce h hnone, ?_, fun l hb => ?_, fun l hb => hlanes.others l (by simp [hb])⟩
    · exact (State.SnrOnly.trans (t := s.begun r c (.ok [])) rfl hlanes.frame).trans rfl
    · exact State.disableLanes_disabled (u64 c.packet 8) l _ (s.begun r c (.ok [])) (.inl ⟨List.mem_range.mpr l.isLt, hb⟩)
  · intro s k n hst hlock hrun hn
    obtain ⟨n, rfl⟩ := Nat.exists_eq_succ_of_ne_zero hn.ne'
    exact congrArg Host.Outcome.next (State.syncHeaders_lock n s hst hlock hrun)
  · intro s k hup hlock hwin
    exact congrArg Host.Outcome.next (State.syncHeader_invalid hup hlock hwin)
  · intro s k b h
    exact congrArg Host.Outcome.next (foldl_eq_self fun v _ => State.syncHeader_deaf h v)
  · intro s k am turn uis hlock halign hfirst htype
    refine congrArg Host.Outcome.next ((State.takeAm_first hlock halign htype fun t ht => ?_).trans ?_)
    · rw [← Bool.not_eq_true, amApart_iff]
      exact hfirst t ht
    · rw [Lane.hearAm_align halign]
  · intro s k am turn t uis hlock halign hat hlt hdist htype hid hhub hport hdep
    refine congrArg Host.Outcome.next ?_
    rw [State.takeAm_second hlock halign htype hat (amApart_iff.mpr ⟨hlt, hdist⟩), Lane.hearAm_align halign,
      if_pos (by simp [Lane.identOk, hid, hhub, hport]), State.measureDelay_of_no_departure (by simpa using hdep), hhub]
  · intro s k am turn t uis hlock halign hat hlt hdist htype hid hnone
    have hexec : exec (.upstreamAm k am turn uis) s = .next _ := congrArg Host.Outcome.next
      ((State.takeAm_second hlock halign htype hat (amApart_iff.mpr ⟨hlt, hdist⟩)).trans (if_neg (by simp [Lane.identOk, hid])))
    obtain ⟨hlanes, hstate, hcause, hunlocked⟩ := State.failLane_short (k := k.val)
      (s := s.setLane k { (s.lane k).hearAm am with state := .ident }) (by simp) hnone 3
    have hlanes := (s.setLane_lanesOnly k _).trans hlanes
    exact ⟨_, hexec, hlanes.frame, hstate, hcause, hunlocked, fun q hq => hlanes.others q (fun h => hq (Fin.ext h))⟩
  · intro s k hup hlate hnot hnone
    obtain ⟨hlanes, hstate, hcause, -⟩ := State.failLane_short (LaneState.ne_up_of_bringup hup) hnone 4
    exact ⟨_, exec_laneBringupTimeout hup hlate hnot, hlanes.frame, hstate, hcause, fun q hq => hlanes.others q (fun h => hq (Fin.ext h))⟩
end

section
/-! Hubs (R199 to R204): head messages and their replies, head status, eye scans, and the hubs' comparison reports. -/
namespace Sys2Proof.Machine

/-! Head messages (R202). -/

theorem exec_snrHeadMsg_atOnce {s : State} {r : Fin 4} {c : Cmd} (h : s.atOnce r 0x0604 c = true) :
    exec (.snrHeadMsg r) s = .next (settle c.id (effSnrHeadMsg { c with host := .ok [] } (s.begun r c (.ok [])))) := by
  rw [← startCommand_atOnce h]
  rfl

/-- The message that a packet has for its lane's hub. -/
def headMsgOf (s : State) (c : Cmd) : HeadMsg :=
  { cmd := c.id, tag := (s.lane (u8 c.packet 8)).msgTag, deadline := s.tick + 200000 * u8 c.packet 10, replyAddr := u64 c.packet 16 }

/-- A lane with a message to its hub. -/
def Lane.withMsg (l : Lane) (m : HeadMsg) : Lane := { l with msgTag := wrapAdd 8 l.msgTag 1, msg := some m }

theorem effSnrHeadMsg_good {c : Cmd} {s : State} (hlane : u8 c.packet 8 ≤ 63) (hpos : 0 < u8 c.packet 9) (hlen : u8 c.packet 9 ≤ 40)
    (htime : 0 < u8 c.packet 10) (haddr : u64 c.packet 16 % 8 = 0) (hup : (s.lane (u8 c.packet 8)).state = .up)
    (hfree : (s.lane (u8 c.packet 8)).msg = none) : effSnrHeadMsg c s =
      ((s.modLane (u8 c.packet 8) (fun l => l.withMsg (headMsgOf s c))).queueMsg (u8 c.packet 8)
        (messageBytes (s.lane (u8 c.packet 8)).msgTag ((c.packet.drop 24).take (u8 c.packet 9))), .running) := by
  unfold effSnrHeadMsg
  simp only []
  rw [if_neg (by omega), if_neg (by simp [hup]), if_neg (by simp [hfree])]
  rfl

theorem State.queueMsg_starts {s : State} {k : Nat} (hwire : (s.lane k).wireFree s.tick = true) (hnone : (s.lane k).txWait = []) (b : List Byte) :
    s.queueMsg k b = s.startTx k (.message b) := by
  simp [State.queueMsg, hwire, hnone]

theorem State.queueMsg_waits {s : State} {k : Nat} (h : (s.lane k).wireFree s.tick = false ∨ (s.lane k).txWait ≠ []) (b : List Byte) :
    s.queueMsg k b = s.setLane k { s.lane k with msgWait := some b } := by
  refine if_neg ?_
  obtain h | h := h
  · simp [h]
  · simp [h]

/-- A lane whose message starts on the wire in one step with its entry. -/
theorem State.startMsg_modLane (s : State) (k : Nat) (m : HeadMsg) (b : List Byte) : (s.modLane k (fun l => l.withMsg m)).startTx k (.message b) =
    (s.modLane k (fun l => { l with
      msgTag := wrapAdd 8 l.msgTag 1, wire := some (.message b, s.tick + (TxItem.message b).ticks), msg := some m })).emit (.hubMsg k b) := by
  simp [State.startTx, State.modLane, Lane.withMsg, TxItem.lastSent, TxItem.out]

theorem exec_headMsgTimeout {s : State} {k : Fin 64} {m : HeadMsg} (hmsg : (s.lane k).msg = some m) (hlate : m.deadline ≤ s.tick)
    (hnone : ∀ b, Instr.hubReply k b ∈ s.pending → (s.lane k).replyOf b = none) : exec (.headMsgTimeout k) s =
      .next ((s.setLane k { s.lane k with msg := none, msgWait := none }).complete m.cmd Status.hubNoReply []) := by
  have hquiet : s.arrives (fun i => match i with
      | .hubReply n b => n == k && ((s.lane k).replyOf b).isSome
      | _ => false) = false := by
    refine List.any_eq_false.mpr fun i hi => ?_
    split
    next n b =>
      by_cases hn : n = k
      · subst hn
        simp [hnone b hi]
      · simp [hn]
    · simp
  change execHeadMsgTimeout k s = _
  unfold execHeadMsgTimeout
  extract_lets l replied
  have hl : l.msg = some m := hmsg
  have hr : replied = false := hquiet
  rw [hl]
  exact if_pos ⟨hlate, by rw [hr]; rfl⟩

/-! Replies of the hub (R202). -/

theorem messagePayload_type {b x : List Byte} (h : messagePayload b = some x) : u8 b 0 = 0x55 := by
  unfold messagePayload at h
  extract_lets n body at h
  split at h
  next hb => exact hb.1
  · exact absurd h (by simp)

theorem blockType_msg : blockType 0x55 = true := by decide

/-- A reply without a payload of its own answers no message. -/
theorem Lane.replyOf_of_no_payload {l : Lane} {b : List Byte} (h : messagePayload b = none) : l.replyOf b = none := by
  unfold Lane.replyOf
  rw [h]
  split
  next h => cases h
  · rfl

theorem Lane.replyOf_good {l : Lane} {b x : List Byte} {m : HeadMsg} (hmsg : l.msg = some m) (hx : messagePayload b = some x)
    (htag : u8 b 2 = m.tag) : l.replyOf b = some (m, x) := by
  unfold Lane.replyOf
  rw [hmsg, hx]
  exact if_pos htag

section
variable {s : State} {k : Fin 64} {b : List Byte} (hup : (s.lane k).state = .up) (htype : u8 b 0 = 0x55)
include hup htype

theorem exec_hubReply_good {m : HeadMsg} {x : List Byte} (hreply : (s.lane k).replyOf b = some (m, x)) (haddr : m.replyAddr = 0) :
    exec (.hubReply k b) s =
      .next ((s.setLane k { s.lane k with msg := none, msgWait := none }).complete m.cmd Status.ok (x.length :: x.take 15)) := by
  change execHubReply k b s = _
  unfold execHubReply
  simp only []
  rw [if_neg (by simp [hup]), if_neg (by simp [htype, blockType_msg]), hreply]
  simp only [haddr, if_true]

theorem exec_hubReply_bad (hreply : (s.lane k).replyOf b = none) :
    exec (.hubReply k b) s = .next (s.setLane k { s.lane k with msgErr := satAdd 16 (s.lane k).msgErr 1 }) := by
  change execHubReply k b s = _
  unfold execHubReply
  simp only []
  rw [if_neg (by simp [hup]), if_neg (by simp [htype, blockType_msg]), hreply]

end

/-! Head status (R201). -/

theorem exec_statusBlock_same {s : State} {k : Fin 64} {b : List Byte} (hlock : (s.lane k).locked = true) (hl : (s.lane k).listens = true)
    (htype : u8 b 0 = 0x33) (hslot : u8 b 1 ≤ 7) (hsame : ((s.lane k).heads.get {} (u8 b 1)).state = u8 b 2) :
    exec (.statusBlock k b) s = .next (s.setLane k { s.lane k with
      heads := (s.lane k).heads.set {} (u8 b 1) { state := u8 b 2, temp := u16 b 3, fault := u16 b 5 } }) := by
  change execStatusBlock k b s = _
  unfold execStatusBlock
  simp only []
  rw [if_neg (by simp [htype]), if_neg (by simp [hlock, hl, hslot]), if_pos hsame]

/-! Eye scans (R203, R204). -/

theorem exec_snrEyeScan_atOnce {s : State} {r : Fin 4} {c : Cmd} (h : s.atOnce r 0x0603 c = true) :
    exec (.snrEyeScan r) s = .next (settle c.id (effSnrEyeScan { c with host := .ok [] } (s.begun r c (.ok [])))) := by
  rw [← startCommand_atOnce h]
  rfl

theorem effSnrEyeScan_good {c : Cmd} {s : State} (hlane : u8 c.packet 8 ≤ 63) (hph : scanStepOk (u8 c.packet 9) = true)
    (hv : scanStepOk (u8 c.packet 10) = true) (hlow : 20 ≤ u8 c.packet 11) (hhigh : u8 c.packet 11 ≤ 36) (haddr : u64 c.packet 16 % 8 = 0)
    (hroom : 32 + 4 * (64 / u8 c.packet 9) * (128 / u8 c.packet 10) ≤ u32 c.packet 24) (hup : (s.lane (u8 c.packet 8)).state = .up)
    (hfree : (s.lane (u8 c.packet 8)).scan = none) (hfew : s.scansActive ≤ 3) : effSnrEyeScan c s =
      (s.modLane (u8 c.packet 8) (fun l => { l with
        scan := some { cmd := c.id, phStep := u8 c.packet 9, vStep := u8 c.packet 10, dwell := u8 c.packet 11, addr := u64 c.packet 16,
                       start := s.nowNs } }), .running) := by
  unfold effSnrEyeScan
  simp only []
  rw [if_neg (fun h => by simp [hph, hv, haddr] at h; omega), if_neg (by simp [hup]), if_neg (by simp [hfree]),
    if_neg (by omega)]

/-- The record of an eye scan (R204). -/
def eyeRecord (s : State) (k : Nat) (x : EyeScan) (counts : List Nat) : List Byte :=
  let pts := counts.flatMap (fun n => leBytes 4 (min n (2 ^ 32 - 1)))
  [k, x.phStep, x.vStep, x.dwell, 64 / x.phStep, 128 / x.vStep, 0, 0] ++ leBytes 8 x.start ++ leBytes 8 s.nowNs
    ++ leBytes 4 (pts.length / 4) ++ leBytes 4 (crc32c pts) ++ pts

theorem eyeRecord_length (s : State) (k : Nat) (x : EyeScan) (counts : List Nat) : (eyeRecord s k x counts).length = 32 + 4 * counts.length := by
  have hpts : (counts.flatMap (fun n => leBytes 4 (min n (2 ^ 32 - 1)))).length = counts.length * 4 := by
    simp [List.length_flatMap]
  unfold eyeRecord
  simp only [List.length_append, leBytes_length, List.length_cons, List.length_nil, hpts]
  omega

theorem exec_eyeScanDone {s : State} {k : Fin 64} {n : List Nat} {x : EyeScan} (hscan : (s.lane k).scan = some x) (hcut : x.cut = false)
    (hlink : s.hif.linkDown = false) (hall : n.length = 64 / x.phStep * (128 / x.vStep)) : exec (.eyeScanDone k n) s =
      .next (((s.setLane k { s.lane k with scan := none }).emit (.host x.addr (eyeRecord s k x n))).complete x.cmd Status.ok []) := by
  have hlink' : (s.setLane k { s.lane k with scan := none }).hif.linkDown = false := hlink
  change execEyeScanDone k n s = _
  unfold execEyeScanDone
  simp only [hscan]
  rw [if_neg (by simp [hall]), ← hall, List.take_length, hcut, State.writeResults, hlink']
  rfl

/-! Comparison reports (R199, R200). -/

/-- A lane with one more report of a KIND for a press line. -/
def Lane.compared (l : Lane) (kind line : Nat) : Lane :=
  let first := l.cmpSince.all (· == 0)
  { l with cmp1 := satAdd 16 l.cmp1 (b2n (kind == 1)), cmp2 := satAdd 16 l.cmp2 (b2n (kind == 2)),
           cmp3 := satAdd 16 l.cmp3 (b2n (kind == 3)), cmp4 := satAdd 16 l.cmp4 (b2n (kind == 4)),
           cmpSince := modAt (fun n => satAdd 16 n 1) (kind - 1) l.cmpSince,
           cmpKind := if first then kind else l.cmpKind, cmpLine := if first then line else l.cmpLine }

theorem State.judgePartner_twinOnly (s : State) (lines : Nat) : s.TwinOnly (s.judgePartner lines) := by
  unfold State.judgePartner
  extract_lets u
  have hu : s.TwinOnly u := by
    simp only [u]
    split
    · exact s.modTwn_twinOnly _
    · exact .refl s
  split
  · exact hu.trans (u.modTwn_twinOnly _)
  · exact hu

/-- While a record was written in the last 1,024 press lines no other is. -/
theorem State.reportCompare_early {s : State} {k l : Nat} (hlast : (s.lane k).cmpRec.last = some l) (hnear : s.fir.lastLine.getD 0 ≤ l + 1024) :
    s.reportCompare k = s := by
  unfold State.reportCompare
  extract_lets x now
  refine if_pos ?_
  have hx : x.cmpRec.last = some l := hlast
  simp [RateLimit.due, hx, now, hnear]

/-- Beyond the counts of its lane a report bears on the twin's health alone. -/
theorem exec_cmpReport_counted {s : State} {k : Fin 64} {b : List Byte} {l : Nat} (hlock : (s.lane k).locked = true)
    (hl : (s.lane k).listens = true) (htype : u8 b 0 = 0x5A) (hpos : 1 ≤ u8 b 1 % 8) (hle : u8 b 1 % 8 ≤ 4)
    (hlast : (s.lane k).cmpRec.last = some l) (hnear : s.fir.lastLine.getD 0 ≤ l + 1024) :
    ∃ t, exec (.cmpReport k b) s = .next t ∧ (s.setLane k ((s.lane k).compared (u8 b 1 % 8) (u48 b 2))).TwinOnly t := by
  have hrep := State.reportCompare_early (s := s.setLane k ((s.lane k).compared (u8 b 1 % 8) (u48 b 2))) (k := k) (l := l)
    (by rw [State.lane_setLane]; exact hlast) hnear
  change ∃ t, execCmpReport k b s = .next t ∧ _
  unfold execCmpReport
  extract_lets x kind line first y u v
  have hu : u = s.setLane k ((s.lane k).compared (u8 b 1 % 8) (u48 b 2)) := hrep
  rw [if_neg (by simp [htype]), if_neg (by simp only [x, kind, hlock, hl]; simp; omega), ← hu]
  split
  · exact ⟨_, rfl, u.modTwn_twinOnly _⟩
  · split
    · exact ⟨u, rfl, .refl u⟩
    · exact ⟨_, rfl, ((u.modTwn_twinOnly _).trans (State.judgePartner_twinOnly _ _)).trans (State.proofFail_twinOnly _ _ _)⟩

end Sys2Proof.Machine

open Sys2Proof Sys2Proof.Machine

/-- Settles O29, clause by clause: each command or block of a hub takes the branch that its hypotheses select. -/
theorem hubsAnswerAndReport : Obligations.HubsAnswerAndReport := by
  unfold Obligations.HubsAnswerAndReport
  refine ⟨?_, fun s k b x m hup hmsg hx htag haddr =>
      exec_hubReply_good hup (messagePayload_type hx) (Lane.replyOf_good hmsg hx htag) haddr,
    fun s k b hup htype hx => exec_hubReply_bad hup htype (Lane.replyOf_of_no_payload hx),
    fun s k m hmsg hlate hnone => exec_headMsgTimeout hmsg hlate hnone,
    fun s k b hlock hl htype hslot hsame => exec_statusBlock_same hlock hl htype hslot hsame, ?_, ?_, ?_⟩
  · intro s r c h hlane hpos hlen htime haddr hup hfree m hm
    subst hm
    have hexec := (exec_snrHeadMsg_atOnce h).trans (congrArg (fun x => Host.Outcome.next (settle c.id x))
      (effSnrHeadMsg_good (c := { c with host := .ok [] }) (s := s.begun r c (.ok [])) hlane hpos hlen htime haddr hup hfree))
    refine ⟨fun hwire hnone => ?_, fun hbusy => ?_⟩
    · rw [hexec, State.queueMsg_starts (by rw [State.lane_modLane]; exact hwire) (by rw [State.lane_modLane]; exact hnone),
        State.startMsg_modLane]
      rfl
    · rw [hexec, State.queueMsg_waits (by rw [State.lane_modLane]; exact hbusy)]
      simp only [State.modLane, State.lane_setLane, State.setLane_setLane]
      rfl
  · intro s r c h hlane hph hv hlow hhigh haddr hroom hup hfree hfew
    rw [exec_snrEyeScan_atOnce h, effSnrEyeScan_good (c := { c with host := .ok [] }) (s := s.begun r c (.ok [])) hlane hph hv hlow hhigh haddr
      hroom hup hfree hfew]
    rfl
  · intro s k n x hscan hcut hlink hawake hall
    refine ⟨_, eyeRecord s k x n, exec_eyeScanDone hscan hcut hlink hall, rfl, ?_, ?_, rfl, eyeRecord_length s k x n,
      fun q hq => State.lane_setLane_ne s (fun h => hq (Fin.ext h)) _⟩
    · exact congrArg Lane.scan (State.lane_setLane s k { s.lane k with scan := none })
    · have hout : Out.host x.addr (eyeRecord s k x n) ∈ ((s.setLane k { s.lane k with scan := none }).emit (.host x.addr (eyeRecord s k x n))).out := by
        rw [State.emit_out, State.leaves_awake (s.setLane k { s.lane k with scan := none }) _ hawake]
        simp
      exact hout
  · intro s k b l hlock hl htype hpos hle hlast hnear
    obtain ⟨t, hexec, ht⟩ := exec_cmpReport_counted hlock hl htype hpos hle hlast hnear
    have hlane : ∀ q, t.lane q = (s.setLane k ((s.lane k).compared (u8 b 1 % 8) (u48 b 2))).lane q := fun q =>
      (congrArg (fun u : State => u.lane q) ht).trans rfl
    have hk := (hlane k).trans (State.lane_setLane ..)
    refine ⟨t, hexec, by rw [ht]; rfl, ?_, ?_, ?_, ?_, ?_, ?_, ?_, ?_,
      fun j hj => (hlane j).trans (State.lane_setLane_ne s (fun h => hj (Fin.ext h)) _)⟩
    all_goals
      rw [hk]
      rfl
end

section
/-! Frames of the cameras (R225 to R235, R240 to R244) and exposure sets (R230 to R232): what packets, the pipeline, the masters of the sensor
buses and the timeouts do to a unit. -/
namespace Sys2Proof.Machine

/-! What opening a frame leaves alone (R228, R231, R238, R239, R261). -/

/-- Only what is sent, the host interface, the event block, the streams, the cameras and STK differ. -/
def State.CamOnly (s t : State) : Prop := t = { s with out := t.out, hif := t.hif, evt := t.evt, cmp := t.cmp, cam := t.cam, stk := t.stk }

theorem State.CamOnly.trans {s t u : State} (h₁ : s.CamOnly t) (h₂ : t.CamOnly u) : s.CamOnly u := by
  unfold State.CamOnly at *
  rw [h₂, h₁]

theorem State.CamOnly.tick {s t : State} (h : s.CamOnly t) : t.tick = s.tick := (congrArg State.tick h).trans rfl

theorem State.CamOnly.lineNow {s t : State} (h : s.CamOnly t) : t.lineNow = s.lineNow := (congrArg State.lineNow h).trans rfl

theorem State.CamOnly.setCamUnit {s t : State} (h : s.CamOnly t) (u : Nat) (c : CamUnit) : s.CamOnly (t.setCamUnit u c) :=
  State.CamOnly.trans h rfl

/-- What of a unit tells its frames, apart from the open one. -/
structure CamUnit.SameFrames (c d : CamUnit) : Prop where
  started : d.started = c.started
  closed : d.closed = c.closed
  lastFrame : d.lastFrame = c.lastFrame
  nextFrame : d.nextFrame = c.nextFrame
  dead : d.dead = c.dead

theorem CamUnit.SameFrames.refl (c : CamUnit) : c.SameFrames c := ⟨rfl, rfl, rfl, rfl, rfl⟩

theorem CamUnit.SameFrames.trans {c d e : CamUnit} (h₁ : c.SameFrames d) (h₂ : d.SameFrames e) : c.SameFrames e :=
  ⟨h₂.started.trans h₁.started, h₂.closed.trans h₁.closed, h₂.lastFrame.trans h₁.lastFrame, h₂.nextFrame.trans h₁.nextFrame,
    h₂.dead.trans h₁.dead⟩

/-- One state comes from another by changes that leave the other units alone, and the frames of unit `u`. -/
structure State.KeepsFrames (u : Nat) (s t : State) : Prop where
  frame : s.CamOnly t
  others : ∀ q, q ≠ u → t.camUnit q = s.camUnit q
  same : (s.camUnit u).SameFrames (t.camUnit u)

theorem State.KeepsFrames.trans {u : Nat} {s t v : State} (h₁ : State.KeepsFrames u s t) (h₂ : State.KeepsFrames u t v) :
    State.KeepsFrames u s v :=
  ⟨h₁.frame.trans h₂.frame, fun q hq => (h₂.others q hq).trans (h₁.others q hq), h₁.same.trans h₂.same⟩

/-- A change that leaves all units alone. -/
theorem State.KeepsFrames.of_units {u : Nat} {s t : State} (h : s.CamOnly t) (hu : ∀ q, t.camUnit q = s.camUnit q) : State.KeepsFrames u s t :=
  ⟨h, fun q _ => hu q, hu u ▸ .refl _⟩

theorem State.KeepsFrames.refl (u : Nat) (s : State) : State.KeepsFrames u s s := .of_units rfl fun _ => rfl

theorem State.modCamUnit_ne (s : State) {u q : Nat} (h : q ≠ u) (f : CamUnit → CamUnit) : (s.modCamUnit u f).camUnit q = s.camUnit q :=
  State.camUnit_setCamUnit_ne s h _

theorem State.modCamUnit_keepsFrames (s : State) (u : Nat) {f : CamUnit → CamUnit} (h : (s.camUnit u).SameFrames (f (s.camUnit u))) :
    State.KeepsFrames u s (s.modCamUnit u f) :=
  ⟨rfl, fun _ hq => s.modCamUnit_ne hq f, by rw [State.camUnit_modCamUnit]; exact h⟩

theorem State.raise_keepsFrames (s : State) (u code unit : Nat) (args : List Byte) : State.KeepsFrames u s (s.raise code unit args) := by
  obtain ⟨o, g, m, w, e, h⟩ := s.raise_eq code unit args
  rw [h]
  exact .of_units rfl fun _ => rfl

theorem State.completeOpt_keepsFrames (s : State) (u : Nat) (id : Option Nat) (st : Nat) (res : List Byte) :
    State.KeepsFrames u s (s.completeOpt id st res) := by
  cases id with
  | none => exact .refl u s
  | some id => exact .of_units rfl fun _ => rfl

theorem State.releaseStreams_keepsFrames (s : State) (u : Nat) (keep : List Nat) : State.KeepsFrames u s (s.releaseStreams u keep) := by
  unfold State.releaseStreams
  extract_lets gone t
  have ht : State.KeepsFrames u s t := List.foldlRecOn (motive := State.KeepsFrames u s) gone _ (.refl u s) fun v hv k _ =>
    hv.trans (.of_units rfl fun _ => rfl)
  exact ht.trans (t.modCamUnit_keepsFrames u ⟨rfl, rfl, rfl, rfl, rfl⟩)

theorem State.takeCamera_keepsFrames (s : State) (u : Nat) : State.KeepsFrames u s (s.takeCamera u) := by
  unfold State.takeCamera
  extract_lets c t
  have ht : State.KeepsFrames u s t := by
    simp only [t]
    split
    · exact s.modCamUnit_keepsFrames u ⟨rfl, rfl, rfl, rfl, rfl⟩
    · exact .refl u s
  split
  · exact (ht.trans (t.modCamUnit_keepsFrames u ⟨rfl, rfl, rfl, rfl, rfl⟩)).trans (State.releaseStreams_keepsFrames _ u _)
  · exact ht

theorem State.setExp_keepsFrames (s : State) (u : Nat) (e : ExpSet) : State.KeepsFrames u s (s.setExp u e) :=
  s.modCamUnit_keepsFrames u ⟨rfl, rfl, rfl, rfl, rfl⟩

theorem State.cciQueue_keepsFrames (s : State) (u m : Nat) (xs : List CciXfer) : State.KeepsFrames u s (s.cciQueue m xs) := by
  unfold State.cciQueue
  extract_lets idle t
  have ht : State.KeepsFrames u s t := .of_units rfl fun _ => rfl
  split
  · split
    · exact ht.trans (.of_units rfl fun _ => rfl)
    · exact ht
  · exact ht

theorem State.latchExp_keepsFrames (s : State) (u k : Nat) : State.KeepsFrames u s (s.latchExp u k) := by
  unfold State.latchExp
  extract_lets c
  split
  next e d _ _ =>
    extract_lets ws e' t
    have ht : State.KeepsFrames u s t := s.setExp_keepsFrames u e'
    split
    · exact (ht.trans (t.setExp_keepsFrames u _)).trans (State.completeOpt_keepsFrames _ u _ _ _)
    · exact ht.trans (t.cciQueue_keepsFrames u _ _)
  · exact .refl u s

theorem State.applyExps_keepsFrames (s : State) (u f : Nat) : State.KeepsFrames u s (s.applyExps u f) :=
  List.foldlRecOn (motive := State.KeepsFrames u s) _ _ (.refl u s) fun t ht _ _ =>
    (ht.trans (t.modCamUnit_keepsFrames u ⟨rfl, rfl, rfl, rfl, rfl⟩)).trans (State.raise_keepsFrames _ u _ _ _)

theorem State.takeMap_keepsFrames (s : State) (u : Nat) : State.KeepsFrames u s (s.takeMap u) := by
  unfold State.takeMap
  split
  · exact .refl u s
  · exact .of_units rfl fun _ => rfl

/-! A frame opens (R228). -/

/-- Unit `u` opens its next frame `f`, and what it has closed stands. -/
structure State.Opens (u : Nat) (s t : State) (f : Frame) : Prop where
  frame : s.CamOnly t
  others : ∀ q, q ≠ u → t.camUnit q = s.camUnit q
  isOpen : (t.camUnit u).open_ = some f
  no : f.no = (s.camUnit u).nextFrame
  fsTick : f.fsTick = s.tick
  fsLine : f.fsLine = s.lineNow
  fresh : f.got = 0 ∧ f.served = 0 ∧ f.damaged = false
  nextFrame : (t.camUnit u).nextFrame = (s.camUnit u).nextFrame + 1
  live : (t.camUnit u).dead = false
  started : (t.camUnit u).started = (s.camUnit u).started
  closed : (t.camUnit u).closed = (s.camUnit u).closed
  lastFrame : (t.camUnit u).lastFrame = (s.camUnit u).lastFrame

/-- A unit before its next frame opens: its frame is counted, and what waits for an FS has taken effect. -/
def State.beforeFrame (s : State) (u : Nat) : State :=
  let n := (s.camUnit u).nextFrame
  let s := (s.takeCamera u).modCamUnit u (fun c => { c with nextFrame := n + 1, dead := false, stopHeld := c.stopHeld || c.stopping })
  ((s.latchExp u n).applyExps u n).takeMap u

/-- What a unit is before its next frame opens. -/
structure State.ReadyToOpen (u : Nat) (s t : State) : Prop where
  frame : s.CamOnly t
  others : ∀ q, q ≠ u → t.camUnit q = s.camUnit q
  same : { s.camUnit u with nextFrame := (s.camUnit u).nextFrame + 1, dead := false : CamUnit }.SameFrames (t.camUnit u)

theorem State.beforeFrame_ready (s : State) (u : Nat) : State.ReadyToOpen u s (s.beforeFrame u) := by
  unfold State.beforeFrame
  extract_lets n t
  have hs₁ := s.takeCamera_keepsFrames u
  have hv := ((t.latchExp_keepsFrames u n).trans (State.applyExps_keepsFrames _ u n)).trans (State.takeMap_keepsFrames _ u)
  generalize ((t.latchExp u n).applyExps u n).takeMap u = v at hv ⊢
  have ht : s.CamOnly t := hs₁.frame.setCamUnit u _
  refine ⟨ht.trans hv.frame, fun q hq => (hv.others q hq).trans ((State.modCamUnit_ne _ hq _).trans (hs₁.others q hq)), ?_⟩
  refine CamUnit.SameFrames.trans ?_ hv.same
  simp only [t, State.camUnit_modCamUnit]
  exact ⟨hs₁.same.started, hs₁.same.closed, hs₁.same.lastFrame, rfl, rfl⟩

/-- The frame that a unit opens with number `n`. -/
def State.newFrame (s : State) (u n : Nat) : Frame :=
  let c := s.camUnit u
  { no := n, fsTick := s.tick, fsTime := s.nowNs, timeB := s.hif.timeB, pipe := c.pipe, outs := c.outs, fsLine := s.lineNow,
    expset := (c.expAt n).1, mixed := (c.expAt n).2, width := (c.desc.map (fun d => d.width)).getD 0,
    stripH := (c.desc.map (fun d => d.stripH)).getD 0, dt := (c.desc.map (fun d => d.dt)).getD 0,
    coded := bit c.outs.enable 1 && c.held.contains c.outs.codeStream }

theorem State.openFrame_eq (s : State) (u : Nat) : s.openFrame u =
    (s.beforeFrame u).modCamUnit u (fun c => { c with
      open_ := some ((s.beforeFrame u).newFrame u (s.camUnit u).nextFrame), expShown := (c.expAt (s.camUnit u).nextFrame).1 }) := by
  unfold State.openFrame
  extract_lets n t v
  have hv : v = s.beforeFrame u := rfl
  rw [← hv]
  clear_value v
  rfl

theorem State.openFrame_opens (s : State) (u : Nat) : ∃ f, State.Opens u s (s.openFrame u) f := by
  have h := s.beforeFrame_ready u
  rw [State.openFrame_eq]
  generalize s.beforeFrame u = v at h ⊢
  have hu := v.camUnit_modCamUnit u (fun c => { c with
    open_ := some (v.newFrame u (s.camUnit u).nextFrame), expShown := (c.expAt (s.camUnit u).nextFrame).1 })
  refine ⟨v.newFrame u (s.camUnit u).nextFrame, h.frame.setCamUnit u _, fun q hq => (v.modCamUnit_ne hq _).trans (h.others q hq),
    by rw [hu], rfl, h.frame.tick, h.frame.lineNow, ⟨rfl, rfl, rfl⟩, ?_, ?_, ?_, ?_, ?_⟩
  all_goals rw [hu]
  · exact h.same.nextFrame
  · exact h.same.dead
  · exact h.same.started
  · exact h.same.closed
  · exact h.same.lastFrame

/-! FRAME_START (R228). -/

/-- A frame of unit `u` that closes at this tick. -/
def State.closing (s : State) (f : Frame) : Frame :=
  { f with closeTick := s.tick, closeTime := s.stampIn f.timeB, closeLine := s.lineNow }

theorem State.closeFrame_eq (s : State) (u : Nat) (f : Frame) : s.closeFrame u f =
    s.modCamUnit u (fun c => { c with open_ := none, closed := c.closed ++ [s.closing f], lastFrame := f.no % 2 ^ 32 }) := rfl

/-- A frame still open at the next FS closes as damaged. -/
def State.closeOpen (s : State) (u : Nat) : State :=
  match (s.camUnit u).open_ with
  | some f => s.closeFrame u { f with damaged := true }
  | none => s

/-- What the close of an open frame leaves of a state. -/
theorem State.closeOpen_frame (s : State) (u : Nat) : s.CamOnly (s.closeOpen u) ∧ (∀ q, q ≠ u → (s.closeOpen u).camUnit q = s.camUnit q) ∧
    ((s.closeOpen u).camUnit u).nextFrame = (s.camUnit u).nextFrame ∧ ((s.closeOpen u).camUnit u).started = (s.camUnit u).started := by
  unfold State.closeOpen
  split
  next f hf =>
    rw [State.closeFrame_eq]
    exact ⟨rfl, fun q hq => s.modCamUnit_ne hq _, by rw [State.camUnit_modCamUnit], by rw [State.camUnit_modCamUnit]⟩
  · exact ⟨rfl, fun _ _ => rfl, rfl, rfl⟩

theorem State.closeOpen_some {s : State} {u : Nat} {g : Frame} (h : (s.camUnit u).open_ = some g) :
    ((s.closeOpen u).camUnit u).lastFrame = g.no % 2 ^ 32 ∧
      ((s.closeOpen u).camUnit u).closed = (s.camUnit u).closed ++ [s.closing { g with damaged := true }] := by
  have hc : s.closeOpen u = s.closeFrame u { g with damaged := true } := by
    unfold State.closeOpen
    rw [h]
  rw [hc, State.closeFrame_eq, State.camUnit_modCamUnit]
  exact ⟨rfl, rfl⟩

section
variable {s : State} {u : Fin 16} {t0 : Nat} (hstarted : (s.camUnit u).started = some t0) (hon : s.portOn u = true) (hlt : t0 < s.tick)
include hstarted hon hlt

theorem exec_frameStart (hstop : (s.camUnit u).stopping = false ∨ (s.camUnit u).stopTick = s.tick) :
    exec (.frameStart u) s = .next ((s.closeOpen u).openFrame u) := by
  have hgo : ¬((s.camUnit u).stopping = true ∧ (s.camUnit u).stopTick ≠ s.tick) := fun ⟨h₁, h₂⟩ =>
    hstop.elim (fun h => by rw [h] at h₁; exact absurd h₁ (by decide)) (fun h => h₂ h)
  change execFrameStart u s = _
  unfold execFrameStart
  simp only [hstarted]
  rw [if_neg (by simp [hon]; omega)]
  unfold State.closeOpen
  cases (s.camUnit u).open_ with
  | some f => exact congrArg Host.Outcome.next (if_neg hgo)
  | none => exact if_neg hgo

end

theorem exec_frameStart_ignored {s : State} {u : Fin 16}
    (h : (s.camUnit u).started = none ∨ s.portOn u = false ∨ ∃ t0, (s.camUnit u).started = some t0 ∧ s.tick ≤ t0) :
    exec (.frameStart u) s = .next s := by
  change execFrameStart u s = _
  unfold execFrameStart
  extract_lets c
  split
  · rfl
  next t0 ht =>
    refine if_pos ?_
    obtain h | h | ⟨t, h, hle⟩ := h
    · exact absurd (ht.symm.trans h) (by simp)
    · exact .inl h
    · exact .inr (by have := Option.some.inj (ht.symm.trans h); omega)

theorem State.latchExp_of_none {s : State} {u : Nat} (h : (s.camUnit u).exps = []) (k : Nat) : s.latchExp u k = s := by
  simp [State.latchExp, h]

theorem State.applyExps_of_none {s : State} {u : Nat} (h : (s.camUnit u).exps = []) (k : Nat) : s.applyExps u k = s := by
  simp [State.applyExps, h]

/-- With nothing that waits for an FS, only the frame is counted. -/
theorem State.beforeFrame_idle {s : State} {u : Nat} (hstop : (s.camUnit u).stopping = false) (hpipe : (s.camUnit u).pipeNext = [])
    (houts : (s.camUnit u).outsNext = []) (hexps : (s.camUnit u).exps = []) (hmap : s.stk.mapNext.get none u = none) :
    s.beforeFrame u = s.modCamUnit u (fun c => { c with nextFrame := c.nextFrame + 1, dead := false }) := by
  have htake : s.takeCamera u = s := by
    simp [State.takeCamera, hpipe, houts, lastDue]
  unfold State.beforeFrame
  extract_lets n t
  have ht : t = s.modCamUnit u (fun c => { c with nextFrame := c.nextFrame + 1, dead := false }) := by
    simp only [t, htake, State.modCamUnit, hstop, Bool.or_false]
    rfl
  have htexps : (t.camUnit u).exps = [] := by rw [ht, State.camUnit_modCamUnit]; exact hexps
  have htmap : t.stk.mapNext.get none u = none := by rw [ht]; exact hmap
  rw [State.latchExp_of_none htexps, State.applyExps_of_none htexps, State.takeMap, htmap]
  exact ht

theorem CamUnit.expAt_of_none {c : CamUnit} (h : c.exps = []) (n : Nat) : c.expAt n = (c.expCur, false) := by
  simp [CamUnit.expAt, h]

theorem State.openFrame_idle {s : State} {u : Nat} (hstop : (s.camUnit u).stopping = false) (hpipe : (s.camUnit u).pipeNext = [])
    (houts : (s.camUnit u).outsNext = []) (hexps : (s.camUnit u).exps = []) (hmap : s.stk.mapNext.get none u = none) :
    s.openFrame u = s.modCamUnit u (fun c => { c with
      nextFrame := c.nextFrame + 1, dead := false, open_ := some {
        no := c.nextFrame, fsTick := s.tick, fsTime := s.nowNs, timeB := s.hif.timeB, pipe := c.pipe, outs := c.outs, fsLine := s.lineNow,
        expset := c.expCur, mixed := false, width := (c.desc.map (fun d => d.width)).getD 0, stripH := (c.desc.map (fun d => d.stripH)).getD 0,
        dt := (c.desc.map (fun d => d.dt)).getD 0, coded := bit c.outs.enable 1 && c.held.contains c.outs.codeStream },
      expShown := c.expCur }) := by
  rw [State.openFrame_eq, State.beforeFrame_idle hstop hpipe houts hexps hmap]
  have hnew : (s.modCamUnit u (fun c => { c with nextFrame := c.nextFrame + 1, dead := false })).newFrame u (s.camUnit u).nextFrame =
      { no := (s.camUnit u).nextFrame, fsTick := s.tick, fsTime := s.nowNs, timeB := s.hif.timeB, pipe := (s.camUnit u).pipe,
        outs := (s.camUnit u).outs, fsLine := s.lineNow, expset := (s.camUnit u).expCur, mixed := false,
        width := ((s.camUnit u).desc.map (fun d => d.width)).getD 0, stripH := ((s.camUnit u).desc.map (fun d => d.stripH)).getD 0,
        dt := ((s.camUnit u).desc.map (fun d => d.dt)).getD 0,
        coded := bit (s.camUnit u).outs.enable 1 && (s.camUnit u).held.contains (s.camUnit u).outs.codeStream } := by
    unfold State.newFrame
    rw [State.camUnit_modCamUnit]
    simp only [CamUnit.expAt_of_none, hexps]
    rfl
  rw [hnew]
  simp only [State.modCamUnit, State.camUnit_setCamUnit, State.setCamUnit_setCamUnit, CamUnit.expAt_of_none, hexps]

/-! Lines (R225, R233, R235). -/

/-- The port of a unit counts what its packets suffered. -/
def State.countPackets (s : State) (u e n m k : Nat) : State := s.modCamPort (camPortOf u) (fun p => p.count e n m k)

theorem State.countPackets_camPort (s : State) (u e n m k : Nat) :
    (s.countPackets u e n m k).camPort (u / 4) = (s.camPort (u / 4)).count e n m k := State.camPort_modCamPort ..

theorem State.countPackets_camUnit (s : State) (u e n m k q : Nat) : (s.countPackets u e n m k).camUnit q = s.camUnit q := rfl

theorem State.setCamUnit_camPort (s : State) (u : Nat) (c : CamUnit) (p : Nat) : (s.setCamUnit u c).camPort p = s.camPort p := rfl

theorem State.serve_camPort (s : State) (v : Option (Nat × Nat × Bool)) (p : Nat) :
    (s.modCam (fun m => { m with serving := v })).camPort p = s.camPort p := rfl

theorem State.serve_camUnit (s : State) (v : Option (Nat × Nat × Bool)) (q : Nat) :
    (s.modCam (fun m => { m with serving := v })).camUnit q = s.camUnit q := rfl

theorem State.drawn_camPort (s : State) (p : Nat) : s.drawn.camPort p = s.camPort p := rfl

theorem State.drawn_camUnit (s : State) (q : Nat) : s.drawn.camUnit q = s.camUnit q := rfl

/-- A unit whose line is ready may be chosen for service, and nothing else changes. -/
theorem State.lineReady_eq (s : State) (u : Nat) : ∃ v, s.lineReady u = s.modCam (fun m => { m with serving := v }) := by
  unfold State.lineReady
  extract_lets take
  split
  · exact ⟨_, rfl⟩
  · exact ⟨s.cam.serving, rfl⟩

theorem exec_lineArrival_off {s : State} {u : Fin 16} (h : s.portOn u = false) (rows : List (List Nat)) (e : Fin 4) (n m k : Nat) :
    exec (.lineArrival u rows e n m k) s = .next s := by
  change execLineArrival u rows e n m k s = _
  exact if_pos h

section
variable {s : State} {u : Fin 16} (hon : s.portOn u = true) (rows : List (List Nat)) (e : Fin 4) (n m k : Nat)
include hon

theorem exec_lineArrival_outside (h : (s.camUnit u).open_ = none ∨ (s.camUnit u).desc = none) :
    exec (.lineArrival u rows e n m k) s = .next (s.countPackets u e n m k) := by
  change execLineArrival u rows e n m k s = _
  unfold execLineArrival
  rw [if_neg (by simp [hon])]
  extract_lets c t
  split
  next f d hf hd => exact absurd h (by simp [show (s.camUnit u).open_ = some f from hf, show (s.camUnit u).desc = some d from hd])
  · rfl

section
variable {f : Frame} {d : SensorDesc} (hopen : (s.camUnit u).open_ = some f) (hdesc : (s.camUnit u).desc = some d)
include hopen hdesc

theorem exec_lineArrival_empty : exec (.lineArrival u [] e n m k) s = .next ((s.countPackets u e n m k).setCamUnit u { s.camUnit u with
    open_ := some { f with damaged := f.damaged || e.val ≠ 0, crcErr := satAdd 16 f.crcErr e } }) := by
  change execLineArrival u [] e n m k s = _
  unfold execLineArrival
  rw [if_neg (by simp [hon])]
  simp only [hopen, hdesc, if_true]
  rfl

variable {rows} (hrows : rows ≠ [])
include hrows

theorem exec_lineArrival_surplus (hfull : d.stripH ≤ f.got) : exec (.lineArrival u rows e n m k) s =
    .next ((s.countPackets u e n m k).setCamUnit u { s.camUnit u with
      open_ := some { f with damaged := true, crcErr := satAdd 16 f.crcErr e } }) := by
  change execLineArrival u rows e n m k s = _
  unfold execLineArrival
  rw [if_neg (by simp [hon])]
  simp only [hopen, hdesc]
  rw [if_neg hrows, if_pos hfull]
  rfl

variable (hroom : f.got < d.stripH)
include hroom

theorem exec_lineArrival_overflow (hslots : 2 ≤ (s.camUnit u).slots.length) (hfree : s.slotFrees u = false) :
    exec (.lineArrival u rows e n m k) s = .next ((s.countPackets u e n m k).overflow u f) := by
  change execLineArrival u rows e n m k s = _
  unfold execLineArrival
  rw [if_neg (by simp [hon])]
  simp only [hopen, hdesc]
  rw [if_neg hrows, if_neg (Nat.not_le.mpr hroom), if_pos ⟨hslots, hfree⟩]
  rfl

/-- A line goes into a slot with a channel per row, fitted to WIDTH. -/
theorem exec_lineArrival_slot (hslots : (s.camUnit u).slots.length < 2 ∨ s.slotFrees u = true) :
    ∃ (ch : List (List Nat)) (v : Option (Nat × Nat × Bool)), exec (.lineArrival u rows e n m k) s =
        .next (((if (e.val ≠ 0 || rows.length ≠ 3 || rows.any (fun r => r.length ≠ d.width)) then (s.countPackets u e n m k).drawn
          else s.countPackets u e n m k).modCam (fun m => { m with serving := v })).setCamUnit u { s.camUnit u with
          open_ := some { f with
            got := f.got + 1, crcErr := satAdd 16 f.crcErr e,
            damaged := f.damaged || (e.val ≠ 0 || rows.length ≠ 3 || rows.any (fun r => r.length ≠ d.width)) },
          slots := (s.camUnit u).slots ++ [{ frame := f.fsTick, chans := ch }] }) ∧
      ch.length = 3 ∧ ∀ r ∈ ch, r.length = d.width := by
  have hnot : ¬(2 ≤ (s.camUnit u).slots.length ∧ (s.modCamPort (camPortOf u) (fun p => p.count e n m k)).slotFrees u = false) := fun ⟨h₁, h₂⟩ =>
    hslots.elim (fun h => absurd h (Nat.not_lt.mpr h₁)) (fun h => by rw [show s.slotFrees u = false from h₂] at h; exact absurd h (by decide))
  change ∃ ch v, execLineArrival u rows e n m k s = _ ∧ _
  unfold execLineArrival
  rw [if_neg (by simp [hon])]
  simp only [hopen, hdesc]
  rw [if_neg hrows, if_neg (Nat.not_le.mpr hroom), if_neg hnot]
  obtain ⟨v, hv⟩ := State.lineReady_eq (if (e.val ≠ 0 || rows.length ≠ 3 || rows.any (fun r => r.length ≠ d.width)) then
    (s.modCamPort (camPortOf u) (fun p => p.count e n m k)).drawn else s.modCamPort (camPortOf u) (fun p => p.count e n m k)) u
  refine ⟨_, v, by rw [hv]; rfl, by simp [channelRows], fun r hr => ?_⟩
  obtain ⟨x, -, rfl⟩ := List.mem_map.mp hr
  simp [fitRow]
  omega

end

end

theorem State.modCamUnit_modCamUnit (s : State) (u : Nat) (f g : CamUnit → CamUnit) :
    (s.modCamUnit u f).modCamUnit u g = s.modCamUnit u (fun c => g (f c)) := by
  simp [State.modCamUnit]

/-- A unit whose frame has overflowed (R235): the frame has closed as truncated, and its lines in the slots are gone. -/
def CamUnit.overflowed (c : CamUnit) (f closed : Frame) : CamUnit :=
  { c with dead := true, truncs := satAdd 16 c.truncs 1, slots := c.slots.filter (fun l => l.frame ≠ f.fsTick), open_ := none,
           closed := c.closed ++ [closed], lastFrame := f.no % 2 ^ 32 }

theorem State.overflow_eq (s : State) (u : Nat) (f : Frame) : ∃ l x, s.overflow u f =
    ((s.modCamUnit u (fun c => c.overflowed f (s.closing { f with trunc := true }))).modCam
      (fun m => { m with lastServed := l, serving := x })).raise 0x0701 u f.args := by
  unfold State.overflow
  extract_lets t cut v
  have hv : ∃ l x, v = t.modCam (fun m => { m with lastServed := l, serving := x }) := by
    simp only [v]
    split
    · exact ⟨_, _, rfl⟩
    · exact ⟨t.cam.lastServed, t.cam.serving, rfl⟩
  obtain ⟨l, x, hv⟩ := hv
  refine ⟨l, x, ?_⟩
  rw [hv]
  simp only [t]
  refine congrArg (fun y : State => y.raise 0x0701 u f.args) ?_
  rw [State.closeFrame_eq]
  exact congrArg (fun y : State => y.modCam (fun m => { m with lastServed := l, serving := x })) (s.modCamUnit_modCamUnit u
    (fun c => { c with dead := true, truncs := satAdd 16 c.truncs 1, slots := c.slots.filter (fun l => l.frame ≠ f.fsTick) })
    (fun c => { c with open_ := none, closed := c.closed ++ [s.closing { f with trunc := true }], lastFrame := f.no % 2 ^ 32 }))

theorem State.overflow_frame (s : State) (u : Nat) (f : Frame) : ∃ o h e m, s.overflow u f = { s with out := o, hif := h, evt := e, cam := m } ∧
    m.ports = s.cam.ports ∧ m.units.get {} u = (s.camUnit u).overflowed f (s.closing { f with trunc := true }) ∧
    ∀ q, q ≠ u → m.units.get {} q = s.camUnit q := by
  obtain ⟨l, x, h⟩ := s.overflow_eq u f
  obtain ⟨o, g, m, w, e, hr⟩ := State.raise_eq ((s.modCamUnit u (fun c => c.overflowed f (s.closing { f with trunc := true }))).modCam
    (fun m => { m with lastServed := l, serving := x })) 0x0701 u f.args
  exact ⟨_, _, _, _, h.trans hr, rfl, s.camUnit_modCamUnit u (fun c => c.overflowed f (s.closing { f with trunc := true })),
    fun q hq => s.modCamUnit_ne hq (fun c => c.overflowed f (s.closing { f with trunc := true }))⟩

/-! The pipeline (R234). -/

/-- Lines enter the frame that they belong to. -/
def CamLine.into (l : CamLine) (f : Frame) : Frame := if f.fsTick = l.frame then f.serve l else f

theorem exec_pipelineLine {s : State} {u : Nat} {l : CamLine} {rest : List CamLine} (hread : s.readUnit = some u)
    (hslots : (s.camUnit u).slots = l :: rest) : exec .pipelineLine s =
      .next ((s.setCamUnit u { s.camUnit u with
        slots := rest, open_ := (s.camUnit u).open_.map l.into, closed := (s.camUnit u).closed.map l.into }).modCam
          (fun m => { m with lastServed := u })).startService := by
  change execPipelineLine s = _
  unfold execPipelineLine
  simp only [hread, hslots]
  rfl

theorem State.startService_serving (s : State) :
    s.startService.cam.serving = s.startService.nextCamera.map (fun v => (v, s.startService.tick, false)) := rfl

theorem State.served_camUnit (s : State) (u q : Nat) :
    (s.modCam (fun m => { m with lastServed := u })).startService.camUnit q = s.camUnit q := rfl

theorem exec_pipelineLine_idle {s : State} (h : s.readUnit = none) : exec .pipelineLine s = .next s := by
  change execPipelineLine s = _
  simp only [execPipelineLine, h]

/-! The end of a frame (R228). -/

theorem exec_frameEnd {s : State} {u : Fin 16} {f : Frame} {d : SensorDesc} (hopen : (s.camUnit u).open_ = some f)
    (hdesc : (s.camUnit u).desc = some d) :
    exec (.frameEnd u) s = .next (s.closeFrame u { f with damaged := f.damaged || decide (f.got < d.stripH) }) := by
  change execFrameEnd u s = _
  simp only [execFrameEnd, hopen, hdesc]

theorem exec_frameEnd_closed {s : State} {u : Fin 16} (h : (s.camUnit u).open_ = none) : exec (.frameEnd u) s = .next s := by
  change execFrameEnd u s = _
  simp only [execFrameEnd, h]

theorem exec_frameTimeout_closed {s : State} {u : Fin 16} (h : (s.camUnit u).open_ = none) : exec (.frameTimeout u) s = .next s := by
  change execFrameTimeout u s = _
  simp only [execFrameTimeout, h]

/-- An FE of the unit is among what the tick still has to do. -/
theorem State.frameEndArrives_iff (s : State) (u : Fin 16) : s.arrives (fun i => match i with
    | .frameEnd v => v == u
    | _ => false) = true ↔ Instr.frameEnd u ∈ s.pending := by
  simp only [State.arrives, List.any_eq_true]
  constructor
  · rintro ⟨i, hi, h⟩
    split at h
    next v => rwa [beq_iff_eq.mp h] at hi
    · exact absurd h (by decide)
  · exact fun h => ⟨_, h, by simp⟩

section
variable {s : State} {u : Fin 16} {f : Frame} {d : SensorDesc} (hopen : (s.camUnit u).open_ = some f) (hdesc : (s.camUnit u).desc = some d)
include hopen hdesc

theorem exec_frameTimeout_eq : exec (.frameTimeout u) s =
    if s.tick < f.fsTick + d.frameTo * 200 ∨ Instr.frameEnd u ∈ s.pending then .next s
    else .next (((s.modCamUnit u (fun c => { c with timeouts := satAdd 16 c.timeouts 1 })).closeFrame u { f with timeout := true }).raise
      0x0702 u f.args) := by
  change execFrameTimeout u s = _
  simp only [execFrameTimeout, hopen, hdesc]
  refine if_congr (or_congr Iff.rfl ?_) rfl rfl
  exact (s.frameEndArrives_iff u)

theorem exec_frameTimeout_late (hlate : f.fsTick + d.frameTo * 200 ≤ s.tick) (hnone : Instr.frameEnd u ∉ s.pending) :
    exec (.frameTimeout u) s = .next ((s.modCamUnit u (fun c => { c with
      open_ := none, lastFrame := f.no % 2 ^ 32, timeouts := satAdd 16 c.timeouts 1,
      closed := c.closed ++ [s.closing { f with timeout := true }] })).raise 0x0702 u f.args) := by
  rw [exec_frameTimeout_eq hopen hdesc, if_neg (by simp [hnone]; omega), State.closeFrame_eq]
  simp only [State.modCamUnit, State.camUnit_setCamUnit, State.setCamUnit_setCamUnit]
  rfl

end

/-! Exposure settings (R231, R232). -/

theorem exec_camSetExposure_atOnce {s : State} {r : Fin 4} {c : Cmd} (h : s.atOnce r 0x0703 c = true) :
    exec (.camSetExposure r) s = .next (settle c.id (effCamSetExposure { c with host := .ok [] } (s.begun r c (.ok [])))) := by
  rw [← startCommand_atOnce h]
  rfl

section
variable {s : State} {c : Cmd} (hunit : u8 c.packet 8 < 16)
include hunit

theorem effCamSetExposure_stopped (h : (s.camUnit (u8 c.packet 8)).started = none) : effCamSetExposure c s = finish s Status.notReady := by
  unfold effCamSetExposure
  simp only []
  rw [if_neg (Nat.not_le.mpr hunit), if_pos h]

theorem effCamSetExposure_busy (hstarted : (s.camUnit (u8 c.packet 8)).started ≠ none)
    (h : ∃ e ∈ (s.camUnit (u8 c.packet 8)).exps, e.cmd ≠ none) : effCamSetExposure c s = finish s Status.busy := by
  unfold effCamSetExposure
  simp only []
  rw [if_neg (Nat.not_le.mpr hunit), if_neg hstarted, if_pos]
  obtain ⟨e, he, hcmd⟩ := h
  exact List.any_eq_true.mpr ⟨e, he, by simpa [Option.isSome_iff_ne_none] using hcmd⟩

theorem effCamSetExposure_waits (hstarted : (s.camUnit (u8 c.packet 8)).started ≠ none)
    (h : ∀ e ∈ (s.camUnit (u8 c.packet 8)).exps, e.cmd = none) : effCamSetExposure c s =
      ((s.modCamUnit (u8 c.packet 8) (fun x => { x with
        expNext := if x.expNext = 65535 then 1 else x.expNext + 1,
        exps := x.exps ++ [{ id := x.expNext, cmd := some c.id, values := (List.range 4).map (fun k => u32 c.packet (16 + 4 * k)),
                             commit := s.tick, order := s.cam.expOrder }] })).modCam (fun m => { m with expOrder := m.expOrder + 1 }),
        .running) := by
  unfold effCamSetExposure
  simp only []
  rw [if_neg (Nat.not_le.mpr hunit), if_neg hstarted, if_neg]
  · rfl
  · rw [Bool.not_eq_true, List.any_eq_false]
    exact fun e he => by simp [h e he]

end

theorem exec_exposureLatchTimeout_eq {s : State} {u : Fin 16} {e : ExpSet}
    (h : (s.camUnit u).exps.find? (fun e => e.frameK.isNone && e.cmd.isSome) = some e) : exec (.exposureLatchTimeout u) s =
      if s.tick < e.commit + 200000000 ∨ s.fsArrives u = true then .next s
      else .next ((s.modCamUnit u (fun c => { c with exps := c.exps.filter (fun x => x.id ≠ e.id) })).completeOpt e.cmd Status.timeout []) := by
  change execExposureLatchTimeout u s = _
  simp only [execExposureLatchTimeout, h]

theorem exec_exposureLatchTimeout_none {s : State} {u : Fin 16} (h : ∀ e ∈ (s.camUnit u).exps, e.frameK ≠ none ∨ e.cmd = none) :
    exec (.exposureLatchTimeout u) s = .next s := by
  have hnone : (s.camUnit u).exps.find? (fun e => e.frameK.isNone && e.cmd.isSome) = none := by
    rw [List.find?_eq_none]
    intro e he
    obtain h | h := h e he
    · simp [Option.isNone_iff_eq_none, h]
    · simp [h]
  change execExposureLatchTimeout u s = _
  simp only [execExposureLatchTimeout, hnone]

/-! Transfers (R230 to R232). -/

/-- The master of port `p` goes on with these transfers. -/
def State.cciGoOn (s : State) (p : Nat) (left : List CciXfer) : State :=
  let v := s.modCamPort p (fun q => { q with cci := left })
  match left with
  | y :: _ => v.emit (.cci p y)
  | [] => v

/-- What a master's next transfer leaves alone of what an exposure set reads. -/
theorem State.cciGoOn_camUnit (s : State) (p : Nat) (left : List CciXfer) (u : Nat) : (s.cciGoOn p left).camUnit u = s.camUnit u := by
  cases left with
  | nil => rfl
  | cons y rest => rfl

theorem State.modCci_portOn (s : State) (p : Nat) (left : List CciXfer) (u : Nat) :
    (s.modCamPort p (fun q => { q with cci := left })).portOn u = s.portOn u := by
  unfold State.portOn
  by_cases h : camPortOf u = p
  · rw [h, State.camPort_modCamPort]
  · rw [State.modCamPort, State.camPort_setCamPort_ne s h]

theorem State.cciGoOn_fsOpens (s : State) (p : Nat) (left : List CciXfer) (u : Nat) : (s.cciGoOn p left).fsOpens u = s.fsOpens u := by
  have hport : (s.cciGoOn p left).portOn u = s.portOn u := by
    cases left with
    | nil => exact s.modCci_portOn p [] u
    | cons y rest => exact s.modCci_portOn p (y :: rest) u
  have harr : ∀ q, (s.cciGoOn p left).arrives q = s.arrives q := by
    cases left with
    | nil => exact fun _ => rfl
    | cons y rest => exact fun _ => rfl
  have htick : (s.cciGoOn p left).tick = s.tick := by
    cases left with
    | nil => rfl
    | cons y rest => rfl
  simp only [State.fsOpens, State.fsArrives, State.cciGoOn_camUnit, hport, harr, htick]

theorem exec_cciTransferDone_idle {s : State} {p : Fin 4} (h : (s.camPort p).cci = []) (nack : Bool) :
    exec (.cciTransferDone p nack) s = .next s := by
  change execCciTransferDone p nack s = _
  simp only [execCciTransferDone, h]

section
variable {s : State} {p : Fin 4} {x : CciXfer} {rest : List CciXfer} (hcci : (s.camPort p).cci = x :: rest)
include hcci

theorem exec_cciTransferDone_good : exec (.cciTransferDone p false) s = .next ((s.cciGoOn p rest).expWritten x) := by
  change execCciTransferDone p false s = _
  simp only [execCciTransferDone, hcci]
  rfl

theorem exec_cciTransferDone_nack : exec (.cciTransferDone p true) s =
    .next ((s.cciGoOn p (rest.filter (fun y => !(y.unit == x.unit && y.expset == x.expset)))).expNack x) := by
  change execCciTransferDone p true s = _
  simp only [execCciTransferDone, hcci]
  rfl

end

theorem State.expWritten_found {s : State} {x : CciXfer} {e : ExpSet} (h : (s.camUnit x.unit).exps.find? (fun e => e.id == x.expset) = some e) :
    s.expWritten x = if e.left ≤ 1 then s.expDone x.unit e ((s.camUnit x.unit).nextFrame + b2n (s.fsOpens x.unit) - 1)
      else s.setExp x.unit { e with left := e.left - 1 } := by
  simp only [State.expWritten, h]

theorem State.expNack_found {s : State} {x : CciXfer} {e : ExpSet} (h : (s.camUnit x.unit).exps.find? (fun e => e.id == x.expset) = some e) :
    s.expNack x = (s.setExp x.unit { e with nacked := true, left := 0, cmd := none }).completeOpt e.cmd Status.cciNack [] := by
  simp only [State.expNack, h]

theorem State.expDone_latched {s : State} {u k : Nat} {e : ExpSet} {d : SensorDesc} (hk : e.frameK = some k) (hd : (s.camUnit u).desc = some d)
    (m : Nat) : s.expDone u e m = (s.setExp u { e with left := 0, clean := some (m + max d.delay 1), cmd := none }).completeOpt e.cmd Status.ok
      (leBytes 2 e.id ++ [0, 0] ++ leBytes 4 k ++ leBytes 4 (m + max d.delay 1) ++ leBytes 4 (m + max d.delay 1 - (k + d.delay))) := by
  unfold State.expDone
  rw [hk, hd]
  rfl

/-! The delivery of a frame (R240 to R244). -/

theorem State.foldl_emit_keepsFrames {α : Type} (s : State) (u : Nat) (l : List α) (o : α → Out) :
    State.KeepsFrames u s (l.foldl (fun s x => s.emit (o x)) s) :=
  List.foldlRecOn (motive := State.KeepsFrames u s) l _ (.refl u s) fun _ ht _ _ => ht.trans (.of_units rfl fun _ => rfl)

theorem State.codeFrame_keepsFrames (s : State) (u : Nat) (f : Frame) : State.KeepsFrames u s (s.codeFrame u f) := by
  unfold State.codeFrame
  extract_lets t
  have ht : State.KeepsFrames u s t := s.modCamUnit_keepsFrames u ⟨rfl, rfl, rfl, rfl, rfl⟩
  refine ht.trans (List.foldlRecOn (motive := State.KeepsFrames u t) _ _ (.refl u t) fun v hv pl _ => hv.trans ?_)
  exact List.foldlRecOn (motive := State.KeepsFrames u v) _ _ (.refl u v) fun _ hw _ _ => hw.trans (.of_units rfl fun _ => rfl)

theorem State.deliverOutputs_keepsFrames (s : State) (u : Nat) (f : Frame) (p : List (List Nat)) :
    State.KeepsFrames u s (s.deliverOutputs u f p) := by
  unfold State.deliverOutputs
  extract_lets o busy want pos t v w
  have ht : State.KeepsFrames u s t := by
    simp only [t]
    split
    · exact s.foldl_emit_keepsFrames u _ _
    · exact .refl u s
  have hv : State.KeepsFrames u t v := by
    simp only [v]
    split
    · exact .of_units rfl fun _ => rfl
    · exact .refl u t
  have hw : State.KeepsFrames u v w := by
    simp only [w]
    split
    · exact v.modCamUnit_keepsFrames u ⟨rfl, rfl, rfl, rfl, rfl⟩
    · split
      · exact v.codeFrame_keepsFrames u f
      · exact .refl u v
  have hall := (ht.trans hv).trans hw
  split
  · exact hall.trans (.of_units rfl fun _ => rfl)
  · exact hall

/-- With the frame record alone enabled, that is written (R243). -/
theorem State.deliverOutputs_record {f : Frame} (hcode : f.wantsCode = false) (h : f.outs.enable = 16) (s : State) (u : Nat)
    (p : List (List Nat)) : s.deliverOutputs u f p =
      s.emit (.host (f.outs.recAddr + f.no % 2 ^ f.outs.recLog2 * 64) (f.record u false [] (2 ^ 64 - 1))) := by
  have hbits : bit 16 0 = false ∧ bit 16 2 = false ∧ bit 16 4 = true := by decide
  obtain ⟨h0, h2, h4⟩ := hbits
  have hrec : ∀ a, f.record u false p a = f.record u false [] a := by
    intro a
    simp [Frame.record, h, h2]
  simp [State.deliverOutputs, h, h0, h2, h4, hcode, hrec]

/-- With no output enabled, nothing is written. -/
theorem State.deliverOutputs_nothing {f : Frame} (hcode : f.wantsCode = false) (h : f.outs.enable = 0) (s : State) (u : Nat)
    (p : List (List Nat)) : s.deliverOutputs u f p = s := by
  have hbits : bit 0 0 = false ∧ bit 0 2 = false ∧ bit 0 4 = false := by decide
  obtain ⟨h0, h2, h4⟩ := hbits
  simp [State.deliverOutputs, h, h0, h2, h4, hcode]

theorem exec_frameOutputDelivery_none {s : State} {u : Fin 16} (h : (s.camUnit u).ready = none) :
    exec (.frameOutputDelivery u) s = .next s := by
  change execFrameOutputDelivery u s = _
  simp only [execFrameOutputDelivery, h]

theorem exec_frameOutputDelivery_ready {s : State} {u : Fin 16} {f : Frame} (h : (s.camUnit u).ready = some f) :
    exec (.frameOutputDelivery u) s = .next (State.endCamStop false
      ((((if f.served = 0 then s.drawn else s).deliverOutputs u f (f.profile s.draw)).modCamUnit u (fun c => { c with
        closed := c.closed.drop 1 })).stkFrame u f (f.profile s.draw)) u) := by
  change execFrameOutputDelivery u s = _
  simp only [execFrameOutputDelivery, h]

/-- Where neither STK nor a stop follows the frame, its delivery ends with the frame. -/
theorem State.endDelivery_quiet {s : State} {u : Nat} (hmap : s.stkMap u = none) (hstop : (s.camUnit u).stopping = false) (f : Frame)
    (p : List (List Nat)) : State.endCamStop false (s.stkFrame u f p) u = s := by
  have hstk : s.stkFrame u f p = s := by simp only [State.stkFrame, hmap]
  rw [hstk]
  simp [State.endCamStop, hstop]

end Sys2Proof.Machine

open Sys2Proof Sys2Proof.Machine

/-- Settles O31, clause by clause: each event of the cameras takes the branch that its hypotheses select, and leaves the other units alone. -/
theorem framesAndExposures : Obligations.FramesAndExposures := by
  unfold Obligations.FramesAndExposures
  refine ⟨?fs, ?fsIdle, fun s u h => exec_frameStart_ignored h, fun s u rows e n m k h => exec_lineArrival_off h rows e n m k,
    fun s u rows e n m k hon h => exec_lineArrival_outside hon rows e n m k h,
    fun s u e n m k f hon hopen hdesc => ?empty, ?line, ?pipe, fun s h => exec_pipelineLine_idle h,
    fun s u f d hopen hdesc => exec_frameEnd hopen hdesc, fun s u h => ⟨exec_frameEnd_closed h, exec_frameTimeout_closed h⟩, ?timeout,
    ?setExp, ?setExpBad, ?latch, fun s u h => exec_exposureLatchTimeout_none h, fun s p nack h => exec_cciTransferDone_idle h nack,
    ?written, ?nack, fun s u h => exec_frameOutputDelivery_none h, ?deliver, ?quiet⟩
  case fs =>
    intro s u t0 hstarted hon hlt hstop
    obtain ⟨hframe, hothers, hnext, hstart⟩ := s.closeOpen_frame u
    obtain ⟨f, hf⟩ := (s.closeOpen u).openFrame_opens u
    obtain ⟨hgot, hserved, hdamaged⟩ := hf.fresh
    refine ⟨_, f, exec_frameStart hstarted hon hlt hstop, hframe.trans hf.frame, hf.isOpen, hf.no.trans hnext, hf.fsTick.trans hframe.tick,
      hf.fsLine.trans hframe.lineNow, hgot, hserved, hdamaged, hf.nextFrame.trans (congrArg (· + 1) hnext), hf.live,
      hf.started.trans (hstart.trans hstarted), fun g hg => ?_, fun q hq => ?_⟩
    · obtain ⟨hlast, hclosed⟩ := State.closeOpen_some hg
      exact ⟨hf.lastFrame.trans hlast, hf.closed.trans hclosed⟩
    · have hne : q.val ≠ u.val := fun h => hq (Fin.ext h)
      exact (hf.others q hne).trans (hothers q hne)
  case fsIdle =>
    intro s u t0 hstarted hon hlt hopen hstop hpipe houts hexps hmap
    have hclose : s.closeOpen u = s := by simp only [State.closeOpen, hopen]
    rw [exec_frameStart hstarted hon hlt (.inl hstop), hclose, State.openFrame_idle hstop hpipe houts hexps hmap]
  case empty =>
    obtain ⟨d, hd⟩ := Option.ne_none_iff_exists'.mp hdesc
    exact exec_lineArrival_empty hon e n m k hopen hd
  case line =>
    intro s u rows e n m k f d hon hopen hdesc hrows
    refine ⟨fun hfull => ?_, fun hroom hslots hfree => ?_, fun hroom hslots odd hodd => ?_⟩
    · refine ⟨_, exec_lineArrival_surplus hon e n m k hopen hdesc hrows hfull, rfl, ?_, ?_, ?_, fun q hq => ?_⟩
      · rw [State.camUnit_setCamUnit]
      · rw [State.camUnit_setCamUnit]
        rfl
      · rw [State.setCamUnit_camPort, State.countPackets_camPort]
      · rw [State.camUnit_setCamUnit_ne _ (fun h => hq (Fin.ext h)), State.countPackets_camUnit]
    · obtain ⟨o, h, v, cam, hover, hports, hu, hq⟩ := (s.countPackets u e n m k).overflow_frame u f
      have hexec := exec_lineArrival_overflow hon e n m k hopen hdesc hrows hroom hslots hfree
      rw [hover] at hexec
      refine ⟨_, hexec, rfl, ?_, ?_, ?_, ?_, ?_, ?_, fun q hne => hq q (fun h => hne (Fin.ext h))⟩
      · exact congrArg CamUnit.open_ hu
      · exact congrArg CamUnit.dead hu
      · exact congrArg CamUnit.truncs hu
      · exact congrArg CamUnit.lastFrame hu
      · exact congrArg CamUnit.closed hu
      · exact congrArg CamUnit.slots hu
    · subst hodd
      obtain ⟨ch, v, hexec, hlen, hwidth⟩ := exec_lineArrival_slot hon e n m k hopen hdesc hrows hroom hslots
      refine ⟨_, ch, hexec, ?_, ?_, hlen, hwidth, ?_, ?_, ?_, fun q hq => ?_⟩
      · split
        · rfl
        · rfl
      · rw [State.camUnit_setCamUnit]
      · rw [State.camUnit_setCamUnit]
        rfl
      · rw [State.setCamUnit_camPort, State.serve_camPort]
        split
        · rw [State.drawn_camPort, State.countPackets_camPort]
        · rw [State.countPackets_camPort]
      · split
        · rfl
        · rfl
      · rw [State.camUnit_setCamUnit_ne _ (fun h => hq (Fin.ext h)), State.serve_camUnit]
        split
        · rw [State.drawn_camUnit, State.countPackets_camUnit]
        · rw [State.countPackets_camUnit]
  case pipe =>
    intro s u l rest hread hslots
    refine ⟨_, exec_pipelineLine hread hslots, rfl, ?_, rfl, ?_, ?_, fun v hv => ?_, State.startService_serving _, rfl⟩
    · rw [State.served_camUnit, State.camUnit_setCamUnit]
    · rw [State.served_camUnit, State.camUnit_setCamUnit]
      rfl
    · rw [State.served_camUnit, State.camUnit_setCamUnit]
      rfl
    · rw [State.served_camUnit, State.camUnit_setCamUnit_ne s hv]
  case timeout =>
    intro s u f d hopen hdesc
    refine ⟨exec_frameTimeout_late hopen hdesc, fun h => ?_⟩
    rw [exec_frameTimeout_eq hopen hdesc, if_pos h]
  case setExp =>
    intro s r c h hunit hstarted hnone
    rw [exec_camSetExposure_atOnce h, effCamSetExposure_waits (c := { c with host := .ok [] }) (s := s.begun r c (.ok [])) hunit hstarted hnone]
    rfl
  case setExpBad =>
    intro s r c h hunit
    refine ⟨fun hstopped => ?_, fun hstarted hbusy => ?_⟩
    · rw [exec_camSetExposure_atOnce h, effCamSetExposure_stopped (c := { c with host := .ok [] }) (s := s.begun r c (.ok [])) hunit hstopped]
      rfl
    · rw [exec_camSetExposure_atOnce h, effCamSetExposure_busy (c := { c with host := .ok [] }) (s := s.begun r c (.ok [])) hunit hstarted hbusy]
      rfl
  case latch =>
    intro s u e hfind
    refine ⟨fun hlate hfs => ?_, fun h => ?_⟩
    · rw [exec_exposureLatchTimeout_eq hfind, if_neg (by simp [hfs]; omega)]
    · rw [exec_exposureLatchTimeout_eq hfind, if_pos h]
  case written =>
    intro s p x rest e d k cl hcci hfind hk hd hcl v hv w hw
    have hgo : w = s.cciGoOn p rest := by
      rw [hw, hv]
      cases rest with
      | nil => rfl
      | cons y ys => rfl
    subst hgo
    have hwritten := State.expWritten_found (s := s.cciGoOn p rest) (x := x) (e := e) (by rw [State.cciGoOn_camUnit]; exact hfind)
    rw [State.cciGoOn_camUnit, State.cciGoOn_fsOpens] at hwritten
    refine ⟨fun hleft => ?_, fun hleft => ?_⟩
    · rw [exec_cciTransferDone_good hcci, hwritten, if_neg (by omega)]
    · rw [exec_cciTransferDone_good hcci, hwritten, if_pos hleft, State.expDone_latched hk (by rw [State.cciGoOn_camUnit]; exact hd), ← hcl]
  case nack =>
    intro s p x rest left e hcci hfind hleft v hv w hw
    have hgo : w = s.cciGoOn p left := by
      rw [hw, hv]
      cases left with
      | nil => rfl
      | cons y ys => rfl
    subst hgo
    rw [exec_cciTransferDone_nack hcci, ← hleft, State.expNack_found (e := e) (by rw [State.cciGoOn_camUnit]; exact hfind)]
  case deliver =>
    intro s u f hready v hv
    have hexec := exec_frameOutputDelivery_ready hready
    rw [← hv] at hexec
    refine ⟨hexec, ?_⟩
    have hdraw : (if f.served = 0 then s.drawn else s).camUnit u = s.camUnit u := by
      split
      · rfl
      · rfl
    rw [hv, State.camUnit_modCamUnit]
    exact congrArg (List.drop 1) ((State.deliverOutputs_keepsFrames _ u f _).same.closed.trans (congrArg CamUnit.closed hdraw))
  case quiet =>
    intro s u f hready hserved hcode hmap hstop
    refine ⟨fun h => ?_, fun h => ?_⟩
    · rw [exec_frameOutputDelivery_ready hready, if_neg hserved, State.deliverOutputs_nothing hcode h, State.endDelivery_quiet]
      · exact hmap
      · rw [State.camUnit_modCamUnit]
        exact hstop
    · rw [exec_frameOutputDelivery_ready hready, if_neg hserved, State.deliverOutputs_record hcode h, State.endDelivery_quiet]
      · exact hmap
      · rw [State.camUnit_modCamUnit]
        exact hstop
end

section
/-! Position feedback (R290 to R309): what edges, SSI frames, index pulses, probe edges and switch samples do to their unit. -/
namespace Sys2Proof.Machine

/-! Quadrature (R291, R294, R295). -/

/-- A channel that counts freely: no set count of this tick, no wrap, no correction, forward motion up to its count. -/
structure Chan.Free (c : Chan) : Prop where
  wrap : c.cfg.wrap = false
  corr : c.corr = none
  setAt : c.setAt = none
  forward : c.reverse = false
  atEh : c.count = c.eh
  low : c.cfg.cntMin ≤ c.count - 1
  high : c.count + 1 ≤ c.cfg.cntMax
  hyst : 2 ≤ c.cfg.hyst

/-- Away from its limits a count moves by what it is told. -/
theorem Chan.move_free {c : Chan} (hwrap : c.cfg.wrap = false) (hset : c.setAt = none) {n : Int} (hlow : c.cfg.cntMin ≤ c.count + n)
    (hhigh : c.count + n ≤ c.cfg.cntMax) (tick : Nat) : c.move n tick = { c.keepPast tick with count := c.count + n } := by
  have hpast : (c.keepPast tick).setAt = none ∧ (c.keepPast tick).cfg = c.cfg ∧ (c.keepPast tick).count = c.count := by
    unfold Chan.keepPast
    split
    · exact ⟨hset, rfl, rfl⟩
    · exact ⟨hset, rfl, rfl⟩
  obtain ⟨hset', hcfg, hcount⟩ := hpast
  simp only [Chan.move, hset', hcfg, hcount, hwrap]
  rw [if_neg (by simp), if_neg (by simp), if_neg (by omega), if_neg (by omega)]

/-- What keeping the past count leaves of a channel. -/
theorem Chan.keepPast_frame (c : Chan) (tick : Nat) :
    (c.keepPast tick).cfg = c.cfg ∧ (c.keepPast tick).edges = c.edges ∧ (c.keepPast tick).reverse = c.reverse ∧ (c.keepPast tick).eh = c.eh ∧
      (c.keepPast tick).lines = c.lines := by
  unfold Chan.keepPast
  split
  · exact ⟨rfl, rfl, rfl, rfl, rfl⟩
  · exact ⟨rfl, rfl, rfl, rfl, rfl⟩

/-- In forward motion a count above EH takes EH with it. -/
theorem Chan.follow_above {c : Chan} (h : c.reverse = false) (habove : c.eh < c.count) : c.follow = { c with eh := c.count } := by
  have hnot : ¬ c.count < c.eh - (if c.cfg.hyst = 0 then 2 else (c.cfg.hyst : Int)) := by
    split
    · omega
    · omega
  simp only [Chan.follow, h]
  rw [if_neg (by simp), if_neg hnot, if_pos habove]

/-- In forward motion a count inside the hysteresis below EH leaves EH alone. -/
theorem Chan.follow_inside {c : Chan} (h : c.reverse = false) (hle : c.count ≤ c.eh) (hin : c.eh - c.cfg.hyst ≤ c.count) :
    c.follow = c := by
  have hnot : ¬ c.count < c.eh - (if c.cfg.hyst = 0 then 2 else (c.cfg.hyst : Int)) := by
    split
    · omega
    · omega
  simp only [Chan.follow, h]
  rw [if_neg (by simp), if_neg hnot, if_neg (by omega)]

/-- In forward motion EH goes along with a count that is not below it. -/
theorem Chan.follow_forward {c : Chan} (h : c.reverse = false) (hle : c.eh ≤ c.count) : c.follow = { c with eh := c.count } := by
  obtain hlt | heq := lt_or_eq_of_le hle
  · exact Chan.follow_above h hlt
  · rw [Chan.follow_inside h heq.ge (by omega)]
    exact congrArg (fun e => ({ c with eh := e } : Chan)) heq

/-- What an accepted edge leaves of a freely counting channel, EH apart. -/
def Chan.stepped (c : Chan) (d : Int) (tick : Nat) : Chan :=
  { c.keepPast tick with count := c.count + d, edges := c.edges + 1, clean := (c.keepPast tick).clean + 1, lastEdge := some (tick, c.count + d) }

theorem Chan.edge_free {c : Chan} (h : c.Free) {d : Int} (hd : d = 1 ∨ d = -1) (tick : Nat) : c.edge d tick = (c.stepped d tick).follow := by
  have hlow := h.low
  have hhigh := h.high
  have hcorrect : c.correct = (c, 0) := by simp only [Chan.correct, h.corr]
  have hmove : c.move (d + 0) tick = { c.keepPast tick with count := c.count + d } := by
    rw [add_zero]
    exact Chan.move_free h.wrap h.setAt (by omega) (by omega) tick
  unfold Chan.edge
  simp only [hcorrect, hmove]
  rw [(c.keepPast_frame tick).2.1]
  rfl

theorem Chan.edge_forward {c : Chan} (h : c.Free) (tick : Nat) : c.edge 1 tick = { c.stepped 1 tick with eh := c.count + 1 } := by
  obtain ⟨-, -, hrev, heh, -⟩ := c.keepPast_frame tick
  have hat := h.atEh
  rw [Chan.edge_free h (.inl rfl)]
  exact Chan.follow_above (hrev.trans h.forward) (by change (c.keepPast tick).eh < c.count + 1; omega)

theorem Chan.edge_backward {c : Chan} (h : c.Free) (tick : Nat) : c.edge (-1) tick = c.stepped (-1) tick := by
  obtain ⟨hcfg, -, hrev, heh, -⟩ := c.keepPast_frame tick
  have hat := h.atEh
  have hhyst := h.hyst
  rw [Chan.edge_free h (.inr rfl)]
  refine Chan.follow_inside (hrev.trans h.forward) (by change c.count + -1 ≤ (c.keepPast tick).eh; omega) ?_
  change (c.keepPast tick).eh - ((c.keepPast tick).cfg.hyst : Int) ≤ c.count + -1
  rw [hcfg]
  omega

section
variable {s : State} {k : Fin 8} {b : List (Fin 4)}

theorem exec_encoderEdge_uncounted (h : (s.chan k).cfg.ssi = true ∨ s.sys.held = true) : exec (.encoderEdge k b) s =
    .next (s.setChan k { s.chan k with lines := filterPair (s.chan k).cfg.filtN (s.chan k).lines b }) := by
  change execEncoderEdge k b s = _
  unfold execEncoderEdge
  exact if_pos (by simpa using h)

variable (hssi : (s.chan k).cfg.ssi = false) (hheld : s.sys.held = false) (hlines : (s.chan k).lines = 0)
include hssi hheld hlines

/-- A step of one line counts, by the sense of the step (R291). -/
theorem exec_encoderEdge_counts {now : Nat} {d : Int} (hstep : quadStep 0 now = some d) (hd : d ≠ 0) (hinv : (s.chan k).cfg.invert = false)
    (hnow : filterPair (s.chan k).cfg.filtN 0 b = now) : exec (.encoderEdge k b) s =
      .next (s.setChan k (({ s.chan k with lines := now } : Chan).edge d s.tick)) := by
  change execEncoderEdge k b s = _
  unfold execEncoderEdge
  simp only [hssi, hlines, hnow, hstep]
  rw [if_neg (by simp [hheld]), if_neg hd, if_neg (by simp [hinv]), State.modChan, State.chan_setChan, State.setChan_setChan]
  rfl

/-- A change of both lines is a transition error (R291, R292). -/
theorem exec_encoderEdge_error (hboth : filterPair (s.chan k).cfg.filtN 0 b = 3) :
    exec (.encoderEdge k b) s = .next ((s.setChan k { s.chan k with lines := 3 }).chanError k 0) := by
  have hstep : quadStep 0 3 = none := by decide
  change execEncoderEdge k b s = _
  unfold execEncoderEdge
  simp only [hssi, hlines, hboth, hstep]
  exact if_neg (by simp [hheld])

end

theorem Chan.free_lines {c : Chan} (h : c.Free) (n : Nat) : ({ c with lines := n } : Chan).Free :=
  ⟨h.wrap, h.corr, h.setAt, h.forward, h.atEh, h.low, h.high, h.hyst⟩

/-- The first error of a channel is counted and reported (R292). -/
theorem State.chanError_first {s : State} {k : Nat} (hfault : (s.chan k).fault = false) (hnone : (s.chan k).errAt = []) (cause : Nat) :
    ∃ args, s.chanError k cause = (s.setChan k { s.chan k with
      trans := satAdd 16 (s.chan k).trans 1, errAt := [(s.chan k).edges], clean := 0 }).raise 0x0A01 k args := by
  unfold State.chanError
  simp only [hnone]
  rw [if_neg (by simp [hfault])]
  exact ⟨_, rfl⟩

@[simp] theorem State.chan_raise (s : State) (code unit : Nat) (args : List Byte) (k : Nat) : (s.raise code unit args).chan k = s.chan k := by
  obtain ⟨o, g, m, w, e, h⟩ := s.raise_eq code unit args
  rw [h]
  rfl

/-! SSI frames (R300, R301). -/

theorem exec_ssiFrameDone_none {s : State} {k : Fin 8} (h : (s.chan k).ssiFrame = none) (data : Nat) (p e l : Bool) :
    exec (.ssiFrameDone k data p e l) s = .next s := by
  change execSsiFrameDone k data p e l s = _
  simp only [execSsiFrameDone, h]

/-- A frame without parity, error bit and Gray code whose line was high at its start is good. -/
theorem EncCfg.ssiCause_plain {c : EncCfg} (h : c.ssiFmt = 0) (data : Nat) : c.ssiCause data false false false = 0 := by
  have hbits : bit 0 1 = false ∧ bit 0 2 = false := by decide
  obtain ⟨h1, h2⟩ := hbits
  simp [EncCfg.ssiCause, h, h1, h2]

theorem exec_ssiFrameDone_plain {s : State} {k : Fin 8} {data start : Nat} (hframe : (s.chan k).ssiFrame = some start)
    (hdone : (s.chan k).cfg.ssiSampledBy start s.tick = true) (hfmt : (s.chan k).cfg.ssiFmt = 0) (hfits : data < 2 ^ (s.chan k).cfg.ssiBits) :
    exec (.ssiFrameDone k data false false false) s =
      .next (s.setChan k (({ s.chan k with ssiFrame := none } : Chan).frame data start s.tick)) := by
  have hgray : bit 0 0 = false := by decide
  change execSsiFrameDone k data false false false s = _
  simp only [execSsiFrameDone, hframe]
  rw [if_neg (by simp [hdone]), Nat.mod_eq_of_lt hfits, EncCfg.ssiCause_plain hfmt, if_neg (by simp), hfmt, hgray, State.modChan,
    State.chan_setChan, State.setChan_setChan]
  rfl

/-- A channel at an absolute count (R301). -/
def Chan.absolute (x : Chan) (v start : Nat) : Chan :=
  { x with count := v, posValid := true, ssiPrev := 0, ssiLast := some v, lastEdge := some (start, v) }

/-- The first good frame after a configuration gives the absolute count. -/
theorem Chan.frame_first {c : Chan} (hset : c.setAt = none) (hwrap : c.cfg.wrap = false) (hfirst : c.ssiLast = none) (v start tick : Nat) :
    c.frame v start tick = ((({ c with edges := c.edges + 1, clean := c.clean + 1 } : Chan).keepPast tick).absolute v start).follow := by
  simp only [Chan.frame, Chan.absolute, hfirst, hset, hwrap, reduceCtorEq, if_false, Bool.false_eq_true]

theorem Chan.frame_first_count {c : Chan} (hset : c.setAt = none) (hrev : c.reverse = false) (hwrap : c.cfg.wrap = false)
    (hfirst : c.ssiLast = none) {v : Nat} (heh : c.eh ≤ v) (start tick : Nat) : (c.frame v start tick).count = v ∧
      (c.frame v start tick).eh = v ∧ (c.frame v start tick).posValid = true ∧ (c.frame v start tick).ssiLast = some v := by
  obtain ⟨-, -, hrev', heh', -⟩ := Chan.keepPast_frame { c with edges := c.edges + 1, clean := c.clean + 1 } tick
  rw [Chan.frame_first hset hwrap hfirst, Chan.follow_forward (c := Chan.absolute _ v start) (hrev'.trans hrev) (heh'.le.trans heh)]
  exact ⟨rfl, rfl, rfl, rfl⟩

/-! The index (R297). -/

theorem exec_indexPulse_first {s : State} {k : Fin 8} {b : List Bool} (hen : (s.chan k).cfg.indexEn = true) (hheld : s.sys.held = false)
    (harm : (s.chan k).setArmed = none) (hrev : (s.chan k).cfg.linesRev ≠ 0) (href : (s.chan k).iRef = none)
    (hidx : (s.chan k).isIndex (filterLine (s.chan k).cfg.filtN (s.chan k).z b) = true) : exec (.indexPulse k b) s =
      .next (s.setChan k { s.chan k with
        z := filterLine (s.chan k).cfg.filtN (s.chan k).z b, indexes := wrapAdd 16 (s.chan k).indexes 1, iRef := some (s.chan k).count }) := by
  change execIndexPulse k b s = _
  unfold execIndexPulse
  simp only []
  rw [if_neg (by simp [hen, hidx, hheld])]
  simp only [State.chan_setChan, harm]
  rw [if_neg hrev, href]
  simp only [State.modChan, State.chan_setChan, State.setChan_setChan]

/-- An index is a change of the filtered Z. -/
theorem Chan.isIndex_changes {c : Chan} {z : Bool} (h : c.isIndex z = true) : z = !c.z := by
  have hne : (c.z != z) = true := (Bool.and_eq_true_iff.mp h).1
  revert hne
  cases c.z <;> cases z <;> simp

/-! Probes (R303, R309). -/

theorem exec_probeLatch_rise {s : State} {p : Fin 4} {b : List Bool} (harmed : (s.probe p).armed = true) (hlow : (s.probe p).level = false)
    (hedge : (s.probe p).edge = 0) (hstill : (s.chan (s.probe p).chan).changedAt = none) (hrole : s.twn.role = .alone) :
    exec (.probeLatch p (true :: true :: b)) s =
      .next ((s.setProbe p { s.probe p with level := true, armed := false, deadline := none }).complete (s.probe p).cmd Status.ok
        (leInt 6 (s.chan (s.probe p).chan).count ++ [b2n (s.chan (s.probe p).chan).posValid + 2, 0] ++ leBytes 8 s.tim.past)) := by
  have hbefore : (s.chan (s.probe p).chan).countBefore s.tick = (s.chan (s.probe p).chan).count := by simp [Chan.countBefore, hstill]
  change execProbeLatch p (true :: true :: b) s = _
  unfold execProbeLatch
  simp only [filterLine_two]
  rw [if_neg (by simp [hlow]), if_pos (by simp [harmed, Probe.wants, hedge])]
  have hchan : (s.setProbe p { s.probe p with level := true }).chan (s.probe p).chan = s.chan (s.probe p).chan := rfl
  have hmod : (s.setProbe p { s.probe p with level := true }).modProbe p (fun x => { x with armed := false, deadline := none }) =
      s.setProbe p { s.probe p with level := true, armed := false, deadline := none } := by
    simp only [State.modProbe, State.probe_setProbe, State.setProbe_setProbe]
  rw [hchan, hmod, if_neg (by simp [hrole]), State.setProbe_tick, hbefore]
  rfl

theorem exec_probeTimeout {s : State} {p : Fin 4} {d : Nat} (harmed : (s.probe p).armed = true) (hdl : (s.probe p).deadline = some d)
    (hlate : d ≤ s.tick) (hnone : s.probeArrives p = false) : exec (.probeTimeout p) s =
      .next ((s.setProbe p { s.probe p with armed := false, deadline := none }).complete (s.probe p).cmd Status.probeMissed []) := by
  change execProbeTimeout p s = _
  simp only [execProbeTimeout, hdl, harmed, hnone]
  exact if_pos (by simpa using hlate)

/-! Switch inputs (R306). -/

/-- Behind n + 1 equal samples of a new level the filter of two stands at the new level n times, and at the old one before. -/
theorem filterHistory_two_replicate (l : Bool) (n : Nat) :
    filterHistory 2 (!l) (List.replicate (n + 1) l) = List.replicate n l ++ [!l] := by
  induction n with
  | zero => simp [filterHistory, filterLine]
  | succ n ih =>
    rw [List.replicate_succ, List.replicate_succ, filterHistory, ← List.replicate_succ, ih, List.replicate_succ, filterLine_two]
    rfl

/-- A new level is taken once the filter of two has held it for the debounce time. -/
theorem debounceLine_new {l : Bool} {b : List Bool} (hb : ∀ x ∈ b, x = l) (hold : Nat) :
    debounceLine 2 hold (!l) b = if 2 + hold ≤ b.length then l else !l := by
  rw [List.eq_replicate_of_mem hb]
  generalize b.length = n
  rw [List.length_replicate]
  unfold debounceLine
  match n with
  | 0 => simp [filterHistory, filterLine]
  | 1 => simp [filterHistory, filterLine]; omega
  | n + 2 =>
    rw [filterHistory_two_replicate, List.replicate_succ, List.cons_append, filterLine]
    refine if_congr ?_ rfl rfl
    rw [← List.cons_append, ← List.replicate_succ]
    simp only [Bool.and_eq_true, decide_eq_true_eq, List.length_append, List.length_replicate, List.length_singleton]
    constructor
    · rintro ⟨hlen, hall⟩
      by_contra hlt
      have hmem : (!l) ∈ (List.replicate (n + 1) l ++ [!l]).take (hold + 1) := by
        rw [List.take_of_length_le (by simp; omega)]
        simp
      have := List.all_eq_true.mp hall _ hmem
      simp at this
    · intro hlen
      refine ⟨by omega, ?_⟩
      rw [List.take_append_of_le_length (by simp; omega), List.take_replicate]
      simp

end Sys2Proof.Machine

open Sys2Proof Sys2Proof.Machine

/-- Settles O38, clause by clause: each sample, frame or timeout does what its rule says to its own channel, probe, output or switch. -/
theorem channelsCountAndEventsArrive : Obligations.ChannelsCountAndEventsArrive := by
  unfold Obligations.ChannelsCountAndEventsArrive
  refine ⟨?count, ?error, fun s k b h => exec_encoderEdge_uncounted h, fun s k data p e l h => exec_ssiFrameDone_none h data p e l, ?ssi,
    ?clear, ?index, fun s p b harmed hlow hedge hstill hrole => exec_probeLatch_rise harmed hlow hedge hstill hrole,
    fun s p d harmed hdl hlate hnone => exec_probeTimeout harmed hdl hlate hnone, ?pulse, fun s w b => rfl, ?switch⟩
  case count =>
    intro s k b hssi hheld hlines hinv hwrap hcorr hset hrev heh hlow hhigh hhyst
    have hfree : (s.chan k).Free := ⟨hwrap, hcorr, hset, hrev, heh, hlow, hhigh, hhyst⟩
    refine ⟨fun hnow => ?_, fun hnow => ?_⟩
    · have hexec := exec_encoderEdge_counts hssi hheld hlines (by decide : quadStep 0 1 = some 1) (by decide) hinv hnow
      rw [Chan.edge_forward (Chan.free_lines hfree 1)] at hexec
      obtain ⟨-, -, hrev', -, hlines'⟩ := Chan.keepPast_frame { s.chan k with lines := 1 } s.tick
      refine ⟨_, hexec, rfl, ?_, ?_, ?_, ?_, ?_, fun l hl => State.chan_setChan_ne s (fun h => hl (Fin.ext h)) _⟩
      · rw [State.chan_setChan]
        rfl
      · rw [State.chan_setChan]
      · rw [State.chan_setChan]
        exact hlines'
      · rw [State.chan_setChan]
        rfl
      · rw [State.chan_setChan]
        exact hrev'.trans hrev
    · have hexec := exec_encoderEdge_counts hssi hheld hlines (by decide : quadStep 0 2 = some (-1)) (by decide) hinv hnow
      rw [Chan.edge_backward (Chan.free_lines hfree 2)] at hexec
      obtain ⟨-, -, hrev', heh', hlines'⟩ := Chan.keepPast_frame { s.chan k with lines := 2 } s.tick
      refine ⟨_, hexec, rfl, ?_, ?_, ?_, ?_, fun l hl => State.chan_setChan_ne s (fun h => hl (Fin.ext h)) _⟩
      · rw [State.chan_setChan]
        rfl
      · rw [State.chan_setChan]
        exact heh'.trans heh.symm
      · rw [State.chan_setChan]
        exact hlines'
      · rw [State.chan_setChan]
        exact hrev'.trans hrev
  case error =>
    intro s k b hssi hheld hlines hfault hnone hboth
    obtain ⟨args, herr⟩ := State.chanError_first (s := s.setChan k { s.chan k with lines := 3 }) (k := k) (by simpa using hfault)
      (by simpa using hnone) 0
    have hexec := exec_encoderEdge_error hssi hheld hlines hboth
    rw [herr, State.chan_setChan, State.setChan_setChan] at hexec
    refine ⟨_, hexec, ?_, ?_, ?_, ?_, ?_, ?_, fun q hq => ?_⟩
    · obtain ⟨o, g, m, w, e, h⟩ := State.raise_eq (s.setChan k { s.chan k with
        lines := 3, trans := satAdd 16 (s.chan k).trans 1, errAt := [(s.chan k).edges], clean := 0 }) 0x0A01 k args
      rw [h]
      rfl
    · rw [State.chan_raise, State.chan_setChan]
    · rw [State.chan_raise, State.chan_setChan]
    · rw [State.chan_raise, State.chan_setChan]
    · rw [State.chan_raise, State.chan_setChan]
      rfl
    · rw [State.chan_raise, State.chan_setChan]
      exact hfault
    · rw [State.chan_raise, State.chan_setChan_ne s (fun h => hq (Fin.ext h))]
  case ssi =>
    intro s k data start hframe hdone hset hrev heh hfmt hwrap hfirst hfits
    obtain ⟨hcount, heh', hvalid, hlast⟩ := Chan.frame_first_count (c := { s.chan k with ssiFrame := none }) hset hrev hwrap hfirst heh start s.tick
    refine ⟨_, exec_ssiFrameDone_plain hframe hdone hfmt hfits, rfl, ?_, ?_, ?_, ?_,
      fun l hl => State.chan_setChan_ne s (fun h => hl (Fin.ext h)) _⟩
    all_goals rw [State.chan_setChan]
    · exact hcount
    · exact heh'
    · exact hvalid
    · exact hlast
  case clear =>
    intro s k hfault hauto hclean
    exact if_pos ⟨hfault, hauto, hclean⟩
  case index =>
    intro s k b hen hheld harm hrev href hidx
    refine ⟨_, exec_indexPulse_first hen hheld harm hrev href hidx, rfl, ?_, ?_, ?_, ?_,
      fun q hq => State.chan_setChan_ne s (fun h => hq (Fin.ext h)) _⟩
    all_goals rw [State.chan_setChan]
    exact Chan.isIndex_changes hidx
  case pulse =>
    intro s o a b hpulse hle
    change execComparePulseEnd o s = _
    simp only [execComparePulseEnd, hpulse]
    exact if_pos hle
  case switch =>
    intro s w l b hlevel hall
    have hexec : exec (.switchChange w b) s =
        .next (s.modSwitchIn w (fun x => { x with level := if 2 + (s.switchCtl w).1 ≤ b.length then l else !l })) := by
      change Host.Outcome.next (s.setSwitchIn w { s.switchIn w with level := debounceLine 2 (s.switchCtl w).1 (s.switchIn w).level b }) = _
      rw [hlevel, debounceLine_new hall]
      rfl
    refine ⟨fun hshort => ?_, fun hlong => ?_⟩
    · rw [hexec, if_neg (by omega)]
    · rw [hexec, if_pos hlong]
end

section
/-! CLE_LOOP while a page prints (R329): a disabled loop that is configured to feed the permit is refused a configuration that feeds it no more. -/
namespace Sys2Proof.Machine

theorem exec_cleLoop_atOnce {s : State} {r : Fin 4} {c : Cmd} (h : s.atOnce r 0x0B01 c = true) :
    exec (.cleLoop r) s = .next (settle c.id (effCleLoop { c with host := .ok [] } (s.begun r c (.ok [])))) := by
  rw [← startCommand_atOnce h]
  rfl

/-- While a page is PRINTING a loop of the permit keeps feeding it (R329), whether it is enabled or not. -/
theorem effCleLoop_denied {c : Cmd} {s : State} (hloop : u8 c.packet 8 < 48) (hflags : u8 c.packet 9 < 16) (hok : (parseLoop c.packet).ok = true)
    (hload : s.loadWith (u8 c.packet 8) (parseLoop c.packet) (s.loop (u8 c.packet 8)).secsComing.length ≤ 1024)
    (hfree : s.targetTaken (u8 c.packet 8) (parseLoop c.packet) = false) (hprint : s.anyPrinting = true)
    (hold : (s.loop (u8 c.packet 8)).cfgComing.permit = true) (hnew : (parseLoop c.packet).permit = false) :
    effCleLoop c s = finish s Status.denied := by
  unfold effCleLoop
  simp only []
  rw [if_neg (by simp [hok]; omega), if_neg (Nat.not_lt.mpr hload), if_neg (by simp [hfree]), if_pos ⟨hprint, hold, .inr (.inl hnew)⟩]

/-- CLE_LOOP of loop 0, disabled and without the permit, fetched from ring pair 0. -/
def disableLoop : Cmd := { id := 1, ring := 0, packet := leBytes 2 0x0B01 ++ zeros 62 }

/-- The device runs alone. Loop 0 has a section, is disabled and is configured to feed the permit; a page is PRINTING; CLE_LOOP waits. -/
def printingWithPermitLoop : State :=
  let s := { State.reset with
    sys := { State.reset.sys with held := false, memTrained := 15, memGib := 4, memDone := true, pllLock := 15, railsOk := 1023 }
    hif := { State.reset.hif with
      ready := true, fwAuth := true, linkDown := false, rings := Table.set {} {} 0 { enable := true }, inflight := [disableLoop], nextId := 2 }
    twn := { State.reset.twn with role := .alone } }
  (s.modLoop 0 (fun l => { l with
    cfg := { l.cfg with permit := true }, secs := [{ b0 := 1, b1 := 0, b2 := 0, a1 := 0, a2 := 0, sh := 0 }] })).modCtx 1 (fun x => { x with
      state := .printing })

theorem printingWithPermitLoop_answer : exec (.cleLoop 0) printingWithPermitLoop =
    .next ((printingWithPermitLoop.begun 0 disableLoop (.ok [])).complete 1 Status.denied []) := by
  rw [exec_cleLoop_atOnce (c := disableLoop) (by decide +kernel), effCleLoop_denied (by decide +kernel) (by decide +kernel)
    (by decide +kernel) (by decide +kernel) (by decide +kernel) (by decide +kernel) (by decide +kernel) (by decide +kernel)]
  rfl

end Sys2Proof.Machine

open Sys2Proof Sys2Proof.Machine

/-- Refutes O39: its first clause lets every CLE_LOOP of a loop whose coming configuration is disabled wait for its boundary. In
`printingWithPermitLoop` loop 0 is disabled with PERMIT set and a page is PRINTING, so that a configuration without PERMIT completes with
DENIED (R329) and no change waits. -/
theorem not_loopsChangeAndRun : ¬ Obligations.LoopsChangeAndRun := by
  unfold Obligations.LoopsChangeAndRun
  rintro ⟨hclause, -⟩
  have hwaits := hclause printingWithPermitLoop 0 disableLoop (by decide +kernel) (by decide +kernel) (by decide +kernel)
    (by decide +kernel) (by decide +kernel) (by decide +kernel) (by decide +kernel) (by decide +kernel)
  have hstates := Host.Outcome.next.inj (printingWithPermitLoop_answer.symm.trans hwaits)
  have hchanges : 0 = 1 := congrArg (fun t : State => (t.loop 0).changes.length) hstates
  exact absurd hchanges (by decide)
end

section
/-! The commands of the time block at once: ports, domains, adjustments, the selection of the primary and queries (R361, R364 to R368). -/
namespace Sys2Proof.Machine

theorem exec_timPort_atOnce {s : State} {r : Fin 4} {c : Cmd} (h : s.atOnce r 0x0D01 c = true) :
    exec (.timPort r) s = .next (settle c.id (effTimPort { c with host := .ok [] } (s.begun r c (.ok [])))) := by
  rw [← startCommand_atOnce h]
  rfl

theorem exec_timDomain_atOnce {s : State} {r : Fin 4} {c : Cmd} (h : s.atOnce r 0x0D02 c = true) :
    exec (.timDomain r) s = .next (settle c.id (effTimDomain { c with host := .ok [] } (s.begun r c (.ok [])))) := by
  rw [← startCommand_atOnce h]
  rfl

theorem exec_timAdjust_atOnce {s : State} {r : Fin 4} {c : Cmd} (h : s.atOnce r 0x0D03 c = true) :
    exec (.timAdjust r) s = .next (settle c.id (effTimAdjust { c with host := .ok [] } (s.begun r c (.ok [])))) := by
  rw [← startCommand_atOnce h]
  rfl

theorem exec_timSelect_atOnce {s : State} {r : Fin 4} {c : Cmd} (h : s.atOnce r 0x0D04 c = true) :
    exec (.timSelect r) s = .next (settle c.id (effTimSelect { c with host := .ok [] } (s.begun r c (.ok [])))) := by
  rw [← startCommand_atOnce h]
  rfl

theorem exec_timQuery_atOnce {s : State} {r : Fin 4} {c : Cmd} (h : s.atOnce r 0x0D05 c = true) :
    exec (.timQuery r) s = .next (settle c.id (effTimQuery { c with host := .ok [] } (s.begun r c (.ok [])))) := by
  rw [← startCommand_atOnce h]
  rfl

theorem inRange_eq_true {lo hi x : Int} (hlo : lo ≤ x) (hhi : x ≤ hi) : inRange lo hi x = true := by
  simp [inRange, hlo, hhi]

/-- Flags without bit 3 leave the two profiles that exclude each other unset (R365). -/
theorem effTimPort_waits {c : Cmd} {s : State} (hport : u8 c.packet 8 ≤ 1) (hmode : u8 c.packet 9 ≤ 2) (hflags : u8 c.packet 10 < 8)
    (hlow : -7 ≤ i8 c.packet 11) (hhigh : i8 c.packet 11 ≤ 5) :
    effTimPort c s = good (s.modPtpPort (u8 c.packet 8) (fun x => { x with cfgNext := some ⟨parsePort c.packet, s.tick⟩ })) := by
  have hmode' : (parsePort c.packet).mode ≤ 2 := hmode
  have hflags' : (parsePort c.packet).flags < 8 := hflags
  have hbit : bit (parsePort c.packet).flags 3 = false := by
    unfold bit
    simp
    omega
  have hpdelay : inRange (-7) 5 (parsePort c.packet).logPdelay = true := inRange_eq_true hlow hhigh
  unfold effTimPort
  simp only []
  rw [if_neg (by simp [hbit, hpdelay]; omega)]

theorem effTimDomain_waits {c : Cmd} {s : State} (hinst : u8 c.packet 8 ≤ 1) (hok : (parseDomain c.packet).ok = true)
    (hother : (parseDomain c.packet).mode = 2 → (s.inst (1 - u8 c.packet 8)).cfgComing.mode = 2 →
      (parseDomain c.packet).domain ≠ (s.inst (1 - u8 c.packet 8)).cfgComing.domain) :
    effTimDomain c s = good (s.modInst (u8 c.packet 8) (fun i => { i with cfgNext := some ⟨parseDomain c.packet, s.tick⟩ })) := by
  unfold effTimDomain
  simp only []
  rw [if_neg (by simp [hok, hinst]), if_neg (fun ⟨hm, ho, hd⟩ => hother hm ho hd)]

theorem parseAdjust_step {p : List Byte} (hkind : u8 p 9 = 0) (hlow : 1 ≤ u32 p 28) (hhigh : u32 p 28 ≤ 500000)
    (hmin : -549755813 ≤ i32 p 24) (hmax : i32 p 24 ≤ 549755813) : parseAdjust p = some (.step (i64 p 16 * 65536)) := by
  have hrate : inRange (-maxRate) maxRate (i32 p 24) = true := inRange_eq_true hmin hmax
  unfold parseAdjust
  simp only []
  rw [if_neg (by simp [hrate]; omega), hkind]
  rfl

theorem effTimAdjust_waits {c : Cmd} {s : State} {a : TimeAdjust} (hparse : parseAdjust c.packet = some a) (hinst : u8 c.packet 8 ≤ 1)
    (hmanual : (s.inst (u8 c.packet 8)).state = .manual) :
    effTimAdjust c s = good (s.modInst (u8 c.packet 8) (fun i => { i with adjNext := i.adjNext ++ [⟨a, s.tick⟩] })) := by
  unfold effTimAdjust
  simp only [hparse]
  rw [if_neg (by simp [hmanual, hinst])]

/-- TIM_SELECT while no switch is under way, its cases in the order of R364. -/
theorem effTimSelect_idle {c : Cmd} {s : State} (hinst : u8 c.packet 8 ≤ 1) (hidle : s.switchBusy = false) :
    effTimSelect c s = if u8 c.packet 8 = s.tim.primary then good s
      else if (s.inst (u8 c.packet 8)).selectable then (s.modTim (fun t => { t with switchNext := some ⟨u8 c.packet 8, some c.id, s.tick⟩ }), .running)
      else finish s Status.domainUnlocked := by
  unfold effTimSelect
  simp only []
  rw [if_neg (Nat.not_lt.mpr hinst)]
  by_cases hprimary : u8 c.packet 8 = s.tim.primary
  · rw [if_pos ⟨hprimary, hidle⟩, if_pos hprimary]
  · rw [if_neg (fun h => hprimary h.1), if_neg hprimary, if_neg (by simp [hidle])]
    cases (s.inst (u8 c.packet 8)).selectable <;> rfl

end Sys2Proof.Machine
end

section
/-! What arrives on a port: frames that are no message, Syncs and Delay_Resps of the master (R355, R356, R359). -/
namespace Sys2Proof.Machine

variable {s : State} {p : Fin 2} {tap : Fin 24} {f : List Byte}

theorem exec_ptpRx_discards (hworks : (s.ptpPort p).works = true) (hnone : s.ptpMessage p f = none) :
    exec (.ptpSyncRx p tap f) s = .next (s.ptpDiscard p) ∧ exec (.ptpMessageRx p tap f) s = .next (s.ptpDiscard p) := by
  constructor
  · change execPtpSyncRx p tap f s = _
    simp [execPtpSyncRx, hworks, hnone]
  · change execPtpMessageRx p tap f s = _
    simp [execPtpMessageRx, hworks, hnone]

theorem exec_ptpSyncRx_message {n : Nat} {m : PtpMsg} (hworks : (s.ptpPort p).works = true) (hmsg : s.ptpMessage p f = some (n, m))
    (hkind : m.kind = 0) : exec (.ptpSyncRx p tap f) s = .next ((s.ptpAccept p).syncRx p n tap m) := by
  change execPtpSyncRx p tap f s = _
  simp [execPtpSyncRx, hworks, hmsg, hkind]

theorem exec_ptpMessageRx_message {n : Nat} {m : PtpMsg} (hworks : (s.ptpPort p).works = true) (hmsg : s.ptpMessage p f = some (n, m))
    (hkind : m.kind ≠ 0) : exec (.ptpMessageRx p tap f) s = .next ((s.ptpAccept p).messageRx p n tap m) := by
  change execPtpMessageRx p tap f s = _
  simp [execPtpMessageRx, hworks, hmsg, hkind]

theorem State.syncRx_oneStep {port n tap : Nat} {m : PtpMsg} (hmaster : (s.inst n).fromMaster port m = true) (hstep : m.twoStep = false) :
    s.syncRx port n tap m = s.setInst n ({ s.inst n with lastSync := s.tick }.takeSync port ((s.inst n).rxStamp (s.ptpPort port).cfg s.tick tap
      - 65536 * m.time - m.corr - psUnits (s.ptpPort port).cfg.asym) s.tick) := by
  simp [State.syncRx, hmaster, hstep]

theorem State.syncRx_twoStep {port n tap : Nat} {m : PtpMsg} (hmaster : (s.inst n).fromMaster port m = true) (hstep : m.twoStep = true) :
    s.syncRx port n tap m = s.setInst n { s.inst n with
      lastSync := s.tick
      syncWait := some { inst := n, seq := m.seq, source := m.source, stamp := (s.inst n).rxStamp (s.ptpPort port).cfg s.tick tap, corr := m.corr } } := by
  simp [State.syncRx, hmaster, hstep]

theorem State.messageRx_delayResp {port n tap : Nat} {m : PtpMsg} (hkind : m.kind = 9) (he2e : (s.ptpPort port).cfg.p2p = false) :
    s.messageRx port n tap m = s.delayRespRx port n m := by
  simp [State.messageRx, hkind, he2e]

theorem State.delayRespRx_measures {port n : Nat} {m : PtpMsg} {q : PtpWait} {gap : Int} (hreq : (s.ptpPort port).delayReq = some q)
    (hgap : (s.inst n).gap = some gap) (hinst : q.inst = n) (hseq : q.seq = m.seq) (hasker : m.asker = (s.inst n).identity port)
    (hmaster : (s.inst n).fromMaster port m = true) :
    s.delayRespRx port n m = (s.modPtpPort port (fun g => { g with delayReq := none })).measurePath port n (gap + 65536 * m.time - m.corr - q.stamp) := by
  simp only [State.delayRespRx, hreq, hgap]
  rw [if_pos ⟨hinst, hseq, hasker, hmaster⟩]

theorem State.ptpPort_ptpAccept (s : State) (port : Nat) :
    (s.ptpAccept port).ptpPort port = { s.ptpPort port with accepted := satAdd 16 (s.ptpPort port).accepted 1 } :=
  s.ptpPort_modPtpPort port _

end Sys2Proof.Machine
end

section
/-! Departures (R356, R357), a master's Sync timeout (R360), links that come up and the end of a switch (R363). -/
namespace Sys2Proof.Machine

/-- An event message that the port sends, in its form (R355 to R357), at the head of the transmit queue. -/
theorem exec_ptpTx_message {s : State} {p : Fin 2} {f : List Byte} {n : Nat} {m : PtpMsg} {t : Nat} {tap : Fin 24} {miss : Bool}
    (hmsg : s.ptpMessage p f = some (n, m)) (hsends : s.ptpSends p n m.kind = true) (hsrc : (s.ptpPort p).cfg.sourced f = true)
    (hform : m.twoStep = (!(s.ptpPort p).cfg.oneStep && (m.kind == 0 || m.kind == 3))) :
    exec (.ptpTx p f t tap miss) s = .next (if (s.ptpPort p).cfg.schedules m.kind && miss then
        s.modPtpPort p (fun x => { x with
          late := satAdd 16 x.late 1, again := x.again ++ [{ inst := n, frame := f, due := s.tick + s.resendAfter p n m.kind }] })
      else if (if (s.ptpPort p).cfg.schedules m.kind then (s.ptpPort p).cfg.departsAt s.tick t tap else decide (s.tick ≤ t)) = false then s
      else s.depart p n m f t tap) := by
  change execPtpTx p f t tap miss s = _
  unfold execPtpTx
  simp only [hmsg]
  rw [if_neg (by simp [hsends, hsrc, hform])]

/-- What a port schedules is sent in one step (R357). -/
theorem PortCfg.oneStep_of_schedules {g : PortCfg} {k : Nat} (h : g.schedules k = true) : g.oneStep = true := by
  simp only [PortCfg.schedules, Bool.and_eq_true] at h
  exact h.1

theorem State.raise_inst (s : State) (code unit : Nat) (args : List Byte) (n : Nat) : (s.raise code unit args).inst n = s.inst n := by
  simp only [State.inst, State.raise_tim]

theorem State.inst_loseMaster (s : State) (n cause : Nat) :
    (s.loseMaster n cause).inst n = { (s.inst n).putPort (s.inst n).slavePort (if cause = 2 then 1 else 4) with
      state := .holdover, lockRow := 0, gap := none, syncWait := none
      heardAt := modAt (fun _ => s.tick) (s.inst n).slavePort (s.inst n).heardAt } := by
  unfold State.loseMaster
  extract_lets i p s₁ s₂
  have hinst : s₂.inst n = s₁.inst n := by
    simp only [s₂]
    split <;> rfl
  rw [State.raise_inst, hinst]
  exact s.inst_setInst n _

theorem exec_ptpMasterLost_sync {s : State} {n : Fin 2} (hfollow : (s.inst n).following = true)
    (hdue : (s.inst n).lastSync + intervalTicks 3 (s.inst n).cfg.logSync ≤ s.tick) (hnone : s.ptpArrives n 1 = false) :
    exec (.ptpMasterLost n 1) s = .next (s.loseMaster n 1) := by
  have hlost : (s.inst n).masterLost 1 s.tick = true := decide_eq_true hdue
  change execPtpMasterLost n 1 s = _
  unfold execPtpMasterLost
  simp only []
  rw [if_pos hfollow, if_pos (by simp [hlost, hnone]), if_neg (by decide)]
  rfl

/-- The listening that a link's start brings leaves alone what does not use PTP (R360). -/
theorem exec_ethLinkUp_unused {s : State} {p : Fin 2} (hpll : bit s.sys.pllLock 3 = true) (h0 : (s.inst 0).uses p = false)
    (h1 : (s.inst 1).uses p = false) :
    exec (.ethLinkUp p) s = .next (((s.modPtpPort p (fun g => { g with linkUp := true })).setInst 0 (s.inst 0)).setInst 1 (s.inst 1)) := by
  have h0' : ((s.modPtpPort p (fun g => { g with linkUp := true })).inst 0).uses p = false := h0
  have h1' : (((s.modPtpPort p (fun g => { g with linkUp := true })).setInst 0 (s.inst 0)).inst 1).uses p = false := by
    rw [State.inst_setInst_ne _ (by decide)]
    exact h1
  change execEthLinkUp p s = _
  unfold execEthLinkUp
  extract_lets listen
  have hkeeps : ∀ i : Inst, i.uses p = false → listen i = i := fun i hi => by simp [listen, hi]
  rw [if_pos hpll, State.modInst, State.modInst, hkeeps _ h0']
  change Host.Outcome.next (State.setInst _ 1 (listen (((s.modPtpPort p (fun g => { g with linkUp := true })).setInst 0 (s.inst 0)).inst 1))) = _
  rw [hkeeps _ h1', State.inst_setInst_ne _ (by decide)]
  rfl

theorem State.inst_restored (s : State) (n : Nat) : ((s.setInst 0 (s.inst 0)).setInst 1 (s.inst 1)).inst n = s.inst n := by
  by_cases h1 : n = 1
  · rw [h1, State.inst_setInst]
  · rw [State.inst_setInst_ne _ h1]
    by_cases h0 : n = 0
    · rw [h0, State.inst_setInst]
    · rw [State.inst_setInst_ne _ h0]

theorem State.ptpPort_setInst (s : State) (i : Nat) (v : Inst) (port : Nat) : (s.setInst i v).ptpPort port = s.ptpPort port := rfl

theorem State.setPtpPort_setInst_frame (s : State) (port : Nat) (g : TPort) (v w : Inst) :
    ((s.setPtpPort port g).setInst 0 v).setInst 1 w = { s with tim := (((s.setPtpPort port g).setInst 0 v).setInst 1 w).tim } := rfl

/-- A link that comes up is up, whatever the instances that do not use it make of it (R360). -/
theorem exec_ethLinkUp_up {s : State} {p : Fin 2} (hpll : bit s.sys.pllLock 3 = true) (h0 : (s.inst 0).cfg.mode ≠ 2)
    (h1 : (s.inst 1).cfg.mode ≠ 2) : ∃ t, exec (.ethLinkUp p) s = .next t ∧ t = { s with tim := t.tim } ∧ (t.ptpPort p).linkUp = true ∧
      (∀ n, t.inst n = s.inst n) ∧ (∀ q : Fin 2, q ≠ p → t.ptpPort q = s.ptpPort q) := by
  have huses : ∀ n, (s.inst n).cfg.mode ≠ 2 → (s.inst n).uses p = false := fun n hn => by simp [Inst.uses, hn]
  refine ⟨_, exec_ethLinkUp_unused hpll (huses 0 h0) (huses 1 h1), s.setPtpPort_setInst_frame .., ?_, fun n => ?_, fun q hq => ?_⟩
  · rw [State.ptpPort_setInst, State.ptpPort_setInst, State.ptpPort_modPtpPort]
  · exact State.inst_restored _ n
  · rw [State.ptpPort_setInst, State.ptpPort_setInst]
    exact s.ptpPort_setPtpPort_ne (fun h => hq (Fin.ext h)) _

theorem exec_switchSlewDone_ends {s : State} {id : Nat} (hswitch : s.tim.switching = true) (hzero : s.residueAt s.tick = 0)
    (hcmd : s.tim.switchCmd = some id) :
    exec .switchSlewDone s = .next ((s.modTim (fun t => { t with switching := false, residue := 0, switchCmd := none })).complete id Status.ok []) := by
  change execSwitchSlewDone s = _
  unfold execSwitchSlewDone State.endSwitch
  rw [if_pos ⟨hswitch, hzero⟩]
  simp only [State.modTim_tim, hcmd]
  rfl

end Sys2Proof.Machine
end

open Sys2Proof Sys2Proof.Machine

/-- Settles O42: the commands by their effects, frames by what their message does to its clock, a departure by its one form that the
port accepts, and the losses and links by what they leave of the instances and ports. -/
theorem timeIsConfiguredAndPtpRuns : Obligations.TimeIsConfiguredAndPtpRuns := by
  unfold Obligations.TimeIsConfiguredAndPtpRuns
  refine ⟨?_, ?_, ?_, ?_, ?_, ?_, ?_, ?_, ?_, ?_, ?_, ?_, ?_, ?_⟩
  · intro s r c h hport hmode hflags hlow hhigh
    rw [exec_timPort_atOnce h, effTimPort_waits (c := { c with host := .ok [] }) (s := s.begun r c (.ok [])) hport hmode hflags hlow hhigh]
    rfl
  · intro s r c h hinst hok hother
    rw [exec_timDomain_atOnce h, effTimDomain_waits (c := { c with host := .ok [] }) (s := s.begun r c (.ok [])) hinst hok hother]
    rfl
  · intro s r c h hinst hkind hmanual hlow hhigh hmin hmax
    rw [exec_timAdjust_atOnce h, effTimAdjust_waits (c := { c with host := .ok [] }) (s := s.begun r c (.ok []))
      (parseAdjust_step hkind hlow hhigh hmin hmax) hinst hmanual]
    rfl
  · intro s r c h hinst hidle
    rw [exec_timSelect_atOnce h, effTimSelect_idle (c := { c with host := .ok [] }) (s := s.begun r c (.ok [])) hinst hidle]
    simp only [State.begun_tim]
    change Host.Outcome.next (settle c.id (if _ then _ else if (s.inst (u8 c.packet 8)).selectable = true then _ else _)) = _
    split
    · rfl
    · split <;> rfl
  · intro s r c h hinst
    rw [exec_timQuery_atOnce h]
    have hanswer : effTimQuery { c with host := .ok [] } (s.begun r c (.ok [])) = answer (s.begun r c (.ok [])) (s.timResults (u8 c.packet 8)) :=
      if_neg (Nat.not_lt.mpr hinst)
    rw [hanswer, settle_answer]
  · intro s p tap f hworks hnone
    exact exec_ptpRx_discards hworks hnone
  · rintro s u p tap f n m gap hworks hmsg hkind hmaster hstep rfl rfl
    rw [exec_ptpSyncRx_message hworks hmsg hkind, State.syncRx_oneStep (s := s.ptpAccept p) hmaster hstep, State.ptpPort_ptpAccept]
    rfl
  · rintro s u p tap f n m hworks hmsg hkind hmaster hstep rfl
    rw [exec_ptpSyncRx_message hworks hmsg hkind, State.syncRx_twoStep (s := s.ptpAccept p) hmaster hstep, State.ptpPort_ptpAccept]
    rfl
  · rintro s u p tap f n m q gap hworks hmsg hkind he2e hreq hgap hinst hseq hasker hmaster rfl
    have hport := s.ptpPort_ptpAccept p
    rw [exec_ptpMessageRx_message hworks hmsg (by omega), State.messageRx_delayResp hkind (by rw [hport]; exact he2e),
      State.delayRespRx_measures (s := s.ptpAccept p) (by rw [hport]; exact hreq) hgap hinst hseq hasker hmaster]
    rfl
  · rintro s u p f n m t tap miss x hmsg hsends hsrc hform hwhen rfl rfl
    have hnot : ((s.ptpPort p).cfg.schedules m.kind && miss) = false := by
      rcases hwhen with ⟨hfree, -⟩ | ⟨-, hmiss, -⟩ <;> simp [*]
    have hleaves : (if (s.ptpPort p).cfg.schedules m.kind then (s.ptpPort p).cfg.departsAt s.tick t tap else decide (s.tick ≤ t)) = true := by
      rcases hwhen with ⟨hfree, hlate⟩ | ⟨hplans, -, hfrom, hto⟩
      · simp [hfree, hlate]
      · simp only [hplans, if_true, PortCfg.departsAt, hfrom, hto, decide_true, Bool.and_self]
    rw [exec_ptpTx_message hmsg hsends hsrc hform, hnot, hleaves]
    rfl
  · intro s p f n m t tap hmsg hsends hsrc hstep hplans
    rw [exec_ptpTx_message hmsg hsends hsrc (by rw [hstep, PortCfg.oneStep_of_schedules hplans]; rfl), hplans]
    rfl
  · intro s n hfollow hdue hnone
    obtain ⟨hframe, hports⟩ := s.loseMaster_timeOnly n 1
    have hinst := s.inst_loseMaster n 1
    exact ⟨_, exec_ptpMasterLost_sync hfollow hdue hnone, hframe, by rw [hinst], by rw [hinst], by rw [hinst]; rfl, by rw [hinst]; rfl, hports⟩
  · intro s p hpll h0 h1
    exact exec_ethLinkUp_up hpll h0 h1
  · intro s id hswitch hzero hcmd
    exact exec_switchSlewDone_ends hswitch hzero hcmd

section
/-! The commands of the twin block at once (R394 to R397). -/
namespace Sys2Proof.Machine

theorem exec_twnConfig_atOnce {s : State} {r : Fin 4} {c : Cmd} (h : s.atOnce r 0x0E01 c = true) :
    exec (.twnConfig r) s = .next (settle c.id (effTwnConfig { c with host := .ok [] } (s.begun r c (.ok [])))) := by
  rw [← startCommand_atOnce h]
  rfl

theorem exec_twnHandover_atOnce {s : State} {r : Fin 4} {c : Cmd} (h : s.atOnce r 0x0E02 c = true) :
    exec (.twnHandover r) s = .next (settle c.id (effTwnHandover { c with host := .ok [] } (s.begun r c (.ok [])))) := by
  rw [← startCommand_atOnce h]
  rfl

theorem exec_twnProofTest_atOnce {s : State} {r : Fin 4} {c : Cmd} (h : s.atOnce r 0x0E03 c = true) :
    exec (.twnProofTest r) s = .next (settle c.id (effTwnProofTest { c with host := .ok [] } (s.begun r c (.ok [])))) := by
  rw [← startCommand_atOnce h]
  rfl

theorem exec_twnQuery_atOnce {s : State} {r : Fin 4} {c : Cmd} (h : s.atOnce r 0x0E04 c = true) :
    exec (.twnQuery r) s = .next (settle c.id (effTwnQuery { c with host := .ok [] } (s.begun r c (.ok [])))) := by
  rw [← startCommand_atOnce h]
  rfl

/-- MODE 0xFF keeps the role; of the flags NO_REVERT alone is set (R395). -/
theorem effTwnConfig_keepsRole {c : Cmd} {s : State} (hmode : u8 c.packet 8 = 0xFF) (hflags : u8 c.packet 9 = 2) (hpreset : u8 c.packet 10 ≤ 10) :
    effTwnConfig c s = good (s.modTwn (fun t => { t with txPreset := u8 c.packet 10, noRevert := true })) := by
  have hrole : ∀ t : State, t.configRole 0xFF false = none := fun t => by simp [State.configRole]
  have h0 : bit 2 0 = false := rfl
  have h1 : bit 2 1 = true := rfl
  have h2 : bit 2 2 = false := rfl
  have h3 : bit 2 3 = false := rfl
  have h4 : bit 2 4 = false := rfl
  unfold effTwnConfig
  simp only [hmode, hflags, h0, h1, h2, h3, h4, hrole]
  rw [if_neg (by simp; omega), if_neg (by simp), if_neg (by simp), if_neg (by simp)]
  simp

theorem State.hasShadow_eq_true {s : State} (hpartner : s.twn.partner = 2) (hheard : s.twn.absent = false) : s.hasShadow = true := by
  simp [State.hasShadow, hpartner, hheard]

theorem effTwnHandover_atCycle {c : Cmd} {s : State} (hwhen : u8 c.packet 8 = 1) (hlead : s.twn.role = .lead) (hshadow : s.hasShadow = true)
    (hfit : s.partnerFit = true) (hnone : s.twn.exchange = none) :
    effTwnHandover c s = ((s.modTwn (fun t => { t with exchange := some { h := s.cycleAhead, cause := 3, cmd := some c.id } })).sendTwin
      (.handover s.cycleAhead), .running) := by
  simp [effTwnHandover, State.decideExchange, hwhen, hlead, hshadow, hfit, hnone]

/-- The tests run in bit order from the lowest that is selected (R394). -/
theorem effTwnProofTest_starts {c : Cmd} {s : State} (hmask : u8 c.packet 8 = 8) (hlead : s.twn.role = .lead) (hshadow : s.hasShadow = true)
    (hfit : s.partnerFit = true) (hnone : s.twn.proof = none) :
    effTwnProofTest c s = (s.modTwn (fun t => { t with
      proof := some { cmd := c.id, tests := 8, test := 3, count := 0, tapLost := false, startLine := s.fir.lastLine.getD 0 } }), .running) := by
  have hnext : nextTest 8 0 = some 3 := by decide
  have hbit : bit 8 4 = false := rfl
  simp [effTwnProofTest, State.proofGo, hmask, hlead, hshadow, hfit, hnone, hnext, hbit]

end Sys2Proof.Machine
end

section
/-! Taps (R377, R378). -/
namespace Sys2Proof.Machine

variable {s : State}

theorem State.spoils_of_noProof (h : s.twn.proof = none) (k : Nat) : s.spoils k = false := by
  simp [State.spoils, h]

theorem State.tapPeriod_of_noProof (h : s.twn.proof = none) (k : Nat) : s.tapPeriod k = s := by
  simp [State.tapPeriod, h]

theorem State.sendTwin_of_linkOff (h : s.twn.link = .off) (r : TwinRec) : s.sendTwin r = s := by
  simp [State.sendTwin, h]

theorem State.sendTap_of_linkOff (h : s.twn.link = .off) :
    s.sendTap false false = (s.emit (.tapPin s.tapWord)).modTwn (fun t => { t with tapSeq := wrapAdd 8 t.tapSeq 1 }) := by
  have hemit : (s.emit (.tapPin (spoilTap false s.tapWord))).twn.link = .off := h
  unfold State.sendTap
  simp only []
  rw [State.sendTwin_of_linkOff hemit]
  rfl

theorem exec_tapSend_sends (hrun : s.running = true) (hauth : s.hif.fwAuth = true) (himage : s.sys.imageRun ≠ 2)
    (hdue : s.pairTick % 2000 = 0) (hfirst : s.twn.lastTap ≠ some s.pairTick) (hrole : s.twn.role = .alone) (hproof : s.twn.proof = none)
    (hlink : s.twn.link = .off) : exec .tapSend s =
      .next ((s.emit (.tapPin s.tapWord)).modTwn (fun t => { t with tapSeq := wrapAdd 8 t.tapSeq 1, lastTap := some s.pairTick })) := by
  have hrole' : ((s.emit (.tapPin s.tapWord)).modTwn (fun t => { t with tapSeq := wrapAdd 8 t.tapSeq 1 })).twn.role ≠ .shadow := by
    change s.twn.role ≠ .shadow
    simp [hrole]
  change execTapSend s = _
  unfold execTapSend
  simp only []
  rw [if_neg (by simp [hrun, hauth, himage, hdue, hfirst]), State.spoils_of_noProof hproof, State.spoils_of_noProof hproof,
    State.tapPeriod_of_noProof hproof, State.tapPeriod_of_noProof hproof, State.sendTap_of_linkOff hlink, if_neg hrole']
  rfl

theorem exec_tapReceived_bad {w : BitVec 32} (hrun : s.running = true) (hauth : s.hif.fwAuth = true)
    (hbad : tapCrc (w.toNat % 2 ^ 24) ≠ w.toNat / 2 ^ 24) : exec (.tapReceived true w) s =
      .next (s.modTwn (fun t => { t with badTaps := min (2 ^ 16 - 1) (t.badTaps + 1), pin := { t.pin with row := 0 } })) := by
  change execTapReceived true w s = _
  unfold execTapReceived
  simp only []
  rw [if_neg (by simp [hrun, hauth]), if_pos hbad]
  rfl

/-- What a valid tap says of the partner, with no proof test at work and of a device that is not the lead (R376, R377). -/
theorem State.notePartner_alone (w : Nat) (hproof : s.twn.proof = none) (hrole : s.twn.role = .alone) :
    s.TwinOnly (s.notePartner w) ∧ (s.notePartner w).twn.partner = w % 8 ∧ (s.notePartner w).twn.pin = s.twn.pin ∧
      (s.notePartner w).twn.role = .alone ∧ (s.notePartner w).twn.permit = s.twn.permit := by
  unfold State.notePartner
  simp only []
  rw [if_neg (by simp [hproof])]
  exact ⟨rfl, rfl, rfl, hrole, rfl⟩

/-- A valid tap on a path that runs restarts its time (R378). -/
theorem State.tapHeard_pin (hok : s.twn.pin.ok = true) : s.tapHeard true =
    s.modTwn (fun t => { t with pin := { t.pin with lastTap := some s.tick, ok := true, row := 0 }, absent := false }) := by
  have hpath : (s.path true).ok = true := hok
  unfold State.tapHeard
  simp only [hpath]
  rw [if_neg (by simp)]
  simp [State.markAbsent, State.modPath, State.modTwn, hok]

theorem State.tapRole_alone (h : s.twn.role = .alone) (w : Nat) : s.tapRole w = s := by
  simp [State.tapRole, h]

theorem exec_tapReceived_alone {w : BitVec 32} (hrun : s.running = true) (hauth : s.hif.fwAuth = true)
    (hgood : tapCrc (w.toNat % 2 ^ 24) = w.toNat / 2 ^ 24) (hrole : s.twn.role = .alone) (hproof : s.twn.proof = none) (hok : s.twn.pin.ok = true) :
    exec (.tapReceived true w) s = .next ((s.notePartner w.toNat).modTwn (fun t => { t with
      pin := { t.pin with lastTap := some (s.notePartner w.toNat).tick, ok := true, row := 0 }, absent := false })) := by
  obtain ⟨-, -, hpin, hrole', -⟩ := State.notePartner_alone w.toNat hproof hrole
  change execTapReceived true w s = _
  unfold execTapReceived
  simp only []
  rw [if_neg (by simp [hrun, hauth]), if_neg (not_not.mpr hgood), State.tapHeard_pin (by rw [hpin]; exact hok), State.tapRole_alone (by exact hrole'),
    ite_self]

theorem exec_tapPathLost_pin {x : Nat} (hrun : s.running = true) (hok : s.twn.pin.ok = true) (hlast : s.twn.pin.lastTap = some x)
    (hdue : x + 6000 ≤ s.tick) (hother : s.twn.inband.ok = true) (hnone : s.tapArrives (fun q _ => q == true) = false) :
    ∃ t, exec (.tapPathLost true) s = .next t ∧ s.TwinOnly t ∧ t.twn.pin.ok = false ∧ t.twn.inband = s.twn.inband ∧ t.twn.absent = false ∧
      t.twn.role = s.twn.role := by
  let u := (s.modPath true (fun p => { p with ok := false, row := 0 })).reportPath true true (s.tick - x)
  have htwn : u.twn = { s.twn with pin := { s.twn.pin with ok := false, row := 0 } } := State.raise_twn ..
  have hframe : s.TwinOnly u := State.TwinOnly.trans (t := s.modPath true (fun p => { p with ok := false, row := 0 })) rfl (State.raise_twinOnly ..)
  have hpresent : u.markAbsent.twn.absent = false := by
    change (!(u.twn.inband.ok || u.twn.pin.ok)) = false
    rw [htwn]
    simp [hother]
  refine ⟨u.markAbsent, ?_, hframe.trans (u.modTwn_twinOnly _), ?_, ?_, hpresent, ?_⟩
  · have hpath : (s.path true).lastTap = some x := hlast
    have hpathOk : (s.path true).ok = true := hok
    change execTapPathLost true s = _
    unfold execTapPathLost
    simp only [hpath, hnone]
    rw [if_neg (by simp [hrun, hpathOk]; omega)]
    exact congrArg Host.Outcome.next (if_neg (Bool.eq_false_iff.mp hpresent))
  · exact congrArg (fun t : Twn => t.pin.ok) htwn
  · exact (congrArg Twn.inband htwn : u.twn.inband = _)
  · exact (congrArg Twn.role htwn : u.twn.role = _)

end Sys2Proof.Machine
end

section
/-! The Chezatin link's block lock and rise (R179, R187, R372, R373). -/
namespace Sys2Proof.Machine

theorem Twn.allLocked_iff (t : Twn) : t.allLocked = true ↔ ∀ j : Fin 4, (t.locks.get {} j.val).locked = true := by
  simp [Twn.allLocked, Fin.forall_fin_succ]

theorem BlockLock.header_run {b : BlockLock} (hopen : b.locked = false) :
    b.header true = if b.run + 1 = 64 then { locked := true } else { b with run := b.run + 1 } := by
  simp [BlockLock.header, hopen]

/-- The sixteenth invalid header among the latest 64 takes the lock (R179). -/
theorem BlockLock.header_loses {b : BlockLock} (hlocked : b.locked = true) (hbad : 15 ≤ ((b.win.take 63).filter (· == false)).length) :
    b.header false = { locked := false } := by
  have hwin : (false :: b.win).take 64 = false :: b.win.take 63 := rfl
  have hcount : 16 ≤ ((false :: b.win.take 63).filter (· == false)).length := by
    rw [List.filter_cons_of_pos (by rfl), List.length_cons]
    omega
  unfold BlockLock.header
  simp only [hlocked, hwin]
  rw [if_neg (by simp), if_pos hcount]

/-- A header on a lane after which another state of its lock stands, and the link's state with it. -/
theorem Twn.header_eq (t : Twn) (k : Nat) (v : Bool) : t.header k v = { t with
    locks := t.locks.set {} k ((t.locks.get {} k).header v)
    link := if ({ t with locks := t.locks.set {} k ((t.locks.get {} k).header v) } : Twn).allLocked then (if t.link = .train then .align else t.link)
      else .train } := rfl

/-- While a lane is open the four are not locked. -/
theorem Twn.allLocked_of_open {t : Twn} {k : Fin 4} {b : BlockLock} (h : b.locked = false) :
    ({ t with locks := t.locks.set {} k.val b } : Twn).allLocked = false := by
  rw [Bool.eq_false_iff]
  intro hall
  have hk := (Twn.allLocked_iff _).mp hall k
  simp [h] at hk

theorem Twn.allLocked_of_last {t : Twn} {k : Fin 4} (hrest : ∀ j : Fin 4, j ≠ k → (t.locks.get {} j.val).locked = true) {b : BlockLock}
    (h : b.locked = true) : ({ t with locks := t.locks.set {} k.val b } : Twn).allLocked = true := by
  rw [Twn.allLocked_iff]
  intro j
  by_cases hj : j = k
  · rw [hj]
    simp [h]
  · rw [Table.get_set_ne _ _ (fun hv => hj (Fin.ext hv))]
    exact hrest j hj

/-- The headers that the last open lane lacks lock it, and take the link from TRAIN to ALIGN (R179, R373). -/
theorem Twn.headers_lock_last (k : Fin 4) (n : Nat) (t : Twn) (htrain : t.link = .train)
    (hrest : ∀ j : Fin 4, j ≠ k → (t.locks.get {} j.val).locked = true) (hopen : (t.locks.get {} k.val).locked = false)
    (hrun : (t.locks.get {} k.val).run + n = 64) (hpos : 0 < n) :
    (List.replicate n true).foldl (Twn.header k.val) t = { t with locks := t.locks.set {} k.val { locked := true }, link := .align } := by
  induction n generalizing t with
  | zero => omega
  | succ n ih =>
    rw [List.replicate_succ, List.foldl_cons, Twn.header_eq, BlockLock.header_run hopen]
    by_cases hlast : n = 0
    · subst hlast
      rw [if_pos hrun, Twn.allLocked_of_last hrest rfl, htrain]
      rfl
    · have hmore : (t.locks.get {} k.val).run + 1 ≠ 64 := by omega
      rw [if_neg hmore, Twn.allLocked_of_open (b := { t.locks.get {} k.val with run := (t.locks.get {} k.val).run + 1 }) hopen, ih _ rfl]
      · simp
      · intro j hj
        rw [Table.get_set_ne _ _ (fun hv => hj (Fin.ext hv))]
        exact hrest j hj
      · simp [hopen]
      · simp
        omega
      · omega

/-- A lane that loses its lock takes the link back to TRAIN (R179, R373). -/
theorem Twn.header_loses {t : Twn} {k : Fin 4} (hlocked : (t.locks.get {} k.val).locked = true)
    (hbad : 15 ≤ (((t.locks.get {} k.val).win.take 63).filter (· == false)).length) :
    t.header k.val false = { t with locks := t.locks.set {} k.val { locked := false }, link := .train } := by
  rw [Twn.header_eq, BlockLock.header_loses hlocked hbad, Twn.allLocked_of_open rfl]
  rfl

theorem exec_chezatinBlockLock_on {s : State} (k : Fin 4) (headers : List Bool) (hon : s.twn.link ≠ .off) :
    exec (.chezatinBlockLock k headers) s = .next { s with twn := headers.foldl (Twn.header k.val) s.twn } := by
  change execChezatinBlockLock k headers s = _
  unfold execChezatinBlockLock
  rw [if_neg hon]
  rfl

theorem exec_chezatinLinkUp_up {s : State} {ams : List (List Byte × Nat)} {lanes : List Nat} {turns : List (Nat × Nat)} {o : Int} {p : Fin 24}
    (halign : s.twn.link = .align) (hlocked : s.twn.allLocked = true) (hrole : s.twn.role ≠ .shadow) (hlanes : deskewed ams = some lanes)
    (hdelays : 16 ≤ (turns.foldl takeDelay []).length) : exec (.chezatinLinkUp ams turns o p) s =
      .next (s.modTwn (fun t => { t with
        link := .up, delays := turns.foldl takeDelay [], laneMap := lanes, linkOffTicks := o, linkOffTaps := p })) := by
  change execChezatinLinkUp ams turns o p s = _
  unfold execChezatinLinkUp
  simp only [hlanes]
  rw [if_neg (by simp [halign, hlocked]; omega), if_neg (fun h => hrole h.1)]

end Sys2Proof.Machine
end

section
/-! The election (R376). -/
namespace Sys2Proof.Machine

/-- A healthy device becomes LEAD, whatever proof test it runs; the role is told, and of the rest only the twin block changes (R375). -/
theorem State.setRole_lead_frame {s : State} (hhealthy : s.twn.healthy = true) (cause : Nat) :
    s.TwinOnly (s.setRole .lead cause) ∧ (s.setRole .lead cause).twn = s.twn.withRole .lead s.tick := by
  unfold State.setRole
  extract_lets old level driven s₁ s₂ s₃ s₄ s₅
  have h₁ : s₁ = s := if_pos (.inl rfl)
  obtain ⟨f₂, t₂⟩ := s.dropExchange_twinOnly .lead
  have h₂ : s₂ = s.dropExchange .lead := congrArg (State.dropExchange · .lead) h₁
  have t₃ : s₃.twn = s.twn.withRole .lead s.tick := by
    simp only [s₃, State.modTwn_twn, h₂, t₂, f₂.tick]
    rfl
  obtain ⟨f₄, t₄⟩ := s₃.tellRole_twinOnly level
  obtain ⟨f₅, t₅⟩ := (s₃.tellRole level).switchPulses_twinOnly driven
  have t₆ : s₅.twn = s.twn.withRole .lead s.tick := (s₄.raise_twn ..).trans (t₅.trans (t₄.trans t₃))
  have hfit : ¬ (Role.lead = .lead ∧ s₅.twn.healthy = false) := by
    rw [t₆, Twn.withRole_of_ne_alone _ (by simp), hhealthy]
    simp
  rw [if_neg hfit]
  refine ⟨?_, t₆⟩
  exact (h₂ ▸ f₂ : s.TwinOnly s₂).trans ((s₂.modTwn_twinOnly _).trans (f₄.trans (f₅.trans (s₄.raise_twinOnly ..))))

theorem exec_electionTimeout_leads {s : State} {x : Nat} (hauth : s.sys.fwAuthAt = some x) (helect : s.twn.role = .elect) (hrun : s.running = true)
    (himage : s.sys.imageRun ≠ 2) (hpref : s.pref = true) (hdue : x + 60000000 ≤ s.tick) (hunheard : s.twn.heardFit = false)
    (hnone : s.tapArrives (fun _ w => w % 8 == 1 || bit w 3) = false) : exec .electionTimeout s =
      .next ((s.modTwn (fun t => { t with epoch := match t.partnerEpoch with | some e => wrapAdd 8 e 1 | none => 1 })).setRole .lead 0) := by
  have hwindow : s.electionWindow = 60000000 := if_pos hpref
  change execElectionTimeout s = _
  unfold execElectionTimeout
  simp only [hauth]
  rw [if_pos hpref, hunheard, hnone, hwindow]
  exact if_neg (by simp [helect, hrun, himage]; omega)

end Sys2Proof.Machine
end

open Sys2Proof Sys2Proof.Machine

/-- Settles O44: the commands by their effects, taps and the link by the one branch their rules leave, a run of headers by induction on
those that the lane still lacks, and the election by the change of role. -/
theorem twinCommandsTapsAndLink : Obligations.TwinCommandsTapsAndLink := by
  unfold Obligations.TwinCommandsTapsAndLink
  refine ⟨?_, ?_, ?_, ?_, ?_, ?_, ?_, ?_, ?_, ?_, ?_, ?_⟩
  · intro s r c h hmode hflags hpreset
    rw [exec_twnConfig_atOnce h, effTwnConfig_keepsRole (c := { c with host := .ok [] }) (s := s.begun r c (.ok [])) hmode hflags hpreset]
    rfl
  · intro s r c h hwhen hlead hpartner hheard hfit hnone _
    rw [exec_twnHandover_atOnce h, effTwnHandover_atCycle (c := { c with host := .ok [] }) (s := s.begun r c (.ok [])) hwhen hlead
      (State.hasShadow_eq_true hpartner hheard) hfit hnone]
    rfl
  · intro s r c h hmask hlead hpartner hheard hfit hnone
    rw [exec_twnProofTest_atOnce h, effTwnProofTest_starts (c := { c with host := .ok [] }) (s := s.begun r c (.ok [])) hmask hlead
      (State.hasShadow_eq_true hpartner hheard) hfit hnone]
    rfl
  · intro s r c h
    rw [exec_twnQuery_atOnce h]
    rfl
  · intro s hrun hauth himage hdue hfirst hrole hproof hlink
    exact exec_tapSend_sends hrun hauth himage hdue hfirst hrole hproof hlink
  · intro s w hrun hauth hbad
    exact exec_tapReceived_bad hrun hauth hbad
  · intro s w hrun hauth hgood hrole hproof hok
    obtain ⟨hframe, hpartner, -, hrole', hpermit⟩ := State.notePartner_alone w.toNat hproof hrole
    exact ⟨_, exec_tapReceived_alone hrun hauth hgood hrole hproof hok, hframe.trans (State.modTwn_twinOnly _ _), hpartner,
      congrArg some hframe.tick, rfl, rfl, hrole', hpermit⟩
  · intro s x hrun hok hlast hdue hother hnone
    exact exec_tapPathLost_pin hrun hok hlast hdue hother hnone
  · intro s k n htrain hrest hopen hcount hpos
    rw [exec_chezatinBlockLock_on k _ (by simp [htrain]), Twn.headers_lock_last k n s.twn htrain hrest hopen hcount hpos]
    rfl
  · intro s k hon hlocked hbad
    rw [exec_chezatinBlockLock_on k _ hon, List.foldl_cons, List.foldl_nil, Twn.header_loses hlocked hbad]
    rfl
  · intro s ams lanes turns o p halign hlocked hrole hlanes hdelays
    exact exec_chezatinLinkUp_up halign hlocked hrole hlanes hdelays
  · intro s x hauth helect hrun himage hpref hdue hunheard hnone hhealthy
    obtain ⟨hframe, htwn⟩ := State.setRole_lead_frame
      (s := s.modTwn (fun t => { t with epoch := match t.partnerEpoch with | some e => wrapAdd 8 e 1 | none => 1 })) hhealthy 0
    rw [Twn.withRole_of_ne_alone _ (by simp)] at htwn
    exact ⟨_, exec_electionTimeout_leads hauth helect hrun himage hpref hdue hunheard hnone, (s.modTwn_twinOnly _).trans hframe,
      congrArg Twn.role htwn, congrArg Twn.epoch htwn, (congrArg Twn.permit htwn).trans rfl⟩
